-- ==== Sys2Proof/Word.lean ====
section
/-! DEFINITION. The word types of the module (R3, R4): bytes, 32-bit register words, 64-bit values. -/

namespace Sys2Proof

/-- One byte. -/
abbrev Byte := BitVec 8

/-- A 32-bit register word (R4). -/
abbrev Word := BitVec 32

/-- A 64-bit value: a slot value, a word accumulator, a tick number, TAI nanoseconds. -/
abbrev DWord := BitVec 64

end Sys2Proof
end

