-- ==== Sys2Proof/Machine/Bits.lean ====
section
/-! DEFINITION. Bit fields of register words (R2), signed readings, and little- and big-endian byte strings
(R3). -/

namespace Sys2Proof.Machine

/-- The mask of bits [hi:lo] of a word (R2). -/
def fieldMask (hi lo : Nat) : Word := BitVec.ofNat 32 ((2 ^ (hi + 1 - lo) - 1) <<< lo)

/-- Bits [hi:lo] of a word as a number (R2). -/
def getBits (w : Word) (hi lo : Nat) : Nat := (w.toNat >>> lo) % 2 ^ (hi + 1 - lo)

/-- The word with bits [hi:lo] replaced by the low bits of `v` (R2). -/
def setBits (w : Word) (hi lo v : Nat) : Word :=
  (w &&& ~~~ fieldMask hi lo) ||| (BitVec.ofNat 32 (v <<< lo) &&& fieldMask hi lo)

/-- Bit `i` of a word. -/
def bit (w : Word) (i : Nat) : Bool := w.getLsbD i

/-- A number of `n` bits read as two's complement. -/
def signed (n v : Nat) : Int := if 2 ^ n ≤ 2 * v then (v : Int) - 2 ^ n else v

/-- Byte `i` (0 lowest) of a number. -/
def byteOf (v i : Nat) : Byte := BitVec.ofNat 8 (v >>> (8 * i))

/-- `n` bytes of a number, least significant first (R3). -/
def leBytes : Nat → Nat → List Byte
  | 0, _ => []
  | n + 1, v => BitVec.ofNat 8 v :: leBytes n (v / 256)

/-- `n` bytes of a number, most significant first (R3). -/
def beBytes (n v : Nat) : List Byte := (leBytes n v).reverse

/-- The number of a little-endian byte string (R3). -/
def leVal : List Byte → Nat
  | [] => 0
  | b :: bs => b.toNat + 256 * leVal bs

/-- The number of a big-endian byte string (R3). -/
def beVal (bs : List Byte) : Nat := leVal bs.reverse

/-- `n` bytes from offset `o`, read big-endian; bytes past the end read 0. -/
def beAt (bs : List Byte) (o n : Nat) : Nat :=
  beVal ((bs.drop o).take n ++ List.replicate (n - ((bs.drop o).take n).length) 0)

/-- Bytes `o` to `o + n − 1` of a byte string. -/
def slice (bs : List Byte) (o n : Nat) : List Byte := (bs.drop o).take n

/-- `n` bytes from offset `o`, read little-endian. -/
def leAt (bs : List Byte) (o n : Nat) : Nat := leVal ((bs.drop o).take n)

/-- One byte at offset `o`. -/
def u8At (bs : List Byte) (o : Nat) : Nat := ((bs.drop o).headD 0).toNat

/-- Count up by `n`, holding at `top`. -/
def countUp (top v n : Nat) : Nat := min top (v + n)

/-- Clamp into [lo, hi] (R355). -/
def clamp (lo hi v : Nat) : Nat := if v < lo then lo else if hi < v then hi else v

/-- Clamp a signed number into [-b, b]. -/
def clampAbs (b v : Int) : Int := if v < -b then -b else if b < v then b else v

/-- The signed difference of two 64-bit numbers (R17). -/
def sdiff (a b : DWord) : Int := (a - b).toInt

/-- Division of integers rounding toward minus infinity (R102). -/
def floorDiv (a : Int) (d : Nat) : Int := a / (d : Int)

/-- Rounding a ratio to the nearest integer, ties away from zero (R284). -/
def roundAway (a : Int) (d : Nat) : Int :=
  if d = 0 then 0 else
  let q := (2 * a.natAbs + d) / (2 * d)
  if a < 0 then -(q : Int) else q

/-- A 64-bit number of an integer, wrapping. -/
def wrap64 (a : Int) : DWord := BitVec.ofInt 64 a

/-- Members of a list of naturals in rising order without repeats: insert one. -/
def insertSorted (x : Nat) : List Nat → List Nat
  | [] => [x]
  | y :: ys => if x = y then y :: ys else if x < y then x :: y :: ys else y :: insertSorted x ys

/-- One for true, zero for false. -/
def b2n (b : Bool) : Nat := if b then 1 else 0

end Sys2Proof.Machine
end

