-- ==== Sys2Proof/Machine/Check.lean ====
section
/-! DEFINITION. The three check codes of R354: computed without reflection, each input byte most significant
bit first, the register shifting toward its most significant bit. -/

namespace Sys2Proof.Machine

/-- One input bit of an unreflected CRC with polynomial `poly` (R354). -/
def crcBit {n : Nat} (poly : BitVec n) (r : BitVec n) (b : Bool) : BitVec n :=
  if r.msb = b then r <<< 1 else (r <<< 1) ^^^ poly

/-- One input byte, most significant bit first (R354). -/
def crcByte {n : Nat} (poly : BitVec n) (r : BitVec n) (x : Byte) : BitVec n :=
  [7, 6, 5, 4, 3, 2, 1, 0].foldl (fun a i => crcBit poly a (x.getLsbD i)) r

/-- A byte string taken into the register from a given value (R354, R255). -/
def crcFrom {n : Nat} (poly r : BitVec n) (bs : List Byte) : BitVec n := bs.foldl (crcByte poly) r

/-- CRC-16: HCHK and the digital link check (R354). -/
def crc16 (bs : List Byte) : BitVec 16 := crcFrom 0x1021 0xFFFF bs

/-- The polynomial of the CRC-32 (R354). -/
def crc32Poly : Word := 0x04C11DB7

/-- CRC-32: CCHK and the Strait, journal, recorder, marker and section checks (R354). -/
def crc32 (bs : List Byte) : Word := ~~~ crcFrom crc32Poly 0xFFFFFFFF bs

/-- The polynomial of the CRC-64 (R72, R354). -/
def crc64Poly : DWord := 0x42F0E1EBA9EA3693

/-- CRC-64: the checkpoint signature and the commit digest (R72, R155). -/
def crc64From (r : DWord) (bs : List Byte) : DWord := crcFrom crc64Poly r bs

/-- CRC-64 from all ones (R354). -/
def crc64 (bs : List Byte) : DWord := crc64From 0xFFFFFFFFFFFFFFFF bs

end Sys2Proof.Machine
end

