-- ==== Sys2Proof/Machine/Wire.lean ====
section
/-! DEFINITION. The Strait message as bytes (R149, R150): header, payload fields, CRC-32, and the test by which a receiver
discards one. -/

namespace Sys2Proof.Machine

/-- The numbers of bytes that the payload fields of a message take, by TYPE and SUB, in the order of R150 (log entry 131):
each the smallest whole number that holds it; the 12 bytes of the CARD preamble are those of R154. FWD_WRITE and the arm of
LOADER end with the host command behind them (R210): session, SEQ, opcode, key slot, arguments. -/
def payloadWidths (type sub : Nat) : List Nat :=
  match type, sub with
  | 1, _ => [1, 1, 1, 3, 4, 1]
  | 2, _ => [2, 2, 8]
  | 3, 1 => [1, 1]
  | 3, _ => [8, 1]
  | 4, 4 => [4]
  | 5, _ => [1, 2, 2, 4, 8, 4, 4, 1, 1]
  | 6, 2 => [1]
  | 6, 3 => [8, 4, 4, 1, 1]
  | 6, 4 => [1]
  | 7, _ => [1, 1]
  | 8, 1 => [4, 1]
  | 9, _ => [8]
  | 10, _ => [1, 2, 1]
  | _, _ => []

/-- A payload: its fields, most significant byte first (R3), then what is bytes already. -/
def straitPayload (type sub : Nat) (vals : List Nat) (bytes : List Byte) : List Byte :=
  ((payloadWidths type sub).zip vals).flatMap (fun e => beBytes e.1 e.2) ++ bytes

/-- The 20 header bytes of a message (R149). -/
def straitHeader (type sub len : Nat) (crown : Word) (tick : DWord) (seq : Nat) : List Byte :=
  beBytes 1 type ++ beBytes 1 sub ++ beBytes 2 len ++ beBytes 4 crown.toNat ++ beBytes 8 tick.toNat ++ beBytes 2 seq ++
    [0, 0]

/-- Bytes followed by their CRC-32 (R149). -/
def withCrc32 (bs : List Byte) : List Byte := bs ++ beBytes 4 (crc32 bs).toNat

/-- A message: header, payload, CRC-32 over both (R149). -/
def straitMessage (type sub : Nat) (crown : Word) (tick : DWord) (seq : Nat) (payload : List Byte) : List Byte :=
  withCrc32 (straitHeader type sub payload.length crown tick seq ++ payload)

/-- Whether a receiver takes a message: its CRC agrees, its LEN agrees with its length, its TYPE is one of R150. -/
def straitIntact (m : List Byte) : Bool :=
  decide (24 ≤ m.length) && beAt m 2 2 + 24 == m.length && decide (beAt m 2 2 ≤ 4096) &&
  decide (1 ≤ u8At m 0) && decide (u8At m 0 ≤ 10) && withCrc32 (m.take (m.length - 4)) == m

end Sys2Proof.Machine
end

