-- ==== Sys2Proof/Operand.lean ====
section
/-! DEFINITION. The operand structures of the commands: what frames, messages, datagrams, lines and
self-tests deliver from outside the module, and the pieces of state that a state copy carries. -/

namespace Sys2Proof

/-- Signal quality (R9). -/
inductive Quality where
  | good | substitute | stale | bad
deriving DecidableEq, Repr

/-- The code of a quality (R9). -/
def Quality.code : Quality → Nat
  | .good => 0 | .substitute => 1 | .stale => 2 | .bad => 3

/-- The quality of a 2-bit code (R9). -/
def Quality.ofCode (n : Nat) : Quality :=
  match n % 4 with
  | 0 => .good | 1 => .substitute | 2 => .stale | _ => .bad

/-- The quality derived from two: the numerically highest (R10). -/
def Quality.max (a b : Quality) : Quality := if a.code < b.code then b else a

/-- A 16-byte signal slot: value and quality (R52). -/
structure Slot where
  val : DWord
  q   : Quality
deriving DecidableEq, Repr

/-- Signal slots by number, in canonical form. -/
abbrev SlotMap := List (Nat × Slot)

/-- A sparse byte memory in canonical form. -/
abbrev Bytes := List (Nat × Byte)

/-- Who makes a register access: a session slot of the command processor or a transfer channel (R357), or
the panel and the module's own units. -/
inductive Requester where
  | session (slot : Nat) | channel (c : Nat) | unit
deriving DecidableEq, Repr

/-! ## Aidon task state -/

/-- The pending operation of a nesting-stack entry (R57, Nesting). -/
inductive NestOp where
  | and | andNot | or | orNot | xor
deriving DecidableEq, Repr

/-- An entry of the nesting stack (R49). -/
structure NestEntry where
  ba : Bool
  bq : Quality
  op : NestOp
deriving DecidableEq, Repr

/-- An entry of the loop stack: loop start and remaining count (R49). -/
structure LoopEntry where
  start : BitVec 19
  count : Nat
deriving DecidableEq, Repr

/-- The sticky flags (R49, R60). -/
structure Flags where
  ov : Bool
  dz : Bool
  fi : Bool
  fo : Bool
  fz : Bool
deriving DecidableEq, Repr

/-- The registers, stacks and flags a task sees (R49). PC has 18 bits; one more value, 262,144, stands for a place past
the last word, from which nothing can be fetched (R58; log entry 123). -/
structure TaskRegs where
  ba : Bool
  bq : Quality
  wa : DWord
  qa : Quality
  wb : DWord
  qb : Quality
  ix : Word
  pc : BitVec 19
  nest  : List NestEntry
  loops : List LoopEntry
  calls : List (BitVec 19)
  flags : Flags
deriving DecidableEq, Repr

/-- What an undo-log entry saves: a word of task data, of edge memory or of DRAM (R74). -/
inductive UndoPlace where
  | data (addr : Nat) | edge (addr : Nat) | dram (addr : Nat)
deriving DecidableEq, Repr

/-- An undo-log entry: the place of an 8-byte word and its old value (R74). -/
structure UndoEntry where
  place : UndoPlace
  old   : DWord
deriving DecidableEq, Repr

/-- Everything the module holds for one task beside its CORE_TASK_STATE register: the registers of the
activation, its charge, its staging list, its signature, what the checker saved, its data and edge memory. -/
structure TaskSt where
  regs    : TaskRegs
  /-- an activation is in progress -/
  active  : Bool
  /-- END was reached in this cycle, or the task counts as having reached it (R69, R76) -/
  ended   : Bool
  /-- start tick c of the current cycle -/
  cycle   : DWord
  /-- cycles charged to this activation against W (R45) -/
  charged : Nat
  /-- cycles of the instructions that led to this place (SY_CYCLES), and their count at the saved register state -/
  cycles  : Nat
  savedCycles : Nat
  /-- the bound was already reported in this activation (R45) -/
  boundHit : Bool
  /-- SY_FIRST of the next or current activation (R67) -/
  first   : Bool
  /-- staged outputs since the last checkpoint (R53) -/
  staging : List (Nat × Slot)
  /-- running signature (R72), and what each physical member's own signature differs from it by after upsets -/
  sig     : DWord
  syn     : List DWord
  /-- register state saved by the checker (R74) -/
  saved   : TaskRegs
  /-- undo log, newest first (R74) -/
  undo    : List UndoEntry
  /-- a 513th entry was needed (R76) -/
  undoFull : Bool
  /-- the segment is being re-executed (R75), and whether that is for a fault in one half (KIND 4) -/
  retry   : Bool
  retryFault : Bool
  /-- stopped by an unresolved mismatch: it starts again once the verdict self-test has passed (R76) -/
  unresolved : Bool
  data    : Bytes
  edges   : Bytes
deriving DecidableEq, Repr

/-- The state of one cycle class (R36 to R38, R46, R47) beside its registers. -/
structure ClassSt where
  /-- a cycle is in progress -/
  running  : Bool
  /-- start tick c of that cycle -/
  cycle    : DWord
  /-- this cycle was already counted as an overrun (R46) -/
  overrun  : Bool
  /-- skip count kept at the last publication (R47, SY_SKIPPED) -/
  skipped  : Nat
  /-- class input area (R37) -/
  input    : SlotMap
  /-- class output buffer (R38) -/
  buffer   : SlotMap
deriving DecidableEq, Repr

/-! ## Shaft engine state -/

/-- State of one virtual master (R106). -/
structure MasterSt where
  m : DWord
  v : DWord
  q : Quality
  emerg : Bool
  /-- a group stop asks for an emergency ramp from the next pass (R120) -/
  stopReq : Bool
  /-- external: the samples of the last ticks, newest first (at most two) -/
  samples : List DWord
deriving DecidableEq, Repr

/-- Axis modes (R109). -/
inductive AxisMode where
  | disengaged | geared | cammed | fault
deriving DecidableEq, Repr

/-- State of one axis (R109 to R120). -/
structure AxisSt where
  mode : AxisMode
  g : DWord
  r : Nat
  n : Int
  d : Nat
  trim : DWord
  markTrim : DWord
  offset : DWord
  /-- cam cycle base (R113) -/
  base : DWord
  /-- cam table in use (R114) -/
  cam : Nat
  /-- setpoint and feedforward last written -/
  s : DWord
  ff : DWord
  /-- setpoints of the last 16 application edges with their edge number, newest first (R117) -/
  hist : List (DWord × DWord)
  ferrCnt : Nat
  markCnt : DWord
  markSeen : Bool
  /-- an external group stop puts the axis in FAULT in the next pass (R120) -/
  groupStop : Bool
deriving DecidableEq, Repr

/-! ## Places of memory -/

/-- A word that can hold an uncorrectable error (R231): an addressed 64-bit word, a code word of a logical
core, a word of a task's data or edge memory, a slot of the images or of a class's areas. -/
inductive MemPlace where
  | addr (word : Nat)
  | code (core pc : Nat)
  | data (task word : Nat)
  | edge (task word : Nat)
  | inSlot (slot : Nat)
  | outSlot (slot : Nat)
  | clsIn (cls slot : Nat)
  | clsOut (cls slot : Nat)
deriving DecidableEq, Repr

/-- What faults of the memories did to a unit of the transfer engine: a byte of the channel's buffer failed its parity
(R240, R256), the DRAM device reported address parity on an access and again on its repeat (R231). -/
structure UnitUpset where
  buffer : Bool
  address : Bool
deriving DecidableEq, Repr

/-- What one spare-cycle scrub pass reports (R231, R236): corrected words of SRAM, DRAM and MRAM, and places
found uncorrectable with their address as MEM_UE_ADDR shows it. -/
structure ScrubFindings where
  correctedSram : Nat
  correctedDram : Nat
  correctedMram : Nat
  /-- addresses in Skerry SRAM whose parity failed -/
  skerryParity : List DWord
  uncorrectable : List MemPlace
deriving DecidableEq, Repr

/-! ## Edges, frames and messages -/

/-- What the module samples at and just after a tick edge: the presence line (R161), the partner's crown
lines (R159), the analogue straps read at a T1024 start (R278), terminal readings of the digital side are
delivered by uplink frames. -/
structure EdgeIn where
  /-- number of this edge by the time counter while no tick runs; ignored while ticks run (R11, R150) -/
  tickBefore : DWord
  present : Bool
  /-- the presence line as it stands at 61.0 µs of the tick that begins (R161, R340) -/
  presentLate : Bool
  cla : Bool
  clh : Bool
  straps : List Nat
  /-- the four CAN stamp counters as they stand at the edge (R301) -/
  canCounts : List DWord
deriving DecidableEq, Repr

/-- A cyclic frame as it returns to or passes through the module (R125, R130, R132, R140). -/
structure CyclicFrame where
  /-- receive port: false P(2k), true P(2k+1) -/
  oddPort : Bool
  /-- time of complete reception in ns from the edge -/
  retNs : Nat
  /-- its cells in order as they stand on the line, 250 bytes each; none for a cell that did not arrive -/
  cells : List (Option (List Byte))
  /-- stations whose block met a parity error in the port pipeline (R240) -/
  parityBad : List Nat
deriving DecidableEq, Repr

/-- The Strait message header fields the module acts on (R149). -/
structure StraitHdr where
  lane : Nat
  crown : Word
  tick : DWord
  seq : Nat
deriving DecidableEq, Repr

/-- STATUS payload (R150). -/
structure StatusPayload where
  state : Nat
  tampered : Bool
  inStep : Bool
  clean : Bool
  splitBusy : Bool
  verdictBusy : Bool
  copyBusy : Bool
  lanes : BitVec 8
  epoch : Nat
  imageSeq : Word
  loader : Nat
deriving DecidableEq, Repr

/-- COMMIT payloads (R150): SUB 1 completion, SUB 2 digest. -/
inductive CommitPayload where
  | completion (mask : BitVec 8) (t1Done feedLate : Bool)
  | digest (value : DWord) (clean cardingMiss : Bool)
deriving DecidableEq, Repr

/-- What a MAINT message reports (R150). -/
inductive MaintKind where
  | split | verdict | stateCopy
deriving DecidableEq, Repr

/-- The host command that a forwarded write or an arm comes from, for the partner's journal (R210). -/
structure FwdOrigin where
  session : Word
  seq : Word
  opcode : Nat
  keySlot : Nat
  args : List Byte
deriving DecidableEq, Repr

/-- The state that the bulk copy, its rounds and the final pages carry to a joiner (R170, bulk phase). -/
structure Snapshot where
  inImg : SlotMap
  outImg : SlotMap
  tasks : List (Nat × TaskSt)
  classes : List (Nat × ClassSt)
  masters : List (Nat × MasterSt)
  axes : List (Nat × AxisSt)
  retained : Bytes
  /-- the schedule bank in force (R130; log entry 139) -/
  bank : Bool
deriving DecidableEq, Repr

/-- What single-event upsets did to the physical members of a core while an instruction ran: what each member's
signature came to differ by, and the members that met another fault than the instruction itself gives, one where it
gives none or none where it gives one (R71, R73, R75, R88). -/
structure Upset where
  syn : List DWord
  odd : List Nat
deriving DecidableEq, Repr

/-- Masters and axes for which the two lanes of the shaft engine disagree (R104). -/
structure LaneFaults where
  masters : List Nat
  axes : List Nat
deriving DecidableEq, Repr

/-- An acyclic frame (R144, R145), received at P(2k + 1) or P(2k): its cells as they stand on the line; `stamp` is that
of its first FSP bit in 1/256 ns from the edge, before R183 corrects it. -/
structure AcycFrame where
  oddPort : Bool
  stamp : Nat
  cells : List (Option (List Byte))
deriving DecidableEq, Repr

/-- The RING_STAMPS reply of one station, each time in 1/256 ns (R186); `none` when it did not arrive. -/
structure StationStamps where
  station : Nat
  stamps : Option (Int × Int × Int × Int)
deriving DecidableEq, Repr

/-! ## Network and hosts -/

/-- The PTP event messages that a transparent clock forwards (R184). -/
inductive PtpKind where
  | sync | delayReq | pdelayReq | pdelayResp
deriving DecidableEq, Repr

/-- A PTP event message on a transparent-clock port (R184): stamps and the correction field in 1/256 ns. -/
structure PtpEvent where
  kind : PtpKind
  inPort : Nat
  outPort : Nat
  domain : Nat
  twoStep : Bool
  rx : Int
  tx : Int
  correction : Int
  followUp : Int
  linkDelay : Int
deriving DecidableEq, Repr

/-- The dataset of an Announce as the comparison of IEEE 1588-2019 clause 9.3.4 ranks it: `rank` is its
place, lower is better. -/
structure PtpDataset where
  rank : Nat
deriving DecidableEq, Repr

/-- An OPEN datagram (R195, R199): what its header and payload hold; `ns` is its arrival in TAI ns. -/
structure OpenMsg where
  ns : DWord
  seq : Word
  epoch : Nat
  keySlot : Nat
  nonce : List Byte
  ephemeral : List Byte
  signature : List Byte
deriving DecidableEq, Repr

/-- A COMMAND datagram (R195): the fields of its header, its payload as it stands in the datagram (enciphered, R196) and its
tag; `ns` is its arrival in TAI ns. -/
structure CmdMsg where
  ns : DWord
  session : Word
  seq : Word
  epoch : Nat
  flags : Nat
  opcode : Nat
  payload : List Byte
  tag : List Byte
deriving DecidableEq, Repr

/-! ## Field units -/

/-- The end of a precision integration (R262, R263): the result in 1/1000 of the trim unit before trim, the
midpoint, and whether the excitation or the output compliance failed. -/
structure Integration where
  raw : Int
  mid : DWord
  noCompliance : Bool
deriving DecidableEq, Repr

/-- What the calibration of a spare slice measured (R274): offset and gain error in 10⁻⁹ of full scale, skew in fs. -/
structure CalResult where
  offset : Int
  gain : Int
  skew : Int
deriving DecidableEq, Repr

/-- A HART reply (R282): whether its check is right, its response code, the field device status and the extended status
byte, PV to QV as binary32. -/
structure HartReply where
  checkOk : Bool
  response : Byte
  deviceStatus : Byte
  extendedStatus : Byte
  values : List Word
  /-- reply bytes when the transaction was a pass-through -/
  raw : List Byte
deriving DecidableEq, Repr

/-- An uplink frame of the digital link (R293); its diagnostics of overload are those of the field side. -/
structure UplinkFrame where
  /-- the CRC-16 at its end (R354) -/
  check : BitVec 16
  /-- time of arrival in ns after the last edge -/
  ns : Nat
  states : BitVec 32
  supply : BitVec 4
  diagBase : Nat
  /-- open-load bits of the four channels from `diagBase` -/
  openLoad : BitVec 4
deriving DecidableEq, Repr

/-- A CAN frame on a bus (R298, R299, R301). -/
structure CanFrame where
  /-- of a received frame, how much the receive error count rises because the frame is in error: 0 for a good one, 1 or 8
  by ISO 11898-1 (R297) -/
  errors : Nat
  ide : Bool
  id : BitVec 29
  remote : Bool
  fdf : Bool
  brs : Bool
  esi : Bool
  dlc : Nat
  data : List Byte
  stamp : DWord
deriving DecidableEq, Repr

/-- How a CAN transmission attempt ends (R300). -/
inductive TxResult where
  | success | lostArbitration | error
deriving DecidableEq, Repr

/-- The decided bits of a received character (R305). -/
structure RxChar where
  falseStart : Bool
  data : Byte
  parityError : Bool
  stopLow : Bool
  noise : Bool
deriving DecidableEq, Repr

/-- What a start-up step reads from outside: the slot straps and whether their parity is even, the cell and the parity of
Skerry's SRAM, the Skerry clock in units of 1/32,768 s (R174), whether MRAM delivers the epoch record and the active-bank record
sound, the fail-direction straps. -/
structure StartIn where
  /-- the straps SLOT0 to SLOT7 and STRAP_P, an open one 1 (R341) -/
  slot : Byte
  strapP : Bool
  cellLow : Bool
  skerryLost : Bool
  /-- where the SRAM of Skerry failed its parity, when it did (R330) -/
  skerryAt : DWord
  clock : DWord
  epochRecordOk : Bool
  activeRecordOk : Bool
  /-- core mode of the partner; the own mode when there is none (R87) -/
  partnerMode : Nat
  strapsAna : List Nat
deriving DecidableEq, Repr

/-- New N00 addresses set by the SERVICE menu (R335, R336). -/
structure SvcAddr where
  ip4 : Word
  pfx4 : Nat
  ip6 : BitVec 128
  pfx6 : Nat
deriving DecidableEq, Repr

end Sys2Proof
end

