-- ==== Sys2Proof/Syntax.lean ====
section
/-! DEFINITION. The commands of the module: one constructor per row of spec/opcode_table.json, in the order
of the families. Operands are what the command brings from outside (addresses, values, frames, messages). -/

namespace Sys2Proof

/-- The commands. Each constructor names its row and the rule the row cites. -/
inductive Instr where
  /-- TICK_EDGE (R26). -/
  | tickEdge (e : EdgeIn)
  /-- CYCLIC_FRAME (R132). -/
  | cyclicFrame (ring : Nat) (f : CyclicFrame)
  /-- LOCK (R127). -/
  | lock (ring : Nat) (port : Nat)
  /-- LOCK_LOSS (R128). -/
  | lockLoss (ring : Nat) (port : Nat)
  /-- RING_DEADLINE (R28). -/
  | ringDeadline
  /-- CARD (R153). -/
  | card (h : StraitHdr) (ring : Nat) (mask : DWord) (bytes : List Byte)
  /-- CARDING (R29). -/
  | carding
  /-- COMPUTE_WINDOW (R41). -/
  | computeWindow
  /-- SLICE_END (R41). -/
  | sliceEnd (core : Nat)
  /-- ENGINE_PASS (R103). -/
  | enginePass (laneFaults : LaneFaults)
  /-- COMPUTE_STOP (R48). -/
  | computeStop
  /-- OUTPUT_IMAGE_FREEZE (R38). -/
  | outputImageFreeze
  /-- RETAINED_FLUSH_DONE (R234). -/
  | retainedFlushDone
  /-- SWITCH_JUDGEMENT (R96). -/
  | switchJudgement
  /-- DIGEST_COMPARE (R155). -/
  | digestCompare
  /-- PARTNER_LOSS_CHECK (R161). -/
  | partnerLossCheck
  /-- CROWN_CHANGE (R31). -/
  | crownChange
  /-- HOOD_SWITCH (R98). -/
  | hoodSwitch
  /-- ACTIVATE_APPEND (R223). -/
  | activateAppend (ok : Bool)
  /-- CAUSEWAY_SWITCH (R142). -/
  | causewaySwitch (ring : Nat)
  /-- GUARD_SET_APPLY (R242). -/
  | guardSetApply
  /-- TIME_REFERENCE_SWITCH_COMMIT (R180). -/
  | timeReferenceSwitchCommit
  /-- SAFE_ENTRY (R32). -/
  | safeEntry
  /-- LANE_MOVE (R148). -/
  | laneMove
  /-- LANE_UP (R147). -/
  | laneUp (lane : Nat)
  /-- STATUS_MSG (R150). -/
  | statusMsg (h : StraitHdr) (p : StatusPayload)
  /-- COMMIT_MSG (R48). -/
  | commitMsg (h : StraitHdr) (p : CommitPayload)
  /-- SWAP_REQ (R165). -/
  | swapReq (h : StraitHdr)
  /-- SWAP_ACK (R165). -/
  | swapAck (h : StraitHdr)
  /-- YIELD (R166). -/
  | yieldMsg (h : StraitHdr)
  /-- RAISE (R167). -/
  | raiseMsg (h : StraitHdr) (crown : Word)
  /-- FWD_WRITE (R172). -/
  | fwdWrite (h : StraitHdr) (block : Nat) (off : Nat) (item : Nat) (value : Word) (tick : DWord) (origin : Option FwdOrigin)
  /-- FORWARDED_WRITE_EFFECT (R172). -/
  | forwardedWriteEffect
  /-- LOADER_QUERY (R93). -/
  | loaderQuery (h : StraitHdr)
  /-- LOADER_REPLY (R93). -/
  | loaderReply (h : StraitHdr) (state : Nat) (digest : List Byte)
  /-- LOADER_ARM (R93). -/
  | loaderArm (h : StraitHdr) (tick : DWord) (origin : Option FwdOrigin)
  /-- SWITCH_DECISION (R96). -/
  | switchDecision (h : StraitHdr) (go : Bool)
  /-- NO_SWITCH_DECISION (R97). -/
  | noSwitchDecision
  /-- MAINT (R150). -/
  | maintMsg (h : StraitHdr) (what : MaintKind) (begins : Bool)
  /-- RESYNC_REQUEST (R170). -/
  | resyncRequest (h : StraitHdr) (seq : Word) (digest : List Byte) (mode : Nat)
  /-- RESYNC_ACCEPT (R170). -/
  | resyncAccept (h : StraitHdr)
  /-- RESYNC_ROUND (R170). -/
  | resyncRound
  /-- RESYNC_FINAL (R170). -/
  | resyncFinal (h : StraitHdr) (snap : Snapshot)
  /-- RESYNC_DONE (R170). -/
  | resyncDone
  /-- RESYNC_RETRY (R171). -/
  | resyncRetry
  /-- COPY (R170). -/
  | copy (h : StraitHdr) (addr : DWord) (data : List Byte)
  /-- REPLY (R150). -/
  | reply (h : StraitHdr) (type : Nat) (seq : Nat) (code : Nat)
  /-- NOP (R57). -/
  | nop (core : Nat) (up : Upset)
  /-- END (R57). -/
  | endTask (core : Nat) (up : Upset)
  /-- CHKP (R73). -/
  | chkp (core : Nat) (up : Upset)
  /-- JMP (R57). -/
  | jmp (core : Nat) (up : Upset) (off : BitVec 24)
  /-- JT (R57). -/
  | jt (core : Nat) (up : Upset) (off : BitVec 24)
  /-- JF (R57). -/
  | jf (core : Nat) (up : Upset) (off : BitVec 24)
  /-- CALL (R57). -/
  | call (core : Nat) (up : Upset) (off : BitVec 24)
  /-- RET (R57). -/
  | ret (core : Nat) (up : Upset)
  /-- LPB (R57). -/
  | lpb (core : Nat) (up : Upset) (count : Nat)
  /-- LPE (R57). -/
  | lpe (core : Nat) (up : Upset)
  /-- LPX (R57). -/
  | lpx (core : Nat) (up : Upset) (off : BitVec 24)
  /-- LD (R57). -/
  | ld (core : Nat) (up : Upset) (space : Nat) (idx : Nat)
  /-- LDN (R57). -/
  | ldn (core : Nat) (up : Upset) (space : Nat) (idx : Nat)
  /-- AND (R57). -/
  | andB (core : Nat) (up : Upset) (space : Nat) (idx : Nat)
  /-- ANDN (R57). -/
  | andn (core : Nat) (up : Upset) (space : Nat) (idx : Nat)
  /-- OR (R57). -/
  | orB (core : Nat) (up : Upset) (space : Nat) (idx : Nat)
  /-- ORN (R57). -/
  | orn (core : Nat) (up : Upset) (space : Nat) (idx : Nat)
  /-- XOR (R57). -/
  | xorB (core : Nat) (up : Upset) (space : Nat) (idx : Nat)
  /-- XORN (R57). -/
  | xorn (core : Nat) (up : Upset) (space : Nat) (idx : Nat)
  /-- ST (R57). -/
  | st (core : Nat) (up : Upset) (space : Nat) (idx : Nat)
  /-- STN (R57). -/
  | stn (core : Nat) (up : Upset) (space : Nat) (idx : Nat)
  /-- S (R57). -/
  | setB (core : Nat) (up : Upset) (space : Nat) (idx : Nat)
  /-- RST (R57). -/
  | rst (core : Nat) (up : Upset) (space : Nat) (idx : Nat)
  /-- NOT (R57). -/
  | notB (core : Nat) (up : Upset)
  /-- SET1 (R57). -/
  | set1 (core : Nat) (up : Upset)
  /-- SET0 (R57). -/
  | set0 (core : Nat) (up : Upset)
  /-- AP (R57). -/
  | ap (core : Nat) (up : Upset)
  /-- ANP (R57). -/
  | anp (core : Nat) (up : Upset)
  /-- OP (R57). -/
  | opB (core : Nat) (up : Upset)
  /-- ONP (R57). -/
  | onp (core : Nat) (up : Upset)
  /-- XP (R57). -/
  | xp (core : Nat) (up : Upset)
  /-- POP (R57). -/
  | pop (core : Nat) (up : Upset)
  /-- REDGE (R61). -/
  | redge (core : Nat) (up : Upset) (edge : Nat)
  /-- FEDGE (R61). -/
  | fedge (core : Nat) (up : Upset) (edge : Nat)
  /-- TON (R64). -/
  | ton (core : Nat) (up : Upset) (idx : Nat)
  /-- TOF (R64). -/
  | tof (core : Nat) (up : Upset) (idx : Nat)
  /-- TP (R64). -/
  | tp (core : Nat) (up : Upset) (idx : Nat)
  /-- CTU (R66). -/
  | ctu (core : Nat) (up : Upset) (idx : Nat)
  /-- CTD (R66). -/
  | ctd (core : Nat) (up : Upset) (idx : Nat)
  /-- CRST (R57). -/
  | crst (core : Nat) (up : Upset) (idx : Nat)
  /-- CLD (R57). -/
  | cld (core : Nat) (up : Upset) (idx : Nat)
  /-- LDW (R57). -/
  | ldw (core : Nat) (up : Upset) (space : Nat) (idx : Nat)
  /-- STW (R57). -/
  | stw (core : Nat) (up : Upset) (space : Nat) (idx : Nat)
  /-- LDK (R57). -/
  | ldk (core : Nat) (up : Upset) (imm : BitVec 24)
  /-- LDKX (R57). -/
  | ldkx (core : Nat) (up : Upset) (lo : Word) (hi : Word)
  /-- LDWX (R57). -/
  | ldwx (core : Nat) (up : Upset) (space : Nat) (idx : Nat) (ext : Word)
  /-- STWX (R57). -/
  | stwx (core : Nat) (up : Upset) (space : Nat) (idx : Nat) (ext : Word)
  /-- TIX (R57). -/
  | tix (core : Nat) (up : Upset)
  /-- LDD (R59). -/
  | ldd (core : Nat) (up : Upset)
  /-- STD (R59). -/
  | std (core : Nat) (up : Upset)
  /-- SWAP (R57). -/
  | swap (core : Nat) (up : Upset)
  /-- BTW (R57). -/
  | btw (core : Nat) (up : Upset)
  /-- WTB (R57). -/
  | wtb (core : Nat) (up : Upset)
  /-- QTW (R57). -/
  | qtw (core : Nat) (up : Upset)
  /-- SETQ (R57). -/
  | setq (core : Nat) (up : Upset) (q : Quality)
  /-- SETBQ (R57). -/
  | setbq (core : Nat) (up : Upset) (q : Quality)
  /-- ADD (R60). -/
  | add (core : Nat) (up : Upset)
  /-- SUB (R60). -/
  | sub (core : Nat) (up : Upset)
  /-- MUL (R60). -/
  | mul (core : Nat) (up : Upset)
  /-- DIV (R60). -/
  | div (core : Nat) (up : Upset)
  /-- MOD (R60). -/
  | mod (core : Nat) (up : Upset)
  /-- WAND (R57). -/
  | wand (core : Nat) (up : Upset)
  /-- WOR (R57). -/
  | wor (core : Nat) (up : Upset)
  /-- WXOR (R57). -/
  | wxor (core : Nat) (up : Upset)
  /-- WNOT (R57). -/
  | wnot (core : Nat) (up : Upset)
  /-- NEG (R60). -/
  | neg (core : Nat) (up : Upset)
  /-- SHL (R57). -/
  | shl (core : Nat) (up : Upset) (amount : Nat)
  /-- SHR (R57). -/
  | shr (core : Nat) (up : Upset) (amount : Nat)
  /-- SAR (R57). -/
  | sar (core : Nat) (up : Upset) (amount : Nat)
  /-- ADDK (R60). -/
  | addk (core : Nat) (up : Upset) (imm : BitVec 24)
  /-- ABS (R60). -/
  | abs (core : Nat) (up : Upset)
  /-- EQ (R57). -/
  | eq (core : Nat) (up : Upset)
  /-- NE (R57). -/
  | ne (core : Nat) (up : Upset)
  /-- LT (R57). -/
  | lt (core : Nat) (up : Upset)
  /-- LE (R57). -/
  | le (core : Nat) (up : Upset)
  /-- GT (R57). -/
  | gt (core : Nat) (up : Upset)
  /-- GE (R57). -/
  | ge (core : Nat) (up : Upset)
  /-- LTU (R57). -/
  | ltu (core : Nat) (up : Upset)
  /-- GEU (R57). -/
  | geu (core : Nat) (up : Upset)
  /-- FADD (R359). -/
  | fadd (core : Nat) (up : Upset)
  /-- FSUB (R359). -/
  | fsub (core : Nat) (up : Upset)
  /-- FMUL (R359). -/
  | fmul (core : Nat) (up : Upset)
  /-- FDIV (R60). -/
  | fdiv (core : Nat) (up : Upset)
  /-- FSQRT (R359). -/
  | fsqrt (core : Nat) (up : Upset)
  /-- FNEG (R359). -/
  | fneg (core : Nat) (up : Upset)
  /-- FABS (R359). -/
  | fabs (core : Nat) (up : Upset)
  /-- ITF (R57). -/
  | itf (core : Nat) (up : Upset)
  /-- FTI (R60). -/
  | fti (core : Nat) (up : Upset)
  /-- FEQ (R60). -/
  | feq (core : Nat) (up : Upset)
  /-- FLT (R60). -/
  | flt (core : Nat) (up : Upset)
  /-- FLE (R60). -/
  | fle (core : Nat) (up : Upset)
  /-- FMIN (R359). -/
  | fmin (core : Nat) (up : Upset)
  /-- FMAX (R359). -/
  | fmax (core : Nat) (up : Upset)
  /-- RDS (R67). -/
  | rds (core : Nat) (up : Upset) (num : Nat)
  /-- WRS (R67). -/
  | wrs (core : Nat) (up : Upset) (num : Nat)
  /-- UNDEFINED_OPCODE (R55). -/
  | undefinedOpcode (core : Nat) (up : Upset) (word : Word)
  /-- VERDICT (R80). -/
  | verdict (memOk : Bool) (imageOk : Bool) (coreOk : Bool)
  /-- SPLIT_START (R84). -/
  | splitStart
  /-- SPLIT_REJOIN (R84). -/
  | splitRejoin (pass : Bool)
  /-- SAFE_REQ (R32). -/
  | safeReq (v : Word)
  /-- TASK_RE_ENABLE (R70). -/
  | taskReEnable (v : Word)
  /-- SPLIT_REQUEST (R82). -/
  | splitRequest (v : Word)
  /-- CROWN_SWAP_REQ (R165). -/
  | crownSwapReq (v : Word)
  /-- GUARD_APPLY (R242). -/
  | guardApply (v : Word)
  /-- CAUSEWAY_REQ (R142). -/
  | causewayReq (ring : Nat) (v : Word)
  /-- TRIGGER_ARM (R190). -/
  | triggerArm (trig : Nat) (v : Word)
  /-- TRIGGER_FIRE (R189). -/
  | triggerFire (trig : Nat)
  /-- CAPTURE (R192). -/
  | capture (cap : Nat) (ns : DWord) (frac : Nat) (rising : Bool)
  /-- CAPTURE_READ (R192). -/
  | captureRead (who : Requester)
  /-- DECLARED_PAIR_LOW_READ (R357). -/
  | declaredPairLowRead (who : Requester) (addr : Nat)
  /-- REGISTER_WRITE (R5). -/
  | registerWrite (who : Requester) (addr : Nat) (v : Word)
  /-- OFFSET_SAMPLE (R177). -/
  | offsetSample (port : Nat) (off : Int) (refNs : DWord) (refFrac : Nat)
  /-- FREE_START (R176). -/
  | freeStart
  /-- REFERENCE_LOST (R179). -/
  | referenceLost (port : Nat) (cause : Nat)
  /-- HOLDOFF_EXPIRY (R181). -/
  | holdoffExpiry
  /-- SKERRY_CLOCK_SET (R174). -/
  | skerryClockSet
  /-- PTP_EVENT_MESSAGE (R184). -/
  | ptpEventMessage (m : PtpEvent)
  /-- RING_DELAY_UPDATE (R187). -/
  | ringDelayUpdate (ring : Nat) (stamps : List StationStamps)
  /-- LINK_DOWN (R201). -/
  | linkDown (port : Nat)
  /-- ACYCLIC_FRAME (R145). -/
  | acyclicFrame (ring : Nat) (f : AcycFrame)
  /-- ACYCLIC_REQUEST_SEND (R143). -/
  | acyclicRequestSend (ring : Nat)
  /-- ACYCLIC_TIMEOUT (R146). -/
  | acyclicTimeout (ring : Nat) (tag : Nat)
  /-- PROBE (R198). -/
  | probe (port : Nat) (ns : DWord)
  /-- OPEN (R199). -/
  | openSession (port : Nat) (o : OpenMsg)
  /-- COMMAND (R203). -/
  | command (port : Nat) (m : CmdMsg)
  /-- HALF_OPEN_TIMEOUT (R201). -/
  | halfOpenTimeout (slot : Nat)
  /-- SESSION_IDLE_TIMEOUT (R201). -/
  | sessionIdleTimeout (slot : Nat)
  /-- STATUS (R207). -/
  | statusCmd (slot : Nat)
  /-- SESSION_CLOSE (R207). -/
  | sessionClose (slot : Nat)
  /-- EVENT_SUBSCRIBE (R209). -/
  | eventSubscribe (slot : Nat)
  /-- REG_READ (R238). -/
  | regRead (slot : Nat)
  /-- REG_WRITE (R238). -/
  | regWrite (slot : Nat)
  /-- MEM_READ (R207). -/
  | memRead (slot : Nat)
  /-- MEM_WRITE (R207). -/
  | memWrite (slot : Nat)
  /-- IMAGE_BEGIN (R90). -/
  | imageBegin (slot : Nat)
  /-- IMAGE_DATA (R207). -/
  | imageData (slot : Nat)
  /-- IMAGE_END (R91). -/
  | imageEnd (slot : Nat)
  /-- VERIFYING_DONE (R91). -/
  | verifyingDone
  /-- STORE_STEP_DONE (R224). -/
  | storeStepDone (ok : Bool)
  /-- IMAGE_CANCEL (R90). -/
  | imageCancel (slot : Nat)
  /-- IMAGE_ARM (R93). -/
  | imageArm (slot : Nat)
  /-- SAFE_ARM_RESET (R101). -/
  | safeArmReset
  /-- ROLE_SWAP (R165). -/
  | roleSwap (slot : Nat)
  /-- SAFE_REQUEST (R207). -/
  | safeRequest (slot : Nat)
  /-- TASK_ENABLE (R207). -/
  | taskEnable (slot : Nat)
  /-- MAINT_START (R327). -/
  | maintStart (slot : Nat)
  /-- MAINT_STATUS (R328). -/
  | maintStatus (slot : Nat)
  /-- ACTIVITY_END (R327). -/
  | activityEnd (group : Nat) (ok : Bool)
  /-- STN_READ (R207). -/
  | stnRead (slot : Nat)
  /-- STN_WRITE (R207). -/
  | stnWrite (slot : Nat)
  /-- EVR_READ (R315). -/
  | evrRead (slot : Nat)
  /-- JNL_QUERY (R207). -/
  | jnlQuery (slot : Nat)
  /-- JNL_READ (R207). -/
  | jnlRead (slot : Nat)
  /-- KEY_ADMIN (R333). -/
  | keyAdmin (slot : Nat)
  /-- UNIT_OF_WORK (R251). -/
  | unitOfWork (upset : UnitUpset) (preempt : Option (Nat × Nat))
  /-- PERIPHERAL_REQUEST (R248). -/
  | peripheralRequest (line : Nat) (samples : List Int)
  /-- BUS_TIMEOUT (R257). -/
  | busTimeout (addr : DWord)
  /-- START (R258). -/
  | xferStart (v : Word)
  /-- ABORT (R258). -/
  | xferAbort (v : Word)
  /-- RESUME (R257). -/
  | xferResume (v : Word)
  /-- ABORT_ALL (R257). -/
  | xferAbortAll (v : Word)
  /-- INTEGRATION_END (R263). -/
  | integrationEnd (ch : Nat) (r : Integration)
  /-- REFERENCE_BUFFER_EN (R264). -/
  | referenceBufferEn (v : Word)
  /-- WARM_UP_END (R264). -/
  | warmUpEnd
  /-- ENTRY_END (R266). -/
  | entryEnd (g : Nat) (samples : List Int) (ns : DWord)
  /-- GO (R267). -/
  | convGo (v : Word)
  /-- STOP (R266). -/
  | convStop (v : Word)
  /-- URGENT_ENTRY (R268). -/
  | urgentEntry (v : Word) (samples : List Int) (ns : DWord)
  /-- CALIBRATION (R273). -/
  | calibration (g : Nat)
  /-- CALIBRATION_DONE (R274). -/
  | calibrationDone (g : Nat) (result : CalResult)
  /-- PROOF_TEST (R275). -/
  | proofTest
  /-- PROOF_TEST_DONE (R275). -/
  | proofTestDone (dev : Int)
  /-- HART_REPLY (R282). -/
  | hartReply (g : Nat) (r : HartReply)
  /-- HART_POLL_TIMEOUT (R282). -/
  | hartPollTimeout (g : Nat)
  /-- PASS_THROUGH (R283). -/
  | passThrough (v : Word)
  /-- PASS_THROUGH_TIMEOUT (R283). -/
  | passThroughTimeout (g : Nat)
  /-- BEGIN (R285). -/
  | trimBegin (v : Word)
  /-- LOW (R285). -/
  | trimLow (v : Word)
  /-- HIGH (R285). -/
  | trimHigh (v : Word)
  /-- COMMIT (R284). -/
  | trimCommit (v : Word)
  /-- ABANDON (R285). -/
  | trimAbandon (v : Word)
  /-- CLEAR (R285). -/
  | trimClear (v : Word)
  /-- TRIM_TIMEOUT (R285). -/
  | trimTimeout
  /-- UPLINK_FRAME (R293). -/
  | uplinkFrame (f : UplinkFrame)
  /-- DOWNLINK_FRAME (R293). -/
  | downlinkFrame (noise : List Byte)
  /-- LINK_TIMEOUT (R294). -/
  | linkTimeout
  /-- OVERLOAD (R290). -/
  | overload (ch : Nat)
  /-- OVERLOAD_RETRY (R290). -/
  | overloadRetry (ch : Nat)
  /-- PULSE_END (R292). -/
  | pulseEnd (ch : Nat)
  /-- RECEIVED_FRAME (R299). -/
  | receivedFrame (bus : Nat) (f : CanFrame)
  /-- TRANSMIT_END (R300). -/
  | transmitEnd (bus : Nat) (r : TxResult) (stamp : DWord)
  /-- BUS_OFF (R297). -/
  | busOff (bus : Nat)
  /-- BUS_OFF_RECOVERY (R297). -/
  | busOffRecovery (bus : Nat)
  /-- RECOVER (R297). -/
  | recover (v : Word)
  /-- HEAD_READ (R299). -/
  | headRead (bus : Nat) (buf : Nat)
  /-- TAIL_READ (R299). -/
  | tailRead (bus : Nat) (buf : Nat)
  /-- LOCK_TIMEOUT (R299). -/
  | lockTimeout (bus : Nat)
  /-- TX_REQ (R300). -/
  | txReq (hi : Bool) (v : Word)
  /-- TX_ABORT (R300). -/
  | txAbort (hi : Bool) (v : Word)
  /-- RECEIVED_CHARACTER (R305). -/
  | receivedCharacter (line : Nat) (x : RxChar)
  /-- IDLE_REQUEST (R307). -/
  | idleRequest (line : Nat)
  /-- DRIVER_RELEASE (R308). -/
  | driverRelease (line : Nat)
  /-- FLUSH (R307). -/
  | flush (v : Word)
  /-- RECORD_ADMISSION (R311). -/
  | recordAdmission
  /-- TOKEN_GAIN (R311). -/
  | tokenGain
  /-- COALESCE_WINDOW_END (R312). -/
  | coalesceWindowEnd (key : Nat)
  /-- CHECKPOINT_RECORD (R330). -/
  | checkpointRecord
  /-- SCRUB_SEGMENT (R236). -/
  | scrubSegment
  /-- SCRUB_SEGMENT_DONE (R237). -/
  | scrubSegmentDone
  /-- ON_REQUEST (R319). -/
  | onRequest (v : Word)
  /-- OFF_REQUEST (R320). -/
  | offRequest (v : Word)
  /-- RAMP_COMPLETE (R319). -/
  | rampComplete (dom : Nat)
  /-- DRAIN_COMPLETE (R319). -/
  | drainComplete (dom : Nat)
  /-- DOM_FAULT (R320). -/
  | domFault (dom : Nat)
  /-- FEED_LOST (R321). -/
  | feedLost (feedB : Bool) (cv : Nat)
  /-- SUPPLY_FAIL_WARNING (R322). -/
  | supplyFailWarning
  /-- RESET (R324). -/
  | reset (kind : Nat)
  /-- FEED_RETURN (R323). -/
  | feedReturn (feedB : Bool) (cv : Nat)
  /-- PWR_RESET (R324). -/
  | pwrReset (v : Word)
  /-- TICK_WATCHDOG (R325). -/
  | tickWatchdog
  /-- START_WATCHDOG (R325). -/
  | startWatchdog
  /-- START_STEP (R326). -/
  | startStep (x : StartIn)
  /-- TAMPER (R332). -/
  | tamper (sensor : Nat) (clock : DWord)
  /-- RE_KEY (R332). -/
  | reKey
  /-- RE_KEYING_DONE (R332). -/
  | reKeyingDone (key : List Byte)
  /-- KEY_SCAN (R334). -/
  | keyScan (counts : List Nat)
  /-- MENU_TIMEOUT (R335). -/
  | menuTimeout
  /-- SERVICE (R336). -/
  | service (a : SvcAddr)
  /-- SERVICE_ADDRESS_APPLY (R336). -/
  | serviceAddressApply
  /-- LANE_DOWN (R148). -/
  | laneDown (lane : Nat)
  /-- ANNOUNCE_MESSAGE (R180). -/
  | announceMessage (port : Nat) (ds : PtpDataset)
  /-- LINK_UP (R193). -/
  | linkUp (port : Nat) (speed : Nat)
  /-- TRANSMISSION_START (R300). -/
  | transmissionStart (bus : Nat)
  /-- CHARACTER_TRANSMITTED (R308). -/
  | characterTransmitted (line : Nat)
  /-- BREAK_END (R305). -/
  | breakEnd (line : Nat)
  /-- TAMPER_SENSOR_CLEARED (R331). -/
  | tamperSensorCleared (sensor : Nat)
  /-- SCRUB_PASS (R236). -/
  | scrubPass (found : ScrubFindings)
  /-- STRAIT_MESSAGE_DISCARD (R149). -/
  | straitMessageDiscard (message : List Byte)
  /-- MALFORMED_DATAGRAM (R195). -/
  | malformedDatagram (datagram : List Byte)
  /-- DISCARDED_FRAME (R193). -/
  | discardedFrame (port : Nat) (ptp : Bool)
deriving DecidableEq, Repr

end Sys2Proof
end

