-- ==== Sys2Proof/Decode.lean ====
section
/-! DEFINITION. What command a word spells by the table's bits: no row of spec/opcode_table.json gives a command any bits
(every row's fields are empty), so no word spells one (log entry 22). And what command a received Strait message is: its bytes
read most significant first (R3, R149, R150). -/

namespace Sys2Proof

/-- The command spelled by `nbits` bits `w` numbered as spec/opcode_table.json numbers them: none. -/
def decodeTableWord (_nbits _w : Nat) : Option Instr := none

open Machine

/-- The header fields of a Strait message (R149). -/
def readStraitHdr (lane : Nat) (m : List Byte) : StraitHdr :=
  { lane := lane, crown := BitVec.ofNat 32 (beAt m 4 4), tick := BitVec.ofNat 64 (beAt m 8 8), seq := beAt m 16 2 }

/-- The payload bytes of a Strait message (R149). -/
def readPayload (m : List Byte) : List Byte := (m.drop 20).take (beAt m 2 2)

/-- Payload field `i` of a Strait message, most significant byte first (R3, R150; widths are log entry 131); a field that the
message does not hold is 0. -/
def straitField (m : List Byte) (i : Nat) : Nat :=
  let ws := payloadWidths (u8At m 0) (u8At m 1)
  beAt (readPayload m) ((ws.take i).foldl (· + ·) 0) (ws.getD i 0)

/-- The payload bytes of a Strait message behind its fields. -/
def straitRest (m : List Byte) : List Byte :=
  (readPayload m).drop ((payloadWidths (u8At m 0) (u8At m 1)).foldl (· + ·) 0)

/-- STATUS (R150). -/
def readStatus (m : List Byte) : StatusPayload :=
  let flag := fun (i : Nat) => straitField m 1 / 2 ^ i % 2 == 1
  { state := straitField m 0, tampered := flag 0, inStep := flag 1, clean := flag 2, splitBusy := flag 3,
    verdictBusy := flag 4, copyBusy := flag 5, lanes := BitVec.ofNat 8 (straitField m 2), epoch := straitField m 3,
    imageSeq := BitVec.ofNat 32 (straitField m 4), loader := straitField m 5 }

/-- The host command behind a forwarded write or an arm, from field `i` on (R210); opcode 0 is none: STATUS forwards
nothing. -/
def readOrigin (m : List Byte) (i : Nat) : Option FwdOrigin :=
  if straitField m (i + 2) = 0 then none
  else some { session := BitVec.ofNat 32 (straitField m i), seq := BitVec.ofNat 32 (straitField m (i + 1)),
              opcode := straitField m (i + 2), keySlot := straitField m (i + 3), args := straitRest m }

/-- What a MAINT message reports (R150). -/
def readMaint (n : Nat) : MaintKind := if n = 0 then .split else if n = 1 then .verdict else .stateCopy

/-- The command that a received Strait message is (R149, R150); none where the receiver discards it, and for RESYNC done, whose
moment RESYNC_DONE has by itself. The state without an address that a state copy carries comes beside the bytes (log entry
132). -/
def straitCommand (lane : Nat) (m : List Byte) (copied : Snapshot) : Option Instr :=
  let h := readStraitHdr lane m
  let f := straitField m
  if !straitIntact m then none
  else match u8At m 0, u8At m 1 with
  | 1, _ => some (.statusMsg h (readStatus m))
  | 2, _ => some (.card h (f 0) (BitVec.ofNat 64 (f 2)) (straitRest m))
  | 3, 1 => some (.commitMsg h (.completion (BitVec.ofNat 8 (f 0)) (f 1 % 2 == 1) (f 1 / 2 % 2 == 1)))
  | 3, 2 => some (.commitMsg h (.digest (BitVec.ofNat 64 (f 0)) (f 1 % 2 == 1) (f 1 / 2 % 2 == 1)))
  | 4, 1 => some (.swapReq h)
  | 4, 2 => some (.swapAck h)
  | 4, 3 => some (.yieldMsg h)
  | 4, 4 => some (.raiseMsg h (BitVec.ofNat 32 (f 0)))
  | 5, _ => some (.fwdWrite h (f 0) (f 1) (f 2) (BitVec.ofNat 32 (f 3)) (BitVec.ofNat 64 (f 4)) (readOrigin m 5))
  | 6, 1 => some (.loaderQuery h)
  | 6, 2 => some (.loaderReply h (f 0) (straitRest m))
  | 6, 3 => some (.loaderArm h (BitVec.ofNat 64 (f 0)) (readOrigin m 1))
  | 6, 4 => some (.switchDecision h (f 0 != 0))
  | 7, _ => some (.maintMsg h (readMaint (f 0)) (f 1 != 0))
  | 8, 1 => some (.resyncRequest h (BitVec.ofNat 32 (f 0)) (straitRest m) (f 1))
  | 8, 2 => some (.resyncAccept h)
  | 8, 3 => some (.resyncFinal h copied)
  | 9, _ => some (.copy h (BitVec.ofNat 64 (f 0)) (straitRest m))
  | 10, _ => some (.reply h (f 0) (f 1) (f 2))
  | _, _ => none

end Sys2Proof
end

