-- ==== Sys2Proof/Machine/Float.lean ====
section
/-! DEFINITION. IEEE 754 binary64 arithmetic by exact ratios: every result is the exact one rounded once to
nearest, ties to even (Floating point of 03, R359). -/

namespace Sys2Proof.Machine

/-- The default NaN (R359). -/
def defaultNaN : DWord := 0x7FF8000000000000

/-- The biased exponent field of a binary64 word. -/
def fExp (x : DWord) : Nat := (x.toNat >>> 52) % 2048

/-- The fraction field of a binary64 word. -/
def fFrac (x : DWord) : Nat := x.toNat % 2 ^ 52

/-- The sign of a binary64 word. -/
def fSign (x : DWord) : Bool := x.msb

def fIsNaN (x : DWord) : Bool := fExp x == 2047 && fFrac x != 0
def fIsInf (x : DWord) : Bool := fExp x == 2047 && fFrac x == 0
def fIsZero (x : DWord) : Bool := fExp x == 0 && fFrac x == 0

/-- The significand of a finite word. -/
def fMant (x : DWord) : Nat := if fExp x = 0 then fFrac x else fFrac x + 2 ^ 52

/-- The exponent of the significand's unit, plus 1074, of a finite word: the value is fMant × 2^(this − 1074). -/
def fPow (x : DWord) : Nat := if fExp x = 0 then 0 else fExp x - 1

/-- Infinity with a sign. -/
def fInf (neg : Bool) : DWord := if neg then 0xFFF0000000000000 else 0x7FF0000000000000

/-- Zero with a sign. -/
def fZero (neg : Bool) : DWord := if neg then 0x8000000000000000 else 0

/-- The binary64 word of a signed integer multiple of 2^-1074 that is a ratio n/d of naturals, rounded to
nearest, ties to even; the second result tells an overflow to infinity. -/
def fRound (neg : Bool) (n d : Nat) : DWord × Bool :=
  if n = 0 then (fZero neg, false) else
  -- p: power such that n/d / 2^p lies in [2^52, 2^54), at least 0 so that subnormals keep their unit
  let p := (n.log2 : Int) - d.log2 - 53
  let p := if p < 0 then 0 else p.toNat
  let q0 := n / (d * 2 ^ p)
  let p := if q0 < 2 ^ 53 then p else p + 1
  let den := d * 2 ^ p
  let q := n / den
  let r := n % den
  let q := if den < 2 * r ∨ (2 * r = den ∧ q % 2 = 1) then q + 1 else q
  let (q, p) := if q = 2 ^ 53 then (2 ^ 52, p + 1) else (q, p)
  let e := if q < 2 ^ 52 then 0 else p + 1
  if 2047 ≤ e then (fInf neg, true)
  else (BitVec.ofNat 64 ((if neg then 2 ^ 63 else 0) + e * 2 ^ 52 + q % 2 ^ 52), false)

/-- A finite word as a signed integer in units of 2^-1074. -/
def fInt (x : DWord) : Int :=
  let v : Int := fMant x * 2 ^ fPow x
  if fSign x then -v else v

/-- A result of a floating operation: the word, and whether NaN arose from operands that are not NaN, an
overflow to infinity, a division by zero (R60). -/
structure FResult where
  val : DWord
  invalid : Bool
  overflow : Bool
  divZero : Bool
deriving DecidableEq, Repr

def fPlain (v : DWord) : FResult := ⟨v, false, false, false⟩
def fInvalid : FResult := ⟨defaultNaN, true, false, false⟩
def fOf (r : DWord × Bool) : FResult := ⟨r.1, false, r.2, false⟩

/-- FADD (R60, R359). -/
def fAdd (a b : DWord) : FResult :=
  if fIsNaN a || fIsNaN b then fPlain defaultNaN
  else if fIsInf a then (if fIsInf b && (fSign a != fSign b) then fInvalid else fPlain a)
  else if fIsInf b then fPlain b
  else
    let v := fInt a + fInt b
    if v = 0 then fPlain (fZero (fSign a && fSign b))
    else fOf (fRound (decide (v < 0)) v.natAbs 1)

/-- FNEG: only the sign bit changes (R359). -/
def fNeg (a : DWord) : DWord := a ^^^ 0x8000000000000000

/-- FABS: only the sign bit changes (R359). -/
def fAbs (a : DWord) : DWord := a &&& 0x7FFFFFFFFFFFFFFF

/-- FSUB (R60, R359). -/
def fSub (a b : DWord) : FResult := if fIsNaN b then fPlain defaultNaN else fAdd a (fNeg b)

/-- FMUL (R60, R359). -/
def fMul (a b : DWord) : FResult :=
  let neg := fSign a != fSign b
  if fIsNaN a || fIsNaN b then fPlain defaultNaN
  else if fIsInf a || fIsInf b then (if fIsZero a || fIsZero b then fInvalid else fPlain (fInf neg))
  else fOf (fRound neg (fMant a * fMant b * 2 ^ (fPow a + fPow b)) (2 ^ 1074))

/-- FDIV (R60, R359). -/
def fDiv (a b : DWord) : FResult :=
  let neg := fSign a != fSign b
  if fIsNaN a || fIsNaN b then fPlain defaultNaN
  else if fIsInf a then (if fIsInf b then fInvalid else fPlain (fInf neg))
  else if fIsInf b then fPlain (fZero neg)
  else if fIsZero b then (if fIsZero a then fInvalid else ⟨fInf neg, false, false, true⟩)
  else fOf (fRound neg (fMant a * 2 ^ (fPow a + 1074)) (fMant b * 2 ^ fPow b))

/-- The integer square root, bit by bit from bit `k − 1` down. -/
def isqrtBits (n : Nat) : Nat → Nat → Nat
  | 0, r => r
  | k + 1, r => isqrtBits n k (if (r + 2 ^ k) * (r + 2 ^ k) ≤ n then r + 2 ^ k else r)

/-- The integer square root of a number below 2^2200. -/
def isqrt (n : Nat) : Nat := isqrtBits n (n.log2 / 2 + 1) 0

/-- FSQRT (R60, R359): the root of v × 2^-1074, in units of 2^-1074, is √(v × 2^1074); with 60 further bits and
a sticky bit below them one rounding of the exact root follows. -/
def fSqrt (a : DWord) : FResult :=
  if fIsNaN a then fPlain defaultNaN
  else if fIsZero a then fPlain a
  else if fSign a then fInvalid
  else if fIsInf a then fPlain a
  else
    let n := fMant a * 2 ^ (fPow a + 1074 + 120)
    let r := isqrt n
    fOf (fRound false (2 * r + (if r * r = n then 0 else 1)) (2 ^ 61))

/-- ITF: a signed integer to binary64. -/
def fOfInt (v : Int) : FResult :=
  if v = 0 then fPlain 0 else fOf (fRound (decide (v < 0)) (v.natAbs * 2 ^ 1074) 1)

/-- FTI: truncated toward zero, saturating; NaN gives 0 (R60). -/
def fToInt (a : DWord) : FResult :=
  if fIsNaN a then ⟨0, true, false, false⟩
  else
    let hi : DWord := 0x7FFFFFFFFFFFFFFF
    let lo : DWord := 0x8000000000000000
    if fIsInf a then ⟨if fSign a then lo else hi, false, true, false⟩
    else
      let m : Nat := fMant a * 2 ^ fPow a / 2 ^ 1074
      if fSign a then (if 2 ^ 63 < m then ⟨lo, false, true, false⟩ else fPlain (BitVec.ofInt 64 (-(m : Int))))
      else if 2 ^ 63 ≤ m then ⟨hi, false, true, false⟩
      else fPlain (BitVec.ofNat 64 m)

/-- The order of two words that are not NaN: by value, infinities outermost, −0 equal to +0. -/
def fKey (a : DWord) : Int :=
  if fIsInf a then (if fSign a then -(2 ^ 2200 : Int) else 2 ^ 2200) else fInt a

def fEq (a b : DWord) : Bool := !fIsNaN a && !fIsNaN b && fKey a == fKey b
def fLt (a b : DWord) : Bool := !fIsNaN a && !fIsNaN b && decide (fKey a < fKey b)
def fLe (a b : DWord) : Bool := !fIsNaN a && !fIsNaN b && decide (fKey a ≤ fKey b)

/-- FMIN (R359): −0 below +0; a NaN yields the other operand; two NaNs the default NaN. -/
def fMin (a b : DWord) : DWord :=
  if fIsNaN a && fIsNaN b then defaultNaN
  else if fIsNaN a then b else if fIsNaN b then a
  else if fKey a = fKey b then (if fSign a then a else b)
  else if fKey a < fKey b then a else b

/-- FMAX (R359): +0 above −0; a NaN yields the other operand; two NaNs the default NaN. -/
def fMax (a b : DWord) : DWord :=
  if fIsNaN a && fIsNaN b then defaultNaN
  else if fIsNaN a then b else if fIsNaN b then a
  else if fKey a = fKey b then (if fSign a then b else a)
  else if fKey a < fKey b then b else a

end Sys2Proof.Machine
end

