-- ==== Sys2Proof/Config.lean ====
section
/-! DEFINITION. What the spec takes from outside itself: functions of named standards whose values it does
not give. They have no body, so no proof can lean on a value of theirs (log entry 10). -/

namespace Sys2Proof.Config

/-- SHA-384 of a byte string (FIPS 180-4, named by R91, R146, R210 and R215 and defined outside the spec):
its 48 bytes are taken from the 384 bits of this uninterpreted value. -/
opaque sha384Bits : List Byte → BitVec 384

/-- A signature r, s of 96 bytes that verifies under a public key for a digest, and whether any other r, s does: together
the verification of ECDSA P-384 (FIPS 186-5), which R199, R216 and R333 name and the spec does not define (log entry
126). -/
opaque ecdsaSign : List Byte → List Byte → BitVec 768
/-- See `ecdsaSign`. -/
opaque ecdsaAlso : List Byte → List Byte → List Byte → List Byte → Bool

/-- A byte of the nonce or of the ephemeral public key that the module's crypto engine makes for the OPEN_REPLY of one
session (R199): a free value of the session number and the byte's index (log entry 11). -/
opaque openReplyByte : Word → Nat → Byte

/-- The ECDH shared secret of the ephemeral private key made for a session and a host's ephemeral public key, and the
HKDF-SHA-384 of key material, salt and info (R199); the spec names both and defines neither (log entry 99). -/
opaque ecdhShared : Word → List Byte → BitVec 384
/-- See `ecdhShared`. -/
opaque hkdf : List Byte → List Byte → List Byte → BitVec 256

/-- AES-256-GCM (R195, R196), which the spec does not define: a byte of the key stream of key and nonce, and the tag of key,
nonce, associated data and enciphered payload (log entry 99). -/
opaque gcmStream : List Byte → List Byte → Nat → Byte
/-- See `gcmStream`. -/
opaque gcmTagBits : List Byte → List Byte → List Byte → List Byte → BitVec 128

/-- The SEQ that the header of a PROBE_REPLY or an OPEN_REPLY carries, which the spec does not state: a free value of the
port and the instant of the request (log entry 145). -/
opaque replySeq : Nat → DWord → Word

/-- The two parts of the servo output before the limits of R178: the frequency part and the part that removes an
offset. The spec gives no loop constants: free values of the number of the sample, the correction in force, the offset
sample and the bandwidth code (log entry 13). -/
opaque servoBase : Nat → Int → Int → Nat → Int
/-- See `servoBase`. -/
opaque servoSlew : Nat → Int → Int → Nat → Int

/-- The address that MEM_UE_ADDR shows for an uncorrectable word of an SRAM area to which the spec gives no
address (images, class areas, task data, edge memory, code areas): a free value (log entry 16). -/
opaque placeAddr : MemPlace → DWord

/-- A byte of the MRAM system records (R230), whose layout the spec does not give: a free value of the address and
of the records as bytes (log entry 17). -/
opaque systemRecordByte : Nat → List (List Byte) → Byte

/-- The 4 KiB page of SRAM or MRAM in which a piece of copied state lies that no access can name: 0 a task's saved context,
1 a page of the live retained area, 2 a virtual master, 3 an axis; the spec gives it no address: a free value (log entry
132). -/
opaque statePage : Nat → Nat → Nat

/-- What an analogue output drives for an item value that is not a number, which the spec does not state: a free
value of the channel and the value (log entry 24). -/
opaque nanDrive : Nat → DWord → DWord

/-- Whether a marker append that failed leaves an entry that fails its CRC (R224 names both outcomes): a free value of
the store's OPNUM and its step (log entry 39). -/
opaque failedAppend : Word → Nat → Bool

/-- A byte that the integrating converters' result block (request line 0x08) delivers, whose content the spec does not
give: a free value of the instant and the byte's place (log entry 40). -/
opaque resultBlockByte : BitVec 64 → Nat → Byte

/-- The travel per cycle and the value of a cam table that CAM_SEL names and the image does not hold, which the spec does
not state: free values of the table number and of the low 32 bits of G (log entry 41). -/
opaque absentCamRise : Nat → BitVec 64
/-- See `absentCamRise`. -/
opaque absentCamValue : Nat → Nat → BitVec 64

/-- What the counts of Skerry read when its SRAM is lost and the recorder holds no checkpoint to rebuild them from, which
the spec does not state: free values; 0 the power-cycle count, 1 the key-administration count, 2 and 3 the operating time
(log entry 42). -/
opaque lostCount : Nat → BitVec 32

/-- The number recorded as the failed check of a start-up candidate whose data area does not match its COMMIT digest, a
test that R91 gives no number: a free value (log entry 43). -/
opaque digestCheck : Nat

/-- Whether a partner in START with an image of this sequence number is permitted a free start (R176), which STATUS does not
carry: a free value (log entry 144). -/
opaque partnerFreeStart : BitVec 32 → Bool

/-- What a touch of UP (true) or DOWN in the TRIM menu makes of ANA_TRIM_REF, whose step the spec does not state: a free value
of the register (R335, log entry 179). -/
opaque panelReference : Bool → BitVec 32 → BitVec 32

/-- The portState of IEEE 1588-2019 that TIME_PORT_CFG shows for a plant port with a role; the spec leaves that state machine
to the standard: a free value of the port and the instant (log entry 121). -/
opaque portState : Nat → BitVec 64 → BitVec 4

end Sys2Proof.Config
end

