-- ==== Sys2Proof/Machine/Sparse.lean ====
section
/-! DEFINITION. Sparse maps over the naturals in one canonical form: keys strictly rising, and no entry equal
to what an unlisted key reads as. Memories, the register file and every numbered table of the state use them. -/

namespace Sys2Proof.Machine

/-- What key `k` reads as: its entry, else the value `d k` of an unlisted key. -/
def Sparse.get {α : Type} (d : Nat → α) : List (Nat × α) → Nat → α
  | [], k => d k
  | (j, v) :: m, k => if j = k then v else if k < j then d k else Sparse.get d m k

/-- The entries above `k`. -/
def Sparse.above {α : Type} (k : Nat) : List (Nat × α) → List (Nat × α)
  | [] => []
  | (j, v) :: m => if j ≤ k then Sparse.above k m else (j, v) :: m

/-- Write `v` at `k`, keeping the canonical form: the value an unlisted key reads as removes the entry. -/
def Sparse.set {α : Type} [DecidableEq α] (d : Nat → α) :
    List (Nat × α) → Nat → α → List (Nat × α)
  | [], k, v => if v = d k then [] else [(k, v)]
  | (j, w) :: m, k, v =>
    if k < j then (if v = d k then (j, w) :: m else (k, v) :: (j, w) :: m)
    else if k = j then (if v = d k then Sparse.above k m else (k, v) :: m)
    else (j, w) :: Sparse.set d m k v

/-- Change the value at `k` by `f`. -/
def Sparse.upd {α : Type} [DecidableEq α] (d : Nat → α) (m : List (Nat × α)) (k : Nat) (f : α → α) :
    List (Nat × α) :=
  Sparse.set d m k (f (Sparse.get d m k))

/-- The canonical form: keys strictly rising from `lo` on, no entry equal to what its key reads as unlisted. -/
def Sparse.wfFrom {α : Type} [DecidableEq α] (d : Nat → α) : Nat → List (Nat × α) → Bool
  | _, [] => true
  | lo, (k, v) :: m => decide (lo ≤ k) && decide (v ≠ d k) && Sparse.wfFrom d (k + 1) m

/-- The canonical form of a whole map. -/
def Sparse.wf {α : Type} [DecidableEq α] (d : Nat → α) (m : List (Nat × α)) : Bool :=
  Sparse.wfFrom d 0 m

end Sys2Proof.Machine
end

