-- ==== Sys2Proof/Machine/RegMap.lean ====
section
/-! DEFINITION. The register map, from the register tables of the chapters and the block table of R229: address
of each register in register space, its fields, reset value and access types (R5), which registers are low words
of declared pairs (R357), forwarded (R172) or set by the image, and which selection field names their item. -/

namespace Sys2Proof.Machine

/-! ## Register addresses, relative to 0x0008_0000_0000 -/

@[reducible] def A.SYS_ID : Nat := 0x000000
@[reducible] def A.SYS_REV : Nat := 0x000004
@[reducible] def A.SYS_STATE : Nat := 0x000008
@[reducible] def A.SYS_SLOT : Nat := 0x00000C
@[reducible] def A.SYS_TICK_LO : Nat := 0x000010
@[reducible] def A.SYS_TICK_HI : Nat := 0x000014
@[reducible] def A.SYS_CTRL : Nat := 0x000018
@[reducible] def A.SYS_EVENT : Nat := 0x00001C
@[reducible] def A.TICK_CTRL : Nat := 0x010000
@[reducible] def A.TICK_STATUS : Nat := 0x010004
@[reducible] def A.TICK_OVR : Nat := 0x010008
@[reducible] def A.TICK_PROOF : Nat := 0x01000C
@[reducible] def A.TICK_CLS_OVR0 : Nat := 0x010040
@[reducible] def A.TICK_CLS_OVR1 : Nat := 0x010044
@[reducible] def A.TICK_CLS_OVR2 : Nat := 0x010048
@[reducible] def A.TICK_CLS_OVR3 : Nat := 0x01004C
@[reducible] def A.TICK_CLS_OVR4 : Nat := 0x010050
@[reducible] def A.TICK_CLS_OVR5 : Nat := 0x010054
@[reducible] def A.TICK_CLS_OVR6 : Nat := 0x010058
@[reducible] def A.TICK_CLS_OVR7 : Nat := 0x01005C
@[reducible] def A.TICK_CLS_LAST0 : Nat := 0x010060
@[reducible] def A.TICK_CLS_LAST1 : Nat := 0x010064
@[reducible] def A.TICK_CLS_LAST2 : Nat := 0x010068
@[reducible] def A.TICK_CLS_LAST3 : Nat := 0x01006C
@[reducible] def A.TICK_CLS_LAST4 : Nat := 0x010070
@[reducible] def A.TICK_CLS_LAST5 : Nat := 0x010074
@[reducible] def A.TICK_CLS_LAST6 : Nat := 0x010078
@[reducible] def A.TICK_CLS_LAST7 : Nat := 0x01007C
@[reducible] def A.TICK_CORE_PEAK0 : Nat := 0x010080
@[reducible] def A.TICK_CORE_PEAK1 : Nat := 0x010084
@[reducible] def A.TICK_CORE_PEAK2 : Nat := 0x010088
@[reducible] def A.TICK_CORE_PEAK3 : Nat := 0x01008C
@[reducible] def A.TICK_CORE_PEAK4 : Nat := 0x010090
@[reducible] def A.TICK_CORE_PEAK5 : Nat := 0x010094
@[reducible] def A.TICK_CORE_PEAK6 : Nat := 0x010098
@[reducible] def A.TICK_CORE_PEAK7 : Nat := 0x01009C
@[reducible] def A.TICK_CORE_PEAK8 : Nat := 0x0100A0
@[reducible] def A.TICK_CORE_PEAK9 : Nat := 0x0100A4
@[reducible] def A.TICK_CORE_PEAK10 : Nat := 0x0100A8
@[reducible] def A.TICK_CORE_PEAK11 : Nat := 0x0100AC
@[reducible] def A.TICK_CORE_PEAK12 : Nat := 0x0100B0
@[reducible] def A.TICK_CORE_PEAK13 : Nat := 0x0100B4
@[reducible] def A.TICK_CORE_PEAK14 : Nat := 0x0100B8
@[reducible] def A.TICK_CORE_PEAK15 : Nat := 0x0100BC
@[reducible] def A.CORE_CTRL : Nat := 0x020000
@[reducible] def A.CORE_ISA : Nat := 0x020004
@[reducible] def A.CORE_FAULT_SUM : Nat := 0x020008
@[reducible] def A.CORE_FAULT_SEL : Nat := 0x02000C
@[reducible] def A.CORE_FAULT_INFO : Nat := 0x020010
@[reducible] def A.CORE_FAULT_PC : Nat := 0x020014
@[reducible] def A.CORE_FAULT_TICK_LO : Nat := 0x020018
@[reducible] def A.CORE_FAULT_TICK_HI : Nat := 0x02001C
@[reducible] def A.CORE_FAULT_COUNT : Nat := 0x020020
@[reducible] def A.CORE_TASK_SEL : Nat := 0x020024
@[reducible] def A.CORE_TASK_STATE : Nat := 0x020028
@[reducible] def A.CORE_TASK_EN : Nat := 0x02002C
@[reducible] def A.CHK_CTRL : Nat := 0x030000
@[reducible] def A.CHK_STATUS : Nat := 0x030004
@[reducible] def A.CHK_MISMATCH : Nat := 0x030008
@[reducible] def A.CHK_UNRESOLVED : Nat := 0x03000C
@[reducible] def A.CHK_MISMATCH_INFO : Nat := 0x030010
@[reducible] def A.CHK_VERDICT : Nat := 0x030014
@[reducible] def A.CHK_SPLIT : Nat := 0x030018
@[reducible] def A.CHK_SPLIT_STATUS : Nat := 0x03001C
@[reducible] def A.CHK_ODD : Nat := 0x030020
@[reducible] def A.HOOD_CTRL : Nat := 0x0D0000
@[reducible] def A.HOOD_STATUS : Nat := 0x0D0004
@[reducible] def A.HOOD_RUN_SEQ : Nat := 0x0D0008
@[reducible] def A.HOOD_STAGED_SEQ : Nat := 0x0D000C
@[reducible] def A.HOOD_SWITCH_LO : Nat := 0x0D0010
@[reducible] def A.HOOD_SWITCH_HI : Nat := 0x0D0014
@[reducible] def A.HOOD_CARRY : Nat := 0x0D0018
@[reducible] def A.HOOD_ERROR : Nat := 0x0D001C
@[reducible] def A.SHAFT_CFG : Nat := 0x050000
@[reducible] def A.SHAFT_EVENT : Nat := 0x050004
@[reducible] def A.SHAFT_MASTER_SEL : Nat := 0x050008
@[reducible] def A.SHAFT_MASTER_STATE : Nat := 0x05000C
@[reducible] def A.SHAFT_MASTER_POS_LO : Nat := 0x050010
@[reducible] def A.SHAFT_MASTER_POS_HI : Nat := 0x050014
@[reducible] def A.SHAFT_MASTER_VEL_LO : Nat := 0x050018
@[reducible] def A.SHAFT_MASTER_VEL_HI : Nat := 0x05001C
@[reducible] def A.SHAFT_AXIS_SEL : Nat := 0x050020
@[reducible] def A.SHAFT_AXIS_STATE : Nat := 0x050024
@[reducible] def A.SHAFT_AXIS_POS_LO : Nat := 0x050028
@[reducible] def A.SHAFT_AXIS_POS_HI : Nat := 0x05002C
@[reducible] def A.SHAFT_AXIS_MTRIM_LO : Nat := 0x050030
@[reducible] def A.SHAFT_AXIS_MTRIM_HI : Nat := 0x050034
@[reducible] def A.SHAFT_AXIS_MARK : Nat := 0x050038
@[reducible] def A.SHAFT_AXIS_FERR : Nat := 0x05003C
@[reducible] def A.FAB_RING_EN_LO : Nat := 0x040000
@[reducible] def A.FAB_RING_EN_HI : Nat := 0x040004
@[reducible] def A.FAB_POINTS : Nat := 0x040008
@[reducible] def A.RING_CTRL : Nat := 0x1A0000
@[reducible] def A.RING_CFG : Nat := 0x1A0004
@[reducible] def A.RING_STATUS : Nat := 0x1A0008
@[reducible] def A.RING_RETURN : Nat := 0x1A000C
@[reducible] def A.RING_ERR : Nat := 0x1A0010
@[reducible] def A.RING_ACYC : Nat := 0x1A0014
@[reducible] def A.RING_STN_SEL : Nat := 0x1A0018
@[reducible] def A.RING_STN_STATE : Nat := 0x1A001C
@[reducible] def A.RING_STN_LATE : Nat := 0x1A0020
@[reducible] def A.STRAIT_STATUS : Nat := 0x060000
@[reducible] def A.STRAIT_ERR : Nat := 0x060004
@[reducible] def A.STRAIT_COPY : Nat := 0x060008
@[reducible] def A.STRAIT_DIGEST_LO : Nat := 0x06000C
@[reducible] def A.STRAIT_DIGEST_HI : Nat := 0x060010
@[reducible] def A.STRAIT_PDIGEST_LO : Nat := 0x060014
@[reducible] def A.STRAIT_PDIGEST_HI : Nat := 0x060018
@[reducible] def A.CROWN_OWN : Nat := 0x070000
@[reducible] def A.CROWN_PARTNER : Nat := 0x070004
@[reducible] def A.CROWN_STATUS : Nat := 0x070008
@[reducible] def A.CROWN_EVENT : Nat := 0x07000C
@[reducible] def A.CROWN_CTRL : Nat := 0x070010
@[reducible] def A.CROWN_STORED : Nat := 0x070014
@[reducible] def A.TIME_CTRL : Nat := 0x080000
@[reducible] def A.TIME_SERVO : Nat := 0x080004
@[reducible] def A.TIME_STATUS : Nat := 0x080008
@[reducible] def A.TIME_EVENT : Nat := 0x08000C
@[reducible] def A.TIME_NOW_LO : Nat := 0x080010
@[reducible] def A.TIME_NOW_HI : Nat := 0x080014
@[reducible] def A.TIME_NOW_FRAC : Nat := 0x080018
@[reducible] def A.TIME_OFFSET : Nat := 0x08001C
@[reducible] def A.TIME_RATE : Nat := 0x080020
@[reducible] def A.TIME_PTP : Nat := 0x080024
@[reducible] def A.TIME_PORT_SEL : Nat := 0x080028
@[reducible] def A.TIME_PORT_CFG : Nat := 0x08002C
@[reducible] def A.TIME_PORT_ASYM_IN : Nat := 0x080030
@[reducible] def A.TIME_PORT_ASYM_OUT : Nat := 0x080034
@[reducible] def A.TIME_TRIG_SEL : Nat := 0x080040
@[reducible] def A.TIME_TRIG_CTRL : Nat := 0x080044
@[reducible] def A.TIME_TRIG_T_LO : Nat := 0x080048
@[reducible] def A.TIME_TRIG_T_HI : Nat := 0x08004C
@[reducible] def A.TIME_TRIG_PERIOD : Nat := 0x080050
@[reducible] def A.TIME_CAP_SEL : Nat := 0x080060
@[reducible] def A.TIME_CAP_CTRL : Nat := 0x080064
@[reducible] def A.TIME_CAP_T_LO : Nat := 0x080068
@[reducible] def A.TIME_CAP_T_HI : Nat := 0x08006C
@[reducible] def A.TIME_CAP_T_FRAC : Nat := 0x080070
@[reducible] def A.NET_PORT_SEL : Nat := 0x090000
@[reducible] def A.NET_PORT_STATUS : Nat := 0x090004
@[reducible] def A.NET_PORT_RX : Nat := 0x090008
@[reducible] def A.NET_PORT_TX : Nat := 0x09000C
@[reducible] def A.NET_PORT_DISC : Nat := 0x090010
@[reducible] def A.CMD_CTRL : Nat := 0x0A0000
@[reducible] def A.CMD_STATUS : Nat := 0x0A0004
@[reducible] def A.CMD_ERR : Nat := 0x0A0008
@[reducible] def A.CMD_SESS_SEL : Nat := 0x0A000C
@[reducible] def A.CMD_SESS_ID : Nat := 0x0A0010
@[reducible] def A.CMD_SESS_STATE : Nat := 0x0A0014
@[reducible] def A.CMD_SESS_H : Nat := 0x0A0018
@[reducible] def A.JNL_NEXT_LO : Nat := 0x0B0000
@[reducible] def A.JNL_NEXT_HI : Nat := 0x0B0004
@[reducible] def A.JNL_STATUS : Nat := 0x0B0008
@[reducible] def A.CFG_STATUS : Nat := 0x0C0000
@[reducible] def A.CFG_BANK0 : Nat := 0x0C0004
@[reducible] def A.CFG_BANK1 : Nat := 0x0C0008
@[reducible] def A.CFG_SEQ0 : Nat := 0x0C000C
@[reducible] def A.CFG_SEQ1 : Nat := 0x0C0010
@[reducible] def A.CFG_PROGRESS : Nat := 0x0C0014
@[reducible] def A.CFG_ERR : Nat := 0x0C0018
@[reducible] def A.CFG_FLASH_DATA : Nat := 0x0C0020
@[reducible] def A.MEM_STATUS : Nat := 0x0E0000
@[reducible] def A.MEM_SCRUB : Nat := 0x0E0004
@[reducible] def A.MEM_ECC_CE : Nat := 0x0E0008
@[reducible] def A.MEM_ECC_UE : Nat := 0x0E000C
@[reducible] def A.MEM_UE_ADDR_LO : Nat := 0x0E0010
@[reducible] def A.MEM_UE_ADDR_HI : Nat := 0x0E0014
@[reducible] def A.MEM_EVENT : Nat := 0x0E0018
@[reducible] def A.GUARD_SEL : Nat := 0x100000
@[reducible] def A.GUARD_BASE_LO : Nat := 0x100004
@[reducible] def A.GUARD_BASE_HI : Nat := 0x100008
@[reducible] def A.GUARD_ATTR : Nat := 0x10000C
@[reducible] def A.GUARD_APPLY : Nat := 0x100010
@[reducible] def A.GUARD_STATUS : Nat := 0x100014
@[reducible] def A.GUARD_FAULT_LO : Nat := 0x100018
@[reducible] def A.GUARD_FAULT_HI : Nat := 0x10001C
@[reducible] def A.XFER_CTRL : Nat := 0x0F0000
@[reducible] def A.XFER_CMD : Nat := 0x0F0004
@[reducible] def A.XFER_STATUS : Nat := 0x0F0008
@[reducible] def A.XFER_DONE : Nat := 0x0F000C
@[reducible] def A.XFER_ERR : Nat := 0x0F0010
@[reducible] def A.XFER_BUS_ADDR_LO : Nat := 0x0F0014
@[reducible] def A.XFER_BUS_ADDR_HI : Nat := 0x0F0018
@[reducible] def A.XFER_CH_SEL : Nat := 0x0F0020
@[reducible] def A.XFER_CH_CTRL : Nat := 0x0F0024
@[reducible] def A.XFER_CH_CFG : Nat := 0x0F0028
@[reducible] def A.XFER_CH_DESC_LO : Nat := 0x0F002C
@[reducible] def A.XFER_CH_DESC_HI : Nat := 0x0F0030
@[reducible] def A.XFER_CH_STATUS : Nat := 0x0F0034
@[reducible] def A.XFER_CH_REMAIN : Nat := 0x0F0038
@[reducible] def A.XFER_CH_CRC : Nat := 0x0F003C
@[reducible] def A.ANA_CH_SEL : Nat := 0x110000
@[reducible] def A.ANA_CH_CFG : Nat := 0x110004
@[reducible] def A.ANA_CH_STATUS : Nat := 0x110008
@[reducible] def A.ANA_CH_TRIM_Z : Nat := 0x11000C
@[reducible] def A.ANA_CH_TRIM_G : Nat := 0x110010
@[reducible] def A.ANA_STRAP0 : Nat := 0x110014
@[reducible] def A.ANA_STRAP1 : Nat := 0x110018
@[reducible] def A.ANA_TRIM_CTRL : Nat := 0x110020
@[reducible] def A.ANA_TRIM_REF : Nat := 0x110024
@[reducible] def A.ANA_TRIM_OBS : Nat := 0x110028
@[reducible] def A.ANA_TRIM_STATUS : Nat := 0x11002C
@[reducible] def A.ANA_HART_PT : Nat := 0x110030
@[reducible] def A.ANA_HART_BUF : Nat := 0x110100
@[reducible] def A.CONV_REF_CTRL : Nat := 0x120000
@[reducible] def A.CONV_REF_STATUS : Nat := 0x120004
@[reducible] def A.CONV_REF_DEV : Nat := 0x120008
@[reducible] def A.CONV_EVENT : Nat := 0x12000C
@[reducible] def A.CONV_CAL : Nat := 0x120010
@[reducible] def A.CONV_GRP_SEL : Nat := 0x120020
@[reducible] def A.CONV_GRP_CTRL : Nat := 0x120024
@[reducible] def A.CONV_GRP_STATUS : Nat := 0x120028
@[reducible] def A.CONV_GRP_URGENT : Nat := 0x12002C
@[reducible] def A.CONV_GRP_ERR : Nat := 0x120030
@[reducible] def A.CONV_GRP_SEQ0 : Nat := 0x120040
@[reducible] def A.CONV_GRP_SEQ1 : Nat := 0x120044
@[reducible] def A.CONV_GRP_SEQ2 : Nat := 0x120048
@[reducible] def A.CONV_GRP_SEQ3 : Nat := 0x12004C
@[reducible] def A.CONV_GRP_SEQ4 : Nat := 0x120050
@[reducible] def A.CONV_GRP_SEQ5 : Nat := 0x120054
@[reducible] def A.CONV_GRP_SEQ6 : Nat := 0x120058
@[reducible] def A.CONV_GRP_SEQ7 : Nat := 0x12005C
@[reducible] def A.CONV_GRP_SEQ8 : Nat := 0x120060
@[reducible] def A.CONV_GRP_SEQ9 : Nat := 0x120064
@[reducible] def A.CONV_GRP_SEQ10 : Nat := 0x120068
@[reducible] def A.CONV_GRP_SEQ11 : Nat := 0x12006C
@[reducible] def A.CONV_GRP_SEQ12 : Nat := 0x120070
@[reducible] def A.CONV_GRP_SEQ13 : Nat := 0x120074
@[reducible] def A.CONV_GRP_SEQ14 : Nat := 0x120078
@[reducible] def A.CONV_GRP_SEQ15 : Nat := 0x12007C
@[reducible] def A.DIO_CH_SEL : Nat := 0x130000
@[reducible] def A.DIO_CH_CFG : Nat := 0x130004
@[reducible] def A.DIO_CH_STATUS : Nat := 0x130008
@[reducible] def A.DIO_SAFE : Nat := 0x13000C
@[reducible] def A.DIO_LINK_STATUS : Nat := 0x130010
@[reducible] def A.DIO_LINK_ERR : Nat := 0x130014
@[reducible] def A.CAN_SEL : Nat := 0x140000
@[reducible] def A.CAN_CTRL : Nat := 0x140004
@[reducible] def A.CAN_NBT : Nat := 0x140008
@[reducible] def A.CAN_DBT : Nat := 0x14000C
@[reducible] def A.CAN_STATUS : Nat := 0x140010
@[reducible] def A.CAN_EVENT : Nat := 0x140014
@[reducible] def A.CAN_ERR : Nat := 0x140018
@[reducible] def A.CAN_TX_REQ0 : Nat := 0x14001C
@[reducible] def A.CAN_TX_REQ1 : Nat := 0x140020
@[reducible] def A.CAN_TX_ABORT0 : Nat := 0x140024
@[reducible] def A.CAN_TX_ABORT1 : Nat := 0x140028
@[reducible] def A.CAN_STAMP_LO : Nat := 0x140030
@[reducible] def A.CAN_STAMP_HI : Nat := 0x140034
@[reducible] def A.CAN_EDGE_LO : Nat := 0x140038
@[reducible] def A.CAN_EDGE_HI : Nat := 0x14003C
@[reducible] def A.SER_SEL : Nat := 0x150000
@[reducible] def A.SER_CFG : Nat := 0x150004
@[reducible] def A.SER_TIMING : Nat := 0x150008
@[reducible] def A.SER_CTRL : Nat := 0x15000C
@[reducible] def A.SER_STATUS : Nat := 0x150010
@[reducible] def A.SER_ERR : Nat := 0x150014
@[reducible] def A.EVR_STATUS : Nat := 0x160000
@[reducible] def A.EVR_NEXT_LO : Nat := 0x160004
@[reducible] def A.EVR_NEXT_HI : Nat := 0x160008
@[reducible] def A.EVR_TOKENS : Nat := 0x16000C
@[reducible] def A.EVR_CTRL : Nat := 0x160010
@[reducible] def A.EVR_DROP : Nat := 0x160014
@[reducible] def A.EVR_FLASH_DATA : Nat := 0x160040
@[reducible] def A.PWR_STATUS : Nat := 0x170000
@[reducible] def A.PWR_FEED : Nat := 0x170004
@[reducible] def A.PWR_DOM_SEL : Nat := 0x170008
@[reducible] def A.PWR_DOM_STATE : Nat := 0x17000C
@[reducible] def A.PWR_DOM_REQ : Nat := 0x170010
@[reducible] def A.PWR_EVENT : Nat := 0x170014
@[reducible] def A.PWR_RESET : Nat := 0x170018
@[reducible] def A.SKERRY_STATUS : Nat := 0x180000
@[reducible] def A.SKERRY_TAMPER : Nat := 0x180004
@[reducible] def A.SKERRY_CYCLES : Nat := 0x180008
@[reducible] def A.SKERRY_KEYCNT : Nat := 0x18000C
@[reducible] def A.SKERRY_OPTIME_LO : Nat := 0x180010
@[reducible] def A.SKERRY_OPTIME_HI : Nat := 0x180014
@[reducible] def A.SKERRY_FP_LO : Nat := 0x180018
@[reducible] def A.SKERRY_FP_HI : Nat := 0x18001C
@[reducible] def A.PANEL_CTRL : Nat := 0x190000
@[reducible] def A.PANEL_KEYS : Nat := 0x190004
@[reducible] def A.PANEL_SVC_IP4 : Nat := 0x190008
@[reducible] def A.PANEL_SVC_PFX : Nat := 0x19000C

/-- A field of a register: the register's address and bits [hi:lo]. -/
structure Fld where
  reg : Nat
  hi  : Nat
  lo  : Nat
deriving DecidableEq, Repr

/-! ## Fields -/

@[reducible] def F.SYS_ID.PART : Fld := ⟨A.SYS_ID, 31, 16⟩
@[reducible] def F.SYS_ID.VENDOR : Fld := ⟨A.SYS_ID, 15, 0⟩
@[reducible] def F.SYS_REV.MAJOR : Fld := ⟨A.SYS_REV, 15, 8⟩
@[reducible] def F.SYS_REV.MINOR : Fld := ⟨A.SYS_REV, 7, 0⟩
@[reducible] def F.SYS_STATE.TAMPERED : Fld := ⟨A.SYS_STATE, 16, 16⟩
@[reducible] def F.SYS_STATE.CAUSE : Fld := ⟨A.SYS_STATE, 11, 8⟩
@[reducible] def F.SYS_STATE.STATE : Fld := ⟨A.SYS_STATE, 2, 0⟩
@[reducible] def F.SYS_SLOT.STRAP_FAULT : Fld := ⟨A.SYS_SLOT, 9, 9⟩
@[reducible] def F.SYS_SLOT.PARTNER_PRESENT : Fld := ⟨A.SYS_SLOT, 8, 8⟩
@[reducible] def F.SYS_SLOT.SLOT : Fld := ⟨A.SYS_SLOT, 7, 0⟩
@[reducible] def F.SYS_TICK_LO.TICK : Fld := ⟨A.SYS_TICK_LO, 31, 0⟩
@[reducible] def F.SYS_TICK_HI.TICK : Fld := ⟨A.SYS_TICK_HI, 31, 0⟩
@[reducible] def F.SYS_CTRL.KEY : Fld := ⟨A.SYS_CTRL, 31, 16⟩
@[reducible] def F.SYS_CTRL.SAFE_REQ : Fld := ⟨A.SYS_CTRL, 0, 0⟩
@[reducible] def F.SYS_EVENT.RING_LATE : Fld := ⟨A.SYS_EVENT, 3, 3⟩
@[reducible] def F.SYS_EVENT.DIGEST_MISMATCH : Fld := ⟨A.SYS_EVENT, 2, 2⟩
@[reducible] def F.SYS_EVENT.CARDING_MISS : Fld := ⟨A.SYS_EVENT, 1, 1⟩
@[reducible] def F.SYS_EVENT.STATE_CHANGED : Fld := ⟨A.SYS_EVENT, 0, 0⟩
@[reducible] def F.TICK_CTRL.OVR_EVT_EN : Fld := ⟨A.TICK_CTRL, 15, 8⟩
@[reducible] def F.TICK_CTRL.SKIP_LIMIT : Fld := ⟨A.TICK_CTRL, 7, 0⟩
@[reducible] def F.TICK_STATUS.SWITCH_DEFERRED : Fld := ⟨A.TICK_STATUS, 6, 6⟩
@[reducible] def F.TICK_STATUS.SHAFT_FEED_LATE : Fld := ⟨A.TICK_STATUS, 5, 5⟩
@[reducible] def F.TICK_STATUS.WINDOW : Fld := ⟨A.TICK_STATUS, 4, 1⟩
@[reducible] def F.TICK_STATUS.RUNNING : Fld := ⟨A.TICK_STATUS, 0, 0⟩
@[reducible] def F.TICK_OVR.BOUND_EXCEEDED : Fld := ⟨A.TICK_OVR, 16, 16⟩
@[reducible] def F.TICK_OVR.STALLED : Fld := ⟨A.TICK_OVR, 15, 8⟩
@[reducible] def F.TICK_OVR.OVERRUN : Fld := ⟨A.TICK_OVR, 7, 0⟩
@[reducible] def F.TICK_PROOF.CYCLE_TABLE : Fld := ⟨A.TICK_PROOF, 31, 24⟩
@[reducible] def F.TICK_PROOF.MODE : Fld := ⟨A.TICK_PROOF, 23, 22⟩
@[reducible] def F.TICK_PROOF.LCORES : Fld := ⟨A.TICK_PROOF, 20, 16⟩
@[reducible] def F.TICK_PROOF.BUDGET : Fld := ⟨A.TICK_PROOF, 15, 0⟩
@[reducible] def F.TICK_CLS_OVR0.CONSEC : Fld := ⟨A.TICK_CLS_OVR0, 23, 16⟩
@[reducible] def F.TICK_CLS_OVR0.COUNT : Fld := ⟨A.TICK_CLS_OVR0, 15, 0⟩
@[reducible] def F.TICK_CLS_OVR1.CONSEC : Fld := ⟨A.TICK_CLS_OVR1, 23, 16⟩
@[reducible] def F.TICK_CLS_OVR1.COUNT : Fld := ⟨A.TICK_CLS_OVR1, 15, 0⟩
@[reducible] def F.TICK_CLS_OVR2.CONSEC : Fld := ⟨A.TICK_CLS_OVR2, 23, 16⟩
@[reducible] def F.TICK_CLS_OVR2.COUNT : Fld := ⟨A.TICK_CLS_OVR2, 15, 0⟩
@[reducible] def F.TICK_CLS_OVR3.CONSEC : Fld := ⟨A.TICK_CLS_OVR3, 23, 16⟩
@[reducible] def F.TICK_CLS_OVR3.COUNT : Fld := ⟨A.TICK_CLS_OVR3, 15, 0⟩
@[reducible] def F.TICK_CLS_OVR4.CONSEC : Fld := ⟨A.TICK_CLS_OVR4, 23, 16⟩
@[reducible] def F.TICK_CLS_OVR4.COUNT : Fld := ⟨A.TICK_CLS_OVR4, 15, 0⟩
@[reducible] def F.TICK_CLS_OVR5.CONSEC : Fld := ⟨A.TICK_CLS_OVR5, 23, 16⟩
@[reducible] def F.TICK_CLS_OVR5.COUNT : Fld := ⟨A.TICK_CLS_OVR5, 15, 0⟩
@[reducible] def F.TICK_CLS_OVR6.CONSEC : Fld := ⟨A.TICK_CLS_OVR6, 23, 16⟩
@[reducible] def F.TICK_CLS_OVR6.COUNT : Fld := ⟨A.TICK_CLS_OVR6, 15, 0⟩
@[reducible] def F.TICK_CLS_OVR7.CONSEC : Fld := ⟨A.TICK_CLS_OVR7, 23, 16⟩
@[reducible] def F.TICK_CLS_OVR7.COUNT : Fld := ⟨A.TICK_CLS_OVR7, 15, 0⟩
@[reducible] def F.TICK_CLS_LAST0.TICK : Fld := ⟨A.TICK_CLS_LAST0, 31, 0⟩
@[reducible] def F.TICK_CLS_LAST1.TICK : Fld := ⟨A.TICK_CLS_LAST1, 31, 0⟩
@[reducible] def F.TICK_CLS_LAST2.TICK : Fld := ⟨A.TICK_CLS_LAST2, 31, 0⟩
@[reducible] def F.TICK_CLS_LAST3.TICK : Fld := ⟨A.TICK_CLS_LAST3, 31, 0⟩
@[reducible] def F.TICK_CLS_LAST4.TICK : Fld := ⟨A.TICK_CLS_LAST4, 31, 0⟩
@[reducible] def F.TICK_CLS_LAST5.TICK : Fld := ⟨A.TICK_CLS_LAST5, 31, 0⟩
@[reducible] def F.TICK_CLS_LAST6.TICK : Fld := ⟨A.TICK_CLS_LAST6, 31, 0⟩
@[reducible] def F.TICK_CLS_LAST7.TICK : Fld := ⟨A.TICK_CLS_LAST7, 31, 0⟩
@[reducible] def F.TICK_CORE_PEAK0.BOUND : Fld := ⟨A.TICK_CORE_PEAK0, 31, 16⟩
@[reducible] def F.TICK_CORE_PEAK0.PEAK : Fld := ⟨A.TICK_CORE_PEAK0, 15, 0⟩
@[reducible] def F.TICK_CORE_PEAK1.BOUND : Fld := ⟨A.TICK_CORE_PEAK1, 31, 16⟩
@[reducible] def F.TICK_CORE_PEAK1.PEAK : Fld := ⟨A.TICK_CORE_PEAK1, 15, 0⟩
@[reducible] def F.TICK_CORE_PEAK2.BOUND : Fld := ⟨A.TICK_CORE_PEAK2, 31, 16⟩
@[reducible] def F.TICK_CORE_PEAK2.PEAK : Fld := ⟨A.TICK_CORE_PEAK2, 15, 0⟩
@[reducible] def F.TICK_CORE_PEAK3.BOUND : Fld := ⟨A.TICK_CORE_PEAK3, 31, 16⟩
@[reducible] def F.TICK_CORE_PEAK3.PEAK : Fld := ⟨A.TICK_CORE_PEAK3, 15, 0⟩
@[reducible] def F.TICK_CORE_PEAK4.BOUND : Fld := ⟨A.TICK_CORE_PEAK4, 31, 16⟩
@[reducible] def F.TICK_CORE_PEAK4.PEAK : Fld := ⟨A.TICK_CORE_PEAK4, 15, 0⟩
@[reducible] def F.TICK_CORE_PEAK5.BOUND : Fld := ⟨A.TICK_CORE_PEAK5, 31, 16⟩
@[reducible] def F.TICK_CORE_PEAK5.PEAK : Fld := ⟨A.TICK_CORE_PEAK5, 15, 0⟩
@[reducible] def F.TICK_CORE_PEAK6.BOUND : Fld := ⟨A.TICK_CORE_PEAK6, 31, 16⟩
@[reducible] def F.TICK_CORE_PEAK6.PEAK : Fld := ⟨A.TICK_CORE_PEAK6, 15, 0⟩
@[reducible] def F.TICK_CORE_PEAK7.BOUND : Fld := ⟨A.TICK_CORE_PEAK7, 31, 16⟩
@[reducible] def F.TICK_CORE_PEAK7.PEAK : Fld := ⟨A.TICK_CORE_PEAK7, 15, 0⟩
@[reducible] def F.TICK_CORE_PEAK8.BOUND : Fld := ⟨A.TICK_CORE_PEAK8, 31, 16⟩
@[reducible] def F.TICK_CORE_PEAK8.PEAK : Fld := ⟨A.TICK_CORE_PEAK8, 15, 0⟩
@[reducible] def F.TICK_CORE_PEAK9.BOUND : Fld := ⟨A.TICK_CORE_PEAK9, 31, 16⟩
@[reducible] def F.TICK_CORE_PEAK9.PEAK : Fld := ⟨A.TICK_CORE_PEAK9, 15, 0⟩
@[reducible] def F.TICK_CORE_PEAK10.BOUND : Fld := ⟨A.TICK_CORE_PEAK10, 31, 16⟩
@[reducible] def F.TICK_CORE_PEAK10.PEAK : Fld := ⟨A.TICK_CORE_PEAK10, 15, 0⟩
@[reducible] def F.TICK_CORE_PEAK11.BOUND : Fld := ⟨A.TICK_CORE_PEAK11, 31, 16⟩
@[reducible] def F.TICK_CORE_PEAK11.PEAK : Fld := ⟨A.TICK_CORE_PEAK11, 15, 0⟩
@[reducible] def F.TICK_CORE_PEAK12.BOUND : Fld := ⟨A.TICK_CORE_PEAK12, 31, 16⟩
@[reducible] def F.TICK_CORE_PEAK12.PEAK : Fld := ⟨A.TICK_CORE_PEAK12, 15, 0⟩
@[reducible] def F.TICK_CORE_PEAK13.BOUND : Fld := ⟨A.TICK_CORE_PEAK13, 31, 16⟩
@[reducible] def F.TICK_CORE_PEAK13.PEAK : Fld := ⟨A.TICK_CORE_PEAK13, 15, 0⟩
@[reducible] def F.TICK_CORE_PEAK14.BOUND : Fld := ⟨A.TICK_CORE_PEAK14, 31, 16⟩
@[reducible] def F.TICK_CORE_PEAK14.PEAK : Fld := ⟨A.TICK_CORE_PEAK14, 15, 0⟩
@[reducible] def F.TICK_CORE_PEAK15.BOUND : Fld := ⟨A.TICK_CORE_PEAK15, 31, 16⟩
@[reducible] def F.TICK_CORE_PEAK15.PEAK : Fld := ⟨A.TICK_CORE_PEAK15, 15, 0⟩
@[reducible] def F.CORE_CTRL.FAULT_LIMIT : Fld := ⟨A.CORE_CTRL, 7, 0⟩
@[reducible] def F.CORE_ISA.VERSION : Fld := ⟨A.CORE_ISA, 31, 24⟩
@[reducible] def F.CORE_ISA.NEST : Fld := ⟨A.CORE_ISA, 23, 20⟩
@[reducible] def F.CORE_ISA.LOOP : Fld := ⟨A.CORE_ISA, 19, 16⟩
@[reducible] def F.CORE_ISA.CALL : Fld := ⟨A.CORE_ISA, 15, 8⟩
@[reducible] def F.CORE_ISA.STAGE : Fld := ⟨A.CORE_ISA, 7, 0⟩
@[reducible] def F.CORE_FAULT_SUM.CORE : Fld := ⟨A.CORE_FAULT_SUM, 15, 0⟩
@[reducible] def F.CORE_FAULT_SEL.LCORE : Fld := ⟨A.CORE_FAULT_SEL, 3, 0⟩
@[reducible] def F.CORE_FAULT_INFO.KIND : Fld := ⟨A.CORE_FAULT_INFO, 31, 24⟩
@[reducible] def F.CORE_FAULT_INFO.CLASS : Fld := ⟨A.CORE_FAULT_INFO, 22, 20⟩
@[reducible] def F.CORE_FAULT_INFO.TASK : Fld := ⟨A.CORE_FAULT_INFO, 9, 0⟩
@[reducible] def F.CORE_FAULT_PC.PC : Fld := ⟨A.CORE_FAULT_PC, 17, 0⟩
@[reducible] def F.CORE_FAULT_TICK_LO.TICK : Fld := ⟨A.CORE_FAULT_TICK_LO, 31, 0⟩
@[reducible] def F.CORE_FAULT_TICK_HI.TICK : Fld := ⟨A.CORE_FAULT_TICK_HI, 31, 0⟩
@[reducible] def F.CORE_FAULT_COUNT.COUNT : Fld := ⟨A.CORE_FAULT_COUNT, 15, 0⟩
@[reducible] def F.CORE_TASK_SEL.TASK : Fld := ⟨A.CORE_TASK_SEL, 9, 0⟩
@[reducible] def F.CORE_TASK_STATE.VALID : Fld := ⟨A.CORE_TASK_STATE, 31, 31⟩
@[reducible] def F.CORE_TASK_STATE.LCORE : Fld := ⟨A.CORE_TASK_STATE, 19, 16⟩
@[reducible] def F.CORE_TASK_STATE.CLASS : Fld := ⟨A.CORE_TASK_STATE, 14, 12⟩
@[reducible] def F.CORE_TASK_STATE.DISABLED : Fld := ⟨A.CORE_TASK_STATE, 8, 8⟩
@[reducible] def F.CORE_TASK_STATE.CONSEC : Fld := ⟨A.CORE_TASK_STATE, 7, 0⟩
@[reducible] def F.CORE_TASK_EN.KEY : Fld := ⟨A.CORE_TASK_EN, 31, 16⟩
@[reducible] def F.CORE_TASK_EN.EN : Fld := ⟨A.CORE_TASK_EN, 0, 0⟩
@[reducible] def F.CHK_CTRL.ODD_LIMIT : Fld := ⟨A.CHK_CTRL, 7, 0⟩
@[reducible] def F.CHK_STATUS.MODE_CONFLICT : Fld := ⟨A.CHK_STATUS, 8, 8⟩
@[reducible] def F.CHK_STATUS.DEGRADED : Fld := ⟨A.CHK_STATUS, 7, 7⟩
@[reducible] def F.CHK_STATUS.SPLIT_ALLOWED : Fld := ⟨A.CHK_STATUS, 6, 6⟩
@[reducible] def F.CHK_STATUS.UNCLEAN : Fld := ⟨A.CHK_STATUS, 5, 5⟩
@[reducible] def F.CHK_STATUS.VERDICT_QUEUED : Fld := ⟨A.CHK_STATUS, 4, 4⟩
@[reducible] def F.CHK_STATUS.VERDICT_BUSY : Fld := ⟨A.CHK_STATUS, 3, 3⟩
@[reducible] def F.CHK_STATUS.SPLIT_BUSY : Fld := ⟨A.CHK_STATUS, 2, 2⟩
@[reducible] def F.CHK_STATUS.MODE : Fld := ⟨A.CHK_STATUS, 1, 0⟩
@[reducible] def F.CHK_MISMATCH.CORE : Fld := ⟨A.CHK_MISMATCH, 15, 0⟩
@[reducible] def F.CHK_UNRESOLVED.CORE : Fld := ⟨A.CHK_UNRESOLVED, 15, 0⟩
@[reducible] def F.CHK_MISMATCH_INFO.KIND : Fld := ⟨A.CHK_MISMATCH_INFO, 31, 28⟩
@[reducible] def F.CHK_MISMATCH_INFO.LCORE : Fld := ⟨A.CHK_MISMATCH_INFO, 27, 24⟩
@[reducible] def F.CHK_MISMATCH_INFO.MEMBER : Fld := ⟨A.CHK_MISMATCH_INFO, 23, 22⟩
@[reducible] def F.CHK_MISMATCH_INFO.CLASS : Fld := ⟨A.CHK_MISMATCH_INFO, 12, 10⟩
@[reducible] def F.CHK_MISMATCH_INFO.TASK : Fld := ⟨A.CHK_MISMATCH_INFO, 9, 0⟩
@[reducible] def F.CHK_VERDICT.COUNT : Fld := ⟨A.CHK_VERDICT, 31, 16⟩
@[reducible] def F.CHK_VERDICT.TRIGGER : Fld := ⟨A.CHK_VERDICT, 5, 4⟩
@[reducible] def F.CHK_VERDICT.PART : Fld := ⟨A.CHK_VERDICT, 3, 2⟩
@[reducible] def F.CHK_VERDICT.RESULT : Fld := ⟨A.CHK_VERDICT, 1, 0⟩
@[reducible] def F.CHK_SPLIT.KEY : Fld := ⟨A.CHK_SPLIT, 31, 16⟩
@[reducible] def F.CHK_SPLIT.LCORE : Fld := ⟨A.CHK_SPLIT, 5, 2⟩
@[reducible] def F.CHK_SPLIT.HALF : Fld := ⟨A.CHK_SPLIT, 1, 1⟩
@[reducible] def F.CHK_SPLIT.REQ : Fld := ⟨A.CHK_SPLIT, 0, 0⟩
@[reducible] def F.CHK_SPLIT_STATUS.REMAIN : Fld := ⟨A.CHK_SPLIT_STATUS, 31, 24⟩
@[reducible] def F.CHK_SPLIT_STATUS.LCORE : Fld := ⟨A.CHK_SPLIT_STATUS, 11, 8⟩
@[reducible] def F.CHK_SPLIT_STATUS.HALF : Fld := ⟨A.CHK_SPLIT_STATUS, 7, 7⟩
@[reducible] def F.CHK_SPLIT_STATUS.PASS : Fld := ⟨A.CHK_SPLIT_STATUS, 6, 6⟩
@[reducible] def F.CHK_SPLIT_STATUS.LAST_REQ : Fld := ⟨A.CHK_SPLIT_STATUS, 5, 4⟩
@[reducible] def F.CHK_SPLIT_STATUS.STATE : Fld := ⟨A.CHK_SPLIT_STATUS, 1, 0⟩
@[reducible] def F.CHK_ODD.EXCLUDED : Fld := ⟨A.CHK_ODD, 14, 0⟩
@[reducible] def F.HOOD_CTRL.DEFER_LIMIT : Fld := ⟨A.HOOD_CTRL, 23, 16⟩
@[reducible] def F.HOOD_CTRL.LEAD : Fld := ⟨A.HOOD_CTRL, 15, 0⟩
@[reducible] def F.HOOD_STATUS.DEFERRALS : Fld := ⟨A.HOOD_STATUS, 15, 8⟩
@[reducible] def F.HOOD_STATUS.STATE : Fld := ⟨A.HOOD_STATUS, 2, 0⟩
@[reducible] def F.HOOD_RUN_SEQ.SEQ : Fld := ⟨A.HOOD_RUN_SEQ, 31, 0⟩
@[reducible] def F.HOOD_STAGED_SEQ.SEQ : Fld := ⟨A.HOOD_STAGED_SEQ, 31, 0⟩
@[reducible] def F.HOOD_SWITCH_LO.TICK : Fld := ⟨A.HOOD_SWITCH_LO, 31, 0⟩
@[reducible] def F.HOOD_SWITCH_HI.TICK : Fld := ⟨A.HOOD_SWITCH_HI, 31, 0⟩
@[reducible] def F.HOOD_CARRY.MISMATCH : Fld := ⟨A.HOOD_CARRY, 31, 16⟩
@[reducible] def F.HOOD_CARRY.COPIED : Fld := ⟨A.HOOD_CARRY, 15, 0⟩
@[reducible] def F.HOOD_ERROR.CAUSE : Fld := ⟨A.HOOD_ERROR, 3, 0⟩
@[reducible] def F.SHAFT_CFG.AXES : Fld := ⟨A.SHAFT_CFG, 26, 16⟩
@[reducible] def F.SHAFT_CFG.MASTERS : Fld := ⟨A.SHAFT_CFG, 5, 0⟩
@[reducible] def F.SHAFT_EVENT.LANE_MISMATCH : Fld := ⟨A.SHAFT_EVENT, 3, 3⟩
@[reducible] def F.SHAFT_EVENT.MARK_REJECT : Fld := ⟨A.SHAFT_EVENT, 2, 2⟩
@[reducible] def F.SHAFT_EVENT.AXIS_FAULT : Fld := ⟨A.SHAFT_EVENT, 1, 1⟩
@[reducible] def F.SHAFT_EVENT.MASTER_EMERG : Fld := ⟨A.SHAFT_EVENT, 0, 0⟩
@[reducible] def F.SHAFT_MASTER_SEL.MASTER : Fld := ⟨A.SHAFT_MASTER_SEL, 4, 0⟩
@[reducible] def F.SHAFT_MASTER_STATE.VALID : Fld := ⟨A.SHAFT_MASTER_STATE, 31, 31⟩
@[reducible] def F.SHAFT_MASTER_STATE.QUAL : Fld := ⟨A.SHAFT_MASTER_STATE, 5, 4⟩
@[reducible] def F.SHAFT_MASTER_STATE.EMERG : Fld := ⟨A.SHAFT_MASTER_STATE, 2, 2⟩
@[reducible] def F.SHAFT_MASTER_STATE.SOURCE : Fld := ⟨A.SHAFT_MASTER_STATE, 0, 0⟩
@[reducible] def F.SHAFT_MASTER_POS_LO.POS : Fld := ⟨A.SHAFT_MASTER_POS_LO, 31, 0⟩
@[reducible] def F.SHAFT_MASTER_POS_HI.POS : Fld := ⟨A.SHAFT_MASTER_POS_HI, 31, 0⟩
@[reducible] def F.SHAFT_MASTER_VEL_LO.VEL : Fld := ⟨A.SHAFT_MASTER_VEL_LO, 31, 0⟩
@[reducible] def F.SHAFT_MASTER_VEL_HI.VEL : Fld := ⟨A.SHAFT_MASTER_VEL_HI, 31, 0⟩
@[reducible] def F.SHAFT_AXIS_SEL.AXIS : Fld := ⟨A.SHAFT_AXIS_SEL, 9, 0⟩
@[reducible] def F.SHAFT_AXIS_STATE.VALID : Fld := ⟨A.SHAFT_AXIS_STATE, 31, 31⟩
@[reducible] def F.SHAFT_AXIS_STATE.MASTER : Fld := ⟨A.SHAFT_AXIS_STATE, 28, 24⟩
@[reducible] def F.SHAFT_AXIS_STATE.MODE : Fld := ⟨A.SHAFT_AXIS_STATE, 17, 16⟩
@[reducible] def F.SHAFT_AXIS_STATE.QUAL : Fld := ⟨A.SHAFT_AXIS_STATE, 13, 12⟩
@[reducible] def F.SHAFT_AXIS_STATE.FERR_CNT : Fld := ⟨A.SHAFT_AXIS_STATE, 7, 0⟩
@[reducible] def F.SHAFT_AXIS_POS_LO.POS : Fld := ⟨A.SHAFT_AXIS_POS_LO, 31, 0⟩
@[reducible] def F.SHAFT_AXIS_POS_HI.POS : Fld := ⟨A.SHAFT_AXIS_POS_HI, 31, 0⟩
@[reducible] def F.SHAFT_AXIS_MTRIM_LO.MTRIM : Fld := ⟨A.SHAFT_AXIS_MTRIM_LO, 31, 0⟩
@[reducible] def F.SHAFT_AXIS_MTRIM_HI.MTRIM : Fld := ⟨A.SHAFT_AXIS_MTRIM_HI, 31, 0⟩
@[reducible] def F.SHAFT_AXIS_MARK.LOST : Fld := ⟨A.SHAFT_AXIS_MARK, 31, 24⟩
@[reducible] def F.SHAFT_AXIS_MARK.REJECTED : Fld := ⟨A.SHAFT_AXIS_MARK, 23, 16⟩
@[reducible] def F.SHAFT_AXIS_MARK.ACCEPTED : Fld := ⟨A.SHAFT_AXIS_MARK, 15, 0⟩
@[reducible] def F.SHAFT_AXIS_FERR.FERR : Fld := ⟨A.SHAFT_AXIS_FERR, 31, 0⟩
@[reducible] def F.FAB_RING_EN_LO.RING : Fld := ⟨A.FAB_RING_EN_LO, 31, 0⟩
@[reducible] def F.FAB_RING_EN_HI.RING : Fld := ⟨A.FAB_RING_EN_HI, 15, 0⟩
@[reducible] def F.FAB_POINTS.POINTS : Fld := ⟨A.FAB_POINTS, 18, 0⟩
@[reducible] def F.RING_CTRL.ACYC_TIMEOUT : Fld := ⟨A.RING_CTRL, 15, 8⟩
@[reducible] def F.RING_CTRL.CAUSEWAY_REQ : Fld := ⟨A.RING_CTRL, 0, 0⟩
@[reducible] def F.RING_CFG.STALE_LIMIT : Fld := ⟨A.RING_CFG, 23, 16⟩
@[reducible] def F.RING_CFG.WRAP_COVERED : Fld := ⟨A.RING_CFG, 15, 15⟩
@[reducible] def F.RING_CFG.CELLS : Fld := ⟨A.RING_CFG, 11, 8⟩
@[reducible] def F.RING_CFG.STATIONS : Fld := ⟨A.RING_CFG, 6, 0⟩
@[reducible] def F.RING_STATUS.UNTRACKED : Fld := ⟨A.RING_STATUS, 31, 24⟩
@[reducible] def F.RING_STATUS.WRAP_AT : Fld := ⟨A.RING_STATUS, 23, 16⟩
@[reducible] def F.RING_STATUS.MISWIRED : Fld := ⟨A.RING_STATUS, 8, 8⟩
@[reducible] def F.RING_STATUS.COUNT_MISMATCH : Fld := ⟨A.RING_STATUS, 7, 7⟩
@[reducible] def F.RING_STATUS.LATE : Fld := ⟨A.RING_STATUS, 6, 6⟩
@[reducible] def F.RING_STATUS.WRAP : Fld := ⟨A.RING_STATUS, 5, 5⟩
@[reducible] def F.RING_STATUS.CAUSEWAY : Fld := ⟨A.RING_STATUS, 4, 4⟩
@[reducible] def F.RING_STATUS.LOCK_ODD : Fld := ⟨A.RING_STATUS, 1, 1⟩
@[reducible] def F.RING_STATUS.LOCK_EVEN : Fld := ⟨A.RING_STATUS, 0, 0⟩
@[reducible] def F.RING_RETURN.PEAK : Fld := ⟨A.RING_RETURN, 31, 16⟩
@[reducible] def F.RING_RETURN.LAST : Fld := ⟨A.RING_RETURN, 15, 0⟩
@[reducible] def F.RING_ERR.LOCK_LOSS : Fld := ⟨A.RING_ERR, 31, 24⟩
@[reducible] def F.RING_ERR.HDR : Fld := ⟨A.RING_ERR, 23, 16⟩
@[reducible] def F.RING_ERR.CELL : Fld := ⟨A.RING_ERR, 15, 0⟩
@[reducible] def F.RING_ACYC.OUTSTANDING : Fld := ⟨A.RING_ACYC, 24, 16⟩
@[reducible] def F.RING_ACYC.STALE_REPLY : Fld := ⟨A.RING_ACYC, 15, 8⟩
@[reducible] def F.RING_ACYC.TIMEOUT : Fld := ⟨A.RING_ACYC, 7, 0⟩
@[reducible] def F.RING_STN_SEL.STATION : Fld := ⟨A.RING_STN_SEL, 5, 0⟩
@[reducible] def F.RING_STN_STATE.VALID : Fld := ⟨A.RING_STN_STATE, 31, 31⟩
@[reducible] def F.RING_STN_STATE.PRESENT : Fld := ⟨A.RING_STN_STATE, 30, 30⟩
@[reducible] def F.RING_STN_STATE.SAFE : Fld := ⟨A.RING_STN_STATE, 29, 29⟩
@[reducible] def F.RING_STN_STATE.SHADOW_OK : Fld := ⟨A.RING_STN_STATE, 28, 28⟩
@[reducible] def F.RING_STN_STATE.WRAPPING : Fld := ⟨A.RING_STN_STATE, 27, 27⟩
@[reducible] def F.RING_STN_STATE.STALE_CNT : Fld := ⟨A.RING_STN_STATE, 7, 0⟩
@[reducible] def F.RING_STN_LATE.LATE : Fld := ⟨A.RING_STN_LATE, 15, 0⟩
@[reducible] def F.STRAIT_STATUS.PARTNER_STATE : Fld := ⟨A.STRAIT_STATUS, 31, 29⟩
@[reducible] def F.STRAIT_STATUS.COPY : Fld := ⟨A.STRAIT_STATUS, 18, 16⟩
@[reducible] def F.STRAIT_STATUS.CMP_SUSPENDED : Fld := ⟨A.STRAIT_STATUS, 11, 11⟩
@[reducible] def F.STRAIT_STATUS.IN_STEP : Fld := ⟨A.STRAIT_STATUS, 10, 10⟩
@[reducible] def F.STRAIT_STATUS.TRAINED : Fld := ⟨A.STRAIT_STATUS, 9, 9⟩
@[reducible] def F.STRAIT_STATUS.LANES_UP : Fld := ⟨A.STRAIT_STATUS, 7, 0⟩
@[reducible] def F.STRAIT_ERR.STALE_EPOCH : Fld := ⟨A.STRAIT_ERR, 31, 24⟩
@[reducible] def F.STRAIT_ERR.COMMIT_MISS : Fld := ⟨A.STRAIT_ERR, 23, 16⟩
@[reducible] def F.STRAIT_ERR.MSG_CRC : Fld := ⟨A.STRAIT_ERR, 15, 0⟩
@[reducible] def F.STRAIT_COPY.FAILS : Fld := ⟨A.STRAIT_COPY, 31, 24⟩
@[reducible] def F.STRAIT_COPY.ROUND : Fld := ⟨A.STRAIT_COPY, 23, 16⟩
@[reducible] def F.STRAIT_COPY.DIRTY_KIB : Fld := ⟨A.STRAIT_COPY, 15, 0⟩
@[reducible] def F.STRAIT_DIGEST_LO.DIGEST : Fld := ⟨A.STRAIT_DIGEST_LO, 31, 0⟩
@[reducible] def F.STRAIT_DIGEST_HI.DIGEST : Fld := ⟨A.STRAIT_DIGEST_HI, 31, 0⟩
@[reducible] def F.STRAIT_PDIGEST_LO.DIGEST : Fld := ⟨A.STRAIT_PDIGEST_LO, 31, 0⟩
@[reducible] def F.STRAIT_PDIGEST_HI.DIGEST : Fld := ⟨A.STRAIT_PDIGEST_HI, 31, 0⟩
@[reducible] def F.CROWN_OWN.CROWN : Fld := ⟨A.CROWN_OWN, 31, 0⟩
@[reducible] def F.CROWN_PARTNER.CROWN : Fld := ⟨A.CROWN_PARTNER, 31, 0⟩
@[reducible] def F.CROWN_STATUS.DUAL_HOLD : Fld := ⟨A.CROWN_STATUS, 6, 6⟩
@[reducible] def F.CROWN_STATUS.LINE_FAULT : Fld := ⟨A.CROWN_STATUS, 5, 5⟩
@[reducible] def F.CROWN_STATUS.UNSYNC_TAKEOVER : Fld := ⟨A.CROWN_STATUS, 4, 4⟩
@[reducible] def F.CROWN_STATUS.YIELD_PENDING : Fld := ⟨A.CROWN_STATUS, 3, 3⟩
@[reducible] def F.CROWN_STATUS.CLH_IN : Fld := ⟨A.CROWN_STATUS, 2, 2⟩
@[reducible] def F.CROWN_STATUS.CLA_TOGGLED : Fld := ⟨A.CROWN_STATUS, 1, 1⟩
@[reducible] def F.CROWN_STATUS.CLH_OUT : Fld := ⟨A.CROWN_STATUS, 0, 0⟩
@[reducible] def F.CROWN_EVENT.RAISE_REFUSED : Fld := ⟨A.CROWN_EVENT, 4, 4⟩
@[reducible] def F.CROWN_EVENT.STALE_EPOCH : Fld := ⟨A.CROWN_EVENT, 3, 3⟩
@[reducible] def F.CROWN_EVENT.SWAP : Fld := ⟨A.CROWN_EVENT, 2, 2⟩
@[reducible] def F.CROWN_EVENT.YIELD : Fld := ⟨A.CROWN_EVENT, 1, 1⟩
@[reducible] def F.CROWN_EVENT.TAKEOVER : Fld := ⟨A.CROWN_EVENT, 0, 0⟩
@[reducible] def F.CROWN_CTRL.KEY : Fld := ⟨A.CROWN_CTRL, 31, 16⟩
@[reducible] def F.CROWN_CTRL.SWAP_REQ : Fld := ⟨A.CROWN_CTRL, 0, 0⟩
@[reducible] def F.CROWN_STORED.EPOCH : Fld := ⟨A.CROWN_STORED, 23, 0⟩
@[reducible] def F.TIME_CTRL.JUMP : Fld := ⟨A.TIME_CTRL, 25, 16⟩
@[reducible] def F.TIME_CTRL.HOLDOFF : Fld := ⟨A.TIME_CTRL, 15, 6⟩
@[reducible] def F.TIME_CTRL.BW : Fld := ⟨A.TIME_CTRL, 5, 4⟩
@[reducible] def F.TIME_SERVO.MAX_PPM : Fld := ⟨A.TIME_SERVO, 31, 24⟩
@[reducible] def F.TIME_SERVO.SLEW_PPM : Fld := ⟨A.TIME_SERVO, 23, 16⟩
@[reducible] def F.TIME_SERVO.FSTEP : Fld := ⟨A.TIME_SERVO, 15, 0⟩
@[reducible] def F.TIME_STATUS.PEND : Fld := ⟨A.TIME_STATUS, 15, 12⟩
@[reducible] def F.TIME_STATUS.ACQ_SRC : Fld := ⟨A.TIME_STATUS, 9, 8⟩
@[reducible] def F.TIME_STATUS.REF : Fld := ⟨A.TIME_STATUS, 7, 4⟩
@[reducible] def F.TIME_STATUS.SWITCH : Fld := ⟨A.TIME_STATUS, 3, 2⟩
@[reducible] def F.TIME_STATUS.HOLDOVER : Fld := ⟨A.TIME_STATUS, 1, 1⟩
@[reducible] def F.TIME_STATUS.ACQUIRED : Fld := ⟨A.TIME_STATUS, 0, 0⟩
@[reducible] def F.TIME_EVENT.RING_DELAY_STALE : Fld := ⟨A.TIME_EVENT, 8, 8⟩
@[reducible] def F.TIME_EVENT.CAP_OVERRUN : Fld := ⟨A.TIME_EVENT, 7, 7⟩
@[reducible] def F.TIME_EVENT.TRIG_MISSED : Fld := ⟨A.TIME_EVENT, 6, 6⟩
@[reducible] def F.TIME_EVENT.RATE_LIMIT : Fld := ⟨A.TIME_EVENT, 5, 5⟩
@[reducible] def F.TIME_EVENT.HOLDOVER_ENTERED : Fld := ⟨A.TIME_EVENT, 4, 4⟩
@[reducible] def F.TIME_EVENT.RETURN_DONE : Fld := ⟨A.TIME_EVENT, 3, 3⟩
@[reducible] def F.TIME_EVENT.SWITCH_COMMITTED : Fld := ⟨A.TIME_EVENT, 2, 2⟩
@[reducible] def F.TIME_EVENT.SWITCH_CANCELLED : Fld := ⟨A.TIME_EVENT, 1, 1⟩
@[reducible] def F.TIME_EVENT.JUMP_REFUSED : Fld := ⟨A.TIME_EVENT, 0, 0⟩
@[reducible] def F.TIME_NOW_LO.NS : Fld := ⟨A.TIME_NOW_LO, 31, 0⟩
@[reducible] def F.TIME_NOW_HI.NS : Fld := ⟨A.TIME_NOW_HI, 31, 0⟩
@[reducible] def F.TIME_NOW_FRAC.FRAC : Fld := ⟨A.TIME_NOW_FRAC, 7, 0⟩
@[reducible] def F.TIME_OFFSET.OFFSET : Fld := ⟨A.TIME_OFFSET, 31, 0⟩
@[reducible] def F.TIME_RATE.R : Fld := ⟨A.TIME_RATE, 31, 0⟩
@[reducible] def F.TIME_PTP.PRIO1 : Fld := ⟨A.TIME_PTP, 31, 24⟩
@[reducible] def F.TIME_PTP.PRIO2 : Fld := ⟨A.TIME_PTP, 23, 16⟩
@[reducible] def F.TIME_PTP.PROFILE : Fld := ⟨A.TIME_PTP, 9, 8⟩
@[reducible] def F.TIME_PTP.DOMAIN : Fld := ⟨A.TIME_PTP, 7, 0⟩
@[reducible] def F.TIME_PORT_SEL.PORT : Fld := ⟨A.TIME_PORT_SEL, 6, 0⟩
@[reducible] def F.TIME_PORT_CFG.PORT_STATE : Fld := ⟨A.TIME_PORT_CFG, 7, 4⟩
@[reducible] def F.TIME_PORT_CFG.STEP : Fld := ⟨A.TIME_PORT_CFG, 3, 3⟩
@[reducible] def F.TIME_PORT_CFG.ROLE : Fld := ⟨A.TIME_PORT_CFG, 1, 0⟩
@[reducible] def F.TIME_PORT_ASYM_IN.ASYM : Fld := ⟨A.TIME_PORT_ASYM_IN, 23, 0⟩
@[reducible] def F.TIME_PORT_ASYM_OUT.ASYM : Fld := ⟨A.TIME_PORT_ASYM_OUT, 23, 0⟩
@[reducible] def F.TIME_TRIG_SEL.TRIG : Fld := ⟨A.TIME_TRIG_SEL, 5, 0⟩
@[reducible] def F.TIME_TRIG_CTRL.STATE : Fld := ⟨A.TIME_TRIG_CTRL, 17, 16⟩
@[reducible] def F.TIME_TRIG_CTRL.TARGET : Fld := ⟨A.TIME_TRIG_CTRL, 15, 8⟩
@[reducible] def F.TIME_TRIG_CTRL.CLASS : Fld := ⟨A.TIME_TRIG_CTRL, 6, 4⟩
@[reducible] def F.TIME_TRIG_CTRL.MODE : Fld := ⟨A.TIME_TRIG_CTRL, 2, 1⟩
@[reducible] def F.TIME_TRIG_CTRL.ARM : Fld := ⟨A.TIME_TRIG_CTRL, 0, 0⟩
@[reducible] def F.TIME_TRIG_T_LO.T : Fld := ⟨A.TIME_TRIG_T_LO, 31, 0⟩
@[reducible] def F.TIME_TRIG_T_HI.T : Fld := ⟨A.TIME_TRIG_T_HI, 31, 0⟩
@[reducible] def F.TIME_TRIG_PERIOD.PERIOD : Fld := ⟨A.TIME_TRIG_PERIOD, 31, 0⟩
@[reducible] def F.TIME_CAP_SEL.CAP : Fld := ⟨A.TIME_CAP_SEL, 4, 0⟩
@[reducible] def F.TIME_CAP_CTRL.OVERRUN : Fld := ⟨A.TIME_CAP_CTRL, 17, 17⟩
@[reducible] def F.TIME_CAP_CTRL.NEW : Fld := ⟨A.TIME_CAP_CTRL, 16, 16⟩
@[reducible] def F.TIME_CAP_CTRL.EDGE : Fld := ⟨A.TIME_CAP_CTRL, 9, 8⟩
@[reducible] def F.TIME_CAP_CTRL.SOURCE : Fld := ⟨A.TIME_CAP_CTRL, 7, 0⟩
@[reducible] def F.TIME_CAP_T_LO.NS : Fld := ⟨A.TIME_CAP_T_LO, 31, 0⟩
@[reducible] def F.TIME_CAP_T_HI.NS : Fld := ⟨A.TIME_CAP_T_HI, 31, 0⟩
@[reducible] def F.TIME_CAP_T_FRAC.FRAC : Fld := ⟨A.TIME_CAP_T_FRAC, 7, 0⟩
@[reducible] def F.NET_PORT_SEL.PORT : Fld := ⟨A.NET_PORT_SEL, 3, 0⟩
@[reducible] def F.NET_PORT_STATUS.VLAN : Fld := ⟨A.NET_PORT_STATUS, 15, 4⟩
@[reducible] def F.NET_PORT_STATUS.SPEED : Fld := ⟨A.NET_PORT_STATUS, 3, 2⟩
@[reducible] def F.NET_PORT_STATUS.LINK : Fld := ⟨A.NET_PORT_STATUS, 0, 0⟩
@[reducible] def F.NET_PORT_RX.FRAMES : Fld := ⟨A.NET_PORT_RX, 31, 0⟩
@[reducible] def F.NET_PORT_TX.FRAMES : Fld := ⟨A.NET_PORT_TX, 31, 0⟩
@[reducible] def F.NET_PORT_DISC.PTP_OPT : Fld := ⟨A.NET_PORT_DISC, 31, 16⟩
@[reducible] def F.NET_PORT_DISC.OTHER : Fld := ⟨A.NET_PORT_DISC, 15, 0⟩
@[reducible] def F.CMD_CTRL.IDLE : Fld := ⟨A.CMD_CTRL, 11, 0⟩
@[reducible] def F.CMD_STATUS.OPEN : Fld := ⟨A.CMD_STATUS, 20, 16⟩
@[reducible] def F.CMD_STATUS.HALF : Fld := ⟨A.CMD_STATUS, 12, 8⟩
@[reducible] def F.CMD_STATUS.TAMPER_REFUSE : Fld := ⟨A.CMD_STATUS, 0, 0⟩
@[reducible] def F.CMD_ERR.AUTH : Fld := ⟨A.CMD_ERR, 31, 24⟩
@[reducible] def F.CMD_ERR.STALE : Fld := ⟨A.CMD_ERR, 23, 16⟩
@[reducible] def F.CMD_ERR.BUSY : Fld := ⟨A.CMD_ERR, 15, 8⟩
@[reducible] def F.CMD_ERR.MALFORMED : Fld := ⟨A.CMD_ERR, 7, 0⟩
@[reducible] def F.CMD_SESS_SEL.SLOT : Fld := ⟨A.CMD_SESS_SEL, 3, 0⟩
@[reducible] def F.CMD_SESS_ID.ID : Fld := ⟨A.CMD_SESS_ID, 31, 0⟩
@[reducible] def F.CMD_SESS_STATE.STATE : Fld := ⟨A.CMD_SESS_STATE, 31, 30⟩
@[reducible] def F.CMD_SESS_STATE.KEY_SLOT : Fld := ⟨A.CMD_SESS_STATE, 26, 24⟩
@[reducible] def F.CMD_SESS_STATE.PORT : Fld := ⟨A.CMD_SESS_STATE, 19, 16⟩
@[reducible] def F.CMD_SESS_STATE.QUEUE : Fld := ⟨A.CMD_SESS_STATE, 11, 8⟩
@[reducible] def F.CMD_SESS_H.H : Fld := ⟨A.CMD_SESS_H, 31, 0⟩
@[reducible] def F.JNL_NEXT_LO.JSEQ : Fld := ⟨A.JNL_NEXT_LO, 31, 0⟩
@[reducible] def F.JNL_NEXT_HI.JSEQ : Fld := ⟨A.JNL_NEXT_HI, 31, 0⟩
@[reducible] def F.JNL_STATUS.BAD : Fld := ⟨A.JNL_STATUS, 31, 24⟩
@[reducible] def F.JNL_STATUS.FILL : Fld := ⟨A.JNL_STATUS, 16, 0⟩
@[reducible] def F.CFG_STATUS.STEP : Fld := ⟨A.CFG_STATUS, 11, 8⟩
@[reducible] def F.CFG_STATUS.BANK_OP : Fld := ⟨A.CFG_STATUS, 7, 7⟩
@[reducible] def F.CFG_STATUS.RECORD_BAD : Fld := ⟨A.CFG_STATUS, 3, 3⟩
@[reducible] def F.CFG_STATUS.FALLBACK : Fld := ⟨A.CFG_STATUS, 2, 2⟩
@[reducible] def F.CFG_STATUS.LOADED : Fld := ⟨A.CFG_STATUS, 1, 1⟩
@[reducible] def F.CFG_STATUS.ACTIVE : Fld := ⟨A.CFG_STATUS, 0, 0⟩
@[reducible] def F.CFG_BANK0.FREE : Fld := ⟨A.CFG_BANK0, 25, 16⟩
@[reducible] def F.CFG_BANK0.ACTIVATED : Fld := ⟨A.CFG_BANK0, 3, 3⟩
@[reducible] def F.CFG_BANK0.STATE : Fld := ⟨A.CFG_BANK0, 2, 0⟩
@[reducible] def F.CFG_BANK1.FREE : Fld := ⟨A.CFG_BANK1, 25, 16⟩
@[reducible] def F.CFG_BANK1.ACTIVATED : Fld := ⟨A.CFG_BANK1, 3, 3⟩
@[reducible] def F.CFG_BANK1.STATE : Fld := ⟨A.CFG_BANK1, 2, 0⟩
@[reducible] def F.CFG_SEQ0.SEQ : Fld := ⟨A.CFG_SEQ0, 31, 0⟩
@[reducible] def F.CFG_SEQ1.SEQ : Fld := ⟨A.CFG_SEQ1, 31, 0⟩
@[reducible] def F.CFG_PROGRESS.MIB : Fld := ⟨A.CFG_PROGRESS, 11, 0⟩
@[reducible] def F.CFG_ERR.LOAD : Fld := ⟨A.CFG_ERR, 31, 24⟩
@[reducible] def F.CFG_ERR.READBACK : Fld := ⟨A.CFG_ERR, 23, 16⟩
@[reducible] def F.CFG_ERR.PROGRAM : Fld := ⟨A.CFG_ERR, 15, 8⟩
@[reducible] def F.CFG_ERR.ERASE : Fld := ⟨A.CFG_ERR, 7, 0⟩
@[reducible] def F.CFG_FLASH_DATA.DATA : Fld := ⟨A.CFG_FLASH_DATA, 31, 0⟩
@[reducible] def F.MEM_STATUS.RETAINED_SRC : Fld := ⟨A.MEM_STATUS, 8, 7⟩
@[reducible] def F.MEM_STATUS.SEGMENT_QUEUED : Fld := ⟨A.MEM_STATUS, 6, 6⟩
@[reducible] def F.MEM_STATUS.SCRUB_BUSY : Fld := ⟨A.MEM_STATUS, 5, 5⟩
@[reducible] def F.MEM_STATUS.FLUSH_BUSY : Fld := ⟨A.MEM_STATUS, 4, 4⟩
@[reducible] def F.MEM_STATUS.INIT_DONE : Fld := ⟨A.MEM_STATUS, 0, 0⟩
@[reducible] def F.MEM_SCRUB.SEGMENT : Fld := ⟨A.MEM_SCRUB, 31, 24⟩
@[reducible] def F.MEM_SCRUB.PERIOD : Fld := ⟨A.MEM_SCRUB, 7, 0⟩
@[reducible] def F.MEM_ECC_CE.MRAM : Fld := ⟨A.MEM_ECC_CE, 31, 24⟩
@[reducible] def F.MEM_ECC_CE.DRAM : Fld := ⟨A.MEM_ECC_CE, 23, 8⟩
@[reducible] def F.MEM_ECC_CE.SRAM : Fld := ⟨A.MEM_ECC_CE, 7, 0⟩
@[reducible] def F.MEM_ECC_UE.SKERRY : Fld := ⟨A.MEM_ECC_UE, 31, 24⟩
@[reducible] def F.MEM_ECC_UE.MRAM : Fld := ⟨A.MEM_ECC_UE, 23, 16⟩
@[reducible] def F.MEM_ECC_UE.DRAM : Fld := ⟨A.MEM_ECC_UE, 15, 8⟩
@[reducible] def F.MEM_ECC_UE.SRAM : Fld := ⟨A.MEM_ECC_UE, 7, 0⟩
@[reducible] def F.MEM_UE_ADDR_LO.ADDR : Fld := ⟨A.MEM_UE_ADDR_LO, 31, 0⟩
@[reducible] def F.MEM_UE_ADDR_HI.ADDR : Fld := ⟨A.MEM_UE_ADDR_HI, 31, 0⟩
@[reducible] def F.MEM_EVENT.RETAINED_INIT : Fld := ⟨A.MEM_EVENT, 1, 1⟩
@[reducible] def F.MEM_EVENT.UE : Fld := ⟨A.MEM_EVENT, 0, 0⟩
@[reducible] def F.GUARD_SEL.REGION : Fld := ⟨A.GUARD_SEL, 12, 8⟩
@[reducible] def F.GUARD_SEL.REQ : Fld := ⟨A.GUARD_SEL, 5, 0⟩
@[reducible] def F.GUARD_BASE_LO.BASE : Fld := ⟨A.GUARD_BASE_LO, 31, 6⟩
@[reducible] def F.GUARD_BASE_HI.BASE : Fld := ⟨A.GUARD_BASE_HI, 3, 0⟩
@[reducible] def F.GUARD_ATTR.EN : Fld := ⟨A.GUARD_ATTR, 10, 10⟩
@[reducible] def F.GUARD_ATTR.W : Fld := ⟨A.GUARD_ATTR, 9, 9⟩
@[reducible] def F.GUARD_ATTR.R : Fld := ⟨A.GUARD_ATTR, 8, 8⟩
@[reducible] def F.GUARD_ATTR.SIZE : Fld := ⟨A.GUARD_ATTR, 7, 0⟩
@[reducible] def F.GUARD_APPLY.KEY : Fld := ⟨A.GUARD_APPLY, 31, 16⟩
@[reducible] def F.GUARD_APPLY.GO : Fld := ⟨A.GUARD_APPLY, 0, 0⟩
@[reducible] def F.GUARD_STATUS.CAUSE : Fld := ⟨A.GUARD_STATUS, 22, 21⟩
@[reducible] def F.GUARD_STATUS.WRITE : Fld := ⟨A.GUARD_STATUS, 20, 20⟩
@[reducible] def F.GUARD_STATUS.REQ : Fld := ⟨A.GUARD_STATUS, 19, 14⟩
@[reducible] def F.GUARD_STATUS.APPLY_ERR : Fld := ⟨A.GUARD_STATUS, 1, 1⟩
@[reducible] def F.GUARD_STATUS.REFUSED : Fld := ⟨A.GUARD_STATUS, 0, 0⟩
@[reducible] def F.GUARD_FAULT_LO.ADDR : Fld := ⟨A.GUARD_FAULT_LO, 31, 0⟩
@[reducible] def F.GUARD_FAULT_HI.ADDR : Fld := ⟨A.GUARD_FAULT_HI, 31, 0⟩
@[reducible] def F.XFER_CTRL.TEST : Fld := ⟨A.XFER_CTRL, 8, 8⟩
@[reducible] def F.XFER_CTRL.BUS_TIMEOUT : Fld := ⟨A.XFER_CTRL, 7, 0⟩
@[reducible] def F.XFER_CMD.KEY : Fld := ⟨A.XFER_CMD, 31, 16⟩
@[reducible] def F.XFER_CMD.ABORT_ALL : Fld := ⟨A.XFER_CMD, 1, 1⟩
@[reducible] def F.XFER_CMD.RESUME : Fld := ⟨A.XFER_CMD, 0, 0⟩
@[reducible] def F.XFER_STATUS.BUS_STOP : Fld := ⟨A.XFER_STATUS, 8, 8⟩
@[reducible] def F.XFER_STATUS.MODE : Fld := ⟨A.XFER_STATUS, 7, 7⟩
@[reducible] def F.XFER_STATUS.CHANNEL : Fld := ⟨A.XFER_STATUS, 4, 0⟩
@[reducible] def F.XFER_DONE.CH : Fld := ⟨A.XFER_DONE, 31, 0⟩
@[reducible] def F.XFER_ERR.CH : Fld := ⟨A.XFER_ERR, 31, 0⟩
@[reducible] def F.XFER_BUS_ADDR_LO.ADDR : Fld := ⟨A.XFER_BUS_ADDR_LO, 31, 0⟩
@[reducible] def F.XFER_BUS_ADDR_HI.ADDR : Fld := ⟨A.XFER_BUS_ADDR_HI, 31, 0⟩
@[reducible] def F.XFER_CH_SEL.CH : Fld := ⟨A.XFER_CH_SEL, 4, 0⟩
@[reducible] def F.XFER_CH_CTRL.PRIO : Fld := ⟨A.XFER_CH_CTRL, 8, 8⟩
@[reducible] def F.XFER_CH_CTRL.ABORT : Fld := ⟨A.XFER_CH_CTRL, 1, 1⟩
@[reducible] def F.XFER_CH_CTRL.START : Fld := ⟨A.XFER_CH_CTRL, 0, 0⟩
@[reducible] def F.XFER_CH_CFG.DESC_LIMIT : Fld := ⟨A.XFER_CH_CFG, 15, 0⟩
@[reducible] def F.XFER_CH_DESC_LO.ADDR : Fld := ⟨A.XFER_CH_DESC_LO, 31, 0⟩
@[reducible] def F.XFER_CH_DESC_HI.ADDR : Fld := ⟨A.XFER_CH_DESC_HI, 31, 0⟩
@[reducible] def F.XFER_CH_STATUS.COUNT : Fld := ⟨A.XFER_CH_STATUS, 31, 16⟩
@[reducible] def F.XFER_CH_STATUS.END : Fld := ⟨A.XFER_CH_STATUS, 11, 8⟩
@[reducible] def F.XFER_CH_STATUS.DIR : Fld := ⟨A.XFER_CH_STATUS, 5, 5⟩
@[reducible] def F.XFER_CH_STATUS.NOTE : Fld := ⟨A.XFER_CH_STATUS, 4, 4⟩
@[reducible] def F.XFER_CH_STATUS.STATE : Fld := ⟨A.XFER_CH_STATUS, 2, 0⟩
@[reducible] def F.XFER_CH_REMAIN.REMAIN : Fld := ⟨A.XFER_CH_REMAIN, 30, 0⟩
@[reducible] def F.XFER_CH_CRC.CRC : Fld := ⟨A.XFER_CH_CRC, 31, 0⟩
@[reducible] def F.ANA_CH_SEL.CH : Fld := ⟨A.ANA_CH_SEL, 4, 0⟩
@[reducible] def F.ANA_CH_CFG.ICLASS : Fld := ⟨A.ANA_CH_CFG, 15, 13⟩
@[reducible] def F.ANA_CH_CFG.ISTART : Fld := ⟨A.ANA_CH_CFG, 12, 11⟩
@[reducible] def F.ANA_CH_CFG.FAIL_EXP : Fld := ⟨A.ANA_CH_CFG, 10, 9⟩
@[reducible] def F.ANA_CH_CFG.HART : Fld := ⟨A.ANA_CH_CFG, 8, 8⟩
@[reducible] def F.ANA_CH_CFG.NE43 : Fld := ⟨A.ANA_CH_CFG, 7, 7⟩
@[reducible] def F.ANA_CH_CFG.INT_T : Fld := ⟨A.ANA_CH_CFG, 6, 5⟩
@[reducible] def F.ANA_CH_CFG.CONV : Fld := ⟨A.ANA_CH_CFG, 4, 4⟩
@[reducible] def F.ANA_CH_CFG.MODE : Fld := ⟨A.ANA_CH_CFG, 3, 0⟩
@[reducible] def F.ANA_CH_STATUS.CAL_DEGRADED : Fld := ⟨A.ANA_CH_STATUS, 14, 14⟩
@[reducible] def F.ANA_CH_STATUS.HART_ERR : Fld := ⟨A.ANA_CH_STATUS, 13, 13⟩
@[reducible] def F.ANA_CH_STATUS.STRAP_FAULT : Fld := ⟨A.ANA_CH_STATUS, 12, 12⟩
@[reducible] def F.ANA_CH_STATUS.STRAP_MISMATCH : Fld := ⟨A.ANA_CH_STATUS, 11, 11⟩
@[reducible] def F.ANA_CH_STATUS.OPEN_LOAD : Fld := ⟨A.ANA_CH_STATUS, 10, 10⟩
@[reducible] def F.ANA_CH_STATUS.WARN : Fld := ⟨A.ANA_CH_STATUS, 9, 9⟩
@[reducible] def F.ANA_CH_STATUS.CLAMPED : Fld := ⟨A.ANA_CH_STATUS, 8, 8⟩
@[reducible] def F.ANA_CH_STATUS.OVERRANGE : Fld := ⟨A.ANA_CH_STATUS, 7, 7⟩
@[reducible] def F.ANA_CH_STATUS.SHORT : Fld := ⟨A.ANA_CH_STATUS, 6, 6⟩
@[reducible] def F.ANA_CH_STATUS.FAIL_HIGH : Fld := ⟨A.ANA_CH_STATUS, 5, 5⟩
@[reducible] def F.ANA_CH_STATUS.BAND_HIGH : Fld := ⟨A.ANA_CH_STATUS, 4, 4⟩
@[reducible] def F.ANA_CH_STATUS.BAND_LOW : Fld := ⟨A.ANA_CH_STATUS, 3, 3⟩
@[reducible] def F.ANA_CH_STATUS.FAIL_LOW : Fld := ⟨A.ANA_CH_STATUS, 2, 2⟩
@[reducible] def F.ANA_CH_STATUS.OPEN : Fld := ⟨A.ANA_CH_STATUS, 1, 1⟩
@[reducible] def F.ANA_CH_STATUS.QUAL : Fld := ⟨A.ANA_CH_STATUS, 0, 0⟩
@[reducible] def F.ANA_CH_TRIM_Z.VALUE : Fld := ⟨A.ANA_CH_TRIM_Z, 31, 0⟩
@[reducible] def F.ANA_CH_TRIM_G.VALUE : Fld := ⟨A.ANA_CH_TRIM_G, 31, 0⟩
@[reducible] def F.ANA_TRIM_CTRL.KEY : Fld := ⟨A.ANA_TRIM_CTRL, 31, 16⟩
@[reducible] def F.ANA_TRIM_CTRL.CH : Fld := ⟨A.ANA_TRIM_CTRL, 12, 8⟩
@[reducible] def F.ANA_TRIM_CTRL.STEP : Fld := ⟨A.ANA_TRIM_CTRL, 2, 0⟩
@[reducible] def F.ANA_TRIM_REF.VALUE : Fld := ⟨A.ANA_TRIM_REF, 31, 0⟩
@[reducible] def F.ANA_TRIM_OBS.VALUE : Fld := ⟨A.ANA_TRIM_OBS, 31, 0⟩
@[reducible] def F.ANA_TRIM_STATUS.RESULT : Fld := ⟨A.ANA_TRIM_STATUS, 15, 8⟩
@[reducible] def F.ANA_TRIM_STATUS.CH : Fld := ⟨A.ANA_TRIM_STATUS, 4, 2⟩
@[reducible] def F.ANA_TRIM_STATUS.STATE : Fld := ⟨A.ANA_TRIM_STATUS, 1, 0⟩
@[reducible] def F.ANA_HART_PT.RESULT : Fld := ⟨A.ANA_HART_PT, 31, 24⟩
@[reducible] def F.ANA_HART_PT.CH : Fld := ⟨A.ANA_HART_PT, 18, 16⟩
@[reducible] def F.ANA_HART_PT.LEN : Fld := ⟨A.ANA_HART_PT, 15, 8⟩
@[reducible] def F.ANA_HART_PT.BUSY : Fld := ⟨A.ANA_HART_PT, 4, 4⟩
@[reducible] def F.ANA_HART_PT.MODEM : Fld := ⟨A.ANA_HART_PT, 3, 2⟩
@[reducible] def F.ANA_HART_PT.GO : Fld := ⟨A.ANA_HART_PT, 0, 0⟩
@[reducible] def F.ANA_HART_BUF.BYTES : Fld := ⟨A.ANA_HART_BUF, 31, 0⟩
@[reducible] def F.CONV_REF_CTRL.EN : Fld := ⟨A.CONV_REF_CTRL, 0, 0⟩
@[reducible] def F.CONV_REF_STATUS.WARM : Fld := ⟨A.CONV_REF_STATUS, 31, 16⟩
@[reducible] def F.CONV_REF_STATUS.FAIL : Fld := ⟨A.CONV_REF_STATUS, 5, 5⟩
@[reducible] def F.CONV_REF_STATUS.PROOF_QUEUED : Fld := ⟨A.CONV_REF_STATUS, 4, 4⟩
@[reducible] def F.CONV_REF_STATUS.PROOF_BUSY : Fld := ⟨A.CONV_REF_STATUS, 3, 3⟩
@[reducible] def F.CONV_REF_STATUS.READY : Fld := ⟨A.CONV_REF_STATUS, 0, 0⟩
@[reducible] def F.CONV_REF_DEV.DEV : Fld := ⟨A.CONV_REF_DEV, 31, 0⟩
@[reducible] def F.CONV_EVENT.PROOF_FAIL : Fld := ⟨A.CONV_EVENT, 5, 5⟩
@[reducible] def F.CONV_EVENT.SLICE_RETIRED : Fld := ⟨A.CONV_EVENT, 4, 4⟩
@[reducible] def F.CONV_EVENT.CAL_FAIL : Fld := ⟨A.CONV_EVENT, 3, 3⟩
@[reducible] def F.CONV_EVENT.OVERFLOW : Fld := ⟨A.CONV_EVENT, 2, 2⟩
@[reducible] def F.CONV_EVENT.REF_NOT_READY : Fld := ⟨A.CONV_EVENT, 1, 1⟩
@[reducible] def F.CONV_EVENT.START_LOST : Fld := ⟨A.CONV_EVENT, 0, 0⟩
@[reducible] def F.CONV_CAL.PROOF_H : Fld := ⟨A.CONV_CAL, 27, 16⟩
@[reducible] def F.CONV_CAL.PERIOD : Fld := ⟨A.CONV_CAL, 11, 0⟩
@[reducible] def F.CONV_GRP_SEL.GRP : Fld := ⟨A.CONV_GRP_SEL, 1, 0⟩
@[reducible] def F.CONV_GRP_CTRL.BURST : Fld := ⟨A.CONV_GRP_CTRL, 14, 12⟩
@[reducible] def F.CONV_GRP_CTRL.LEN : Fld := ⟨A.CONV_GRP_CTRL, 11, 8⟩
@[reducible] def F.CONV_GRP_CTRL.CONT : Fld := ⟨A.CONV_GRP_CTRL, 2, 2⟩
@[reducible] def F.CONV_GRP_CTRL.STOP : Fld := ⟨A.CONV_GRP_CTRL, 1, 1⟩
@[reducible] def F.CONV_GRP_CTRL.GO : Fld := ⟨A.CONV_GRP_CTRL, 0, 0⟩
@[reducible] def F.CONV_GRP_STATUS.SPARE : Fld := ⟨A.CONV_GRP_STATUS, 22, 20⟩
@[reducible] def F.CONV_GRP_STATUS.URG : Fld := ⟨A.CONV_GRP_STATUS, 17, 16⟩
@[reducible] def F.CONV_GRP_STATUS.ENTRY : Fld := ⟨A.CONV_GRP_STATUS, 11, 8⟩
@[reducible] def F.CONV_GRP_STATUS.STOPPED : Fld := ⟨A.CONV_GRP_STATUS, 6, 6⟩
@[reducible] def F.CONV_GRP_STATUS.REPEAT : Fld := ⟨A.CONV_GRP_STATUS, 4, 4⟩
@[reducible] def F.CONV_GRP_STATUS.HELD : Fld := ⟨A.CONV_GRP_STATUS, 3, 3⟩
@[reducible] def F.CONV_GRP_STATUS.STATE : Fld := ⟨A.CONV_GRP_STATUS, 2, 0⟩
@[reducible] def F.CONV_GRP_URGENT.DIV : Fld := ⟨A.CONV_GRP_URGENT, 31, 16⟩
@[reducible] def F.CONV_GRP_URGENT.K : Fld := ⟨A.CONV_GRP_URGENT, 12, 8⟩
@[reducible] def F.CONV_GRP_URGENT.CH : Fld := ⟨A.CONV_GRP_URGENT, 6, 4⟩
@[reducible] def F.CONV_GRP_URGENT.GO : Fld := ⟨A.CONV_GRP_URGENT, 0, 0⟩
@[reducible] def F.CONV_GRP_ERR.CAL_FAIL : Fld := ⟨A.CONV_GRP_ERR, 31, 24⟩
@[reducible] def F.CONV_GRP_ERR.START_LOST : Fld := ⟨A.CONV_GRP_ERR, 23, 16⟩
@[reducible] def F.CONV_GRP_ERR.OVERFLOW : Fld := ⟨A.CONV_GRP_ERR, 15, 0⟩
@[reducible] def F.CONV_GRP_SEQ0.DIV : Fld := ⟨A.CONV_GRP_SEQ0, 31, 16⟩
@[reducible] def F.CONV_GRP_SEQ0.K : Fld := ⟨A.CONV_GRP_SEQ0, 12, 8⟩
@[reducible] def F.CONV_GRP_SEQ0.CH : Fld := ⟨A.CONV_GRP_SEQ0, 6, 4⟩
@[reducible] def F.DIO_CH_SEL.CH : Fld := ⟨A.DIO_CH_SEL, 4, 0⟩
@[reducible] def F.DIO_CH_CFG.PULSE : Fld := ⟨A.DIO_CH_CFG, 31, 20⟩
@[reducible] def F.DIO_CH_CFG.SAFE : Fld := ⟨A.DIO_CH_CFG, 9, 8⟩
@[reducible] def F.DIO_CH_CFG.FILT : Fld := ⟨A.DIO_CH_CFG, 6, 4⟩
@[reducible] def F.DIO_CH_CFG.ITYPE : Fld := ⟨A.DIO_CH_CFG, 3, 3⟩
@[reducible] def F.DIO_CH_CFG.DIR : Fld := ⟨A.DIO_CH_CFG, 1, 0⟩
@[reducible] def F.DIO_CH_STATUS.NO_SUPPLY : Fld := ⟨A.DIO_CH_STATUS, 5, 5⟩
@[reducible] def F.DIO_CH_STATUS.OPEN_LOAD : Fld := ⟨A.DIO_CH_STATUS, 4, 4⟩
@[reducible] def F.DIO_CH_STATUS.OVERLOAD : Fld := ⟨A.DIO_CH_STATUS, 3, 3⟩
@[reducible] def F.DIO_CH_STATUS.WARN : Fld := ⟨A.DIO_CH_STATUS, 2, 2⟩
@[reducible] def F.DIO_CH_STATUS.SAFE : Fld := ⟨A.DIO_CH_STATUS, 1, 1⟩
@[reducible] def F.DIO_CH_STATUS.STATE : Fld := ⟨A.DIO_CH_STATUS, 0, 0⟩
@[reducible] def F.DIO_SAFE.TIMEOUT : Fld := ⟨A.DIO_SAFE, 13, 0⟩
@[reducible] def F.DIO_LINK_STATUS.SUPPLY : Fld := ⟨A.DIO_LINK_STATUS, 7, 4⟩
@[reducible] def F.DIO_LINK_STATUS.UP : Fld := ⟨A.DIO_LINK_STATUS, 1, 1⟩
@[reducible] def F.DIO_LINK_STATUS.FIELD_SAFE : Fld := ⟨A.DIO_LINK_STATUS, 0, 0⟩
@[reducible] def F.DIO_LINK_ERR.SAFE_ENTRIES : Fld := ⟨A.DIO_LINK_ERR, 31, 24⟩
@[reducible] def F.DIO_LINK_ERR.PULSE_LOST : Fld := ⟨A.DIO_LINK_ERR, 23, 16⟩
@[reducible] def F.DIO_LINK_ERR.CRC : Fld := ⟨A.DIO_LINK_ERR, 15, 0⟩
@[reducible] def F.CAN_SEL.BUS : Fld := ⟨A.CAN_SEL, 1, 0⟩
@[reducible] def F.CAN_CTRL.RECOVER : Fld := ⟨A.CAN_CTRL, 6, 6⟩
@[reducible] def F.CAN_CTRL.AUTO_REC : Fld := ⟨A.CAN_CTRL, 5, 5⟩
@[reducible] def F.CAN_CTRL.TERM : Fld := ⟨A.CAN_CTRL, 4, 4⟩
@[reducible] def F.CAN_CTRL.MODE : Fld := ⟨A.CAN_CTRL, 2, 1⟩
@[reducible] def F.CAN_CTRL.INIT : Fld := ⟨A.CAN_CTRL, 0, 0⟩
@[reducible] def F.CAN_NBT.SJW : Fld := ⟨A.CAN_NBT, 31, 24⟩
@[reducible] def F.CAN_NBT.TSEG1 : Fld := ⟨A.CAN_NBT, 23, 16⟩
@[reducible] def F.CAN_NBT.TSEG2 : Fld := ⟨A.CAN_NBT, 15, 8⟩
@[reducible] def F.CAN_NBT.BRP : Fld := ⟨A.CAN_NBT, 4, 0⟩
@[reducible] def F.CAN_DBT.SJW : Fld := ⟨A.CAN_DBT, 31, 24⟩
@[reducible] def F.CAN_DBT.TSEG1 : Fld := ⟨A.CAN_DBT, 23, 16⟩
@[reducible] def F.CAN_DBT.TSEG2 : Fld := ⟨A.CAN_DBT, 15, 8⟩
@[reducible] def F.CAN_DBT.BRP : Fld := ⟨A.CAN_DBT, 4, 0⟩
@[reducible] def F.CAN_STATUS.TEC : Fld := ⟨A.CAN_STATUS, 31, 24⟩
@[reducible] def F.CAN_STATUS.REC : Fld := ⟨A.CAN_STATUS, 23, 16⟩
@[reducible] def F.CAN_STATUS.STATE : Fld := ⟨A.CAN_STATUS, 2, 0⟩
@[reducible] def F.CAN_EVENT.BUS_OFF : Fld := ⟨A.CAN_EVENT, 3, 3⟩
@[reducible] def F.CAN_EVENT.WRITE_BLOCKED : Fld := ⟨A.CAN_EVENT, 2, 2⟩
@[reducible] def F.CAN_EVENT.LOCK_TIMEOUT : Fld := ⟨A.CAN_EVENT, 1, 1⟩
@[reducible] def F.CAN_EVENT.LOCK_BROKEN : Fld := ⟨A.CAN_EVENT, 0, 0⟩
@[reducible] def F.CAN_ERR.REMOTE : Fld := ⟨A.CAN_ERR, 31, 16⟩
@[reducible] def F.CAN_ERR.NO_MATCH : Fld := ⟨A.CAN_ERR, 15, 0⟩
@[reducible] def F.CAN_TX_REQ0.BUF : Fld := ⟨A.CAN_TX_REQ0, 31, 0⟩
@[reducible] def F.CAN_TX_REQ1.BUF : Fld := ⟨A.CAN_TX_REQ1, 31, 0⟩
@[reducible] def F.CAN_TX_ABORT0.BUF : Fld := ⟨A.CAN_TX_ABORT0, 31, 0⟩
@[reducible] def F.CAN_TX_ABORT1.BUF : Fld := ⟨A.CAN_TX_ABORT1, 31, 0⟩
@[reducible] def F.CAN_STAMP_LO.COUNT : Fld := ⟨A.CAN_STAMP_LO, 31, 0⟩
@[reducible] def F.CAN_STAMP_HI.COUNT : Fld := ⟨A.CAN_STAMP_HI, 31, 0⟩
@[reducible] def F.CAN_EDGE_LO.COUNT : Fld := ⟨A.CAN_EDGE_LO, 31, 0⟩
@[reducible] def F.CAN_EDGE_HI.COUNT : Fld := ⟨A.CAN_EDGE_HI, 31, 0⟩
@[reducible] def F.SER_SEL.LINE : Fld := ⟨A.SER_SEL, 1, 0⟩
@[reducible] def F.SER_CFG.FRAC : Fld := ⟨A.SER_CFG, 31, 28⟩
@[reducible] def F.SER_CFG.DIV : Fld := ⟨A.SER_CFG, 27, 12⟩
@[reducible] def F.SER_CFG.CROWN_ONLY : Fld := ⟨A.SER_CFG, 11, 11⟩
@[reducible] def F.SER_CFG.TERM : Fld := ⟨A.SER_CFG, 10, 10⟩
@[reducible] def F.SER_CFG.STOP2 : Fld := ⟨A.SER_CFG, 9, 9⟩
@[reducible] def F.SER_CFG.PARITY : Fld := ⟨A.SER_CFG, 8, 7⟩
@[reducible] def F.SER_CFG.BITS7 : Fld := ⟨A.SER_CFG, 6, 6⟩
@[reducible] def F.SER_CFG.BURST : Fld := ⟨A.SER_CFG, 5, 3⟩
@[reducible] def F.SER_TIMING.IDLE : Fld := ⟨A.SER_TIMING, 15, 8⟩
@[reducible] def F.SER_TIMING.TAIL : Fld := ⟨A.SER_TIMING, 7, 4⟩
@[reducible] def F.SER_TIMING.LEAD : Fld := ⟨A.SER_TIMING, 3, 0⟩
@[reducible] def F.SER_CTRL.FLUSH : Fld := ⟨A.SER_CTRL, 2, 2⟩
@[reducible] def F.SER_CTRL.ECHO : Fld := ⟨A.SER_CTRL, 1, 1⟩
@[reducible] def F.SER_CTRL.EN : Fld := ⟨A.SER_CTRL, 0, 0⟩
@[reducible] def F.SER_STATUS.TX_FILL : Fld := ⟨A.SER_STATUS, 31, 23⟩
@[reducible] def F.SER_STATUS.RX_FILL : Fld := ⟨A.SER_STATUS, 17, 9⟩
@[reducible] def F.SER_STATUS.DRIVING : Fld := ⟨A.SER_STATUS, 1, 1⟩
@[reducible] def F.SER_STATUS.BREAK : Fld := ⟨A.SER_STATUS, 0, 0⟩
@[reducible] def F.SER_ERR.SUPPRESSED : Fld := ⟨A.SER_ERR, 31, 24⟩
@[reducible] def F.SER_ERR.OVERRUN : Fld := ⟨A.SER_ERR, 23, 16⟩
@[reducible] def F.SER_ERR.FRAMING : Fld := ⟨A.SER_ERR, 15, 8⟩
@[reducible] def F.SER_ERR.NOISE : Fld := ⟨A.SER_ERR, 7, 0⟩
@[reducible] def F.EVR_STATUS.BAD_READ : Fld := ⟨A.EVR_STATUS, 17, 10⟩
@[reducible] def F.EVR_STATUS.QUEUE : Fld := ⟨A.EVR_STATUS, 9, 3⟩
@[reducible] def F.EVR_STATUS.SATURATED : Fld := ⟨A.EVR_STATUS, 0, 0⟩
@[reducible] def F.EVR_NEXT_LO.INDEX : Fld := ⟨A.EVR_NEXT_LO, 31, 0⟩
@[reducible] def F.EVR_NEXT_HI.INDEX : Fld := ⟨A.EVR_NEXT_HI, 31, 0⟩
@[reducible] def F.EVR_TOKENS.TOKENS : Fld := ⟨A.EVR_TOKENS, 16, 0⟩
@[reducible] def F.EVR_CTRL.COALESCE : Fld := ⟨A.EVR_CTRL, 15, 0⟩
@[reducible] def F.EVR_DROP.COUNT : Fld := ⟨A.EVR_DROP, 31, 0⟩
@[reducible] def F.EVR_FLASH_DATA.DATA : Fld := ⟨A.EVR_FLASH_DATA, 31, 0⟩
@[reducible] def F.PWR_STATUS.START_STUCK : Fld := ⟨A.PWR_STATUS, 14, 14⟩
@[reducible] def F.PWR_STATUS.START_STEP : Fld := ⟨A.PWR_STATUS, 13, 10⟩
@[reducible] def F.PWR_STATUS.RESET_KIND : Fld := ⟨A.PWR_STATUS, 9, 8⟩
@[reducible] def F.PWR_STATUS.WARNING : Fld := ⟨A.PWR_STATUS, 2, 2⟩
@[reducible] def F.PWR_STATUS.FEED_B : Fld := ⟨A.PWR_STATUS, 1, 1⟩
@[reducible] def F.PWR_STATUS.FEED_A : Fld := ⟨A.PWR_STATUS, 0, 0⟩
@[reducible] def F.PWR_FEED.FEED_B : Fld := ⟨A.PWR_FEED, 31, 16⟩
@[reducible] def F.PWR_FEED.FEED_A : Fld := ⟨A.PWR_FEED, 15, 0⟩
@[reducible] def F.PWR_DOM_SEL.DOM : Fld := ⟨A.PWR_DOM_SEL, 6, 0⟩
@[reducible] def F.PWR_DOM_STATE.NEEDED : Fld := ⟨A.PWR_DOM_STATE, 4, 4⟩
@[reducible] def F.PWR_DOM_STATE.STATE : Fld := ⟨A.PWR_DOM_STATE, 2, 0⟩
@[reducible] def F.PWR_DOM_REQ.KEY : Fld := ⟨A.PWR_DOM_REQ, 31, 16⟩
@[reducible] def F.PWR_DOM_REQ.OFF : Fld := ⟨A.PWR_DOM_REQ, 1, 1⟩
@[reducible] def F.PWR_DOM_REQ.ON : Fld := ⟨A.PWR_DOM_REQ, 0, 0⟩
@[reducible] def F.PWR_EVENT.DOM_FAULT : Fld := ⟨A.PWR_EVENT, 2, 2⟩
@[reducible] def F.PWR_EVENT.REFUSED : Fld := ⟨A.PWR_EVENT, 1, 1⟩
@[reducible] def F.PWR_EVENT.FEED_LOST : Fld := ⟨A.PWR_EVENT, 0, 0⟩
@[reducible] def F.PWR_RESET.KEY : Fld := ⟨A.PWR_RESET, 31, 16⟩
@[reducible] def F.PWR_RESET.GO : Fld := ⟨A.PWR_RESET, 0, 0⟩
@[reducible] def F.SKERRY_STATUS.LIVE : Fld := ⟨A.SKERRY_STATUS, 13, 8⟩
@[reducible] def F.SKERRY_STATUS.LOST : Fld := ⟨A.SKERRY_STATUS, 3, 3⟩
@[reducible] def F.SKERRY_STATUS.CELL_LOW : Fld := ⟨A.SKERRY_STATUS, 2, 2⟩
@[reducible] def F.SKERRY_STATUS.KEYS : Fld := ⟨A.SKERRY_STATUS, 1, 0⟩
@[reducible] def F.SKERRY_TAMPER.MOMENT : Fld := ⟨A.SKERRY_TAMPER, 9, 8⟩
@[reducible] def F.SKERRY_TAMPER.SENSOR : Fld := ⟨A.SKERRY_TAMPER, 5, 0⟩
@[reducible] def F.SKERRY_CYCLES.COUNT : Fld := ⟨A.SKERRY_CYCLES, 31, 0⟩
@[reducible] def F.SKERRY_KEYCNT.COUNT : Fld := ⟨A.SKERRY_KEYCNT, 31, 0⟩
@[reducible] def F.SKERRY_OPTIME_LO.SECONDS : Fld := ⟨A.SKERRY_OPTIME_LO, 31, 0⟩
@[reducible] def F.SKERRY_OPTIME_HI.SECONDS : Fld := ⟨A.SKERRY_OPTIME_HI, 31, 0⟩
@[reducible] def F.SKERRY_FP_LO.FP : Fld := ⟨A.SKERRY_FP_LO, 31, 0⟩
@[reducible] def F.SKERRY_FP_HI.FP : Fld := ⟨A.SKERRY_FP_HI, 31, 0⟩
@[reducible] def F.PANEL_CTRL.LOCK : Fld := ⟨A.PANEL_CTRL, 0, 0⟩
@[reducible] def F.PANEL_KEYS.RECAL : Fld := ⟨A.PANEL_KEYS, 13, 8⟩
@[reducible] def F.PANEL_KEYS.TOUCHED : Fld := ⟨A.PANEL_KEYS, 5, 0⟩
@[reducible] def F.PANEL_SVC_IP4.ADDR : Fld := ⟨A.PANEL_SVC_IP4, 31, 0⟩
@[reducible] def F.PANEL_SVC_PFX.IP6 : Fld := ⟨A.PANEL_SVC_PFX, 15, 8⟩
@[reducible] def F.PANEL_SVC_PFX.IP4 : Fld := ⟨A.PANEL_SVC_PFX, 7, 0⟩

/-! ## Access types and reset values -/

/-- Register access types (R5). -/
inductive Access where
  | rw | ro | wo | w1c | w1s | rc
deriving DecidableEq, Repr

/-- A field of the map: bits, access, the range a write is limited to (R355) and whether code 3 is treated
as 0 (CAN_CTRL.MODE, SER_CFG.PARITY). -/
structure FieldDesc where
  hi  : Nat
  lo  : Nat
  acc : Access
  min : Nat
  max : Nat
  threeIsZero : Bool
deriving DecidableEq, Repr

/-- A register of the map. -/
structure RegDesc where
  off    : Nat
  reset  : Nat
  low    : Bool
  high   : Bool
  fwd    : Bool
  image  : Bool
  sel    : Option Fld
  fields : List FieldDesc
deriving DecidableEq, Repr

/-- Registers of the SYS block. -/
def regsSys : List RegDesc := [
  ⟨0x0000, 0x96004C53, false, false, false, false, none,
    [⟨31, 16, .ro, 0, 65535, false⟩, ⟨15, 0, .ro, 0, 65535, false⟩]⟩,
  ⟨0x0004, 0x00000100, false, false, false, false, none,
    [⟨15, 8, .ro, 0, 255, false⟩, ⟨7, 0, .ro, 0, 255, false⟩]⟩,
  ⟨0x0008, 0x00000000, false, false, false, false, none,
    [⟨16, 16, .ro, 0, 1, false⟩, ⟨11, 8, .ro, 0, 15, false⟩, ⟨2, 0, .ro, 0, 7, false⟩]⟩,
  ⟨0x000C, 0x00000000, false, false, false, false, none,
    [⟨9, 9, .ro, 0, 1, false⟩, ⟨8, 8, .ro, 0, 1, false⟩, ⟨7, 0, .ro, 0, 255, false⟩]⟩,
  ⟨0x0010, 0x00000000, true, false, false, false, none,
    [⟨31, 0, .ro, 0, 4294967295, false⟩]⟩,
  ⟨0x0014, 0x00000000, false, true, false, false, none,
    [⟨31, 0, .ro, 0, 4294967295, false⟩]⟩,
  ⟨0x0018, 0x00000000, false, false, false, false, none,
    [⟨31, 16, .wo, 0, 65535, false⟩, ⟨0, 0, .wo, 0, 1, false⟩]⟩,
  ⟨0x001C, 0x00000000, false, false, false, false, none,
    [⟨3, 3, .w1c, 0, 1, false⟩, ⟨2, 2, .w1c, 0, 1, false⟩, ⟨1, 1, .w1c, 0, 1, false⟩, ⟨0, 0, .w1c, 0, 1, false⟩]⟩]

/-- Registers of the TICK block. -/
def regsTick : List RegDesc := [
  ⟨0x0000, 0x00000008, false, false, false, false, none,
    [⟨15, 8, .rw, 0, 255, false⟩, ⟨7, 0, .rw, 1, 255, false⟩]⟩,
  ⟨0x0004, 0x00000004, false, false, false, false, none,
    [⟨6, 6, .ro, 0, 1, false⟩, ⟨5, 5, .w1c, 0, 1, false⟩, ⟨4, 1, .ro, 0, 15, false⟩, ⟨0, 0, .ro, 0, 1, false⟩]⟩,
  ⟨0x0008, 0x00000000, false, false, false, false, none,
    [⟨16, 16, .w1c, 0, 1, false⟩, ⟨15, 8, .w1c, 0, 255, false⟩, ⟨7, 0, .w1c, 0, 255, false⟩]⟩,
  ⟨0x000C, 0x01088C60, false, false, false, false, none,
    [⟨31, 24, .ro, 0, 255, false⟩, ⟨23, 22, .ro, 0, 3, false⟩, ⟨20, 16, .ro, 0, 31, false⟩, ⟨15, 0, .ro, 0, 65535, false⟩]⟩,
  ⟨0x0040, 0x00000000, false, false, false, false, none,
    [⟨23, 16, .ro, 0, 255, false⟩, ⟨15, 0, .rc, 0, 65535, false⟩]⟩,
  ⟨0x0044, 0x00000000, false, false, false, false, none,
    [⟨23, 16, .ro, 0, 255, false⟩, ⟨15, 0, .rc, 0, 65535, false⟩]⟩,
  ⟨0x0048, 0x00000000, false, false, false, false, none,
    [⟨23, 16, .ro, 0, 255, false⟩, ⟨15, 0, .rc, 0, 65535, false⟩]⟩,
  ⟨0x004C, 0x00000000, false, false, false, false, none,
    [⟨23, 16, .ro, 0, 255, false⟩, ⟨15, 0, .rc, 0, 65535, false⟩]⟩,
  ⟨0x0050, 0x00000000, false, false, false, false, none,
    [⟨23, 16, .ro, 0, 255, false⟩, ⟨15, 0, .rc, 0, 65535, false⟩]⟩,
  ⟨0x0054, 0x00000000, false, false, false, false, none,
    [⟨23, 16, .ro, 0, 255, false⟩, ⟨15, 0, .rc, 0, 65535, false⟩]⟩,
  ⟨0x0058, 0x00000000, false, false, false, false, none,
    [⟨23, 16, .ro, 0, 255, false⟩, ⟨15, 0, .rc, 0, 65535, false⟩]⟩,
  ⟨0x005C, 0x00000000, false, false, false, false, none,
    [⟨23, 16, .ro, 0, 255, false⟩, ⟨15, 0, .rc, 0, 65535, false⟩]⟩,
  ⟨0x0060, 0x00000000, false, false, false, false, none,
    [⟨31, 0, .ro, 0, 4294967295, false⟩]⟩,
  ⟨0x0064, 0x00000000, false, false, false, false, none,
    [⟨31, 0, .ro, 0, 4294967295, false⟩]⟩,
  ⟨0x0068, 0x00000000, false, false, false, false, none,
    [⟨31, 0, .ro, 0, 4294967295, false⟩]⟩,
  ⟨0x006C, 0x00000000, false, false, false, false, none,
    [⟨31, 0, .ro, 0, 4294967295, false⟩]⟩,
  ⟨0x0070, 0x00000000, false, false, false, false, none,
    [⟨31, 0, .ro, 0, 4294967295, false⟩]⟩,
  ⟨0x0074, 0x00000000, false, false, false, false, none,
    [⟨31, 0, .ro, 0, 4294967295, false⟩]⟩,
  ⟨0x0078, 0x00000000, false, false, false, false, none,
    [⟨31, 0, .ro, 0, 4294967295, false⟩]⟩,
  ⟨0x007C, 0x00000000, false, false, false, false, none,
    [⟨31, 0, .ro, 0, 4294967295, false⟩]⟩,
  ⟨0x0080, 0x00000000, false, false, false, false, none,
    [⟨31, 16, .ro, 0, 65535, false⟩, ⟨15, 0, .rc, 0, 65535, false⟩]⟩,
  ⟨0x0084, 0x00000000, false, false, false, false, none,
    [⟨31, 16, .ro, 0, 65535, false⟩, ⟨15, 0, .rc, 0, 65535, false⟩]⟩,
  ⟨0x0088, 0x00000000, false, false, false, false, none,
    [⟨31, 16, .ro, 0, 65535, false⟩, ⟨15, 0, .rc, 0, 65535, false⟩]⟩,
  ⟨0x008C, 0x00000000, false, false, false, false, none,
    [⟨31, 16, .ro, 0, 65535, false⟩, ⟨15, 0, .rc, 0, 65535, false⟩]⟩,
  ⟨0x0090, 0x00000000, false, false, false, false, none,
    [⟨31, 16, .ro, 0, 65535, false⟩, ⟨15, 0, .rc, 0, 65535, false⟩]⟩,
  ⟨0x0094, 0x00000000, false, false, false, false, none,
    [⟨31, 16, .ro, 0, 65535, false⟩, ⟨15, 0, .rc, 0, 65535, false⟩]⟩,
  ⟨0x0098, 0x00000000, false, false, false, false, none,
    [⟨31, 16, .ro, 0, 65535, false⟩, ⟨15, 0, .rc, 0, 65535, false⟩]⟩,
  ⟨0x009C, 0x00000000, false, false, false, false, none,
    [⟨31, 16, .ro, 0, 65535, false⟩, ⟨15, 0, .rc, 0, 65535, false⟩]⟩,
  ⟨0x00A0, 0x00000000, false, false, false, false, none,
    [⟨31, 16, .ro, 0, 65535, false⟩, ⟨15, 0, .rc, 0, 65535, false⟩]⟩,
  ⟨0x00A4, 0x00000000, false, false, false, false, none,
    [⟨31, 16, .ro, 0, 65535, false⟩, ⟨15, 0, .rc, 0, 65535, false⟩]⟩,
  ⟨0x00A8, 0x00000000, false, false, false, false, none,
    [⟨31, 16, .ro, 0, 65535, false⟩, ⟨15, 0, .rc, 0, 65535, false⟩]⟩,
  ⟨0x00AC, 0x00000000, false, false, false, false, none,
    [⟨31, 16, .ro, 0, 65535, false⟩, ⟨15, 0, .rc, 0, 65535, false⟩]⟩,
  ⟨0x00B0, 0x00000000, false, false, false, false, none,
    [⟨31, 16, .ro, 0, 65535, false⟩, ⟨15, 0, .rc, 0, 65535, false⟩]⟩,
  ⟨0x00B4, 0x00000000, false, false, false, false, none,
    [⟨31, 16, .ro, 0, 65535, false⟩, ⟨15, 0, .rc, 0, 65535, false⟩]⟩,
  ⟨0x00B8, 0x00000000, false, false, false, false, none,
    [⟨31, 16, .ro, 0, 65535, false⟩, ⟨15, 0, .rc, 0, 65535, false⟩]⟩,
  ⟨0x00BC, 0x00000000, false, false, false, false, none,
    [⟨31, 16, .ro, 0, 65535, false⟩, ⟨15, 0, .rc, 0, 65535, false⟩]⟩]

/-- Registers of the CORE block. -/
def regsCore : List RegDesc := [
  ⟨0x0000, 0x00000003, false, false, true, false, none,
    [⟨7, 0, .rw, 1, 255, false⟩]⟩,
  ⟨0x0004, 0x018410FF, false, false, false, false, none,
    [⟨31, 24, .ro, 0, 255, false⟩, ⟨23, 20, .ro, 0, 15, false⟩, ⟨19, 16, .ro, 0, 15, false⟩, ⟨15, 8, .ro, 0, 255, false⟩, ⟨7, 0, .ro, 0, 255, false⟩]⟩,
  ⟨0x0008, 0x00000000, false, false, false, false, none,
    [⟨15, 0, .w1c, 0, 65535, false⟩]⟩,
  ⟨0x000C, 0x00000000, false, false, false, false, none,
    [⟨3, 0, .rw, 0, 15, false⟩]⟩,
  ⟨0x0010, 0x00000000, false, false, false, false, some F.CORE_FAULT_SEL.LCORE,
    [⟨31, 24, .ro, 0, 255, false⟩, ⟨22, 20, .ro, 0, 7, false⟩, ⟨9, 0, .ro, 0, 1023, false⟩]⟩,
  ⟨0x0014, 0x00000000, false, false, false, false, some F.CORE_FAULT_SEL.LCORE,
    [⟨17, 0, .ro, 0, 262143, false⟩]⟩,
  ⟨0x0018, 0x00000000, true, false, false, false, some F.CORE_FAULT_SEL.LCORE,
    [⟨31, 0, .ro, 0, 4294967295, false⟩]⟩,
  ⟨0x001C, 0x00000000, false, true, false, false, some F.CORE_FAULT_SEL.LCORE,
    [⟨31, 0, .ro, 0, 4294967295, false⟩]⟩,
  ⟨0x0020, 0x00000000, false, false, false, false, some F.CORE_FAULT_SEL.LCORE,
    [⟨15, 0, .rc, 0, 65535, false⟩]⟩,
  ⟨0x0024, 0x00000000, false, false, false, false, none,
    [⟨9, 0, .rw, 0, 1023, false⟩]⟩,
  ⟨0x0028, 0x00000000, false, false, false, false, some F.CORE_TASK_SEL.TASK,
    [⟨31, 31, .ro, 0, 1, false⟩, ⟨19, 16, .ro, 0, 15, false⟩, ⟨14, 12, .ro, 0, 7, false⟩, ⟨8, 8, .ro, 0, 1, false⟩, ⟨7, 0, .ro, 0, 255, false⟩]⟩,
  ⟨0x002C, 0x00000000, false, false, true, false, none,
    [⟨31, 16, .wo, 0, 65535, false⟩, ⟨0, 0, .wo, 0, 1, false⟩]⟩]

/-- Registers of the CHK block. -/
def regsChk : List RegDesc := [
  ⟨0x0000, 0x00000003, false, false, true, false, none,
    [⟨7, 0, .rw, 1, 255, false⟩]⟩,
  ⟨0x0004, 0x00000000, false, false, false, false, none,
    [⟨8, 8, .ro, 0, 1, false⟩, ⟨7, 7, .ro, 0, 1, false⟩, ⟨6, 6, .ro, 0, 1, false⟩, ⟨5, 5, .ro, 0, 1, false⟩, ⟨4, 4, .ro, 0, 1, false⟩, ⟨3, 3, .ro, 0, 1, false⟩, ⟨2, 2, .ro, 0, 1, false⟩, ⟨1, 0, .ro, 0, 3, false⟩]⟩,
  ⟨0x0008, 0x00000000, false, false, false, false, none,
    [⟨15, 0, .w1c, 0, 65535, false⟩]⟩,
  ⟨0x000C, 0x00000000, false, false, false, false, none,
    [⟨15, 0, .w1c, 0, 65535, false⟩]⟩,
  ⟨0x0010, 0x00000000, false, false, false, false, none,
    [⟨31, 28, .ro, 0, 15, false⟩, ⟨27, 24, .ro, 0, 15, false⟩, ⟨23, 22, .ro, 0, 3, false⟩, ⟨12, 10, .ro, 0, 7, false⟩, ⟨9, 0, .ro, 0, 1023, false⟩]⟩,
  ⟨0x0014, 0x00000000, false, false, false, false, none,
    [⟨31, 16, .ro, 0, 65535, false⟩, ⟨5, 4, .ro, 0, 3, false⟩, ⟨3, 2, .ro, 0, 3, false⟩, ⟨1, 0, .ro, 0, 3, false⟩]⟩,
  ⟨0x0018, 0x00000000, false, false, false, false, none,
    [⟨31, 16, .wo, 0, 65535, false⟩, ⟨5, 2, .wo, 0, 15, false⟩, ⟨1, 1, .wo, 0, 1, false⟩, ⟨0, 0, .wo, 0, 1, false⟩]⟩,
  ⟨0x001C, 0x00000000, false, false, false, false, none,
    [⟨31, 24, .ro, 0, 255, false⟩, ⟨11, 8, .ro, 0, 15, false⟩, ⟨7, 7, .ro, 0, 1, false⟩, ⟨6, 6, .ro, 0, 1, false⟩, ⟨5, 4, .ro, 0, 3, false⟩, ⟨1, 0, .ro, 0, 3, false⟩]⟩,
  ⟨0x0020, 0x00000000, false, false, false, false, none,
    [⟨14, 0, .ro, 0, 32767, false⟩]⟩]

/-- Registers of the FAB block. -/
def regsFab : List RegDesc := [
  ⟨0x0000, 0x00000000, true, false, false, true, none,
    [⟨31, 0, .ro, 0, 4294967295, false⟩]⟩,
  ⟨0x0004, 0x00000000, false, true, false, true, none,
    [⟨31, 0, .ro, 0, 4294967295, false⟩]⟩,
  ⟨0x0008, 0x00000000, false, false, false, true, none,
    [⟨18, 0, .ro, 0, 524287, false⟩]⟩]

/-- Registers of the SHAFT block. -/
def regsShaft : List RegDesc := [
  ⟨0x0000, 0x00000000, false, false, false, true, none,
    [⟨26, 16, .ro, 0, 2047, false⟩, ⟨5, 0, .ro, 0, 63, false⟩]⟩,
  ⟨0x0004, 0x00000000, false, false, false, false, none,
    [⟨3, 3, .w1c, 0, 1, false⟩, ⟨2, 2, .w1c, 0, 1, false⟩, ⟨1, 1, .w1c, 0, 1, false⟩, ⟨0, 0, .w1c, 0, 1, false⟩]⟩,
  ⟨0x0008, 0x00000000, false, false, false, false, none,
    [⟨4, 0, .rw, 0, 31, false⟩]⟩,
  ⟨0x000C, 0x00000000, false, false, false, false, some F.SHAFT_MASTER_SEL.MASTER,
    [⟨31, 31, .ro, 0, 1, false⟩, ⟨5, 4, .ro, 0, 3, false⟩, ⟨2, 2, .ro, 0, 1, false⟩, ⟨0, 0, .ro, 0, 1, false⟩]⟩,
  ⟨0x0010, 0x00000000, true, false, false, false, some F.SHAFT_MASTER_SEL.MASTER,
    [⟨31, 0, .ro, 0, 4294967295, false⟩]⟩,
  ⟨0x0014, 0x00000000, false, true, false, false, some F.SHAFT_MASTER_SEL.MASTER,
    [⟨31, 0, .ro, 0, 4294967295, false⟩]⟩,
  ⟨0x0018, 0x00000000, true, false, false, false, some F.SHAFT_MASTER_SEL.MASTER,
    [⟨31, 0, .ro, 0, 4294967295, false⟩]⟩,
  ⟨0x001C, 0x00000000, false, true, false, false, some F.SHAFT_MASTER_SEL.MASTER,
    [⟨31, 0, .ro, 0, 4294967295, false⟩]⟩,
  ⟨0x0020, 0x00000000, false, false, false, false, none,
    [⟨9, 0, .rw, 0, 1023, false⟩]⟩,
  ⟨0x0024, 0x00000000, false, false, false, false, some F.SHAFT_AXIS_SEL.AXIS,
    [⟨31, 31, .ro, 0, 1, false⟩, ⟨28, 24, .ro, 0, 31, false⟩, ⟨17, 16, .ro, 0, 3, false⟩, ⟨13, 12, .ro, 0, 3, false⟩, ⟨7, 0, .ro, 0, 255, false⟩]⟩,
  ⟨0x0028, 0x00000000, true, false, false, false, some F.SHAFT_AXIS_SEL.AXIS,
    [⟨31, 0, .ro, 0, 4294967295, false⟩]⟩,
  ⟨0x002C, 0x00000000, false, true, false, false, some F.SHAFT_AXIS_SEL.AXIS,
    [⟨31, 0, .ro, 0, 4294967295, false⟩]⟩,
  ⟨0x0030, 0x00000000, true, false, false, false, some F.SHAFT_AXIS_SEL.AXIS,
    [⟨31, 0, .ro, 0, 4294967295, false⟩]⟩,
  ⟨0x0034, 0x00000000, false, true, false, false, some F.SHAFT_AXIS_SEL.AXIS,
    [⟨31, 0, .ro, 0, 4294967295, false⟩]⟩,
  ⟨0x0038, 0x00000000, false, false, false, false, some F.SHAFT_AXIS_SEL.AXIS,
    [⟨31, 24, .rc, 0, 255, false⟩, ⟨23, 16, .rc, 0, 255, false⟩, ⟨15, 0, .rc, 0, 65535, false⟩]⟩,
  ⟨0x003C, 0x00000000, false, false, false, false, some F.SHAFT_AXIS_SEL.AXIS,
    [⟨31, 0, .ro, 0, 4294967295, false⟩]⟩]

/-- Registers of the STRAIT block. -/
def regsStrait : List RegDesc := [
  ⟨0x0000, 0xE0000000, false, false, false, false, none,
    [⟨31, 29, .ro, 0, 7, false⟩, ⟨18, 16, .ro, 0, 7, false⟩, ⟨11, 11, .ro, 0, 1, false⟩, ⟨10, 10, .ro, 0, 1, false⟩, ⟨9, 9, .ro, 0, 1, false⟩, ⟨7, 0, .ro, 0, 255, false⟩]⟩,
  ⟨0x0004, 0x00000000, false, false, false, false, none,
    [⟨31, 24, .rc, 0, 255, false⟩, ⟨23, 16, .rc, 0, 255, false⟩, ⟨15, 0, .rc, 0, 65535, false⟩]⟩,
  ⟨0x0008, 0x00000000, false, false, false, false, none,
    [⟨31, 24, .ro, 0, 255, false⟩, ⟨23, 16, .ro, 0, 255, false⟩, ⟨15, 0, .ro, 0, 65535, false⟩]⟩,
  ⟨0x000C, 0x00000000, true, false, false, false, none,
    [⟨31, 0, .ro, 0, 4294967295, false⟩]⟩,
  ⟨0x0010, 0x00000000, false, true, false, false, none,
    [⟨31, 0, .ro, 0, 4294967295, false⟩]⟩,
  ⟨0x0014, 0x00000000, true, false, false, false, none,
    [⟨31, 0, .ro, 0, 4294967295, false⟩]⟩,
  ⟨0x0018, 0x00000000, false, true, false, false, none,
    [⟨31, 0, .ro, 0, 4294967295, false⟩]⟩]

/-- Registers of the CROWN block. -/
def regsCrown : List RegDesc := [
  ⟨0x0000, 0x00000000, false, false, false, false, none,
    [⟨31, 0, .ro, 0, 4294967295, false⟩]⟩,
  ⟨0x0004, 0x00000000, false, false, false, false, none,
    [⟨31, 0, .ro, 0, 4294967295, false⟩]⟩,
  ⟨0x0008, 0x00000000, false, false, false, false, none,
    [⟨6, 6, .w1c, 0, 1, false⟩, ⟨5, 5, .w1c, 0, 1, false⟩, ⟨4, 4, .w1c, 0, 1, false⟩, ⟨3, 3, .ro, 0, 1, false⟩, ⟨2, 2, .ro, 0, 1, false⟩, ⟨1, 1, .ro, 0, 1, false⟩, ⟨0, 0, .ro, 0, 1, false⟩]⟩,
  ⟨0x000C, 0x00000000, false, false, false, false, none,
    [⟨4, 4, .w1c, 0, 1, false⟩, ⟨3, 3, .w1c, 0, 1, false⟩, ⟨2, 2, .w1c, 0, 1, false⟩, ⟨1, 1, .w1c, 0, 1, false⟩, ⟨0, 0, .w1c, 0, 1, false⟩]⟩,
  ⟨0x0010, 0x00000000, false, false, false, false, none,
    [⟨31, 16, .wo, 0, 65535, false⟩, ⟨0, 0, .wo, 0, 1, false⟩]⟩,
  ⟨0x0014, 0x00000000, false, false, false, false, none,
    [⟨23, 0, .ro, 0, 16777215, false⟩]⟩]

/-- Registers of the TIME block. -/
def regsTime : List RegDesc := [
  ⟨0x0000, 0x000A0410, false, false, true, true, none,
    [⟨25, 16, .rw, 1, 1000, false⟩, ⟨15, 6, .rw, 1, 600, false⟩, ⟨5, 4, .rw, 0, 3, false⟩]⟩,
  ⟨0x0004, 0x64320064, false, false, true, true, none,
    [⟨31, 24, .rw, 1, 250, false⟩, ⟨23, 16, .rw, 1, 200, false⟩, ⟨15, 0, .rw, 1, 1000, false⟩]⟩,
  ⟨0x0008, 0x00000000, false, false, false, false, none,
    [⟨15, 12, .ro, 0, 15, false⟩, ⟨9, 8, .ro, 0, 3, false⟩, ⟨7, 4, .ro, 0, 15, false⟩, ⟨3, 2, .ro, 0, 3, false⟩, ⟨1, 1, .ro, 0, 1, false⟩, ⟨0, 0, .ro, 0, 1, false⟩]⟩,
  ⟨0x000C, 0x00000000, false, false, false, false, none,
    [⟨8, 8, .w1c, 0, 1, false⟩, ⟨7, 7, .w1c, 0, 1, false⟩, ⟨6, 6, .w1c, 0, 1, false⟩, ⟨5, 5, .w1c, 0, 1, false⟩, ⟨4, 4, .w1c, 0, 1, false⟩, ⟨3, 3, .w1c, 0, 1, false⟩, ⟨2, 2, .w1c, 0, 1, false⟩, ⟨1, 1, .w1c, 0, 1, false⟩, ⟨0, 0, .w1c, 0, 1, false⟩]⟩,
  ⟨0x0010, 0x00000000, true, false, false, false, none,
    [⟨31, 0, .ro, 0, 4294967295, false⟩]⟩,
  ⟨0x0014, 0x00000000, false, true, false, false, none,
    [⟨31, 0, .ro, 0, 4294967295, false⟩]⟩,
  ⟨0x0018, 0x00000000, false, false, false, false, none,
    [⟨7, 0, .ro, 0, 255, false⟩]⟩,
  ⟨0x001C, 0x00000000, false, false, false, false, none,
    [⟨31, 0, .ro, 0, 4294967295, false⟩]⟩,
  ⟨0x0020, 0x00000000, false, false, false, false, none,
    [⟨31, 0, .ro, 0, 4294967295, false⟩]⟩,
  ⟨0x0024, 0x00000000, false, false, false, true, none,
    [⟨31, 24, .ro, 0, 255, false⟩, ⟨23, 16, .ro, 0, 255, false⟩, ⟨9, 8, .ro, 0, 3, false⟩, ⟨7, 0, .ro, 0, 255, false⟩]⟩,
  ⟨0x0028, 0x00000000, false, false, false, false, none,
    [⟨6, 0, .rw, 0, 127, false⟩]⟩,
  ⟨0x002C, 0x00000000, false, false, false, true, some F.TIME_PORT_SEL.PORT,
    [⟨7, 4, .ro, 0, 15, false⟩, ⟨3, 3, .ro, 0, 1, false⟩, ⟨1, 0, .ro, 0, 3, false⟩]⟩,
  ⟨0x0030, 0x00000000, false, false, false, true, some F.TIME_PORT_SEL.PORT,
    [⟨23, 0, .rw, 0, 16777215, false⟩]⟩,
  ⟨0x0034, 0x00000000, false, false, false, true, some F.TIME_PORT_SEL.PORT,
    [⟨23, 0, .rw, 0, 16777215, false⟩]⟩,
  ⟨0x0040, 0x00000000, false, false, false, false, none,
    [⟨5, 0, .rw, 0, 63, false⟩]⟩,
  ⟨0x0044, 0x00000000, false, false, true, false, some F.TIME_TRIG_SEL.TRIG,
    [⟨17, 16, .ro, 0, 3, false⟩, ⟨15, 8, .rw, 0, 255, false⟩, ⟨6, 4, .rw, 0, 7, false⟩, ⟨2, 1, .rw, 0, 3, false⟩, ⟨0, 0, .rw, 0, 1, false⟩]⟩,
  ⟨0x0048, 0x00000000, true, false, true, false, some F.TIME_TRIG_SEL.TRIG,
    [⟨31, 0, .rw, 0, 4294967295, false⟩]⟩,
  ⟨0x004C, 0x00000000, false, true, true, false, some F.TIME_TRIG_SEL.TRIG,
    [⟨31, 0, .rw, 0, 4294967295, false⟩]⟩,
  ⟨0x0050, 0x00000000, false, false, true, false, some F.TIME_TRIG_SEL.TRIG,
    [⟨31, 0, .rw, 0, 4294967295, false⟩]⟩,
  ⟨0x0060, 0x00000000, false, false, false, false, none,
    [⟨4, 0, .rw, 0, 31, false⟩]⟩,
  ⟨0x0064, 0x00000000, false, false, false, false, some F.TIME_CAP_SEL.CAP,
    [⟨17, 17, .w1c, 0, 1, false⟩, ⟨16, 16, .ro, 0, 1, false⟩, ⟨9, 8, .rw, 0, 3, false⟩, ⟨7, 0, .rw, 0, 255, false⟩]⟩,
  ⟨0x0068, 0x00000000, true, false, false, false, some F.TIME_CAP_SEL.CAP,
    [⟨31, 0, .ro, 0, 4294967295, false⟩]⟩,
  ⟨0x006C, 0x00000000, false, true, false, false, some F.TIME_CAP_SEL.CAP,
    [⟨31, 0, .ro, 0, 4294967295, false⟩]⟩,
  ⟨0x0070, 0x00000000, false, false, false, false, some F.TIME_CAP_SEL.CAP,
    [⟨7, 0, .ro, 0, 255, false⟩]⟩]

/-- Registers of the NET block. -/
def regsNet : List RegDesc := [
  ⟨0x0000, 0x00000000, false, false, false, false, none,
    [⟨3, 0, .rw, 0, 15, false⟩]⟩,
  ⟨0x0004, 0x00000000, false, false, false, false, some F.NET_PORT_SEL.PORT,
    [⟨15, 4, .ro, 0, 4095, false⟩, ⟨3, 2, .ro, 0, 3, false⟩, ⟨0, 0, .ro, 0, 1, false⟩]⟩,
  ⟨0x0008, 0x00000000, false, false, false, false, some F.NET_PORT_SEL.PORT,
    [⟨31, 0, .rc, 0, 4294967295, false⟩]⟩,
  ⟨0x000C, 0x00000000, false, false, false, false, some F.NET_PORT_SEL.PORT,
    [⟨31, 0, .rc, 0, 4294967295, false⟩]⟩,
  ⟨0x0010, 0x00000000, false, false, false, false, some F.NET_PORT_SEL.PORT,
    [⟨31, 16, .rc, 0, 65535, false⟩, ⟨15, 0, .rc, 0, 65535, false⟩]⟩]

/-- Registers of the CMD block. -/
def regsCmd : List RegDesc := [
  ⟨0x0000, 0x0000003C, false, false, false, false, none,
    [⟨11, 0, .rw, 5, 3600, false⟩]⟩,
  ⟨0x0004, 0x00000000, false, false, false, false, none,
    [⟨20, 16, .ro, 0, 31, false⟩, ⟨12, 8, .ro, 0, 31, false⟩, ⟨0, 0, .ro, 0, 1, false⟩]⟩,
  ⟨0x0008, 0x00000000, false, false, false, false, none,
    [⟨31, 24, .rc, 0, 255, false⟩, ⟨23, 16, .rc, 0, 255, false⟩, ⟨15, 8, .rc, 0, 255, false⟩, ⟨7, 0, .rc, 0, 255, false⟩]⟩,
  ⟨0x000C, 0x00000000, false, false, false, false, none,
    [⟨3, 0, .rw, 0, 15, false⟩]⟩,
  ⟨0x0010, 0x00000000, false, false, false, false, some F.CMD_SESS_SEL.SLOT,
    [⟨31, 0, .ro, 0, 4294967295, false⟩]⟩,
  ⟨0x0014, 0x00000000, false, false, false, false, some F.CMD_SESS_SEL.SLOT,
    [⟨31, 30, .ro, 0, 3, false⟩, ⟨26, 24, .ro, 0, 7, false⟩, ⟨19, 16, .ro, 0, 15, false⟩, ⟨11, 8, .ro, 0, 15, false⟩]⟩,
  ⟨0x0018, 0x00000000, false, false, false, false, some F.CMD_SESS_SEL.SLOT,
    [⟨31, 0, .ro, 0, 4294967295, false⟩]⟩]

/-- Registers of the JNL block. -/
def regsJnl : List RegDesc := [
  ⟨0x0000, 0x00000000, true, false, false, false, none,
    [⟨31, 0, .ro, 0, 4294967295, false⟩]⟩,
  ⟨0x0004, 0x00000000, false, true, false, false, none,
    [⟨31, 0, .ro, 0, 4294967295, false⟩]⟩,
  ⟨0x0008, 0x00000000, false, false, false, false, none,
    [⟨31, 24, .ro, 0, 255, false⟩, ⟨16, 0, .ro, 0, 131071, false⟩]⟩]

/-- Registers of the CFG block. -/
def regsCfg : List RegDesc := [
  ⟨0x0000, 0x00000000, false, false, false, false, none,
    [⟨11, 8, .ro, 0, 15, false⟩, ⟨7, 7, .ro, 0, 1, false⟩, ⟨3, 3, .ro, 0, 1, false⟩, ⟨2, 2, .ro, 0, 1, false⟩, ⟨1, 1, .ro, 0, 1, false⟩, ⟨0, 0, .ro, 0, 1, false⟩]⟩,
  ⟨0x0004, 0x03330003, false, false, false, false, none,
    [⟨25, 16, .ro, 0, 1023, false⟩, ⟨3, 3, .ro, 0, 1, false⟩, ⟨2, 0, .ro, 0, 7, false⟩]⟩,
  ⟨0x0008, 0x03330003, false, false, false, false, none,
    [⟨25, 16, .ro, 0, 1023, false⟩, ⟨3, 3, .ro, 0, 1, false⟩, ⟨2, 0, .ro, 0, 7, false⟩]⟩,
  ⟨0x000C, 0x00000000, false, false, false, false, none,
    [⟨31, 0, .ro, 0, 4294967295, false⟩]⟩,
  ⟨0x0010, 0x00000000, false, false, false, false, none,
    [⟨31, 0, .ro, 0, 4294967295, false⟩]⟩,
  ⟨0x0014, 0x00000000, false, false, false, false, none,
    [⟨11, 0, .ro, 0, 4095, false⟩]⟩,
  ⟨0x0018, 0x00000000, false, false, false, false, none,
    [⟨31, 24, .rc, 0, 255, false⟩, ⟨23, 16, .rc, 0, 255, false⟩, ⟨15, 8, .rc, 0, 255, false⟩, ⟨7, 0, .rc, 0, 255, false⟩]⟩,
  ⟨0x0020, 0x00000000, false, false, false, false, none,
    [⟨31, 0, .rw, 0, 4294967295, false⟩]⟩]

/-- Registers of the HOOD block. -/
def regsHood : List RegDesc := [
  ⟨0x0000, 0x00080800, false, false, true, false, none,
    [⟨23, 16, .rw, 1, 255, false⟩, ⟨15, 0, .rw, 1024, 65535, false⟩]⟩,
  ⟨0x0004, 0x00000000, false, false, false, false, none,
    [⟨15, 8, .ro, 0, 255, false⟩, ⟨2, 0, .ro, 0, 7, false⟩]⟩,
  ⟨0x0008, 0x00000000, false, false, false, true, none,
    [⟨31, 0, .ro, 0, 4294967295, false⟩]⟩,
  ⟨0x000C, 0x00000000, false, false, false, false, none,
    [⟨31, 0, .ro, 0, 4294967295, false⟩]⟩,
  ⟨0x0010, 0x00000000, true, false, false, false, none,
    [⟨31, 0, .ro, 0, 4294967295, false⟩]⟩,
  ⟨0x0014, 0x00000000, false, true, false, false, none,
    [⟨31, 0, .ro, 0, 4294967295, false⟩]⟩,
  ⟨0x0018, 0x00000000, false, false, false, false, none,
    [⟨31, 16, .ro, 0, 65535, false⟩, ⟨15, 0, .ro, 0, 65535, false⟩]⟩,
  ⟨0x001C, 0x00000000, false, false, false, false, none,
    [⟨3, 0, .w1c, 0, 15, false⟩]⟩]

/-- Registers of the MEM block. -/
def regsMem : List RegDesc := [
  ⟨0x0000, 0x00000000, false, false, false, false, none,
    [⟨8, 7, .ro, 0, 3, false⟩, ⟨6, 6, .ro, 0, 1, false⟩, ⟨5, 5, .ro, 0, 1, false⟩, ⟨4, 4, .ro, 0, 1, false⟩, ⟨0, 0, .ro, 0, 1, false⟩]⟩,
  ⟨0x0004, 0x00000018, false, false, false, false, none,
    [⟨31, 24, .ro, 0, 255, false⟩, ⟨7, 0, .rw, 1, 168, false⟩]⟩,
  ⟨0x0008, 0x00000000, false, false, false, false, none,
    [⟨31, 24, .rc, 0, 255, false⟩, ⟨23, 8, .rc, 0, 65535, false⟩, ⟨7, 0, .rc, 0, 255, false⟩]⟩,
  ⟨0x000C, 0x00000000, false, false, false, false, none,
    [⟨31, 24, .rc, 0, 255, false⟩, ⟨23, 16, .rc, 0, 255, false⟩, ⟨15, 8, .rc, 0, 255, false⟩, ⟨7, 0, .rc, 0, 255, false⟩]⟩,
  ⟨0x0010, 0x00000000, true, false, false, false, none,
    [⟨31, 0, .ro, 0, 4294967295, false⟩]⟩,
  ⟨0x0014, 0x00000000, false, true, false, false, none,
    [⟨31, 0, .ro, 0, 4294967295, false⟩]⟩,
  ⟨0x0018, 0x00000000, false, false, false, false, none,
    [⟨1, 1, .w1c, 0, 1, false⟩, ⟨0, 0, .w1c, 0, 1, false⟩]⟩]

/-- Registers of the XFER block. -/
def regsXfer : List RegDesc := [
  ⟨0x0000, 0x00000004, false, false, false, false, none,
    [⟨8, 8, .rw, 0, 1, false⟩, ⟨7, 0, .rw, 1, 255, false⟩]⟩,
  ⟨0x0004, 0x00000000, false, false, false, false, none,
    [⟨31, 16, .wo, 0, 65535, false⟩, ⟨1, 1, .wo, 0, 1, false⟩, ⟨0, 0, .wo, 0, 1, false⟩]⟩,
  ⟨0x0008, 0x00000000, false, false, false, false, none,
    [⟨8, 8, .ro, 0, 1, false⟩, ⟨7, 7, .ro, 0, 1, false⟩, ⟨4, 0, .ro, 0, 31, false⟩]⟩,
  ⟨0x000C, 0x00000000, false, false, false, false, none,
    [⟨31, 0, .w1c, 0, 4294967295, false⟩]⟩,
  ⟨0x0010, 0x00000000, false, false, false, false, none,
    [⟨31, 0, .w1c, 0, 4294967295, false⟩]⟩,
  ⟨0x0014, 0x00000000, true, false, false, false, none,
    [⟨31, 0, .ro, 0, 4294967295, false⟩]⟩,
  ⟨0x0018, 0x00000000, false, true, false, false, none,
    [⟨31, 0, .ro, 0, 4294967295, false⟩]⟩,
  ⟨0x0020, 0x00000000, false, false, false, false, none,
    [⟨4, 0, .rw, 0, 31, false⟩]⟩,
  ⟨0x0024, 0x00000000, false, false, false, false, some F.XFER_CH_SEL.CH,
    [⟨8, 8, .rw, 0, 1, false⟩, ⟨1, 1, .wo, 0, 1, false⟩, ⟨0, 0, .wo, 0, 1, false⟩]⟩,
  ⟨0x0028, 0x00000100, false, false, false, false, some F.XFER_CH_SEL.CH,
    [⟨15, 0, .rw, 1, 65535, false⟩]⟩,
  ⟨0x002C, 0x00000000, true, false, false, false, some F.XFER_CH_SEL.CH,
    [⟨31, 0, .rw, 0, 4294967295, false⟩]⟩,
  ⟨0x0030, 0x00000000, false, true, false, false, some F.XFER_CH_SEL.CH,
    [⟨31, 0, .rw, 0, 4294967295, false⟩]⟩,
  ⟨0x0034, 0x00000000, false, false, false, false, some F.XFER_CH_SEL.CH,
    [⟨31, 16, .ro, 0, 65535, false⟩, ⟨11, 8, .ro, 0, 15, false⟩, ⟨5, 5, .ro, 0, 1, false⟩, ⟨4, 4, .w1c, 0, 1, false⟩, ⟨2, 0, .ro, 0, 7, false⟩]⟩,
  ⟨0x0038, 0x00000000, false, false, false, false, some F.XFER_CH_SEL.CH,
    [⟨30, 0, .ro, 0, 2147483647, false⟩]⟩,
  ⟨0x003C, 0xFFFFFFFF, false, false, false, false, some F.XFER_CH_SEL.CH,
    [⟨31, 0, .ro, 0, 4294967295, false⟩]⟩]

/-- Registers of the GUARD block. -/
def regsGuard : List RegDesc := [
  ⟨0x0000, 0x00000000, false, false, false, false, none,
    [⟨12, 8, .rw, 0, 31, false⟩, ⟨5, 0, .rw, 0, 63, false⟩]⟩,
  ⟨0x0004, 0x00000000, true, false, false, false, none,
    [⟨31, 6, .rw, 0, 67108863, false⟩]⟩,
  ⟨0x0008, 0x00000000, false, true, false, false, none,
    [⟨3, 0, .rw, 0, 15, false⟩]⟩,
  ⟨0x000C, 0x00000006, false, false, false, false, none,
    [⟨10, 10, .rw, 0, 1, false⟩, ⟨9, 9, .rw, 0, 1, false⟩, ⟨8, 8, .rw, 0, 1, false⟩, ⟨7, 0, .rw, 6, 36, false⟩]⟩,
  ⟨0x0010, 0x00000000, false, false, true, false, none,
    [⟨31, 16, .wo, 0, 65535, false⟩, ⟨0, 0, .wo, 0, 1, false⟩]⟩,
  ⟨0x0014, 0x00000000, false, false, false, false, none,
    [⟨22, 21, .ro, 0, 3, false⟩, ⟨20, 20, .ro, 0, 1, false⟩, ⟨19, 14, .ro, 0, 63, false⟩, ⟨1, 1, .w1c, 0, 1, false⟩, ⟨0, 0, .w1c, 0, 1, false⟩]⟩,
  ⟨0x0018, 0x00000000, true, false, false, false, none,
    [⟨31, 0, .ro, 0, 4294967295, false⟩]⟩,
  ⟨0x001C, 0x00000000, false, true, false, false, none,
    [⟨31, 0, .ro, 0, 4294967295, false⟩]⟩]

/-- Registers of the ANA block. -/
def regsAna : List RegDesc := [
  ⟨0x0000, 0x00000000, false, false, false, false, none,
    [⟨4, 0, .rw, 0, 31, false⟩]⟩,
  ⟨0x0004, 0x00000000, false, false, false, true, some F.ANA_CH_SEL.CH,
    [⟨15, 13, .ro, 0, 7, false⟩, ⟨12, 11, .ro, 0, 2, false⟩, ⟨10, 9, .ro, 0, 2, false⟩, ⟨8, 8, .ro, 0, 1, false⟩, ⟨7, 7, .ro, 0, 1, false⟩, ⟨6, 5, .ro, 0, 3, false⟩, ⟨4, 4, .ro, 0, 1, false⟩, ⟨3, 0, .ro, 0, 7, false⟩]⟩,
  ⟨0x0008, 0x00000000, false, false, false, false, some F.ANA_CH_SEL.CH,
    [⟨14, 14, .ro, 0, 1, false⟩, ⟨13, 13, .ro, 0, 1, false⟩, ⟨12, 12, .ro, 0, 1, false⟩, ⟨11, 11, .ro, 0, 1, false⟩, ⟨10, 10, .ro, 0, 1, false⟩, ⟨9, 9, .ro, 0, 1, false⟩, ⟨8, 8, .ro, 0, 1, false⟩, ⟨7, 7, .ro, 0, 1, false⟩, ⟨6, 6, .ro, 0, 1, false⟩, ⟨5, 5, .ro, 0, 1, false⟩, ⟨4, 4, .ro, 0, 1, false⟩, ⟨3, 3, .ro, 0, 1, false⟩, ⟨2, 2, .ro, 0, 1, false⟩, ⟨1, 1, .ro, 0, 1, false⟩, ⟨0, 0, .ro, 0, 1, false⟩]⟩,
  ⟨0x000C, 0x00000000, false, false, false, false, some F.ANA_CH_SEL.CH,
    [⟨31, 0, .ro, 0, 4294967295, false⟩]⟩,
  ⟨0x0010, 0x00000000, false, false, false, false, some F.ANA_CH_SEL.CH,
    [⟨31, 0, .ro, 0, 4294967295, false⟩]⟩,
  ⟨0x0014, 0x00000000, false, false, false, false, none,
    [⟨31, 0, .ro, 0, 4294967295, false⟩]⟩,
  ⟨0x0018, 0x00000000, false, false, false, false, none,
    [⟨31, 0, .ro, 0, 4294967295, false⟩]⟩,
  ⟨0x0020, 0x00000000, false, false, false, false, none,
    [⟨31, 16, .wo, 0, 65535, false⟩, ⟨12, 8, .wo, 0, 31, false⟩, ⟨2, 0, .wo, 0, 7, false⟩]⟩,
  ⟨0x0024, 0x00000000, false, false, false, false, none,
    [⟨31, 0, .rw, 0, 4294967295, false⟩]⟩,
  ⟨0x0028, 0x00000000, false, false, false, false, none,
    [⟨31, 0, .rw, 0, 4294967295, false⟩]⟩,
  ⟨0x002C, 0x00000000, false, false, false, false, none,
    [⟨15, 8, .ro, 0, 255, false⟩, ⟨4, 2, .ro, 0, 7, false⟩, ⟨1, 0, .ro, 0, 3, false⟩]⟩,
  ⟨0x0030, 0x00000000, false, false, false, false, none,
    [⟨31, 24, .ro, 0, 255, false⟩, ⟨18, 16, .rw, 0, 7, false⟩, ⟨15, 8, .rw, 1, 255, false⟩, ⟨4, 4, .ro, 0, 1, false⟩, ⟨3, 2, .rw, 0, 3, false⟩, ⟨0, 0, .wo, 0, 1, false⟩]⟩,
  ⟨0x0100, 0x00000000, false, false, false, false, some F.ANA_HART_PT.MODEM,
    [⟨31, 0, .rw, 0, 4294967295, false⟩]⟩]

/-- Registers of the CONV block. -/
def regsConv : List RegDesc := [
  ⟨0x0000, 0x00000000, false, false, true, false, none,
    [⟨0, 0, .rw, 0, 1, false⟩]⟩,
  ⟨0x0004, 0x00000000, false, false, false, false, none,
    [⟨31, 16, .ro, 0, 65535, false⟩, ⟨5, 5, .ro, 0, 1, false⟩, ⟨4, 4, .ro, 0, 1, false⟩, ⟨3, 3, .ro, 0, 1, false⟩, ⟨0, 0, .ro, 0, 1, false⟩]⟩,
  ⟨0x0008, 0x00000000, false, false, false, false, none,
    [⟨31, 0, .ro, 0, 4294967295, false⟩]⟩,
  ⟨0x000C, 0x00000000, false, false, false, false, none,
    [⟨5, 5, .w1c, 0, 1, false⟩, ⟨4, 4, .w1c, 0, 1, false⟩, ⟨3, 3, .w1c, 0, 1, false⟩, ⟨2, 2, .w1c, 0, 1, false⟩, ⟨1, 1, .w1c, 0, 1, false⟩, ⟨0, 0, .w1c, 0, 1, false⟩]⟩,
  ⟨0x0010, 0x0018000A, false, false, false, false, none,
    [⟨27, 16, .rw, 0, 4095, false⟩, ⟨11, 0, .rw, 1, 3600, false⟩]⟩,
  ⟨0x0020, 0x00000000, false, false, false, false, none,
    [⟨1, 0, .rw, 0, 3, false⟩]⟩,
  ⟨0x0024, 0x00000000, false, false, false, false, some F.CONV_GRP_SEL.GRP,
    [⟨14, 12, .rw, 0, 4, false⟩, ⟨11, 8, .rw, 0, 15, false⟩, ⟨2, 2, .rw, 0, 1, false⟩, ⟨1, 1, .wo, 0, 1, false⟩, ⟨0, 0, .wo, 0, 1, false⟩]⟩,
  ⟨0x0028, 0x00400040, false, false, false, false, some F.CONV_GRP_SEL.GRP,
    [⟨22, 20, .ro, 0, 7, false⟩, ⟨17, 16, .ro, 0, 3, false⟩, ⟨11, 8, .ro, 0, 15, false⟩, ⟨6, 6, .ro, 0, 1, false⟩, ⟨4, 4, .ro, 0, 1, false⟩, ⟨3, 3, .ro, 0, 1, false⟩, ⟨2, 0, .ro, 0, 7, false⟩]⟩,
  ⟨0x002C, 0x00000000, false, false, false, false, some F.CONV_GRP_SEL.GRP,
    [⟨31, 16, .wo, 0, 65535, false⟩, ⟨12, 8, .wo, 0, 31, false⟩, ⟨6, 4, .wo, 0, 7, false⟩, ⟨0, 0, .wo, 0, 1, false⟩]⟩,
  ⟨0x0030, 0x00000000, false, false, false, false, some F.CONV_GRP_SEL.GRP,
    [⟨31, 24, .rc, 0, 255, false⟩, ⟨23, 16, .rc, 0, 255, false⟩, ⟨15, 0, .rc, 0, 65535, false⟩]⟩,
  ⟨0x0040, 0x00010000, false, false, false, false, some F.CONV_GRP_SEL.GRP,
    [⟨31, 16, .rw, 1, 65535, false⟩, ⟨12, 8, .rw, 0, 16, false⟩, ⟨6, 4, .rw, 0, 7, false⟩]⟩,
  ⟨0x0044, 0x00010000, false, false, false, false, some F.CONV_GRP_SEL.GRP,
    [⟨31, 16, .rw, 1, 65535, false⟩, ⟨12, 8, .rw, 0, 16, false⟩, ⟨6, 4, .rw, 0, 7, false⟩]⟩,
  ⟨0x0048, 0x00010000, false, false, false, false, some F.CONV_GRP_SEL.GRP,
    [⟨31, 16, .rw, 1, 65535, false⟩, ⟨12, 8, .rw, 0, 16, false⟩, ⟨6, 4, .rw, 0, 7, false⟩]⟩,
  ⟨0x004C, 0x00010000, false, false, false, false, some F.CONV_GRP_SEL.GRP,
    [⟨31, 16, .rw, 1, 65535, false⟩, ⟨12, 8, .rw, 0, 16, false⟩, ⟨6, 4, .rw, 0, 7, false⟩]⟩,
  ⟨0x0050, 0x00010000, false, false, false, false, some F.CONV_GRP_SEL.GRP,
    [⟨31, 16, .rw, 1, 65535, false⟩, ⟨12, 8, .rw, 0, 16, false⟩, ⟨6, 4, .rw, 0, 7, false⟩]⟩,
  ⟨0x0054, 0x00010000, false, false, false, false, some F.CONV_GRP_SEL.GRP,
    [⟨31, 16, .rw, 1, 65535, false⟩, ⟨12, 8, .rw, 0, 16, false⟩, ⟨6, 4, .rw, 0, 7, false⟩]⟩,
  ⟨0x0058, 0x00010000, false, false, false, false, some F.CONV_GRP_SEL.GRP,
    [⟨31, 16, .rw, 1, 65535, false⟩, ⟨12, 8, .rw, 0, 16, false⟩, ⟨6, 4, .rw, 0, 7, false⟩]⟩,
  ⟨0x005C, 0x00010000, false, false, false, false, some F.CONV_GRP_SEL.GRP,
    [⟨31, 16, .rw, 1, 65535, false⟩, ⟨12, 8, .rw, 0, 16, false⟩, ⟨6, 4, .rw, 0, 7, false⟩]⟩,
  ⟨0x0060, 0x00010000, false, false, false, false, some F.CONV_GRP_SEL.GRP,
    [⟨31, 16, .rw, 1, 65535, false⟩, ⟨12, 8, .rw, 0, 16, false⟩, ⟨6, 4, .rw, 0, 7, false⟩]⟩,
  ⟨0x0064, 0x00010000, false, false, false, false, some F.CONV_GRP_SEL.GRP,
    [⟨31, 16, .rw, 1, 65535, false⟩, ⟨12, 8, .rw, 0, 16, false⟩, ⟨6, 4, .rw, 0, 7, false⟩]⟩,
  ⟨0x0068, 0x00010000, false, false, false, false, some F.CONV_GRP_SEL.GRP,
    [⟨31, 16, .rw, 1, 65535, false⟩, ⟨12, 8, .rw, 0, 16, false⟩, ⟨6, 4, .rw, 0, 7, false⟩]⟩,
  ⟨0x006C, 0x00010000, false, false, false, false, some F.CONV_GRP_SEL.GRP,
    [⟨31, 16, .rw, 1, 65535, false⟩, ⟨12, 8, .rw, 0, 16, false⟩, ⟨6, 4, .rw, 0, 7, false⟩]⟩,
  ⟨0x0070, 0x00010000, false, false, false, false, some F.CONV_GRP_SEL.GRP,
    [⟨31, 16, .rw, 1, 65535, false⟩, ⟨12, 8, .rw, 0, 16, false⟩, ⟨6, 4, .rw, 0, 7, false⟩]⟩,
  ⟨0x0074, 0x00010000, false, false, false, false, some F.CONV_GRP_SEL.GRP,
    [⟨31, 16, .rw, 1, 65535, false⟩, ⟨12, 8, .rw, 0, 16, false⟩, ⟨6, 4, .rw, 0, 7, false⟩]⟩,
  ⟨0x0078, 0x00010000, false, false, false, false, some F.CONV_GRP_SEL.GRP,
    [⟨31, 16, .rw, 1, 65535, false⟩, ⟨12, 8, .rw, 0, 16, false⟩, ⟨6, 4, .rw, 0, 7, false⟩]⟩,
  ⟨0x007C, 0x00010000, false, false, false, false, some F.CONV_GRP_SEL.GRP,
    [⟨31, 16, .rw, 1, 65535, false⟩, ⟨12, 8, .rw, 0, 16, false⟩, ⟨6, 4, .rw, 0, 7, false⟩]⟩]

/-- Registers of the DIO block. -/
def regsDio : List RegDesc := [
  ⟨0x0000, 0x00000000, false, false, false, false, none,
    [⟨4, 0, .rw, 0, 31, false⟩]⟩,
  ⟨0x0004, 0x00000000, false, false, false, true, some F.DIO_CH_SEL.CH,
    [⟨31, 20, .ro, 1, 4095, false⟩, ⟨9, 8, .ro, 0, 2, false⟩, ⟨6, 4, .ro, 0, 4, false⟩, ⟨3, 3, .ro, 0, 1, false⟩, ⟨1, 0, .ro, 0, 2, false⟩]⟩,
  ⟨0x0008, 0x00000000, false, false, false, false, some F.DIO_CH_SEL.CH,
    [⟨5, 5, .ro, 0, 1, false⟩, ⟨4, 4, .ro, 0, 1, false⟩, ⟨3, 3, .ro, 0, 1, false⟩, ⟨2, 2, .ro, 0, 1, false⟩, ⟨1, 1, .ro, 0, 1, false⟩, ⟨0, 0, .ro, 0, 1, false⟩]⟩,
  ⟨0x000C, 0x00000064, false, false, true, false, none,
    [⟨13, 0, .rw, 1, 10000, false⟩]⟩,
  ⟨0x0010, 0x00000001, false, false, false, false, none,
    [⟨7, 4, .ro, 0, 15, false⟩, ⟨1, 1, .ro, 0, 1, false⟩, ⟨0, 0, .ro, 0, 1, false⟩]⟩,
  ⟨0x0014, 0x00000000, false, false, false, false, none,
    [⟨31, 24, .rc, 0, 255, false⟩, ⟨23, 16, .rc, 0, 255, false⟩, ⟨15, 0, .rc, 0, 65535, false⟩]⟩]

/-- Registers of the CAN block. -/
def regsCan : List RegDesc := [
  ⟨0x0000, 0x00000000, false, false, false, false, none,
    [⟨1, 0, .rw, 0, 3, false⟩]⟩,
  ⟨0x0004, 0x00000001, false, false, false, false, some F.CAN_SEL.BUS,
    [⟨6, 6, .wo, 0, 1, false⟩, ⟨5, 5, .rw, 0, 1, false⟩, ⟨4, 4, .rw, 0, 1, false⟩, ⟨2, 1, .rw, 0, 3, true⟩, ⟨0, 0, .rw, 0, 1, false⟩]⟩,
  ⟨0x0008, 0x00000000, false, false, false, true, some F.CAN_SEL.BUS,
    [⟨31, 24, .rw, 0, 255, false⟩, ⟨23, 16, .rw, 1, 255, false⟩, ⟨15, 8, .rw, 0, 127, false⟩, ⟨4, 0, .rw, 0, 31, false⟩]⟩,
  ⟨0x000C, 0x00000000, false, false, false, true, some F.CAN_SEL.BUS,
    [⟨31, 24, .rw, 0, 255, false⟩, ⟨23, 16, .rw, 0, 31, false⟩, ⟨15, 8, .rw, 0, 15, false⟩, ⟨4, 0, .rw, 0, 31, false⟩]⟩,
  ⟨0x0010, 0x00000004, false, false, false, false, some F.CAN_SEL.BUS,
    [⟨31, 24, .ro, 0, 255, false⟩, ⟨23, 16, .ro, 0, 255, false⟩, ⟨2, 0, .ro, 0, 7, false⟩]⟩,
  ⟨0x0014, 0x00000000, false, false, false, false, some F.CAN_SEL.BUS,
    [⟨3, 3, .w1c, 0, 1, false⟩, ⟨2, 2, .w1c, 0, 1, false⟩, ⟨1, 1, .w1c, 0, 1, false⟩, ⟨0, 0, .w1c, 0, 1, false⟩]⟩,
  ⟨0x0018, 0x00000000, false, false, false, false, some F.CAN_SEL.BUS,
    [⟨31, 16, .rc, 0, 65535, false⟩, ⟨15, 0, .rc, 0, 65535, false⟩]⟩,
  ⟨0x001C, 0x00000000, false, false, false, false, some F.CAN_SEL.BUS,
    [⟨31, 0, .w1s, 0, 4294967295, false⟩]⟩,
  ⟨0x0020, 0x00000000, false, false, false, false, some F.CAN_SEL.BUS,
    [⟨31, 0, .w1s, 0, 4294967295, false⟩]⟩,
  ⟨0x0024, 0x00000000, false, false, false, false, some F.CAN_SEL.BUS,
    [⟨31, 0, .w1s, 0, 4294967295, false⟩]⟩,
  ⟨0x0028, 0x00000000, false, false, false, false, some F.CAN_SEL.BUS,
    [⟨31, 0, .w1s, 0, 4294967295, false⟩]⟩,
  ⟨0x0030, 0x00000000, true, false, false, false, some F.CAN_SEL.BUS,
    [⟨31, 0, .ro, 0, 4294967295, false⟩]⟩,
  ⟨0x0034, 0x00000000, false, true, false, false, some F.CAN_SEL.BUS,
    [⟨31, 0, .ro, 0, 4294967295, false⟩]⟩,
  ⟨0x0038, 0x00000000, true, false, false, false, some F.CAN_SEL.BUS,
    [⟨31, 0, .ro, 0, 4294967295, false⟩]⟩,
  ⟨0x003C, 0x00000000, false, true, false, false, some F.CAN_SEL.BUS,
    [⟨31, 0, .ro, 0, 4294967295, false⟩]⟩]

/-- Registers of the SER block. -/
def regsSer : List RegDesc := [
  ⟨0x0000, 0x00000000, false, false, false, false, none,
    [⟨1, 0, .rw, 0, 3, false⟩]⟩,
  ⟨0x0004, 0x00000000, false, false, false, true, some F.SER_SEL.LINE,
    [⟨31, 28, .rw, 0, 15, false⟩, ⟨27, 12, .rw, 1, 65535, false⟩, ⟨11, 11, .rw, 0, 1, false⟩, ⟨10, 10, .rw, 0, 1, false⟩, ⟨9, 9, .rw, 0, 1, false⟩, ⟨8, 7, .rw, 0, 3, true⟩, ⟨6, 6, .rw, 0, 1, false⟩, ⟨5, 3, .rw, 0, 4, false⟩]⟩,
  ⟨0x0008, 0x00000000, false, false, false, true, some F.SER_SEL.LINE,
    [⟨15, 8, .rw, 1, 255, false⟩, ⟨7, 4, .rw, 0, 15, false⟩, ⟨3, 0, .rw, 0, 15, false⟩]⟩,
  ⟨0x000C, 0x00000000, false, false, false, false, some F.SER_SEL.LINE,
    [⟨2, 2, .wo, 0, 1, false⟩, ⟨1, 1, .rw, 0, 1, false⟩, ⟨0, 0, .rw, 0, 1, false⟩]⟩,
  ⟨0x0010, 0x00000000, false, false, false, false, some F.SER_SEL.LINE,
    [⟨31, 23, .ro, 0, 511, false⟩, ⟨17, 9, .ro, 0, 511, false⟩, ⟨1, 1, .ro, 0, 1, false⟩, ⟨0, 0, .ro, 0, 1, false⟩]⟩,
  ⟨0x0014, 0x00000000, false, false, false, false, some F.SER_SEL.LINE,
    [⟨31, 24, .rc, 0, 255, false⟩, ⟨23, 16, .rc, 0, 255, false⟩, ⟨15, 8, .rc, 0, 255, false⟩, ⟨7, 0, .rc, 0, 255, false⟩]⟩]

/-- Registers of the EVR block. -/
def regsEvr : List RegDesc := [
  ⟨0x0000, 0x00000000, false, false, false, false, none,
    [⟨17, 10, .rc, 0, 255, false⟩, ⟨9, 3, .ro, 0, 127, false⟩, ⟨0, 0, .ro, 0, 1, false⟩]⟩,
  ⟨0x0004, 0x00000000, true, false, false, false, none,
    [⟨31, 0, .ro, 0, 4294967295, false⟩]⟩,
  ⟨0x0008, 0x00000000, false, true, false, false, none,
    [⟨31, 0, .ro, 0, 4294967295, false⟩]⟩,
  ⟨0x000C, 0x00010000, false, false, false, false, none,
    [⟨16, 0, .ro, 0, 131071, false⟩]⟩,
  ⟨0x0010, 0x000003E8, false, false, false, false, none,
    [⟨15, 0, .rw, 1, 60000, false⟩]⟩,
  ⟨0x0014, 0x00000000, false, false, false, false, none,
    [⟨31, 0, .rc, 0, 4294967295, false⟩]⟩,
  ⟨0x0040, 0x00000000, false, false, false, false, none,
    [⟨31, 0, .wo, 0, 4294967295, false⟩]⟩]

/-- Registers of the PWR block. -/
def regsPwr : List RegDesc := [
  ⟨0x0000, 0x00000400, false, false, false, false, none,
    [⟨14, 14, .ro, 0, 1, false⟩, ⟨13, 10, .ro, 0, 15, false⟩, ⟨9, 8, .ro, 0, 3, false⟩, ⟨2, 2, .ro, 0, 1, false⟩, ⟨1, 1, .ro, 0, 1, false⟩, ⟨0, 0, .ro, 0, 1, false⟩]⟩,
  ⟨0x0004, 0x00000000, false, false, false, false, none,
    [⟨31, 16, .ro, 0, 65535, false⟩, ⟨15, 0, .ro, 0, 65535, false⟩]⟩,
  ⟨0x0008, 0x00000000, false, false, false, false, none,
    [⟨6, 0, .rw, 0, 127, false⟩]⟩,
  ⟨0x000C, 0x00000000, false, false, false, false, some F.PWR_DOM_SEL.DOM,
    [⟨4, 4, .ro, 0, 1, false⟩, ⟨2, 0, .ro, 0, 7, false⟩]⟩,
  ⟨0x0010, 0x00000000, false, false, false, false, some F.PWR_DOM_SEL.DOM,
    [⟨31, 16, .wo, 0, 65535, false⟩, ⟨1, 1, .wo, 0, 1, false⟩, ⟨0, 0, .wo, 0, 1, false⟩]⟩,
  ⟨0x0014, 0x00000000, false, false, false, false, none,
    [⟨2, 2, .w1c, 0, 1, false⟩, ⟨1, 1, .w1c, 0, 1, false⟩, ⟨0, 0, .w1c, 0, 1, false⟩]⟩,
  ⟨0x0018, 0x00000000, false, false, false, false, none,
    [⟨31, 16, .wo, 0, 65535, false⟩, ⟨0, 0, .wo, 0, 1, false⟩]⟩]

/-- Registers of the SKERRY block. -/
def regsSkerry : List RegDesc := [
  ⟨0x0000, 0x00000001, false, false, false, false, none,
    [⟨13, 8, .ro, 0, 63, false⟩, ⟨3, 3, .ro, 0, 1, false⟩, ⟨2, 2, .ro, 0, 1, false⟩, ⟨1, 0, .ro, 0, 3, false⟩]⟩,
  ⟨0x0004, 0x00000000, false, false, false, false, none,
    [⟨9, 8, .ro, 0, 3, false⟩, ⟨5, 0, .w1c, 0, 63, false⟩]⟩,
  ⟨0x0008, 0x00000000, false, false, false, false, none,
    [⟨31, 0, .ro, 0, 4294967295, false⟩]⟩,
  ⟨0x000C, 0x00000000, false, false, false, false, none,
    [⟨31, 0, .ro, 0, 4294967295, false⟩]⟩,
  ⟨0x0010, 0x00000000, true, false, false, false, none,
    [⟨31, 0, .ro, 0, 4294967295, false⟩]⟩,
  ⟨0x0014, 0x00000000, false, true, false, false, none,
    [⟨31, 0, .ro, 0, 4294967295, false⟩]⟩,
  ⟨0x0018, 0x00000000, true, false, false, false, none,
    [⟨31, 0, .ro, 0, 4294967295, false⟩]⟩,
  ⟨0x001C, 0x00000000, false, true, false, false, none,
    [⟨31, 0, .ro, 0, 4294967295, false⟩]⟩]

/-- Registers of the PANEL block. -/
def regsPanel : List RegDesc := [
  ⟨0x0000, 0x00000000, false, false, false, false, none,
    [⟨0, 0, .rw, 0, 1, false⟩]⟩,
  ⟨0x0004, 0x00000000, false, false, false, false, none,
    [⟨13, 8, .w1c, 0, 63, false⟩, ⟨5, 0, .ro, 0, 63, false⟩]⟩,
  ⟨0x0008, 0xC0A8600A, false, false, false, false, none,
    [⟨31, 0, .ro, 0, 4294967295, false⟩]⟩,
  ⟨0x000C, 0x00004018, false, false, false, false, none,
    [⟨15, 8, .ro, 0, 255, false⟩, ⟨7, 0, .ro, 0, 255, false⟩]⟩]

/-- Registers of the RING block. -/
def regsRing : List RegDesc := [
  ⟨0x0000, 0x00001000, false, false, false, false, none,
    [⟨15, 8, .rw, 1, 255, false⟩, ⟨0, 0, .rw, 0, 1, false⟩]⟩,
  ⟨0x0004, 0x00000000, false, false, false, true, none,
    [⟨23, 16, .ro, 0, 255, false⟩, ⟨15, 15, .ro, 0, 1, false⟩, ⟨11, 8, .ro, 0, 15, false⟩, ⟨6, 0, .ro, 0, 127, false⟩]⟩,
  ⟨0x0008, 0x00FF0010, false, false, false, false, none,
    [⟨31, 24, .ro, 0, 255, false⟩, ⟨23, 16, .ro, 0, 255, false⟩, ⟨8, 8, .w1c, 0, 1, false⟩, ⟨7, 7, .ro, 0, 1, false⟩, ⟨6, 6, .w1c, 0, 1, false⟩, ⟨5, 5, .ro, 0, 1, false⟩, ⟨4, 4, .ro, 0, 1, false⟩, ⟨1, 1, .ro, 0, 1, false⟩, ⟨0, 0, .ro, 0, 1, false⟩]⟩,
  ⟨0x000C, 0x00000000, false, false, false, false, none,
    [⟨31, 16, .rc, 0, 65535, false⟩, ⟨15, 0, .ro, 0, 65535, false⟩]⟩,
  ⟨0x0010, 0x00000000, false, false, false, false, none,
    [⟨31, 24, .rc, 0, 255, false⟩, ⟨23, 16, .rc, 0, 255, false⟩, ⟨15, 0, .rc, 0, 65535, false⟩]⟩,
  ⟨0x0014, 0x00000000, false, false, false, false, none,
    [⟨24, 16, .ro, 0, 511, false⟩, ⟨15, 8, .rc, 0, 255, false⟩, ⟨7, 0, .rc, 0, 255, false⟩]⟩,
  ⟨0x0018, 0x00000000, false, false, false, false, none,
    [⟨5, 0, .rw, 0, 63, false⟩]⟩,
  ⟨0x001C, 0x00000000, false, false, false, false, some F.RING_STN_SEL.STATION,
    [⟨31, 31, .ro, 0, 1, false⟩, ⟨30, 30, .ro, 0, 1, false⟩, ⟨29, 29, .ro, 0, 1, false⟩, ⟨28, 28, .ro, 0, 1, false⟩, ⟨27, 27, .ro, 0, 1, false⟩, ⟨7, 0, .ro, 0, 255, false⟩]⟩,
  ⟨0x0020, 0x00000000, false, false, false, false, some F.RING_STN_SEL.STATION,
    [⟨15, 0, .rc, 0, 65535, false⟩]⟩]

/-- The registers of block index `b` (R229); RING blocks share one layout. -/
def blockRegs (b : Nat) : List RegDesc :=
  match b with
  | 0 => regsSys
  | 1 => regsTick
  | 2 => regsCore
  | 3 => regsChk
  | 4 => regsFab
  | 5 => regsShaft
  | 6 => regsStrait
  | 7 => regsCrown
  | 8 => regsTime
  | 9 => regsNet
  | 10 => regsCmd
  | 11 => regsJnl
  | 12 => regsCfg
  | 13 => regsHood
  | 14 => regsMem
  | 15 => regsXfer
  | 16 => regsGuard
  | 17 => regsAna
  | 18 => regsConv
  | 19 => regsDio
  | 20 => regsCan
  | 21 => regsSer
  | 22 => regsEvr
  | 23 => regsPwr
  | 24 => regsSkerry
  | 25 => regsPanel
  | b => if b < 74 then regsRing else []

/-- The message-buffer words of the CAN block (R298): HEAD, ID, MASK, MAP, STAMP pair, DATA, TAIL. -/
def canBufferReg (word : Nat) : Option RegDesc :=
  match word with
  | 0 => some ⟨0, 0x00000008, false, false, false, false, none,
      [⟨31, 24, .rc, 0, 255, false⟩, ⟨19, 19, .rw, 0, 1, false⟩, ⟨18, 18, .rw, 0, 1, false⟩,
       ⟨17, 17, .rw, 0, 1, false⟩, ⟨16, 16, .rw, 0, 1, false⟩, ⟨14, 14, .ro, 0, 1, false⟩,
       ⟨13, 13, .rw, 0, 1, false⟩, ⟨12, 12, .rw, 0, 1, false⟩, ⟨11, 8, .rw, 0, 15, false⟩,
       ⟨3, 0, .ro, 0, 15, false⟩]⟩
  | 1 => some ⟨4, 0, false, false, false, false, none,
      [⟨31, 31, .rw, 0, 1, false⟩, ⟨28, 0, .rw, 0, 0x1FFFFFFF, false⟩]⟩
  | 2 => some ⟨8, 0, false, false, false, false, none,
      [⟨31, 31, .rw, 0, 1, false⟩, ⟨28, 0, .rw, 0, 0x1FFFFFFF, false⟩]⟩
  | 3 => some ⟨12, 1, false, false, false, false, none,
      [⟨19, 16, .rw, 0, 15, false⟩, ⟨15, 0, .rw, 1, 65535, false⟩]⟩
  | 4 => some ⟨16, 0, true, false, false, false, none, [⟨31, 0, .ro, 0, 0xFFFFFFFF, false⟩]⟩
  | 5 => some ⟨20, 0, false, true, false, false, none, [⟨31, 0, .ro, 0, 0xFFFFFFFF, false⟩]⟩
  | 31 => some ⟨124, 0, false, false, false, false, none, [⟨15, 0, .ro, 0, 65535, false⟩]⟩
  | w => if 6 ≤ w ∧ w < 22 then
      some ⟨4 * w, 0, false, false, false, false, none, [⟨31, 0, .rw, 0, 0xFFFFFFFF, false⟩]⟩
    else none

/-- The register at an address of register space (R229), if one stands there: ANA_HART_BUF has 64 words, and
the CAN block holds 4 × 64 message buffers from offset 0x8000 (R298). -/
def regAt (a : Nat) : Option RegDesc :=
  let b := a / 65536
  let o := a % 65536
  if b = 17 ∧ 0x100 ≤ o ∧ o < 0x200 ∧ o % 4 = 0 then regsAna.find? (fun r => r.off = 0x100)
  else if b = 20 ∧ 0x8000 ≤ o ∧ o % 4 = 0 then canBufferReg (o % 0x80 / 4)
  else (blockRegs b).find? (fun r => r.off = o)

/-- The item part of a register key: keys are item × 2^24 + address. -/
@[reducible] def itemKey (a item : Nat) : Nat := item * 0x1000000 + a

/-- The reset value of the register with a given key (the register tables; log entries 1 to 6 for the values
that the tables take from elsewhere). XFER_CH_CTRL.PRIO of channels 28 and 29 resets to high (R243). -/
def resetValue (key : Nat) : Word :=
  let a := key % 0x1000000
  if a = A.XFER_CH_CTRL ∧ (key / 0x1000000 = 28 ∨ key / 0x1000000 = 29) then 0x100
  else match regAt a with
    | some r => BitVec.ofNat 32 r.reset
    | none => 0

end Sys2Proof.Machine
end

