-- ==== Sys2Proof/Machine/Types.lean ====
section
/-! DEFINITION. The structures the state is built from: the parsed Hood image (R212 to R222), the stores, the
recorder and journal records, the sessions, and the internal state of the pair, the time unit, the transfer
engine and the local units. -/

namespace Sys2Proof.Machine

open Sys2Proof

/-! ## The Hood image -/

/-- A TASK record (R218). -/
structure TaskRec where
  task : Nat
  cls : Nat
  lcore : Nat
  rid : Nat
  entry : Nat
  dataSize : Nat
  edgeDigest : List Byte
  shaftFeed : Bool
deriving DecidableEq, Repr

/-- A core record of the budget proof (R219): T1_j, F_j, then W_k,j and S_k,j for class indexes 1 to 7. -/
structure BudgetCore where
  t1 : Nat
  f : Nat
  w : List Nat
  s : List Nat
deriving DecidableEq, Repr

/-- A task record of the budget proof (R219). -/
structure BudgetTask where
  task : Nat
  cls : Nat
  lcore : Nat
  w : Nat
deriving DecidableEq, Repr

/-- The budget proof (R219); `checkOk` says whether its CHECK matches (condition 7 of R43). -/
structure Budget where
  mode : Nat
  lcores : Nat
  cycleTable : Nat
  cores : List BudgetCore
  tasks : List BudgetTask
  checkOk : Bool
deriving DecidableEq, Repr

/-- A SIGNAL record (R221). -/
structure SignalRec where
  handle : Nat
  slot : Nat
  output : Bool
  format : Nat
  qb : Bool
  off : Nat
  bitNo : Nat
  value : DWord
deriving DecidableEq, Repr

/-- A CLASSMAP record (R221). -/
structure ClassMapRec where
  cls : Nat
  src : Nat
  dst : Nat
deriving DecidableEq, Repr

/-- A RING record (R221). -/
structure RingRec where
  ring : Nat
  stations : Nat
  cells : Nat
  stale : Nat
  lane : Nat
  wrapCovered : Bool
  payload : Nat
  cable : Nat
deriving DecidableEq, Repr

/-- A point entry of a station table (R221). -/
structure TablePoint where
  off : Nat
  format : Nat
  qb : Bool
  action : Nat
  safe : DWord
deriving DecidableEq, Repr

/-- A STATION record with its slot table (R221); `bytes` is the table as service 2 sends it. -/
structure StationRec where
  ring : Nat
  station : Nat
  prep : Nat
  outOff : Nat
  outLen : Nat
  inOff : Nat
  inLen : Nat
  slotStart : Nat
  slotCells : Nat
  digest : List Byte
  cable : Nat
  asym : Int
  outs : List TablePoint
  ins : List TablePoint
  bytes : List Byte
deriving DecidableEq, Repr

/-- A MASTER record (R105, R220). -/
structure MasterRec where
  external : Bool
  lead : Nat
  cmdSlot : Nat
  posHandle : Nat
  rid : Nat
  acc : Nat
  emergAcc : Nat
deriving DecidableEq, Repr

/-- An AXIS record (R107, R220). -/
structure AxisRec where
  master : Nat
  ffEn : Bool
  groupStop : Bool
  markEn : Bool
  ferrTicks : Nat
  spHandle : Nat
  ffHandle : Nat
  actHandle : Nat
  cmdBase : Nat
  rid : Nat
  markCnt : Nat
  markTime : Nat
  markLat : Nat
  markGain : Nat
  trimRate : Nat
  ferrLimit : Nat
  markExpect : DWord
  markRepeat : Nat
  markWindow : Nat
  markStep : Nat
deriving DecidableEq, Repr

/-- A cam table (R112, R220). -/
structure CamTab where
  number : Nat
  b : Nat
  cubic : Bool
  rise : DWord
  points : List (DWord × DWord)
deriving DecidableEq, Repr

/-- A RETAINED record (R221): type 0 bytes, 1 timer, 2 counter, 3 edge memory; area 0 MRAM, 1 task data. -/
structure RetainedRec where
  rid : Nat
  type : Nat
  area : Nat
  task : Nat
  off : Nat
  size : Nat
deriving DecidableEq, Repr

/-- A REGINIT record (R222). -/
structure RegInitRec where
  block : Nat
  off : Nat
  value : Word
deriving DecidableEq, Repr

/-- A NET record (R221). -/
structure NetRec where
  port : Nat
  phy : Nat
  vlan : Nat
  ptpRole : Nat
  twoStep : Bool
  pfx4 : Nat
  pfx6 : Nat
  ip4 : BitVec 32
  ip6 : BitVec 128
deriving DecidableEq, Repr

/-- A Hood image as the loader reads it (R212 to R222). -/
structure Image where
  seq : Word
  coreMode : Nat
  splitPermitted : Bool
  freeStart : Bool
  acqWait : Nat
  ptpProfile : Nat
  ptpDomain : Nat
  prio1 : Nat
  prio2 : Nat
  majors : List Nat
  code : List (Nat × List Word)
  tasks : List TaskRec
  constAddr : Nat
  constBytes : List Byte
  data : List (Nat × List Byte)
  budget : Budget
  signals : List SignalRec
  classmap : List ClassMapRec
  rings : List RingRec
  stations : List StationRec
  masters : List MasterRec
  axes : List AxisRec
  cams : List CamTab
  retained : List RetainedRec
  reginit : List RegInitRec
  power : List Nat
  net : List NetRec
  digest : List Byte
  /-- type, instance and digest of each HELD section (R214) -/
  held : List (Nat × Nat × List Byte)
deriving DecidableEq, Repr

/-! ## Aidon faults -/

/-- The fault kinds of the logic cores (R68). A guard fault carries the address, the direction and the cause
that GUARD_STATUS shows, a memory fault the uncorrectable place. -/
inductive AFault where
  | illegal | backjump | nest | callstack | loop | index | stage | writeIn
  | guard (addr : Nat) (write : Bool) (cause : Nat) | memory (p : MemPlace) | bus | sysreg
  | range | align
deriving DecidableEq, Repr

/-! ## Configuration store and loader -/

/-- Kinds of marker entries (R223). -/
inductive MarkerKind where
  | eraseStart | eraseDone | commit | activate
deriving DecidableEq, Repr

/-- What a marker entry says (R223). -/
structure Marker where
  kind : MarkerKind
  opnum : Word
  seq : Word
  length : Nat
  digest : List Byte
deriving DecidableEq, Repr

/-- A configuration bank: the bytes of its marker sector as far as it has been programmed, and the bytes programmed into
its data area; erased flash reads 0xFF (R223). -/
structure Bank where
  markers : List Byte
  data : Bytes
deriving DecidableEq, Repr

/-- What the active-bank record of MRAM names (R227). -/
structure ActiveRec where
  bank : Nat
  seq : Word
  dig4 : List Byte
deriving DecidableEq, Repr

/-- A shadow-table load in progress: ring, station, loads already tried, whether service 3 is running. -/
structure ShadowLoad where
  ring : Nat
  station : Nat
  tries : Nat
  confirming : Bool
deriving DecidableEq, Repr

/-- A store in progress (R224): its bank, the image bytes with sequence number and digest, and whether IMAGE_CANCEL
ends it before COMMIT (R225). -/
structure StoreOp where
  bank : Nat
  bytes : List Byte
  seq : Word
  digest : List Byte
  cancelled : Bool
deriving DecidableEq, Repr

/-- The Hood loader's internal state beside the HOOD registers. -/
structure Loader where
  /-- bytes that IMAGE_DATA has written; unwritten bytes are not listed (R207) -/
  staging : List (Nat × Byte)
  total : Nat
  seq : Word
  img : Option Image
  digest : List Byte
  /-- session slot that waits for IMAGE_END's or IMAGE_ARM's result -/
  waitSlot : Option Nat
  /-- tick in which the partner was asked for its loader state, while its reply is awaited (R93) -/
  asking : Option DWord
  /-- an accepted arm: the tick in whose guard window both modules enter ARMED, the planned switch tick (R93), and the
  epoch at which it was admitted (R206) -/
  armDue : Option (DWord × DWord × Nat)
  /-- the crown holder's decision of the planned tick (R96) -/
  decision : Option Bool
  shadow : List ShadowLoad
  /-- the store under way, the bank that holds the staged image, the tick of the last switch -/
  store : Option StoreOp
  bank : Nat
  lastSwitch : DWord
  /-- an arm in SAFE waits for its reset (R101) -/
  safeReset : Bool
  /-- ACTIVATE is to be appended to this bank (R223) -/
  activate : Option Nat
  /-- schedule bank bit in force (R130) -/
  bankBit : Bool
deriving DecidableEq, Repr

/-! ## Recorder and journal -/

/-- An event as raised: what the recorder stamps at its instant (R309). -/
structure RawEvent where
  time : DWord
  frac : Nat
  cls : Nat
  code : Nat
  tick : DWord
  state : Nat
  source : Nat
  detail : List Byte
  unacquired : Bool
  fromSkerry : Bool
deriving DecidableEq, Repr

/-- A recorder record (R309). -/
structure EvRecord where
  index : Nat
  ev : RawEvent
  cycles : Word
  optime : DWord
  coalesced : Bool
  rep : Nat
  suppressed : Nat
  chk : Word
deriving DecidableEq, Repr

/-- A coalescing key with its pending count and last occurrence (R312). -/
structure CoKey where
  cls : Nat
  code : Nat
  source : Nat
  pending : Nat
  last : RawEvent
deriving DecidableEq, Repr

/-- The recorder beside its registers: raised events not judged yet, the queue, the two flash halves (newest
first), the CHK of the last record, suppressed events, tracked keys. -/
structure Recorder where
  raised : List RawEvent
  queue : List EvRecord
  halfA : List EvRecord
  halfB : List EvRecord
  lastChk : Word
  suppressed : Nat
  keys : List CoKey
deriving DecidableEq, Repr

/-- A journal record (R210). -/
structure JRec where
  jseq : DWord
  tick : DWord
  session : Word
  seq : Word
  opcode : Nat
  result : Nat
  done : Bool
  forwarded : Bool
  replayed : Bool
  epoch : Nat
  keySlot : Nat
  argDigest : List Byte
  resultData : List Byte
  chk : Word
deriving DecidableEq, Repr

/-! ## Sessions -/

/-- A command waiting or executing in a session's queue (R203). -/
structure QCmd where
  seq : Word
  opcode : Nat
  payload : List Byte
  jseq : Option DWord
  epoch : Nat
  /-- taken up and waiting for a ring, the partner or the loader -/
  waiting : Bool
deriving DecidableEq, Repr

/-- A session slot beside its CMD_SESS registers (R201, R209). -/
structure Session where
  queue : List QCmd
  mask : Word
  evCounter : Word
  dropped : Nat
  evSecond : Nat
  evCount : Nat
  lastCmd : DWord
  /-- the session key (R199) -/
  key : List Byte
deriving DecidableEq, Repr

/-- An operator key slot (R199). -/
structure KeySlot where
  key : List Byte
  perm : Nat
deriving DecidableEq, Repr

/-! ## What the module sends -/

/-- What leaves the module: frames, Strait messages, datagrams, requests to stations, values at terminals. -/
inductive Out where
  /-- the cells of a cyclic frame, of the partner's train that passes, and the cells of an acyclic request (`acyclic`), each
  as they stand on the line of a ring in a direction -/
  | frame (ring : Nat) (dir : Bool) (cells : List (List Byte))
  | forward (ring : Nat) (dir : Bool) (cells : List (List Byte))
  /-- cells `first` to `last` − 1 of a tick of the module's train, idle (`idleCells`) or of a cable test (`testCells`); of cells
  named more than once what was sent last stands on the line: a cyclic frame and a request replace idle and test cells, test
  cells replace idle ones -/
  | idle (ring : Nat) (dir origin : Bool) (first last : Nat)
  | cableTest (ring : Nat) (dir origin : Bool) (first last : Nat)
  /-- a Strait message on a lane, and the state that the holder's COPY messages carry where the spec gives it no address
  (R170; log entry 132) -/
  | strait (lane : Nat) (message : List Byte)
  | stateCopy (lane : Nat) (state : Snapshot)
  | crownLines (cla clh : Bool)
  /-- a PROBE_REPLY, an OPEN_REPLY or a NACK, as it leaves in clear (R195, R198, R199, R202) -/
  | datagram (port : Nat) (bytes : List Byte)
  /-- a RESULT or an EVENT: the bytes that leave are `sealedBytes` of the session key, the header and the payload (R196) -/
  | sealed (port : Nat) (key header payload : List Byte)
  | acyclic (ring : Nat) (dir : Bool) (cells : List (List Byte))
  | analogue (ch : Nat) (value : DWord)
  | downlink (bytes : List Byte)
  | can (bus buf : Nat) (frame : CanFrame)
  /-- the bits of a character on a line, in the order sent: start, data, parity, stop (R304) -/
  | serial (line : Nat) (bits : List Bool)
  | ptp (port : Nat) (kind : PtpKind) (followUp : Bool) (correction : Int)
  | trigger (target : Nat) (ns : DWord)
  /-- a HART poll of a device on a channel, as primary or secondary master (R281), and the bytes of a pass-through frame
  (R283) -/
  | hartPoll (ch : Nat) (primary : Bool) (address command : Nat)
  | hart (ch : Nat) (bytes : List Byte)
deriving DecidableEq, Repr

/-! ## Pair -/

/-- A forwarded write under way (R172): register key, value, effective tick, whether this module wrote it and
the partner has replied, and the session whose REG_WRITE it answers. -/
structure FwdWrite where
  key : Nat
  value : Word
  tick : DWord
  own : Bool
  seq : Nat
  replied : Bool
  slot : Option Nat
deriving DecidableEq, Repr

/-- A role change under way (R165, R166). -/
inductive SwapSt where
  | none
  /-- asked in a tick, for a session's ROLE_SWAP -/
  | asked (tick : DWord) (slot : Option Nat)
  /-- agreed, to take effect in the guard window of a tick -/
  | agreed (tick : DWord) (slot : Option Nat) (yielding : Bool)
deriving DecidableEq, Repr

/-- The pair and Strait state beside the STRAIT and CROWN registers. -/
structure Pair where
  /-- lanes up in this module's receive direction, and as the partner announced (R148); lanes that hold block lock, and
  lanes on which a valid STATUS has arrived since they last lost it (R147) -/
  rxLanes : BitVec 8
  partnerLanes : BitVec 8
  blockLock : BitVec 8
  statusOn : BitVec 8
  seq : Nat
  /-- SEQ of the last message received -/
  rxSeq : Option Nat
  /-- the partner's last STATUS on the control lane, the crown of its header, whether it ever reported a running
  state since it was last lost, and whether a valid message of this tick arrived on any lane (R161) -/
  status : Option StatusPayload
  lastCrown : Word
  ranBefore : Bool
  heard : Bool
  /-- the presence line at 61.0 µs of this tick (R161, R340; log entry 168) -/
  presLine : Bool
  claLevel : Bool
  claPrev : Bool
  ownCla : Bool
  own1 : Option (BitVec 8 × Bool × Bool)
  part1 : Option (BitVec 8 × Bool × Bool)
  part2 : Option (DWord × Bool × Bool)
  /-- the CARD of the local channels (ring 63) arrived in this tick (standby); Carding of this tick has ended (R29) -/
  localCarded : Bool
  cardingOver : Bool
  missNow : Bool
  missPrev : Bool
  outOfStep : Bool
  /-- the standby goes out of step in this guard window (R167, R169) -/
  oosDue : Bool
  diverged : Bool
  cleanLast : Bool
  lost : Bool
  swap : SwapSt
  fwd : List FwdWrite
  partSplit : Bool
  partVerdict : Bool
  partCopy : Bool
  /-- a safe request is due at the next guard, with its CAUSE -/
  safeDue : Option Nat
  /-- stored epoch of a joiner whose resynchronisation is in its final tick (R158) -/
  joinDue : Option Nat
  /-- the effective set changed; the lane set that the lane roles follow since the last move (R148) -/
  laneDirty : Bool
  routing : BitVec 8
  /-- CMP_SUSPENDED stands for a silent Strait alone (R162) -/
  silent : Bool
deriving DecidableEq, Repr

/-- Phases of a resynchronisation (R170). -/
inductive ResyncRole where
  | idle | joiner | holder
deriving DecidableEq, Repr

/-- Resynchronisation state beside STRAIT_STATUS.COPY and STRAIT_COPY: when a joiner asks again, the tick of a request
that nothing has answered and whether it found the Strait silent (R162), whether a message of the partner was lost during
the copy (R171), the pages written since the last round, the tick in which the final phase began, the holder's request,
whether the joiner has loaded the copy, what it has staged and what it holds. -/
structure Resync where
  role : ResyncRole
  retryAt : Option DWord
  asked : Option DWord
  unheard : Bool
  gap : Bool
  dirty : List Nat
  finalTick : Option DWord
  queued : Option StraitHdr
  loaded : Bool
  /-- the request names the staged image, which the joiner makes running once the holder accepts (R170) -/
  staged : Bool
  /-- the outputs of a standby's last commit in step, which it returns to where the join fails (R169) -/
  held : Option SlotMap
  /-- what channel 28 has still to send: memory in pieces of 2 KiB by number, and the state without an address (R170) -/
  toSend : List Nat
  snapDue : Bool
deriving DecidableEq, Repr

/-! ## Time unit -/

/-- State of the time unit beside the TIME registers (R175 to R192). -/
structure TimeSt where
  /-- candidates offered: port and rank, lower is better; ports whose parent produced a refused sample (R177) -/
  cands : List (Nat × Nat)
  refusedPorts : List Nat
  /-- offset samples of the acquisition from the best candidate, newest first, at most 16, and its instant -/
  acq : List Int
  acqAt : DWord
  acqFrac : Nat
  /-- consecutive samples of the pending candidate within JUMP; it has qualified (R180) -/
  good : Nat
  qualified : Bool
  /-- consecutive refused samples of the selected reference (R177) -/
  refused : Nat
  /-- port and T1024 cycle of the last refusal recorded for it -/
  jumpRec : List (Nat × DWord)
  /-- the selected reference was lost for this cause and the guard window has not shown it yet (R179) -/
  holdoverDue : Option Nat
  /-- the reference selected now or last, its rank when it was selected, whether a switch to a worse one committed,
  and whether the pending switch follows a hold-off (R181) -/
  lastRef : Nat
  refRank : Option Nat
  cameDown : Bool
  returning : Bool
  /-- rank of the best reference that a committed switch has left for a worse one, while the module is below it (R181) -/
  topRank : Option Nat
  /-- samples that reached the servo, and the instant of the last (R178) -/
  samples : Nat
  lastSample : DWord
  /-- next instant of each armed trigger that has one (R189) -/
  trigNext : List (Nat × DWord)
  /-- the RING_STAMPS replies of the latch under way: ring × 64 + station; arrival and departure clockwise, arrival and
  departure counter-clockwise, in 1/256 ns (R186) -/
  stamps : List (Nat × Int × Int × Int × Int)
  /-- ASYM_IN and ASYM_OUT of the ring ports as they stood when the stations latched, by item (R183) -/
  latchAsym : List (Nat × Int × Int)
  /-- delays D last written: (ring × 64 + station, clockwise, counter-clockwise) in 1/256 ns; none before the first -/
  delays : List (Nat × Option Int × Option Int)
deriving DecidableEq, Repr

/-! ## Rings -/

/-- An acyclic transaction (R143 to R146): who asked for it, and its request until it is sent. -/
inductive AcycOwner where
  | host (slot : Nat) (write : Bool)
  /-- a session that has closed since -/
  | gone
  | loader (station : Nat) (confirm : Bool)
  | stamps
  | delay
  | cable
deriving DecidableEq, Repr

/-- An acyclic request waiting or outstanding. -/
structure AcycReq where
  tag : Option Nat
  svc : Nat
  station : Nat
  data : List Byte
  owner : AcycOwner
  sent : DWord
deriving DecidableEq, Repr

/-- State of one ring beside its registers. -/
structure RingSt where
  /-- tags whose generation bit is 1, and the requests waiting or outstanding, oldest first (R146) -/
  gens : List Nat
  reqs : List AcycReq
  /-- input blocks taken in this tick from the own frame, and from the partner's frame in passing (R132) -/
  own : List (Nat × List Byte)
  passing : List (Nat × List Byte)
  /-- the CARD of this tick was sent (crown holder) or adopted (standby) -/
  carded : Bool
  /-- stations that have delivered a valid block since the image started (R133) -/
  everTaken : List Nat
  /-- the own frame of this tick returned by 24 µs: its HOP, and whether it came back whole and unwrapped -/
  back : Option (Nat × Bool)
  /-- the return time of the own frame of this tick in ns, as far as it came back at all (R138) -/
  ret : Option Nat
  /-- stations counted at the last intact return (COUNT of R130) -/
  hops : Nat
  /-- cells of 16 to 47 that the requests of this tick have taken (R143) -/
  window : Nat
  /-- the counts that stations have reported of the last cable test (R146) -/
  cableCounts : List (Nat × List Byte)
deriving DecidableEq, Repr

/-! ## Transfer engine -/

/-- A descriptor (R245). -/
structure Descr where
  src : Nat
  dst : Nat
  len : Nat
  ctrl : Word
  next : Nat
deriving DecidableEq, Repr

/-- A channel beside its registers: the current descriptor, bytes moved of it, whether a request was taken, the
state to resume from after a stop; of a MEM_READ or MEM_WRITE on channel 31 the session slot, whether it writes, and the
bytes read so far or to be written. -/
structure XferCh where
  desc : Option Descr
  moved : Nat
  request : Bool
  /-- the bytes left of a unit or burst that a bus stop or a pre-emption cut (R252, R257) -/
  burst : Nat
  /-- the state and the END of a stopped channel (R257) -/
  before : Nat
  beforeEnd : Nat
  slot : Option Nat
  write : Bool
  got : List Byte
  /-- the bytes read and not yet written of a pre-empted unit, in ascending order (R252) -/
  buf : List Byte
  /-- an ABORT that waits for the end of the burst in progress (R258) -/
  abort : Bool
deriving DecidableEq, Repr

/-- An active guard region (R241). -/
structure Region where
  base : Nat
  size : Nat
  r : Bool
  w : Bool
  en : Bool
deriving DecidableEq, Repr

/-! ## Local units -/

/-- A result of an analogue channel: its value (binary64), its sample instant, the end of its integration,
whether the excitation or the output compliance failed, and the band that it was judged into (R263, R276, R277). -/
structure AnaRes where
  value : DWord
  instant : DWord
  endNs : DWord
  noCompliance : Bool
  band : Nat
deriving DecidableEq, Repr

/-- An analogue channel beside its registers (R259 to R285). -/
structure AnaSt where
  /-- the result that item 0 shows, and a newer one that no edge has taken yet (R263) -/
  cur : Option AnaRes
  next : Option AnaRes
  /-- raw results for the trim, newest first, at most 16 (R284) -/
  raws : List Int
  /-- consecutive starts without a result -/
  lost : Nat
  integrating : Bool
  /-- band of R276: 0 OPEN, 1 FAIL_LOW, 2 BAND_LOW, 3 normal, 4 BAND_HIGH, 5 FAIL_HIGH, 6 SHORT -/
  band : Nat
  /-- fast entry items 4 to 7 -/
  stats : List DWord
  /-- the output value last applied and whether a BAD edge was already held (R277) -/
  applied : DWord
  heldOne : Bool
  /-- the mode changed at a Hood switch and the channel has not converted since (R100) -/
  modeNew : Bool
  /-- HART devices: consecutive failed polls of device d, devices that answered command 0, items 5d + v -/
  hartFails : List (Nat × Nat)
  hartIdent : List Nat
  hart : List (Nat × Slot)
deriving DecidableEq, Repr

/-- A HART modem (R281 to R283): position in its round, the pass-through. -/
structure Modem where
  pos : Nat
  tries : Nat
  ptPending : Bool
  ptRunning : Bool
deriving DecidableEq, Repr

/-- An entry of a fast sequence (R266). -/
structure FastEntry where
  ch : Nat
  k : Nat
  div : Nat
  urgent : Bool
  rep : Bool
deriving DecidableEq, Repr

/-- A fast converter group beside its registers (R265 to R274). -/
structure ConvGrp where
  fifo : List Byte
  running : Option FastEntry
  /-- samples of the running entry, newest first, and how many of them the FIFO took -/
  got : List Int
  kept : Nat
  held : Option FastEntry
  aborted : Bool
  stopReq : Bool
  overflow : Bool
  /-- ANA_CH_CFG, zero and gain of the running entry's channel as they were before a Hood switch (R267) -/
  old : Option (Word × Word × Word)
  calibrating : Bool
  /-- a passed spare waits for an entry boundary (R273) -/
  swapDue : Bool
  /-- active slices, longest serving first -/
  active : List Nat
  fails : Nat
  retired : Nat
deriving DecidableEq, Repr

/-- The trim in progress (R284, R285). -/
structure TrimSt where
  ch : Nat
  appliedL : Int
  observedL : Int
  appliedH : Int
  observedH : Int
deriving DecidableEq, Repr

/-- The digital side (R286 to R295) beside its registers. -/
structure DioSt where
  /-- input states of the last sample, whether one came since image start, whether one came in this tick, and the
  consecutive ticks without one (R289) -/
  sample : BitVec 32
  sampled : Bool
  fresh : Bool
  age : Nat
  /-- instant of the last valid uplink frame -/
  lastUp : DWord
  /-- output states and pulse enables that the frames of this tick carry, and channels whose BAD value was held for
  an edge (R291) -/
  commanded : BitVec 32
  enables : BitVec 32
  heldOne : List Nat
  /-- field side: what the last valid frame brought for the next edge, what is applied, pulses that are on, channels
  off in overload, consecutive valid frames without SAFE (R292, R294, R295) -/
  next : Option (BitVec 32 × BitVec 32)
  applied : BitVec 32
  fieldEnables : BitVec 32
  pulses : List Nat
  overloaded : List Nat
  goodFrames : Nat
  /-- field side: whether it is in safe state, its copy of the safe values (0 off, 1 on, 2 hold), and whether the module has
  still to load that copy (R294, R295) -/
  safe : Bool
  safeTable : List Nat
  tableDue : Bool
deriving DecidableEq, Repr

/-- A CAN bus beside its registers (R297 to R303). -/
structure CanSt where
  lock : Option Nat
  shadow : List (Nat × CanFrame)
  active : Option Nat
  /-- an abort was asked of the active buffer; data of mapped requests that follow a
  buffer's frame -/
  abortActive : Bool
  again : List (Nat × DWord)
  /-- INIT was set while the bus was bus-off, whose recovery is still due (R297) -/
  wasOff : Bool
  /-- data bytes 0 to 7 and tick of the newest frame of each mapped receive buffer -/
  newest : List (Nat × DWord × DWord)
deriving DecidableEq, Repr

/-- An RS-485 line beside its registers (R304 to R308): both FIFOs, oldest first, characters lost since the last
entry, and whether the line has been idle for its idle time. -/
structure SerSt where
  rx : List (BitVec 16)
  tx : List Byte
  overrun : Bool
  idleDone : Bool
deriving DecidableEq, Repr

/-! ## Memory system, maintenance, power, Skerry, panel -/

/-- A maintenance activity (R327, R328): state 0 waiting, 1 running, 2 done, 3 failed. A split that was accepted and has not
begun counts as running: nothing stands before it (R83). -/
structure Activity where
  num : Nat
  group : Nat
  code : Nat
  target : Nat
  state : Nat
deriving DecidableEq, Repr

/-- The checker's tests beside the CHK registers (R80 to R85, R88, R89). -/
structure CheckSt where
  verdictAt : Option DWord
  verdictTrigger : Nat
  queuedTrigger : Option Nat
  /-- what the memory part and the image part of the running verdict self-test have met so far (R80) -/
  memBad : Bool
  imageBad : Bool
  /-- the tick in whose guard window the running split took effect (R84) -/
  splitAt : Option DWord
  degraded : List Nat
  /-- odd results of each triplet member in the current T1024 cycle, and members halted until the guard -/
  odd : List (Nat × Nat)
  halted : List Nat
deriving DecidableEq, Repr

/-- A logical core's place in its window (R41). -/
structure CoreSt where
  cur : Option Nat
  /-- class slices already ended in this window -/
  sliced : List Nat
  /-- cycles used by claimed work in this window -/
  used : Nat
  inWindow : Bool
deriving DecidableEq, Repr

/-- A panel key (R334). `base` is 16 times the baseline B: the sum of the 16 counts it is the mean of. -/
structure KeySt where
  base : Int
  /-- scans left of a baseline capture and their sum so far -/
  capture : Nat
  sum : Nat
  hi : Nat
  lo : Nat
  neg : Nat
  touched : Bool
  held : Nat
  /-- after 20 s the key must be released before it counts again; 1 waits for below 20, 0 not blocked -/
  blocked : Bool
deriving DecidableEq, Repr

/-- Where the display of the panel stands (R335): the status line, the list of menus with one of them marked, or a screen of
a menu; TRIM has one screen per step. -/
inductive PanelMenu where
  | line
  | list (item : Nat)
  | status
  | trim (screen : Nat)
  | service
  | reset
  | reKey
deriving DecidableEq, Repr

/-- What the display says about the last action (R335). -/
inductive PanelNotice where
  | none
  | locked
  | trimBusy
  | trimResult (code : Nat)
deriving DecidableEq, Repr

/-- The panel controller (R334 to R336). `enterHeld` counts the scans of a touch of ENTER that began on the present screen;
`trimCh` is the channel that the TRIM menu names. -/
structure PanelSt where
  keys : List KeySt
  multi : Bool
  menu : PanelMenu
  notice : PanelNotice
  trimCh : Nat
  enterHeld : Nat
  pendingAddr : Option SvcAddr
  ip6 : BitVec 128
deriving DecidableEq, Repr

/-- An entry of the tamper log: the sensor, the moment as SKERRY_TAMPER shows it, the Skerry clock, and whether the
recorder still has to take it at the next start (R331, R332). -/
structure TamperEv where
  sensor : Nat
  moment : Nat
  clock : DWord
  uncopied : Bool
deriving DecidableEq, Repr

/-- Skerry beside its registers: keys, clock and logs (R330 to R333). The log is newest first, at most 16 events. -/
structure SkerrySt where
  slots : List (Option KeySlot)
  nonces : List (Nat × List Byte)
  log : List TamperEv
  clock : DWord
  clockValid : Bool
  rekeying : Bool
  rootKey : List Byte
  /-- the device public key (R199; Skerry holds the private one) -/
  deviceKey : List Byte
deriving DecidableEq, Repr

/-- The power manager beside the PWR registers (R317 to R325). -/
structure PowerSt where
  offAsked : List Nat
  noCommit : Nat
  committed : Bool
  startResets : Nat
  /-- a COMMAND reset waits for the end of its guard window (PWR_RESET) -/
  resetDue : Bool
  /-- the supply-fail warning was raised (R322); a SUPPLY_FAIL reset holds the module until a feed is back (R323) -/
  warned : Bool
  /-- the instant of that warning -/
  warnedAt : DWord
  held : Bool
  /-- the running state that step 8 of the start-up order decided on, and the stored epoch of the partner (R158, R326) -/
  startAs : Option Nat
  startEpoch : Nat
  /-- the partner's core mode as step 8 last saw it (R87) -/
  partnerMode : Nat
deriving DecidableEq, Repr

end Sys2Proof.Machine
end

