-- ==== Sys2Proof/Machine/State.lean ====
section
/-! DEFINITION. The state of the module (what INVENTORY.md lists under State), its fault and refusal types and
the state right after reset. All of it is plain data. -/

namespace Sys2Proof.Machine

open Sys2Proof

/-- Faults. No meaning of this model raises one: every command has an effect or, where it finds no occasion,
leaves the state as it is (log entry 20). The one constructor keeps the type inhabited; it would be raised by a
command whose effect the spec calls undefined, of which there is none; safe. -/
inductive Fault where
  | undefinedEffect
deriving DecidableEq, Repr

/-- Refusals. `notModelled` is raised by an arm of `exec` whose command has no meaning yet; there is none left;
safe, because a refused command ends the run. -/
inductive Refusal where
  | notModelled (mnemonic : String)
deriving DecidableEq, Repr

/-- The whole module. Registers, per-item registers included, live in `regs` under the key
item × 2^24 + address (Machine/RegMap.lean); an unlisted key reads as its reset value. -/
structure State where
  /-- register file (all chapters) -/
  regs : List (Nat × Word)
  /-- latched high words of declared pairs, per requester (R357) -/
  latches : List (Requester × Nat × Word)
  /-- SRAM, DRAM and MRAM bytes outside the journal and the retained copies (R228) -/
  mem : List Host.Cell
  /-- places holding an uncorrectable error (R231) -/
  bad : List MemPlace
  /-- input image and output image slots (R21, R30) -/
  inImg : SlotMap
  outImg : SlotMap
  /-- the module's own local inputs of this tick, by image slot (R22) -/
  localOwn : SlotMap
  /-- the frozen output images of the last two commits (R26) -/
  committed : SlotMap
  committedPrev : SlotMap
  /-- tasks, classes, logical cores (R36 to R53) -/
  tasks : List (Nat × TaskSt)
  classes : List (Nat × ClassSt)
  cores : List (Nat × CoreSt)
  check : CheckSt
  /-- shaft engine (R102 to R120) -/
  masters : List (Nat × MasterSt)
  axes : List (Nat × AxisSt)
  /-- running image, loader, configuration store (R90 to R101, R223 to R227) -/
  image : Option Image
  loader : Loader
  bank0 : Bank
  bank1 : Bank
  activeRec : List Byte
  opnum : Word
  /-- recorder, journal, sessions (R195 to R211, R309 to R316) -/
  recorder : Recorder
  journal : List JRec
  sessCtr : Word
  sessions : List (Nat × Session)
  /-- last PROBE instant of each port (R198) and NACKs sent in the current second (R202) -/
  probeAt : List (Nat × DWord)
  nacks : List (Nat × Nat × Nat)
  /-- the current second of N00 and the frames it accepted in it (R336) -/
  svcFrames : Nat × Nat
  /-- pair, resynchronisation, time, rings -/
  pair : Pair
  resync : Resync
  time : TimeSt
  rings : List (Nat × RingSt)
  /-- active guard regions by requester × 32 + region, and applies that wait for their tick (R242) -/
  guards : List (Nat × Region)
  guardDue : List (Nat × DWord)
  xfer : List (Nat × XferCh)
  /-- local units -/
  ana : List (Nat × AnaSt)
  modems : List (Nat × Modem)
  conv : List (Nat × ConvGrp)
  trim : Option TrimSt
  dio : DioSt
  can : List (Nat × CanSt)
  ser : List (Nat × SerSt)
  /-- retained data: the live area (the trim table first), the units changed since the last snapshot, the footers of
  copies A and B, the units of the flush under way with the low word of their tick (R234, R235) -/
  retained : Bytes
  retDirty : List Nat
  footA : List Byte
  footB : List Byte
  retSnap : Option (List (Nat × List Byte) × Word)
  /-- maintenance activities, newest first (R327, R328) -/
  acts : List Activity
  actNext : Nat
  power : PowerSt
  skerry : SkerrySt
  panel : PanelSt
  /-- what the module has sent, newest first (the model's own field, log entry 21) -/
  outbox : List Out
  /-- the commands that wait, first in, first out -/
  pending : List Instr
deriving DecidableEq, Repr

/-- The loader in IDLE. -/
def Loader.idle : Loader :=
  { staging := [], total := 0, seq := 0, img := none, digest := [], waitSlot := none, asking := none, armDue := none,
    decision := none, shadow := [], store := none, bank := 0, lastSwitch := 0, safeReset := false, activate := none,
    bankBit := false }

/-- The pair state before anything was heard: no lane holds block lock (R147; log entry 32). -/
def Pair.initial : Pair :=
  { rxLanes := 0, partnerLanes := 0, blockLock := 0, statusOn := 0, seq := 0, rxSeq := none, status := none, lastCrown := 0, ranBefore := false,
    heard := false, presLine := false, claLevel := false, claPrev := false, ownCla := false, own1 := none, part1 := none,
    part2 := none, localCarded := false, cardingOver := false, missNow := false, missPrev := false, outOfStep := false, oosDue := false,
    diverged := false, cleanLast := true, lost := false, swap := .none, fwd := [],
    partSplit := false, partVerdict := false, partCopy := false, safeDue := none, joinDue := none,
    laneDirty := false, routing := 0, silent := false }

/-- No resynchronisation. -/
def Resync.initial : Resync :=
  { role := .idle, retryAt := none, asked := none, unheard := false, gap := false, dirty := [], finalTick := none, queued := none, loaded := false, staged := false, held := none,
    toSend := [], snapDue := false }

/-- The time unit before any reference. -/
def TimeSt.initial : TimeSt :=
  { cands := [], refusedPorts := [], acq := [], acqAt := 0, acqFrac := 0, good := 0, qualified := false, refused := 0, jumpRec := [],
    holdoverDue := none, lastRef := 0, refRank := none, cameDown := false, returning := false, topRank := none, samples := 0,
    lastSample := 0, trigNext := [], stamps := [], latchAsym := [], delays := [] }

/-- The digital side before the first frame. -/
def DioSt.initial : DioSt :=
  { sample := 0, sampled := false, fresh := false, age := 0, lastUp := 0, commanded := 0, enables := 0,
    heldOne := [], next := none, applied := 0, fieldEnables := 0, pulses := [], overloaded := [],
    goodFrames := 0, safe := true, safeTable := [], tableDue := false }

/-- The checker with no test running. -/
def CheckSt.initial : CheckSt :=
  { verdictAt := none, verdictTrigger := 0, queuedTrigger := none, memBad := false, imageBad := false, splitAt := none,
    degraded := [], odd := [], halted := [] }

/-- A panel key before its first capture: 16 scans to take its baseline from (R334). -/
def KeySt.initial : KeySt :=
  { base := 0, capture := 16, sum := 0, hi := 0, lo := 0, neg := 0, touched := false, held := 0,
    blocked := false }

/-- The panel after power-up. -/
def PanelSt.initial : PanelSt :=
  { keys := List.replicate 6 KeySt.initial, multi := false, menu := .line, notice := .none, trimCh := 0, enterHeld := 0,
    pendingAddr := none, ip6 := 0xFE800000000000000000000000960010#128 }

/-- The module right after reset, as it leaves the factory: START step 1, blank banks, an empty recorder and
journal, keys wrapped with the operator key of slot 0 at level E (log entries 1 to 6). -/
def State.reset : State :=
  { regs := [], latches := [], mem := [], bad := [], inImg := [], outImg := [], localOwn := [], committed := [],
    committedPrev := [], tasks := [], classes := [], cores := [], check := CheckSt.initial,
    masters := [], axes := [], image := none, loader := Loader.idle,
    bank0 := ⟨[], []⟩, bank1 := ⟨[], []⟩, activeRec := [], opnum := 0,
    recorder := { raised := [], queue := [], halfA := [], halfB := [], lastChk := 0xFFFFFFFF, suppressed := 0,
                  keys := [] },
    journal := [], sessCtr := 0, sessions := [], probeAt := [], nacks := [], svcFrames := (0, 0),
    pair := Pair.initial, resync := Resync.initial, time := TimeSt.initial, rings := [],
    guards := [], guardDue := [], xfer := [], ana := [], modems := [], conv := [], trim := none,
    dio := DioSt.initial, can := [], ser := [],
    retained := [], retDirty := [], footA := [], footB := [], retSnap := none,
    acts := [], actNext := 1,
    power := { offAsked := [], noCommit := 0, committed := false, startResets := 0, resetDue := false,
               warned := false, warnedAt := 0, held := false, startAs := none, startEpoch := 0, partnerMode := 0 },
    skerry := { slots := some ⟨[], 2⟩ :: List.replicate 7 none, nonces := [], log := [], clock := 0,
                clockValid := true, rekeying := false, rootKey := [], deviceKey := [] },
    panel := PanelSt.initial, outbox := [], pending := [] }

end Sys2Proof.Machine
end

