-- ==== Sys2Proof/Machine/Ops.lean ====
section
/-! DEFINITION. The named operations that the commands share: registers and their fields, the tick and the time
counter, module state, crown, recorder events, Strait messages, and the tables of the state by number. -/

namespace Sys2Proof.Machine

open Sys2Proof

/-! ## Registers -/

/-- The register with a given key (item × 2^24 + address). -/
def State.reg (s : State) (key : Nat) : Word := Sparse.get resetValue s.regs key

/-- Set a register. -/
def State.setReg (s : State) (key : Nat) (v : Word) : State :=
  { s with regs := Sparse.set resetValue s.regs key v }

/-- A field of a register (R2). -/
def State.fld (s : State) (f : Fld) : Nat := getBits (s.reg f.reg) f.hi f.lo

/-- Set a field; the other bits of its register stay. -/
def State.setFld (s : State) (f : Fld) (v : Nat) : State :=
  s.setReg f.reg (setBits (s.reg f.reg) f.hi f.lo v)

/-- The same field of the item's copy of its register (R356). -/
@[reducible] def Fld.item (f : Fld) (item : Nat) : Fld := ⟨itemKey f.reg item, f.hi, f.lo⟩

/-- The same field `n` registers further on (numbered registers such as TICK_CLS_OVRi). -/
@[reducible] def Fld.nth (f : Fld) (n : Nat) : Fld := ⟨f.reg + 4 * n, f.hi, f.lo⟩

/-- The same field in the RING block of ring `k` (R229: RINGk stands at block 26 + k). -/
@[reducible] def Fld.ring (f : Fld) (k : Nat) : Fld := ⟨f.reg + 0x10000 * k, f.hi, f.lo⟩

/-- Whether a one-bit field is 1. -/
def State.flag (s : State) (f : Fld) : Bool := s.fld f != 0

/-- Set a one-bit field. -/
def State.setFlag (s : State) (f : Fld) (b : Bool) : State := s.setFld f (b2n b)

/-- The largest value of a field. -/
@[reducible] def Fld.top (f : Fld) : Nat := 2 ^ (f.hi + 1 - f.lo) - 1

/-- Count a field up, holding at its largest value. -/
def State.count (s : State) (f : Fld) (n : Nat) : State := s.setFld f (countUp f.top (s.fld f) n)

/-- A declared 64-bit pair whose low word stands at `a` and whose high word at `a + 4` (R357). -/
def State.dword (s : State) (a : Nat) : DWord := s.reg (a + 4) ++ s.reg a

/-- Set both words of a pair. -/
def State.setDword (s : State) (a : Nat) (v : DWord) : State :=
  (s.setReg a (v.extractLsb' 0 32)).setReg (a + 4) (v.extractLsb' 32 32)

/-- What a requester reads at the high word `a` of a pair (R357): its latch of the pair, else the live value. -/
def State.latched (s : State) (who : Requester) (a : Nat) (live : Word) : Word :=
  ((s.latches.find? (fun l => l.1 == who && l.2.1 == a)).map (fun l => l.2.2)).getD live

/-- Latch the high word `a` of a pair for a requester at a value (R357). -/
def State.latch (s : State) (who : Requester) (a : Nat) (v : Word) : State :=
  { s with latches := (who, a, v) :: s.latches.filter (fun l => !(l.1 == who && l.2.1 == a)) }

/-! ## Lists by number -/

/-- Put a value at key `k` of a sorted list, replacing an entry with that key; every entry is kept. -/
def putAt {α : Type} (k : Nat) (v : α) : List (Nat × α) → List (Nat × α)
  | [] => [(k, v)]
  | (j, w) :: m => if k < j then (k, v) :: (j, w) :: m else if k = j then (k, v) :: m else (j, w) :: putAt k v m

/-- The entry at key `k`. -/
def getAt {α : Type} (k : Nat) : List (Nat × α) → Option α
  | [] => none
  | (j, w) :: m => if k = j then some w else getAt k m

/-- Remove key `k`. -/
def dropAt {α : Type} (k : Nat) (m : List (Nat × α)) : List (Nat × α) := m.filter (fun e => e.1 != k)

/-- Apply an action for each element of a list in order. -/
def forAll {α σ : Type} (xs : List α) (f : σ → α → σ) (s : σ) : σ := xs.foldl f s

/-! ## Tick and time -/

/-- The current tick number (SYS_TICK). -/
def State.tick (s : State) : DWord := s.dword A.SYS_TICK_LO

/-- The time counter in TAI ns (TIME_NOW). -/
def State.now (s : State) : DWord := s.dword A.TIME_NOW_LO

/-- The fraction of the time counter in 1/256 ns. -/
def State.nowFrac (s : State) : Nat := s.fld F.TIME_NOW_FRAC.FRAC

/-- Set the time counter. -/
def State.setNow (s : State) (ns : DWord) (frac : Nat) : State :=
  (s.setDword A.TIME_NOW_LO ns).setFld F.TIME_NOW_FRAC.FRAC frac

/-- The instant of edge `n` (R11). -/
def edgeNs (n : DWord) : DWord := n * 62500

/-- Move the time counter to an offset in ns from the current edge (R24, R26). -/
def State.at (s : State) (off : Nat) : State := s.setNow (edgeNs s.tick + BitVec.ofNat 64 off) 0

/-- Whether ticks run (R35). -/
def State.ticking (s : State) : Bool := s.flag F.TICK_STATUS.RUNNING

/-- Set the window that TICK_STATUS shows. -/
def State.window (s : State) (w : Nat) : State := s.setFld F.TICK_STATUS.WINDOW w

/-! ## Module state and crown -/

@[reducible] def stStart : Nat := 0
@[reducible] def stTamperHold : Nat := 1
@[reducible] def stStandby : Nat := 2
@[reducible] def stPrimary : Nat := 3
@[reducible] def stSolo : Nat := 4
@[reducible] def stSafe : Nat := 5

/-- The module state (R18). -/
def State.mode (s : State) : Nat := s.fld F.SYS_STATE.STATE

/-- Whether the module is in a running state (R18, R32). -/
def State.running (s : State) : Bool := decide (2 ≤ s.mode) && decide (s.mode ≤ 4)

/-- Whether the module holds the crown. -/
def State.holds (s : State) : Bool := s.mode == stPrimary || s.mode == stSolo

/-- Whether the module is one of a running pair (STANDBY in step, or PRIMARY). -/
def State.paired (s : State) : Bool :=
  s.mode == stPrimary || (s.mode == stStandby && !s.pair.outOfStep)

/-- Whether a joiner computes the tick that its resynchronisation ends with (R170). -/
def State.joining (s : State) : Bool := s.resync.role == .joiner && s.resync.loaded

/-- Whether the module takes part in the tick: a running module, or a joiner in its final tick. -/
def State.active (s : State) : Bool := s.running || s.joining

/-- Whether the logical cores and the shaft engine compute: a standby out of step does not (R169). -/
def State.computes (s : State) : Bool :=
  s.holds || (s.mode == stStandby && !s.pair.outOfStep) || s.joining

/-- Whether the module follows a partner's Carding: a standby, or a joiner in its final tick. -/
def State.follows (s : State) : Bool := s.mode == stStandby || s.joining

/-- Slot parity: 0 module A, 1 module B (R7). -/
def State.parity (s : State) : Nat := s.fld F.SYS_SLOT.SLOT % 2

/-- The rank that the module presents (R156). -/
def State.rank (s : State) : Nat :=
  if s.holds then 3 else if s.mode == stStandby && !s.pair.outOfStep then 2 else 0

/-- A crown word (R13). -/
def crownOf (epoch rank parity : Nat) : Word := BitVec.ofNat 32 (epoch * 256 + rank * 2 + parity)

/-- The epoch of a crown (R13). -/
def crownEpoch (c : Word) : Nat := getBits c 31 8

/-- The rank of a crown (R13). -/
def crownRank (c : Word) : Nat := getBits c 7 1

/-- The module's own epoch (R157). -/
def State.epoch (s : State) : Nat := s.fld F.CROWN_STORED.EPOCH

/-- The crown that the module's state and epoch give it (R13, R156). -/
def State.crown (s : State) : Word := crownOf s.epoch s.rank s.parity

/-- Whether the module is tampered (R32). -/
def State.tampered (s : State) : Bool := s.flag F.SYS_STATE.TAMPERED

/-- Whether commands are refused with TAMPER_HOLD (R200, R203). -/
def State.tamperRefuse (s : State) : Bool := s.tampered || s.mode == stTamperHold

/-! ## Recorder events -/

/-- Pad event data to the 12 bytes of DETAIL (R309). -/
def detail12 (bs : List Byte) : List Byte := (bs ++ List.replicate 12 0).take 12

/-- Raise an event with a tick number of its own (R309: TICK holds c where a class cycle is named). -/
def State.raiseAt (s : State) (tick : DWord) (cls code src : Nat) (det : List Byte) : State :=
  let e : RawEvent := ⟨s.now, s.nowFrac, cls, code, tick, s.mode, src, detail12 det,
    !s.flag F.TIME_STATUS.ACQUIRED, false⟩
  { s with recorder := { s.recorder with raised := s.recorder.raised ++ [e] } }

/-- Raise an event of class, code and SOURCE with its DETAIL bytes (R360); the recorder judges it at
RECORD_ADMISSION. -/
def State.raise (s : State) (cls code src : Nat) (det : List Byte) : State :=
  s.raiseAt s.tick cls code src det

/-- A byte of DETAIL. -/
def d1 (n : Nat) : List Byte := [BitVec.ofNat 8 n]

/-- Four little-endian bytes of DETAIL. -/
def d4 (n : Nat) : List Byte := leBytes 4 n

/-- Set an event bit. -/
def State.note (s : State) (f : Fld) : State := s.setFld f 1

/-! ## What leaves the module -/

/-- Something leaves the module. -/
def State.emit (s : State) (o : Out) : State := { s with outbox := o :: s.outbox }

/-- A frame leaves on a port: it is counted (NET_PORT_TX). -/
def State.sendNet (s : State) (port : Nat) (o : Out) : State :=
  (s.count (F.NET_PORT_TX.FRAMES.item port) 1).emit o

/-- The lane that carries the traffic of lane `l` under a lane set: the next higher-numbered lane that is up,
wrapping from 7 to 0 (R148). -/
def laneOf (set : BitVec 8) (l : Nat) : Nat :=
  (((List.range 8).map (fun i => (l + i) % 8)).find? (fun j => set.getLsbD j)).getD l

/-- The effective lane set (R148). -/
def State.lanes (s : State) : Nat := s.fld F.STRAIT_STATUS.LANES_UP

/-- Whether the Strait is trained (R148). -/
def State.trained (s : State) : Bool := s.flag F.STRAIT_STATUS.TRAINED

/-- Send a Strait message that belongs to tick `n` on the lane that carries lane `l`'s traffic, with the crown presented at the
last edge and the next sequence number (R148 to R150). Without a trained Strait nothing leaves. -/
def State.straitFor (s : State) (n : DWord) (l type sub : Nat) (vals : List Nat) (bytes : List Byte) : State :=
  if s.trained then
    { s.emit (.strait (laneOf s.pair.routing l)
        (straitMessage type sub (s.reg A.CROWN_OWN) n s.pair.seq (straitPayload type sub vals bytes))) with
      pair := { s.pair with seq := (s.pair.seq + 1) % 65536 } }
  else s

/-- Send a Strait message of this tick. -/
def State.straitOn (s : State) (l type sub : Nat) (vals : List Nat) (bytes : List Byte) : State :=
  s.straitFor s.tick l type sub vals bytes

/-- Send on the control lane (R148). -/
def State.strait (s : State) (type sub : Nat) (vals : List Nat) : State := s.straitOn 6 type sub vals []

/-- Answer a Strait message with REPLY: TYPE and SEQ answered and a result code (R150). -/
def State.straitReply (s : State) (type seq code : Nat) : State := s.strait 0x0A 0 [type, seq, code]

/-! ## Result codes (R197) -/

@[reducible] def rcOk : Nat := 0
@[reducible] def rcSize : Nat := 1
@[reducible] def rcAlign : Nat := 2
@[reducible] def rcGuard : Nat := 3
@[reducible] def rcBusy : Nat := 4
@[reducible] def rcAuth : Nat := 5
@[reducible] def rcRoleChanged : Nat := 6
@[reducible] def rcStaleSeq : Nat := 7
@[reducible] def rcNoImage : Nat := 8
@[reducible] def rcBudget : Nat := 9
@[reducible] def rcQueued : Nat := 10
@[reducible] def rcTamperHold : Nat := 11
@[reducible] def rcUntracked : Nat := 12
@[reducible] def rcTimeout : Nat := 13
@[reducible] def rcCheck : Nat := 14
@[reducible] def rcState : Nat := 15

/-! ## State and epoch changes -/

/-- Change the module state: SYS_STATE, STATE_CHANGED, CLH and the record of class 0 code 1 (R32, R159, R360). -/
def State.become (s : State) (new cause : Nat) : State :=
  let old := s.mode
  let s := ((s.setFld F.SYS_STATE.STATE new).setFld F.SYS_STATE.CAUSE cause).note F.SYS_EVENT.STATE_CHANGED
  let s := s.setFlag F.CROWN_STATUS.CLH_OUT s.holds
  let s := s.setFlag F.STRAIT_STATUS.IN_STEP s.paired
  s.raise 0 1 0 (d1 old ++ d1 new ++ d1 cause ++ d1 0 ++ d4 s.crown.toNat ++ d4 (s.reg A.CROWN_PARTNER).toNat)

/-- Raise the epoch by one, writing the MRAM record; at 0xFF_FFFF the raise is refused (R15, R157). -/
def State.raiseEpoch (s : State) (cause : Nat) : State :=
  if s.epoch = 0xFFFFFF then
    (s.note F.CROWN_EVENT.RAISE_REFUSED).raise 0 2 0 (d4 s.crown.toNat ++ d1 cause)
  else s.setFld F.CROWN_STORED.EPOCH (s.epoch + 1)

/-- A raise over an epoch `e` for a change with a CAUSE (R158), refused where the result would pass 0xFF_FFFF (R15). -/
def State.raiseEpochFrom (s : State) (e cause : Nat) : State :=
  if e = 0xFFFFFF then (s.note F.CROWN_EVENT.RAISE_REFUSED).raise 0 2 0 (d4 s.crown.toNat ++ d1 cause)
  else s.setFld F.CROWN_STORED.EPOCH (e + 1)

/-- Take an epoch of at least the own one: the epoch is never lowered (R15). -/
def State.adoptEpoch (s : State) (e : Nat) : State :=
  if s.epoch < e then s.setFld F.CROWN_STORED.EPOCH e else s

/-- A module marks itself unclean (R77). -/
def State.unclean (s : State) : State := s.note F.CHK_STATUS.UNCLEAN

/-! ## Tables of the state by number -/

/-- The value of an image slot before any write: 0, BAD (R52). -/
def slotDefault : Nat → Slot := fun _ => ⟨0, .bad⟩

/-- A slot that no CLASSMAP record names: 0, GOOD (R37). -/
def slotGood : Nat → Slot := fun _ => ⟨0, .good⟩

/-- Cleared flags. -/
def Flags.clear : Flags := ⟨false, false, false, false, false⟩

/-- The registers at the start of an activation, with PC 0 (R50). -/
def TaskRegs.fresh : TaskRegs :=
  { ba := false, bq := .good, wa := 0, qa := .good, wb := 0, qb := .good, ix := 0, pc := 0, nest := [],
    loops := [], calls := [], flags := Flags.clear }

/-- A task with no activation. -/
def TaskSt.idle : TaskSt :=
  { regs := TaskRegs.fresh, active := false, ended := true, cycle := 0, charged := 0, cycles := 0, savedCycles := 0, boundHit := false,
    first := true, staging := [], sig := 0xFFFFFFFFFFFFFFFF, syn := [], saved := TaskRegs.fresh,
    undo := [], undoFull := false, retry := false, retryFault := false, unresolved := false, data := [], edges := [] }

/-- A class with no cycle in progress. -/
def ClassSt.idle : ClassSt :=
  { running := false, cycle := 0, overrun := false, skipped := 0, input := [], buffer := [] }

/-- A core outside the compute window. -/
def CoreSt.idle : CoreSt := { cur := none, sliced := [], used := 0, inWindow := false }

/-- A virtual master at rest. -/
def MasterSt.idle : MasterSt :=
  { m := 0, v := 0, q := .good, emerg := false, stopReq := false, samples := [] }

/-- An axis disengaged at position 0. One that engages in its very first pass has no setpoint before it and holds this
position 0 (R109; DESIGN CHOICE, log entry 164). -/
def AxisSt.idle : AxisSt :=
  { mode := .disengaged, g := 0, r := 0, n := 0, d := 0, trim := 0, markTrim := 0, offset := 0, base := 0,
    cam := 0, s := 0, ff := 0, hist := [], ferrCnt := 0, markCnt := 0, markSeen := false, groupStop := false }

/-- A free session slot. -/
def Session.free : Session :=
  { queue := [], mask := 0, evCounter := 0, dropped := 0, evSecond := 0, evCount := 0, lastCmd := 0, key := [] }

/-- A ring before its first frame. -/
def RingSt.idle : RingSt :=
  { gens := [], reqs := [], own := [], passing := [], carded := false, everTaken := [], back := none, ret := none, hops := 0,
    window := 0, cableCounts := [] }

/-- A transfer channel with no descriptor. -/
def XferCh.idle : XferCh :=
  { desc := none, moved := 0, request := false, burst := 0, before := 0, beforeEnd := 0, slot := none, write := false, got := [],
    buf := [], abort := false }

/-- A disabled guard region of the smallest size (GUARD_ATTR resets to SIZE 6). -/
def Region.off : Region := ⟨0, 6, false, false, false⟩

/-- An analogue channel before any result. -/
def AnaSt.idle : AnaSt :=
  { cur := none, next := none, raws := [], lost := 0, integrating := false, band := 3, stats := [],
    applied := 0, heldOne := false, modeNew := false, hartFails := [], hartIdent := [], hart := [] }

/-- A HART modem at the head of its round. -/
def Modem.idle : Modem := { pos := 0, tries := 0, ptPending := false, ptRunning := false }

/-- A converter group that is stopped, slices 0 to 3 serving (log entry 9). -/
def ConvGrp.idle : ConvGrp :=
  { fifo := [], running := none, got := [], kept := 0, held := none, aborted := false, stopReq := false, overflow := false, old := none,
    calibrating := false, swapDue := false, active := [0, 1, 2, 3], fails := 0, retired := 0 }

/-- A CAN bus with nothing under way. -/
def CanSt.idle : CanSt :=
  { lock := none, shadow := [], active := none, abortActive := false, again := [], wasOff := false, newest := [] }

/-- An RS-485 line with empty FIFOs. -/
def SerSt.idle : SerSt := { rx := [], tx := [], overrun := false, idleDone := false }

def State.task (s : State) (i : Nat) : TaskSt := Sparse.get (fun _ => TaskSt.idle) s.tasks i
def State.setTask (s : State) (i : Nat) (t : TaskSt) : State :=
  { s with tasks := Sparse.set (fun _ => TaskSt.idle) s.tasks i t }
def State.cls (s : State) (i : Nat) : ClassSt := Sparse.get (fun _ => ClassSt.idle) s.classes i
def State.setCls (s : State) (i : Nat) (c : ClassSt) : State :=
  { s with classes := Sparse.set (fun _ => ClassSt.idle) s.classes i c }
def State.core (s : State) (i : Nat) : CoreSt := Sparse.get (fun _ => CoreSt.idle) s.cores i
def State.setCore (s : State) (i : Nat) (c : CoreSt) : State :=
  { s with cores := Sparse.set (fun _ => CoreSt.idle) s.cores i c }
def State.master (s : State) (i : Nat) : MasterSt := Sparse.get (fun _ => MasterSt.idle) s.masters i
def State.setMaster (s : State) (i : Nat) (m : MasterSt) : State :=
  { s with masters := Sparse.set (fun _ => MasterSt.idle) s.masters i m }
def State.axis (s : State) (i : Nat) : AxisSt := Sparse.get (fun _ => AxisSt.idle) s.axes i
def State.setAxis (s : State) (i : Nat) (a : AxisSt) : State :=
  { s with axes := Sparse.set (fun _ => AxisSt.idle) s.axes i a }
def State.sess (s : State) (i : Nat) : Session := Sparse.get (fun _ => Session.free) s.sessions i
def State.setSess (s : State) (i : Nat) (x : Session) : State :=
  { s with sessions := Sparse.set (fun _ => Session.free) s.sessions i x }
def State.ring (s : State) (k : Nat) : RingSt := Sparse.get (fun _ => RingSt.idle) s.rings k
def State.setRing (s : State) (k : Nat) (r : RingSt) : State :=
  { s with rings := Sparse.set (fun _ => RingSt.idle) s.rings k r }
def State.chan (s : State) (c : Nat) : XferCh := Sparse.get (fun _ => XferCh.idle) s.xfer c
def State.setChan (s : State) (c : Nat) (x : XferCh) : State :=
  { s with xfer := Sparse.set (fun _ => XferCh.idle) s.xfer c x }
def State.region (s : State) (i : Nat) : Region := Sparse.get (fun _ => Region.off) s.guards i
def State.setRegion (s : State) (i : Nat) (r : Region) : State :=
  { s with guards := Sparse.set (fun _ => Region.off) s.guards i r }
def State.anaCh (s : State) (c : Nat) : AnaSt := Sparse.get (fun _ => AnaSt.idle) s.ana c
def State.setAna (s : State) (c : Nat) (a : AnaSt) : State :=
  { s with ana := Sparse.set (fun _ => AnaSt.idle) s.ana c a }
def State.modem (s : State) (g : Nat) : Modem := Sparse.get (fun _ => Modem.idle) s.modems g
def State.setModem (s : State) (g : Nat) (m : Modem) : State :=
  { s with modems := Sparse.set (fun _ => Modem.idle) s.modems g m }
def State.grp (s : State) (g : Nat) : ConvGrp := Sparse.get (fun _ => ConvGrp.idle) s.conv g
def State.setGrp (s : State) (g : Nat) (c : ConvGrp) : State :=
  { s with conv := Sparse.set (fun _ => ConvGrp.idle) s.conv g c }
def State.canBus (s : State) (b : Nat) : CanSt := Sparse.get (fun _ => CanSt.idle) s.can b
def State.setCan (s : State) (b : Nat) (c : CanSt) : State :=
  { s with can := Sparse.set (fun _ => CanSt.idle) s.can b c }
def State.serLine (s : State) (l : Nat) : SerSt := Sparse.get (fun _ => SerSt.idle) s.ser l
def State.setSer (s : State) (l : Nat) (x : SerSt) : State :=
  { s with ser := Sparse.set (fun _ => SerSt.idle) s.ser l x }

/-! ## Image slots -/

/-- A slot of the input image (R52). -/
def State.inSlot (s : State) (i : Nat) : Slot := Sparse.get slotDefault s.inImg i
/-- Write a slot of the input image. -/
def State.setIn (s : State) (i : Nat) (x : Slot) : State :=
  { s with inImg := Sparse.set slotDefault s.inImg i x }
/-- A slot of the output image (R52). -/
def State.outSlot (s : State) (i : Nat) : Slot := Sparse.get slotDefault s.outImg i
/-- Write a slot of the output image. -/
def State.setOut (s : State) (i : Nat) (x : Slot) : State :=
  { s with outImg := Sparse.set slotDefault s.outImg i x }

/-! ## Byte memories -/

/-- An unlisted byte reads 0 (R233; log entry 7). -/
def zeroByte : Nat → Byte := fun _ => 0

/-- A byte of a sparse byte memory. -/
def byteAt (m : Bytes) (a : Nat) : Byte := Sparse.get zeroByte m a

/-- Write a byte. -/
def putByte (m : Bytes) (a : Nat) (b : Byte) : Bytes := Sparse.set zeroByte m a b

/-- `n` bytes from address `a`. -/
def bytesAt (m : Bytes) (a n : Nat) : List Byte := (List.range n).map (fun i => byteAt m (a + i))

/-- Write bytes from address `a` upward. -/
def putBytes (m : Bytes) (a : Nat) : List Byte → Bytes
  | [] => m
  | b :: bs => putBytes (putByte m a b) (a + 1) bs

/-- A little-endian 64-bit value at `a` (R3). -/
def dwordAt (m : Bytes) (a : Nat) : DWord := BitVec.ofNat 64 (leVal (bytesAt m a 8))

/-- Write a little-endian 64-bit value at `a` (R3). -/
def putDword (m : Bytes) (a : Nat) (v : DWord) : Bytes := putBytes m a (leBytes 8 v.toNat)

/-- Whether MRAM is write-protected: 12 ms after the supply-fail warning (R322, log entry 178). -/
def State.mramProtected (s : State) : Bool := s.power.warned && decide (12000000 ≤ sdiff s.now s.power.warnedAt)

/-- Bytes are written at an address: words written whole get new check bits (R231, R232), and while this module sends
a state copy the 4 KiB pages written are marked (R170). -/
def State.storeMem (s : State) (a : Nat) (bs : List Byte) : State :=
  let healed := fun (p : MemPlace) => match p with
    | .addr w => decide (a ≤ 8 * w) && decide (8 * w + 8 ≤ a + bs.length)
    | _ => false
  let s := { s with mem := putBytes s.mem a bs, bad := s.bad.filter (fun p => !healed p) }
  if s.resync.role = .holder then
    let pages := (List.range ((a % 4096 + bs.length + 4095) / 4096)).map (fun i => a / 4096 + i)
    { s with resync := { s.resync with dirty := pages.foldl (fun d q => insertSorted q d) s.resync.dirty } }
  else s

/-! ## Power domains (R317 to R319) -/

/-- The state of a power domain: 0 OFF, 1 RAMPING, 2 ON, 3 DRAINING, 4 PENDING_ON. -/
def State.dom (s : State) (d : Nat) : Nat := s.fld (F.PWR_DOM_STATE.STATE.item d)

/-- Set the state of a power domain. -/
def State.setDom (s : State) (d v : Nat) : State := s.setFld (F.PWR_DOM_STATE.STATE.item d) v

/-- Whether a domain is ON. -/
def State.domOn (s : State) (d : Nat) : Bool := s.dom d == 2

/-! ## Uncorrectable errors (R231) -/

/-- Which memory a place lies in: 0 SRAM, 1 DRAM, 2 MRAM (the SOURCE of class 8 code 1). -/
def placeMem : MemPlace → Nat
  | .addr w => if w < 0x800000 then 0 else if w < 0xA0000000 then 1 else 2
  | _ => 0

/-- The address that MEM_UE_ADDR shows for a place. -/
def placeAddr : MemPlace → DWord
  | .addr w => BitVec.ofNat 64 (w * 8)
  | p => Config.placeAddr p

/-- While this module sends a state copy, the 4 KiB pages written are marked (R170). -/
def State.markPages (s : State) (pages : List Nat) : State :=
  if s.resync.role = .holder then
    { s with resync := { s.resync with dirty := pages.foldl (fun d q => insertSorted q d) s.resync.dirty } }
  else s

/-- Places are written while this module may send a state copy (R170). -/
def State.touch (s : State) (ps : List MemPlace) : State := s.markPages (ps.map (fun p => (placeAddr p).toNat / 4096))

/-- An uncorrectable error is seen: counted, its address shown, one recorder event (R231). -/
def State.memError (s : State) (p : MemPlace) : State :=
  let m := placeMem p
  let f := if m = 0 then F.MEM_ECC_UE.SRAM else if m = 1 then F.MEM_ECC_UE.DRAM else F.MEM_ECC_UE.MRAM
  (((s.count f 1).setDword A.MEM_UE_ADDR_LO (placeAddr p)).note F.MEM_EVENT.UE).raise 8 1 m
    (leBytes 8 (placeAddr p).toNat)

/-- Whether a place holds an uncorrectable error (R231). -/
def State.isBad (s : State) (p : MemPlace) : Bool := s.bad.any (fun x => x == p)

end Sys2Proof.Machine
end

