-- ==== Sys2Proof/Machine/Points.lean ====
section
/-! DEFINITION. Signal handles (R8), the value formats of points (R221), and conversions between exact ratios and
binary64. -/

namespace Sys2Proof.Machine

open Sys2Proof

/-- RING of a handle (R8). -/
def hRing (h : Nat) : Nat := h / 2 ^ 26 % 64
/-- STATION of a handle (R8). -/
def hStation (h : Nat) : Nat := h / 2 ^ 20 % 64
/-- POINT of a handle (R8). -/
def hPoint (h : Nat) : Nat := h / 2 ^ 7 % 8192

/-- The bytes of a format; a bit takes the byte it stands in (R221). -/
def formatBytes (f : Nat) : Nat :=
  if f ≤ 1 then 1 else if f ≤ 3 then 2 else if f = 4 ∨ f = 5 ∨ f = 7 then 4 else 8

/-- binary32 widened to binary64; a NaN gives the default NaN. -/
def widen32 (w : Nat) : DWord :=
  let e := w / 2 ^ 23 % 256
  let m := w % 2 ^ 23
  let neg := decide (2 ^ 31 ≤ w)
  if e = 255 then (if m = 0 then fInf neg else defaultNaN)
  else
    let mant := if e = 0 then m else m + 2 ^ 23
    let p := if e = 0 then 1 else e
    (fRound neg (mant * 2 ^ (p + 924)) 1).1

/-- The nearest binary32 of a binary64 word, ties to even. -/
def narrow32 (x : DWord) : Nat :=
  let s := if fSign x then 2 ^ 31 else 0
  if fIsNaN x then 0x7FC00000
  else if fIsInf x then s + 0x7F800000
  else
    let n := fMant x * 2 ^ fPow x          -- in units of 2^-1074
    -- unit exponent of the result, at least that of 2^-149 = 2^925 units
    let p := Nat.max 925 (n.log2 - 23)
    let den := 2 ^ p
    let q := n / den
    let r := n % den
    let q := if den < 2 * r ∨ (2 * r = den ∧ q % 2 = 1) then q + 1 else q
    let v := if q < 2 ^ 23 then q else (p - 925) * 2 ^ 23 + q
    if 0x7F800000 ≤ v then s + 0x7F800000 else s + v

/-- A wire value of a format as the 64-bit slot value (R52, R221): unsigned zero-extended, signed sign-extended,
binary32 widened (log entry 25). -/
def slotOfWire (f v : Nat) : DWord :=
  match f with
  | 2 => BitVec.ofInt 64 (signed 16 v)
  | 4 => BitVec.ofInt 64 (signed 32 v)
  | 7 => widen32 v
  | _ => BitVec.ofNat 64 v

/-- A slot value as the wire value of a format: its low bits, a bit of whether it is non-zero, binary32 narrowed. -/
def wireOfSlot (f : Nat) (v : DWord) : Nat :=
  match f with
  | 0 => if v = 0 then 0 else 1
  | 1 => v.toNat % 2 ^ 8
  | 2 | 3 => v.toNat % 2 ^ 16
  | 4 | 5 => v.toNat % 2 ^ 32
  | 7 => narrow32 v
  | _ => v.toNat

/-- The binary64 nearest to n/d, ties to even. -/
def f64OfRatio (n : Int) (d : Nat) : DWord := (fRound (decide (n < 0)) (n.natAbs * 2 ^ 1074) d).1

/-- The SIGNAL records of a local station (ring 63) in image order (R8, R221). -/
def localSignals (s : State) (station : Nat) (output : Bool) : List SignalRec :=
  match s.image with
  | none => []
  | some im => im.signals.filter (fun g => g.output == output && hRing g.handle == 63 && hStation g.handle == station)

/-- The value of a local output point in a committed image (R23): none when the image has no signal there. -/
def localOutputIn (s : State) (m : SlotMap) (station point : Nat) : Option Slot :=
  ((localSignals s station true).find? (fun g => hPoint g.handle == point)).map
    (fun g => Sparse.get slotDefault m g.slot)

/-- The committed output of a local point that is applied at this edge (R26). -/
def localOutput (s : State) (station point : Nat) : Option Slot := localOutputIn s s.committedPrev station point

/-- Put an acyclic request at the end of a ring's waiting requests (R143, R146). -/
def askStation (s : State) (ring svc station : Nat) (data : List Byte) (owner : AcycOwner) : State :=
  let r := s.ring ring
  s.setRing ring { r with reqs := r.reqs ++ [⟨none, svc, station, data, owner, s.tick⟩] }

/-- The STATION records of a ring in station order (R221). -/
def ringStations (s : State) (ring : Nat) : List StationRec :=
  match s.image with
  | none => []
  | some im => im.stations.filter (fun x => x.ring == ring)

/-- A slot of substitute value and BAD quality (R133, R259). -/
def badSlot (sub : DWord) : Slot := ⟨sub, .bad⟩

end Sys2Proof.Machine
end

