-- ==== Sys2Proof/Machine/Blocks.lean ====
section
/-! DEFINITION. Station blocks in the payload of a cyclic frame (R130, R131, R221): where points and their qualities
lie, taking an input block into the image, judging a station without one (R133), building output blocks. -/

namespace Sys2Proof.Machine

open Sys2Proof

/-- The cell that holds payload byte `p` (R130). -/
def cellOf (p : Nat) : Nat := if p < 212 then 0 else 1 + (p - 212) / 236

/-- The cells that cover a block. -/
def cellsOf (off len : Nat) : List Nat := (List.range len).map (fun i => cellOf (off + i))

/-- Whether a table entry is the point of a signal: same offset and format, and for bits the place among the entries
of its byte (log entry 33). -/
def pointPlace (pts : List TablePoint) (g : SignalRec) : Option Nat :=
  let here := (List.range pts.length).filter (fun i => match pts[i]? with
    | some p => p.off == g.off && p.format == g.format
    | none => false)
  here[if g.format = 0 then g.bitNo else 0]?

/-- The number of quality entries before table entry `i`; none when that entry has no quality. -/
def qualityPlace (pts : List TablePoint) (i : Nat) : Option Nat :=
  match pts[i]? with
  | some p => if p.qb then some ((pts.take i).filter (fun q => q.qb)).length else none
  | none => none

/-- Bytes of the bitmap that closes a block (R131). -/
def bitmapBytes (pts : List TablePoint) : Nat := ((pts.filter (fun p => p.qb)).length + 3) / 4

/-- The quality entry `n` of a block: entry 0 in bits [1:0] of the bitmap's first byte (log entry 33). -/
def qualityAt (block : List Byte) (pts : List TablePoint) (n : Nat) : Quality :=
  Quality.ofCode (u8At block (block.length - bitmapBytes pts + n / 4) / 4 ^ (n % 4))

/-- The value that a block holds for a signal (R131). -/
def pointValue (block : List Byte) (g : SignalRec) : DWord :=
  if g.format = 0 then BitVec.ofNat 64 (u8At block (2 + g.off) / 2 ^ g.bitNo % 2)
  else slotOfWire g.format (beAt block (2 + g.off) (formatBytes g.format))

/-- The quality that a block holds for a signal; a point without an entry is GOOD (R131). -/
def pointQuality (block : List Byte) (pts : List TablePoint) (g : SignalRec) : Quality :=
  match (pointPlace pts g).bind (qualityPlace pts) with
  | none => .good
  | some n => qualityAt block pts n

/-- The input signals of a station (R221). -/
def inputSignals (s : State) (ring station : Nat) : List SignalRec :=
  match s.image with
  | none => []
  | some im => im.signals.filter (fun g => !g.output && hRing g.handle == ring && hStation g.handle == station)

/-- A station's input block enters the image (R132, R133). -/
def takeBlock (s : State) (x : StationRec) (block : List Byte) : State :=
  let gs := inputSignals s x.ring x.station
  (gs.foldl (fun s g => s.setIn g.slot ⟨pointValue block g, pointQuality block x.ins g⟩) s).touch
    (gs.map (fun g => .inSlot g.slot))

/-- Every input of a station takes its substitute value with BAD (R133). -/
def substituteStation (s : State) (ring station : Nat) : State :=
  let gs := inputSignals s ring station
  (gs.foldl (fun s g => s.setIn g.slot (badSlot g.value)) s).touch (gs.map (fun g => .inSlot g.slot))

/-- Every input of a station keeps its value, at best STALE (R133). -/
def staleStation (s : State) (ring station : Nat) : State :=
  let gs := inputSignals s ring station
  (gs.foldl (fun s g =>
    let v := s.inSlot g.slot
    s.setIn g.slot ⟨v.val, v.q.max .stale⟩) s).touch (gs.map (fun g => .inSlot g.slot))

/-- A field of RING_STN_STATE of a station. -/
@[reducible] def stnFld (f : Fld) (ring station : Nat) : Fld := (f.ring ring).item station

/-- A station's valid block is taken in this tick (RING_STN_STATE). -/
def stationPresent (s : State) (x : StationRec) (block : List Byte) : State :=
  let stat := u8At block 0
  let s := ((s.setFld (stnFld F.RING_STN_STATE.PRESENT x.ring x.station) 1).setFld
    (stnFld F.RING_STN_STATE.SAFE x.ring x.station) (stat / 64 % 2)).setFld
    (stnFld F.RING_STN_STATE.WRAPPING x.ring x.station) (stat / 32 % 2)
  let s := s.setFld (stnFld F.RING_STN_STATE.STALE_CNT x.ring x.station) 0
  s.setRing x.ring { s.ring x.ring with everTaken := insertSorted x.station (s.ring x.ring).everTaken }

/-- A station with no valid block in this tick (R133); `missing` when it is missing from an intact ring. The ticks before
this one decide, since their count holds at 255. -/
def stationAbsent (s : State) (x : StationRec) (missing : Bool) : State :=
  let before := s.fld (stnFld F.RING_STN_STATE.STALE_CNT x.ring x.station)
  let s := s.setFld (stnFld F.RING_STN_STATE.PRESENT x.ring x.station) 0
  let s := s.count (stnFld F.RING_STN_STATE.STALE_CNT x.ring x.station) 1
  if missing || !(s.ring x.ring).everTaken.contains x.station ||
     decide (s.fld (F.RING_CFG.STALE_LIMIT.ring x.ring) ≤ before) then substituteStation s x.ring x.station
  else staleStation s x.ring x.station

/-- Whether a station is missing from an intact ring in this tick (R133). -/
def missingStation (r : RingSt) (station : Nat) : Bool :=
  match r.back with
  | some (hop, intact) => intact && decide (hop ≤ station)
  | none => false

/-- The stations of a ring are judged by the blocks that count in this tick (R133, R153); `place` says whether the valid
blocks still have to enter the image. -/
def judgeRing (s : State) (k : Nat) (blocks : List (Nat × List Byte)) (place : Bool) : State :=
  (ringStations s k).foldl (fun s x =>
    match getAt x.station blocks with
    | some b => let s := stationPresent s x b; if place then takeBlock s x b else s
    | none => stationAbsent s x (missingStation (s.ring k) x.station)) s

/-- The blocks that the scan fabric took: the own frame's, else the partner's in passing (R132). -/
def takenBlocks (r : RingSt) : List (Nat × List Byte) :=
  r.passing.foldl (fun m e => if (getAt e.1 m).isSome then m else putAt e.1 e.2 m) r.own

/-! ## Output blocks -/

/-- Replace a byte of a list. -/
def setByteAt (bs : List Byte) (i : Nat) (b : Byte) : List Byte := bs.set i b

/-- Write bytes into a list from place `i` on. -/
def spliceBytes (bs : List Byte) (i : Nat) : List Byte → List Byte
  | [] => bs
  | x :: xs => spliceBytes (setByteAt bs i x) (i + 1) xs

/-- Write a value of a format, and bit `n` of its byte for a bit, into a block (R131). -/
def putPoint (block : List Byte) (format off n : Nat) (v : DWord) : List Byte :=
  if format = 0 then
    let old := u8At block (2 + off)
    let mask := 2 ^ n
    let kept := if old / mask % 2 = 1 then old - mask else old
    setByteAt block (2 + off) (BitVec.ofNat 8 (if v = 0 then kept else kept + mask))
  else spliceBytes block (2 + off) (beBytes (formatBytes format) (wireOfSlot format v))

/-- Write quality entry `n` of a block whose bitmap bytes still hold 0 there. -/
def putQuality (block : List Byte) (pts : List TablePoint) (n : Nat) (q : Quality) : List Byte :=
  let at_ := block.length - bitmapBytes pts + n / 4
  setByteAt block at_ (BitVec.ofNat 8 (u8At block at_ + q.code * 4 ^ (n % 4)))

/-- Place table entry `i` of an output block: the committed output mapped to it, or its safe value with BAD (R131). -/
def putOutput (signals : List SignalRec) (value : SignalRec → Slot) (pts : List TablePoint) (block : List Byte)
    (i : Nat) : List Byte :=
  match pts[i]? with
  | none => block
  | some p =>
    let mapped := signals.find? (fun g => pointPlace pts g == some i)
    let bitNo := ((pts.take i).filter (fun q => q.off == p.off && q.format == p.format)).length
    let slot := match mapped with
      | some g => value g
      | none => ⟨p.safe, .bad⟩
    let block := putPoint block p.format p.off bitNo slot.val
    match qualityPlace pts i with
    | none => block
    | some n => putQuality block pts n slot.q

/-- The output block of a station; `value` gives an output signal's committed slot. -/
def outputBlock (signals : List SignalRec) (value : SignalRec → Slot) (x : StationRec) : List Byte :=
  (List.range x.outs.length).foldl (putOutput signals value x.outs) (List.replicate x.outLen 0)

/-- The payload of a ring's cyclic frame: output blocks placed, every input block 0 (R131). -/
def ringPayload (im : Image) (value : SignalRec → Slot) (r : RingRec) : List Byte :=
  (im.stations.filter (fun x => x.ring == r.ring)).foldl (fun bytes x =>
    let sig := im.signals.filter (fun g => g.output && hRing g.handle == r.ring && hStation g.handle == x.station)
    if x.outLen = 0 then bytes else spliceBytes bytes x.outOff (outputBlock sig value x))
    (List.replicate r.payload 0)

end Sys2Proof.Machine
end

