-- ==== Sys2Proof/Machine/Cells.lean ====
section
/-! DEFINITION. Cells on a ring link (R124, R125, R128, R130, R144): scrambling, the layout and checks of a cell, cyclic
and acyclic frames as sequences of cells, sent and as received. -/

namespace Sys2Proof.Machine

open Sys2Proof

/-! ## Cells -/

/-- The frame-start pattern (R125). -/
@[reducible] def fsp : Nat := 0x3C5A96E1

/-- One bit of the scrambler x²³ + x¹⁸ + 1 (R124). -/
def scramblerBit (r : BitVec 23) : Bool := r.getLsbD 22 ^^ r.getLsbD 17

/-- The next eight key bits, most significant first, and the scrambler after them. -/
def scramblerByte (r : BitVec 23) : Byte × BitVec 23 :=
  (List.range 8).foldl (fun p _ =>
    let b := BitVec.ofNat 23 (scramblerBit p.2).toNat
    (p.1 <<< 1 ||| b.setWidth 8, p.2 <<< 1 ||| b)) (0, r)

/-- `n` key bytes from a scrambler state. -/
def scramblerKey : Nat → BitVec 23 → List Byte
  | 0, _ => []
  | n + 1, r => (scramblerByte r).1 :: scramblerKey n (scramblerByte r).2

/-- Scramble or descramble bytes 4 to 249 of a cell: the scrambler starts at all ones behind the frame-start pattern (R124;
log entry 128). -/
def scramble (bs : List Byte) : List Byte := bs.zipWith (· ^^^ ·) (scramblerKey bs.length 0x7FFFFF)

/-- A cell as it stands on the line (R124, R125): FSP, then CELL, TYPE, FLAGS, OWNER, HCHK, BODY and CCHK scrambled. -/
def cellBytes (num type : Nat) (dir origin : Bool) (owner : Nat) (body : List Byte) : List Byte :=
  let head := beBytes 1 num ++ beBytes 1 type ++ beBytes 1 (b2n dir + 2 * b2n origin) ++ beBytes 1 owner
  let mid := head ++ beBytes 2 (crc16 head).toNat ++ (body ++ List.replicate 236 0).take 236
  beBytes 4 fsp ++ scramble (mid ++ beBytes 4 (crc32 mid).toNat)

/-- The idle cells `first` to `last` − 1 of a tick: TYPE 0, OWNER 0xFF, an empty body (R125, R126). -/
def idleCells (dir origin : Bool) (first last : Nat) : List (List Byte) :=
  (List.range' first (last - first)).map (fun c => cellBytes c 0 dir origin 0xFF [])

/-- The cable-test cells `first` to `last` − 1 of a tick: TYPE 3 (R125, R146). -/
def testCells (dir origin : Bool) (first last : Nat) : List (List Byte) :=
  (List.range' first (last - first)).map (fun c => cellBytes c 3 dir origin 0xFF [])

/-- A received cell: whether it counts as a miss or has failed its CCHK (R128), and its fields. -/
structure Cell where
  missed : Bool
  bad : Bool
  num : Nat
  type : Nat
  dir : Bool
  origin : Bool
  owner : Nat
  body : List Byte
deriving DecidableEq, Repr

/-- Judge and read a cell from the line (R124, R125, R128). -/
def readCell (line : List Byte) : Cell :=
  let b := scramble (line.drop 4)
  { missed := beAt line 0 4 != fsp || beAt b 4 2 != (crc16 (b.take 4)).toNat
    bad := beAt b 242 4 != (crc32 (b.take 242)).toNat
    num := u8At b 0, type := u8At b 1, dir := u8At b 2 % 2 == 1, origin := u8At b 2 / 2 % 2 == 1, owner := u8At b 3,
    body := (b.drop 6).take 236 }

/-! ## Cyclic frames (R130) -/

/-- The 24-byte header of a cyclic frame. -/
def frameHeader (crown : Word) (tick : DWord) (ring hop count wrapAt : Nat) (bank : Bool) (len : Nat) (image : Word) :
    List Byte :=
  beBytes 4 crown.toNat ++ beBytes 8 tick.toNat ++ beBytes 1 ring ++ beBytes 1 hop ++ beBytes 1 count ++
    beBytes 1 wrapAt ++ beBytes 1 (b2n bank) ++ [0] ++ beBytes 2 len ++ beBytes 4 image.toNat

/-- The `n` cells of a cyclic frame with header and payload `content`: 236 bytes to each body, so that payload byte p lies
where R130 says. -/
def frameCells (n : Nat) (dir origin : Bool) (content : List Byte) : List (List Byte) :=
  (List.range n).map (fun c => cellBytes c 1 dir origin 0xFF ((content.drop (236 * c)).take 236))

/-- A cyclic frame as it was read from its cells. -/
structure FrameView where
  dir : Bool
  origin : Bool
  crown : Word
  tick : DWord
  ringNo : Nat
  hop : Nat
  count : Nat
  wrapAt : Nat
  bank : Bool
  image : Word
  /-- cell 0 arrived, in lock and with good checks: what it says of the frame counts -/
  headOk : Bool
  /-- cells that arrived after 24 µs or are not the frame's, were missed or did not arrive (R128), or failed CCHK, by
  number -/
  lost : List Nat
  missed : List Nat
  bad : List Nat
  /-- three consecutive misses ended lock within the frame -/
  lockLost : Bool
  payload : List Byte
deriving DecidableEq, Repr

/-- When cell `c` of `n` cells that end at `retNs` is complete, in units of 10 ps (R125). -/
def cellArrival (retNs n c : Nat) : Nat := retNs * 100 - (n - 1 - c) * 31250

/-- The first cell after three consecutive misses, from cell `c` on after `run` misses: there lock is lost and nothing more is
delivered (R128). -/
def missRun : Nat → Nat → List Bool → Option Nat
  | _, _, [] => none
  | c, run, m :: ms => if m then (if run = 2 then some (c + 1) else missRun (c + 1) (run + 1) ms) else missRun (c + 1) 0 ms

/-- Whether a cell counts as a miss: its FSP does not appear, as of a cell that did not arrive, or its HCHK fails (R128). -/
def lineMissed (l : Option (List Byte)) : Bool :=
  match l with
  | some x => (readCell x).missed
  | none => true

/-- The cells of a sequence up to the third miss in a row: behind it the receiver has lost lock and delivers nothing (R127,
R128). -/
def lockedCells (cells : List (Option (List Byte))) : List (Option (List Byte)) :=
  match missRun 0 0 (cells.map lineMissed) with
  | none => cells
  | some k => cells.take k

/-- Read a cyclic frame (R125, R128, R130). Cells that are complete after 24 µs count as lost (R28). -/
def readFrame (f : CyclicFrame) : FrameView :=
  let cells := f.cells.map (fun l => l.map readCell)
  let n := cells.length
  let missedAt := fun (c : Nat) => match cells[c]? with
    | some (some x) => x.missed
    | _ => true
  let stop := missRun 0 0 ((List.range n).map missedAt)
  let unlocked := fun (c : Nat) => match stop with
    | some k => decide (k ≤ c)
    | none => false
  let lost := (List.range n).filter (fun c => unlocked c || decide (2400000 < cellArrival f.retNs n c) ||
    (match cells[c]? with
     | some (some x) => !x.missed && (x.type != 1 || x.num != c)
     | _ => false))
  let missed := (List.range n).filter (fun c => missedAt c && !unlocked c)
  let bad := (List.range n).filter (fun c => !missedAt c && !unlocked c && (match cells[c]? with
    | some (some x) => x.bad
    | _ => false))
  let content := cells.flatMap (fun x => (x.map (fun y => y.body)).getD (List.replicate 236 0))
  let first := (cells.headD none).getD (readCell [])
  { dir := first.dir, origin := first.origin, crown := BitVec.ofNat 32 (beAt content 0 4),
    tick := BitVec.ofNat 64 (beAt content 4 8), ringNo := u8At content 12, hop := u8At content 13,
    count := u8At content 14, wrapAt := u8At content 15, bank := u8At content 16 % 2 == 1,
    image := BitVec.ofNat 32 (beAt content 20 4),
    headOk := (match cells with
      | some x :: _ => !x.missed && !x.bad && x.type == 1 && x.num == 0
      | _ => false)
    lost := lost, missed := missed, bad := bad,
    lockLost := stop.isSome, payload := (content.drop 24).take (beAt content 18 2) }

/-! ## Acyclic frames (R144) -/

/-- The content of an acyclic request: the 8-byte head of its first cell's body, then the data. -/
def acyclicContent (tag : Nat) (gen : Bool) (cells svc station : Nat) (data : List Byte) : List Byte :=
  beBytes 1 tag ++ beBytes 1 (b2n gen * 128 + cells) ++ beBytes 1 svc ++ beBytes 1 station ++
    beBytes 2 data.length ++ [0, 0] ++ data

/-- The cells that a frame with `len` data bytes takes. -/
def acyclicCells (len : Nat) : Nat := (8 + len + 235) / 236

/-- The most data bytes of one acyclic frame. -/
@[reducible] def acyclicMax : Nat := 1880

/-- The cells of a request of a module: TYPE 2 and OWNER 0x40, numbered from `first` on. -/
def requestCells (first tag : Nat) (gen : Bool) (svc station : Nat) (dir origin : Bool) (data : List Byte) :
    List (List Byte) :=
  let n := acyclicCells data.length
  let content := acyclicContent tag gen n svc station data
  (List.range n).map (fun c => cellBytes (first + c) 2 dir origin 0x40 ((content.drop (236 * c)).take 236))

/-- An acyclic frame as it was read from its cells. -/
structure AcycView where
  origin : Bool
  owner : Nat
  tag : Nat
  gen : Bool
  svc : Nat
  station : Nat
  status : Nat
  data : List Byte
deriving DecidableEq, Repr

/-- Read an acyclic frame: 1 to 8 cells of TYPE 2 with one OWNER, as many as its CELLS field says, all of them received
with good checks; none where it is no such frame. -/
def readAcyclic (f : AcycFrame) : Option AcycView :=
  let cells := f.cells.filterMap (fun l => l.map readCell)
  match cells with
  | [] => none
  | x :: _ =>
    let content := cells.flatMap (fun y => y.body)
    let len := beAt content 4 2
    if cells.length == f.cells.length && cells.all (fun y => !y.missed && !y.bad && y.type == 2 && y.owner == x.owner) &&
       u8At content 1 % 128 == cells.length && decide (len ≤ acyclicMax) && decide (8 + len ≤ content.length)
    then some ⟨x.origin, x.owner, u8At content 0, decide (128 ≤ u8At content 1), u8At content 2, u8At content 3,
               beAt content 6 2, (content.drop 8).take len⟩
    else none

/-- The cells of a train that a module forwards: those of the partner's train that were not missed, as long as the receiver
holds lock (R121, R123, R127, R128). -/
def passedCells (parity : Nat) (cells : List (Option (List Byte))) : List (List Byte) :=
  (lockedCells cells).filterMap (fun l => match l with
    | some x => let c := readCell x; if !c.missed && b2n c.origin != parity then some x else none
    | none => none)

end Sys2Proof.Machine
end

