-- ==== Sys2Proof/Machine/Activity.lean ====
section
/-! DEFINITION. The list of maintenance activities (R327, R328). Every activity of a group has its entry there, whoever
started it: MAINT_START, a register, or the module itself when one falls due. -/

namespace Sys2Proof.Machine

open Sys2Proof

/-- The activity with a code and target that waits or runs: a second request for it takes no new place (R327). -/
def liveActivity (s : State) (code target : Nat) : Option Activity :=
  s.acts.find? (fun a => a.code == code && a.target == target && decide (a.state ≤ 1))

/-- Whether an activity of the group runs or waits. -/
def groupHeld (s : State) (group : Nat) : Bool := s.acts.any (fun a => a.group == group && decide (a.state ≤ 1))

/-- Whether an activity of the group runs. -/
def groupRuns (s : State) (group : Nat) : Bool := s.acts.any (fun a => a.group == group && a.state == 1)

/-- The oldest waiting activity of a group: the next to start (R327). -/
def oldestWaiting (s : State) (group : Nat) : Option Activity :=
  s.acts.reverse.find? (fun a => a.group == group && a.state == 0)

/-- Whether an activity with a code waits. -/
def codeWaits (s : State) (code : Nat) : Bool := s.acts.any (fun a => a.code == code && a.state == 0)

/-- Change the state of an activity. -/
def setActivity (s : State) (num st : Nat) : State :=
  { s with acts := s.acts.map (fun a => if a.num = num then { a with state := st } else a) }

/-- The waiting activities with a code run. There is at most one of a code and target (R327). -/
def runActivity (s : State) (code target : Nat) : State :=
  { s with acts := s.acts.map (fun a => if a.code = code ∧ a.target = target ∧ a.state = 0 then { a with state := 1 } else a) }

/-- The running activity with a code ends, done or failed. -/
def endActivity (s : State) (code : Nat) (ok : Bool) : State :=
  { s with acts := s.acts.map (fun a => if a.code = code ∧ a.state = 1 then { a with state := if ok then 2 else 3 } else a) }

/-- A new activity takes the next number; what is older than the last 256 numbers and over is forgotten (R328). -/
def newActivity (s : State) (group code target st : Nat) : State :=
  { s with
    acts := (⟨s.actNext, group, code, target, st⟩ : Activity) ::
      s.acts.filter (fun a => decide (a.state ≤ 1) || decide (s.actNext < a.num + 256))
    actNext := s.actNext + 1 }

end Sys2Proof.Machine
end

