-- ==== Sys2Proof/Machine/Crypto.lean ====
section
/-! DEFINITION. The cryptographic operations that the module uses (R196, R199, R210, R215, R216, R333), over what Config
leaves uninterpreted of the standards that the spec names (log entries 10, 126). -/

namespace Sys2Proof.Machine

open Sys2Proof

/-- Whether every byte of a string is 0. -/
def allZero (bs : List Byte) : Bool := bs.all (fun b => b == 0)

/-- SHA-384 as a byte string (R215). -/
def sha384 (bs : List Byte) : List Byte := beBytes 48 (Config.sha384Bits bs).toNat

/-- One signature r, s that verifies under a key for a digest; neither part is 0. -/
def ecdsaBytes (key digest : List Byte) : List Byte :=
  beBytes 96 (Config.ecdsaSign key digest ||| (1 ||| (1 <<< 384))).toNat

/-- Whether r, s is a signature over a digest under a public key (ECDSA P-384, R199, R216, R333): a part that is 0 never
verifies. -/
def ecdsaOk (key digest r s : List Byte) : Bool :=
  !allZero r && !allZero s && (r ++ s == ecdsaBytes key digest || Config.ecdsaAlso key digest r s)

end Sys2Proof.Machine
end

