-- ==== Sys2Proof/Machine/Journal.lean ====
section
/-! DEFINITION. The command journal in MRAM (R210, R211): record layout, appending, completing, looking up. -/

namespace Sys2Proof.Machine

open Sys2Proof

/-- The journal holds the most recent 65,536 records (R210). -/
def journalSize : Nat := 65536

/-- Bytes 0 to 59 of a journal record (R210). -/
def journalBody (r : JRec) : List Byte :=
  leBytes 8 r.jseq.toNat ++ leBytes 8 r.tick.toNat ++ leBytes 4 r.session.toNat ++ leBytes 4 r.seq.toNat ++
  leBytes 2 r.opcode ++ d1 (if r.done then r.result else 0) ++
  d1 (b2n r.done + 2 * b2n r.forwarded + 4 * b2n r.replayed) ++ leBytes 3 r.epoch ++ d1 r.keySlot ++
  (r.argDigest ++ List.replicate 16 0).take 16 ++ (r.resultData ++ List.replicate 12 0).take 12

/-- The 64 bytes of a record as stored (R210). -/
def journalBytes (r : JRec) : List Byte := journalBody r ++ leBytes 4 r.chk.toNat

/-- A record with its check (R210). -/
def sealRecord (r : JRec) : JRec := { r with chk := crc32 (journalBody r) }

/-- The JSEQ of the next record (JNL_NEXT). -/
def State.jseq (s : State) : DWord := s.dword A.JNL_NEXT_LO

/-- The place of a record in the 4 MiB ring: its JSEQ modulo 65,536 (DESIGN CHOICE, log entry 28). -/
def recordSlot (r : JRec) : Nat := r.jseq.toNat % journalSize

/-- Append a record: the newest overwrites what stands in its place, the oldest (R210). Write-protected MRAM takes none
(R322). -/
def journalAppend (s : State) (r : JRec) : State :=
  if s.mramProtected then s
  else
    let r := sealRecord { r with jseq := s.jseq }
    let s := { s.setDword A.JNL_NEXT_LO (s.jseq + 1) with
      journal := (r :: s.journal.filter (fun x => recordSlot x != recordSlot r)).take journalSize }
    s.setFld F.JNL_STATUS.FILL s.journal.length

/-- Change the record with a JSEQ and renew its check, while MRAM takes writes (R322). -/
def journalUpdate (s : State) (j : DWord) (f : JRec → JRec) : State :=
  if s.mramProtected then s
  else { s with journal := s.journal.map (fun r => if r.jseq = j then sealRecord (f r) else r) }

/-- Whether a record's CHK is correct. -/
def recordOk (r : JRec) : Bool := r.chk == crc32 (journalBody r)

/-- A byte of the journal in MRAM (R210, R230). -/
def journalByte (s : State) (off : Nat) : Byte :=
  match s.journal.find? (fun r => recordSlot r == off / 64) with
  | none => 0
  | some r => (journalBytes r).getD (off % 64) 0

end Sys2Proof.Machine
end

