-- ==== Sys2Proof/Machine/AidonCode.lean ====
section
/-! DEFINITION. The code words of the Aidon instructions (R55, R57): the word or words that spell each instruction,
and the instruction that words spell. -/

namespace Sys2Proof.Machine

open Sys2Proof

/-- A code word: the opcode in bits [31:24] over 24 operand bits (R55). -/
def opWord (op low : Nat) : Word := BitVec.ofNat 32 (op * 2 ^ 24 + low % 2 ^ 24)

/-- The operand bits of formats B, W and T: SPACE in [23:22] over the index (R55). -/
def operandBits (space idx : Nat) : Nat := space % 4 * 2 ^ 22 + idx % 2 ^ 22

/-- The words that spell an instruction, the extension words of LDKX, LDWX and STWX behind it (R55, R57); none for a
command that is no Aidon instruction. -/
def codeOf : Instr → List Word
  | .nop _ _ => [opWord 0x00 0]
  | .endTask _ _ => [opWord 0x01 0]
  | .chkp _ _ => [opWord 0x02 0]
  | .jmp _ _ off => [opWord 0x03 off.toNat]
  | .jt _ _ off => [opWord 0x04 off.toNat]
  | .jf _ _ off => [opWord 0x05 off.toNat]
  | .call _ _ off => [opWord 0x06 off.toNat]
  | .ret _ _ => [opWord 0x07 0]
  | .lpb _ _ count => [opWord 0x08 count]
  | .lpe _ _ => [opWord 0x09 0]
  | .lpx _ _ off => [opWord 0x0A off.toNat]
  | .ld _ _ space idx => [opWord 0x10 (operandBits space idx)]
  | .ldn _ _ space idx => [opWord 0x11 (operandBits space idx)]
  | .andB _ _ space idx => [opWord 0x12 (operandBits space idx)]
  | .andn _ _ space idx => [opWord 0x13 (operandBits space idx)]
  | .orB _ _ space idx => [opWord 0x14 (operandBits space idx)]
  | .orn _ _ space idx => [opWord 0x15 (operandBits space idx)]
  | .xorB _ _ space idx => [opWord 0x16 (operandBits space idx)]
  | .xorn _ _ space idx => [opWord 0x17 (operandBits space idx)]
  | .st _ _ space idx => [opWord 0x18 (operandBits space idx)]
  | .stn _ _ space idx => [opWord 0x19 (operandBits space idx)]
  | .setB _ _ space idx => [opWord 0x1A (operandBits space idx)]
  | .rst _ _ space idx => [opWord 0x1B (operandBits space idx)]
  | .notB _ _ => [opWord 0x1C 0]
  | .set1 _ _ => [opWord 0x1D 0]
  | .set0 _ _ => [opWord 0x1E 0]
  | .ap _ _ => [opWord 0x20 0]
  | .anp _ _ => [opWord 0x21 0]
  | .opB _ _ => [opWord 0x22 0]
  | .onp _ _ => [opWord 0x23 0]
  | .xp _ _ => [opWord 0x24 0]
  | .pop _ _ => [opWord 0x25 0]
  | .redge _ _ edge => [opWord 0x30 edge]
  | .fedge _ _ edge => [opWord 0x31 edge]
  | .ton _ _ idx => [opWord 0x34 (operandBits 2 idx)]
  | .tof _ _ idx => [opWord 0x35 (operandBits 2 idx)]
  | .tp _ _ idx => [opWord 0x36 (operandBits 2 idx)]
  | .ctu _ _ idx => [opWord 0x38 (operandBits 2 idx)]
  | .ctd _ _ idx => [opWord 0x39 (operandBits 2 idx)]
  | .crst _ _ idx => [opWord 0x3A (operandBits 2 idx)]
  | .cld _ _ idx => [opWord 0x3B (operandBits 2 idx)]
  | .ldw _ _ space idx => [opWord 0x40 (operandBits space idx)]
  | .stw _ _ space idx => [opWord 0x41 (operandBits space idx)]
  | .ldk _ _ imm => [opWord 0x42 imm.toNat]
  | .ldkx _ _ lo hi => [opWord 0x43 0, lo, hi]
  | .ldwx _ _ space idx ext => [opWord 0x44 (operandBits space idx), ext]
  | .stwx _ _ space idx ext => [opWord 0x45 (operandBits space idx), ext]
  | .tix _ _ => [opWord 0x46 0]
  | .ldd _ _ => [opWord 0x47 0]
  | .std _ _ => [opWord 0x48 0]
  | .swap _ _ => [opWord 0x49 0]
  | .btw _ _ => [opWord 0x4B 0]
  | .wtb _ _ => [opWord 0x4C 0]
  | .qtw _ _ => [opWord 0x4D 0]
  | .setq _ _ q => [opWord 0x4E q.code]
  | .setbq _ _ q => [opWord 0x4F q.code]
  | .add _ _ => [opWord 0x50 0]
  | .sub _ _ => [opWord 0x51 0]
  | .mul _ _ => [opWord 0x52 0]
  | .div _ _ => [opWord 0x53 0]
  | .mod _ _ => [opWord 0x54 0]
  | .wand _ _ => [opWord 0x55 0]
  | .wor _ _ => [opWord 0x56 0]
  | .wxor _ _ => [opWord 0x57 0]
  | .wnot _ _ => [opWord 0x58 0]
  | .neg _ _ => [opWord 0x59 0]
  | .shl _ _ amount => [opWord 0x5A amount]
  | .shr _ _ amount => [opWord 0x5B amount]
  | .sar _ _ amount => [opWord 0x5C amount]
  | .addk _ _ imm => [opWord 0x5D imm.toNat]
  | .abs _ _ => [opWord 0x5E 0]
  | .eq _ _ => [opWord 0x60 0]
  | .ne _ _ => [opWord 0x61 0]
  | .lt _ _ => [opWord 0x62 0]
  | .le _ _ => [opWord 0x63 0]
  | .gt _ _ => [opWord 0x64 0]
  | .ge _ _ => [opWord 0x65 0]
  | .ltu _ _ => [opWord 0x66 0]
  | .geu _ _ => [opWord 0x67 0]
  | .fadd _ _ => [opWord 0x70 0]
  | .fsub _ _ => [opWord 0x71 0]
  | .fmul _ _ => [opWord 0x72 0]
  | .fdiv _ _ => [opWord 0x73 0]
  | .fsqrt _ _ => [opWord 0x74 0]
  | .fneg _ _ => [opWord 0x75 0]
  | .fabs _ _ => [opWord 0x76 0]
  | .itf _ _ => [opWord 0x77 0]
  | .fti _ _ => [opWord 0x78 0]
  | .feq _ _ => [opWord 0x79 0]
  | .flt _ _ => [opWord 0x7A 0]
  | .fle _ _ => [opWord 0x7B 0]
  | .fmin _ _ => [opWord 0x7C 0]
  | .fmax _ _ => [opWord 0x7D 0]
  | .rds _ _ num => [opWord 0x80 num]
  | .wrs _ _ num => [opWord 0x81 num]
  | .undefinedOpcode _ _ word => [word]
  | _ => []

/-- An instruction whose unused bits are 0. -/
def unused (bits : Nat) (i : Instr) : Option Instr := if bits = 0 then some i else none

/-- The instruction that a word spells on core `j`, with two words behind it; none for an opcode that the tables do not
list and for a reserved bit that is set (R55). -/
def decodeCode (j : Nat) (up : Upset) (w x y : Word) : Option Instr :=
  let low := w.toNat % 2 ^ 24
  let space := low / 2 ^ 22
  let idx := low % 2 ^ 22
  match w.toNat / 2 ^ 24 with
  | 0x00 => unused low (.nop j up)
  | 0x01 => unused low (.endTask j up)
  | 0x02 => unused low (.chkp j up)
  | 0x03 => some (.jmp j up (BitVec.ofNat 24 low))
  | 0x04 => some (.jt j up (BitVec.ofNat 24 low))
  | 0x05 => some (.jf j up (BitVec.ofNat 24 low))
  | 0x06 => some (.call j up (BitVec.ofNat 24 low))
  | 0x07 => unused low (.ret j up)
  | 0x08 => unused (low / 2 ^ 16) (.lpb j up low)
  | 0x09 => unused low (.lpe j up)
  | 0x0A => some (.lpx j up (BitVec.ofNat 24 low))
  | 0x10 => some (.ld j up space idx)
  | 0x11 => some (.ldn j up space idx)
  | 0x12 => some (.andB j up space idx)
  | 0x13 => some (.andn j up space idx)
  | 0x14 => some (.orB j up space idx)
  | 0x15 => some (.orn j up space idx)
  | 0x16 => some (.xorB j up space idx)
  | 0x17 => some (.xorn j up space idx)
  | 0x18 => some (.st j up space idx)
  | 0x19 => some (.stn j up space idx)
  | 0x1A => some (.setB j up space idx)
  | 0x1B => some (.rst j up space idx)
  | 0x1C => unused low (.notB j up)
  | 0x1D => unused low (.set1 j up)
  | 0x1E => unused low (.set0 j up)
  | 0x20 => unused low (.ap j up)
  | 0x21 => unused low (.anp j up)
  | 0x22 => unused low (.opB j up)
  | 0x23 => unused low (.onp j up)
  | 0x24 => unused low (.xp j up)
  | 0x25 => unused low (.pop j up)
  | 0x30 => unused (low / 2 ^ 16) (.redge j up low)
  | 0x31 => unused (low / 2 ^ 16) (.fedge j up low)
  | 0x34 => if space = 2 then some (.ton j up idx) else none
  | 0x35 => if space = 2 then some (.tof j up idx) else none
  | 0x36 => if space = 2 then some (.tp j up idx) else none
  | 0x38 => if space = 2 then some (.ctu j up idx) else none
  | 0x39 => if space = 2 then some (.ctd j up idx) else none
  | 0x3A => if space = 2 then some (.crst j up idx) else none
  | 0x3B => if space = 2 then some (.cld j up idx) else none
  | 0x40 => some (.ldw j up space idx)
  | 0x41 => some (.stw j up space idx)
  | 0x42 => some (.ldk j up (BitVec.ofNat 24 low))
  | 0x43 => unused low (.ldkx j up x y)
  | 0x44 => some (.ldwx j up space idx x)
  | 0x45 => some (.stwx j up space idx x)
  | 0x46 => unused low (.tix j up)
  | 0x47 => unused low (.ldd j up)
  | 0x48 => unused low (.std j up)
  | 0x49 => unused low (.swap j up)
  | 0x4B => unused low (.btw j up)
  | 0x4C => unused low (.wtb j up)
  | 0x4D => unused low (.qtw j up)
  | 0x4E => unused (low / 2 ^ 2) (.setq j up (Quality.ofCode low))
  | 0x4F => unused (low / 2 ^ 2) (.setbq j up (Quality.ofCode low))
  | 0x50 => unused low (.add j up)
  | 0x51 => unused low (.sub j up)
  | 0x52 => unused low (.mul j up)
  | 0x53 => unused low (.div j up)
  | 0x54 => unused low (.mod j up)
  | 0x55 => unused low (.wand j up)
  | 0x56 => unused low (.wor j up)
  | 0x57 => unused low (.wxor j up)
  | 0x58 => unused low (.wnot j up)
  | 0x59 => unused low (.neg j up)
  | 0x5A => unused (low / 2 ^ 6) (.shl j up low)
  | 0x5B => unused (low / 2 ^ 6) (.shr j up low)
  | 0x5C => unused (low / 2 ^ 6) (.sar j up low)
  | 0x5D => some (.addk j up (BitVec.ofNat 24 low))
  | 0x5E => unused low (.abs j up)
  | 0x60 => unused low (.eq j up)
  | 0x61 => unused low (.ne j up)
  | 0x62 => unused low (.lt j up)
  | 0x63 => unused low (.le j up)
  | 0x64 => unused low (.gt j up)
  | 0x65 => unused low (.ge j up)
  | 0x66 => unused low (.ltu j up)
  | 0x67 => unused low (.geu j up)
  | 0x70 => unused low (.fadd j up)
  | 0x71 => unused low (.fsub j up)
  | 0x72 => unused low (.fmul j up)
  | 0x73 => unused low (.fdiv j up)
  | 0x74 => unused low (.fsqrt j up)
  | 0x75 => unused low (.fneg j up)
  | 0x76 => unused low (.fabs j up)
  | 0x77 => unused low (.itf j up)
  | 0x78 => unused low (.fti j up)
  | 0x79 => unused low (.feq j up)
  | 0x7A => unused low (.flt j up)
  | 0x7B => unused low (.fle j up)
  | 0x7C => unused low (.fmin j up)
  | 0x7D => unused low (.fmax j up)
  | 0x80 => unused (low / 2 ^ 8) (.rds j up low)
  | 0x81 => unused (low / 2 ^ 8) (.wrs j up low)
  | _ => none

/-- Whether a code word spells no instruction: ILLEGAL (R55, R68). -/
def undefinedWord (w : Word) : Bool := (decodeCode 0 ⟨[], []⟩ w 0 0).isNone

end Sys2Proof.Machine
end

