-- ==== Sys2Proof/Machine/Flags.lean ====
section
/-! DEFINITION. The sticky flags of an Aidon task and the results of arithmetic that goes wrong (R49, R60). -/

namespace Sys2Proof.Machine

open Sys2Proof

/-- SY_FLAGS as a word (R67): OV, DZ, FI, FO, FZ in bits 0 to 4. -/
def flagsWord (f : Flags) : DWord :=
  BitVec.ofNat 64 (b2n f.ov + 2 * b2n f.dz + 4 * b2n f.fi + 8 * b2n f.fo + 16 * b2n f.fz)

/-- Clear each flag whose bit is 1 (R67). -/
def flagsCleared (f : Flags) (w : DWord) : Flags :=
  { ov := f.ov && !w.getLsbD 0, dz := f.dz && !w.getLsbD 1, fi := f.fi && !w.getLsbD 2,
    fo := f.fo && !w.getLsbD 3, fz := f.fz && !w.getLsbD 4 }

/-- An integer result: the low 64 bits of the exact result; OV when it leaves the signed 64-bit range (R60). -/
def intResult (r : TaskRegs) (v : Int) (q : Quality) : TaskRegs :=
  { r with wa := BitVec.ofInt 64 v, qa := q,
           flags := { r.flags with ov := r.flags.ov || decide (v < -(2 ^ 63)) || decide (2 ^ 63 ≤ v) } }

/-- A division by zero: WA ← 0, DZ, BAD (R60). -/
def divByZero (r : TaskRegs) : TaskRegs :=
  { r with wa := 0, qa := .bad, flags := { r.flags with dz := true } }

/-- A floating result with its flags; NaN from operands that are not NaN, an overflow and a division by zero make
QA BAD (R60). -/
def floatResult (r : TaskRegs) (x : FResult) (q : Quality) : TaskRegs :=
  { r with wa := x.val, qa := if x.invalid || x.overflow || x.divZero then .bad else q,
           flags := { r.flags with fi := r.flags.fi || x.invalid, fo := r.flags.fo || x.overflow,
                                   fz := r.flags.fz || x.divZero } }

/-- A compare: BA, and BQ the higher of QA and QB. -/
def cmpResult (r : TaskRegs) (b : Bool) : TaskRegs := { r with ba := b, bq := r.qb.max r.qa }

/-- A floating compare: a NaN operand gives BA 0 and sets FI (R60). -/
def fcmpResult (r : TaskRegs) (b : Bool) : TaskRegs :=
  { cmpResult r b with flags := { r.flags with fi := r.flags.fi || fIsNaN r.wa || fIsNaN r.wb } }

/-- Push: WB, QB ← WA, QA, then WA, QA are set (R57). -/
def pushWord (r : TaskRegs) (v : DWord) (q : Quality) : TaskRegs :=
  { r with wb := r.wa, qb := r.qa, wa := v, qa := q }

end Sys2Proof.Machine
end

