-- ==== Sys2Proof/Machine/Operands.lean ====
section
/-! DEFINITION. The operand forms of the Aidon instructions (R51 to R56): spaces, slots, task data, edge bits,
timer and counter records, staging, the undo log and the running signature (R72, R74), and DRAM operands with the
region guard (R59, R241). -/

namespace Sys2Proof.Machine

open Sys2Proof

/-- The code of a fault kind (R68). -/
def AFault.code : AFault → Nat
  | .illegal => 1 | .backjump => 2 | .nest => 3 | .callstack => 4 | .loop => 5 | .index => 6 | .stage => 7
  | .writeIn => 8 | .guard _ _ _ => 9 | .memory _ => 10 | .bus => 11 | .sysreg => 12 | .range => 13 | .align => 14

/-- What an instruction does: a fault, or the state and the task's new context. -/
abbrev AEffect := State → TaskRec → TaskSt → Except AFault (State × TaskSt)

/-! ## Signature and undo log -/

/-- Bytes taken into the running signature (R72; their serialisation is log entry 14). -/
def taskSign (t : TaskSt) (bs : List Byte) : TaskSt := { t with sig := crc64From t.sig bs }

/-- The undo log takes the old value of a word at its first write since the last passed checkpoint, while the task may
hold more than its entries there (R74). `room` is what `undoRoom` gives. -/
def taskLog (t : TaskSt) (room : Option Nat) (p : UndoPlace) (old : DWord) : TaskSt :=
  match room with
  | none => t
  | some n =>
    if t.undo.any (fun e => e.place == p) then t
    else if t.undo.length < n then { t with undo := ⟨p, old⟩ :: t.undo }
    else { t with undoFull := true }

/-- The core mode the module runs in (CHK_STATUS.MODE). -/
def State.coreMode (s : State) : Nat := s.fld F.CHK_STATUS.MODE

/-- The TASK records of a logical core in image order (R217). -/
def coreTasks (s : State) (j : Nat) : List TaskRec :=
  match s.image with
  | none => []
  | some im => im.tasks.filter (fun k => k.lcore == j)

/-- How many entries of the 512 of its logical core's undo log a task may hold: those that the segments of the core's
other tasks do not hold (R74; log entry 124). In independent-core mode there is no log (R86). -/
def undoRoom (s : State) (k : TaskRec) : Option Nat :=
  if s.coreMode = 1 then none
  else some (512 - (((coreTasks s k.lcore).filter (fun x => x.task != k.task)).map
    (fun x => (s.task x.task).undo.length)).foldl (· + ·) 0)

/-- Write bytes into task data: the words they touch are logged, the store is signed (R72, R74). `key` are the
bytes by which the store enters the signature. -/
def taskStore (t : TaskSt) (room : Option Nat) (a : Nat) (bs : List Byte) : TaskSt :=
  let w0 := a / 8 * 8
  let w1 := (a + bs.length - 1) / 8 * 8
  let t1 := taskLog t room (.data w0) (dwordAt t.data w0)
  let t2 := if w1 = w0 then t1 else taskLog t1 room (.data w1) (dwordAt t.data w1)
  { taskSign t2 (leBytes 8 a ++ bs) with data := putBytes t.data a bs }

/-! ## Spaces 0 to 2 -/

/-- The place of a byte of a task's data. -/
def dataPlace (k : TaskRec) (a : Nat) : MemPlace := .data k.task (a / 8)

/-- Size of the input image or the output image: one more than the highest slot a SIGNAL record names (log entry
15). -/
def imageSlots (im : Image) (output : Bool) : Nat :=
  (im.signals.filter (fun g => g.output == output)).foldl (fun n g => Nat.max n (g.slot + 1)) 0

/-- Size of a class input area: one more than its highest destination slot (R37). -/
def classSlots (im : Image) (c : Nat) : Nat :=
  (im.classmap.filter (fun g => g.cls == c)).foldl (fun n g => Nat.max n (g.dst + 1)) 0

/-- Size of space 0 or 1 for a task (R37, R51, R56). -/
def spaceSize (s : State) (k : TaskRec) (space : Nat) : Nat :=
  match s.image with
  | none => 0
  | some im =>
    if space = 1 then imageSlots im true
    else if k.cls = 0 then imageSlots im false else classSlots im k.cls

/-- A slot of space 0: the input image for T1, the class's input area otherwise (R37). -/
def readIn (s : State) (k : TaskRec) (i : Nat) : Slot :=
  if k.cls = 0 then s.inSlot i else Sparse.get slotGood (s.cls k.cls).input i

/-- A slot of space 1: the staged value, else the class output buffer's, else the output image's (R51, R53). -/
def readOut (s : State) (k : TaskRec) (t : TaskSt) (i : Nat) : Slot :=
  match getAt i t.staging with
  | some x => x
  | none =>
    if k.cls = 0 then s.outSlot i
    else match getAt i (s.cls k.cls).buffer with
      | some x => x
      | none => s.outSlot i

/-- The place of a slot of space 0 or 1. -/
def slotPlace (k : TaskRec) (space i : Nat) : MemPlace :=
  if space = 0 then (if k.cls = 0 then .inSlot i else .clsIn k.cls i)
  else if k.cls = 0 then .outSlot i else .clsOut k.cls i

/-- Whether a read of a slot of space 0 or 1 meets an uncorrectable error (R231); a staged slot does not. -/
def slotBad (s : State) (k : TaskRec) (t : TaskSt) (space i : Nat) : Bool :=
  (decide (space = 0) || (getAt i t.staging).isNone) && s.isBad (slotPlace k space i)

/-- Read a slot operand: RANGE beyond the area, MEMORY on an uncorrectable word (R56, R68). -/
def slotOperand (s : State) (k : TaskRec) (t : TaskSt) (space i : Nat) : Except AFault Slot :=
  if spaceSize s k space ≤ i then .error .range
  else if slotBad s k t space i then .error (.memory (slotPlace k space i))
  else .ok (if space = 0 then readIn s k i else readOut s k t i)

/-- Read a bit operand with its quality (R51, R52, R54): SPACE 3 is ILLEGAL, task data holds no quality. -/
def bitOperand (s : State) (k : TaskRec) (t : TaskSt) (space idx : Nat) : Except AFault (Bool × Quality) :=
  if space = 2 then
    if k.dataSize ≤ idx / 8 then .error .range
    else if s.isBad (dataPlace k (idx / 8)) then .error (.memory (dataPlace k (idx / 8)))
    else .ok ((byteAt t.data (idx / 8)).getLsbD (idx % 8), .good)
  else if space = 0 ∨ space = 1 then
    match slotOperand s k t space idx with
    | .error e => .error e
    | .ok x => .ok (x.val != 0, x.q)
  else .error .illegal

/-- Read a word operand with its quality (R51, R52, R54). -/
def wordOperand (s : State) (k : TaskRec) (t : TaskSt) (space idx : Nat) : Except AFault (DWord × Quality) :=
  if space = 2 then
    if k.dataSize < idx * 8 + 8 then .error .range
    else if s.isBad (dataPlace k (idx * 8)) then .error (.memory (dataPlace k (idx * 8)))
    else .ok (dwordAt t.data (idx * 8), .good)
  else if space = 0 ∨ space = 1 then
    match slotOperand s k t space idx with
    | .error e => .error e
    | .ok x => .ok (x.val, x.q)
  else .error .illegal

/-- Stage a slot: a second store replaces the staged value, the 257th distinct slot is a STAGE fault (R53). -/
def stageSlot (t : TaskSt) (i : Nat) (x : Slot) : Except AFault TaskSt :=
  if (getAt i t.staging).isNone && decide (256 ≤ t.staging.length) then .error .stage
  else .ok (taskSign { t with staging := putAt i x t.staging }
    (leBytes 4 i ++ leBytes 8 x.val.toNat ++ d1 x.q.code))

/-- The checks a store makes from its encoding: SPACE 3 ILLEGAL, SPACE 0 WRITE_IN, then RANGE (R57, R68). The end
of task data is given in bytes. -/
def storeCheck (s : State) (k : TaskRec) (space idx dataEnd : Nat) : Except AFault Unit :=
  if 3 ≤ space then .error .illegal
  else if space = 0 then .error .writeIn
  else if space = 1 then (if spaceSize s k 1 ≤ idx then .error .range else .ok ())
  else if k.dataSize < dataEnd then .error .range
  else .ok ()

/-- Store a bit with its quality (R52 to R54). -/
def storeBit (s : State) (k : TaskRec) (t : TaskSt) (space idx : Nat) (b : Bool) (q : Quality) :
    Except AFault (State × TaskSt) :=
  match storeCheck s k space idx (idx / 8 + 1) with
  | .error e => .error e
  | .ok () =>
    if space = 1 then
      match stageSlot t idx ⟨if b then 1 else 0, q⟩ with
      | .error e => .error e
      | .ok t' => .ok (s, t')
    else if s.isBad (dataPlace k (idx / 8)) then .error (.memory (dataPlace k (idx / 8)))
    else
      let old := byteAt t.data (idx / 8)
      let m : Byte := BitVec.ofNat 8 (2 ^ (idx % 8))
      .ok (s, taskStore t (undoRoom s k) (idx / 8) [if b then old ||| m else old &&& ~~~m])

/-- A full write to a word of task data gives it new check bits (R231, R232). -/
def healData (s : State) (k : TaskRec) (a : Nat) : State :=
  { s with bad := s.bad.filter (fun p => p != .data k.task (a / 8)) }

/-- Store a word with its quality (R52 to R54). -/
def storeWord (s : State) (k : TaskRec) (t : TaskSt) (space idx : Nat) (v : DWord) (q : Quality) :
    Except AFault (State × TaskSt) :=
  match storeCheck s k space idx (idx * 8 + 8) with
  | .error e => .error e
  | .ok () =>
    if space = 1 then
      match stageSlot t idx ⟨v, q⟩ with
      | .error e => .error e
      | .ok t' => .ok (s, t')
    else .ok (healData s k (idx * 8), taskStore t (undoRoom s k) (idx * 8) (leBytes 8 v.toNat))

/-- The array check of the indexed forms: SPACE 3, a length of 0 or above 4,194,304 or a set bit above 23 are
ILLEGAL; WRITE_IN of a store to SPACE 0 comes before INDEX (R57, R68). -/
def indexCheck (t : TaskSt) (space : Nat) (ext : Word) (isStore : Bool) : Except AFault Unit :=
  if 3 ≤ space ∨ ext.toNat = 0 ∨ 4194304 < ext.toNat then .error .illegal
  else if isStore && space == 0 then .error .writeIn
  else if ext.toNat ≤ t.regs.ix.toNat then .error .index
  else .ok ()

/-! ## Edge bits -/

/-- Read and write an edge bit: the old state, the new one logged and signed (R61, R72, R74). -/
def edgeUpdate (s : State) (k : TaskRec) (t : TaskSt) (i : Nat) (b : Bool) : Except AFault (Bool × TaskSt) :=
  if s.isBad (.edge k.task (i / 64)) then .error (.memory (.edge k.task (i / 64)))
  else
    let old := byteAt t.edges (i / 8)
    let m : Byte := BitVec.ofNat 8 (2 ^ (i % 8))
    let w := i / 64 * 8
    let t1 := taskSign (taskLog t (undoRoom s k) (.edge w) (dwordAt t.edges w)) (leBytes 4 i ++ d1 (b2n b))
    .ok (old.getLsbD (i % 8), { t1 with edges := putByte t.edges (i / 8) (if b then old ||| m else old &&& ~~~m) })

/-! ## Timer and counter records -/

/-- The byte address of a T-format operand: ALIGN for an odd word offset, then RANGE, then MEMORY (R56, R68). -/
def recordAddr (s : State) (k : TaskRec) (idx : Nat) : Except AFault Nat :=
  if idx % 2 = 1 then .error .align
  else if k.dataSize < idx * 8 + 16 then .error .range
  else if s.isBad (dataPlace k (idx * 8)) then .error (.memory (dataPlace k (idx * 8)))
  else if s.isBad (dataPlace k (idx * 8 + 8)) then .error (.memory (dataPlace k (idx * 8 + 8)))
  else .ok (idx * 8)

/-- A timer record (R63). -/
structure TimerRec where
  start : DWord
  preset : Nat
  q : Bool
  run : Bool
  inp : Bool
deriving DecidableEq, Repr

def timerAt (t : TaskSt) (a : Nat) : TimerRec :=
  let f := byteAt t.data (a + 12)
  ⟨dwordAt t.data a, leVal (bytesAt t.data (a + 8) 4), f.getLsbD 0, f.getLsbD 1, f.getLsbD 2⟩

def TimerRec.bytes (x : TimerRec) : List Byte :=
  leBytes 8 x.start.toNat ++ leBytes 4 x.preset ++ leBytes 4 (b2n x.q + 2 * b2n x.run + 4 * b2n x.inp)

/-- Elapsed ticks since START at cycle start `c` (R63). -/
def TimerRec.elapsed (x : TimerRec) (c : DWord) : Nat := (c - x.start).toNat

/-- The on-delay timer (R64). -/
def timerOn (x : TimerRec) (c : DWord) (b : Bool) : TimerRec :=
  if b then
    let x := if x.run then x else { x with start := c, run := true }
    { x with q := decide (x.preset ≤ x.elapsed c), inp := b }
  else { x with run := false, q := false, inp := b }

/-- The off-delay timer (R64). -/
def timerOff (x : TimerRec) (c : DWord) (b : Bool) : TimerRec :=
  if b then { x with q := true, run := false, inp := b }
  else
    let x := if x.inp then { x with start := c, run := true } else x
    let x := if x.run then
        let q := decide (x.elapsed c < x.preset)
        { x with q := q, run := q }
      else x
    { x with inp := b }

/-- The pulse timer (R64). -/
def timerPulse (x : TimerRec) (c : DWord) (b : Bool) : TimerRec :=
  let x := if b && !x.inp && !x.run then { x with start := c, run := true } else x
  let x := if x.run then
      let q := decide (x.elapsed c < x.preset)
      { x with q := q, run := q }
    else x
  { x with inp := b }

/-- A counter record (R66). -/
structure CounterRec where
  count : Int
  preset : Int
  inp : Bool
deriving DecidableEq, Repr

def counterAt (t : TaskSt) (a : Nat) : CounterRec :=
  ⟨signed 32 (leVal (bytesAt t.data a 4)), signed 32 (leVal (bytesAt t.data (a + 4) 4)),
   (byteAt t.data (a + 8)).getLsbD 0⟩

def CounterRec.bytes (x : CounterRec) : List Byte :=
  leBytes 4 (BitVec.ofInt 32 x.count).toNat ++ leBytes 4 (BitVec.ofInt 32 x.preset).toNat ++
    leBytes 4 (b2n x.inp) ++ leBytes 4 0

/-- A count saturates at the ends of the signed 32-bit range (R66). -/
def count32 (v : Int) : Int :=
  if v < -2147483648 then -2147483648 else if 2147483647 < v then 2147483647 else v

/-! ## DRAM operands -/

/-- The base and the end of DRAM (R228). -/
def dramBase : Nat := 0x100000000
def dramEnd : Nat := 0x500000000

/-- What the region guard decides for a requester's access of `n` bytes from `a` (R241): none when allowed, else
the cause that GUARD_STATUS names (1 permission, 2 two regions or a boundary). -/
def guardJudge (s : State) (req a n : Nat) (write : Bool) : Option Nat :=
  let rs := ((List.range 32).map (fun r => s.region (req * 32 + r))).filter (fun r => r.en)
  let hit := rs.filter (fun r => decide (a < r.base + 2 ^ r.size) && decide (r.base < a + n))
  match hit with
  | [] => none
  | [r] =>
    if r.base ≤ a ∧ a + n ≤ r.base + 2 ^ r.size then
      (if (if write then r.w else r.r) then none else some 1)
    else some 2
  | _ => some 2

/-- Record a refused access (GUARD_STATUS, GUARD_FAULT). -/
def guardRefuse (s : State) (req a : Nat) (write : Bool) (cause : Nat) : State :=
  (((((s.setFld F.GUARD_STATUS.CAUSE cause).setFlag F.GUARD_STATUS.WRITE write).setFld
    F.GUARD_STATUS.REQ req).note F.GUARD_STATUS.REFUSED).setDword A.GUARD_FAULT_LO (BitVec.ofNat 64 a))

/-- What refuses an 8-byte DRAM access of a core, if anything (R59, R241): cause 3 outside DRAM. -/
def dramJudge (s : State) (core a : Nat) (write : Bool) : Option Nat :=
  if a < dramBase ∨ dramEnd < a + 8 then some 3 else guardJudge s core a 8 write

/-- The first uncorrectable word that bytes a to a+n−1 touch, if any (R231). -/
def addrBad (s : State) (a n : Nat) : Option MemPlace :=
  s.bad.find? (fun p => match p with
    | .addr w => decide (a / 8 ≤ w) && decide (w ≤ (a + n - 1) / 8)
    | _ => false)

end Sys2Proof.Machine
end

