-- ==== Sys2Proof/Machine/Capture.lean ====
section
/-! DEFINITION. Capture units (R192): their sources, and the stamp that a source's edge leaves in the units that select it. -/

namespace Sys2Proof.Machine

open Sys2Proof

/-- Whether a source code is one of R192. -/
def capSource (c : Nat) : Bool := decide (c ≤ 3) || (decide (0x20 ≤ c) && decide (c ≤ 0x5F)) || c == 0x80

/-- Whether a source lies outside the converters: a digital input or the partner's CLA line. The actual starts of the
converters are stamped as they happen. -/
def capOutside (c : Nat) : Bool := (decide (0x40 ≤ c) && decide (c ≤ 0x5F)) || c == 0x80

/-- Whether an edge is selected: 1 rising, 2 falling, 3 both. -/
def capEdge (e : Nat) (rising : Bool) : Bool := if rising then e % 2 == 1 else decide (2 ≤ e)

/-- A stamp in a capture unit; one that has not been read is overwritten (R192). -/
def stampUnit (s : State) (cap : Nat) (ns : DWord) (frac : Nat) : State :=
  let s := if s.flag (F.TIME_CAP_CTRL.NEW.item cap) then
      (s.note (F.TIME_CAP_CTRL.OVERRUN.item cap)).note F.TIME_EVENT.CAP_OVERRUN else s
  let s := (s.setDword (itemKey A.TIME_CAP_T_LO cap) ns).setFld (F.TIME_CAP_T_FRAC.FRAC.item cap) frac
  s.note (F.TIME_CAP_CTRL.NEW.item cap)

/-- The actual start of a converter is stamped in every unit whose source it is; a start counts as a rising edge (R192, R262;
DESIGN CHOICE, log entry 167). -/
def stampStart (s : State) (source : Nat) (ns : DWord) : State :=
  (List.range 32).foldl (fun s cap =>
    if s.fld (F.TIME_CAP_CTRL.SOURCE.item cap) = source && capEdge (s.fld (F.TIME_CAP_CTRL.EDGE.item cap)) true then
      stampUnit s cap ns 0 else s) s

/-- The filter time of a digital input in ns (R288). -/
def filterNs (s : State) (c : Nat) : Nat :=
  match s.fld (F.DIO_CH_CFG.FILT.item c) with
  | 0 => 0 | 1 => 10000 | 2 => 100000 | 3 => 1000000 | _ => 3000000

/-- The delay that a source's stamp has: of a digital input its filter's (R192, R288; the other fixed delays are log entry
116). -/
def captureDelay (s : State) (source : Nat) : Nat :=
  if 0x40 ≤ source ∧ source ≤ 0x5F then filterNs s (source - 0x40) else 0

end Sys2Proof.Machine
end

