-- ==== Sys2Proof/Machine/Analogue.lean ====
section
/-! DEFINITION. The universal analogue channels (R259 to R264, R276 to R283): integrations, input items, alarm
bands, outputs with their straps, and the HART modems. -/

namespace Sys2Proof.Machine

open Sys2Proof

/-- The mode of a channel (R261). -/
def anaMode (s : State) (c : Nat) : Nat := s.fld (F.ANA_CH_CFG.MODE.item c)
/-- Whether a channel is built for a fast converter. -/
def anaFast (s : State) (c : Nat) : Bool := s.flag (F.ANA_CH_CFG.CONV.item c)
/-- Whether the channel's group is powered (R259). -/
def anaOn (s : State) (c : Nat) : Bool := s.domOn (48 + c / 8)
/-- Mode and converter of a channel: a change of either makes the channel begin anew. -/
def anaKind (s : State) (c : Nat) : Nat := getBits (s.reg (itemKey A.ANA_CH_CFG c)) 4 0
/-- Whether a channel is a current input (R276). -/
def isCurrentIn (m : Nat) : Bool := m == 3 || m == 4
/-- Whether a channel drives its terminal (R261). -/
def isOutput (m : Nat) : Bool := m == 6 || m == 7

/-- Decimal exponent of a thousandth of the trim unit: pA and pV 12, nV 9, µΩ 6 (R284). -/
def unitExp (m : Nat) : Nat := if m = 1 ∨ m = 7 then 9 else if m = 5 then 6 else 12

/-- The range of a mode in thousandths of its trim unit (R261). -/
def anaRange (m : Nat) : Int × Int :=
  match m with
  | 1 | 7 => (-10000000000, 10000000000)
  | 2 => (-100000000000, 100000000000)
  | 3 | 4 => (0, 24000000000)
  | 5 => (0, 4000000000)
  | 6 => (0, 23000000000)
  | _ => (0, 0)

/-- The span of a mode in its trim unit (R261, R284). -/
def anaSpan (m : Nat) : Nat :=
  match m with
  | 1 | 7 => 20000000
  | 2 => 200000000
  | 3 | 4 | 6 => 24000000
  | 5 => 4000000
  | _ => 0

/-- The zero Z of a channel's trim (R284). -/
def trimZ (s : State) (c : Nat) : Int := (s.reg (itemKey A.ANA_CH_TRIM_Z c)).toInt
/-- The gain deviation g of a channel's trim (R284). -/
def trimG (s : State) (c : Nat) : Int := (s.reg (itemKey A.ANA_CH_TRIM_G c)).toInt

/-- A raw value n/d (thousandths) trimmed: (raw − Z) × G, as a numerator over d × 10^9 (R284). -/
def trimmed (s : State) (c : Nat) (n : Int) (d : Nat) : Int × Nat :=
  ((n - 1000 * trimZ s c * d) * (1000000000 + trimG s c), d * 1000000000)

/-- A ratio held to a range; the second result tells whether it was outside (R261). -/
def clampRatio (r : Int × Nat) (lo hi : Int) : (Int × Nat) × Bool :=
  if r.1 < lo * r.2 then ((lo, 1), true) else if hi * r.2 < r.1 then ((hi, 1), true) else (r, false)

/-- A ratio of thousandths of the trim unit in SI units as binary64, rounded once (log entry 26). -/
def siOf (m : Nat) (r : Int × Nat) : DWord := f64OfRatio r.1 (r.2 * 10 ^ unitExp m)

/-- The integer square root by its bits, from bit `k` down. -/
def sqrtBits (n : Nat) : Nat → Nat → Nat
  | 0, r => r
  | k + 1, r => sqrtBits n k (if (r + 2 ^ k) * (r + 2 ^ k) ≤ n then r + 2 ^ k else r)

/-- The root mean square of numerators over a denominator, to 80 bits and a bit for the rest, so that one rounding gives
binary64 (R260, log entry 12). -/
def rmsRatio (vs : List Int) (d : Nat) : Int × Nat :=
  let q := (vs.foldl (fun a v => a + v.natAbs * v.natAbs) 0) * 4 ^ 80
  let n := q / vs.length
  let r := sqrtBits n (n.log2 / 2 + 1) 0
  (((2 * r + b2n (r * r * vs.length != q) : Nat) : Int), d * 2 ^ 81)

/-! ## Alarm bands (R276) -/

/-- The upper bounds of the bands 0 to 5 in pA; a current on a bound belongs below it, but for OPEN and BAND_LOW. -/
def bandOf (r : Int × Nat) : Nat :=
  let i := r.1
  let d : Int := r.2
  if i < 500000000 * d then 0
  else if i ≤ 3600000000 * d then 1
  else if i < 3800000000 * d then 2
  else if i ≤ 20500000000 * d then 3
  else if i < 21000000000 * d then 4
  else if i ≤ 23500000000 * d then 5
  else 6

/-- The lower and upper edge of a band in pA. -/
def bandEdges (b : Nat) : Int × Int :=
  match b with
  | 0 => (-1000000000000, 500000000) | 1 => (500000000, 3600000000) | 2 => (3600000000, 3800000000)
  | 3 => (3800000000, 20500000000) | 4 => (20500000000, 21000000000) | 5 => (21000000000, 23500000000)
  | _ => (23500000000, 1000000000000)

/-- The band after a result: it is left only when the current lies at least 0.05 mA inside the neighbouring band.
Without NE 43 only the first and the last row apply. -/
def nextBand (ne43 : Bool) (b : Nat) (r : Int × Nat) : Nat :=
  let n := bandOf r
  let d : Int := r.2
  if ne43 then
    if n = b then b
    else if b < n then (if ((bandEdges b).2 + 50000000) * d ≤ r.1 then n else b)
    else if r.1 ≤ ((bandEdges b).1 - 50000000) * d then n else b
  else
    let n := if n = 0 then 0 else if n = 6 then 6 else 3
    let b := if b = 0 ∨ b = 6 then b else 3
    if n = b then b
    else if b = 0 then (if 550000000 * d ≤ r.1 then n else b)
    else if b = 6 then (if r.1 ≤ 23450000000 * d then n else b)
    else if n = 0 then (if r.1 ≤ 450000000 * d then n else b)
    else if 23550000000 * d ≤ r.1 then n else b

/-- The band of a channel after a result: its first result since the image start takes the row of the table that it lies
in (R276); a channel that is no current input stays at 3. -/
def judgeBand (s : State) (c : Nat) (r : Int × Nat) : Nat :=
  let a := s.anaCh c
  let ne43 := s.flag (F.ANA_CH_CFG.NE43.item c)
  if !isCurrentIn (anaMode s c) then 3
  else if a.raws.isEmpty then
    let n := bandOf r
    if ne43 || n == 0 || n == 6 then n else 3
  else nextBand ne43 a.band r

/-- A band as the channel's levels know it: without NE 43 only the first and the last row stand beside the measured range
(R276). -/
def bandUnder (s : State) (c b : Nat) : Nat :=
  if b = 0 ∨ b = 6 ∨ s.flag (F.ANA_CH_CFG.NE43.item c) then b else 3

/-- Show the band of a channel in ANA_CH_STATUS (R276). -/
def showBand (s : State) (c b : Nat) : State :=
  [(F.ANA_CH_STATUS.OPEN, 0), (F.ANA_CH_STATUS.FAIL_LOW, 1), (F.ANA_CH_STATUS.BAND_LOW, 2),
   (F.ANA_CH_STATUS.BAND_HIGH, 4), (F.ANA_CH_STATUS.FAIL_HIGH, 5), (F.ANA_CH_STATUS.SHORT, 6)].foldl
    (fun s e => s.setFlag (e.1.item c) (e.2 == b)) s

/-! ## Integrations -/

/-- A start reaches a precision converter at an instant (R262, R264): not performed while the reference is not ready, discarded
while it integrates, else stamped. -/
def anaStart (s : State) (c : Nat) (t : DWord) : State :=
  let a := s.anaCh c
  if anaMode s c = 0 ∨ anaFast s c ∨ anaOn s c = false then s
  else if s.flag F.CONV_REF_STATUS.READY = false then
    (s.note F.CONV_EVENT.REF_NOT_READY).setAna c { a with lost := countUp 255 a.lost 1 }
  else if a.integrating then s.note F.CONV_EVENT.START_LOST
  else stampStart (s.setAna c { a with integrating := true }) (0x20 + c) t

/-- Half of the integration time in ns (R262). -/
def halfTime (s : State) (c : Nat) : Nat :=
  match s.fld (F.ANA_CH_CFG.INT_T.item c) with
  | 0 => 10000000 | 1 => 8333500 | 2 => 50000000 | _ => 500000

/-- A precision result: trimmed, limited to the range, judged by band (R261, R263, R276, R284). -/
def takeResult (s : State) (c : Nat) (r : Integration) : State :=
  let a := s.anaCh c
  let m := anaMode s c
  let t := if isOutput m then (r.raw, 1) else trimmed s c r.raw 1
  let (v, out) := clampRatio t (anaRange m).1 (anaRange m).2
  let b := judgeBand s c t
  let res : AnaRes := ⟨siOf m v, r.mid, r.mid + BitVec.ofNat 64 (halfTime s c), r.noCompliance, b⟩
  let s := s.setAna c { a with next := some res, raws := (r.raw :: a.raws).take 16, lost := 0, band := b,
                               integrating := false }
  let s := s.setFlag (F.ANA_CH_STATUS.OVERRANGE.item c) out
  let s := if isCurrentIn m then showBand s c b
    else if m = 5 then s.setFlag (F.ANA_CH_STATUS.OPEN.item c) r.noCompliance else s
  if m = 6 then s.setFlag (F.ANA_CH_STATUS.OPEN_LOAD.item c) r.noCompliance else s

/-- INTEGRATION_END: the result of a running integration, and the next start of a free-running converter 20 µs
later (R262, R263). -/
def execIntegrationEnd (ch : Nat) (r : Integration) (s : State) : Host.Outcome State Fault Refusal :=
  if (s.anaCh ch).integrating then
    let s := takeResult s ch r
    let t := r.mid + BitVec.ofNat 64 (halfTime s ch + 20000)
    .next (if s.fld (F.ANA_CH_CFG.ISTART.item ch) = 0 then anaStart s ch t else s)
  else .next s

/-- Discard the integrations in progress (R264): starts that produce no result (R263). -/
def discardIntegrations (s : State) : State :=
  (List.range 32).foldl (fun s c =>
    let a := s.anaCh c
    if a.integrating then s.setAna c { a with integrating := false, lost := countUp 255 a.lost 1 } else s) s

/-- CONV_REF_CTRL.EN takes a value (R264): on starts the warm-up of 48,000 ticks, off clears READY at once and
discards integrations. The register is forwarded; this is its effect on each module. -/
def setReference (s : State) (on : Bool) : State :=
  let was := s.flag F.CONV_REF_CTRL.EN
  let s := s.setFlag F.CONV_REF_CTRL.EN on
  if on = was then s
  else if on then s.setFld F.CONV_REF_STATUS.WARM 48000
  else discardIntegrations ((s.setFlag F.CONV_REF_STATUS.READY false).setFld F.CONV_REF_STATUS.WARM 0)

/-- Start every free-running converter that is idle (R262). -/
def freeRunStarts (s : State) : State :=
  (List.range 32).foldl (fun s c =>
    if s.fld (F.ANA_CH_CFG.ISTART.item c) = 0 && !(s.anaCh c).integrating then anaStart s c s.now else s) s

/-- WARM_UP_END: the warm-up of an enabled reference ends, READY becomes 1 (R264). -/
def execWarmUpEnd (s : State) : Host.Outcome State Fault Refusal :=
  if s.flag F.CONV_REF_CTRL.EN && !s.flag F.CONV_REF_STATUS.READY then
    .next (freeRunStarts ((s.setFld F.CONV_REF_STATUS.WARM 0).setFlag F.CONV_REF_STATUS.READY true))
  else .next s

/-! ## Input items -/

/-- A newer result is taken at an edge that lies at least 5 µs after its integration (R263). -/
def adoptResult (s : State) (edge : DWord) (c : Nat) : State :=
  let a := s.anaCh c
  match a.next with
  | none => s
  | some r => if 5000 ≤ sdiff edge r.endNs then s.setAna c { a with cur := some r, next := none } else s

/-- Item 0 (R100, R260, R263, R276, R277, R279). -/
def anaValue (s : State) (c : Nat) (sub : DWord) : Slot :=
  let a := s.anaCh c
  let m := anaMode s c
  match a.cur with
  | none =>
    if a.modeNew && !s.flag (F.ANA_CH_STATUS.STRAP_MISMATCH.item c) then ⟨sub, .substitute⟩ else badSlot sub
  | some r =>
    if isCurrentIn m && [0, 1, 5, 6].contains (bandUnder s c r.band) then badSlot sub
    else if 8 ≤ a.lost then badSlot sub
    else if r.noCompliance || s.flag (F.ANA_CH_STATUS.STRAP_MISMATCH.item c) ||
            (!anaFast s c && !isOutput m && s.flag F.CONV_REF_STATUS.FAIL) then ⟨r.value, .bad⟩
    else if 0 < a.lost then ⟨r.value, .stale⟩
    else ⟨r.value, .good⟩

/-- An input item of a channel at an edge (R260); `sub` is the substitute of its signal. The quality SUBSTITUTE of R100, after
a switch that changed the mode, is item 0's; items 3 to 7 have no conversion to tell of and are BAD (DESIGN CHOICE, log entry
160). -/
def anaItem (s : State) (c item : Nat) (sub : DWord) : Slot :=
  let a := s.anaCh c
  if anaOn s c = false then badSlot sub
  else if item = 0 then anaValue s c sub
  else if item = 2 then ⟨(s.reg (itemKey A.ANA_CH_STATUS c)).setWidth 64, .good⟩
  else if item = 3 then
    match a.cur with
    | none => badSlot sub
    | some r => ⟨r.instant, .good⟩
  else if 4 ≤ item ∧ item ≤ 7 then
    if anaFast s c then
      match a.stats[item - 4]? with
      | none => badSlot sub
      | some v => ⟨v, .good⟩
    else badSlot 0
  else if 8 ≤ item ∧ item < 48 then
    if s.flag (F.ANA_CH_CFG.HART.item c) then (getAt (item - 8) a.hart).getD (badSlot sub) else badSlot 0
  else badSlot sub

/-! ## Outputs -/

/-- The strap code of a channel (R278). -/
def strapCode (s : State) (c : Nat) : Nat :=
  let w := s.reg (if c < 16 then A.ANA_STRAP0 else A.ANA_STRAP1)
  getBits w (2 * (c % 16) + 1) (2 * (c % 16))

/-- The fail value of an output channel as binary64 (R278): 0 mA, 3.2 mA, 22.0 mA, 0 mA; 0 V in VOUT. -/
def failValue (s : State) (c : Nat) : DWord :=
  if anaMode s c = 7 then 0
  else match strapCode s c with
    | 1 => f64OfRatio 32 10000
    | 2 => f64OfRatio 22 1000
    | _ => 0

/-- Read the straps of the terminal blocks: STRAP_FAULT and STRAP_MISMATCH of the current outputs, one record for a
new mismatch (R278, R279). -/
def readStraps (s : State) (codes : List Nat) : State :=
  (List.range 32).foldl (fun s c =>
    let a := if c < 16 then A.ANA_STRAP0 else A.ANA_STRAP1
    let code := codes.getD c 0 % 4
    let s := s.setReg a (setBits (s.reg a) (2 * (c % 16) + 1) (2 * (c % 16)) code)
    if anaMode s c = 6 then
      let bad := code != s.fld (F.ANA_CH_CFG.FAIL_EXP.item c)
      let was := s.flag (F.ANA_CH_STATUS.STRAP_MISMATCH.item c)
      let s := s.setFlag (F.ANA_CH_STATUS.STRAP_FAULT.item c) (code == 3)
      let s := s.setFlag (F.ANA_CH_STATUS.STRAP_MISMATCH.item c) bad
      if bad && !was then s.raise 10 1 c (d1 code ++ d1 (s.fld (F.ANA_CH_CFG.FAIL_EXP.item c))) else s
    else s) s

/-- The current outputs whose strap disagrees (R279). -/
def strapsDisagree (s : State) : List Nat := (List.range 32).filter (fun c => s.flag (F.ANA_CH_STATUS.STRAP_MISMATCH.item c))

/-- An output value in SI units as a ratio of thousandths of the trim unit. -/
def thousandths (m : Nat) (v : DWord) : Int × Nat := (fInt v * 10 ^ unitExp m, 2 ^ 1074)

/-- The value that a channel drives for an item value: limited to the range, then (v − Z) × G (R277, R284); the
second result tells the limiting. A NaN drives a free value. -/
def driveOf (s : State) (c : Nat) (v : DWord) : DWord × Bool :=
  let m := anaMode s c
  if fIsNaN v then (Config.nanDrive c v, false)
  else
    let r := if fIsInf v then ((if fSign v then (anaRange m).1 - 1 else (anaRange m).2 + 1), 1) else thousandths m v
    let (r, out) := clampRatio r (anaRange m).1 (anaRange m).2
    (siOf m (trimmed s c r.1 r.2), out)

/-- Drive a terminal. -/
def driveTerminal (s : State) (c : Nat) (v : DWord) : State := s.emit (.analogue c v)

/-- Show CLAMPED and WARN of an output (R277). -/
def showDrive (s : State) (c : Nat) (clamped warn : Bool) : State :=
  (s.setFlag (F.ANA_CH_STATUS.CLAMPED.item c) clamped).setFlag (F.ANA_CH_STATUS.WARN.item c) warn

/-- An output at its fail value: no value is limited and none is applied (R277, R278). -/
def driveFail (s : State) (c : Nat) : State := driveTerminal (showDrive s c false false) c (failValue s c)

/-- The point that a trim of an output drives: none before its first step (R285). -/
def trimDriven (s : State) (t : TrimSt) : Option Int :=
  match s.fld F.ANA_TRIM_STATUS.STATE with
  | 2 => some t.appliedL
  | 3 => some t.appliedH
  | _ => none

/-- Apply a channel's output at an edge (R277 to R279, R33, R285); `held` lists the channels that a strap held at their fail
values up to this edge. -/
def applyOutput (held : List Nat) (s : State) (c : Nat) : State :=
  let a := s.anaCh c
  let m := anaMode s c
  if isOutput m = false ∨ anaOn s c = false then s
  else if s.running = false ∨ held.contains c ∨ s.flag (F.ANA_CH_STATUS.STRAP_MISMATCH.item c) then driveFail s c
  else match s.trim with
    | some t =>
      if t.ch = c ∧ s.fld F.ANA_TRIM_STATUS.STATE ≠ 0 then
        match trimDriven s t with
        | none => s
        | some v => driveTerminal (showDrive s c false false) c (siOf m (1000 * v, 1))
      else applyItem a
    | none => applyItem a
where
  applyItem (a : AnaSt) : State :=
    match localOutput s 0 (64 * c + 1) with
    | none => s
    | some x =>
      match x.q with
      | .bad =>
        if a.heldOne then driveFail s c
        else (s.setFlag (F.ANA_CH_STATUS.WARN.item c) false).setAna c { a with heldOne := true }
      | q =>
        let (v, out) := driveOf s c x.val
        let s := showDrive s c out (q == .stale)
        driveTerminal (s.setAna c { a with heldOne := false, applied := v }) c v

/-! ## HART (R281 to R283) -/

/-- The devices of a channel's poll list: those that SIGNAL records name (log entry 27). -/
def hartDevices (s : State) (c : Nat) : List Nat :=
  (List.range 8).filter (fun d => (localSignals s 0 false).any (fun g =>
    hPoint g.handle / 64 == c && decide (8 + 5 * d ≤ hPoint g.handle % 64) && decide (hPoint g.handle % 64 < 13 + 5 * d)))

/-- One round of modem g: every listed device of its group's HART channels (R281). -/
def hartRound (s : State) (g : Nat) : List (Nat × Nat) :=
  ((List.range 8).filter (fun i => s.flag (F.ANA_CH_CFG.HART.item (8 * g + i)) && isCurrentIn (anaMode s (8 * g + i)))).flatMap
    (fun i => (hartDevices s (8 * g + i)).map (fun d => (8 * g + i, d)))

/-- The frame in ANA_HART_BUF of a modem: its LEN bytes, from the delimiter to the last data byte (R283). -/
def hartBuf (s : State) (g : Nat) : List Byte :=
  ((List.range 64).flatMap (fun w => leBytes 4 (s.reg (itemKey (A.ANA_HART_BUF + 4 * w) g)).toNat)).take
    (s.fld (F.ANA_HART_PT.LEN.item g))

/-- A HART frame with its preambles and its check byte, the exclusive or from the delimiter on (PRESUMED from HART 7, log entry
173). -/
def hartFrame (bs : List Byte) : List Byte := List.replicate 5 0xFF ++ bs ++ [bs.foldl (fun a b => a ^^^ b) 0]

/-- The pass-through frame of a modem leaves on the channel that ANA_HART_PT names (R283). -/
def sendPassThrough (s : State) (g : Nat) : State :=
  s.emit (.hart (8 * g + s.fld (F.ANA_HART_PT.CH.item g)) (hartFrame (hartBuf s g)))

/-- The poll of the device at a modem's place in its round (R281): command 0 until the device is identified, command 3 after;
module A polls as primary master. -/
def sendPoll (s : State) (g : Nat) : State :=
  match (hartRound s g)[(s.modem g).pos]? with
  | none => s
  | some (c, d) =>
    if s.domOn (48 + g) then
      s.emit (.hartPoll c (s.parity == 0) d (if (s.anaCh c).hartIdent.contains d then 3 else 0))
    else s

/-- The modems begin their rounds at an image start: every device is due command 0 (R281). -/
def startRounds (s : State) : State :=
  let s := (List.range 32).foldl (fun s c => s.setAna c { s.anaCh c with hartIdent := [] }) s
  (List.range 4).foldl (fun s g =>
    let s := s.setModem g { s.modem g with pos := 0, tries := 0 }
    if (s.modem g).ptRunning then s else sendPoll s g) s

/-- A transaction of a modem ends: a pending pass-through runs next, else the next device of the round (R281,
R283). -/
def hartNext (s : State) (g : Nat) (advance : Bool) : State :=
  let m := s.modem g
  let n := (hartRound s g).length
  let pos := if advance then (if n = 0 then 0 else (m.pos + 1) % n) else m.pos
  let m := { m with pos := pos, tries := 0, ptRunning := false }
  if m.ptPending then
    sendPassThrough (s.setModem g { m with ptPending := false, ptRunning := true }) g
  else sendPoll (s.setModem g m) g

/-- HART_ERR of a channel: a device has failed three polls (R282). -/
def hartErr (s : State) (c : Nat) : State :=
  s.setFlag (F.ANA_CH_STATUS.HART_ERR.item c) ((s.anaCh c).hartFails.any (fun e => decide (3 ≤ e.2)))

/-- A failed poll: its items go STALE, after three the device's items hold their substitutes and command 0 is due
again (R281, R282). -/
def hartFailed (s : State) (c d : Nat) : State :=
  let a := s.anaCh c
  let n := min 255 ((getAt d a.hartFails).getD 0 + 1)
  let mine := fun (i : Nat) => decide (5 * d ≤ i) && decide (i < 5 * d + 5)
  let items := if 3 ≤ n then a.hart.filter (fun e => !mine e.1)
    else a.hart.map (fun e => if mine e.1 then (e.1, { e.2 with q := .stale }) else e)
  let ident := if 3 ≤ n then a.hartIdent.filter (fun x => x != d) else a.hartIdent
  hartErr (s.setAna c { a with hartFails := putAt d n a.hartFails, hart := items, hartIdent := ident }) c

/-- Whether a reply is a good one: its check is right and its response code reports no communication error, which is bit 7
(R282; PRESUMED from HART 7, log entry 173). -/
def hartOk (r : HartReply) : Bool := r.checkOk && !r.response.getLsbD 7

/-- Item v = 4: the field device status above the extended status byte (R282; log entry 173). -/
def hartStatus (r : HartReply) : Nat := 256 * r.deviceStatus.toNat + r.extendedStatus.toNat

/-- The device-malfunction bit, bit 7 of the field device status (R282; PRESUMED from HART 7, log entry 173). -/
def hartMalfunction (r : HartReply) : Bool := r.deviceStatus.getLsbD 7

/-- A good poll (R282): command 0 identifies the device, command 3 updates its five items. -/
def hartGood (s : State) (c d : Nat) (r : HartReply) : State :=
  let a := s.anaCh c
  let q : Quality := if hartMalfunction r then .bad else .good
  let vals := (List.range 4).map (fun v => widen32 (r.values.getD v 0).toNat) ++ [(fOfInt (hartStatus r)).val]
  let items := if a.hartIdent.contains d then
      (List.range 5).foldl (fun m v => putAt (5 * d + v) ⟨vals.getD v 0, q⟩ m) a.hart
    else a.hart
  let ident := if a.hartIdent.contains d then a.hartIdent else d :: a.hartIdent
  hartErr (s.setAna c { a with hartFails := putAt d 0 a.hartFails, hart := items, hartIdent := ident }) c

/-- An attempt of the running transaction fails: two retries, then a failed poll (R281, R282). -/
def hartAttemptFailed (s : State) (g : Nat) : State :=
  let m := s.modem g
  match (hartRound s g)[m.pos]? with
  | none => s
  | some (c, d) =>
    if m.tries < 2 then sendPoll (s.setModem g { m with tries := m.tries + 1 }) g
    else hartNext (hartFailed s c d) g true

/-- The end of a pass-through: its result code, BUSY off, the modem goes on (R283). -/
def passThroughEnd (s : State) (g code : Nat) : State :=
  hartNext ((s.setFld (F.ANA_HART_PT.RESULT.item g) code).setFlag (F.ANA_HART_PT.BUSY.item g) false) g false

/-- Put reply bytes into ANA_HART_BUF of a modem (R283). -/
def setHartBuf (s : State) (g : Nat) (bs : List Byte) : State :=
  (List.range 64).foldl (fun s w => s.setReg (itemKey (A.ANA_HART_BUF + 4 * w) g) (BitVec.ofNat 32 (leAt bs (4 * w) 4)))
    (s.setFld (F.ANA_HART_PT.LEN.item g) bs.length)

/-- HART_REPLY (R282, R283). -/
def execHartReply (g : Nat) (r : HartReply) (s : State) : Host.Outcome State Fault Refusal :=
  let m := s.modem g
  if m.ptRunning then
    .next (if r.checkOk then passThroughEnd (setHartBuf s g r.raw) g rcOk else passThroughEnd s g rcCheck)
  else if hartOk r then
    match (hartRound s g)[m.pos]? with
    | none => .next s
    | some (c, d) => .next (hartNext (hartGood s c d r) g true)
  else .next (hartAttemptFailed s g)

/-- HART_POLL_TIMEOUT (R281, R282). -/
def execHartPollTimeout (g : Nat) (s : State) : Host.Outcome State Fault Refusal :=
  if (s.modem g).ptRunning then .next s else .next (hartAttemptFailed s g)

/-- A write of ANA_HART_PT (R283): with GO it queues one frame for the modem it names, or shows BUSY and writes
nothing while one is pending there. -/
def writeHartPt (s : State) (v : Word) : State :=
  let g := getBits v 3 2
  let len := clamp 1 255 (getBits v 15 8)
  let go := bit v 0
  if go && s.flag (F.ANA_HART_PT.BUSY.item g) then s.setFld (F.ANA_HART_PT.RESULT.item g) rcBusy
  else
    let s := s.setFld F.ANA_HART_PT.MODEM g
    let s := (s.setFld (F.ANA_HART_PT.CH.item g) (getBits v 18 16)).setFld (F.ANA_HART_PT.LEN.item g) len
    if go then
      let m := s.modem g
      let s := s.setFlag (F.ANA_HART_PT.BUSY.item g) true
      if (hartRound s g).isEmpty then
        sendPassThrough (s.setModem g { m with ptRunning := true }) g
      else s.setModem g { m with ptPending := true }
    else s

/-- PASS_THROUGH: a write of ANA_HART_PT (R283). -/
def execPassThrough (v : Word) (s : State) : Host.Outcome State Fault Refusal := .next (writeHartPt s v)

/-- PASS_THROUGH_TIMEOUT (R283). -/
def execPassThroughTimeout (g : Nat) (s : State) : Host.Outcome State Fault Refusal :=
  if (s.modem g).ptRunning then .next (passThroughEnd s g rcTimeout) else .next s

end Sys2Proof.Machine
end

