-- ==== Sys2Proof/Machine/Trim.lean ====
section
/-! DEFINITION. Zero and span trim of the analogue channels (R284, R285). -/

namespace Sys2Proof.Machine

open Sys2Proof

/-- Bytes of the retained area per unit (R234). -/
def retUnitBytes : Nat := 56

/-- Write bytes of the retained area; the units they touch are due for the next snapshot (R234). -/
def retainedPut (s : State) (a : Nat) (bs : List Byte) : State :=
  let us := (List.range bs.length).map (fun i => (a + i) / retUnitBytes)
  { s with retained := putBytes s.retained a bs, retDirty := us.foldl (fun d u => insertSorted u d) s.retDirty }.markPages
    ((List.range bs.length).map (fun i => Config.statePage 1 ((a + i) / 4096)))

/-- A channel's trim in the table and in its registers (R284): 8 bytes per channel, Z then g. -/
def setTrim (s : State) (c : Nat) (z g : Int) : State :=
  let zb := BitVec.ofInt 32 z
  let gb := BitVec.ofInt 32 g
  let s := (s.setReg (itemKey A.ANA_CH_TRIM_Z c) zb).setReg (itemKey A.ANA_CH_TRIM_G c) gb
  retainedPut s (8 * c) (leBytes 4 zb.toNat ++ leBytes 4 gb.toNat)

/-- Load the registers from the trim table (R284). -/
def loadTrims (s : State) : State :=
  (List.range 32).foldl (fun s c =>
    (s.setReg (itemKey A.ANA_CH_TRIM_Z c) (BitVec.ofNat 32 (leVal (bytesAt s.retained (8 * c) 4)))).setReg
      (itemKey A.ANA_CH_TRIM_G c) (BitVec.ofNat 32 (leVal (bytesAt s.retained (8 * c + 4) 4)))) s

/-- The result code of a step. -/
def trimResult (s : State) (code : Nat) : State := s.setFld F.ANA_TRIM_STATUS.RESULT code

/-- The end of a trim: STATE 0, the channel returns to normal service (R285). -/
def trimEnd (s : State) (code : Nat) : State :=
  trimResult ({ s with trim := none }.setFld F.ANA_TRIM_STATUS.STATE 0) code

/-- ANA_TRIM_REF and ANA_TRIM_OBS, in the trim unit. -/
def trimRef (s : State) : Int := (s.reg A.ANA_TRIM_REF).toInt
def trimObs (s : State) : Int := (s.reg A.ANA_TRIM_OBS).toInt

/-- The mean of a channel's last 16 results in the trim unit, rounded with ties away from zero (R284): none before there are
16. -/
def trimMean (s : State) (c : Nat) : Option Int :=
  let rs := (s.anaCh c).raws
  if rs.length < 16 then none else some (roundAway (rs.foldl (· + ·) 0) (1000 * rs.length))

/-- An output channel drives the trim point (R285); outside the running states and where its strap disagrees the fail value
stays (R277, R279). -/
def driveTrim (s : State) (c : Nat) : State :=
  if s.running && anaOn s c && !s.flag (F.ANA_CH_STATUS.STRAP_MISMATCH.item c) then driveTerminal s c (siOf (anaMode s c) (1000 * trimRef s, 1)) else s

/-- A point is taken: the applied and, for an input, the observed value (R284, R285). -/
def trimPoint (s : State) (t : TrimSt) (high : Bool) : State :=
  let ap := trimRef s
  let put := fun (s : State) (o : Int) =>
    { s with trim := some (if high then { t with appliedH := ap, observedH := o }
                           else { t with appliedL := ap, observedL := o }) }
  let done := fun (s : State) => trimResult (s.setFld F.ANA_TRIM_STATUS.STATE (if high then 3 else 2)) rcOk
  if isOutput (anaMode s t.ch) then done (driveTrim (put s 0) t.ch)
  else match trimMean s t.ch with
    | none => trimResult s rcState
    | some o => done ((put s o).setReg A.ANA_TRIM_OBS (BitVec.ofInt 32 o))

/-- The trim that two points give (R284): g = (G − 1) × 10^9 and Z, each rounded with ties away from zero; none when
either pair of points coincides. -/
def trimOf (al ol ah oh : Int) : Option (Int × Int) :=
  let da := ah - al
  let dO := oh - ol
  if da = 0 ∨ dO = 0 then none
  else
    let sg : Int := if dO < 0 then -1 else 1
    let sa : Int := if da < 0 then -1 else 1
    some (roundAway (sa * (ol * da - al * dO)) da.natAbs, roundAway (sg * (da - dO) * 1000000000) dO.natAbs)

/-- COMMIT (R284): beyond 1 % of span or 20,000,000 it is refused with CHECK and nothing is written. -/
def trimCommit (s : State) (t : TrimSt) : State :=
  match trimOf t.appliedL t.observedL t.appliedH t.observedH with
  | none => trimResult s rcCheck
  | some (z, g) =>
    if anaSpan (anaMode s t.ch) < 100 * z.natAbs ∨ 20000000 < g.natAbs then trimResult s rcCheck
    else trimEnd (setTrim s t.ch z g) rcOk

/-- A step on the trim in progress in STATE `st`. -/
def trimStepOn (s : State) (t : TrimSt) (st step : Nat) : State :=
  let out := isOutput (anaMode s t.ch)
  match step with
  | 1 => trimResult s rcState
  | 2 => if st = 1 then trimPoint s t false else trimResult s rcState
  | 3 =>
    if st = 2 then trimPoint s (if out then { t with observedL := trimObs s } else t) true
    else trimResult s rcState
  | 4 =>
    if st = 3 then trimCommit s (if out then { t with observedH := trimObs s } else t) else trimResult s rcState
  | 5 => trimEnd s rcOk
  | 6 => trimResult (setTrim s t.ch 0 0) rcOk
  | _ => s

/-- One step of a trim (ANA_TRIM_CTRL, R285): without a trim in progress only BEGIN has an effect. -/
def trimStep (s : State) (step ch : Nat) : State :=
  match s.trim with
  | some t => trimStepOn s t (s.fld F.ANA_TRIM_STATUS.STATE) step
  | none =>
    if step = 1 then
      let s := { s with trim := some ⟨ch, 0, 0, 0, 0⟩ }
      trimResult ((s.setFld F.ANA_TRIM_STATUS.STATE 1).setFld F.ANA_TRIM_STATUS.CH (ch % 8)) rcOk
    else if 2 ≤ step ∧ step ≤ 6 then trimResult s rcState
    else s

/-- A write of ANA_TRIM_CTRL: its KEY must be 0x96A5. -/
def writeTrim (s : State) (v : Word) : State :=
  if getBits v 31 16 = 0x96A5 then trimStep s (getBits v 2 0) (getBits v 12 8) else s

/-- BEGIN: a write of ANA_TRIM_CTRL (R285). -/
def execTrimBegin (v : Word) (s : State) : Host.Outcome State Fault Refusal := .next (writeTrim s v)
/-- LOW: a write of ANA_TRIM_CTRL (R285). -/
def execTrimLow (v : Word) (s : State) : Host.Outcome State Fault Refusal := .next (writeTrim s v)
/-- HIGH: a write of ANA_TRIM_CTRL (R285). -/
def execTrimHigh (v : Word) (s : State) : Host.Outcome State Fault Refusal := .next (writeTrim s v)
/-- COMMIT: a write of ANA_TRIM_CTRL (R284, R285). -/
def execTrimCommit (v : Word) (s : State) : Host.Outcome State Fault Refusal := .next (writeTrim s v)
/-- ABANDON: a write of ANA_TRIM_CTRL (R285). -/
def execTrimAbandon (v : Word) (s : State) : Host.Outcome State Fault Refusal := .next (writeTrim s v)
/-- CLEAR: a write of ANA_TRIM_CTRL (R285). -/
def execTrimClear (v : Word) (s : State) : Host.Outcome State Fault Refusal := .next (writeTrim s v)

/-- TRIM_TIMEOUT: 300 s without a step abandon the trim (R285). -/
def execTrimTimeout (s : State) : Host.Outcome State Fault Refusal :=
  .next (if s.trim.isSome then trimEnd s rcTimeout else s)

end Sys2Proof.Machine
end

