-- ==== Sys2Proof/Machine/Memory.lean ====
section
/-! DEFINITION. Memory as a transfer channel sees it (R228, R230 to R232, R239, R241), retained data (R234, R235), the
active guard sets (R242) and the scrubber (R236). -/

namespace Sys2Proof.Machine

open Sys2Proof

/-! ## The address map -/

/-- The four ranges of the address map (R228). -/
inductive MemKind where
  | sram | dram | mram | regs
deriving DecidableEq, Repr

@[reducible] def mramBase : Nat := 0x600000000
@[reducible] def regBase : Nat := 0x800000000

/-- The range that an address lies in, if any, and the end of that range (R228, R230). -/
def memRange (a : Nat) : Option (MemKind × Nat) :=
  if a < 0x4000000 then some (.sram, 0x4000000)
  else if dramBase ≤ a ∧ a < dramEnd then some (.dram, dramEnd)
  else if mramBase ≤ a ∧ a < mramBase + 0xE10000 then some (.mram, mramBase + 0xE10000)
  else if regBase ≤ a ∧ a < regBase + 0x1000000 then some (.regs, regBase + 0x1000000)
  else none

/-- Whether bytes a to a+n−1 touch MRAM that only its owners write: the journal or the system records (R230). -/
def ownedMram (a n : Nat) : Bool :=
  decide (a < mramBase + 0x400000 ∧ mramBase < a + n) ||
  decide (a < mramBase + 0xE10000 ∧ mramBase + 0xE00000 < a + n)

/-- What refuses a memory access of a requester, as GUARD_STATUS.CAUSE names it: an address that is not assigned, a
range past the end of its memory, a write to owned MRAM, the region guard (R228, R230, R239, R241). -/
def memJudge (s : State) (req a n : Nat) (write : Bool) : Option Nat :=
  match memRange a with
  | none => some 3
  | some (k, e) =>
    if e < a + n then some 3
    else if k = .mram ∧ write ∧ ownedMram a n then some 3
    else guardJudge s req a n write

/-- A record as MRAM keeps it, little-endian, and its CRC-32 (R3, R157, R227, R234). -/
def checkedRecord (bs : List Byte) : List Byte := bs ++ leBytes 4 (crc32 bs).toNat

/-- Whether a record of `n` bytes and a CRC-32 passes its check. -/
def recordPasses (n : Nat) (bs : List Byte) : Bool := bs.length == n + 4 && checkedRecord (bs.take n) == bs

/-- The footer of a retained copy: the low word of its snapshot tick and a CRC (R234, log entry 147); an invalidated footer is
blank. -/
def footerBytes (tick : Word) : List Byte := checkedRecord (leBytes 4 tick.toNat)

/-- The system records of MRAM: epoch record, active-bank record, session counter, JSEQ, OPNUM, retained footers (R230). -/
def systemRecords (s : State) : List (List Byte) :=
  [checkedRecord (leBytes 4 s.epoch), s.activeRec, leBytes 4 s.sessCtr.toNat, leBytes 8 s.jseq.toNat,
   leBytes 4 s.opnum.toNat, s.footA, s.footB]

/-- A byte of MRAM by offset (R230; where the system records stand is log entry 17). -/
def mramByte (s : State) (o : Nat) : Byte :=
  if o < 0x400000 then journalByte s o
  else if o < 0xE00000 then byteAt s.mem (mramBase + o)
  else Config.systemRecordByte o (systemRecords s)

/-- A byte of memory. -/
def memByte (s : State) (a : Nat) : Byte :=
  if mramBase ≤ a ∧ a < mramBase + 0x1000000 then mramByte s (a - mramBase) else byteAt s.mem a

/-- Read memory: an uncorrectable word among those touched gives an error in place of data (R231, R253). -/
def readMem (s : State) (a n : Nat) : Except MemPlace (List Byte) :=
  match addrBad s a n with
  | some p => .error p
  | none => .ok ((List.range n).map (fun i => memByte s (a + i)))

/-- Bytes reach memory, but for MRAM once it is write-protected (R322, log entry 178). -/
def storeBytes (s : State) (a : Nat) (bs : List Byte) : State :=
  if s.mramProtected && decide (mramBase ≤ a ∧ a < mramBase + 0x1000000) then s else s.storeMem a bs

/-- Write memory: a partly written word that is uncorrectable makes the write fail and nothing is written (R232). -/
def writeMem (s : State) (a : Nat) (bs : List Byte) : Except MemPlace State :=
  let n := bs.length
  let part := s.bad.find? (fun p => match p with
    | .addr w => decide (a / 8 ≤ w) && decide (w ≤ (a + n - 1) / 8) && !(decide (a ≤ 8 * w) && decide (8 * w + 8 ≤ a + n))
    | _ => false)
  if n = 0 then .ok s else
  match part with
  | some p => .error p
  | none => .ok (storeBytes s a bs)

/-! ## Retained data (R234, R235) -/

/-- Where the line of a unit stands in copy A or copy B (R230, R234). -/
def lineAddr (copyB : Bool) (u : Nat) : Nat := mramBase + (if copyB then 0x900000 else 0x400000) + 64 * u

/-- A line: 56 data bytes, the low word of the tick, the CRC-32 over both (R234). -/
def lineBytes (data : List Byte) (tick : Word) : List Byte :=
  let b := (data ++ List.replicate 56 0).take 56 ++ leBytes 4 tick.toNat
  b ++ leBytes 4 (crc32 b).toNat

/-- Whether the line of a unit passes its CRC and is readable (R235). -/
def linePasses (s : State) (copyB : Bool) (u : Nat) : Bool :=
  let a := lineAddr copyB u
  let b := bytesAt s.mem a 60
  (addrBad s a 64).isNone && leVal (bytesAt s.mem (a + 60) 4) == (crc32 b).toNat

/-- The tick word of a line. -/
def lineTick (s : State) (copyB : Bool) (u : Nat) : Word :=
  BitVec.ofNat 32 (leVal (bytesAt s.mem (lineAddr copyB u + 56) 4))

/-- The snapshot at a commit (R234): of every unit changed since the last one, unless a flush runs or the supply
fails; the flush begins by invalidating the footer of copy A. -/
def retainedSnapshot (s : State) : State :=
  if s.flag F.MEM_STATUS.FLUSH_BUSY || s.retDirty.isEmpty || s.power.warned then s
  else
    let units := s.retDirty.map (fun u => (u, bytesAt s.retained (retUnitBytes * u) retUnitBytes))
    { s.setFlag F.MEM_STATUS.FLUSH_BUSY true with
      retSnap := some (units, s.tick.setWidth 32), retDirty := [], footA := [] }

/-- Write the snapshot's units into a copy (R234). -/
def flushCopy (s : State) (copyB : Bool) (units : List (Nat × List Byte)) (tick : Word) : State :=
  units.foldl (fun s u => s.storeMem (lineAddr copyB u.1) (lineBytes u.2 tick)) s

/-- The first half of a flush: the units and the footer of copy A, then the footer of copy B is invalidated (R234). It is
done by the first tick edge after the commit (log entry 147). -/
def flushFirst (s : State) : State :=
  match s.retSnap with
  | none => s
  | some (units, tick) =>
    if s.footA.isEmpty then { flushCopy s false units tick with footA := footerBytes tick, footB := [] } else s

/-- The flush completes: copy A, its footer, copy B, its footer (R234). -/
def flushDone (s : State) : State :=
  match s.retSnap with
  | none => s
  | some (units, tick) =>
    let s := { flushCopy (flushFirst s) true units tick with footB := footerBytes tick }
    { s.setFlag F.MEM_STATUS.FLUSH_BUSY false with retSnap := none }

/-- RETAINED_FLUSH_DONE (R234). -/
def execRetainedFlushDone (s : State) : Host.Outcome State Fault Refusal := .next (flushDone s)

/-- The uncorrectable words in the lines of a copy are reported as it is read (R231). -/
def lineErrors (copyB : Bool) (us : List Nat) (s : State) : State :=
  (us.filterMap (fun u => addrBad s (lineAddr copyB u) 64)).foldl (fun s p => s.memError p) s

/-- Load the first `n` units at start-up (R235): a complete copy A, else a complete copy B, else unit by unit from the
copy in which the unit passes and whose tick is later. The second result lists the units that pass in neither. Uncorrectable
words are reported from unit `first` on, where the units before it have been read already. -/
def retainedLoad (s : State) (first n : Nat) : State × List Nat :=
  let us := List.range n
  let fresh := us.filter (fun u => decide (first ≤ u))
  let whole := fun (b : Bool) (f : List Byte) => recordPasses 4 f && us.all (linePasses s b)
  let take := fun (s : State) (b : Bool) (u : Nat) =>
    { s with retained := putBytes s.retained (retUnitBytes * u) (bytesAt s.mem (lineAddr b u) retUnitBytes) }
  let src := fun (s : State) (v : Nat) => s.setFld F.MEM_STATUS.RETAINED_SRC v
  let inA := whole false s.footA
  let inB := !inA && whole true s.footB
  let s := if recordPasses 4 s.footA || !inB then lineErrors false fresh s else s
  let s := if !inA && (recordPasses 4 s.footB || !inB) then lineErrors true fresh s else s
  let s := { s with retained := [] }
  if inA then (src (us.foldl (fun s u => take s false u) s) 0, [])
  else if inB then (src (us.foldl (fun s u => take s true u) s) 1, [])
  else
    us.foldl (fun r u =>
      let (s, lost) := r
      match linePasses s false u, linePasses s true u with
      | true, true => (take s (decide (0 < sdiff ((lineTick s true u).setWidth 64) ((lineTick s false u).setWidth 64))) u, lost)
      | true, false => (take s false u, lost)
      | false, true => (take s true u, lost)
      | false, false => (s, lost ++ [u])) (src s 2, [])

/-! ## Guard sets (R242) -/

/-- The shadow region `r` of a requester, from GUARD_BASE and GUARD_ATTR. -/
def shadowRegion (s : State) (req r : Nat) : Region :=
  let i := req * 32 + r
  let at' := s.reg (itemKey A.GUARD_ATTR i)
  { base := (s.reg (itemKey A.GUARD_BASE_LO i)).toNat / 64 * 64 + getBits (s.reg (itemKey A.GUARD_BASE_HI i)) 3 0 * 2 ^ 32,
    size := getBits at' 7 0, r := bit at' 8, w := bit at' 9, en := bit at' 10 }

/-- The shadow set of a requester becomes its active set, unless an enabled region's base is not a multiple of its
size (R242). -/
def applyGuardSet (s : State) (req : Nat) : State :=
  let rs := (List.range 32).map (shadowRegion s req)
  if rs.any (fun r => r.en && r.base % 2 ^ r.size != 0) then s.note F.GUARD_STATUS.APPLY_ERR
  else (List.range 32).foldl (fun s r => s.setRegion (req * 32 + r) (shadowRegion s req r)) s

/-- Whether GUARD_SEL.REQ names a requester whose guard regions registers may write: a core or a channel below 24
(R249; codes 16 to 31 name none). -/
def guardOwnable (req : Nat) : Bool := decide (req < 16) || (decide (32 ≤ req) && decide (req < 56))

/-- The effect of a forwarded GUARD_APPLY at its effective tick (R242): the apply falls due in that tick's guard. -/
def guardApplyEffect (s : State) (req : Nat) (v : Word) : State :=
  if getBits v 31 16 = 0x4B96 ∧ bit v 0 ∧ guardOwnable req then
    { s with guardDue := s.guardDue ++ [(req, s.tick)] }
  else s

/-- GUARD_SET_APPLY: at 61.8 µs the applies that are due take effect (R242). -/
def execGuardSetApply (s : State) : Host.Outcome State Fault Refusal :=
  if s.guardDue.isEmpty then .next s
  else
    let s := s.at 61800
    let due := s.guardDue.filter (fun d => decide (d.2 = s.tick))
    .next (due.foldl (fun s d => applyGuardSet s d.1)
      { s with guardDue := s.guardDue.filter (fun d => !decide (d.2 = s.tick)) })

/-! ## The scrubber (R236, R237) -/

/-- Whether a state copy runs (R237). -/
def copyRuns (s : State) : Bool := let c := s.fld F.STRAIT_STATUS.COPY; c == 2 || c == 3 || c == 4

/-- Whether a DRAM segment must wait: a state copy runs, or this module has asked for one (R237; that a copy asked for or
queued at its holder counts is log entry 156). -/
def segmentWaits (s : State) : Bool := copyRuns s || s.resync.role == .joiner

/-- A DRAM segment begins, and the one after it is next (log entry 119). -/
def beginSegment (s : State) : State :=
  ((s.setFlag F.MEM_STATUS.SCRUB_BUSY true).setFlag F.MEM_STATUS.SEGMENT_QUEUED false).setFld F.MEM_SCRUB.SEGMENT
    ((s.fld F.MEM_SCRUB.SEGMENT + 1) % 256)

/-- A DRAM segment falls due: it begins, or waits for a state copy; one that waits or runs takes no second place (R237,
R327). -/
def startSegment (s : State) : State :=
  if s.flag F.MEM_STATUS.SCRUB_BUSY || (liveActivity s 0x0401 0).isSome then s
  else if segmentWaits s then newActivity (s.setFlag F.MEM_STATUS.SEGMENT_QUEUED true) 50 0x0401 0 0
  else beginSegment (newActivity s 50 0x0401 0 1)

/-- A DRAM segment that waits begins where no state copy stands before it any more (R237). -/
def startQueuedSegment (s : State) : State :=
  if s.flag F.MEM_STATUS.SEGMENT_QUEUED && !s.flag F.MEM_STATUS.SCRUB_BUSY && !segmentWaits s then
    beginSegment (runActivity s 0x0401 0)
  else s

/-- SCRUB_SEGMENT (R236, R237). -/
def execScrubSegment (s : State) : Host.Outcome State Fault Refusal := .next (startSegment s)

/-- A parity error of Skerry SRAM at an address (R231, R360). -/
def skerryError (s : State) (a : DWord) : State :=
  ((s.count F.MEM_ECC_UE.SKERRY 1).note F.MEM_EVENT.UE).raise 8 1 3 (leBytes 8 a.toNat)

/-- What a scrub pass found: corrected words are counted, an uncorrectable word stays as it is and is reported once
(R231, R236). -/
def scrubReport (s : State) (f : ScrubFindings) : State :=
  let s := ((s.count F.MEM_ECC_CE.SRAM f.correctedSram).count F.MEM_ECC_CE.DRAM f.correctedDram).count
    F.MEM_ECC_CE.MRAM f.correctedMram
  let s := f.uncorrectable.foldl (fun s p =>
    (if s.isBad p then s else { s with bad := p :: s.bad }).memError p) s
  f.skerryParity.foldl skerryError s

/-- SCRUB_PASS (R231, R236). -/
def execScrubPass (found : ScrubFindings) (s : State) : Host.Outcome State Fault Refusal :=
  .next (scrubReport s found)

end Sys2Proof.Machine
end

