-- ==== Sys2Proof/Machine/Pletin.lean ====
section
/-! DEFINITION. The Pletin datagram as bytes (R195, R196): header, the test by which one is discarded, and AES-256-GCM under
the session key (log entry 99). -/

namespace Sys2Proof.Machine

open Sys2Proof

/-- MAGIC and VERSION (R195). -/
def pletinMagic : List Byte := [0x50, 0x4C, 1]

/-- The 20 header bytes of a datagram (R195). -/
def pletinHeader (kind : Nat) (session seq : Word) (epoch flags opcode len : Nat) : List Byte :=
  pletinMagic ++ beBytes 1 kind ++ beBytes 4 session.toNat ++ beBytes 4 seq.toNat ++ beBytes 3 epoch ++ beBytes 1 flags ++
    beBytes 2 opcode ++ beBytes 2 len

/-- Whether a datagram has the MAGIC and VERSION and the length that its header and LEN imply, with the tag of the
authenticated kinds COMMAND, RESULT and EVENT (R195, R196). -/
def pletinIntact (d : List Byte) : Bool :=
  decide (20 ≤ d.length) && d.take 3 == pletinMagic &&
  decide (20 + beAt d 18 2 + (if 4 ≤ u8At d 3 ∧ u8At d 3 ≤ 6 then 16 else 0) ≤ d.length)

/-- The nonce of a datagram, from its header: SESSION, KIND, three 0 bytes, SEQ (R196). -/
def gcmNonce (header : List Byte) : List Byte := slice header 4 4 ++ slice header 3 1 ++ [0, 0, 0] ++ slice header 8 4

/-- AES-256-GCM enciphers and deciphers by the same addition of the key stream (R196). -/
def gcmMask (key nonce bs : List Byte) : List Byte := bs.zipIdx.map (fun e => e.1 ^^^ Config.gcmStream key nonce e.2)

/-- The 16-byte tag over the header and the enciphered payload (R196). -/
def gcmTag (key header cipher : List Byte) : List Byte :=
  beBytes 16 (Config.gcmTagBits key (gcmNonce header) header cipher).toNat

/-- An authenticated datagram: header, enciphered payload, tag (R195, R196). -/
def sealedBytes (key header payload : List Byte) : List Byte :=
  let c := gcmMask key (gcmNonce header) payload
  header ++ c ++ gcmTag key header c

end Sys2Proof.Machine
end

