-- ==== Sys2Proof/Machine/Session.lean ====
section
/-! DEFINITION. Session slots and their queues (R201, R203, R208): closing a session, completing its command. -/

namespace Sys2Proof.Machine

open Sys2Proof

/-- State of a slot: 0 free, 1 half-open, 2 open. -/
def sessState (s : State) (k : Nat) : Nat := s.fld (F.CMD_SESS_STATE.STATE.item k)
/-- Port, key slot and session ID of a slot. -/
def sessPort (s : State) (k : Nat) : Nat := s.fld (F.CMD_SESS_STATE.PORT.item k)
def sessKey (s : State) (k : Nat) : Nat := s.fld (F.CMD_SESS_STATE.KEY_SLOT.item k)
def sessId (s : State) (k : Nat) : Word := s.reg (itemKey A.CMD_SESS_ID k)

/-- The slot that holds a session ID, if any (ID 0 names none). -/
def sessOf (s : State) (id : Word) : Option Nat :=
  if id = 0 then none else (List.range 16).find? (fun k => sessState s k != 0 && sessId s k == id)

/-- Show the numbers of open and half-open sessions (CMD_STATUS). -/
def showSessions (s : State) : State :=
  let n := fun (v : Nat) => ((List.range 16).filter (fun k => sessState s k == v)).length
  ((s.setFld F.CMD_STATUS.OPEN (n 2)).setFld F.CMD_STATUS.HALF (n 1)).setFlag F.CMD_STATUS.TAMPER_REFUSE s.tamperRefuse

/-- Replace a session's queue and show its length. -/
def setSessQueue (s : State) (k : Nat) (q : List QCmd) : State :=
  (s.setSess k { s.sess k with queue := q }).setFld (F.CMD_SESS_STATE.QUEUE.item k) q.length

/-- An acyclic request of a session that closes stays outstanding, for its heir or with nobody to answer. -/
def orphanReq (k : Nat) (heir : Option Nat) (q : AcycReq) : AcycReq :=
  match q.owner with
  | .host j w => if j = k then { q with owner := heir.elim .gone (fun o => .host o w) } else q
  | _ => q

/-- The session that an answer goes to, when session `k` closes. -/
def answerTo (k : Nat) (heir j : Option Nat) : Option Nat := if j = some k then heir else j

/-- A role change that a session's ROLE_SWAP waits for, with its heir. -/
def orphanSwap (k : Nat) (heir : Option Nat) : SwapSt → SwapSt
  | .none => .none
  | .asked t j => .asked t (answerTo k heir j)
  | .agreed t j y => .agreed t (answerTo k heir j) y

/-- What waits for an answer to a session turns to its heir. -/
def forgetSession (s : State) (k : Nat) (heir : Option Nat) : State :=
  let s : State := { s with
    rings := s.rings.map (fun e => (e.1, { e.2 with reqs := e.2.reqs.map (orphanReq k heir) }))
    pair := { s.pair with
      swap := orphanSwap k heir s.pair.swap
      fwd := s.pair.fwd.map (fun w => { w with slot := answerTo k heir w.slot }) }
    loader := { s.loader with waitSlot := answerTo k heir s.loader.waitSlot } }
  s.setChan 31 { s.chan 31 with slot := answerTo k heir (s.chan 31).slot }

/-- The journalled command of a session that still runs when it closes: its result is journalled yet (R203). It is kept
beside the 16 session slots, at 16 and its JSEQ. -/
def heirOf (s : State) (k : Nat) : Option (Nat × QCmd) :=
  match (s.sess k).queue.head? with
  | none => none
  | some q => if q.waiting then q.jseq.map (fun j => (16 + j.toNat, q)) else none

/-- What session `k` waits for goes to that heir. -/
def bequeath (s : State) (k : Nat) : State :=
  match heirOf s k with
  | none => forgetSession s k none
  | some (o, q) => (forgetSession s k (some o)).setSess o { Session.free with queue := [q] }

/-- A session closes (R201): its slot is free, its waiting commands go and of the one that runs
only the journal hears the result, its latches are forgotten (R357). -/
def closeSession (s : State) (k : Nat) : State :=
  let s := ((s.setReg (itemKey A.CMD_SESS_ID k) 0).setReg (itemKey A.CMD_SESS_STATE k) 0).setReg
    (itemKey A.CMD_SESS_H k) 0
  let s := (bequeath s k).setSess k Session.free
  showSessions { s with latches := s.latches.filter (fun l => decide (l.1 ≠ .session k)) }

/-- Every session closes. -/
def closeAll (s : State) : State := (List.range 16).foldl closeSession s

/-- Every session on a port closes (R201). -/
def closePort (s : State) (port : Nat) : State :=
  (List.range 16).foldl (fun s k => if sessState s k ≠ 0 ∧ sessPort s k = port then closeSession s k else s) s

/-- The command at the front of a session's queue. -/
def frontCmd (s : State) (k : Nat) : Option QCmd := (s.sess k).queue.head?

/-- A RESULT of session `k` (R195 to R197): EPOCH 0, the payload its code, three 0 bytes and the data. -/
def resultOut (s : State) (k : Nat) (seq : Word) (opcode : Nat) (replay : Bool) (code : Nat) (data : List Byte) : Out :=
  .sealed (sessPort s k) (s.sess k).key (pletinHeader 5 (sessId s k) seq 0 (b2n replay) opcode (4 + data.length))
    (d1 code ++ [0, 0, 0] ++ data)

/-- A command answered BUSY or STALE_SEQ is counted (CMD_ERR). -/
def countAnswer (s : State) (code : Nat) : State :=
  if code = rcBusy then s.count F.CMD_ERR.BUSY 1
  else if code = rcStaleSeq then s.count F.CMD_ERR.STALE 1
  else s

/-- A command of session `k` completes (R208): its journal record takes DONE and the result before the RESULT is
sent, and the next command of the session may run. A closed session's has only its record. -/
def finishCommand (s : State) (k : Nat) (code : Nat) (data : List Byte) : State :=
  match (s.sess k).queue with
  | [] => s
  | q :: rest =>
    let s := match q.jseq with
      | none => s
      | some j => journalUpdate s j (fun r => { r with done := true, result := code, resultData := data })
    if 16 ≤ k then s.setSess k Session.free
    else setSessQueue ((countAnswer s code).sendNet (sessPort s k) (resultOut s k q.seq q.opcode false code data)) k rest

/-- The host command that a forwarded write or an arm comes from, for the partner's journal: session, SEQ, opcode, key slot
(R210). -/
def originVals (s : State) (slot : Option Nat) : List Nat :=
  match slot with
  | none => []
  | some k => match frontCmd s k with
    | none => []
    | some q => [(sessId s k).toNat, q.seq.toNat, q.opcode, sessKey s k]

/-- The argument bytes of that command. -/
def originArgs (s : State) (slot : Option Nat) : List Byte :=
  match slot with
  | none => []
  | some k => ((frontCmd s k).map (fun q => q.payload)).getD []

/-- The front command of a session waits for a ring, the partner, the loader or the transfer engine. -/
def holdCommand (s : State) (k : Nat) : State :=
  match (s.sess k).queue with
  | [] => s
  | q :: rest => s.setSess k { s.sess k with queue := { q with waiting := true } :: rest }

/-- Run a command row on session `k`: its front command, when it carries this opcode and does not wait already. -/
def onCommand (s : State) (k opcode : Nat) (f : QCmd → State) : State :=
  match frontCmd s k with
  | none => s
  | some q => if q.opcode = opcode ∧ q.waiting = false then f q else s

/-- A waiting command with this opcode completes. -/
def finishWaiting (s : State) (k opcode code : Nat) (data : List Byte) : State :=
  match frontCmd s k with
  | none => s
  | some q => if q.opcode = opcode ∧ q.waiting then finishCommand s k code data else s

end Sys2Proof.Machine
end

