-- ==== Sys2Proof/Machine/Pair.lean ====
section
/-! DEFINITION. The pair's roles (R32, R152, R156 to R168): the epoch check of Strait messages, loss of the partner,
role changes in the guard window, safe requests and the entry into SAFE. -/

namespace Sys2Proof.Machine

open Sys2Proof

/-- Change the pair's internal state. -/
def State.withPair (s : State) (f : Pair → Pair) : State := { s with pair := f s.pair }

/-- Change the resynchronisation state. -/
def State.withResync (s : State) (f : Resync → Resync) : State := { s with resync := f s.resync }

/-! ## Epoch check of messages (R152) -/

/-- How the epoch check treats a message: STATUS, ROLE RAISE, RESYNC and COPY, CARD and COMMIT, any other. -/
inductive MsgKind where
  | status | raise | resync | tick | other
deriving DecidableEq, Repr

/-- The state that the partner last reported; 7 when it reported none. -/
def partnerState (s : State) : Nat := (s.pair.status.map (fun p => p.state)).getD 7

/-- Whether the tick that a resynchronisation with a module in START ends with is under way: its CARD and COMMIT messages
decide the join, before R158 settles the epoch (log entry 134). -/
def finalTick (s : State) : Bool :=
  s.resync.finalTick.isSome && (s.mode == stStart || partnerState s == stStart)

/-- Whether the epoch check accepts a message (R152). -/
def epochAccepts (s : State) (h : StraitHdr) (k : MsgKind) : Bool :=
  let e := crownEpoch h.crown
  e == s.epoch ||
  match k with
  | .status => true
  | .raise => decide (s.epoch < e)
  | .resync => s.mode == stStart || partnerState s == stStart
  | .tick => finalTick s
  | .other => false

/-- A message that the epoch check refuses: counted; a lower epoch sets the event and answers a request with
ROLE_CHANGED (R152). -/
def epochRefuse (s : State) (h : StraitHdr) (type : Nat) (request : Bool) : State :=
  let s := s.count F.STRAIT_ERR.STALE_EPOCH 1
  if crownEpoch h.crown < s.epoch then
    let s := s.note F.CROWN_EVENT.STALE_EPOCH
    if request then s.straitReply type h.seq rcRoleChanged else s
  else s

/-- Whether a message was lost before this one: SEQ does not follow the last message received (R149, R171). -/
def messageLost (last : Option Nat) (h : StraitHdr) : Bool :=
  match last with
  | none => false
  | some n => (n + 1) % 65536 != h.seq

/-- A joiner whose copy runs notes a lost message: it may have been a COPY or RESYNC message (R171; log entry 102). -/
def noteGap (s : State) (h : StraitHdr) : State :=
  if s.resync.role = .joiner && decide (2 ≤ s.fld F.STRAIT_STATUS.COPY) && s.fld F.STRAIT_STATUS.COPY != 5 &&
     messageLost s.pair.rxSeq h then
    s.withResync (fun r => { r with gap := true })
  else s

/-- Receive a valid message: it is heard in its tick (R161) and acts only if the epoch check accepts it (R152). -/
def onMsg (s : State) (h : StraitHdr) (type : Nat) (k : MsgKind) (request : Bool) (f : State → State) : State :=
  let s := noteGap s h
  let s := s.withPair (fun p => { p with heard := p.heard || h.tick == s.tick, rxSeq := some h.seq })
  if epochAccepts s h k then f s else epochRefuse s h type request

/-! ## Out of step (R169) -/

/-- The digest of an image as RESYNC and LOADER messages carry it (R93, R170). -/
def imageDigest (s : State) : List Byte := (s.image.map (fun im => im.digest)).getD []

/-- The sequence number of the running image; 0 when none runs. -/
def runningSeq (s : State) : Word := (s.image.map (fun im => im.seq)).getD 0

/-- The module asks for resynchronisation with an image's sequence number, its digest and the core mode (R169, R170). A
request that finds the Strait silent is made again when the Strait returns (R162). Channel 29 writes what arrives, so a DRAM
segment of this module goes first, the request waiting as queued (R237). -/
def requestAs (s : State) (staged : Bool) (seq : Word) (digest : List Byte) : State :=
  if s.flag F.MEM_STATUS.SCRUB_BUSY then
    { s.setFld F.STRAIT_STATUS.COPY 5 with resync := { Resync.initial with role := .joiner, unheard := true } }
  else
    let silent := !s.trained || (s.ticking && !s.pair.heard)
    let s := s.straitOn 6 8 1 [seq.toNat, s.fld F.CHK_STATUS.MODE] digest
    { s.setFld F.STRAIT_STATUS.COPY 1 with
      resync := { Resync.initial with role := .joiner, asked := some s.tick, unheard := silent, staged := staged } }

/-- The request under the running image. -/
def requestResync (s : State) : State := requestAs s false (runningSeq s) (imageDigest s)

/-- Whether a class is in overrun. -/
def classOverrun (s : State) : Bool := (List.range 8).any (fun k => (s.cls k).overrun)

/-- A standby goes out of step: it stops computing, holds its local outputs once those of its last commit are applied (R39)
and requests resynchronisation at once (R169). -/
def goOutOfStep (s : State) : State :=
  if s.mode = stStandby && !s.pair.outOfStep then
    let s := s.withPair (fun p => { p with outOfStep := true, oosDue := false, missNow := false, missPrev := false })
    let s := { s with cores := [] }
    requestResync ((s.setFlag F.STRAIT_STATUS.IN_STEP false).setFlag F.STRAIT_STATUS.CMP_SUSPENDED true)
  else s

/-- Another core mode than the running partner's is refused the pairing: shown and recorded once (R87). -/
def modeConflict (s : State) (partnerMode : Nat) : State :=
  if s.flag F.CHK_STATUS.MODE_CONFLICT then s
  else (s.note F.CHK_STATUS.MODE_CONFLICT).raise 3 7 0 (d1 s.coreMode ++ d1 partnerMode)

/-! ## Health and swaps (R165 to R167) -/

/-- Whether the partner's STATUS of this tick shows a healthy standby (R165). -/
def partnerHealthy (s : State) : Bool :=
  s.fld F.STRAIT_STATUS.PARTNER_STATE == stStandby &&
  match s.pair.status with
  | none => false
  | some p => p.inStep && p.clean && !p.tampered && !p.verdictBusy && !p.splitBusy && !p.copyBusy

/-- Whether this module is healthy as a standby (R165). -/
def selfHealthy (s : State) : Bool :=
  s.mode == stStandby && !s.pair.outOfStep && s.pair.cleanLast && !s.flag F.CHK_STATUS.UNCLEAN && !s.tampered &&
  !s.flag F.CHK_STATUS.VERDICT_BUSY && !s.flag F.CHK_STATUS.VERDICT_QUEUED && !s.flag F.CHK_STATUS.SPLIT_BUSY &&
  !groupHeld s 1 && s.fld F.STRAIT_STATUS.COPY == 0

/-- A swap under way ends without effect; a ROLE_SWAP that waits gets TIMEOUT, or ROLE_CHANGED when the epoch changed
since its acceptance (R165, R206). -/
def voidSwap (s : State) : State :=
  let slot := match s.pair.swap with
    | .none => none
    | .asked _ k => k
    | .agreed _ k _ => k
  let s := s.withPair (fun p => { p with swap := .none })
  match slot with
  | none => s
  | some k =>
    let code := if ((frontCmd s k).map (fun q => q.epoch)).getD s.epoch = s.epoch then rcTimeout else rcRoleChanged
    finishWaiting s k 0x30 code []

/-- Whether a role swap may be requested here and now (R165). -/
def swapAllowed (s : State) : Bool :=
  s.mode == stPrimary && partnerHealthy s && decide (s.pair.swap = .none)

/-- The crown holder asks for a role swap in tick s (R165). -/
def sendSwapReq (s : State) (slot : Option Nat) : State :=
  (s.strait 4 1 []).withPair (fun p => { p with swap := .asked s.tick slot })

/-- A keyed write of CROWN_CTRL (07 register tables): on the crown holder it requests a role swap. -/
def writeSwapReq (s : State) (v : Word) : State :=
  if getBits v 31 16 = 0x69C3 ∧ bit v 0 ∧ swapAllowed s then sendSwapReq s none else s

/-- CROWN_SWAP_REQ. -/
def execCrownSwapReq (v : Word) (s : State) : Host.Outcome State Fault Refusal := .next (writeSwapReq s v)

/-- SWAP_REQ: a healthy standby acknowledges and changes with the crown holder at 61.0 µs of the next tick; any other
module answers STATE (R165). -/
def takeSwapReq (s : State) (h : StraitHdr) : State :=
  if selfHealthy s then
    (s.strait 4 2 []).withPair (fun p => { p with swap := .agreed (h.tick + 1) none false })
  else s.straitReply 4 h.seq rcState

/-- SWAP_REQ. -/
def execSwapReq (h : StraitHdr) (s : State) : Host.Outcome State Fault Refusal :=
  .next (onMsg s h 4 .other true (fun s => takeSwapReq s h))

/-- SWAP_ACK: the swap that this crown holder asked for is agreed (R165). -/
def execSwapAck (h : StraitHdr) (s : State) : Host.Outcome State Fault Refusal :=
  .next (onMsg s h 4 .other false (fun s =>
    match s.pair.swap with
    | .asked t k => s.withPair (fun p => { p with swap := .agreed (t + 1) k false })
    | _ => s))

/-- YIELD: a tampered crown holder yields; a standby in step changes with it in this guard window (R166). -/
def execYieldMsg (h : StraitHdr) (s : State) : Host.Outcome State Fault Refusal :=
  .next (onMsg s h 4 .other true (fun s =>
    if s.mode = stStandby && !s.pair.outOfStep then
      s.withPair (fun p => { p with swap := .agreed h.tick none true })
    else s.straitReply 4 h.seq rcState))

/-- RAISE: a standby adopts the raised epoch; a crown holder leaves the case to R168 (R167). -/
def execRaiseMsg (h : StraitHdr) (crown : Word) (s : State) : Host.Outcome State Fault Refusal :=
  .next (onMsg s h 4 .raise false (fun s =>
    if s.mode = stStandby then s.adoptEpoch (crownEpoch crown) else s))

/-- A tampered PRIMARY yields as soon as its partner's STATUS shows it healthy, else the yield waits (R166). -/
def yieldIfDue (s : State) : State :=
  if s.mode = stPrimary && s.tampered then
    if partnerHealthy s then
      let k := match s.pair.swap with
        | .asked _ k => k
        | .agreed _ k _ => k
        | .none => none
      (s.strait 4 3 []).withPair (fun p => { p with swap := .agreed s.tick k true })
    else s.setFlag F.CROWN_STATUS.YIELD_PENDING true
  else s

/-! ## Loss of the partner (R161) -/

/-- Whether the partner counts as lost at 61.0 µs (R161). -/
def partnerLostNow (s : State) : Bool :=
  let st := s.fld F.STRAIT_STATUS.PARTNER_STATE
  !s.flag F.SYS_SLOT.PARTNER_PRESENT ||
  (s.pair.ranBefore && (st == stSafe || st == stTamperHold || st == stStart)) ||
  (!s.pair.heard && !s.flag F.CROWN_STATUS.CLA_TOGGLED)

/-- PARTNER_LOSS_CHECK: at 61.0 µs, the presence line is sampled once more and the loss is judged, and a stopped CLA with messages arriving is a line fault
(R161, R340). -/
def execPartnerLossCheck (s : State) : Host.Outcome State Fault Refusal :=
  if s.ticking && s.running then
    let s := (s.at 61000).setFlag F.SYS_SLOT.PARTNER_PRESENT s.pair.presLine
    let s := if s.pair.heard && !s.flag F.CROWN_STATUS.CLA_TOGGLED then s.note F.CROWN_STATUS.LINE_FAULT else s
    .next (s.withPair (fun p => { p with lost := partnerLostNow s }))
  else .next s

/-! ## Changes in the guard window (R31, R164 to R168) -/

/-- The presented crown is announced with ROLE RAISE after a raise (R150). -/
def announceRaise (s : State) : State := s.strait 4 4 [s.crown.toNat]

/-- What the end of a pairing ends: resynchronisation, with the DRAM segment that waited for it (R237), the pending loss of
step, and what the lost partner had announced of its tests (R164, R167). -/
def endPairing (s : State) : State :=
  let s := s.withPair (fun p => { p with
    outOfStep := false, oosDue := false, missNow := false, missPrev := false, diverged := false, ranBefore := false, lost := false,
    joinDue := none, partSplit := false, partVerdict := false, partCopy := false })
  let s := { s.setFld F.STRAIT_STATUS.COPY 0 with resync := Resync.initial }
  startQueuedSegment s

/-- Takeover: the standby enters SOLO with its epoch raised (R164). -/
def takeover (s : State) : State :=
  let unsync := s.pair.outOfStep || s.resync.role == .joiner
  let s := if unsync then s.note F.CROWN_STATUS.UNSYNC_TAKEOVER else s
  let last := s.pair.lastCrown
  let s := voidSwap (s.raiseEpoch 5)
  let s := ((endPairing s).become stSolo 5).note F.CROWN_EVENT.TAKEOVER
  announceRaise (s.raise 0 3 0 (d4 s.crown.toNat ++ d4 last.toNat ++ d1 (b2n unsync)))

/-- The crown holder loses its standby and enters SOLO with no raise (R164). -/
def standbyLost (s : State) : State := (endPairing (voidSwap s)).become stSolo 5

/-- An agreed swap or yield takes effect: one raise, the roles change (R165 to R167). -/
def roleChange (s : State) (slot : Option Nat) (yielding : Bool) : State :=
  let before := s.crown
  let s := s.withPair (fun p => { p with swap := .none })
  let s := (s.raiseEpoch 6).become (if s.mode = stPrimary then stStandby else stPrimary) 6
  let s := s.note (if yielding then F.CROWN_EVENT.YIELD else F.CROWN_EVENT.SWAP)
  let s := s.setFlag F.CROWN_STATUS.YIELD_PENDING false
  let s := s.raise 0 (if yielding then 5 else 4) 0 (d4 before.toNat ++ d4 s.crown.toNat)
  match slot with
  | none => s
  | some k => finishWaiting s k 0x30 rcOk []

/-- The crown holder raises its epoch over a joiner's higher stored epoch (R158). -/
def raiseForJoin (s : State) : State :=
  match s.pair.joinDue with
  | none => s
  | some e =>
    if s.resync.finalTick != some (s.tick - 1) then s
    else
    let s := s.withPair (fun p => { p with joinDue := none })
    if s.holds && decide (s.epoch < e) then
      announceRaise (s.raiseEpochFrom e 4)
    else s

/-- The agreed change that is due in this guard window. -/
def swapDue (s : State) : State :=
  match s.pair.swap with
  | .agreed t k y =>
    if t = s.tick then
      if (k.bind (frontCmd s)).map (fun q => q.epoch != s.epoch) = some true then voidSwap s
      else if s.mode = stPrimary || s.mode = stStandby then roleChange s k y
      else voidSwap s
    else s
  | .asked t _ => if s.tick - t = 0 then s else voidSwap s
  | .none => s

/-- An accepted arm that has not taken effect ends with a code. -/
def dropArm (s : State) (code : Nat) : State :=
  if s.loader.armDue.isSome then
    let slot := s.loader.waitSlot
    let s := { s with loader := { s.loader with armDue := none, waitSlot := none } }
    match slot with
    | none => s
    | some k => finishWaiting s k 0x24 code []
  else s

/-- An accepted arm whose epoch is no longer the module's is abandoned with ROLE_CHANGED at 61.0 µs (R206). -/
def recheckArm (s : State) : State :=
  match s.loader.armDue with
  | none => s
  | some (_, _, e) => if e = s.epoch then s else dropArm s rcRoleChanged

/-- CROWN_CHANGE: at 61.0 µs a due takeover, swap, yield or raise for a join takes effect (R31, R167); an accepted
arm is judged again (R206). -/
def execCrownChange (s : State) : Host.Outcome State Fault Refusal :=
  if s.ticking && s.running then
    let s := s.at 61000
    .next (recheckArm (
      if s.pair.lost && s.mode == stStandby then takeover s
      else if s.pair.lost && s.mode == stPrimary then standbyLost s
      else
        let s := raiseForJoin (swapDue s)
        if s.pair.oosDue then goOutOfStep (s.withPair (fun p => { p with oosDue := false })) else s))
  else .next s

/-! ## Leaving START (R326) -/

/-- The wrapped keys are unwrapped; zeroised keys stay zeroised (R101, R326). -/
def unwrapKeys (s : State) : State :=
  if s.fld F.SKERRY_STATUS.KEYS = 1 then s.setFld F.SKERRY_STATUS.KEYS 2 else s

/-- The start-up order ends: the keys are unwrapped in the same guard window (step 9 of R326). -/
def leaveStart (s : State) : State := (unwrapKeys s).setFld F.PWR_STATUS.START_STEP 0

/-! ## SAFE (R32, R33) -/

/-- A safe request with its CAUSE; only a running module has a way to SAFE (R32). -/
def requestSafe (s : State) (cause : Nat) : State :=
  if s.running && s.pair.safeDue.isNone then s.withPair (fun p => { p with safeDue := some cause }) else s

/-- A keyed write of SYS_CTRL (R32). -/
def writeSafeReq (s : State) (v : Word) : State :=
  if getBits v 31 16 = 0xA5C3 ∧ bit v 0 then requestSafe s 8 else s

/-- SAFE_REQ. -/
def execSafeReq (v : Word) (s : State) : Host.Outcome State Fault Refusal := .next (writeSafeReq s v)

/-- The module enters SAFE: it presents rank 0, computes nothing and drives its local outputs safe (R32, R33). A loader that
is ARMED stays ARMED, which the spec leaves open (DESIGN CHOICE, log entry 133); an arm not yet in effect is dropped. -/
def enterSafe (s : State) (cause : Nat) : State :=
  let s := (endPairing (voidSwap (dropArm s rcState))).withPair (fun p => { p with safeDue := none })
  ({ s with cores := [] }.setFlag F.CROWN_STATUS.YIELD_PENDING false).become stSafe cause

/-- SAFE_ENTRY: in the guard window after a safe request or a failed verdict (R32, R79). -/
def execSafeEntry (s : State) : Host.Outcome State Fault Refusal :=
  match s.pair.safeDue with
  | none => .next s
  | some c => .next (if s.running then enterSafe (s.at 61000) c else s)

end Sys2Proof.Machine
end

