-- ==== Sys2Proof/Machine/Ring.lean ====
section
/-! DEFINITION. The scan fabric and the rings (R127, R128, R132, R133, R138 to R142, R153): lock, returning frames,
the ring deadline, CARD messages, the Causeway. -/

namespace Sys2Proof.Machine

open Sys2Proof

/-- Whether the running image uses a ring (FAB_RING_EN). -/
def ringUsed (s : State) (k : Nat) : Bool := (s.dword A.FAB_RING_EN_LO).getLsbD k

/-- The rings in use. -/
def usedRings (s : State) : List Nat := (List.range 48).filter (ringUsed s)

/-- Whether a ring's Causeway is closed (R142). -/
def causewayClosed (s : State) (k : Nat) : Bool := s.flag (F.RING_STATUS.CAUSEWAY.ring k)

/-- LOCK_EVEN or LOCK_ODD of a ring. -/
@[reducible] def lockFld (k port : Nat) : Fld :=
  if port = 0 then F.RING_STATUS.LOCK_EVEN.ring k else F.RING_STATUS.LOCK_ODD.ring k

/-- LOCK: a receiver gains lock (R127); with its Causeway closed or its domain off a module receives nothing (R142). -/
def execLock (ring port : Nat) (s : State) : Host.Outcome State Fault Refusal :=
  .next (if causewayClosed s ring || !s.domOn ring then s else s.setFld (lockFld ring port) 1)

/-- A receiver loses lock after three consecutive misses (R128). -/
def loseLock (s : State) (ring port : Nat) : State :=
  ((s.setFld (lockFld ring port) 0).count (F.RING_ERR.LOCK_LOSS.ring ring) 1).raise 6 1 ring (d1 (2 * ring + port))

/-- LOCK_LOSS: three consecutive missed cells outside the frames that a command brings end a receiver's lock (R128; log entry
129). -/
def execLockLoss (ring port : Nat) (s : State) : Host.Outcome State Fault Refusal :=
  .next (if s.fld (lockFld ring port) = 1 then loseLock (s.count (F.RING_ERR.HDR.ring ring) 3) ring port else s)

/-- Whether a receiver of a ring delivers cells: the domain is ON, the Causeway open, the receiver locked (R127, R142). -/
def receiverOn (s : State) (k : Nat) (odd : Bool) : Bool :=
  s.domOn k && !causewayClosed s k && s.fld (lockFld k (b2n odd)) == 1

/-- A module passes the cells of the partner's train on, out of the port opposite to the one that they arrive at, in every
module state (R121, R123). -/
def forwardCells (s : State) (k : Nat) (odd : Bool) (cells : List (Option (List Byte))) : State :=
  match passedCells s.parity cells with
  | [] => s
  | xs => s.emit (.forward k (!odd) xs)

/-! ## Frames (R130, R132, R139 to R141) -/

/-- How a received cyclic frame counts: the module's own, the partner's in passing, miswired, or without use. -/
inductive FrameUse where
  | own | passing | miswired | useless
deriving DecidableEq, Repr

/-- Judge a frame by RING, FLAGS, arrival port and wrap (R121, R140). In SOLO the module's clockwise frame is its own
and its counter-clockwise frame stands in the partner's place, so that a frame of the partner's train is of no use there (R137). -/
def frameUse (s : State) (k : Nat) (odd : Bool) (f : FrameView) : FrameUse :=
  let mine := b2n f.origin == s.parity
  let solo := s.mode == stSolo
  if f.ringNo != k then .miswired
  else if mine then
    if !solo && b2n f.dir != s.parity then .miswired
    else if odd == f.dir && f.wrapAt == 0xFF then .miswired
    else if solo && f.dir then .passing
    else .own
  else if b2n f.dir != b2n f.origin then .useless
  else if odd == f.dir then .miswired
  else if solo then .useless
  else .passing

/-- Cells of a frame that cannot be used: not arrived by 24 µs, missed (R128), or with a failed CCHK. -/
def badFrameCells (f : FrameView) : List Nat := f.lost ++ f.missed ++ f.bad

/-- The valid input blocks of a frame (R132, R240). -/
def frameBlocks (s : State) (k : Nat) (f : FrameView) (parityBad : List Nat) : List (Nat × List Byte) :=
  let bad := badFrameCells f
  (ringStations s k).filterMap (fun x =>
    let block := (f.payload.drop x.inOff).take x.inLen
    if x.inLen != 0 && block.length == x.inLen && decide (128 ≤ u8At block 0) &&
       !(cellsOf x.inOff x.inLen).any (fun c => bad.contains c) && !parityBad.contains x.station
    then some (x.station, block) else none)

/-- What the return of the own frame shows: return time, wrap, count (RING_STATUS, RING_RETURN; R139 to R141). It is back
where every one of its cells has returned by 24 µs, whatever their checks say (R28, R138). -/
def showReturn (s : State) (k retNs : Nat) (f : FrameView) : State :=
  let whole := (badFrameCells f).isEmpty
  let wrapped := f.wrapAt != 0xFF
  let was := s.fld (F.RING_STATUS.WRAP_AT.ring k)
  let s := s.setFld (F.RING_RETURN.LAST.ring k) (min 0xFFFE retNs)
  let s := s.setFld (F.RING_RETURN.PEAK.ring k) (max (s.fld (F.RING_RETURN.PEAK.ring k)) (min 0xFFFF retNs))
  let s := (s.setFld (F.RING_STATUS.WRAP_AT.ring k) f.wrapAt).setFlag (F.RING_STATUS.WRAP.ring k) wrapped
  let s := s.setFlag (F.RING_STATUS.COUNT_MISMATCH.ring k)
    (!wrapped && f.hop != s.fld (F.RING_CFG.STATIONS.ring k))
  let s := s.setFld (F.RING_STATUS.UNTRACKED.ring k) (f.hop - 64)
  let s := if wrapped != (was != 0xFF) then
      s.raise 6 4 k (d1 (if wrapped then f.wrapAt else was) ++ d1 (b2n wrapped)) else s
  s.setRing k { s.ring k with
    ret := some retNs
    back := if retNs ≤ 24000 ∧ f.lost = [] ∧ f.missed = [] then some (f.hop, whole && !wrapped) else none,
    hops := if whole && !wrapped then min 255 f.hop else (s.ring k).hops }

/-- The CARD message of a ring: VALID mask and the blocks of its valid stations in station order (R153, log entry 34). -/
def sendCard (s : State) (k : Nat) : State :=
  if s.mode = stPrimary && !(s.ring k).carded then
    let blocks := takenBlocks (s.ring k)
    let bytes := blocks.flatMap (fun b => b.2)
    let mask := blocks.foldl (fun m b => m + 2 ^ b.1) 0
    let lane := match s.image with
      | none => 0
      | some im => ((im.rings.find? (fun r => r.ring == k)).map (fun r => r.lane)).getD 0
    let s := s.straitOn lane 2 0 [k, bytes.length, mask] bytes
    s.setRing k { s.ring k with carded := true }
  else s

/-- Whether every station of a ring with an input block has delivered it in this tick. -/
def blocksComplete (s : State) (k : Nat) : Bool :=
  (ringStations s k).all (fun x => x.inLen == 0 || (getAt x.station (takenBlocks (s.ring k))).isSome)

/-- The blocks of a frame are taken: the own frame's before those of the partner's frame in passing (R132). A crown holder
places them in the image at once, and forwards the ring's blocks as soon as the own frame is back and none is missing (R132,
R153; at the latest at 24 µs, log entry 34). -/
def takeFrame (s : State) (k : Nat) (own : Bool) (blocks : List (Nat × List Byte)) : State :=
  let r := s.ring k
  let s := s.setRing k (if own then { r with own := blocks } else { r with passing := blocks })
  if s.holds then
    let s := (ringStations s k).foldl (fun s x =>
      match getAt x.station blocks, own || (getAt x.station r.own).isNone with
      | some b, true => takeBlock s x b
      | _, _ => s) s
    if (s.ring k).ret.isSome && blocksComplete s k then sendCard s k else s
  else s

/-- Whether the scan fabric still takes blocks in this tick: until the rings are judged at 24 µs (R28). -/
def takingBlocks (s : State) : Bool := s.ticking && s.active && s.fld F.TICK_STATUS.WINDOW == 0

/-- A cyclic frame received on a ring in use: the return of the own frame is measured and miswiring is seen in every module
state (R138 to R141); the scan fabric takes the blocks of the cells that arrived by 24 µs while it takes blocks at all. -/
def useFrame (s : State) (k : Nat) (odd : Bool) (retNs : Nat) (parityBad : List Nat) (f : FrameView) : State :=
  if !f.headOk then s
  else match frameUse s k odd f with
  | .miswired => (s.setFld (F.RING_STATUS.MISWIRED.ring k) 1).raise 6 3 k (d1 (2 * k + b2n odd))
  | .useless => s
  | .own =>
    if f.tick != s.tick then s
    else
      let s := showReturn s k retNs f
      if takingBlocks s then takeFrame s k true (frameBlocks s k f parityBad) else s
  | .passing =>
    if f.tick = s.tick ∧ takingBlocks s then takeFrame s k false (frameBlocks s k f parityBad) else s

/-- What the receiver meets in a frame: missed cells and failed checks are counted, and three misses in a row end its lock
(R128). -/
def receiveCells (s : State) (k : Nat) (odd : Bool) (missed bad : Nat) (lockLost : Bool) : State :=
  let s := (s.count (F.RING_ERR.HDR.ring k) missed).count (F.RING_ERR.CELL.ring k) bad
  if lockLost then loseLock s k (b2n odd) else s

/-- CYCLIC_FRAME: a cyclic frame arrives at one of the ring's receivers (R28, R123, R128, R132). -/
def execCyclicFrame (ring : Nat) (f : CyclicFrame) (s : State) : Host.Outcome State Fault Refusal :=
  .next (if receiverOn s ring f.oddPort then
      let v := readFrame f
      let s := forwardCells s ring f.oddPort f.cells
      let s := receiveCells s ring f.oddPort v.missed.length v.bad.length v.lockLost
      if s.ticking && ringUsed s ring then useFrame s ring f.oddPort f.retNs f.parityBad v else s
    else s)

/-! ## Deadline and Carding (R28, R29, R133, R153) -/

/-- A ring at 24 µs is late when its own frame is not back whole; the record names the return time of a frame that has come
late or damaged (R28, R138, R140, R360). -/
def ringLate (s : State) (k : Nat) : State :=
  let r := s.ring k
  if r.back.isSome then s
  else
    let s := if r.ret.isSome then s else s.setFld (F.RING_RETURN.LAST.ring k) 0xFFFF
    let ns := (r.ret.map (min 0xFFFE)).getD 0xFFFF
    ((s.setFld (F.RING_STATUS.LATE.ring k) 1).note F.SYS_EVENT.RING_LATE).raise 6 2 k (leBytes 2 ns)

/-- Whether the module sends frames on a ring: the domain is ON and the Causeway open (R126, R142). -/
def ringSends (s : State) (k : Nat) : Bool := s.domOn k && !causewayClosed s k

/-- A ring at 24 µs: judged for lateness; a crown holder judges the stations without a block. -/
def ringDeadline (s : State) (k : Nat) : State :=
  let s := ringLate s k
  if s.holds then judgeRing (sendCard s k) k (takenBlocks (s.ring k)) false else s

/-- Cut the input bytes of a CARD into blocks by its VALID mask. -/
def cutCard (mask : DWord) : List StationRec → List Byte → List (Nat × List Byte)
  | [], _ => []
  | x :: xs, bytes =>
    if mask.getLsbD x.station then (x.station, bytes.take x.inLen) :: cutCard mask xs (bytes.drop x.inLen)
    else cutCard mask xs bytes

/-- Take the local channels from a ring-63 CARD: per input signal of a VALID group, 8 value bytes and a quality byte, in
image order (log entry 34). -/
def takeLocalCard (s : State) (mask : DWord) : List SignalRec → List Byte → State
  | [], _ => s
  | g :: gs, bytes =>
    if mask.getLsbD (hStation g.handle) then
      takeLocalCard (s.setIn g.slot ⟨BitVec.ofNat 64 (beAt bytes 0 8), Quality.ofCode (u8At bytes 8)⟩) mask gs (bytes.drop 9)
    else takeLocalCard s mask gs bytes

/-- The local input signals in image order (R8). -/
def localInputs (s : State) : List SignalRec :=
  match s.image with
  | none => []
  | some im => im.signals.filter (fun g => !g.output && hRing g.handle == 63)

/-- A standby adopts the crown holder's CARD of a ring (R153). -/
def adoptCard (s : State) (k : Nat) (mask : DWord) (bytes : List Byte) : State :=
  if k = 63 then
    (takeLocalCard s mask (localInputs s) bytes).withPair (fun p => { p with localCarded := true })
  else
    let s := judgeRing s k (cutCard mask (ringStations s k) bytes) true
    s.setRing k { s.ring k with carded := true }

/-- CARD: received by a standby in tick and ring phase (R153). What arrives after Carding has ended at 28 µs comes too late
(R29, R37). -/
def execCard (h : StraitHdr) (ring : Nat) (mask : DWord) (bytes : List Byte) (s : State) :
    Host.Outcome State Fault Refusal :=
  .next (onMsg s h 2 .tick false (fun s =>
    if s.follows && h.tick == s.tick && !s.pair.cardingOver && (ring == 63 || ringUsed s ring) then
      adoptCard s ring mask bytes else s))

/-- The module's own local inputs enter the image (R22). -/
def takeLocalOwn (s : State) : State :=
  let gs := localInputs s
  (gs.foldl (fun s g => s.setIn g.slot (Sparse.get slotDefault s.localOwn g.slot)) s).touch (gs.map (fun g => .inSlot g.slot))

/-- A standby at 28 µs uses its own block for every ring whose CARD has not arrived (R29). -/
def cardingOwn (s : State) : State :=
  let rings := (usedRings s).filter (fun k => !(s.ring k).carded)
  let localMiss := !s.pair.localCarded
  let s1 := rings.foldl (fun s k => judgeRing s k (takenBlocks (s.ring k)) true) s
  let s2 := if localMiss then takeLocalOwn s1 else s1
  let miss := localMiss || !rings.isEmpty
  if miss then
    let s2 := s2.note F.SYS_EVENT.CARDING_MISS
    s2.withPair (fun p => { p with missNow := true, oosDue := p.oosDue || (p.missPrev && !p.outOfStep) })
  else s2

/-! ## Causeway (R142) -/

/-- A write of RING_CTRL: ACYC_TIMEOUT of 0 is treated as 1; CAUSEWAY_REQ acts at the next guard window. -/
def writeRingCtrl (s : State) (k : Nat) (v : Word) : State :=
  (s.setFld (F.RING_CTRL.ACYC_TIMEOUT.ring k) (max 1 (getBits v 15 8))).setFld
    (F.RING_CTRL.CAUSEWAY_REQ.ring k) (getBits v 0 0)

/-- CAUSEWAY_REQ. -/
def execCausewayReq (ring : Nat) (v : Word) (s : State) : Host.Outcome State Fault Refusal :=
  .next (writeRingCtrl s ring v)

/-- The directions of the module's train: its own, in SOLO both (R121, R137). -/
def trainDirs (s : State) : List Bool := if s.mode = stSolo then [false, true] else [s.parity == 1]

/-- Idle cells `first` to `last` − 1 of a tick leave in the module's train (R126). -/
def sendIdle (s : State) (k first last : Nat) : State :=
  (trainDirs s).foldl (fun s dir => s.emit (.idle k dir (s.parity == 1) first last)) s

/-- The module's train begins with idle cells as the Causeway opens at 61.5 µs: those of the tick that start after it (R126,
R142). -/
def startTrain (s : State) (k : Nat) : State := sendIdle s k 197 200

/-- The Causeway takes the position that the domain and CAUSEWAY_REQ require; closed, neither receiver holds lock. -/
def setCauseway (s : State) (k : Nat) : State :=
  let closed := !s.domOn k || s.flag (F.RING_CTRL.CAUSEWAY_REQ.ring k)
  let was := causewayClosed s k
  let s := s.setFlag (F.RING_STATUS.CAUSEWAY.ring k) closed
  if closed then (s.setFld (lockFld k 0) 0).setFld (lockFld k 1) 0
  else if was then startTrain s k else s

/-- CAUSEWAY_SWITCH: at 61.5 µs of a guard window (R142). -/
def execCausewaySwitch (ring : Nat) (s : State) : Host.Outcome State Fault Refusal :=
  .next (setCauseway (if s.ticking then s.at 61500 else s) ring)

end Sys2Proof.Machine
end

