-- ==== Sys2Proof/Machine/Converter.lean ====
section
/-! DEFINITION. The fast converter groups (R265 to R275): sequences, urgent entries, the sample stream, the entry
statistics, background calibration and the reference proof test. -/

namespace Sys2Proof.Machine

open Sys2Proof

/-! ## The sample stream (R269, R270) -/

/-- The room of a group's FIFO, 4 KiB (R270). -/
def fifoBytes : Nat := 4096

/-- A header, filler or trailer enters a group's FIFO; one without room is lost and flagged (R270, log entry 151). -/
def convPush (s : State) (g : Nat) (bs : List Byte) : State :=
  let x := s.grp g
  s.setGrp g (if x.fifo.length + bs.length ≤ fifoBytes then { x with fifo := x.fifo ++ bs } else { x with overflow := true })

/-- A sample is converted: it saturates at ±32,767; with the FIFO full it is dropped, counted and flagged (R269,
R270). -/
def convSample (g : Nat) (s : State) (v : Int) : State :=
  let v := clampAbs 32767 v
  let x := s.grp g
  let x := { x with got := v :: x.got }
  if x.fifo.length + 2 ≤ fifoBytes then
    s.setGrp g { x with fifo := x.fifo ++ leBytes 2 (BitVec.ofInt 16 v).toNat, kept := x.kept + 1 }
  else
    ((s.setGrp g { x with overflow := true }).count (F.CONV_GRP_ERR.OVERFLOW.item g) 1).note F.CONV_EVENT.OVERFLOW

/-- Samples of the running entry are converted, in order; an entry takes at most its planned count (R266). -/
def convSamples (s : State) (g : Nat) (vs : List Int) : State :=
  match (s.grp g).running with
  | none => s
  | some e => (vs.take (2 ^ e.k - (s.grp g).got.length)).foldl (convSample g) s

/-- The header of an entry that begins at `t` (R266, R269): its first sample is taken 0.5 µs later. -/
def entryHeader (e : FastEntry) (t : DWord) : List Byte :=
  d1 e.ch ++ d1 (b2n e.urgent + 2 * b2n e.rep) ++ [0, 0] ++ leBytes 4 (2 ^ e.k) ++ leBytes 8 (t + 500).toNat

/-- The filler and the trailer of the running entry (R269). -/
def convTrailer (s : State) (g : Nat) (aborted : Bool) : State :=
  let x := s.grp g
  let filler := (List.replicate ((4 - x.kept % 4) % 4) ([0x00, 0x80] : List Byte)).flatten
  let s := s.setGrp g { x with overflow := false }
  convPush s g (filler ++ leBytes 4 x.got.length ++ d1 (b2n aborted + 2 * b2n x.overflow) ++ [0, 0, 0])

/-- Whether a group raises its request line (R270): a burst waits, or bytes wait and no entry runs; not while its domain is
DRAINING or OFF (R317). -/
def convRequests (s : State) (g : Nat) : Bool :=
  let n := (s.grp g).fifo.length
  s.domOn (48 + g) && (decide (8 * 2 ^ s.fld (F.CONV_GRP_CTRL.BURST.item g) ≤ n) || (decide (0 < n) && (s.grp g).running.isNone))

/-! ## Sequences (R266 to R268) -/

/-- An entry of 2^K samples in a register's layout, K at most 16, DIV at least 1 (CONV_GRP_SEQe, CONV_GRP_URGENT). -/
def entryOf (g : Nat) (w : Word) (urgent rep : Bool) : FastEntry :=
  { ch := 8 * g + getBits w 6 4, k := Nat.min 16 (getBits w 12 8), div := Nat.max 1 (getBits w 31 16),
    urgent := urgent, rep := rep }

/-- An entry begins at `t`. -/
def convBegin (s : State) (g : Nat) (e : FastEntry) (t : DWord) : State :=
  let s := s.setGrp g { s.grp g with running := some e, got := [], kept := 0, old := none }
  let s := (s.setFld (F.CONV_GRP_STATUS.STATE.item g) (if e.urgent then 2 else 1)).setFlag
    (F.CONV_GRP_STATUS.REPEAT.item g) e.rep
  convPush s g (entryHeader e t)

/-- Entry `n` of the group's sequence begins. -/
def convEntry (s : State) (g n : Nat) (rep : Bool) (t : DWord) : State :=
  let e := entryOf g (s.reg (itemKey (A.CONV_GRP_SEQ0 + 4 * n) g)) false rep
  convBegin (s.setFld (F.CONV_GRP_STATUS.ENTRY.item g) n) g e t

/-- The group goes idle. -/
def convIdle (s : State) (g : Nat) : State :=
  let s := s.setGrp g { s.grp g with running := none, aborted := false, stopReq := false, old := none }
  ((s.setFld (F.CONV_GRP_STATUS.STATE.item g) 0).setFld (F.CONV_GRP_STATUS.URG.item g) 0).setFlag
    (F.CONV_GRP_STATUS.REPEAT.item g) false

/-- Whether a group can convert: powered and not stopped (R259, R274). -/
def convAble (s : State) (g : Nat) : Bool :=
  s.domOn (48 + g) && !s.flag (F.CONV_GRP_STATUS.STOPPED.item g)

/-- A start is discarded (R267). -/
def convLost (s : State) (g : Nat) : State :=
  (s.note F.CONV_EVENT.START_LOST).count (F.CONV_GRP_ERR.START_LOST.item g) 1

/-- The sequence of a group begins: its actual start is stamped (R192, R266). -/
def sequenceBegins (s : State) (g : Nat) (t : DWord) : State := stampStart (convEntry s g 0 false t) g t

/-- A sequence start arrives at `t` (R266, R267). -/
def startSequence (s : State) (g : Nat) (t : DWord) : State :=
  let x := s.grp g
  if convAble s g = false then s
  else match x.running with
    | none => sequenceBegins s g t
    | some e =>
      if e.urgent && !x.aborted then s.setFlag (F.CONV_GRP_STATUS.HELD.item g) true
      else convLost s g

/-! ## Calibration swaps (R273) -/

/-- A passed spare replaces the active slice that has served longest, which becomes the spare. -/
def sliceSwap (s : State) (g : Nat) : State :=
  let x := s.grp g
  match x.active with
  | [] => s
  | old :: rest =>
    let spare := s.fld (F.CONV_GRP_STATUS.SPARE.item g)
    (s.setGrp g { x with active := rest ++ [spare], swapDue := false }).setFld (F.CONV_GRP_STATUS.SPARE.item g) old

/-- A due swap happens at an entry boundary or while the group is idle. -/
def swapIfDue (s : State) (g : Nat) : State := if (s.grp g).swapDue then sliceSwap s g else s

/-! ## Entry results (R271, R276) -/

/-- Numerator over `fsDen` of a code: s × FS ÷ 32,768 in thousandths of the trim unit, FS 10 V in VIN and 24 mA in
the current modes (R269). -/
def codeNum (m : Nat) (v : Int) : Int := v * (if m = 1 then 10000000000 else 24000000000)
/-- The denominator of `codeNum`. -/
def fsDen : Nat := 32768

/-- The result of a completed entry of a fast-mode channel (R271): items 4 to 7, item 0 and item 3, judged by its
mean (R276); `t` is the entry's end, one period after its last sample. -/
def entryResult (s : State) (e : FastEntry) (got : List Int) (t : DWord) : State :=
  let c := e.ch
  let m := anaMode s c
  if anaFast s c = false ∨ got.isEmpty then s
  else
    let tr := fun (v : Int) => trimmed s c (codeNum m v) fsDen
    let lim := fun (r : Int × Nat) => clampRatio r (anaRange m).1 (anaRange m).2
    let lo := got.foldl (fun a b => if b < a then b else a) (got.headD 0)
    let hi := got.foldl (fun a b => if a < b then b else a) (got.headD 0)
    let n := got.length
    let sum := tr 0
    let mean : Int × Nat := ((got.map (fun v => (tr v).1)).foldl (· + ·) 0, sum.2 * n)
    let last := lim (tr (got.headD 0))
    let items := [lim (tr lo), lim (tr hi), lim mean, lim (rmsRatio (got.map (fun v => (tr v).1)) sum.2)]
    let a := s.anaCh c
    let b := judgeBand s c mean
    let at' := t - BitVec.ofNat 64 (e.div * 50)
    let raw := roundAway (codeNum m (got.headD 0)) fsDen
    let s := s.setAna c { a with cur := some ⟨siOf m last.1, at', t, false, b⟩, next := none, lost := 0, band := b,
                                 stats := items.map (fun i => siOf m i.1), raws := (raw :: a.raws).take 16 }
    let s := s.setFlag (F.ANA_CH_STATUS.OVERRANGE.item c) (last.2 || items.any (fun i => i.2))
    if isCurrentIn m then showBand s c b else s

/-- Put the settings of channel `c`: ANA_CH_CFG, zero and gain. -/
def putSettings (s : State) (c : Nat) (x : Word × Word × Word) : State :=
  ((s.setReg (itemKey A.ANA_CH_CFG c) x.1).setReg (itemKey A.ANA_CH_TRIM_Z c) x.2.1).setReg (itemKey A.ANA_CH_TRIM_G c) x.2.2

/-- The settings of channel `c`. -/
def settingsOf (s : State) (c : Nat) : Word × Word × Word :=
  (s.reg (itemKey A.ANA_CH_CFG c), s.reg (itemKey A.ANA_CH_TRIM_Z c), s.reg (itemKey A.ANA_CH_TRIM_G c))

/-- The result of an entry; one that ran across a Hood switch is judged under the old settings, and reaches no channel whose
mode the switch changed (R100, R267; log entry 150). -/
def entryResultAcross (s : State) (g : Nat) (e : FastEntry) (got : List Int) (t : DWord) : State :=
  match (s.grp g).old with
  | none => entryResult s e got t
  | some x =>
    let now := settingsOf s e.ch
    let s' := putSettings s e.ch x
    if anaMode s' e.ch = anaMode s e.ch then putSettings (entryResult s' e got t) e.ch now else s

/-! ## Ends of entries -/

/-- What follows an urgent entry that ended at `t`: a held urgent one, the aborted entry again, a held start of
the sequence as it now is, or idle (R267, R268). -/
def afterUrgent (s : State) (g : Nat) (t : DWord) : State :=
  let x := s.grp g
  match x.held with
  | some u => convBegin ((s.setGrp g { x with held := none }).setFld (F.CONV_GRP_STATUS.URG.item g) 1) g u t
  | none =>
    let s := s.setFld (F.CONV_GRP_STATUS.URG.item g) 0
    if x.aborted && !x.stopReq then
      convEntry (s.setGrp g { x with aborted := false }) g (s.fld (F.CONV_GRP_STATUS.ENTRY.item g)) true t
    else if s.flag (F.CONV_GRP_STATUS.HELD.item g) then
      sequenceBegins ((s.setGrp g { x with aborted := false, stopReq := false }).setFlag (F.CONV_GRP_STATUS.HELD.item g) false)
        g t
    else convIdle s g

/-- What follows a sequence entry that ended at `t`: the next one, the first again with CONT, or idle (R266). -/
def afterEntry (s : State) (g : Nat) (t : DWord) : State :=
  let n := s.fld (F.CONV_GRP_STATUS.ENTRY.item g)
  if (s.grp g).stopReq then convIdle s g
  else if n < s.fld (F.CONV_GRP_CTRL.LEN.item g) then convEntry s g (n + 1) false t
  else if s.flag (F.CONV_GRP_CTRL.CONT.item g) then convEntry s g 0 false t
  else convIdle s g

/-- ENTRY_END: the last samples of the running entry, its trailer and results, a due slice swap, and what follows;
`ns` is the entry's end (R266 to R271, R273). -/
def execEntryEnd (g : Nat) (samples : List Int) (ns : DWord) (s : State) : Host.Outcome State Fault Refusal :=
  match (s.grp g).running with
  | none => .next s
  | some e =>
    let s := convSamples s g samples
    let got := (s.grp g).got
    let s := entryResultAcross (convTrailer s g false) g e got ns
    let s := swapIfDue s g
    .next (if e.urgent then afterUrgent s g ns else afterEntry s g ns)

/-- A write of CONV_GRP_CTRL (R266, R270): the fields are stored, STOP ends the sequence with the running entry, GO
starts it. -/
def writeGrpCtrl (s : State) (v : Word) : State :=
  let g := s.fld F.CONV_GRP_SEL.GRP
  let s := ((s.setFld (F.CONV_GRP_CTRL.BURST.item g) (Nat.min 4 (getBits v 14 12))).setFld
    (F.CONV_GRP_CTRL.LEN.item g) (getBits v 11 8)).setFlag (F.CONV_GRP_CTRL.CONT.item g) (bit v 2)
  let s := if bit v 1 && (s.grp g).running.isSome then s.setGrp g { s.grp g with stopReq := true } else s
  if bit v 0 then startSequence s g s.now else s

/-- GO: a write of CONV_GRP_CTRL (R266, R267). -/
def execConvGo (v : Word) (s : State) : Host.Outcome State Fault Refusal := .next (writeGrpCtrl s v)

/-- STOP: a write of CONV_GRP_CTRL (R266). -/
def execConvStop (v : Word) (s : State) : Host.Outcome State Fault Refusal := .next (writeGrpCtrl s v)

/-- A write of CONV_GRP_URGENT (R268): `samples` are those of the running entry up to the abort at `t`. -/
def writeUrgent (s : State) (v : Word) (samples : List Int) (t : DWord) : State :=
  let g := s.fld F.CONV_GRP_SEL.GRP
  let e := entryOf g v true false
  let x := s.grp g
  if bit v 0 = false ∨ convAble s g = false then s
  else match x.running with
    | none => convBegin (s.setFld (F.CONV_GRP_STATUS.URG.item g) 1) g e t
    | some r =>
      if r.urgent then
        match x.held with
        | none => (s.setGrp g { x with held := some e }).setFld (F.CONV_GRP_STATUS.URG.item g) 2
        | some _ => s
      else
        let s := convTrailer (convSamples s g samples) g true
        let s := s.setGrp g { s.grp g with aborted := true }
        convBegin (s.setFld (F.CONV_GRP_STATUS.URG.item g) 1) g e t

/-- URGENT_ENTRY: a write of CONV_GRP_URGENT, with what the abort leaves behind (R268). -/
def execUrgentEntry (v : Word) (samples : List Int) (ns : DWord) (s : State) : Host.Outcome State Fault Refusal :=
  .next (writeUrgent s v samples ns)

/-! ## Calibration and proof test (R273 to R275) -/

/-- Whether some group's spare slice is being calibrated. -/
def calibrating (s : State) : Bool := (List.range 4).any (fun g => (s.grp g).calibrating)

/-- Whether no calibration of a group's spare slice can be: the proof test has failed, the group has stopped or has no spare
(R274, R275). -/
def calibrationRefused (s : State) (g : Nat) : Bool :=
  s.flag F.CONV_REF_STATUS.FAIL || !convAble s g || s.fld (F.CONV_GRP_STATUS.SPARE.item g) == 7

/-- Whether a calibration must wait: for the reference, another calibration or a proof test (R273, R275). -/
def calibrationWaits (s : State) : Bool :=
  calibrating s || s.flag F.CONV_REF_STATUS.PROOF_BUSY || !s.flag F.CONV_REF_STATUS.READY

/-- The calibration of a group's spare slice begins. -/
def beginCalibration (s : State) (g : Nat) : State := s.setGrp g { s.grp g with calibrating := true }

/-- A calibration of a group's spare slice falls due: it begins, or waits for what stands before it (R273, R275, R327). -/
def startCalibration (s : State) (g : Nat) : State :=
  if calibrationRefused s g || (liveActivity s 0x0101 g).isSome then s
  else if calibrationWaits s || groupHeld s 0 then newActivity s 0 0x0101 g 0
  else beginCalibration (newActivity s 0 0x0101 g 1) g

/-- CALIBRATION (R273). -/
def execCalibration (g : Nat) (s : State) : Host.Outcome State Fault Refusal := .next (startCalibration s g)

/-- The proof test begins (R275). -/
def beginProof (s : State) : State :=
  (s.setFlag F.CONV_REF_STATUS.PROOF_QUEUED false).setFlag F.CONV_REF_STATUS.PROOF_BUSY true

/-- A proof test falls due: it begins, or waits for what stands before it (R275, R327). -/
def startProof (s : State) : State :=
  if s.flag F.CONV_REF_STATUS.PROOF_BUSY || (liveActivity s 0x0102 0).isSome then s
  else if calibrating s || groupHeld s 0 then newActivity (s.setFlag F.CONV_REF_STATUS.PROOF_QUEUED true) 0 0x0102 0 0
  else beginProof (newActivity s 0 0x0102 0 1)

/-- The oldest waiting activity of the converter reference starts where nothing of the group runs (R273, R275, R327). A
calibration that has become impossible ends as failed (DESIGN CHOICE, log entry 154). -/
def startConvNext (s : State) : State :=
  match oldestWaiting s 0 with
  | none => s
  | some a =>
    if groupRuns s 0 || calibrating s || s.flag F.CONV_REF_STATUS.PROOF_BUSY then s
    else if a.code = 0x0102 then beginProof (setActivity s a.num 1)
    else if calibrationRefused s a.target then setActivity s a.num 3
    else if calibrationWaits s then s
    else beginCalibration (setActivity s a.num 1) a.target

/-- Where no tick runs there is no guard window, and what waits starts at once. -/
def convFollows (s : State) : State := if s.ticking then s else startConvNext s

/-- CAL_DEGRADED of a group's channels: of those in fast mode while the group runs without a spare (R274). -/
def showDegraded (s : State) (g : Nat) : State :=
  (List.range 8).foldl (fun s i =>
    s.setFlag (F.ANA_CH_STATUS.CAL_DEGRADED.item (8 * g + i)) (decide (0 < (s.grp g).retired) && anaFast s (8 * g + i))) s

/-- A slice is retired (R274): the first leaves the group without a spare and its fast channels degraded, a second
stops the group, whose fast-mode items hold their substitutes. -/
def retireSlice (s : State) (g : Nat) : State :=
  let x := s.grp g
  let slice := s.fld (F.CONV_GRP_STATUS.SPARE.item g)
  let s := (s.setGrp g { x with retired := x.retired + 1, fails := 0 }).setFld (F.CONV_GRP_STATUS.SPARE.item g) 7
  let s := (s.note F.CONV_EVENT.SLICE_RETIRED).raise 10 2 g (d1 slice)
  let fast := (List.range 8).filter (fun i => anaFast s (8 * g + i))
  if x.retired = 0 then showDegraded s g
  else
    let s := convIdle (s.setFlag (F.CONV_GRP_STATUS.STOPPED.item g) true) g
    fast.foldl (fun s i => s.setAna (8 * g + i) { s.anaCh (8 * g + i) with cur := none, stats := [] }) s

/-- The outcome of a calibration (R273, R274). -/
def calibrationEnd (s : State) (g : Nat) (pass : Bool) : State :=
  let x := { s.grp g with calibrating := false }
  if pass then
    let s := s.setGrp g { x with fails := 0, swapDue := true }
    if x.running.isNone then sliceSwap s g else s
  else
    let s := (s.setGrp g { x with fails := x.fails + 1 }).note F.CONV_EVENT.CAL_FAIL
    let s := s.count (F.CONV_GRP_ERR.CAL_FAIL.item g) 1
    if 3 ≤ x.fails + 1 then retireSlice s g else s

/-- Whether a calibration passes: offset within 0.05 % of full scale, gain within 0.1 %, skew within 20 ps (R274). -/
def calPasses (r : CalResult) : Bool :=
  decide (r.offset.natAbs ≤ 500000) && decide (r.gain.natAbs ≤ 1000000) && decide (r.skew.natAbs ≤ 20000)

/-- CALIBRATION_DONE (R273 to R275): the outcome; what waits starts at the next guard window (R327). -/
def execCalibrationDone (g : Nat) (result : CalResult) (s : State) : Host.Outcome State Fault Refusal :=
  let pass := calPasses result
  if (s.grp g).calibrating then .next (convFollows (endActivity (calibrationEnd s g pass) 0x0101 pass)) else .next s

/-- PROOF_TEST: the interval CONV_CAL.PROOF_H is over; 0 means off (R275). -/
def execProofTest (s : State) : Host.Outcome State Fault Refusal :=
  .next (if s.fld F.CONV_CAL.PROOF_H = 0 then s else startProof s)

/-- The proof test ends with a deviation in 0.1 ppm; its limit is ±0.02 % (R275). -/
def proofEnd (s : State) (dev : Int) : State :=
  let s := (s.setFlag F.CONV_REF_STATUS.PROOF_BUSY false).setReg A.CONV_REF_DEV (BitVec.ofInt 32 dev)
  if 2000 < dev.natAbs then
    ((s.setFlag F.CONV_REF_STATUS.FAIL true).note F.CONV_EVENT.PROOF_FAIL).raise 10 3 0
      (d4 (BitVec.ofInt 32 dev).toNat)
  else s.setFlag F.CONV_REF_STATUS.FAIL false

/-- PROOF_TEST_DONE (R275). -/
def execProofTestDone (dev : Int) (s : State) : Host.Outcome State Fault Refusal :=
  .next (if s.flag F.CONV_REF_STATUS.PROOF_BUSY then
      convFollows (endActivity (proofEnd s dev) 0x0102 (decide (dev.natAbs ≤ 2000))) else s)

/-- A Hood switch ends the running sequences with their running entries, which complete under the old settings (R267). -/
def convSwitch (s : State) : State :=
  (List.range 4).foldl (fun s g =>
    match (s.grp g).running with
    | none => s
    | some e => s.setGrp g { s.grp g with stopReq := true, old := some (settingsOf s e.ch) }) s

end Sys2Proof.Machine
end

