-- ==== Sys2Proof/Machine/Digital.lean ====
section
/-! DEFINITION. The digital 24 V channels (R286 to R295): the isolated link, input items, outputs and pulses. -/

namespace Sys2Proof.Machine

open Sys2Proof

/-- Change the digital side. -/
def State.withDio (s : State) (f : DioSt → DioSt) : State := { s with dio := f s.dio }

/-- The direction of a channel: 0 input, 1 output, 2 pulse output. -/
def dioDir (s : State) (c : Nat) : Nat := s.fld (F.DIO_CH_CFG.DIR.item c)

/-- The digital unit's power domain, number 52 (R317). -/
def dioOn (s : State) : Bool := s.domOn 52

/-- A word of 32 bits from a test of each bit number. -/
def bitsOf (f : Nat → Bool) : BitVec 32 :=
  BitVec.ofNat 32 ((List.range 32).foldl (fun n c => if f c then n + 2 ^ c else n) 0)

/-- The safe value of an output whose present value is `now`: off, on or hold (R294). -/
def dioSafeValue (s : State) (c : Nat) (now : Bool) : Bool :=
  match s.fld (F.DIO_CH_CFG.SAFE.item c) with
  | 0 => false | 1 => true | _ => now

/-! ## Inputs -/

/-- Whether L+ of a channel's group is present (R293). -/
def supplyOk (s : State) (c : Nat) : Bool := bit (s.reg A.DIO_LINK_STATUS) (4 + c / 8)

/-- Show in DIO_LINK_STATUS.UP whether a valid uplink frame arrived within the 4 µs before `t`. -/
def showUp (s : State) (t : DWord) : State :=
  s.setFlag F.DIO_LINK_STATUS.UP (decide (sdiff t s.dio.lastUp ≤ 4000) && decide (s.dio.lastUp ≠ 0))

/-- The channels of an uplink frame's diagnostics that the field side holds off in overload (R290, R293). -/
def overloadBits (s : State) (f : UplinkFrame) : Nat :=
  (List.range 4).foldl (fun n i => if s.dio.overloaded.contains ((f.diagBase + i) % 32) then n + 2 ^ i else n) 0

/-- The bytes of an uplink frame before its check, big-endian (R293, R354; their order is log entry 176). -/
def uplinkBytes (s : State) (f : UplinkFrame) : List Byte :=
  beBytes 4 f.states.toNat ++ d1 f.supply.toNat ++ d1 (f.diagBase % 32) ++ d1 (16 * overloadBits s f + f.openLoad.toNat)

/-- A valid uplink frame (R289, R293): the sample counts when it arrives by 4 µs after the edge. -/
def takeUplink (s : State) (f : UplinkFrame) : State :=
  let t := edgeNs s.tick + BitVec.ofNat 64 f.ns
  let s := s.withDio (fun d => { d with lastUp := t })
  let s := (s.setFld F.DIO_LINK_STATUS.SUPPLY f.supply.toNat).setFlag F.DIO_LINK_STATUS.UP true
  let s := if f.ns ≤ 4000 then s.withDio (fun d => { d with sample := f.states, sampled := true, fresh := true }) else s
  (List.range 32).foldl (fun s c =>
    let s := (s.setFlag (F.DIO_CH_STATUS.STATE.item c) (f.states.getLsbD c)).setFlag
      (F.DIO_CH_STATUS.NO_SUPPLY.item c) (!f.supply.getLsbD (c / 8))
    let i := (c + 32 - f.diagBase % 32) % 32
    if i < 4 then (s.setFlag (F.DIO_CH_STATUS.OPEN_LOAD.item c) (f.openLoad.getLsbD i && decide (dioDir s c ≠ 0))).setFlag
      (F.DIO_CH_STATUS.OVERLOAD.item c) (s.dio.overloaded.contains c) else s) s

/-- UPLINK_FRAME (R289, R293): a frame whose CRC fails is discarded whole and counted. -/
def execUplinkFrame (f : UplinkFrame) (s : State) : Host.Outcome State Fault Refusal :=
  if dioOn s = false then .next s
  else if f.check = crc16 (uplinkBytes s f) then .next (takeUplink s f)
  else .next (s.count F.DIO_LINK_ERR.CRC 1)

/-- An input item of a channel (R287, R289); the age counts this tick when no sample came. -/
def dioItem (s : State) (c item : Nat) (sub : DWord) : Slot :=
  let d := s.dio
  if dioOn s = false then badSlot sub
  else if item = 0 then
    let age := if d.fresh then 0 else d.age + 1
    if d.sampled = false ∨ supplyOk s c = false ∨ 8 < age then badSlot sub
    else ⟨if d.sample.getLsbD c then 1 else 0, if d.fresh then .good else .stale⟩
  else if item = 2 then ⟨(s.reg (itemKey A.DIO_CH_STATUS c)).setWidth 64, .good⟩
  else badSlot sub

/-! ## Outputs -/

/-- The state at an output's terminal as the field side drives it. -/
def dioDriven (s : State) (c : Nat) : Bool :=
  !s.dio.overloaded.contains c && (s.dio.applied.getLsbD c || s.dio.pulses.contains c)

/-- A word with bit `c` set to a value. -/
def putBit (x : BitVec 32) (c : Nat) (b : Bool) : BitVec 32 :=
  let m : BitVec 32 := BitVec.ofNat 32 (2 ^ c)
  if b then x ||| m else x &&& ~~~m

/-- A pulse output goes to its safe value, which overrides a pulse at once (R291, R292). -/
def pulseSafe (s : State) (c : Nat) : State :=
  let b := dioSafeValue s c (dioDriven s c)
  s.withDio (fun d => { d with commanded := putBit d.commanded c b, pulses := d.pulses.filter (· != c) })

/-- What an output is commanded for the edge after the next one, from the commit of the last tick (R291): GOOD,
SUBSTITUTE and STALE apply the value, BAD holds the last one for one edge and then takes the safe value. -/
def dioCommandOne (s : State) (c : Nat) : State :=
  let d := s.dio
  let put := fun (s : State) (b : Bool) (warn safe : Bool) =>
    let m : BitVec 32 := BitVec.ofNat 32 (2 ^ c)
    let w := fun (x : BitVec 32) => if b then x ||| m else x &&& ~~~m
    let s := s.withDio (fun d => if dioDir s c = 2 then { d with enables := w d.enables, commanded := d.commanded &&& ~~~m }
      else { d with commanded := w d.commanded })
    (s.setFlag (F.DIO_CH_STATUS.WARN.item c) warn).setFlag (F.DIO_CH_STATUS.SAFE.item c) (safe || s.dio.safe)
  let now := if dioDir s c = 2 then d.enables.getLsbD c else d.commanded.getLsbD c
  if dioDir s c = 0 then s
  else match localOutputIn s s.committed 1 (4 * c + 1) with
    | none => s
    | some x =>
      match x.q with
      | .bad =>
        if d.heldOne.contains c then
          if dioDir s c = 2 then pulseSafe (put s false false true) c else put s (dioSafeValue s c now) false true
        else put (s.withDio (fun d => { d with heldOne := c :: d.heldOne })) now false false
      | q =>
        put (s.withDio (fun d => { d with heldOne := d.heldOne.filter (· != c) })) (x.val != 0) (q == .stale) false

/-- The field side applies what the frames of the last tick named for this edge (R291, R293), unless it is in safe
state; then the commands for the next edge are formed, and the sample of the last edge ages. -/
def dioEdge (s : State) : State :=
  let s := showUp s (edgeNs s.tick)
  let s := s.withDio (fun d => { d with age := if d.fresh then 0 else d.age + 1, fresh := false })
  let s := if s.dio.safe then s.withDio (fun d => { d with next := none })
    else match s.dio.next with
      | none => s
      | some (st, en) => s.withDio (fun d => { d with applied := st, fieldEnables := en, next := none })
  if dioOn s && s.running then (List.range 32).foldl dioCommandOne s else s

/-! ## The field side (R293 to R295)

It is powered from L+ and keeps its state through a reset of the module. -/

/-- What an output takes in the safe state, by the field side's own copy: off, on or hold. -/
def fieldValue (s : State) (c : Nat) : Bool :=
  match s.dio.safeTable.getD c 0 with
  | 0 => false | 1 => true | _ => dioDriven s c

/-- The field side drives every output to its safe value (R294): a pulse ends at once. -/
def applySafe (s : State) : State :=
  let ap := bitsOf (fieldValue s)
  let s := s.withDio (fun d => { d with
    applied := ap, fieldEnables := 0, next := none, pulses := [], safe := true })
  let s := (List.range 32).foldl (fun s c =>
    if dioDir s c = 0 then s else s.setFlag (F.DIO_CH_STATUS.SAFE.item c) true) s
  s.setFlag F.DIO_LINK_STATUS.FIELD_SAFE true

/-- The safe state, at once; an entry is recorded, and the valid frames in a row count anew (R291, R294, R295). -/
def fieldSafe (s : State) : State :=
  let t := (applySafe s).withDio (fun d => { d with goodFrames := 0 })
  if s.dio.safe then t else t.raise 11 1 0 []

/-- The field side's copy of the safe values is loaded over the link (R294): before the first tick and at a Hood switch. -/
def loadSafeTable (s : State) : State :=
  let s := s.withDio (fun d => { d with
    safeTable := (List.range 32).map (fun c => if dioDir s c = 0 then 0 else s.fld (F.DIO_CH_CFG.SAFE.item c)),
    tableDue := false })
  if s.dio.safe then applySafe s else s

/-- Whether the module sends the SAFE flag: outside the running states (R291). -/
def sendsSafe (s : State) : Bool := !s.running

/-- A downlink frame (R293). -/
structure Downlink where
  states : BitVec 32
  enables : BitVec 32
  safe : Bool
  edge : Nat
deriving DecidableEq, Repr

/-- The frame that the module sends, naming the next edge. -/
def downlinkNow (s : State) : Downlink := ⟨s.dio.commanded, s.dio.enables, sendsSafe s, (s.tick.toNat + 1) % 256⟩

/-- The bytes of a downlink frame with its CRC-16, big-endian (R293, R354; their order is log entry 176). -/
def downlinkBytes (f : Downlink) : List Byte :=
  let bs := beBytes 4 f.states.toNat ++ beBytes 4 f.enables.toNat ++ d1 (b2n f.safe) ++ d1 f.edge
  bs ++ beBytes 2 (crc16 bs).toNat

/-- The frame that bytes spell: none where the CRC fails (R293). -/
def readDownlink (bs : List Byte) : Option Downlink :=
  if bs.length = 12 ∧ beAt bs 10 2 = (crc16 (bs.take 10)).toNat then
    some ⟨BitVec.ofNat 32 (beAt bs 0 4), BitVec.ofNat 32 (beAt bs 4 4), bit (BitVec.ofNat 32 (u8At bs 8)) 0, u8At bs 9⟩
  else none

/-- A frame as it reaches the field side: the line exclusive-ors its bytes with a pattern, none where the line was clean. -/
def onLine (f : Downlink) (noise : List Byte) : Option Downlink :=
  if noise.all (fun b => b == 0) then some f
  else readDownlink ((List.range 12).map (fun i => (downlinkBytes f).getD i 0 ^^^ noise.getD i 0))

/-- A valid downlink frame at the field side (R291, R293, R295). -/
def takeDownlink (s : State) (f : Downlink) : State :=
  let s := if s.dio.tableDue then loadSafeTable s else s
  if f.safe then fieldSafe s
  else if s.dio.safe then
    let n := s.dio.goodFrames + 1
    if 16 ≤ n then
      let s := s.withDio (fun d => { d with goodFrames := 0, next := some (f.states, f.enables), safe := false })
      let s := s.setFlag F.DIO_LINK_STATUS.FIELD_SAFE false
      (List.range 32).foldl (fun s c => s.setFlag (F.DIO_CH_STATUS.SAFE.item c) false) s
    else s.withDio (fun d => { d with goodFrames := n })
  else s.withDio (fun d => { d with next := some (f.states, f.enables) })

/-- DOWNLINK_FRAME: the module sends a frame naming the next edge, and the field side receives it as the line leaves it; one
whose CRC fails is discarded whole and counted (R293). -/
def execDownlinkFrame (noise : List Byte) (s : State) : Host.Outcome State Fault Refusal :=
  if dioOn s = false then .next s
  else
    let f := downlinkNow s
    let s := s.emit (.downlink (downlinkBytes f))
    match onLine f noise with
    | some f => .next (takeDownlink s f)
    | none => .next ((s.count F.DIO_LINK_ERR.CRC 1).withDio (fun d => { d with goodFrames := 0 }))

/-- LINK_TIMEOUT: no valid downlink frame for DIO_SAFE.TIMEOUT; the field side enters safe state (R294, R295). -/
def execLinkTimeout (s : State) : Host.Outcome State Fault Refusal :=
  if s.dio.safe then .next s
  else .next (fieldSafe (s.count F.DIO_LINK_ERR.SAFE_ENTRIES 1))

/-- OVERLOAD: an overload of a driven output has lasted 5 ms; the field side switches the channel off, and its next uplink
diagnostics show it (R290, R293). -/
def execOverload (ch : Nat) (s : State) : Host.Outcome State Fault Refusal :=
  .next (if dioDriven s ch then s.withDio (fun d => { d with overloaded := ch :: d.overloaded }) else s)

/-- OVERLOAD_RETRY: the channel tries again while item 1 commands 1 (R290). -/
def execOverloadRetry (ch : Nat) (s : State) : Host.Outcome State Fault Refusal :=
  .next (if s.dio.overloaded.contains ch && (s.dio.applied.getLsbD ch || s.dio.fieldEnables.getLsbD ch) then
      s.withDio (fun d => { d with overloaded := d.overloaded.filter (· != ch) })
    else s)

/-! ## An image start (R286, R289, R294) -/

/-- Whether an output's item 1 is a signal of the image. -/
def dioCommandedBy (s : State) (c : Nat) : Bool := (localOutputIn s s.committed 1 (4 * c + 1)).isSome

/-- An output of the image before that the new one does not drive as it did goes to its safe value, the one it had (R286; log
entry 174). -/
def dropOutput (prev s : State) (c : Nat) : State :=
  let was := dioDir prev c
  let now := dioDir s c
  if was = 0 ∨ (was = now ∧ dioCommandedBy s c) then s
  else
    let b := decide (now ≠ 2) && dioSafeValue prev c (dioDriven prev c)
    s.withDio (fun d => { d with
      commanded := putBit d.commanded c b, enables := putBit d.enables c false, heldOne := d.heldOne.filter (· != c) })

/-- The digital side at an image start: outputs that were dropped, no sample yet, the safe values to be loaded. -/
def dioFresh (prev s : State) : State :=
  let s := (List.range 32).foldl (dropOutput prev) s
  s.withDio (fun d => { d with sampled := false, fresh := false, age := 0, tableDue := true })

/-- A trigger of target 0x40 + c reaches a pulse output (R292). -/
def pulseTrigger (s : State) (c : Nat) : State :=
  if dioDir s c ≠ 2 ∨ dioOn s = false ∨ s.dio.fieldEnables.getLsbD c = false ∨
     s.dio.safe ∨ s.dio.overloaded.contains c then s
  else if s.dio.pulses.contains c then s.count F.DIO_LINK_ERR.PULSE_LOST 1
  else s.withDio (fun d => { d with pulses := c :: d.pulses })

/-- PULSE_END: a running pulse has lasted DIO_CH_CFG.PULSE µs (R292). -/
def execPulseEnd (ch : Nat) (s : State) : Host.Outcome State Fault Refusal :=
  .next (s.withDio (fun d => { d with pulses := d.pulses.filter (· != ch) }))

end Sys2Proof.Machine
end

