-- ==== Sys2Proof/Machine/Time.lean ====
section
/-! DEFINITION. The time unit (R173 to R192): acquisition, the servo and its limits, reference selection, residence
of PTP events, ring delays, triggers and captures. -/

namespace Sys2Proof.Machine

open Sys2Proof

/-- Change the time unit's internal state. -/
def State.withTime (s : State) (f : TimeSt → TimeSt) : State := { s with time := f s.time }

/-- Cycle length in ticks of a class index (R36). -/
def classTicks (k : Nat) : Nat := [1, 2, 4, 8, 16, 64, 256, 1024].getD k 1

/-- An asymmetry constant of a plant port or a ring port in 1/256 ns (R183). -/
def asymOf (s : State) (f : Fld) (item : Nat) : Int := signed 24 (s.fld (f.item item))

/-- ASYM_IN of a port, subtracted from every receive stamp (R183); ring port P(p) is item 32 + p. -/
def asymIn (s : State) (item : Nat) : Int := asymOf s F.TIME_PORT_ASYM_IN.ASYM item

/-- ASYM_OUT of a port, added to every transmit stamp (R183). -/
def asymOut (s : State) (item : Nat) : Int := asymOf s F.TIME_PORT_ASYM_OUT.ASYM item

/-- Whether a plant port (1 to 15) has a PTP role: 1 boundary clock, 2 transparent clock (R175). -/
def ptpRole (s : State) (port : Nat) : Nat := if port = 0 then 0 else s.fld (F.TIME_PORT_CFG.ROLE.item (port - 1))

/-- Whether ACQUIRED is set (R176). -/
def State.acquired (s : State) : Bool := s.flag F.TIME_STATUS.ACQUIRED

/-- Whether the selected reference is lost: in holdover, or on the way to it at the next guard window (R179). -/
def refLost (s : State) : Bool := s.flag F.TIME_STATUS.HOLDOVER || s.time.holdoverDue.isSome

/-! ## Reference selection (R179 to R181) -/

/-- The better of two candidates; the first holds a tie. -/
def betterCand (a : Option (Nat × Nat)) (c : Nat × Nat) : Option (Nat × Nat) :=
  match a with
  | none => some c
  | some b => if c.2 < b.2 then some c else some b

/-- The best candidate: port and rank. A candidate that produced a refused sample never qualifies (R177) and is
passed over. -/
def bestCand (t : TimeSt) : Option (Nat × Nat) :=
  (t.cands.filter (fun c => !t.refusedPorts.contains c.1)).foldl betterCand none

/-- The rank of a port's parent. -/
def rankOf (t : TimeSt) (p : Nat) : Option Nat := getAt p t.cands

/-- Whether rank `r` is better than an optional one; any rank is better than none. -/
def rankBetter (r : Nat) (o : Option Nat) : Bool :=
  match o with
  | none => true
  | some q => decide (r < q)

/-- A candidate becomes pending (R180, step 1). -/
def makePending (s : State) (p : Nat) : State :=
  let s := (s.setFld F.TIME_STATUS.SWITCH 1).setFld F.TIME_STATUS.PEND p
  s.withTime (fun t => { t with good := 0, qualified := false })

/-- No switch is under way. -/
def clearPending (s : State) : State :=
  let s := (s.setFld F.TIME_STATUS.SWITCH 0).setFld F.TIME_STATUS.PEND 0
  s.withTime (fun t => { t with good := 0, qualified := false, returning := false })

/-- The module resumes on the reference that was selected before, with no hold-off (R180). -/
def resumeRef (s : State) (p : Nat) : State :=
  let s := (clearPending s).setFld F.TIME_STATUS.REF p
  (s.setFlag F.TIME_STATUS.HOLDOVER false).withTime (fun t => { t with holdoverDue := none, refused := 0 })

/-- Judge the candidates after a change of them: a new pending switch, a cancelled one, a hold-off that begins,
restarts or ends (R180, R181). -/
def reselect (s : State) : State :=
  if !s.acquired then s
  else match bestCand s.time with
  | none => s
  | some (p, r) =>
    let ref := s.fld F.TIME_STATUS.REF
    let pend := s.fld F.TIME_STATUS.PEND
    let held := p == ref && !refLost s
    match s.fld F.TIME_STATUS.SWITCH with
    | 0 =>
      if refLost s then makePending s p
      else if held || !rankBetter r (rankOf s.time ref) then s
      else if s.time.cameDown then (s.setFld F.TIME_STATUS.SWITCH 2).setFld F.TIME_STATUS.PEND p
      else makePending s p
    | 1 =>
      if p = pend || !rankBetter r (rankOf s.time pend) then s
      else
        let s := s.note F.TIME_EVENT.SWITCH_CANCELLED
        if p = s.time.lastRef then resumeRef s p else makePending s p
    | _ =>
      if held then clearPending s
      else if rankBetter r (rankOf s.time pend) then s.setFld F.TIME_STATUS.PEND p
      else s

/-- A reference is lost for a cause (R179): of the selected one r is frozen and holdover is due at the guard window;
a pending or held-off one is dropped and the module stays (R181). -/
def loseReference (s : State) (port cause : Nat) : State :=
  let s := s.withTime (fun t => { t with
    cands := dropAt port t.cands
    acq := if (bestCand t).map Prod.fst = some port then [] else t.acq
    refusedPorts := if cause = 3 then t.refusedPorts else t.refusedPorts.filter (· != port) })
  if !s.acquired then s
  else
    let s := if port = s.fld F.TIME_STATUS.REF && !refLost s then
        s.withTime (fun t => { t with holdoverDue := some cause, refused := 0 }) else s
    let s := if s.fld F.TIME_STATUS.SWITCH != 0 && port == s.fld F.TIME_STATUS.PEND then clearPending s else s
    reselect s

/-- A PTP message on a port without a PTP role lies outside the options: discarded and counted (R175). -/
def outsidePtp (s : State) (port : Nat) : State :=
  if ptpRole s port = 0 then s.count (F.NET_PORT_DISC.PTP_OPT.item port) 1 else s

/-- ANNOUNCE_MESSAGE: an Announce on a boundary-clock port offers a parent; the comparison is made anew (R180, R181). -/
def execAnnounceMessage (port : Nat) (ds : PtpDataset) (s : State) : Host.Outcome State Fault Refusal :=
  if ptpRole s port = 1 then
    let before := (bestCand s.time).map Prod.fst
    let s := s.withTime (fun t => { t with
      cands := putAt port ds.rank t.cands, refRank := if port = t.lastRef then some ds.rank else t.refRank })
    let s := if (bestCand s.time).map Prod.fst = before then s else s.withTime (fun t => { t with acq := [] })
    .next (reselect s)
  else .next (outsidePtp s port)

/-- REFERENCE_LOST: the announce receipt timeout of a port's parent expires (1), its link goes down (2), or its
sixteenth consecutive sample was refused (3) (R179). -/
def execReferenceLost (port cause : Nat) (s : State) : Host.Outcome State Fault Refusal :=
  .next (if (rankOf s.time port).isSome then loseReference s port cause else s)

/-- HOLDOFF_EXPIRY: the better reference must still qualify by R180 (R181). -/
def execHoldoffExpiry (s : State) : Host.Outcome State Fault Refusal :=
  if s.fld F.TIME_STATUS.SWITCH = 2 then
    .next ((makePending s (s.fld F.TIME_STATUS.PEND)).withTime (fun t => { t with returning := true }))
  else .next s

/-- The holdover flags take effect (R179). -/
def enterHoldover (s : State) : State :=
  match s.time.holdoverDue with
  | none => s
  | some cause =>
    let s := (s.setFlag F.TIME_STATUS.HOLDOVER true).note F.TIME_EVENT.HOLDOVER_ENTERED
    let s := s.raise 5 3 s.time.lastRef (d1 cause)
    (s.setFld F.TIME_STATUS.REF 0).withTime (fun t => { t with holdoverDue := none })

/-- The rank of the best reference left for a worse one, after a switch from a reference of rank `ref` to one of rank `rank`;
none once the module is back at one as good (R181). -/
def topAfter (top ref rank : Option Nat) : Option Nat :=
  let best := match ref, rank with
    | some o, some r => if o < r then some (match top with
        | some t => min t o
        | none => o) else top
    | _, _ => top
  match best, rank with
  | some t, some r => if t < r then some t else none
  | _, _ => none

/-- A qualified switch or return commits (R180, R181). -/
def commitSwitch (s : State) : State :=
  let old := s.time.lastRef
  let new := s.fld F.TIME_STATUS.PEND
  let ret := s.time.returning
  let rank := rankOf s.time new
  let top := topAfter s.time.topRank s.time.refRank rank
  let s := ((s.setFld F.TIME_STATUS.REF new).setFlag F.TIME_STATUS.HOLDOVER false).note F.TIME_EVENT.SWITCH_COMMITTED
  let s := clearPending s
  let s := s.withTime (fun t => { t with
    lastRef := new, refRank := rank, cameDown := top.isSome, topRank := top, refused := 0,
    holdoverDue := none })
  let s := if ret then (s.note F.TIME_EVENT.RETURN_DONE).raise 5 5 new (d1 old) else s.raise 5 4 new (d1 old)
  reselect s

/-- TIME_REFERENCE_SWITCH_COMMIT: at 62.0 µs of a guard window (R31, R179, R180). -/
def execTimeReferenceSwitchCommit (s : State) : Host.Outcome State Fault Refusal :=
  if s.ticking then
    let s := enterHoldover (s.at 62000)
    .next (if s.fld F.TIME_STATUS.SWITCH = 1 && s.time.qualified then commitSwitch s else s)
  else .next s

/-! ## Acquisition and servo (R173, R176 to R178) -/

/-- Whether samples lie within 1 µs of each other (R176), in 1/256 ns. -/
def within1us (xs : List Int) : Bool :=
  xs.all (fun a => xs.all (fun b => decide (a - b ≤ 256000)))

/-- Time is acquired: from a port (ACQ_SRC 1) or from the Skerry clock (2, in holdover). -/
def acquire (s : State) (src port : Nat) : State :=
  let s := ((s.setFlag F.TIME_STATUS.ACQUIRED true).setFld F.TIME_STATUS.ACQ_SRC src).setFld F.TIME_STATUS.REF port
  let s := (s.setFlag F.TIME_STATUS.HOLDOVER (src == 2)).raise 5 1 port (d1 src)
  s.withTime (fun t => { t with
    acq := [], acqAt := s.now, acqFrac := s.nowFrac, lastSample := s.now, lastRef := port, refRank := getAt port t.cands, topRank := none, cameDown := false, refused := 0 })

/-- A sample before acquisition, from the best candidate: the sixteenth that agrees steps the counter, once. -/
def acquireSample (s : State) (off : Int) (port : Nat) (refNs : DWord) (refFrac : Nat) : State :=
  let xs := (off :: s.time.acq).take 16
  if xs.length = 16 && within1us xs then acquire (s.setNow refNs refFrac) 1 port
  else s.withTime (fun t => { t with acq := xs })

/-- The jump threshold in 1/256 ns (R177). -/
def jumpLimit (s : State) : Int := clamp 1 1000 (s.fld F.TIME_CTRL.JUMP) * 256000

/-- The refused sample's event and its record, at most one per reference and T1024 cycle (R177). -/
def refuseSample (s : State) (port : Nat) (off : Int) : State :=
  let s := s.note F.TIME_EVENT.JUMP_REFUSED
  let cyc := s.tick / 1024
  if getAt port s.time.jumpRec = some cyc then s
  else (s.raise 5 2 port (leBytes 8 (wrap64 off).toNat)).withTime (fun t => { t with jumpRec := putAt port cyc t.jumpRec })

/-- A value held to ± a limit, and whether the limit clipped it. -/
def limited (b v : Int) : Int × Bool := (clampAbs b v, clampAbs b v != v)

/-- The largest |r| that MAX_PPM permits, in units of 10⁻¹² (R173). -/
def rateLimit (s : State) : Int := (clamp 1 250 (s.fld F.TIME_SERVO.MAX_PPM) : Nat) * 1000000

/-- r held to MAX_PPM, which a write may have lowered (R173, R178). -/
def limitRate (s : State) : State :=
  let (r, out) := limited (rateLimit s) (s.reg A.TIME_RATE).toInt
  if out then (s.setReg A.TIME_RATE (BitVec.ofInt 32 r)).note F.TIME_EVENT.RATE_LIMIT else s

/-- The servo takes a sample: its free output is limited in slew, in magnitude and in change per second (R173, R178); a
sample that ends a gap of more than a second moves r by no more than one second's change. -/
def servo (s : State) (off : Int) (local_ : DWord) : State :=
  let maxPpm := clamp 1 250 (s.fld F.TIME_SERVO.MAX_PPM)
  let slewPpm := min maxPpm (clamp 1 200 (s.fld F.TIME_SERVO.SLEW_PPM))
  let fstep := clamp 1 1000 (s.fld F.TIME_SERVO.FSTEP)
  let r := (s.reg A.TIME_RATE).toInt
  let n := s.time.samples
  let bw := s.fld F.TIME_CTRL.BW
  let (slew, c1) := limited ((slewPpm : Int) * 1000000) (Config.servoSlew n r off bw)
  let (want, c2) := limited (rateLimit s) (Config.servoBase n r off bw + slew)
  let gap := min 1000000000 (max 0 (sdiff local_ s.time.lastSample))
  let (dr, c3) := limited ((fstep : Int) * 10000 * gap / 1000000000) (want - r)
  let (r', c4) := limited (rateLimit s) (r + dr)
  let s := s.setReg A.TIME_RATE (BitVec.ofInt 32 r')
  let s := if c1 || c2 || c3 || c4 then s.note F.TIME_EVENT.RATE_LIMIT else s
  s.withTime (fun t => { t with samples := n + 1, lastSample := local_ })

/-- A sample of the selected reference (R177): to the servo, or refused; 16 refused ones in a row lose it. -/
def selectedSample (s : State) (port : Nat) (off : Int) (local_ : DWord) : State :=
  let s := s.setReg A.TIME_OFFSET (BitVec.ofInt 32 (max (-2147483648) (min 2147483647 off)))
  if decide (off.natAbs ≤ (jumpLimit s).natAbs) then servo (s.withTime (fun t => { t with refused := 0 })) off local_
  else
    let s := (refuseSample s port off).withTime (fun t => { t with refused := t.refused + 1 })
    if 16 ≤ s.time.refused then
      loseReference (s.withTime (fun t => { t with refusedPorts := insertSorted port t.refusedPorts })) port 3
    else s

/-- A sample of another candidate (R177, R180): sixteen in a row within JUMP qualify the pending one; a refused one
disqualifies its candidate. -/
def candidateSample (s : State) (port : Nat) (off : Int) : State :=
  let pending := s.fld F.TIME_STATUS.SWITCH == 1 && port == s.fld F.TIME_STATUS.PEND
  if decide (off.natAbs ≤ (jumpLimit s).natAbs) then
    if pending then s.withTime (fun t => { t with good := t.good + 1, qualified := decide (16 ≤ t.good + 1) }) else s
  else
    let s := (refuseSample s port off).withTime (fun t => { t with refusedPorts := insertSorted port t.refusedPorts })
    let s := if s.fld F.TIME_STATUS.SWITCH != 0 && port == s.fld F.TIME_STATUS.PEND then clearPending s else s
    reselect s

/-- An offset sample of a plant port with its stamps corrected by R183: under either delay mechanism the offset falls by
half of ASYM_IN, from the receive stamp, and rises by half of ASYM_OUT, from the transmit stamp (log entry 116). -/
def correctedOffset (s : State) (port : Nat) (off : Int) : Int := off + (asymOut s (port - 1) - asymIn s (port - 1)) / 2

/-- OFFSET_SAMPLE: a sample `raw` (1/256 ns, own time minus reference time, from uncorrected stamps) at reference time
`refNs` (R176, R177, R183). -/
def execOffsetSample (port : Nat) (raw : Int) (refNs : DWord) (refFrac : Nat) (s : State) :
    Host.Outcome State Fault Refusal :=
  let off := correctedOffset s port raw
  if ptpRole s port != 1 then .next (outsidePtp s port)
  else if (rankOf s.time port).isNone then .next s
  else if !s.acquired then
    .next (if s.mode = stStart && (bestCand s.time).map Prod.fst == some port then
      acquireSample s off port refNs refFrac else s)
  else if port = s.fld F.TIME_STATUS.REF && !refLost s then
    .next (selectedSample s port off (refNs + BitVec.ofInt 64 (off / 256)))
  else .next (candidateSample s port off)

/-- Whether the module sees no running partner (R176). -/
def noRunningPartner (s : State) : Bool :=
  !s.flag F.SYS_SLOT.PARTNER_PRESENT ||
  match s.pair.status with
  | none => false
  | some p => p.state == stStart || p.state == stSafe || p.state == stTamperHold

/-- Whether the partner reports START and is permitted a free start too, where only module A takes it (R176). STATUS does not
say what the partner's image permits and whether its Skerry clock is valid: a free value (log entry 144). -/
def partnerStarting (s : State) : Bool :=
  s.flag F.SYS_SLOT.PARTNER_PRESENT &&
    (s.pair.status.map (fun p => p.state == stStart && Config.partnerFreeStart p.imageSeq)).getD false

/-- FREE_START: the acquisition wait of an image that permits a free start expires (R176). -/
def execFreeStart (s : State) : Host.Outcome State Fault Refusal :=
  let permitted := (s.image.map (fun im => im.freeStart)).getD false
  if s.mode = stStart && !s.acquired && permitted && s.skerry.clockValid && noRunningPartner s &&
     !(partnerStarting s && s.parity == 1) then .next (reselect (acquire s 2 0))
  else .next s

/-- SKERRY_CLOCK_SET: once per second while acquired and not in holdover (R174), in units of 1/32,768 s. -/
def execSkerryClockSet (s : State) : Host.Outcome State Fault Refusal :=
  if s.acquired && !s.flag F.TIME_STATUS.HOLDOVER then
    .next { s with skerry := { s.skerry with
      clock := BitVec.ofNat 64 (s.now.toNat * 32768 / 1000000000), clockValid := true } }
  else .next s

/-- The module's own clockClass: 52 while it is locked to a reference that it selected, 248 before acquisition and in holdover
(R175). No row of the table makes the module send it. -/
def ownClockClass (s : State) : Nat :=
  if s.acquired && !s.flag F.TIME_STATUS.HOLDOVER && s.fld F.TIME_STATUS.REF != 0 then 52 else 248

/-! ## Stamps and residence (R182 to R184) -/

/-- Whether a message is followed by one that carries its residence in two-step operation: Sync by Follow_Up, Pdelay_Resp by
Pdelay_Resp_Follow_Up (R184). -/
def ptpFollowed : PtpKind → Bool
  | .sync | .pdelayResp => true
  | .delayReq | .pdelayReq => false

/-- The mean link delay of a port, measured from stamps of its own that R183 corrects: one transmit and one receive stamp,
of which the mean takes half. -/
def meanLink (s : State) (port : Nat) (raw : Int) : Int := raw - (asymIn s (port - 1) + asymOut s (port - 1)) / 2

/-- PTP_EVENT_MESSAGE: forwarded between transparent-clock ports with the residence added to its correctionField, or
to that of the message that follows it in two-step operation; one of another domain or on a port without a role is discarded
and counted (R175, R184). -/
def execPtpEventMessage (m : PtpEvent) (s : State) : Host.Outcome State Fault Refusal :=
  if ptpRole s m.inPort = 0 || m.domain != s.fld F.TIME_PTP.DOMAIN then
    .next (s.count (F.NET_PORT_DISC.PTP_OPT.item m.inPort) 1)
  else if ptpRole s m.inPort = 2 && ptpRole s m.outPort = 2 && m.inPort != m.outPort then
    let rx := m.rx - asymIn s (m.inPort - 1)
    let tx := m.tx + asymOut s (m.outPort - 1)
    let link := if s.fld F.TIME_PTP.PROFILE = 0 then 0 else meanLink s m.inPort m.linkDelay
    let two := ptpFollowed m.kind && (m.twoStep || s.flag (F.TIME_PORT_CFG.STEP.item (m.outPort - 1)))
    let more := (tx - rx) + link
    let s := s.sendNet m.outPort (.ptp m.outPort m.kind false (m.correction + if two then 0 else more))
    .next (if two then s.sendNet m.outPort (.ptp m.outPort m.kind true (m.followUp + more)) else s)
  else .next s

/-! ## Ring delays (R185 to R187) -/

/-- Stamps of one node: arrival and departure clockwise, arrival and departure counter-clockwise. -/
abbrev NodeStamps := Int × Int × Int × Int

/-- A RING_STAMPS reply: the latched tick and four time values of 9 bytes (R186). -/
def parseStamps (data : List Byte) : NodeStamps :=
  let t := fun o => ((beAt data o 8 * 256 + u8At data (o + 8) : Nat) : Int)
  (t 8, t 17, t 26, t 35)

/-- The mean delay of the link from X to Y, X upstream clockwise (R187). -/
def linkDelay (x y : NodeStamps) : Int := ((y.1 - x.2.1) + (x.2.2.1 - y.2.2.2)) / 2

/-- Delays of the stations in the direction of one train: from the origin's stamps on, each station with its stamps and
the asymmetry of the link that the train enters it by. `cw` tells the direction. -/
def delaysFrom (cw : Bool) (prev : Option (NodeStamps × Int)) : List (Nat × Option NodeStamps × Int) →
    List (Nat × Int)
  | [] => []
  | (_, none, _) :: rest => delaysFrom cw none rest
  | (i, some y, asym) :: rest =>
    match prev with
    | none => delaysFrom cw none rest
    | some (x, d) =>
      let di := d + (if cw then linkDelay x y else linkDelay y x) + asym
      let res := if cw then y.2.1 - y.1 else y.2.2.2 - y.2.2.1
      (i, di) :: delaysFrom cw (some (y, di + res)) rest

/-- The write of one RING_DELAY entry: parameter 0xFF01, the direction, the value in 1/256 ns (R187, log entry 31). -/
def delayRequest (ccw : Bool) (d : Int) : List Byte :=
  beBytes 2 0xFF01 ++ d1 (b2n ccw) ++ beBytes 4 (BitVec.ofInt 32 d).toNat

/-- A delay of a station in one direction: written when it changed by at least 1 ns, or was never written (R187). -/
def putDelay (ring : Nat) (ccw : Bool) (s : State) (e : Nat × Int) : State :=
  let key := ring * 64 + e.1
  let old := (getAt key s.time.delays).getD (none, none)
  let mine := if ccw then old.2 else old.1
  let due := match mine with
    | none => true
    | some d => decide (256 ≤ (e.2 - d).natAbs)
  if due then
    let s := s.withTime (fun t => { t with
      delays := putAt key (if ccw then (old.1, some e.2) else (some e.2, old.2)) t.delays })
    askStation s ring 1 e.1 (delayRequest ccw e.2) .delay
  else s

/-- The stamps of the module end `n` (64 module A, 65 module B) among those given. -/
def endStamps (xs : List StationStamps) (n : Nat) : Option NodeStamps :=
  (xs.find? (fun x => x.station == n)).bind (fun x => x.stamps)

/-- The stamps of an end corrected by R183 at the port that the train leaves from, with the constants that stood when the
stamps were taken: P(2k) at end 64, P(2k+1) at end 65. -/
def portStamps (s : State) (ring n : Nat) (x : NodeStamps) : NodeStamps :=
  let p := 32 + 2 * ring + if n = 64 then 0 else 1
  let (asIn, asOut) := (getAt p s.time.latchAsym).getD (asymIn s p, asymOut s p)
  if n = 64 then (x.1, x.2.1 + asOut, x.2.2.1 - asIn, x.2.2.2)
  else (x.1 - asIn, x.2.1, x.2.2.1, x.2.2.2 + asOut)

/-- The start of a train's walk: the origin's corrected stamps, delay 0. -/
def trainStart (s : State) (ring : Nat) (xs : List StationStamps) (n : Nat) : Option (NodeStamps × Int) :=
  (endStamps xs n).map (fun x => (portStamps s ring n x, 0))

/-- RING_DELAY_UPDATE: after a latch, from the stations' RING_STAMPS replies and the modules' own stamps (64: module A,
65: module B), each station's delay D in the trains this module writes (R187). -/
def execRingDelayUpdate (ring : Nat) (stamps : List StationStamps) (s : State) : Host.Outcome State Fault Refusal :=
  if s.running then
    let st := ringStations s ring
    let row := fun (x : StationRec) => getAt (ring * 64 + x.station) s.time.stamps
    let cwRows := st.map (fun x => (x.station, row x, x.asym))
    let ccwAsym := (st.drop 1).map (fun x => x.asym) ++ [0]
    let ccwRows := ((st.zip ccwAsym).map (fun p => (p.1.station, row p.1, p.2))).reverse
    let stale := st.any (fun x => x.slotStart != 0 && (row x).isNone)
    let doCw := s.mode == stSolo || s.parity == 0
    let doCcw := s.mode == stSolo || s.parity == 1
    let s1 := if doCw then
        (delaysFrom true (trainStart s ring stamps 64) cwRows).foldl (putDelay ring false) s else s
    let s2 := if doCcw then
        (delaysFrom false (trainStart s ring stamps 65) ccwRows).foldl (putDelay ring true) s1 else s1
    let s3 := if stale then s2.note F.TIME_EVENT.RING_DELAY_STALE else s2
    .next (s3.withTime (fun t => { t with stamps := t.stamps.filter (fun e => e.1 / 64 != ring) }))
  else .next s

/-- At an edge of a multiple of 1,024 the stations latch their stamps and the module queues its reads (R186, R187). -/
def queueStampReads (s : State) : State :=
  match s.image with
  | none => s
  | some im =>
    let ports := im.rings.flatMap (fun r => [32 + 2 * r.ring, 33 + 2 * r.ring])
    let s := s.withTime (fun t => { t with latchAsym := ports.map (fun p => (p, asymIn s p, asymOut s p)) })
    (im.stations.filter (fun x => x.slotStart != 0)).foldl
      (fun s x => askStation s x.ring 0 x.station (beBytes 2 0xFF00) .stamps) s

/-! ## Triggers (R189 to R191) -/

/-- Whether a target code is one of R189. -/
def trigTarget (c : Nat) : Bool := decide (c ≤ 3) || (decide (0x20 ≤ c) && decide (c ≤ 0x5F)) || c == 0x80

/-- TIME_TRIG_T of a trigger. -/
def trigT (s : State) (i : Nat) : DWord := s.dword (itemKey A.TIME_TRIG_T_LO i)

/-- Set the next instant of a trigger. -/
def setTrigNext (s : State) (i : Nat) (t : Option DWord) : State :=
  s.withTime (fun x => { x with trigNext := match t with
    | none => dropAt i x.trigNext
    | some n => putAt i n x.trigNext })

/-- How far an instant in whole ns lies behind the time counter, a part of a ns counting as one (R17, R189). -/
def behindNow (s : State) (t : DWord) : Int := sdiff s.now t + if s.nowFrac = 0 then 0 else 1

/-- The first instant of a periodic trigger that lies `behind` ns behind the counter: T, or the first whole period at least
1 µs ahead when T is past (R190). -/
def firstPeriod (behind : Int) (t : DWord) (period : Nat) : DWord :=
  if behind ≤ 0 then t else t + BitVec.ofNat 64 (((behind.toNat + 1000 + period - 1) / period) * period)

/-- Trigger state: 0 idle, 1 armed, 2 fired, 3 missed; ARM reads 1 while armed. -/
def trigState (s : State) (i v : Nat) : State :=
  (s.setFld (F.TIME_TRIG_CTRL.STATE.item i) v).setFld (F.TIME_TRIG_CTRL.ARM.item i) (b2n (v == 1))

/-- Arm a trigger in its mode (R190). -/
def armTrigger (s : State) (i : Nat) : State :=
  let t := trigT s i
  let period := (s.reg (itemKey A.TIME_TRIG_PERIOD i)).toNat
  let cls := s.fld (F.TIME_TRIG_CTRL.CLASS.item i)
  if !trigTarget (s.fld (F.TIME_TRIG_CTRL.TARGET.item i)) then s
  else match s.fld (F.TIME_TRIG_CTRL.MODE.item i) with
  | 0 =>
    if 0 < behindNow s t then (trigState s i 3).note F.TIME_EVENT.TRIG_MISSED
    else setTrigNext (trigState s i 1) i (some t)
  | 1 =>
    if period < 1000 then s
    else setTrigNext (trigState s i 1) i (some (firstPeriod (behindNow s t) t period))
  | 2 =>
    if classTicks cls * 62500 ≤ t.toNat then s
    else
      let c := s.tick - BitVec.ofNat 64 (s.tick.toNat % classTicks cls)
      let inst := edgeNs c + t
      setTrigNext (trigState s i 1) i (if s.ticking && decide (0 < sdiff inst s.now) then some inst else none)
  | _ => s

/-- The effect of a write of TIME_TRIG_CTRL of trigger `i` (R190, R191). -/
def writeTrigCtrl (s : State) (i : Nat) (v : Word) : State :=
  let s := s.setFld (F.TIME_TRIG_CTRL.TARGET.item i) (getBits v 15 8)
  let s := s.setFld (F.TIME_TRIG_CTRL.CLASS.item i) (getBits v 6 4)
  let s := s.setFld (F.TIME_TRIG_CTRL.MODE.item i) (getBits v 2 1)
  let s := setTrigNext (trigState s i 0) i none
  if bit v 0 then armTrigger s i else s

/-- TRIGGER_ARM: the forwarded write of TIME_TRIG_CTRL takes effect. -/
def execTriggerArm (trig : Nat) (v : Word) (s : State) : Host.Outcome State Fault Refusal :=
  .next (writeTrigCtrl s trig v)

/-- A start reaches a target (R189). -/
def deliverStart (s : State) (i target : Nat) (t : DWord) : State :=
  let s := s.emit (.trigger target t)
  if target ≤ 3 then startSequence s target t
  else if target < 0x40 then
    let c := target - 0x20
    if s.fld (F.ANA_CH_CFG.ISTART.item c) = 1 then anaStart s c t else s
  else if target < 0x60 then pulseTrigger s (target - 0x40)
  else s.raise 15 1 i []

/-- TRIGGER_FIRE: an armed trigger's instant is reached (R189). -/
def execTriggerFire (trig : Nat) (s : State) : Host.Outcome State Fault Refusal :=
  match getAt trig s.time.trigNext with
  | none => .next s
  | some t =>
    if s.fld (F.TIME_TRIG_CTRL.STATE.item trig) != 1 then .next s
    else
      let s := deliverStart (s.setNow t 0) trig (s.fld (F.TIME_TRIG_CTRL.TARGET.item trig)) t
      .next (match s.fld (F.TIME_TRIG_CTRL.MODE.item trig) with
        | 0 => setTrigNext (trigState s trig 2) trig none
        | 1 => setTrigNext s trig (some (t + (s.reg (itemKey A.TIME_TRIG_PERIOD trig)).setWidth 64))
        | _ => setTrigNext s trig none)

/-- A cycle start of a class: its armed triggers get the instant edge c + T (R189). -/
def triggerCycle (s : State) (cls : Nat) : State :=
  (List.range 64).foldl (fun s i =>
    if s.fld (F.TIME_TRIG_CTRL.STATE.item i) = 1 && s.fld (F.TIME_TRIG_CTRL.MODE.item i) == 2 &&
       s.fld (F.TIME_TRIG_CTRL.CLASS.item i) == cls then setTrigNext s i (some (edgeNs s.tick + trigT s i)) else s) s

/-! ## Captures (R192) -/

/-- CAPTURE: a selected edge of a unit's source outside the converters is stamped, with the source's delay removed (R192,
R288). -/
def execCapture (cap : Nat) (ns : DWord) (frac : Nat) (rising : Bool) (s : State) : Host.Outcome State Fault Refusal :=
  let source := s.fld (F.TIME_CAP_CTRL.SOURCE.item cap)
  .next (if capOutside source && capEdge (s.fld (F.TIME_CAP_CTRL.EDGE.item cap)) rising then
      stampUnit s cap (ns - BitVec.ofNat 64 (captureDelay s source)) frac else s)

/-- The effect of a read of TIME_CAP_T_LO of the selected unit: the high word and the fraction are latched, NEW
clears (R192). -/
def captureLowRead (s : State) (who : Requester) : State :=
  let cap := s.fld F.TIME_CAP_SEL.CAP
  let s := (s.latch who A.TIME_CAP_T_HI (s.reg (itemKey A.TIME_CAP_T_HI cap))).latch who A.TIME_CAP_T_FRAC
    (s.reg (itemKey A.TIME_CAP_T_FRAC cap))
  s.setFlag (F.TIME_CAP_CTRL.NEW.item cap) false

/-- CAPTURE_READ. -/
def execCaptureRead (who : Requester) (s : State) : Host.Outcome State Fault Refusal := .next (captureLowRead s who)

end Sys2Proof.Machine
end

