-- ==== Sys2Proof/Machine/Acyclic.lean ====
section
/-! DEFINITION. Acyclic transactions (R143 to R146): tags and generations, replies, timeouts, and the shadow-table
loads that the crown holder's loader makes with them (R95, R146). -/

namespace Sys2Proof.Machine

open Sys2Proof

/-- The tags in use on a ring (R146). -/
def tagsInUse (r : RingSt) : List Nat := r.reqs.filterMap (fun q => q.tag)

/-- Show the number of tags in use (RING_ACYC). -/
def showTags (s : State) (k : Nat) : State :=
  s.setFld (F.RING_ACYC.OUTSTANDING.ring k) (tagsInUse (s.ring k)).length

/-- Replace a ring's requests. -/
def setReqs (s : State) (k : Nat) (qs : List AcycReq) : State := showTags (s.setRing k { s.ring k with reqs := qs }) k

/-- Give the first waiting request a tag. -/
def tagFirst (tag : Nat) (now : DWord) : List AcycReq → List AcycReq
  | [] => []
  | q :: qs => if q.tag.isNone then { q with tag := some tag, sent := now } :: qs else q :: tagFirst tag now qs

/-- The cells that a tick gives the requests of a module: 16 to 47 (R143). -/
@[reducible] def requestWindow : Nat := 32

/-- How many cells of the tick have begun to leave by the instant that the time counter shows (R126). -/
def cellsBegun (s : State) : Nat := if s.ticking then 2 * (sdiff s.now (edgeNs s.tick)).toNat / 625 + 1 else 0

/-- The first waiting request leaves with the lowest free tag in the next cells of 16 to 47 that can hold it whole and have
not begun to leave; what this tick can hold no more waits for the next (R143, R144, R146; log entry 35). -/
def sendRequest (s : State) (k : Nat) : State :=
  let r := s.ring k
  let first := max (16 + r.window) (cellsBegun s)
  match r.reqs.find? (fun q => q.tag.isNone), (List.range 256).find? (fun t => !(tagsInUse r).contains t) with
  | some q, some tag =>
    let n := acyclicCells q.data.length
    if 16 + requestWindow < first + n then s
    else
      let dir := s.parity == 1
      let s := setReqs (s.setRing k { r with window := first + n - 16 }) k (tagFirst tag s.tick r.reqs)
      s.emit (.acyclic k dir (requestCells first tag (r.gens.contains tag) q.svc q.station dir dir q.data))
  | _, _ => s

/-- ACYCLIC_REQUEST_SEND: a waiting request leaves in cells 16 to 47 of this tick (R143). -/
def execAcyclicRequestSend (ring : Nat) (s : State) : Host.Outcome State Fault Refusal :=
  .next (if s.domOn ring && !causewayClosed s ring then sendRequest s ring else s)

/-! ## Shadow tables (R95, R146) -/

/-- The image whose tables are loaded: the armed one. -/
def stagedStation (s : State) (ring station : Nat) : Option StationRec :=
  match s.loader.img with
  | none => none
  | some im => im.stations.find? (fun x => x.ring == ring && x.station == station)

/-- Change the loader's internal state. -/
def State.withLoader (s : State) (f : Loader → Loader) : State := { s with loader := f s.loader }

/-- Whether a shadow load is that of a station. -/
def isLoad (ring station : Nat) (l : ShadowLoad) : Bool := l.ring == ring && l.station == station

/-- The requests that carry a station's table: its bytes in order, at most 1,880 in each (R144; log entry 130). -/
def askLoad (s : State) (x : StationRec) : State :=
  let parts := (List.range ((x.bytes.length + acyclicMax - 1) / acyclicMax)).map
    (fun i => (x.bytes.drop (acyclicMax * i)).take acyclicMax)
  parts.foldl (fun s p => askStation s x.ring 2 x.station p (.loader x.station false)) s

/-- Start a station's load: service 2 with its table (R95, R144). -/
def startLoad (s : State) (x : StationRec) : State :=
  askLoad (s.withLoader (fun l => { l with
    shadow := ⟨x.ring, x.station, 1, false⟩ :: l.shadow.filter (fun e => !isLoad x.ring x.station e) })) x

/-- The requests of a station's load that still wait or are outstanding. -/
def loadsLeft (s : State) (ring station : Nat) : Bool :=
  (s.ring ring).reqs.any (fun q => q.owner == .loader station false)

/-- The requests of a station's load are given up: what waits is withdrawn, what is outstanding has no owner more. -/
def dropLoads (s : State) (ring station : Nat) : State :=
  setReqs s ring (((s.ring ring).reqs.filter (fun q => !(q.owner == .loader station false && q.tag.isNone))).map
    (fun q => if q.owner == .loader station false then { q with owner := .gone } else q))

/-- The shadow load of a station ends; unconfirmed it writes a recorder event (R360). -/
def endLoad (s : State) (ring station : Nat) (ok : Bool) : State :=
  let tries := ((s.loader.shadow.find? (isLoad ring station)).map (fun l => l.tries)).getD 1
  let s := s.withLoader (fun l => { l with shadow := l.shadow.filter (fun e => !isLoad ring station e) })
  if ok then s.setFld (stnFld F.RING_STN_STATE.SHADOW_OK ring station) 1
  else s.raise 6 5 (ring * 64 + station) (d1 tries)

/-- A reply to a shadow-table service (R146): a load, of a long table its last part, is followed by its confirmation, whose 48 bytes must equal the
SHA-384 of the table. -/
def shadowReply (s : State) (ring station : Nat) (confirm : Bool) (status : Nat) (data : List Byte) : State :=
  match stagedStation s ring station with
  | none => s
  | some x =>
    if status != 0 then endLoad (dropLoads s ring station) ring station false
    else if confirm then endLoad s ring station (data == sha384 x.bytes)
    else if loadsLeft s ring station then s
    else
      let s := s.withLoader (fun l => { l with
        shadow := l.shadow.map (fun e => if isLoad ring station e then { e with confirming := true } else e) })
      askStation s ring 3 station [] (.loader station true)

/-- A shadow-table service timed out: the load is repeated at most three times (R146). -/
def shadowTimeout (s : State) (ring station : Nat) : State :=
  match stagedStation s ring station, s.loader.shadow.find? (isLoad ring station) with
  | some x, some l =>
    let s := dropLoads s ring station
    if l.tries ≤ 3 then
      let s := s.withLoader (fun m => { m with
        shadow := m.shadow.map (fun e =>
          if isLoad ring station e then { e with tries := e.tries + 1, confirming := false } else e) })
      askLoad s x
    else endLoad s ring station false
  | _, _ => s

/-! ## Replies and timeouts -/

/-- A reply reaches the requester (R144, R207). -/
def deliverReply (s : State) (ring : Nat) (q : AcycReq) (f : AcycView) : State :=
  match q.owner with
  | .host slot write =>
    let op := if write then 0x51 else 0x50
    if f.status = 0 then
      if !write && sessPort s slot == 0 && decide (1024 < f.data.length) then finishWaiting s slot op rcSize []
      else finishWaiting s slot op rcOk (if write then [] else f.data)
    else finishWaiting s slot op rcState []
  | .loader station confirm => shadowReply s ring station confirm f.status f.data
  | .stamps =>
    if f.status = 0 then
      s.withTime (fun t => { t with stamps := putAt (ring * 64 + q.station) (parseStamps f.data) t.stamps })
    else s
  | .cable =>
    if f.status = 0 then
      let r := s.ring ring
      s.setRing ring { r with cableCounts := putAt q.station f.data r.cableCounts }
    else s
  | .delay | .gone => s

/-- The acyclic slot start of a station: that of the running image, of a station that only the armed image has the armed
image's, whose first table the loader asks it to take (R95, R143); 0 without acyclic service. -/
def slotStart (s : State) (ring station : Nat) : Nat :=
  match (ringStations s ring).find? (fun x => x.station == station) with
  | some x => x.slotStart
  | none => ((stagedStation s ring station).map (fun x => x.slotStart)).getD 0

/-- How far a stamp, corrected at the port of the frame, lies from the start of a station's slot, in 1/256 ns (R145,
R183). -/
def slotError (s : State) (k owner : Nat) (f : AcycFrame) : Int :=
  (f.stamp : Int) - asymIn s (32 + 2 * k + b2n f.oddPort) - (slotStart s k owner : Int) * 256

/-- A reply in its slot: its tag and generation decide (R146). -/
def receiveReply (s : State) (k : Nat) (f : AcycView) : State :=
  let r := s.ring k
  match r.reqs.find? (fun q => q.tag == some f.tag) with
  | none => s.count (F.RING_ACYC.STALE_REPLY.ring k) 1
  | some q =>
    if r.gens.contains f.tag != f.gen then s.count (F.RING_ACYC.STALE_REPLY.ring k) 1
    else deliverReply (setReqs s k (r.reqs.filter (fun x => x.tag != some f.tag))) k q f

/-- An acyclic frame of this module's train, by its first cell: outside its OWNER's slot it is discarded by its start stamp
alone, and late where OWNER is a station (R145); then the rest of the frame counts. -/
def receiveAcyclic (s : State) (k : Nat) (rx : AcycFrame) (first : Cell) : State :=
  if slotStart s k first.owner = 0 ∨ 250 * 256 < (slotError s k first.owner rx).natAbs then
    if first.owner < 64 then s.count (stnFld F.RING_STN_LATE.LATE k first.owner) 1 else s
  else match readAcyclic rx with
    | none => s
    | some f => receiveReply s k f

/-- ACYCLIC_FRAME: an acyclic frame arrives at a locked receiver of a ring (R127, R128, R144, R145). Of the partner's train
it is passed on (R123). -/
def execAcyclicFrame (ring : Nat) (f : AcycFrame) (s : State) : Host.Outcome State Fault Refusal :=
  .next (if receiverOn s ring f.oddPort then
      let cells := lockedCells f.cells
      let s := forwardCells s ring f.oddPort f.cells
      let s := receiveCells s ring f.oddPort (cells.filter lineMissed).length
        (cells.filter (fun l => !lineMissed l && (l.map (fun x => (readCell x).bad)).getD false)).length
        (missRun 0 0 (f.cells.map lineMissed)).isSome
      match (f.cells.headD none).map readCell with
      | some c => if !c.missed && c.type == 2 && b2n c.origin == s.parity then receiveAcyclic s ring f c else s
      | none => s
    else s)

/-! ## Cable test (R146, R327) -/

/-- A ring cable test begins: no station has reported counts of it yet (R146). -/
def startCableTest (s : State) (k : Nat) : State := s.setRing k { s.ring k with cableCounts := [] }

/-- Whether a cable test of a ring runs. -/
def cableTestRuns (s : State) (k : Nat) : Bool := s.acts.any (fun a => a.code == 0x0301 && a.target == k && a.state == 1)

/-- A cable test has ended: every station of the ring is asked for its counts by service 5 (R146; log entry 166). -/
def askCounts (s : State) (k : Nat) : State :=
  (ringStations s k).foldl (fun s x => askStation s k 5 x.station [] .cable) s

/-- The idle cells of a tick of a ring's train: those that no cyclic frame takes, of which a cable test fills the acyclic
window, cells 16 to 47 (R126, R143, R146). -/
def sendTrain (s : State) (k : Nat) : State :=
  if ringSends s k then
    let frame := match s.image with
      | none => 0
      | some im => if s.ticking then ((im.rings.find? (fun r => r.ring == k)).map (fun r => r.cells)).getD 0 else 0
    let s := sendIdle s k frame 200
    if cableTestRuns s k then (trainDirs s).foldl (fun s dir => s.emit (.cableTest k dir (s.parity == 1) 16 48)) s else s
  else s

/-- Invert a tag's generation bit. -/
def flipGen (gens : List Nat) (tag : Nat) : List Nat :=
  if gens.contains tag then gens.filter (· != tag) else insertSorted tag gens

/-- What a timeout means to the requester. -/
def deliverTimeout (s : State) (ring : Nat) (q : AcycReq) : State :=
  match q.owner with
  | .host slot write => finishWaiting s slot (if write then 0x51 else 0x50) rcTimeout []
  | .loader station _ => shadowTimeout s ring station
  | .stamps | .gone | .cable => s
  | .delay => s.withTime (fun t => { t with delays := dropAt (ring * 64 + q.station) t.delays })

/-- ACYCLIC_TIMEOUT: a tag without a reply after ACYC_TIMEOUT ticks (R146). -/
def execAcyclicTimeout (ring tag : Nat) (s : State) : Host.Outcome State Fault Refusal :=
  let r := s.ring ring
  match r.reqs.find? (fun q => q.tag == some tag) with
  | none => .next s
  | some q =>
    if (s.tick - q.sent).toNat < s.fld (F.RING_CTRL.ACYC_TIMEOUT.ring ring) then .next s
    else
      let s := s.setRing ring { r with gens := flipGen r.gens tag }
      let s := setReqs s ring (r.reqs.filter (fun x => x.tag != some tag))
      .next (deliverTimeout (s.count (F.RING_ACYC.TIMEOUT.ring ring) 1) ring q)

end Sys2Proof.Machine
end

