-- ==== Sys2Proof/Machine/Tasks.lean ====
section
/-! DEFINITION. What runs on the logical cores: the order of work in the compute window (R41), activations (R50),
charging (R45), faults (R69, R70), checkpoints with their comparison, retry and vote (R73 to R76, R88, R89), the
start of a verdict self-test (R80, R81), and the frame of every Aidon instruction. -/

namespace Sys2Proof.Machine

open Sys2Proof

/-! ## Scheduling -/

/-- The first task of a list that has not reached its end in this cycle. -/
def firstUnended (s : State) (ks : List TaskRec) : Option TaskRec := ks.find? (fun k => !(s.task k.task).ended)

/-- The order of work on a logical core (R41): shaft-feed tasks, other T1 tasks, one slice of each class that has
not had its slice, then classes with work left, fastest first. -/
def nextTask (s : State) (j : Nat) : Option TaskRec :=
  let ks := coreTasks s j
  let ofClass := fun (c : Nat) => ks.filter (fun k => k.cls == c)
  let groups := [ks.filter (fun k => k.cls == 0 && k.shaftFeed), ofClass 0] ++
    (([1, 2, 3, 4, 5, 6, 7].filter (fun c => !(s.core j).sliced.contains c)).map ofClass) ++
    ([1, 2, 3, 4, 5, 6, 7].map ofClass)
  groups.findSome? (firstUnended s)

/-- The place past the last word that PC can name (R49, R58). -/
@[reducible] def lastPc : Nat := 262144

/-- The PC of a word, or of the place past the last one. -/
def pcAt (n : Nat) : BitVec 19 := BitVec.ofNat 19 (min n lastPc)

/-- An activation starts (R50, R72, R74). -/
def activate (t : TaskSt) (k : TaskRec) : TaskSt :=
  let r := { TaskRegs.fresh with pc := pcAt k.entry }
  { t with regs := r, active := true, charged := 0, cycles := 0, savedCycles := 0, boundHit := false,
           staging := [], sig := 0xFFFFFFFFFFFFFFFF, syn := [], unresolved := false, saved := r, undo := [], undoFull := false, retry := false,
           retryFault := false }

/-- A logical core takes its next work; a task whose activation is in progress resumes with its state. -/
def dispatchCore (s : State) (j : Nat) : State :=
  if (s.core j).inWindow then
    match nextTask s j with
    | none => s.setCore j { s.core j with cur := none }
    | some k =>
      let t := s.task k.task
      let s := if t.active then s else s.setTask k.task (activate t k)
      s.setCore j { s.core j with cur := some k.task }
  else s.setCore j { s.core j with cur := none }

/-- The task that runs on a logical core. -/
def currentTask (s : State) (j : Nat) : Option TaskRec :=
  match (s.core j).cur with
  | none => none
  | some i =>
    match (coreTasks s j).find? (fun k => k.task == i) with
    | none => none
    | some k => if (s.task i).active then some k else none

/-! ## Charging -/

/-- The bound W of a task in the admitted proof (R43). -/
def taskW (s : State) (i : Nat) : Nat :=
  match s.image with
  | none => 0
  | some im => match im.budget.tasks.find? (fun b => b.task == i) with
    | none => 0
    | some b => b.w

/-- Charge an instruction. Re-executed cycles do not count against W again: while a segment is re-executed the charge
grows only where the cycles that led to this place pass those already charged (R45, R75). Claimed work counts for the
core's peak (TICK_CORE_PEAK). -/
def chargeTask (s : State) (j : Nat) (k : TaskRec) (cost : Nat) : State :=
  let t := s.task k.task
  let c := s.core j
  let s := if c.sliced.contains k.cls then s else s.setCore j { c with used := c.used + cost }
  let m := t.cycles + cost
  let n := if t.retry then max t.charged m else t.charged + cost
  let w := taskW s k.task
  if w < n ∧ t.boundHit = false then
    ((s.setTask k.task { t with charged := n, cycles := m, boundHit := true }).note F.TICK_OVR.BOUND_EXCEEDED).raiseAt
      t.cycle 1 3 k.task (d1 k.cls ++ d1 j ++ d1 0 ++ d1 0 ++ d4 w ++ d4 n)
  else s.setTask k.task { t with charged := n, cycles := m }

/-! ## Verdict self-test start -/

/-- A verdict self-test starts: this tick is its tick m (R80). -/
def beginVerdict (s : State) (trigger : Nat) : State :=
  let s := (s.setFlag F.CHK_STATUS.VERDICT_BUSY true).raise 3 3 0 (d1 trigger)
  let s := { s with check := { s.check with
    verdictAt := some s.tick, verdictTrigger := trigger, memBad := false, imageBad := false } }
  s.strait 7 0 [1, 1]

/-- A verdict self-test falls due: it starts, or waits for a split that was accepted or is in progress, and none starts while
one runs or waits (R80, R81). One that MAINT_START asks for also waits behind the splits that wait; one that a mismatch asks
for does not (R327; DESIGN CHOICE, log entry 152). -/
def startVerdict (s : State) (trigger : Nat) : State :=
  if s.flag F.CHK_STATUS.VERDICT_BUSY || s.flag F.CHK_STATUS.VERDICT_QUEUED then s
  else if s.flag F.CHK_STATUS.SPLIT_BUSY || groupRuns s 1 || (trigger == 3 && groupHeld s 1) then
    newActivity { s.setFlag F.CHK_STATUS.VERDICT_QUEUED true with check := { s.check with queuedTrigger := some trigger } }
      1 0x0202 0 0
  else beginVerdict (newActivity s 1 0x0202 0 1) trigger

/-! ## Task faults -/

/-- What a fault leaves beside R69: the region guard shows a refusal, the memory system counts an uncorrectable
error (R231, R241). -/
def faultNotes (s : State) (j : Nat) (f : AFault) : State :=
  match f with
  | .guard a w c => guardRefuse s j a w c
  | .memory p => s.memError p
  | _ => s

/-- A task fault (R69, R70): the task stops, its staging list is discarded, it counts as having reached its end,
the fault is recorded, and the consecutive-fault count may disable the task. -/
def taskFault (s : State) (j : Nat) (k : TaskRec) (pc : Nat) (f : AFault) : State :=
  let t := s.task k.task
  let s := faultNotes s j f
  let s := s.setTask k.task { t with active := false, ended := true, staging := [], undo := [], undoFull := false,
                                     retry := false, first := false }
  let s := s.setReg A.CORE_FAULT_SUM (s.reg A.CORE_FAULT_SUM ||| BitVec.ofNat 32 (2 ^ j))
  let s := ((s.setFld (F.CORE_FAULT_INFO.KIND.item j) f.code).setFld (F.CORE_FAULT_INFO.CLASS.item j) k.cls).setFld
    (F.CORE_FAULT_INFO.TASK.item j) k.task
  let s := (s.setFld (F.CORE_FAULT_PC.PC.item j) pc).setDword (itemKey A.CORE_FAULT_TICK_LO j) t.cycle
  let s := s.count (F.CORE_FAULT_COUNT.COUNT.item j) 1
  let s := s.count (F.CORE_TASK_STATE.CONSEC.item k.task) 1
  let n := s.fld (F.CORE_TASK_STATE.CONSEC.item k.task)
  let s := s.raiseAt t.cycle 2 1 k.task (d1 f.code ++ d1 k.cls ++ d1 j ++ d1 n ++ d4 pc)
  let s := if s.fld F.CORE_CTRL.FAULT_LIMIT ≤ n ∧ s.flag (F.CORE_TASK_STATE.DISABLED.item k.task) = false then
      (s.setFlag (F.CORE_TASK_STATE.DISABLED.item k.task) true).raiseAt t.cycle 2 2 k.task (d1 k.cls ++ d1 j)
    else s
  dispatchCore s j

/-! ## Checkpoints -/

/-- Write back one undo entry (R75, R76); a word of DRAM is written as any other store writes it, so its page counts for a
state copy (R170). -/
def undoOne (i : Nat) (s : State) (e : UndoEntry) : State :=
  match e.place with
  | .data a => let t := s.task i; s.setTask i { t with data := putDword t.data a e.old }
  | .edge a => let t := s.task i; s.setTask i { t with edges := putDword t.edges a e.old }
  | .dram a => { s with mem := putDword s.mem a e.old }.touch [.addr (a / 8)]

/-- Write back every word of the undo log. -/
def undoAll (s : State) (i : Nat) : State := (s.task i).undo.foldl (undoOne i) s

/-- Show a mismatch in CHK_MISMATCH_INFO (04, CHK register block). -/
def mismatchInfo (s : State) (j : Nat) (k : TaskRec) (kind member : Nat) : State :=
  ((((s.setFld F.CHK_MISMATCH_INFO.KIND kind).setFld F.CHK_MISMATCH_INFO.LCORE j).setFld
    F.CHK_MISMATCH_INFO.MEMBER member).setFld F.CHK_MISMATCH_INFO.CLASS k.cls).setFld
    F.CHK_MISMATCH_INFO.TASK k.task

/-- Show a mismatch that was resolved by retry or by vote (R75, R88). -/
def mismatchResolved (s : State) (j : Nat) (k : TaskRec) (kind member : Nat) : State :=
  let s := s.setReg A.CHK_MISMATCH (s.reg A.CHK_MISMATCH ||| BitVec.ofNat 32 (2 ^ j))
  (mismatchInfo s j k kind member).raiseAt (s.task k.task).cycle 3 1 k.task (d1 kind ++ d1 j ++ d1 k.cls ++ d1 member)

/-- A mismatch is unresolved (R76): the logged words return, the task stops and counts as finished, the module is
unclean and tests itself. -/
def mismatchUnresolved (s : State) (j : Nat) (k : TaskRec) (kind : Nat) : State :=
  let s := undoAll s k.task
  let t := s.task k.task
  let s := s.setTask k.task { t with active := false, ended := true, staging := [], undo := [], undoFull := false,
                                     retry := false, first := false, unresolved := true }
  let s := s.setReg A.CHK_UNRESOLVED (s.reg A.CHK_UNRESOLVED ||| BitVec.ofNat 32 (2 ^ j))
  let s := (mismatchInfo s j k kind 0).unclean
  let s := s.raiseAt t.cycle 3 2 k.task (d1 kind ++ d1 j ++ d1 k.cls ++ d1 0)
  dispatchCore (startVerdict s 1) j

/-- A mismatch in a pair (R75, R76): the segment is re-executed once from the saved state, unless it was a retry
or the undo log was full. Of a retry whose undo log was full as well KIND shows 2 and not 3, which R76 does not order (DESIGN
CHOICE, log entry 158). -/
def pairMismatch (s : State) (j : Nat) (k : TaskRec) (oneHalf : Bool) : State :=
  let t := s.task k.task
  if t.retry then mismatchUnresolved s j k 2
  else if t.undoFull then mismatchUnresolved s j k 3
  else
    let s := undoAll s k.task
    let t := s.task k.task
    s.setTask k.task { t with regs := t.saved, cycles := t.savedCycles, staging := [], undo := [],
                              sig := 0xFFFFFFFFFFFFFFFF, syn := [], retry := true, retryFault := oneHalf }

/-- The staging list is handed on: a T1 task's outputs enter the output image, the others' the class output buffer
(R30, R38, R53). -/
def handOn (s : State) (k : TaskRec) (xs : List (Nat × Slot)) : State :=
  if k.cls = 0 then (xs.foldl (fun s e => s.setOut e.1 e.2) s).touch (xs.map (fun e => .outSlot e.1))
  else
    let c := s.cls k.cls
    (s.setCls k.cls { c with buffer := xs.foldl (fun m e => putAt e.1 e.2 m) c.buffer }).touch
      (xs.map (fun e => .clsOut k.cls e.1))

/-- The registers folded into the signature at a checkpoint, in the order R72 names them. -/
def checkpointBytes (r : TaskRegs) : List Byte :=
  leBytes 4 r.pc.toNat ++ leBytes 8 r.wa.toNat ++ d1 r.qa.code ++ leBytes 8 r.wb.toNat ++ d1 r.qb.code ++
    d1 (b2n r.ba) ++ d1 r.bq.code ++ leBytes 4 r.ix.toNat ++ d1 (flagsWord r.flags).toNat

/-- The pages that a segment has written, for a state copy that runs: the words its undo log names, all of the task's data
where no log names them, and the saved context (R74, R86, R170). -/
def touchSegment (s : State) (k : TaskRec) (t : TaskSt) : State :=
  let logged : List MemPlace := t.undo.map (fun e => match e.place with
    | .data a => .data k.task (a / 8)
    | .edge a => .edge k.task (a / 8)
    | .dram a => .addr (a / 8))
  let rest : List MemPlace :=
    if t.undoFull || s.coreMode == 1 then
      (List.range ((k.dataSize + 7) / 8)).map (fun w => .data k.task w) ++ t.edges.map (fun e => .edge k.task (e.1 / 8))
    else []
  (s.touch (logged ++ rest)).markPages [Config.statePage 0 k.task]

/-- A checkpoint passes (R30, R38, R53, R72, R74, R75); at END the activation ends and the consecutive-fault count
returns to 0 (R69). -/
def passCheckpoint (s : State) (j : Nat) (k : TaskRec) (isEnd : Bool) : State :=
  let t := s.task k.task
  let s := touchSegment (handOn s k t.staging) k t
  let s := if t.retry then mismatchResolved s j k (if t.retryFault then 4 else 1) 0 else s
  let t' := { t with staging := [], undo := [], undoFull := false, retry := false, retryFault := false,
                     saved := t.regs, savedCycles := t.cycles, sig := 0xFFFFFFFFFFFFFFFF, syn := [] }
  if isEnd then
    let s := s.setTask k.task { t' with active := false, ended := true, first := false }
    dispatchCore (s.setFld (F.CORE_TASK_STATE.CONSEC.item k.task) 0) j
  else s.setTask k.task t'

/-- The physical members that are compared on a logical core: a pair's two halves unless one is out for a split or
a failed proof test, a triplet's members neither halted nor excluded, none in independent mode (R73, R84, R86,
R88, R89). -/
def members (s : State) (j : Nat) : List Nat :=
  if s.coreMode = 0 then
    if s.check.degraded.contains j ||
       (s.flag F.CHK_STATUS.SPLIT_BUSY && s.fld F.CHK_SPLIT_STATUS.LCORE == j) then [0]
    else [0, 1]
  else if s.coreMode = 2 then
    [0, 1, 2].filter (fun i => !s.check.halted.contains (3 * j + i) && !bit (s.reg A.CHK_ODD) (3 * j + i))
  else [0]

/-- The odd member of a triplet by vote: none when all agree, the member when two others agree (R88). -/
def oddMember {α : Type} [DecidableEq α] (a b c : α) : Option (Option Nat) :=
  if a = b ∧ b = c then some none
  else if b = c then some (some 0)
  else if a = c then some (some 1)
  else if a = b then some (some 2)
  else none

/-- A member that receives a state copy differs no more (R84, R88). -/
def forgetMember (s : State) (j i : Nat) : State :=
  (coreTasks s j).foldl (fun s k => s.setTask k.task { s.task k.task with syn := (s.task k.task).syn.set i 0 }) s

/-- A triplet member was odd: halted until the guard, counted, excluded at ODD_LIMIT within a T1024 cycle (R88,
R89). -/
def memberOdd (s : State) (j : Nat) (k : TaskRec) (i : Nat) : State :=
  let m := 3 * j + i
  let n := (getAt m s.check.odd).getD 0 + 1
  let s := { s with check := { s.check with odd := putAt m n s.check.odd, halted := m :: s.check.halted } }
  let s := forgetMember s j i
  let s := mismatchResolved s j k 5 i
  if s.fld F.CHK_CTRL.ODD_LIMIT ≤ n then
    (s.setReg A.CHK_ODD (s.reg A.CHK_ODD ||| BitVec.ofNat 32 (2 ^ m))).raise 3 6 j (d1 i)
  else s

/-- The members' own signatures differ by what upsets did since the last checkpoint (R72). -/
def addSyn (xs ys : List DWord) : List DWord :=
  (List.range (max xs.length ys.length)).map (fun i => xs.getD i 0 ^^^ ys.getD i 0)

/-- An upset that no comparison has met yet stays in the members' signatures. -/
def struckTask (t : TaskSt) (up : Upset) : TaskSt := if up.syn = [] then t else { t with syn := addSyn t.syn up.syn }

/-- What member `i` of a core shows where members are compared: its signature with the registers folded in, and whether
it alone met another fault (R71 to R73). -/
def memberView (t : TaskSt) (up : Upset) (i : Nat) : DWord × Nat :=
  (crc64From t.sig (checkpointBytes t.regs) ^^^ t.syn.getD i 0 ^^^ up.syn.getD i 0,
   if up.odd.contains i then i + 1 else 0)

/-- The members of a core are compared at a checkpoint or a fault (R71, R73, R75, R86, R88): what the instruction does
follows where they agree, with the majority of a triplet too; a pair that differs retries. A triplet without a majority shows
KIND 6 whatever its undo log (DESIGN CHOICE, log entry 158). -/
def compareMembers (s : State) (j : Nat) (k : TaskRec) (up : Upset) (go : State → State) : State :=
  let view := memberView (s.task k.task) up
  match members s j with
  | [a, b, c] =>
    match oddMember (view a) (view b) (view c) with
    | none => mismatchUnresolved s j k 6
    | some none => go s
    | some (some i) => go (memberOdd s j k i)
  | [a, b] => if view a = view b then go s else pairMismatch s j k (!up.odd.isEmpty)
  | _ => go s

/-! ## The frame of an instruction -/

/-- The code area of a logical core (R217). -/
def codeArea (s : State) (j : Nat) : List Word :=
  match s.image with
  | none => []
  | some im => (getAt j im.code).getD []

/-- What the fetch of `size` words at `pc` meets: MEMORY on an uncorrectable word, ILLEGAL beyond the end of the
code area (R68). -/
def fetchFault (s : State) (j pc size : Nat) : Option AFault :=
  let n := min lastPc (codeArea s j).length
  (List.range size).findSome? (fun i =>
    if s.isBad (.code j (pc + i)) then some (.memory (.code j (pc + i)))
    else if n ≤ pc + i then some .illegal else none)

/-- Whether the code at `pc` is an instruction's: its words, as far as they can be fetched (R55). -/
def spells (s : State) (j pc : Nat) (ws : List Word) : Bool :=
  (List.range ws.length).all (fun i =>
    (fetchFault s j pc (i + 1)).isSome || (codeArea s j)[pc + i]? == ws[i]?)

/-- An instruction on core `j` with its cost: the words at PC must be the instruction's (log entry 46), the fetch is
judged, the cycles are charged, and the effect runs with PC at the next instruction. A fault is taken by R69 where the
members agree on it, and a fault that one member alone meets is a mismatch at this instruction (R71, R73, R88). A core
that runs no task leaves the state as it is (log entry 20). -/
def runInstr (j : Nat) (up : Upset) (i : Instr) (cost : TaskSt → Nat) (fx : AEffect) (s : State) : State :=
  match currentTask s j with
  | none => s
  | some k =>
    let pc := (s.task k.task).regs.pc.toNat
    if spells s j pc (codeOf i) then
      match fetchFault s j pc (codeOf i).length with
      | some f => compareMembers (chargeTask s j k 1) j k up (fun s => taskFault s j k pc f)
      | none =>
        let s := chargeTask s j k (cost (s.task k.task))
        let res := fun (s : State) =>
          let t := s.task k.task
          fx s k { t with regs := { t.regs with pc := pcAt (pc + (codeOf i).length) } }
        let act := fun (up : Upset) (s : State) =>
          match res s with
          | .error f => taskFault s j k pc f
          | .ok (s', t') => s'.setTask k.task (struckTask t' up)
        if up.odd.isEmpty && (res s).toBool then act up s else compareMembers s j k up (act ⟨[], []⟩)
    else s

/-- An instruction whose effect is on the task's registers alone. -/
def regInstr (j : Nat) (up : Upset) (i : Instr) (cost : Nat) (f : TaskRegs → TaskRegs) (s : State) : State :=
  runInstr j up i (fun _ => cost) (fun s _ t => .ok (s, { t with regs := f t.regs })) s

/-- An instruction with a fixed cost. -/
def oneWord (j : Nat) (up : Upset) (i : Instr) (cost : Nat) (fx : AEffect) (s : State) : State :=
  runInstr j up i (fun _ => cost) fx s

end Sys2Proof.Machine
end

