-- ==== Sys2Proof/Machine/AidonArith.lean ====
section
/-! DEFINITION. The Aidon integer arithmetic and compare instructions (R57, R60). WB is the left operand. -/

namespace Sys2Proof.Machine

open Sys2Proof

/-- A bitwise operation: WA ← WB op WA, QA the higher quality (R54). -/
def bitwise (f : DWord → DWord → DWord) (r : TaskRegs) : TaskRegs :=
  { r with wa := f r.wb r.wa, qa := r.qb.max r.qa }

/-- An exact signed operation of WB and WA (R60). -/
def exactOp (f : Int → Int → Int) (r : TaskRegs) : TaskRegs :=
  intResult r (f r.wb.toInt r.wa.toInt) (r.qb.max r.qa)

/-- A signed division or remainder truncated toward zero; by zero WA ← 0, DZ and BAD (R60). -/
def divOp (f : Int → Int → Int) (r : TaskRegs) : TaskRegs :=
  if r.wa = 0 then divByZero r else exactOp f r

/-- ADD (R57, R60). -/
def execAdd (core : Nat) (up : Upset) (s : State) : Host.Outcome State Fault Refusal :=
  .next (regInstr core up (.add core up) 1 (fun r => exactOp (fun b a => b + a) r) s)

/-- SUB (R57, R60). -/
def execSub (core : Nat) (up : Upset) (s : State) : Host.Outcome State Fault Refusal :=
  .next (regInstr core up (.sub core up) 1 (fun r => exactOp (fun b a => b - a) r) s)

/-- MUL (R57, R60). -/
def execMul (core : Nat) (up : Upset) (s : State) : Host.Outcome State Fault Refusal :=
  .next (regInstr core up (.mul core up) 3 (fun r => exactOp (fun b a => b * a) r) s)

/-- DIV: truncated toward zero (R57, R60). -/
def execDiv (core : Nat) (up : Upset) (s : State) : Host.Outcome State Fault Refusal :=
  .next (regInstr core up (.div core up) 20 (fun r => divOp (fun b a => b.tdiv a) r) s)

/-- MOD: the remainder of DIV, with the sign of WB (R57, R60). -/
def execMod (core : Nat) (up : Upset) (s : State) : Host.Outcome State Fault Refusal :=
  .next (regInstr core up (.mod core up) 20 (fun r => divOp (fun b a => b.tmod a) r) s)

/-- WAND (R57, R60). -/
def execWand (core : Nat) (up : Upset) (s : State) : Host.Outcome State Fault Refusal :=
  .next (regInstr core up (.wand core up) 1 (fun r => bitwise (fun b a => b &&& a) r) s)

/-- WOR (R57, R60). -/
def execWor (core : Nat) (up : Upset) (s : State) : Host.Outcome State Fault Refusal :=
  .next (regInstr core up (.wor core up) 1 (fun r => bitwise (fun b a => b ||| a) r) s)

/-- WXOR (R57, R60). -/
def execWxor (core : Nat) (up : Upset) (s : State) : Host.Outcome State Fault Refusal :=
  .next (regInstr core up (.wxor core up) 1 (fun r => bitwise (fun b a => b ^^^ a) r) s)

/-- WNOT (R57, R60). -/
def execWnot (core : Nat) (up : Upset) (s : State) : Host.Outcome State Fault Refusal :=
  .next (regInstr core up (.wnot core up) 1 (fun r => { r with wa := ~~~r.wa }) s)

/-- NEG (R57, R60). -/
def execNeg (core : Nat) (up : Upset) (s : State) : Host.Outcome State Fault Refusal :=
  .next (regInstr core up (.neg core up) 1 (fun r => intResult r (-r.wa.toInt) r.qa) s)

/-- ABS (R57, R60). -/
def execAbs (core : Nat) (up : Upset) (s : State) : Host.Outcome State Fault Refusal :=
  .next (regInstr core up (.abs core up) 1 (fun r => intResult r (r.wa.toInt.natAbs : Int) r.qa) s)

/-- SHL by imm [5:0] (R57). -/
def execShl (core : Nat) (up : Upset) (amount : Nat) (s : State) : Host.Outcome State Fault Refusal :=
  .next (regInstr core up (.shl core up amount) 1 (fun r => { r with wa := r.wa <<< amount }) s)

/-- SHR by imm [5:0] (R57). -/
def execShr (core : Nat) (up : Upset) (amount : Nat) (s : State) : Host.Outcome State Fault Refusal :=
  .next (regInstr core up (.shr core up amount) 1 (fun r => { r with wa := r.wa >>> amount }) s)

/-- SAR by imm [5:0] (R57). -/
def execSar (core : Nat) (up : Upset) (amount : Nat) (s : State) : Host.Outcome State Fault Refusal :=
  .next (regInstr core up (.sar core up amount) 1 (fun r => { r with wa := r.wa.sshiftRight amount }) s)

/-- ADDK: WA + imm, WB and QA unchanged (R54, R57, R60). -/
def execAddk (core : Nat) (up : Upset) (imm : BitVec 24) (s : State) : Host.Outcome State Fault Refusal :=
  .next (regInstr core up (.addk core up imm) 1 (fun r => intResult r (r.wa.toInt + imm.toInt) r.qa) s)

/-- EQ (R57). -/
def execEq (core : Nat) (up : Upset) (s : State) : Host.Outcome State Fault Refusal :=
  .next (regInstr core up (.eq core up) 1 (fun r => cmpResult r (decide (r.wb = r.wa))) s)

/-- NE (R57). -/
def execNe (core : Nat) (up : Upset) (s : State) : Host.Outcome State Fault Refusal :=
  .next (regInstr core up (.ne core up) 1 (fun r => cmpResult r (decide (r.wb ≠ r.wa))) s)

/-- LT (R57). -/
def execLt (core : Nat) (up : Upset) (s : State) : Host.Outcome State Fault Refusal :=
  .next (regInstr core up (.lt core up) 1 (fun r => cmpResult r (decide (r.wb.toInt < r.wa.toInt))) s)

/-- LE (R57). -/
def execLe (core : Nat) (up : Upset) (s : State) : Host.Outcome State Fault Refusal :=
  .next (regInstr core up (.le core up) 1 (fun r => cmpResult r (decide (r.wb.toInt ≤ r.wa.toInt))) s)

/-- GT (R57). -/
def execGt (core : Nat) (up : Upset) (s : State) : Host.Outcome State Fault Refusal :=
  .next (regInstr core up (.gt core up) 1 (fun r => cmpResult r (decide (r.wa.toInt < r.wb.toInt))) s)

/-- GE (R57). -/
def execGe (core : Nat) (up : Upset) (s : State) : Host.Outcome State Fault Refusal :=
  .next (regInstr core up (.ge core up) 1 (fun r => cmpResult r (decide (r.wa.toInt ≤ r.wb.toInt))) s)

/-- LTU (R57). -/
def execLtu (core : Nat) (up : Upset) (s : State) : Host.Outcome State Fault Refusal :=
  .next (regInstr core up (.ltu core up) 1 (fun r => cmpResult r (decide (r.wb.toNat < r.wa.toNat))) s)

/-- GEU (R57). -/
def execGeu (core : Nat) (up : Upset) (s : State) : Host.Outcome State Fault Refusal :=
  .next (regInstr core up (.geu core up) 1 (fun r => cmpResult r (decide (r.wa.toNat ≤ r.wb.toNat))) s)

end Sys2Proof.Machine
end

