-- ==== Sys2Proof/Machine/AidonBit.lean ====
section
/-! DEFINITION. The Aidon bit logic and nesting instructions (Bit logic and Nesting of R57, R54). -/

namespace Sys2Proof.Machine

open Sys2Proof

/-- A bit load: BA and BQ from the operand (R57). -/
def loadBit (space idx : Nat) (f : Bool → Bool) : AEffect := fun s k t =>
  match bitOperand s k t space idx with
  | .error e => .error e
  | .ok (b, q) => .ok (s, { t with regs := { t.regs with ba := f b, bq := q } })

/-- A bit operation of BA with the operand; BQ is the higher of the two qualities (R54, R57). -/
def opBit (space idx : Nat) (f : Bool → Bool → Bool) : AEffect := fun s k t =>
  match bitOperand s k t space idx with
  | .error e => .error e
  | .ok (b, q) => .ok (s, { t with regs := { t.regs with ba := f t.regs.ba b, bq := t.regs.bq.max q } })

/-- A conditional bit store: the faults come from the encoding whatever BA holds (R57). -/
def setBitIf (space idx : Nat) (v : Bool) : AEffect := fun s k t =>
  if t.regs.ba then storeBit s k t space idx v t.regs.bq
  else match storeCheck s k space idx (idx / 8 + 1) with
    | .error e => .error e
    | .ok () => .ok (s, t)

/-- A push onto the nesting stack: eight entries (R57). -/
def nestPush (op : NestOp) : AEffect := fun s _ t =>
  if 8 ≤ t.regs.nest.length then .error .nest
  else .ok (s, { t with regs := { t.regs with nest := ⟨t.regs.ba, t.regs.bq, op⟩ :: t.regs.nest } })

/-- The pending operation applied: b op BA (R57). -/
def nestApply (op : NestOp) (b a : Bool) : Bool :=
  match op with
  | .and => b && a | .andNot => b && !a | .or => b || a | .orNot => b || !a | .xor => b ^^ a

/-- LD (R57). -/
def execLd (core : Nat) (up : Upset) (space idx : Nat) (s : State) : Host.Outcome State Fault Refusal :=
  .next (oneWord core up (.ld core up space idx) 3 (loadBit space idx (fun b => b)) s)

/-- LDN (R57). -/
def execLdn (core : Nat) (up : Upset) (space idx : Nat) (s : State) : Host.Outcome State Fault Refusal :=
  .next (oneWord core up (.ldn core up space idx) 3 (loadBit space idx (fun b => !b)) s)

/-- AND (R57). -/
def execAndB (core : Nat) (up : Upset) (space idx : Nat) (s : State) : Host.Outcome State Fault Refusal :=
  .next (oneWord core up (.andB core up space idx) 3 (opBit space idx (fun a b => a && b)) s)

/-- ANDN (R57). -/
def execAndn (core : Nat) (up : Upset) (space idx : Nat) (s : State) : Host.Outcome State Fault Refusal :=
  .next (oneWord core up (.andn core up space idx) 3 (opBit space idx (fun a b => a && !b)) s)

/-- OR (R57). -/
def execOrB (core : Nat) (up : Upset) (space idx : Nat) (s : State) : Host.Outcome State Fault Refusal :=
  .next (oneWord core up (.orB core up space idx) 3 (opBit space idx (fun a b => a || b)) s)

/-- ORN (R57). -/
def execOrn (core : Nat) (up : Upset) (space idx : Nat) (s : State) : Host.Outcome State Fault Refusal :=
  .next (oneWord core up (.orn core up space idx) 3 (opBit space idx (fun a b => a || !b)) s)

/-- XOR (R57). -/
def execXorB (core : Nat) (up : Upset) (space idx : Nat) (s : State) : Host.Outcome State Fault Refusal :=
  .next (oneWord core up (.xorB core up space idx) 3 (opBit space idx (fun a b => a ^^ b)) s)

/-- XORN (R57). -/
def execXorn (core : Nat) (up : Upset) (space idx : Nat) (s : State) : Host.Outcome State Fault Refusal :=
  .next (oneWord core up (.xorn core up space idx) 3 (opBit space idx (fun a b => a ^^ !b)) s)

/-- ST (R53, R57). -/
def execSt (core : Nat) (up : Upset) (space idx : Nat) (s : State) : Host.Outcome State Fault Refusal :=
  .next (oneWord core up (.st core up space idx) 2 (fun s k t => storeBit s k t space idx t.regs.ba t.regs.bq) s)

/-- STN (R53, R57). -/
def execStn (core : Nat) (up : Upset) (space idx : Nat) (s : State) : Host.Outcome State Fault Refusal :=
  .next (oneWord core up (.stn core up space idx) 2 (fun s k t => storeBit s k t space idx (!t.regs.ba) t.regs.bq) s)

/-- S (R53, R57). -/
def execSetB (core : Nat) (up : Upset) (space idx : Nat) (s : State) : Host.Outcome State Fault Refusal :=
  .next (oneWord core up (.setB core up space idx) 2 (setBitIf space idx true) s)

/-- RST (R53, R57). -/
def execRst (core : Nat) (up : Upset) (space idx : Nat) (s : State) : Host.Outcome State Fault Refusal :=
  .next (oneWord core up (.rst core up space idx) 2 (setBitIf space idx false) s)

/-- NOT (R57). -/
def execNotB (core : Nat) (up : Upset) (s : State) : Host.Outcome State Fault Refusal :=
  .next (regInstr core up (.notB core up) 1 (fun r => { r with ba := !r.ba }) s)

/-- SET1 (R57). -/
def execSet1 (core : Nat) (up : Upset) (s : State) : Host.Outcome State Fault Refusal :=
  .next (regInstr core up (.set1 core up) 1 (fun r => { r with ba := true, bq := .good }) s)

/-- SET0 (R57). -/
def execSet0 (core : Nat) (up : Upset) (s : State) : Host.Outcome State Fault Refusal :=
  .next (regInstr core up (.set0 core up) 1 (fun r => { r with ba := false, bq := .good }) s)

/-- AP (R57). -/
def execAp (core : Nat) (up : Upset) (s : State) : Host.Outcome State Fault Refusal :=
  .next (oneWord core up (.ap core up) 1 (nestPush .and) s)

/-- ANP (R57). -/
def execAnp (core : Nat) (up : Upset) (s : State) : Host.Outcome State Fault Refusal :=
  .next (oneWord core up (.anp core up) 1 (nestPush .andNot) s)

/-- OP (R57). -/
def execOpB (core : Nat) (up : Upset) (s : State) : Host.Outcome State Fault Refusal :=
  .next (oneWord core up (.opB core up) 1 (nestPush .or) s)

/-- ONP (R57). -/
def execOnp (core : Nat) (up : Upset) (s : State) : Host.Outcome State Fault Refusal :=
  .next (oneWord core up (.onp core up) 1 (nestPush .orNot) s)

/-- XP (R57). -/
def execXp (core : Nat) (up : Upset) (s : State) : Host.Outcome State Fault Refusal :=
  .next (oneWord core up (.xp core up) 1 (nestPush .xor) s)

/-- POP: BA ← b op BA, BQ the higher of q and BQ (R57). -/
def execPop (core : Nat) (up : Upset) (s : State) : Host.Outcome State Fault Refusal :=
  .next (oneWord core up (.pop core up) 1 (fun s _ t =>
    match t.regs.nest with
    | [] => .error .nest
    | e :: es => .ok (s, { t with regs := { t.regs with
        nest := es, ba := nestApply e.op e.ba t.regs.ba, bq := e.bq.max t.regs.bq } })) s)

end Sys2Proof.Machine
end

