-- ==== Sys2Proof/Machine/AidonControl.lean ====
section
/-! DEFINITION. The Aidon control instructions and the undefined opcode (Control of R57, R58, R55, R68). Every
meaning acts on the task that runs on the core the command names. -/

namespace Sys2Proof.Machine

open Sys2Proof

/-- A signed jump offset (format J). -/
def jumpOff (off : BitVec 24) : Int := off.toInt

/-- PC moved by an offset relative to the word after the instruction. A target that no code word can have is a place past
the last word: the next fetch is beyond the end of the code area (R68; log entry 123). -/
def movePc (r : TaskRegs) (off : BitVec 24) : TaskRegs :=
  let a := (r.pc.toNat : Int) + off.toInt
  { r with pc := if 0 ≤ a then pcAt a.toNat else pcAt lastPc }

/-- A forward jump: BACKJUMP for a negative offset (R57, R58). -/
def jumpTo (t : TaskSt) (off : BitVec 24) : Except AFault TaskSt :=
  if jumpOff off < 0 then .error .backjump else .ok { t with regs := movePc t.regs off }

/-- A conditional forward jump. A negative offset faults only where the jump is taken: R57 makes it a JMP if the condition
holds, R58 and R68 name the fault without a condition (DESIGN CHOICE, log entry 157). -/
def jumpIf (c : Bool) (off : BitVec 24) : AEffect := fun s _ t =>
  if c then (jumpTo t off).map (fun t' => (s, t')) else .ok (s, t)

/-- NOP (R57). -/
def execNop (core : Nat) (up : Upset) (s : State) : Host.Outcome State Fault Refusal :=
  .next (regInstr core up (.nop core up) 1 (fun r => r) s)

/-- The faults of END: the stacks must be empty, judged nesting, loop, call (R57, R68). -/
def endFault (r : TaskRegs) : Option AFault :=
  if r.nest ≠ [] then some .nest else if r.loops ≠ [] then some .loop
  else if r.calls ≠ [] then some .callstack else none

/-- CHKP and END: 24 + n cycles, n the staged slots. The members are compared, their stacks at END with them (R71), and
the fault of END or the checkpoint follows. -/
def runCheckpoint (j : Nat) (up : Upset) (i : Instr) (isEnd : Bool) (s : State) : State :=
  match currentTask s j with
  | none => s
  | some k =>
    let pc := (s.task k.task).regs.pc.toNat
    if spells s j pc (codeOf i) then
      match fetchFault s j pc 1 with
      | some f => compareMembers (chargeTask s j k 1) j k up (fun s => taskFault s j k pc f)
      | none =>
        let s := chargeTask s j k (24 + (s.task k.task).staging.length)
        let t := s.task k.task
        let s := s.setTask k.task { t with regs := { t.regs with pc := pcAt (pc + 1) } }
        compareMembers s j k up (fun s =>
          match (if isEnd then endFault t.regs else none) with
          | some f => taskFault s j k pc f
          | none => passCheckpoint s j k isEnd)
    else s

/-- END (R57, R73 to R76, R88). -/
def execEndTask (core : Nat) (up : Upset) (s : State) : Host.Outcome State Fault Refusal :=
  .next (runCheckpoint core up (.endTask core up) true s)

/-- CHKP (R53, R73 to R76, R88). -/
def execChkp (core : Nat) (up : Upset) (s : State) : Host.Outcome State Fault Refusal :=
  .next (runCheckpoint core up (.chkp core up) false s)

/-- JMP (R57, R58). -/
def execJmp (core : Nat) (up : Upset) (off : BitVec 24) (s : State) : Host.Outcome State Fault Refusal :=
  .next (oneWord core up (.jmp core up off) 3 (jumpIf true off) s)

/-- JT: as JMP if BA = 1 (R57). -/
def execJt (core : Nat) (up : Upset) (off : BitVec 24) (s : State) : Host.Outcome State Fault Refusal :=
  .next (oneWord core up (.jt core up off) 3 (fun s k t => jumpIf t.regs.ba off s k t) s)

/-- JF: as JMP if BA = 0 (R57). -/
def execJf (core : Nat) (up : Upset) (off : BitVec 24) (s : State) : Host.Outcome State Fault Refusal :=
  .next (oneWord core up (.jf core up off) 3 (fun s k t => jumpIf (!t.regs.ba) off s k t) s)

/-- CALL: the return address is pushed; a 17th entry faults (R57). -/
def execCall (core : Nat) (up : Upset) (off : BitVec 24) (s : State) : Host.Outcome State Fault Refusal :=
  .next (oneWord core up (.call core up off) 4 (fun s _ t =>
    if 16 ≤ t.regs.calls.length then .error .callstack
    else .ok (s, { t with regs := movePc { t.regs with calls := t.regs.pc :: t.regs.calls } off })) s)

/-- RET: PC is popped from the call stack (R57). -/
def execRet (core : Nat) (up : Upset) (s : State) : Host.Outcome State Fault Refusal :=
  .next (oneWord core up (.ret core up) 4 (fun s _ t =>
    match t.regs.calls with
    | [] => .error .callstack
    | a :: as => .ok (s, { t with regs := { t.regs with pc := a, calls := as } })) s)

/-- LPB: a count of 0 is ILLEGAL, a 5th entry a LOOP fault (R57). -/
def execLpb (core : Nat) (up : Upset) (count : Nat) (s : State) : Host.Outcome State Fault Refusal :=
  .next (oneWord core up (.lpb core up count) 2 (fun s _ t =>
    if count = 0 then .error .illegal
    else if 4 ≤ t.regs.loops.length then .error .loop
    else .ok (s, { t with regs := { t.regs with loops := ⟨t.regs.pc, count⟩ :: t.regs.loops } })) s)

/-- LPE: the innermost count is decremented; back to the loop start while it is not 0 (R57). -/
def execLpe (core : Nat) (up : Upset) (s : State) : Host.Outcome State Fault Refusal :=
  .next (oneWord core up (.lpe core up) 3 (fun s _ t =>
    match t.regs.loops with
    | [] => .error .loop
    | l :: ls =>
      if l.count = 1 then .ok (s, { t with regs := { t.regs with loops := ls } })
      else .ok (s, { t with regs := { t.regs with loops := ⟨l.start, l.count - 1⟩ :: ls, pc := l.start } })) s)

/-- LPX: pop the innermost loop, then jump as JMP; an empty stack faults LOOP whatever the offset (R57, R68). -/
def execLpx (core : Nat) (up : Upset) (off : BitVec 24) (s : State) : Host.Outcome State Fault Refusal :=
  .next (oneWord core up (.lpx core up off) 3 (fun s k t =>
    match t.regs.loops with
    | [] => .error .loop
    | _ :: ls => jumpIf true off s k { t with regs := { t.regs with loops := ls } }) s)

/-- The cycle count of a listed opcode (R57), for a word with a reserved bit set or a reserved operand. -/
def opCost (op n : Nat) : Option Nat :=
  if op = 0x01 ∨ op = 0x02 then some (24 + n)
  else if op = 0x54 ∨ op = 0x53 then some 20
  else if op = 0x47 ∨ op = 0x48 then some 64
  else if op = 0x73 then some 24
  else if op = 0x74 then some 28
  else if [0x34, 0x35, 0x36].contains op then some 8
  else if [0x38, 0x39].contains op then some 6
  else if [0x06, 0x07, 0x3A, 0x3B, 0x44, 0x70, 0x71, 0x72, 0x79, 0x7A, 0x7B, 0x7C, 0x7D].contains op then some 4
  else if [0x03, 0x04, 0x05, 0x09, 0x0A, 0x10, 0x11, 0x12, 0x13, 0x14, 0x15, 0x16, 0x17, 0x30, 0x31, 0x40, 0x45,
           0x52, 0x77, 0x78].contains op then some 3
  else if [0x08, 0x18, 0x19, 0x1A, 0x1B, 0x41, 0x43, 0x80, 0x81].contains op then some 2
  else if [0x00, 0x1C, 0x1D, 0x1E, 0x20, 0x21, 0x22, 0x23, 0x24, 0x25, 0x42, 0x46, 0x49, 0x4B, 0x4C, 0x4D, 0x4E,
           0x4F, 0x50, 0x51, 0x55, 0x56, 0x57, 0x58, 0x59, 0x5A, 0x5B, 0x5C, 0x5D, 0x5E, 0x60, 0x61, 0x62, 0x63,
           0x64, 0x65, 0x66, 0x67, 0x75, 0x76].contains op then some 1
  else none

/-- An undefined opcode or a reserved bit that is set: ILLEGAL, nothing executed; the charge is 1 cycle for an
opcode that the tables do not list and the instruction's count otherwise (R55, R68). A word that spells an instruction
is none. -/
def execUndefinedOpcode (core : Nat) (up : Upset) (word : Word) (s : State) : Host.Outcome State Fault Refusal :=
  .next (if undefinedWord word then
      runInstr core up (.undefinedOpcode core up word)
        (fun t => (opCost (word.toNat / 2 ^ 24) t.staging.length).getD 1) (fun _ _ _ => .error .illegal) s
    else s)

end Sys2Proof.Machine
end

