-- ==== Sys2Proof/Machine/AidonFloat.lean ====
section
/-! DEFINITION. The Aidon floating-point instructions (Floating point of R57, R60, R359). -/

namespace Sys2Proof.Machine

open Sys2Proof

/-- FADD (R57, R60, R359). -/
def execFadd (core : Nat) (up : Upset) (s : State) : Host.Outcome State Fault Refusal :=
  .next (regInstr core up (.fadd core up) 4 (fun r => floatResult r (fAdd r.wb r.wa) (r.qb.max r.qa)) s)

/-- FSUB (R57, R60, R359). -/
def execFsub (core : Nat) (up : Upset) (s : State) : Host.Outcome State Fault Refusal :=
  .next (regInstr core up (.fsub core up) 4 (fun r => floatResult r (fSub r.wb r.wa) (r.qb.max r.qa)) s)

/-- FMUL (R57, R60, R359). -/
def execFmul (core : Nat) (up : Upset) (s : State) : Host.Outcome State Fault Refusal :=
  .next (regInstr core up (.fmul core up) 4 (fun r => floatResult r (fMul r.wb r.wa) (r.qb.max r.qa)) s)

/-- FDIV (R57, R60, R359). -/
def execFdiv (core : Nat) (up : Upset) (s : State) : Host.Outcome State Fault Refusal :=
  .next (regInstr core up (.fdiv core up) 24 (fun r => floatResult r (fDiv r.wb r.wa) (r.qb.max r.qa)) s)

/-- FSQRT (R57, R60, R359). -/
def execFsqrt (core : Nat) (up : Upset) (s : State) : Host.Outcome State Fault Refusal :=
  .next (regInstr core up (.fsqrt core up) 28 (fun r => floatResult r (fSqrt r.wa) r.qa) s)

/-- FNEG (R57, R60, R359). -/
def execFneg (core : Nat) (up : Upset) (s : State) : Host.Outcome State Fault Refusal :=
  .next (regInstr core up (.fneg core up) 1 (fun r => { r with wa := fNeg r.wa }) s)

/-- FABS (R57, R60, R359). -/
def execFabs (core : Nat) (up : Upset) (s : State) : Host.Outcome State Fault Refusal :=
  .next (regInstr core up (.fabs core up) 1 (fun r => { r with wa := fAbs r.wa }) s)

/-- ITF (R57, R60, R359). -/
def execItf (core : Nat) (up : Upset) (s : State) : Host.Outcome State Fault Refusal :=
  .next (regInstr core up (.itf core up) 3 (fun r => floatResult r (fOfInt r.wa.toInt) r.qa) s)

/-- FTI (R57, R60, R359). -/
def execFti (core : Nat) (up : Upset) (s : State) : Host.Outcome State Fault Refusal :=
  .next (regInstr core up (.fti core up) 3 (fun r => floatResult r (fToInt r.wa) r.qa) s)

/-- FEQ (R57, R60, R359). -/
def execFeq (core : Nat) (up : Upset) (s : State) : Host.Outcome State Fault Refusal :=
  .next (regInstr core up (.feq core up) 4 (fun r => fcmpResult r (fEq r.wb r.wa)) s)

/-- FLT (R57, R60, R359). -/
def execFlt (core : Nat) (up : Upset) (s : State) : Host.Outcome State Fault Refusal :=
  .next (regInstr core up (.flt core up) 4 (fun r => fcmpResult r (fLt r.wb r.wa)) s)

/-- FLE (R57, R60, R359). -/
def execFle (core : Nat) (up : Upset) (s : State) : Host.Outcome State Fault Refusal :=
  .next (regInstr core up (.fle core up) 4 (fun r => fcmpResult r (fLe r.wb r.wa)) s)

/-- FMIN (R57, R60, R359). -/
def execFmin (core : Nat) (up : Upset) (s : State) : Host.Outcome State Fault Refusal :=
  .next (regInstr core up (.fmin core up) 4 (fun r => { r with wa := fMin r.wb r.wa, qa := r.qb.max r.qa }) s)

/-- FMAX (R57, R60, R359). -/
def execFmax (core : Nat) (up : Upset) (s : State) : Host.Outcome State Fault Refusal :=
  .next (regInstr core up (.fmax core up) 4 (fun r => { r with wa := fMax r.wb r.wa, qa := r.qb.max r.qa }) s)

end Sys2Proof.Machine
end

