-- ==== Sys2Proof/Machine/AidonTimer.lean ====
section
/-! DEFINITION. The Aidon edge, timer and counter instructions (R61 to R66). -/

namespace Sys2Proof.Machine

open Sys2Proof

/-- An edge instruction: old ← edge[i], edge[i] ← BA, BA ← f BA old (R57, R61). -/
def edgeInstr (edge : Nat) (f : Bool → Bool → Bool) : AEffect := fun s k t =>
  match edgeUpdate s k t edge t.regs.ba with
  | .error e => .error e
  | .ok (old, t') => .ok (s, { t' with regs := { t.regs with ba := f t.regs.ba old } })

/-- A timer instruction: the record is updated, BA ← Q, then a push and WA the elapsed time up to PRESET while
RUN, else 0; QA takes BQ (R64). -/
def timerInstr (idx : Nat) (f : TimerRec → DWord → Bool → TimerRec) : AEffect := fun s k t =>
  match recordAddr s k idx with
  | .error e => .error e
  | .ok a =>
    let x := f (timerAt t a) t.cycle t.regs.ba
    let t' := taskStore t (undoRoom s k) a x.bytes
    let w := if x.run then min (x.elapsed t.cycle) x.preset else 0
    .ok (s, { t' with regs := pushWord { t.regs with ba := x.q } (BitVec.ofNat 64 w) t.regs.bq })

/-- A counting instruction (R66): a rising BA moves the count, IN takes BA, BA the test, a push and WA ← COUNT. -/
def countInstr (idx : Nat) (d : Int) (test : CounterRec → Bool) : AEffect := fun s k t =>
  match recordAddr s k idx with
  | .error e => .error e
  | .ok a =>
    let x := counterAt t a
    let x := { x with count := if t.regs.ba && !x.inp then count32 (x.count + d) else x.count, inp := t.regs.ba }
    let t' := taskStore t (undoRoom s k) a x.bytes
    .ok (s, { t' with regs := pushWord { t.regs with ba := test x } (BitVec.ofInt 64 x.count) t.regs.bq })

/-- A conditional write of COUNT (R66); IN, BA and WA stay. The record is judged whatever BA holds: the spec says so of S
and RST and leaves it open here (DESIGN CHOICE, log entry 125). -/
def countLoad (idx : Nat) (f : CounterRec → Int) : AEffect := fun s k t =>
  match recordAddr s k idx with
  | .error e => .error e
  | .ok a =>
    if t.regs.ba then
      let x := counterAt t a
      .ok (s, { taskStore t (undoRoom s k) a { x with count := f x }.bytes with regs := t.regs })
    else .ok (s, t)

/-- REDGE (R57, R61). -/
def execRedge (core : Nat) (up : Upset) (edge : Nat) (s : State) : Host.Outcome State Fault Refusal :=
  .next (oneWord core up (.redge core up edge) 3 (edgeInstr edge (fun b old => b && !old)) s)

/-- FEDGE (R57, R61). -/
def execFedge (core : Nat) (up : Upset) (edge : Nat) (s : State) : Host.Outcome State Fault Refusal :=
  .next (oneWord core up (.fedge core up edge) 3 (edgeInstr edge (fun b old => !b && old)) s)

/-- TON (R64). -/
def execTon (core : Nat) (up : Upset) (idx : Nat) (s : State) : Host.Outcome State Fault Refusal :=
  .next (oneWord core up (.ton core up idx) 8 (timerInstr idx timerOn) s)

/-- TOF (R64). -/
def execTof (core : Nat) (up : Upset) (idx : Nat) (s : State) : Host.Outcome State Fault Refusal :=
  .next (oneWord core up (.tof core up idx) 8 (timerInstr idx timerOff) s)

/-- TP (R64). -/
def execTp (core : Nat) (up : Upset) (idx : Nat) (s : State) : Host.Outcome State Fault Refusal :=
  .next (oneWord core up (.tp core up idx) 8 (timerInstr idx timerPulse) s)

/-- CTU (R66). -/
def execCtu (core : Nat) (up : Upset) (idx : Nat) (s : State) : Host.Outcome State Fault Refusal :=
  .next (oneWord core up (.ctu core up idx) 6 (countInstr idx 1 (fun x => decide (x.preset ≤ x.count))) s)

/-- CTD (R66). -/
def execCtd (core : Nat) (up : Upset) (idx : Nat) (s : State) : Host.Outcome State Fault Refusal :=
  .next (oneWord core up (.ctd core up idx) 6 (countInstr idx (-1) (fun x => decide (x.count ≤ 0))) s)

/-- CRST (R66). -/
def execCrst (core : Nat) (up : Upset) (idx : Nat) (s : State) : Host.Outcome State Fault Refusal :=
  .next (oneWord core up (.crst core up idx) 4 (countLoad idx (fun _ => 0)) s)

/-- CLD (R66). -/
def execCld (core : Nat) (up : Upset) (idx : Nat) (s : State) : Host.Outcome State Fault Refusal :=
  .next (oneWord core up (.cld core up idx) 4 (countLoad idx (fun x => x.preset)) s)

end Sys2Proof.Machine
end

