-- ==== Sys2Proof/Machine/AidonWord.lean ====
section
/-! DEFINITION. The Aidon word load, store and conversion instructions and the system registers (R57, R59, R67). -/

namespace Sys2Proof.Machine

open Sys2Proof

/-- A word load: a push, then WA, QA from the operand (R57). -/
def loadWord (space idx : Nat) : AEffect := fun s k t =>
  match wordOperand s k t space idx with
  | .error e => .error e
  | .ok (v, q) => .ok (s, { t with regs := pushWord t.regs v q })

/-- LDW (R57). -/
def execLdw (core : Nat) (up : Upset) (space idx : Nat) (s : State) : Host.Outcome State Fault Refusal :=
  .next (oneWord core up (.ldw core up space idx) 3 (loadWord space idx) s)

/-- STW (R53, R57). -/
def execStw (core : Nat) (up : Upset) (space idx : Nat) (s : State) : Host.Outcome State Fault Refusal :=
  .next (oneWord core up (.stw core up space idx) 2 (fun s k t => storeWord s k t space idx t.regs.wa t.regs.qa) s)

/-- LDK: the immediate sign-extended to 64 bits (R55, R57). -/
def execLdk (core : Nat) (up : Upset) (imm : BitVec 24) (s : State) : Host.Outcome State Fault Refusal :=
  .next (regInstr core up (.ldk core up imm) 1 (fun r => pushWord r (imm.signExtend 64) .good) s)

/-- LDKX: extension words 1 (low) and 2 (high); three words (R55, R57). -/
def execLdkx (core : Nat) (up : Upset) (lo hi : Word) (s : State) : Host.Outcome State Fault Refusal :=
  .next (runInstr core up (.ldkx core up lo hi) (fun _ => 2)
    (fun s _ t => .ok (s, { t with regs := pushWord t.regs (hi ++ lo) .good })) s)

/-- LDWX: LDW at index + IX with the array check; two words (R57). -/
def execLdwx (core : Nat) (up : Upset) (space idx : Nat) (ext : Word) (s : State) : Host.Outcome State Fault Refusal :=
  .next (runInstr core up (.ldwx core up space idx ext) (fun _ => 4) (fun s k t =>
    match indexCheck t space ext false with
    | .error e => .error e
    | .ok () => loadWord space (idx + t.regs.ix.toNat) s k t) s)

/-- STWX: STW with the indexing and check of LDWX; two words (R57). -/
def execStwx (core : Nat) (up : Upset) (space idx : Nat) (ext : Word) (s : State) : Host.Outcome State Fault Refusal :=
  .next (runInstr core up (.stwx core up space idx ext) (fun _ => 3) (fun s k t =>
    match indexCheck t space ext true with
    | .error e => .error e
    | .ok () => storeWord s k t space (idx + t.regs.ix.toNat) t.regs.wa t.regs.qa) s)

/-- TIX (R57). -/
def execTix (core : Nat) (up : Upset) (s : State) : Host.Outcome State Fault Refusal :=
  .next (regInstr core up (.tix core up) 1 (fun r => { r with ix := r.wa.setWidth 32 }) s)

/-- LDD: GUARD first, then an uncorrectable word, then a target that does not respond, the DRAM domain not being ON
(R59, R68, R317). -/
def execLdd (core : Nat) (up : Upset) (s : State) : Host.Outcome State Fault Refusal :=
  .next (oneWord core up (.ldd core up) 64 (fun s k t =>
    let a := t.regs.wa.toNat
    match dramJudge s k.lcore a false with
    | some c => .error (.guard a false c)
    | none =>
      match addrBad s a 8 with
      | some p => .error (.memory p)
      | none =>
        if s.domOn 93 then .ok (s, { t with regs := { t.regs with wa := dwordAt s.mem a, qa := .good } })
        else .error .bus) s)

/-- A DRAM store of a task: the touched words are logged, the store is signed and made (R59, R72, R74, R232). -/
def storeDram (s : State) (k : TaskRec) (t : TaskSt) (a : Nat) (v : DWord) : State × TaskSt :=
  let w0 := a / 8 * 8
  let w1 := (a + 7) / 8 * 8
  let t1 := taskLog t (undoRoom s k) (.dram w0) (dwordAt s.mem w0)
  let t2 := if w1 = w0 then t1 else taskLog t1 (undoRoom s k) (.dram w1) (dwordAt s.mem w1)
  (s.storeMem a (leBytes 8 v.toNat), taskSign t2 (leBytes 8 a ++ leBytes 8 v.toNat))

/-- STD (R59, R68). A full aligned write heals a word; a narrower merge on an uncorrectable word fails (R232). -/
def execStd (core : Nat) (up : Upset) (s : State) : Host.Outcome State Fault Refusal :=
  .next (oneWord core up (.std core up) 64 (fun s k t =>
    let a := t.regs.wa.toNat
    match dramJudge s k.lcore a true with
    | some c => .error (.guard a true c)
    | none =>
      match (if a % 8 = 0 then none else addrBad s a 8) with
      | some p => .error (.memory p)
      | none => if s.domOn 93 then .ok (storeDram s k t a t.regs.wb) else .error .bus) s)

/-- SWAP (R57). -/
def execSwap (core : Nat) (up : Upset) (s : State) : Host.Outcome State Fault Refusal :=
  .next (regInstr core up (.swap core up) 1 (fun r => { r with wa := r.wb, qa := r.qb, wb := r.wa, qb := r.qa }) s)

/-- BTW (R57). -/
def execBtw (core : Nat) (up : Upset) (s : State) : Host.Outcome State Fault Refusal :=
  .next (regInstr core up (.btw core up) 1 (fun r => pushWord r (if r.ba then 1 else 0) r.bq) s)

/-- WTB (R57). -/
def execWtb (core : Nat) (up : Upset) (s : State) : Host.Outcome State Fault Refusal :=
  .next (regInstr core up (.wtb core up) 1 (fun r => { r with ba := r.wa != 0, bq := r.qa }) s)

/-- QTW (R57). -/
def execQtw (core : Nat) (up : Upset) (s : State) : Host.Outcome State Fault Refusal :=
  .next (regInstr core up (.qtw core up) 1 (fun r => pushWord r (BitVec.ofNat 64 r.qa.code) .good) s)

/-- SETQ (R57). -/
def execSetq (core : Nat) (up : Upset) (q : Quality) (s : State) : Host.Outcome State Fault Refusal :=
  .next (regInstr core up (.setq core up q) 1 (fun r => { r with qa := q }) s)

/-- SETBQ (R57). -/
def execSetbq (core : Nat) (up : Upset) (q : Quality) (s : State) : Host.Outcome State Fault Refusal :=
  .next (regInstr core up (.setbq core up q) 1 (fun r => { r with bq := q }) s)

/-- The value of a system register (R67); none for any other number. -/
def sysRegister (s : State) (k : TaskRec) (t : TaskSt) (num : Nat) : Option DWord :=
  match num with
  | 0x00 => some t.cycle
  | 0x01 => some s.tick
  | 0x02 => some (edgeNs t.cycle)
  | 0x03 => some (BitVec.ofNat 64 k.cls)
  | 0x04 => some (BitVec.ofNat 64 k.task)
  | 0x05 => some (BitVec.ofNat 64 k.lcore)
  | 0x06 => some (flagsWord t.regs.flags)
  | 0x07 => some (if t.first then 1 else 0)
  | 0x08 => some (BitVec.ofNat 64 (s.cls k.cls).skipped)
  | 0x09 => some ((s.reg A.HOOD_RUN_SEQ).setWidth 64)
  | 0x0A => some (BitVec.ofNat 64 t.cycles)
  | 0x0B => some (t.regs.ix.setWidth 64)
  | _ => none

/-- RDS (R57, R67). -/
def execRds (core : Nat) (up : Upset) (num : Nat) (s : State) : Host.Outcome State Fault Refusal :=
  .next (oneWord core up (.rds core up num) 2 (fun s k t =>
    match sysRegister s k t num with
    | none => .error .sysreg
    | some v => .ok (s, { t with regs := pushWord t.regs v .good })) s)

/-- WRS: SY_FLAGS clears each flag whose bit is 1 in WA, SY_IX takes WA's low word, any other is SYSREG (R67). -/
def execWrs (core : Nat) (up : Upset) (num : Nat) (s : State) : Host.Outcome State Fault Refusal :=
  .next (oneWord core up (.wrs core up num) 2 (fun s _ t =>
    if num = 0x06 then .ok (s, { t with regs := { t.regs with flags := flagsCleared t.regs.flags t.regs.wa } })
    else if num = 0x0B then .ok (s, { t with regs := { t.regs with ix := t.regs.wa.setWidth 32 } })
    else .error .sysreg) s)

end Sys2Proof.Machine
end

