-- ==== Sys2Proof/Machine/Can.lean ====
section
/-! DEFINITION. The CAN FD buses (R297 to R303): message buffers and their lock, transmission, bus-off, mapped
buffers. -/

namespace Sys2Proof.Machine

open Sys2Proof

/-! ## Message buffers (R298) -/

/-- Word `w` of buffer `i` of bus `b` as a register. -/
def canWord (b i w : Nat) : Nat := A.CAN_SEL + 0x8000 + b * 0x2000 + i * 0x80 + 4 * w

/-- A field of HEAD. -/
@[reducible] def headFld (b i hi lo : Nat) : Fld := ⟨canWord b i 0, hi, lo⟩

def canState (s : State) (b i : Nat) : Nat := s.fld (headFld b i 3 0)
def setCanState (s : State) (b i v : Nat) : State := s.setFld (headFld b i 3 0) v
def canEn (s : State) (b i : Nat) : Bool := s.flag (headFld b i 18 18)
def canTx (s : State) (b i : Nat) : Bool := s.flag (headFld b i 17 17)
def canOneshot (s : State) (b i : Nat) : Bool := s.flag (headFld b i 16 16)
def canMapped (s : State) (b i : Nat) : Bool := s.flag (headFld b i 19 19)
/-- Item slot of a mapped buffer, and its TIMEOUT or PERIOD in ticks. -/
def canSlot (s : State) (b i : Nat) : Nat := getBits (s.reg (canWord b i 3)) 19 16
def canTicks (s : State) (b i : Nat) : Nat := getBits (s.reg (canWord b i 3)) 15 0

/-- The state of a bus: 0 error active, 1 error passive, 2 bus-off, 3 recovering, 4 off the bus. -/
def busState (s : State) (b : Nat) : Nat := s.fld (F.CAN_STATUS.STATE.item b)

/-- Whether a bus takes part in traffic: powered, off neither by INIT nor by bus-off (R297, R317). -/
def busUp (s : State) (b : Nat) : Bool := s.domOn (53 + b) && decide (busState s b ≤ 1)

/-- Whether a bus is bus-off, recovery included. -/
def busIsOff (s : State) (b : Nat) : Bool := busState s b == 2 || busState s b == 3

/-- Bytes of a data length code (ISO 11898-1, R297). -/
def dlcBytes (fdf : Bool) (d : Nat) : Nat :=
  if d ≤ 8 then d
  else if fdf then (match d with | 9 => 12 | 10 => 16 | 11 => 20 | 12 => 24 | 13 => 32 | 14 => 48 | _ => 64)
  else 8

/-- Show error active or passive by the two counts (ISO 11898-1, R297). -/
def showErrorState (s : State) (b : Nat) : State :=
  if busState s b ≤ 1 then
    s.setFld (F.CAN_STATUS.STATE.item b)
      (if 128 ≤ s.fld (F.CAN_STATUS.TEC.item b) ∨ 128 ≤ s.fld (F.CAN_STATUS.REC.item b) then 1 else 0)
  else s

/-! ## Reception (R299) -/

/-- Whether a frame matches a receive buffer: identifier under MASK, IDE under bit 31. -/
def canMatch (s : State) (b i : Nat) (f : CanFrame) : Bool :=
  let idw := s.reg (canWord b i 1)
  let mask := s.reg (canWord b i 2)
  let fw : Word := BitVec.ofNat 32 (f.id.toNat + if f.ide then 2 ^ 31 else 0)
  canEn s b i && !canTx s b i && ((idw ^^^ fw) &&& mask) == 0

/-- The data of a frame as 64 bytes, zero beyond its length. -/
def frameData (f : CanFrame) : List Byte :=
  let n := dlcBytes f.fdf f.dlc
  (f.data.take n ++ List.replicate 64 0).take 64

/-- A frame becomes a buffer's contents (R298, R299). -/
def canStore (s : State) (b i : Nat) (f : CanFrame) : State :=
  let d := frameData f
  let s := (((s.setFld (headFld b i 14 14) (b2n f.esi)).setFld (headFld b i 13 13) (b2n f.brs)).setFld
    (headFld b i 12 12) (b2n f.fdf)).setFld (headFld b i 11 8) f.dlc
  let s := s.setDword (canWord b i 4) f.stamp
  let s := (List.range 16).foldl (fun s w => s.setReg (canWord b i (6 + w)) (BitVec.ofNat 32 (leAt d (4 * w) 4))) s
  let s := s.setReg (canWord b i 31) (BitVec.ofNat 32 ((s.fld ⟨canWord b i 31, 15, 0⟩ + 1) % 65536))
  setCanState s b i 1

/-- A received frame overwrote one that was not read. -/
def canLost (s : State) (b i : Nat) : State := s.count (headFld b i 31 24) 1

/-- A frame goes to a buffer, or to its shadow while it is locked; the image path sees it either way (R299, R302). -/
def canDeliver (s : State) (b i : Nat) (f : CanFrame) : State :=
  let c := s.canBus b
  let v : DWord := BitVec.ofNat 64 (leAt (frameData f) 0 8)
  let s := if canMapped s b i then s.setCan b { c with newest := putAt i (v, s.tick) c.newest } else s
  let c := s.canBus b
  if c.lock = some i then
    let s := if (getAt i c.shadow).isSome then canLost s b i else s
    s.setCan b { c with shadow := putAt i f c.shadow }
  else
    let s := if canState s b i = 1 then canLost s b i else s
    canStore s b i f

/-- The free-running stamp counter stands at least where a frame began (R301). -/
def stampReached (s : State) (b : Nat) (stamp : DWord) : State :=
  let key := itemKey A.CAN_STAMP_LO b
  if s.dword key < stamp then s.setDword key stamp else s

/-- A data or remote frame is received (R297, R299): one in error raises the receive error count, a remote frame is discarded, a
data frame goes to the lowest matching buffer. -/
def canReceive (s : State) (b : Nat) (f : CanFrame) : State :=
  let rec' := s.fld (F.CAN_STATUS.REC.item b)
  let n := if f.errors ≠ 0 then countUp 255 rec' f.errors else if 127 < rec' then 127 else rec' - 1
  let s := stampReached (showErrorState (s.setFld (F.CAN_STATUS.REC.item b) n) b) b f.stamp
  if f.errors ≠ 0 then s
  else if f.remote then s.count (F.CAN_ERR.REMOTE.item b) 1
  else match (List.range 64).find? (fun i => canMatch s b i f) with
    | none => s.count (F.CAN_ERR.NO_MATCH.item b) 1
    | some i => canDeliver s b i f

/-- RECEIVED_FRAME (R297, R299, R301): in internal loopback the controller does not hear the bus. -/
def execReceivedFrame (bus : Nat) (f : CanFrame) (s : State) : Host.Outcome State Fault Refusal :=
  .next (if busUp s bus && s.fld (F.CAN_CTRL.MODE.item bus) != 2 then canReceive s bus f else s)

/-- The lock of a bus is released: the shadow becomes the buffer's contents; a buffer that was read to its TAIL and
has no shadow is empty (R299). -/
def canRelease (s : State) (b : Nat) (readOut : Bool) : State :=
  let c := s.canBus b
  match c.lock with
  | none => s
  | some i =>
    let s := s.setCan b { c with lock := none, shadow := dropAt i c.shadow }
    match getAt i c.shadow with
    | some f => canStore s b i f
    | none => if readOut && canState s b i == 1 then setCanState s b i 0 else s

/-- A read of HEAD locks the buffer (R299). -/
def headLock (s : State) (b i : Nat) : State :=
  let s := match (s.canBus b).lock with
    | some j => if j = i then s else (canRelease s b false).note (F.CAN_EVENT.LOCK_BROKEN.item b)
    | none => s
  s.setCan b { s.canBus b with lock := some i }

/-- A read of all of HEAD locks the buffer and clears LOST (R298, R299). -/
def headRead (s : State) (b i : Nat) : State := (headLock s b i).setFld (headFld b i 31 24) 0

/-- HEAD_READ, of the whole word (R299). -/
def execHeadRead (bus buf : Nat) (s : State) : Host.Outcome State Fault Refusal :=
  .next (if s.domOn (53 + bus) then headRead s bus buf else s)

/-- A read of TAIL releases the buffer's lock; without it, it has no effect (R299). -/
def tailRead (s : State) (b i : Nat) : State :=
  if (s.canBus b).lock = some i then canRelease s b true else s

/-- TAIL_READ (R299). -/
def execTailRead (bus buf : Nat) (s : State) : Host.Outcome State Fault Refusal :=
  .next (if s.domOn (53 + bus) then tailRead s bus buf else s)

/-- LOCK_TIMEOUT: a lock still held after 1 ms is released (R299). -/
def execLockTimeout (bus : Nat) (s : State) : Host.Outcome State Fault Refusal :=
  if (s.canBus bus).lock.isSome then
    .next ((canRelease s bus false).note (F.CAN_EVENT.LOCK_TIMEOUT.item bus))
  else .next s

/-! ## Transmission (R300) -/

/-- The request register and bit of a buffer. -/
@[reducible] def txReqFld (b i : Nat) : Fld := ⟨itemKey (if i < 32 then A.CAN_TX_REQ0 else A.CAN_TX_REQ1) b, i % 32, i % 32⟩
/-- The abort register and bit of a buffer. -/
@[reducible] def txAbortFld (b i : Nat) : Fld :=
  ⟨itemKey (if i < 32 then A.CAN_TX_ABORT0 else A.CAN_TX_ABORT1) b, i % 32, i % 32⟩

/-- A request ends in a state: its bits read 0. -/
def txEnd (s : State) (b i st : Nat) : State :=
  ((setCanState s b i st).setFld (txReqFld b i) 0).setFld (txAbortFld b i) 0

/-- An enabled transmit buffer is requested: a ONESHOT request while bus-off ends in TX_ERROR at once. -/
def txRequest (s : State) (b i : Nat) : State :=
  if canEn s b i && canTx s b i && canState s b i != 2 && canState s b i != 3 then
    if canOneshot s b i && busIsOff s b then txEnd s b i 6
    else (setCanState s b i 2).setFld (txReqFld b i) 1
  else s

/-- An abort is asked of a buffer: a pending one is aborted, an active frame completes. -/
def txAbortOne (s : State) (b i : Nat) : State :=
  if canState s b i = 2 then txEnd s b i 7
  else if canState s b i = 3 then
    (s.setCan b { s.canBus b with abortActive := true }).setFld (txAbortFld b i) 1
  else s

/-- Apply an operation to each buffer whose bit is written 1; a mapped buffer's bit has no effect. -/
def eachBuffer (s : State) (b : Nat) (hi : Bool) (v : Word) (f : State → Nat → Nat → State) : State :=
  (List.range 32).foldl (fun s k =>
    let i := k + if hi then 32 else 0
    if bit v k && !canMapped s b i then f s b i else s) s

/-- A write of CAN_TX_REQ0 or CAN_TX_REQ1 (R300). -/
def writeTxReq (s : State) (hi : Bool) (v : Word) : State :=
  let b := s.fld F.CAN_SEL.BUS
  if s.domOn (53 + b) then eachBuffer s b hi v txRequest else s

/-- TX_REQ (R300). -/
def execTxReq (hi : Bool) (v : Word) (s : State) : Host.Outcome State Fault Refusal := .next (writeTxReq s hi v)

/-- A write of CAN_TX_ABORT0 or CAN_TX_ABORT1 (R300). -/
def writeTxAbort (s : State) (hi : Bool) (v : Word) : State :=
  let b := s.fld F.CAN_SEL.BUS
  if s.domOn (53 + b) then eachBuffer s b hi v txAbortOne else s

/-- TX_ABORT (R300). -/
def execTxAbort (hi : Bool) (v : Word) (s : State) : Host.Outcome State Fault Refusal := .next (writeTxAbort s hi v)

/-- The identifier that a buffer sends: an 11-bit one stands in [28:18] (R298). -/
def txIdent (s : State) (b i : Nat) : BitVec 29 :=
  let w := s.reg (canWord b i 1)
  if bit w 31 then w.extractLsb' 0 29 else w.extractLsb' 0 29 &&& 0x1FFC0000

/-- How a buffer's identifier competes: as it arbitrates on the bus, an 11-bit one before a 29-bit one that begins with it
(R300; log entry 177). -/
def txRank (s : State) (b i : Nat) : Nat :=
  let id := (txIdent s b i).toNat
  id / 2 ^ 18 * 2 ^ 19 + b2n (bit (s.reg (canWord b i 1)) 31) * 2 ^ 18 + id % 2 ^ 18

/-- Whether a pending buffer may compete: a mapped one only while the module presents rank 3 (R303). -/
def txCompetes (s : State) (b i : Nat) : Bool := canState s b i == 2 && (!canMapped s b i || s.holds)

/-- The pending buffer that competes first: lowest identifier, then lowest number (R300). -/
def txFirst (s : State) (b : Nat) : Option Nat :=
  ((List.range 64).filter (txCompetes s b)).foldl (fun best i =>
    match best with
    | none => some i
    | some j => if txRank s b i < txRank s b j then some i else best)
    none

/-- TRANSMISSION_START: the first pending buffer goes on the bus (R297, R300). -/
def execTransmissionStart (bus : Nat) (s : State) : Host.Outcome State Fault Refusal :=
  let c := s.canBus bus
  if busUp s bus && c.active.isNone && s.fld (F.CAN_CTRL.MODE.item bus) != 1 then
    match txFirst s bus with
    | none => .next s
    | some i => .next (setCanState (s.setCan bus { c with active := some i }) bus i 3)
  else .next s

/-- The frame that a transmit buffer sends: bit rate switch and error state indicator stand in a CAN FD frame only. -/
def txFrame (s : State) (b i : Nat) (stamp : DWord) : CanFrame :=
  let fd := s.flag (headFld b i 12 12)
  let dlc := s.fld (headFld b i 11 8)
  { errors := 0, ide := bit (s.reg (canWord b i 1)) 31, id := txIdent s b i, remote := false, fdf := fd,
    brs := fd && s.flag (headFld b i 13 13), esi := fd && busState s b == 1, dlc := dlc,
    data := ((List.range 16).flatMap (fun w => leBytes 4 (s.reg (canWord b i (6 + w))).toNat)).take (dlcBytes fd dlc),
    stamp := stamp }

/-- A successful transmission: TX_DONE, SEQ, TEC one lower; the frame has left, in loopback it is received. -/
def txSuccess (s : State) (b i : Nat) (stamp : DWord) : State :=
  let f := txFrame s b i stamp
  let s := txEnd s b i 4
  let s := s.setReg (canWord b i 31) (BitVec.ofNat 32 ((s.fld ⟨canWord b i 31, 15, 0⟩ + 1) % 65536))
  let s := showErrorState (s.setFld (F.CAN_STATUS.TEC.item b) (s.fld (F.CAN_STATUS.TEC.item b) - 1)) b
  if s.fld (F.CAN_CTRL.MODE.item b) = 2 then canReceive s b f
  else s.emit (.can b i f)

/-- A mapped buffer takes a value: 8 data bytes (R303). -/
def mapData (s : State) (b i : Nat) (v : DWord) : State := s.setDword (canWord b i 6) v

/-- A mapped request that waited for a buffer's frame follows it once it is complete, not while the frame is retried (R303). -/
def txAgain (s : State) (b i : Nat) : State :=
  match getAt i (s.canBus b).again with
  | none => s
  | some v =>
    if canState s b i = 2 then s
    else txRequest (mapData (s.setCan b { s.canBus b with again := dropAt i (s.canBus b).again }) b i v) b i

/-- The outcome of an attempt of buffer `i` (R300). -/
def txOutcome (s : State) (b i : Nat) (r : TxResult) (stamp : DWord) (aborted : Bool) : State :=
  match r with
  | .success => txSuccess s b i stamp
  | .lostArbitration =>
    if aborted then txEnd s b i 7
    else if canOneshot s b i then txEnd s b i 5 else setCanState s b i 2
  | .error =>
    let s := showErrorState (s.setFld (F.CAN_STATUS.TEC.item b) (min 255 (s.fld (F.CAN_STATUS.TEC.item b) + 8))) b
    if aborted then txEnd s b i 7
    else if canOneshot s b i then txEnd s b i 6 else setCanState s b i 2

/-- TRANSMIT_END: an attempt of the active buffer ends; every attempt is stamped (R300, R301). -/
def execTransmitEnd (bus : Nat) (r : TxResult) (stamp : DWord) (s : State) : Host.Outcome State Fault Refusal :=
  let c := s.canBus bus
  match c.active with
  | none => .next s
  | some i =>
    let s := s.setCan bus { c with active := none, abortActive := false }
    let s := stampReached (s.setDword (canWord bus i 4) stamp) bus stamp
    .next (txAgain (txOutcome s bus i r stamp c.abortActive) bus i)

/-- A frame that the controller had to break off: as an error, aborted where an abort was asked, TX_ERROR with ONESHOT, else
pending again (R300). -/
def txBroken (s : State) (b i : Nat) : State :=
  if canState s b i = 3 ∧ (s.canBus b).abortActive then txEnd s b i 7
  else if canOneshot s b i then txEnd s b i 6
  else setCanState s b i 2

/-- Bus-off and the buffers under way (R300): ONESHOT ends in TX_ERROR, the others stay pending. -/
def busOffBuffers (s : State) (b : Nat) : State :=
  (List.range 64).foldl (fun s i => if canState s b i = 2 ∨ canState s b i = 3 then txBroken s b i else s) s

/-- Nothing is on the bus any more; a request that waited for a frame that has ended follows. -/
def noActive (s : State) (b : Nat) : State :=
  let was := (s.canBus b).active
  let s := s.setCan b { s.canBus b with active := none, abortActive := false }
  match was with
  | none => s
  | some i => txAgain s b i

/-- BUS_OFF: the bus enters bus-off; with AUTO_REC recovery begins by itself (R297, R300). -/
def execBusOff (bus : Nat) (s : State) : Host.Outcome State Fault Refusal :=
  if busUp s bus then
    let s := busOffBuffers s bus
    let s := (s.setFld (F.CAN_STATUS.TEC.item bus) 255).setFld (F.CAN_STATUS.STATE.item bus)
      (if s.flag (F.CAN_CTRL.AUTO_REC.item bus) then 3 else 2)
    .next ((noActive s bus).note (F.CAN_EVENT.BUS_OFF.item bus))
  else .next s

/-- BUS_OFF_RECOVERY: 128 occurrences of 11 recessive bits were seen while recovering (R297). -/
def execBusOffRecovery (bus : Nat) (s : State) : Host.Outcome State Fault Refusal :=
  if busState s bus = 3 then
    .next (((s.setFld (F.CAN_STATUS.STATE.item bus) 0).setFld (F.CAN_STATUS.TEC.item bus) 0).setFld
      (F.CAN_STATUS.REC.item bus) 0)
  else .next s

/-- A write of CAN_CTRL (R297): INIT takes the controller off the bus or puts it on, where a bus-off is still to be recovered
from; RECOVER or AUTO_REC starts bus-off recovery. -/
def writeCanCtrl (s : State) (v : Word) : State :=
  let b := s.fld F.CAN_SEL.BUS
  let mode := getBits v 2 1
  let was := s.flag (F.CAN_CTRL.INIT.item b)
  let s := (((s.setFlag (F.CAN_CTRL.AUTO_REC.item b) (bit v 5)).setFlag (F.CAN_CTRL.TERM.item b) (bit v 4)).setFld
    (F.CAN_CTRL.MODE.item b) (if mode = 3 then 0 else mode)).setFlag (F.CAN_CTRL.INIT.item b) (bit v 0)
  let s := if bit v 0 && !was then
      let s := s.setCan b { s.canBus b with wasOff := busIsOff s b }
      let s := match (s.canBus b).active with
        | some i => txBroken s b i
        | none => s
      (noActive s b).setFld (F.CAN_STATUS.STATE.item b) 4
    else if !bit v 0 && was then
      if (s.canBus b).wasOff then
        (s.setCan b { s.canBus b with wasOff := false }).setFld (F.CAN_STATUS.STATE.item b) 2
      else
        ((s.setFld (F.CAN_STATUS.STATE.item b) 0).setFld (F.CAN_STATUS.TEC.item b) 0).setFld (F.CAN_STATUS.REC.item b) 0
    else s
  if (bit v 6 || bit v 5) && busState s b == 2 then s.setFld (F.CAN_STATUS.STATE.item b) 3 else s

/-- RECOVER: a write of CAN_CTRL (R297). -/
def execRecover (v : Word) (s : State) : Host.Outcome State Fault Refusal :=
  .next (if s.domOn (53 + s.fld F.CAN_SEL.BUS) then writeCanCtrl s v else s)

/-! ## Writes of the buffer words (R298) -/

/-- A write that R298 does not perform. -/
def canBlocked (s : State) (b : Nat) : State := s.note (F.CAN_EVENT.WRITE_BLOCKED.item b)

/-- A write of HEAD: DIR and IMAGE change only while EN is 0; EN itself sets EMPTY or DISABLED. -/
def writeHead (s : State) (b i : Nat) (v : Word) : State :=
  let en := canEn s b i
  if en && (bit v 17 != canTx s b i || bit v 19 != canMapped s b i) then canBlocked s b
  else
    let s := [(19, 19), (18, 18), (17, 17), (16, 16), (13, 13), (12, 12), (11, 8)].foldl
      (fun s f => s.setFld (headFld b i f.1 f.2) (getBits v f.1 f.2)) s
    if bit v 18 = en then s
    else setCanState s b i (if bit v 18 then 0 else 8)

/-- A write of word `w` of a buffer (R298). -/
def writeCanWord (s : State) (b i w : Nat) (v : Word) : State :=
  let en := canEn s b i
  let key := canWord b i w
  if canTx s b i && (canState s b i == 2 || canState s b i == 3) then canBlocked s b
  else match w with
    | 0 => writeHead s b i v
    | 1 => if en && bit v 31 != bit (s.reg key) 31 then canBlocked s b else s.setReg key (v &&& 0x9FFFFFFF)
    | 2 => if en then canBlocked s b else s.setReg key (v &&& 0x9FFFFFFF)
    | 3 =>
      if en then canBlocked s b
      else s.setReg key (BitVec.ofNat 32 (getBits v 19 16 * 65536 + clamp 1 65535 (getBits v 15 0)))
    | w => if 6 ≤ w ∧ w < 22 then s.setReg key v else s

/-! ## At the edge (R301 to R303) -/

/-- A mapped transmit buffer takes its item's value and is requested (R303). -/
def mappedOne (s : State) (b i : Nat) : State :=
  let p := canTicks s b i
  if canEn s b i && canTx s b i && canMapped s b i && decide (p ≠ 0) && s.tick.toNat % p == 0 then
    match localOutput s 2 (64 * b + 32 + canSlot s b i) with
    | none => s
    | some x =>
      if x.q = .bad then s
      else if canState s b i = 3 then s.setCan b { s.canBus b with again := putAt i x.val (s.canBus b).again }
      else if canState s b i = 2 then
        mapData (s.setCan b { s.canBus b with again := dropAt i (s.canBus b).again }) b i x.val
      else txRequest (mapData s b i x.val) b i
  else s

/-- MAPPED_TRANSMIT_REQUEST of every powered bus, while rank 3 is presented (R303). -/
def mappedRequests (s : State) : State :=
  if s.holds then
    (List.range 4).foldl (fun s b =>
      if s.domOn (53 + b) then (List.range 64).foldl (fun s i => mappedOne s b i) s else s) s
  else s

/-- Each powered bus latches its stamp counter at the edge (R301). -/
def latchStamps (s : State) (counts : List DWord) : State :=
  (List.range 4).foldl (fun s b =>
    if s.domOn (53 + b) then
      (s.setDword (itemKey A.CAN_EDGE_LO b) (counts.getD b 0)).setDword (itemKey A.CAN_STAMP_LO b) (counts.getD b 0)
    else s) s

/-- No mapped receive buffer has a frame yet at an image start (R302). -/
def canFresh (s : State) : State :=
  (List.range 4).foldl (fun s b => s.setCan b { s.canBus b with newest := [] }) s

/-- An input item of a bus at an edge (R296, R302). -/
def canItem (s : State) (b item : Nat) (sub : DWord) : Slot :=
  if s.domOn (53 + b) = false then badSlot sub
  else if item = 0 then ⟨(s.reg (itemKey A.CAN_STATUS b)).setWidth 64, .good⟩
  else match (List.range 64).find? (fun i => canEn s b i && !canTx s b i && canMapped s b i &&
      canSlot s b i + 16 == item) with
    | none => badSlot sub
    | some i =>
      match getAt i (s.canBus b).newest with
      | none => badSlot sub
      | some (v, t) =>
        let age := (s.tick - t).toNat
        if busIsOff s b then badSlot sub
        else if age ≤ canTicks s b i then ⟨v, .good⟩
        else if age ≤ 2 * canTicks s b i then ⟨v, .stale⟩
        else badSlot sub

end Sys2Proof.Machine
end

