-- ==== Sys2Proof/Machine/Requests.lean ====
section
/-! DEFINITION. Request lines of the transfer engine (R248): what a peripheral's request does to a channel that waits
for it. -/

namespace Sys2Proof.Machine

open Sys2Proof

/-- REQ of a descriptor (R245). -/
def Descr.req (d : Descr) : Nat := getBits d.ctrl 31 24

/-- Beats per request of a descriptor (R245). -/
def Descr.beats (d : Descr) : Nat := 2 ^ getBits d.ctrl 19 16

/-- A request on a line reaches every channel whose current descriptor names it: a channel that waits becomes READY
(R248). -/
def raiseLine (s : State) (line : Nat) : State :=
  (List.range 32).foldl (fun s c =>
    match (s.chan c).desc with
    | none => s
    | some d =>
      if d.req = line ∧ line ≠ 0 ∧ s.fld (F.XFER_CH_STATUS.STATE.item c) = 3 then
        (s.setChan c { s.chan c with request := true }).setFld (F.XFER_CH_STATUS.STATE.item c) 1
      else s) s

end Sys2Proof.Machine
end

