-- ==== Sys2Proof/Machine/Channel.lean ====
section
/-! DEFINITION. States of the transfer channels (R243, R250, R256 to R258): start, abort, ends, bus stop, resume. -/

namespace Sys2Proof.Machine

open Sys2Proof

@[reducible] def chIdle : Nat := 0
@[reducible] def chReady : Nat := 1
@[reducible] def chActive : Nat := 2
@[reducible] def chWait : Nat := 3
@[reducible] def chPreempted : Nat := 4
@[reducible] def chStopped : Nat := 5
@[reducible] def chDone : Nat := 6
@[reducible] def chError : Nat := 7

def chState (s : State) (c : Nat) : Nat := s.fld (F.XFER_CH_STATUS.STATE.item c)
def setChState (s : State) (c v : Nat) : State := s.setFld (F.XFER_CH_STATUS.STATE.item c) v
/-- Whether a channel is in IDLE, DONE or ERROR. -/
def chAtRest (s : State) (c : Nat) : Bool := let v := chState s c; v == chIdle || v == chDone || v == chError

@[reducible] def endLoop : Nat := 1
@[reducible] def endGuard : Nat := 2
@[reducible] def endBus : Nat := 3
@[reducible] def endMemory : Nat := 4
@[reducible] def endDesc : Nat := 5
@[reducible] def endAbort : Nat := 6
@[reducible] def endParity : Nat := 7

/-- The result code that a command on channel 31 receives for an end (R256). -/
def endCode (e : Nat) : Nat :=
  if e = endGuard then rcGuard else if e = endBus ∨ e = endAbort then rcTimeout else rcCheck

/-- The opcode of the command that waits on channel 31 in session `k` completes with a code and data. -/
def finishMem (s : State) (k code : Nat) (data : List Byte) : State :=
  match frontCmd s k with
  | none => s
  | some q => if (q.opcode = 0x12 ∨ q.opcode = 0x13) ∧ q.waiting then finishCommand s k code data else s

/-- A channel ends with a code other than NONE (R256). -/
def channelError (s : State) (c e : Nat) : State :=
  let s := setChState (s.setFld (F.XFER_CH_STATUS.END.item c) e) c chError
  let s := s.setReg A.XFER_ERR (s.reg A.XFER_ERR ||| BitVec.ofNat 32 (2 ^ c))
  let s := s.raise 9 1 c (d1 e ++ [0, 0, 0] ++ d4 (s.reg (itemKey A.XFER_CH_REMAIN c)).toNat)
  let x := s.chan c
  let s := s.setChan c { x with
    desc := none, request := false, slot := none, got := [], burst := 0, buf := [], abort := false }
  match x.slot with
  | none => s
  | some k => finishMem s k (endCode e) []

/-- A channel's chain completes (R256). -/
def channelDone (s : State) (c : Nat) : State :=
  let s := setChState (s.setFld (F.XFER_CH_STATUS.END.item c) 0) c chDone
  let s := s.setReg A.XFER_DONE (s.reg A.XFER_DONE ||| BitVec.ofNat 32 (2 ^ c))
  s.setChan c { s.chan c with desc := none, request := false }

/-- A chain starts: READY, nothing executed, the running CRC at all ones (R245, R255, R258). -/
def channelStart (s : State) (c : Nat) : State :=
  let s := setChState ((s.setFld (F.XFER_CH_STATUS.COUNT.item c) 0).setFld (F.XFER_CH_STATUS.END.item c) 0) c chReady
  let s := (s.setFld (F.XFER_CH_STATUS.DIR.item c) 0).setReg (itemKey A.XFER_CH_REMAIN c) 0
  s.setChan c XferCh.idle

/-- Whether all channels are stopped by a bus error. -/
def busStopped (s : State) : Bool := s.flag F.XFER_STATUS.BUS_STOP

/-! ## Channels that their units drive (R243)

The recorder's channel 25, the configuration store's 26, the loader's 27 and the state copy's 28 and 29 hold no descriptor in
the model: the spec gives their chains no address and no burst length (log entry 172). -/

/-- The unit that owns a channel starts its transfer: ACTIVE. -/
def ownerStart (s : State) (c : Nat) : State :=
  (setChState (s.setFld (F.XFER_CH_STATUS.END.item c) 0) c chActive).setChan c XferCh.idle

/-- Whether a unit's transfer is under way on a channel. -/
def ownerRuns (s : State) (c : Nat) : Bool := let v := chState s c; v == chActive || v == chPreempted

/-- A unit's transfer completes: DONE (R256). -/
def ownerDone (s : State) (c : Nat) : State := if ownerRuns s c then channelDone s c else s

/-- A unit gives its transfer up: IDLE. -/
def ownerStop (s : State) (c : Nat) : State := if ownerRuns s c then setChState s c chIdle else s

/-- Whether a channel stands within a burst of a paced transfer, which completes before an ABORT takes effect (R248, R258). -/
def midBurst (s : State) (c : Nat) : Bool :=
  let x := s.chan c
  x.burst != 0 && (c == 25 || c == 26 || ((x.desc.map (fun d => d.req)).getD 0) != 0)

/-- ABORT of a channel: at the next beat boundary, within a burst at its end (R258). -/
def abortChannel (s : State) (c : Nat) : State :=
  if midBurst s c then s.setChan c { s.chan c with abort := true } else channelError s c endAbort

/-- A write of XFER_CH_CTRL for the channel in XFER_CH_SEL (R243, R258): START acts in IDLE, DONE and ERROR, ABORT in
the other states; on channels 24 to 31 START and PRIO behave as RO. -/
def writeChCtrl (s : State) (v : Word) : State :=
  let c := s.fld F.XFER_CH_SEL.CH
  let s := if c < 24 then s.setFlag (F.XFER_CH_CTRL.PRIO.item c) (bit v 8) else s
  let s := if bit v 1 && !chAtRest s c then abortChannel s c else s
  if bit v 0 && decide (c < 24) && chAtRest s c && !bit v 1 then channelStart s c else s

/-- START: a write of XFER_CH_CTRL (R258). -/
def execXferStart (v : Word) (s : State) : Host.Outcome State Fault Refusal := .next (writeChCtrl s v)

/-- ABORT: a write of XFER_CH_CTRL (R256, R258). -/
def execXferAbort (v : Word) (s : State) : Host.Outcome State Fault Refusal := .next (writeChCtrl s v)

/-- The state that a stopped channel goes on in: a state copy fails with the stop, so its channels go back to IDLE (R171,
R257). -/
def stateAfterStop (s : State) (c : Nat) : Nat := if c = 28 ∨ c = 29 then chIdle else chState s c

/-- The command on channel 31 that a bus stop ends receives TIMEOUT (R256; log entry 148). -/
def answerStopped (s : State) (c : Nat) : State :=
  match (s.chan c).slot with
  | none => s
  | some k => finishMem (s.setChan c { s.chan c with slot := none }) k (endCode endBus) []

/-- One channel stops with its state kept, unless it is IDLE; it shows END BUS (R256, R257; log entry 148). -/
def stopChannel (s : State) (c : Nat) : State :=
  if chState s c = chIdle ∨ chState s c = chStopped then s
  else
    let e := F.XFER_CH_STATUS.END.item c
    answerStopped ((setChState (s.setChan c { s.chan c with before := stateAfterStop s c, beforeEnd := s.fld e }) c
      chStopped).setFld e endBus) c

/-- One channel goes on from where it stopped (R257). -/
def resumeChannel (s : State) (c : Nat) : State :=
  if chState s c = chStopped then
    (setChState s c (s.chan c).before).setFld (F.XFER_CH_STATUS.END.item c) (s.chan c).beforeEnd
  else s

/-- A bus timeout at an address (R257): every channel that is not IDLE stops with its state kept. -/
def busStop (s : State) (a : Nat) : State :=
  let s := (List.range 32).foldl stopChannel s
  let s := (s.setFlag F.XFER_STATUS.BUS_STOP true).setDword A.XFER_BUS_ADDR_LO (BitVec.ofNat 64 a)
  s.raise 9 2 0 (leBytes 8 a)

/-- RESUME (R257): each channel continues from where it stopped. -/
def busResume (s : State) : State :=
  ((List.range 32).foldl resumeChannel s).setFlag F.XFER_STATUS.BUS_STOP false

/-- ABORT_ALL (R257): every stopped channel ends with ABORT. -/
def busAbortAll (s : State) : State :=
  let s := (List.range 32).foldl (fun s c =>
    if chState s c = chStopped then channelError s c endAbort else s) s
  s.setFlag F.XFER_STATUS.BUS_STOP false

/-- A write of XFER_CMD: its KEY must be 0xC35A (R257). -/
def writeXferCmd (s : State) (v : Word) : State :=
  if getBits v 31 16 ≠ 0xC35A ∨ busStopped s = false then s
  else if bit v 1 then busAbortAll s
  else if bit v 0 then busResume s
  else s

/-- RESUME: a write of XFER_CMD (R257). -/
def execXferResume (v : Word) (s : State) : Host.Outcome State Fault Refusal := .next (writeXferCmd s v)

/-- ABORT_ALL: a write of XFER_CMD (R256, R257). -/
def execXferAbortAll (v : Word) (s : State) : Host.Outcome State Fault Refusal := .next (writeXferCmd s v)

end Sys2Proof.Machine
end

