-- ==== Sys2Proof/Machine/Checker.lean ====
section
/-! DEFINITION. The checker beside the checkpoints (R77 to R89): the verdict self-test's result, pair splits and the
re-enabling of tasks. -/

namespace Sys2Proof.Machine

open Sys2Proof

/-- Change the checker's internal state. -/
def State.withCheck (s : State) (f : CheckSt → CheckSt) : State := { s with check := f s.check }

/-! ## Verdict (R79, R80) -/

/-- Whether an in-use word that the memory part reads holds an uncorrectable error: image memory, class areas, task data,
edge memory and code areas (R80). -/
def inUseBad (s : State) : Bool :=
  match s.image with
  | none => false
  | some im => s.bad.any (fun p => match p with
    | .addr _ => false
    | .inSlot i => decide (i < imageSlots im false)
    | .outSlot i => decide (i < imageSlots im true)
    | .clsIn k i => decide (i < classSlots im k)
    | .clsOut k i => im.tasks.any (fun t => t.cls == k) && decide (i < imageSlots im true)
    | .data t w => im.tasks.any (fun k => k.task == t && decide (8 * w < k.dataSize))
    | .edge t _ => im.tasks.any (fun k => k.task == t)
    | .code j w => decide (w < (codeArea s j).length))

/-- The bytes of a HELD section as memory holds them: the code area of a logical core, the constants in DRAM behind their
load address, the cam tables (R80, R214, R217, R220). -/
def heldBytes (s : State) (im : Image) (type inst : Nat) : List Byte :=
  match type with
  | 1 => ((getAt inst im.code).getD []).flatMap (fun w => leBytes 4 w.toNat)
  | 3 => beBytes 8 im.constAddr ++ bytesAt s.mem im.constAddr im.constBytes.length
  | _ => im.cams.flatMap (fun c =>
      d1 c.number ++ d1 c.b ++ d1 (b2n c.cubic) ++ d1 0 ++ beBytes 4 (2 ^ c.b) ++ beBytes 8 c.rise.toNat ++
        c.points.flatMap (fun p => beBytes 8 p.1.toNat ++ beBytes 8 p.2.toNat))

/-- Whether every HELD section as memory holds it has the digest of the admitted image (R80). -/
def heldIntact (s : State) : Bool :=
  match s.image with
  | none => true
  | some im => im.held.all (fun h => sha384 (heldBytes s im h.1 h.2.1) == h.2.2)

/-- The first failed part: 0 none, 1 memory, 2 image, 3 core (R80). -/
def failedPart (memOk imageOk coreOk : Bool) : Nat :=
  if !memOk then 1 else if !imageOk then 2 else if !coreOk then 3 else 0

/-- What the parts of a running verdict self-test meet in a tick, at its edge: the memory part in the 12 ticks after m, the
image part in the 12 after those. Which of them reads a word is not stated, so a word that is bad in any of them fails its
part (R80; DESIGN CHOICE, log entry 153). -/
def verdictTick (s : State) : State :=
  match s.check.verdictAt with
  | none => s
  | some m =>
    let n := (s.tick - m).toNat
    if 1 ≤ n ∧ n ≤ 12 then s.withCheck (fun c => { c with memBad := c.memBad || inUseBad s })
    else if 13 ≤ n ∧ n ≤ 24 then s.withCheck (fun c => { c with imageBad := c.imageBad || !heldIntact s })
    else s

/-- The verdict self-test ends with its first failed part; a failure asks for SAFE with CAUSE 7 (R79, R80). -/
def verdictEnd (s : State) (part : Nat) : State :=
  let trig := s.check.verdictTrigger
  let res := if part = 0 then 1 else 2
  let s := ((s.setFld F.CHK_VERDICT.TRIGGER trig).setFld F.CHK_VERDICT.PART part).setFld F.CHK_VERDICT.RESULT res
  let s := (s.count F.CHK_VERDICT.COUNT 1).setFlag F.CHK_STATUS.VERDICT_BUSY false
  let s := ((endActivity s 0x0202 (part == 0)).withCheck (fun c => { c with verdictAt := none })).raise 3 4 0 (d1 res ++ d1 part ++ d1 trig)
  let s := s.strait 7 0 [1, 0]
  if part = 0 then s else requestSafe s 7

/-- VERDICT: in the guard window of tick m + 32 (R80). The operands bring what State does not hold: the march tests over the
checker's reserved memory, an error that the test engine met while it hashed, and the known-answer programs; `memBad` and
`imageBad` bring what the parts met in their ticks. -/
def execVerdict (memOk imageOk coreOk : Bool) (s : State) : Host.Outcome State Fault Refusal :=
  match s.check.verdictAt with
  | none => .next s
  | some m => .next (if s.tick = m + 32 then verdictEnd (s.at 61000)
      (failedPart (memOk && !s.check.memBad) (imageOk && !s.check.imageBad) coreOk) else s)

/-! ## Pair split (R82 to R85) -/

/-- Whether a split may run: the running image permits it and the module runs in checked pairs (R82). A core that runs
degraded is not shut out: the spec is silent on it (DESIGN CHOICE, log entry 127). -/
def splitPermitted (s : State) (core : Nat) : Bool :=
  s.flag F.CHK_STATUS.SPLIT_ALLOWED && s.coreMode == 0 && decide (core ≤ 3) && s.running

/-- What makes a permitted split wait: a verdict self-test running or queued here, a split on the partner, another split
on this module, an activity of the group before it (R83, R327). -/
def splitMustWait (s : State) : Bool :=
  s.flag F.CHK_STATUS.VERDICT_BUSY || s.flag F.CHK_STATUS.VERDICT_QUEUED || s.pair.partSplit ||
  s.flag F.CHK_STATUS.SPLIT_BUSY || groupHeld s 1

/-- CHK_SPLIT_STATUS shows that a split was accepted or waits (R83). -/
def showSplitRequest (s : State) (wait : Bool) : State :=
  let s := s.setFld F.CHK_SPLIT_STATUS.LAST_REQ (b2n wait)
  if wait && !s.flag F.CHK_STATUS.SPLIT_BUSY then s.setFld F.CHK_SPLIT_STATUS.STATE 1 else s

/-- A permitted split of a core's half takes its place: it was accepted and starts in the next guard window, or it waits; a
request for one that waits or runs takes no new place (R83, R327). -/
def askSplit (s : State) (core half : Nat) : State :=
  match liveActivity s 0x0201 (2 * core + half) with
  | some a => s.setFld F.CHK_SPLIT_STATUS.LAST_REQ (b2n (a.state == 0))
  | none => newActivity (showSplitRequest s (splitMustWait s)) 1 0x0201 (2 * core + half) (b2n (!splitMustWait s))

/-- A request for a split of a core's half; answers LAST_REQ: 0 accepted, 1 QUEUED, 2 refused with STATE (R82, R83). -/
def requestSplit (s : State) (core half : Nat) : State :=
  if splitPermitted s core then askSplit s core half else s.setFld F.CHK_SPLIT_STATUS.LAST_REQ 2

/-- A keyed write of CHK_SPLIT (04, CHK register block). -/
def writeSplit (s : State) (v : Word) : State :=
  if getBits v 31 16 = 0x3C96 ∧ bit v 0 then requestSplit s (getBits v 5 2) (getBits v 1 1) else s

/-- SPLIT_REQUEST. -/
def execSplitRequest (v : Word) (s : State) : Host.Outcome State Fault Refusal := .next (writeSplit s v)

/-- The split that starts next: one that was accepted, else the oldest waiting activity of the group where that is a split
and nothing of the group runs (R83, R327). -/
def nextSplit (s : State) : Option Activity :=
  match s.acts.find? (fun a => a.code == 0x0201 && a.state == 1) with
  | some a => some a
  | none => if groupRuns s 1 then none else (oldestWaiting s 1).filter (fun a => a.code == 0x0201)

/-- CHK_SPLIT_STATUS.STATE while no core is split: 1 where a split waits. -/
def showSplitIdle (s : State) : State := s.setFld F.CHK_SPLIT_STATUS.STATE (b2n (codeWaits s 0x0201))

/-- A split starts, taking effect in this guard window: tick s of R84. -/
def beginSplit (s : State) (a : Activity) : State :=
  let s := ((s.setFlag F.CHK_STATUS.SPLIT_BUSY true).setFld F.CHK_SPLIT_STATUS.LCORE (a.target / 2)).setFld
    F.CHK_SPLIT_STATUS.HALF (a.target % 2)
  let s := (s.setFld F.CHK_SPLIT_STATUS.STATE 2).setFld F.CHK_SPLIT_STATUS.REMAIN 160
  let s := (setActivity s a.num 1).withCheck (fun c => { c with splitAt := some s.tick })
  s.strait 7 0 [0, 1]

/-- SPLIT_START: an accepted or queued split starts in the guard window in which nothing stands in its way (R83, R84). One
whose permission has gone since ends as failed, so that it does not hold up its group (DESIGN CHOICE, log entry 154). Where
both modules have accepted a split in one tick and neither knows yet of the other's, both start (DESIGN CHOICE, log entry
155). -/
def execSplitStart (s : State) : Host.Outcome State Fault Refusal :=
  match nextSplit s with
  | none => .next s
  | some a =>
    if s.flag F.CHK_STATUS.VERDICT_BUSY || s.pair.partSplit || s.flag F.CHK_STATUS.SPLIT_BUSY then .next s
    else if splitPermitted s (a.target / 2) then .next (beginSplit (s.at 61000) a)
    else .next (showSplitIdle (setActivity s a.num 3))

/-- REMAIN and STATE of a running split at a new tick (CHK_SPLIT_STATUS): the tester waits to rejoin from s + 145 on. -/
def splitTick (s : State) : State :=
  match s.check.splitAt with
  | none => s
  | some t =>
    let n := (s.tick - t).toNat
    (s.setFld F.CHK_SPLIT_STATUS.REMAIN (160 - n)).setFld F.CHK_SPLIT_STATUS.STATE (if n < 145 then 2 else 3)

/-- A queued verdict self-test starts: in the guard window in which a split has rejoined, before a split that waits (R81;
log entry 152), or at its turn in the group. -/
def startQueuedVerdict (s : State) : State :=
  match s.check.queuedTrigger with
  | none => s
  | some t =>
    beginVerdict (runActivity ((s.setFlag F.CHK_STATUS.VERDICT_QUEUED false).withCheck
      (fun c => { c with queuedTrigger := none })) 0x0202 0) t

/-- The split ends: the tester rejoins with the carrier's context, or stays out for good (R84). -/
def endSplit (s : State) (pass : Bool) : State :=
  let core := s.fld F.CHK_SPLIT_STATUS.LCORE
  let half := s.fld F.CHK_SPLIT_STATUS.HALF
  let s := ((s.setFlag F.CHK_SPLIT_STATUS.PASS pass).setFld F.CHK_SPLIT_STATUS.REMAIN 0).setFlag
    F.CHK_STATUS.SPLIT_BUSY false
  let s := showSplitIdle (endActivity s 0x0201 pass)
  let s := s.withCheck (fun c => { c with
    splitAt := none, degraded := if pass then c.degraded else insertSorted core c.degraded })
  let s := if pass then forgetMember (forgetMember s core 0) core 1 else s.setFlag F.CHK_STATUS.DEGRADED true
  startQueuedVerdict ((s.raise 3 5 core (d1 half ++ d1 (b2n pass))).strait 7 0 [0, 0])

/-- SPLIT_REJOIN: in the guard window of s + 160 (R84). -/
def execSplitRejoin (pass : Bool) (s : State) : Host.Outcome State Fault Refusal :=
  match s.check.splitAt with
  | none => .next s
  | some t => .next (if s.tick = t + 160 then endSplit (s.at 61000) pass else s)

/-! ## Re-enabling a task (R70, CORE_TASK_EN) -/

/-- The TASK record of a task of the running image. -/
def taskRec (s : State) (i : Nat) : Option TaskRec :=
  match s.image with
  | none => none
  | some im => im.tasks.find? (fun k => k.task == i)

/-- The write of CORE_TASK_EN for task `i` takes effect: a disabled task is activated again from its next cycle start on,
this tick's included, with CONSEC 0 and SY_FIRST 1. -/
def applyTaskEn (s : State) (i : Nat) (v : Word) : State :=
  match taskRec s i with
  | none => s
  | some k =>
    if getBits v 31 16 = 0x5A3C ∧ bit v 0 ∧ s.flag (F.CORE_TASK_STATE.DISABLED.item i) then
      let s := (s.setFlag (F.CORE_TASK_STATE.DISABLED.item i) false).setFld (F.CORE_TASK_STATE.CONSEC.item i) 0
      let starts := (s.cls k.cls).running && (s.cls k.cls).cycle == s.tick
      let s := s.setTask i { s.task i with
        first := true, active := false, ended := !starts, cycle := if starts then s.tick else (s.task i).cycle }
      s.raise 2 3 i (d1 k.cls ++ d1 k.lcore)
    else s

end Sys2Proof.Machine
end

