-- ==== Sys2Proof/Machine/Recorder.lean ====
section
/-! DEFINITION. The event recorder (R309 to R316, R360): record layout and CHK chain, admission by tokens,
coalescing, EVENTs to subscribed sessions (R209), writing the queue to flash, saturation. -/

namespace Sys2Proof.Machine

open Sys2Proof

/-- The last slot of the recorder, which only SATURATED takes (R314). -/
def lastIndex : Nat := 16777215

/-- The priority classes (R310). -/
def priorityClass (c : Nat) : Bool := [0, 3, 12, 13, 16].contains c

/-- Bytes 0 to 59 of a record (R309). -/
def recordBody (r : EvRecord) : List Byte :=
  leBytes 8 r.index ++ leBytes 8 r.ev.time.toNat ++ d1 r.ev.frac ++ d1 r.ev.cls ++ leBytes 2 r.ev.code ++
  leBytes 8 r.ev.tick.toNat ++ leBytes 4 r.cycles.toNat ++ leBytes 8 r.optime.toNat ++
  d1 (b2n r.ev.unacquired + 2 * b2n r.coalesced + 4 * b2n r.ev.fromSkerry) ++ d1 r.ev.state ++
  leBytes 2 (min r.rep 65535) ++ leBytes 2 (min r.suppressed 65535) ++ leBytes 2 r.ev.source ++ detail12 r.ev.detail

/-- The CHK of a record: over its bytes 0 to 59 and the previous CHK as stored (R309). -/
def recordChk (r : EvRecord) (prev : Word) : Word := crc32 (recordBody r ++ leBytes 4 prev.toNat)

/-- The 64 bytes of a record (R309). -/
def recordBytes (r : EvRecord) : List Byte := recordBody r ++ leBytes 4 r.chk.toNat

/-- The INDEX that the next record carries (EVR_NEXT). -/
def State.nextIndex (s : State) : Nat := (s.dword A.EVR_NEXT_LO).toNat

/-- Number the queued records from an index and chain their CHKs (R309). -/
def numberQueue : Nat → Word → List EvRecord → List EvRecord
  | _, _, [] => []
  | i, prev, r :: rs =>
    let r := { r with index := i }
    let c := recordChk r prev
    { r with chk := c } :: numberQueue (i + 1) c rs

/-- Whether a record is the one that a start after a reset begins with (R324). -/
def opensStart (r : EvRecord) : Bool := r.ev.cls == 12 && r.ev.code == 1

/-- Whether a record comes before another in the queue: by TIME with the signed difference of R17, then CLASS, then SOURCE
(R313). What is raised at the instant of a reset stays behind the record of the start, which is the first of it (R324, log
entry 180). -/
def recordBefore (a b : EvRecord) : Bool :=
  let d := (a.ev.time - b.ev.time).toInt * 256 + ((a.ev.frac : Int) - (b.ev.frac : Int))
  if d = 0 then
    (if opensStart b then false
     else if a.ev.cls = b.ev.cls then decide (a.ev.source < b.ev.source) else decide (a.ev.cls < b.ev.cls))
  else decide (d < 0)

/-- Insert a record behind those that do not come after it. -/
def insertRecord (r : EvRecord) : List EvRecord → List EvRecord
  | [] => [r]
  | q :: qs => if recordBefore r q then r :: q :: qs else q :: insertRecord r qs

/-- Change the recorder. -/
def State.withRecorder (s : State) (f : Recorder → Recorder) : State := { s with recorder := f s.recorder }

/-- Replace the queue and show its length (EVR_STATUS.QUEUE). -/
def setQueue (s : State) (q : List EvRecord) : State :=
  (s.withRecorder (fun r => { r with queue := numberQueue s.nextIndex s.recorder.lastChk q })).setFld
    F.EVR_STATUS.QUEUE q.length

/-- Events that are not admitted or not stored: EVR_DROP, and SUPPRESSED of the next admitted record (R311). -/
def suppressEvents (s : State) (n : Nat) : State :=
  (s.count F.EVR_DROP.COUNT n).withRecorder (fun r => { r with suppressed := r.suppressed + n })

/-- Whether a session takes events of this kind: open, its class bit set, and for an overrun the class's bit in
OVR_EVT_EN (R209). -/
def subscribed (s : State) (slot cls code src : Nat) : Bool :=
  s.fld (F.CMD_SESS_STATE.STATE.item slot) == 2 && bit (s.sess slot).mask cls &&
    (!(cls == 1 && code == 1) || bit (s.reg A.TICK_CTRL) (8 + src))

/-- An EVENT of a session (R195, R196, R209): its SEQ is the session's own event counter, its payload the dropped count,
two 0 bytes and the record. -/
def eventMsg (s : State) (slot : Nat) (bytes : List Byte) : Out :=
  .sealed (s.fld (F.CMD_SESS_STATE.PORT.item slot)) (s.sess slot).key
    (pletinHeader 6 (s.reg (itemKey A.CMD_SESS_ID slot)) (s.sess slot).evCounter 0 0 0 (4 + bytes.length))
    (beBytes 2 (s.sess slot).dropped ++ [0, 0] ++ bytes)

/-- Send one EVENT to a session: at most 1,000 a second, further ones are dropped and counted (R209). -/
def eventTo (bytes : List Byte) (s : State) (slot : Nat) : State :=
  let x := s.sess slot
  let sec := s.now.toNat / 1000000000
  let n := if x.evSecond = sec then x.evCount else 0
  if 1000 ≤ n then s.setSess slot { x with dropped := countUp 65535 x.dropped 1 }
  else
    (s.setSess slot { x with dropped := 0, evSecond := sec, evCount := n + 1, evCounter := x.evCounter + 1 }).sendNet
      (s.fld (F.CMD_SESS_STATE.PORT.item slot)) (eventMsg s slot bytes)

/-- Send a record to every subscribed session (R209). -/
def eventOut (s : State) (e : RawEvent) (bytes : List Byte) : State :=
  ((List.range 16).filter (fun k => subscribed s k e.cls e.code e.source)).foldl (eventTo bytes) s

/-- A record of an event with the stamps of Skerry (R309). -/
def stampRecord (s : State) (e : RawEvent) (coalesced : Bool) (rep : Nat) : EvRecord :=
  ⟨0, e, s.reg A.SKERRY_CYCLES, s.dword A.SKERRY_OPTIME_LO, coalesced, rep, s.recorder.suppressed, 0⟩

/-- Judge a record that stands for `n` events: saturated, tokens, queue room (R311 to R314). The second result
tells whether it was admitted. -/
def judgeRecord (s : State) (e : RawEvent) (coalesced : Bool) (rep n : Nat) : State × Bool :=
  let r := stampRecord s e coalesced rep
  if s.flag F.EVR_STATUS.SATURATED then
    let r := { r with index := 0xFFFFFFFFFFFFFFFF }
    let r := { r with chk := recordChk r s.recorder.lastChk }
    (eventOut (s.count F.EVR_DROP.COUNT n) e (recordBytes r), false)
  else
    let t := s.fld F.EVR_TOKENS.TOKENS
    if 64 ≤ s.recorder.queue.length ∨ t = 0 ∨ (priorityClass e.cls = false ∧ t ≤ 1024) then
      (suppressEvents s n, false)
    else
      let s := (s.setFld F.EVR_TOKENS.TOKENS (t - 1)).withRecorder (fun q => { q with suppressed := 0 })
      let s := setQueue s (insertRecord r s.recorder.queue)
      match s.recorder.queue.find? (fun q => q.ev == e && q.rep == rep) with
      | none => (s, true)
      | some q => (eventOut s e (recordBytes q), true)

/-- Whether a coalescing key names this event (R312). -/
def keyOf (e : RawEvent) (k : CoKey) : Bool := k.cls == e.cls && k.code == e.code && k.source == e.source

/-- RECORD_ADMISSION: the oldest raised event joins the pending count of its key, or is judged; an admitted event
opens a key while fewer than 256 are tracked (R311, R312). -/
def admitFront (s : State) : State :=
  match s.recorder.raised with
  | [] => s
  | e :: es =>
    let s := s.withRecorder (fun r => { r with raised := es })
    if s.recorder.keys.any (keyOf e) then
      s.withRecorder (fun r => { r with
        keys := r.keys.map (fun k => if keyOf e k then { k with pending := k.pending + 1, last := e } else k) })
    else
      let (s, ok) := judgeRecord s e false 0 1
      if ok ∧ s.recorder.keys.length < 256 then
        s.withRecorder (fun r => { r with keys := r.keys ++ [⟨e.cls, e.code, e.source, 0, e⟩] })
      else s

/-- RECORD_ADMISSION (R311). -/
def execRecordAdmission (s : State) : Host.Outcome State Fault Refusal := .next (admitFront s)

/-- TOKEN_GAIN: 57 s of operating time have passed (R311; that the operating time of Skerry shows them is log entry
18); one token more, at most 65,536. A module held without supply counts none (R329). -/
def execTokenGain (s : State) : Host.Outcome State Fault Refusal :=
  if s.power.held then .next s
  else
    let s := s.setDword A.SKERRY_OPTIME_LO (s.dword A.SKERRY_OPTIME_LO + 57)
    .next (s.setFld F.EVR_TOKENS.TOKENS (countUp 65536 (s.fld F.EVR_TOKENS.TOKENS) 1))

/-- The end of a key's window (R312): with nothing pending the key is free; else one COALESCED record of the last
occurrence stands for all, and a written one opens the next window. -/
def windowEnd (s : State) (i : Nat) : State :=
  match s.recorder.keys[i]? with
  | none => s
  | some k =>
    let keep := s.recorder.keys.eraseIdx i
    if k.pending = 0 then s.withRecorder (fun r => { r with keys := keep })
    else
      let (s, ok) := judgeRecord s k.last true k.pending k.pending
      s.withRecorder (fun r => { r with keys := if ok then keep ++ [{ k with pending := 0 }] else keep })

/-- COALESCE_WINDOW_END of the key at a place in the table (R312). -/
def execCoalesceWindowEnd (key : Nat) (s : State) : Host.Outcome State Fault Refusal := .next (windowEnd s key)

/-- The checkpoint record with the three counts (R330, R360). -/
def State.checkpointRecord (s : State) : State := s.raise 16 2 0 (d4 (s.reg A.SKERRY_KEYCNT).toNat)

/-- CHECKPOINT_RECORD: 24 h of operating time have passed (R330). -/
def execCheckpointRecord (s : State) : Host.Outcome State Fault Refusal := .next s.checkpointRecord

/-- Program one record into both halves (R313): its 16 words have passed the port, the last one its CHK (R249). -/
def storeRecord (s : State) (r : EvRecord) : State :=
  ((s.withRecorder (fun q => { q with halfA := r :: q.halfA, halfB := r :: q.halfB, lastChk := r.chk })).setDword
    A.EVR_NEXT_LO (BitVec.ofNat 64 (r.index + 1))).setReg A.EVR_FLASH_DATA r.chk

/-- Write the SATURATED record in the last slot in place of the next one, stamped as an event of this instant; the queue is
dropped and counted, with the events that its records and the recorder already had counted as not admitted (R309, R314). The
sessions that take class 16 hear of it (R209). -/
def saturate (s : State) : State :=
  let q := s.recorder.queue
  let n := q.foldl (fun m r => m + r.suppressed) (s.recorder.suppressed + q.length)
  let e : RawEvent := ⟨s.now, s.nowFrac, 16, 1, s.tick, s.mode, 0, detail12 [],
    !s.flag F.TIME_STATUS.ACQUIRED, false⟩
  let x := { stampRecord s e false 0 with index := lastIndex, suppressed := n }
  let x := { x with chk := recordChk x s.recorder.lastChk }
  let s := (s.count F.EVR_DROP.COUNT q.length).withRecorder (fun r => { r with suppressed := 0 })
  let s := (storeRecord s x).setFlag F.EVR_STATUS.SATURATED true
  eventOut (setQueue s []) e (recordBytes x)

/-- Channel 25 writes the first record of the queue (R313, R314). -/
def writeFront (s : State) : State :=
  match s.recorder.queue with
  | [] => s
  | r :: rs =>
    if s.nextIndex = lastIndex then saturate s
    else setQueue (storeRecord s r) rs

/-- Write the whole queue: at most 64 records (R313, R322). -/
def writeQueue (s : State) : State := (List.range 64).foldl (fun s _ => writeFront s) s

/-- The record with an index in a half of the flash. -/
def halfRecord (half : List EvRecord) (i : Nat) : Option EvRecord := half.find? (fun r => r.index == i)

/-- Whether a record's CHK passes in its half: over its body and the CHK before it (R309). -/
def halfPasses (half : List EvRecord) (r : EvRecord) : Bool :=
  let prev := if r.index = 0 then 0xFFFFFFFF else ((halfRecord half (r.index - 1)).map (fun p => p.chk)).getD 0xFFFFFFFF
  r.chk == recordChk r prev

/-- A record as EVR_READ returns it: from the first half whose CHK passes, else as half A stores it, counted (R315). -/
def readRecord (s : State) (i : Nat) : List Byte × State :=
  match halfRecord s.recorder.halfA i with
  | none => ([], s)
  | some a =>
    if halfPasses s.recorder.halfA a then (recordBytes a, s)
    else
      match (halfRecord s.recorder.halfB i).filter (halfPasses s.recorder.halfB) with
      | some b => (recordBytes b, s)
      | none => (recordBytes a, s.count F.EVR_STATUS.BAD_READ 1)

/-- `n` records from an index on, those that are stored (R315). -/
def readRecords (s : State) (first n : Nat) : List Byte × State :=
  (List.range n).foldl (fun x k =>
    let (bs, s) := readRecord x.2 (first + k)
    (x.1 ++ bs, s)) ([], s)

end Sys2Proof.Machine
end

