-- ==== Sys2Proof/Machine/Serial.lean ====
section
/-! DEFINITION. The RS-485 lines (R304 to R308): characters received and sent, FIFOs, driver, flush. -/

namespace Sys2Proof.Machine

open Sys2Proof

/-- Show the fill levels of a line (SER_STATUS). -/
def showFill (s : State) (l : Nat) : State :=
  (s.setFld (F.SER_STATUS.TX_FILL.item l) (s.serLine l).tx.length).setFld (F.SER_STATUS.RX_FILL.item l)
    (s.serLine l).rx.length

/-- Replace a line's FIFOs and show their fill. -/
def putSer (s : State) (l : Nat) (x : SerSt) : State := showFill (s.setSer l x) l

/-- Whether a line is enabled and powered. -/
def serOn (s : State) (l : Nat) : Bool := s.domOn (57 + l) && s.flag (F.SER_CTRL.EN.item l)

/-- Data bits of a character on a line (R304). -/
def serBits (s : State) (l : Nat) : Nat := if s.flag (F.SER_CFG.BITS7.item l) then 7 else 8

/-- The parity bit that a line gives to data: none without parity, even or odd (R304). -/
def serParity (s : State) (l data : Nat) : Option Bool :=
  let ones := ((List.range (serBits s l)).filter (fun i => data.testBit i)).length
  match s.fld (F.SER_CFG.PARITY.item l) with
  | 1 => some (ones % 2 == 1)
  | 2 => some (ones % 2 == 0)
  | _ => none

/-- A character as a line sends it: the start bit, data from the least significant bit on, parity, one or two stop bits
(R304). -/
def serChar (s : State) (l : Nat) (b : Byte) : List Bool :=
  let data := b.toNat % 2 ^ serBits s l
  false :: (List.range (serBits s l)).map (fun i => data.testBit i) ++ (serParity s l data).toList ++
    List.replicate (if s.flag (F.SER_CFG.STOP2.item l) then 2 else 1) true

/-- The data of a received character. -/
def rxData (s : State) (l : Nat) (x : RxChar) : Nat := x.data.toNat % 2 ^ serBits s l

/-- Whether data, parity and stop bits of a received character are all low (R305). -/
def rxBreak (s : State) (l : Nat) (x : RxChar) : Bool :=
  x.stopLow && rxData s l x == 0 && (match serParity s l 0 with
    | none => true
    | some p => p == x.parityError)

/-- The receive FIFO entry of a character (R305, R307). -/
def rxEntry (s : State) (l : Nat) (x : RxChar) (overrun : Bool) : BitVec 16 :=
  let par := x.parityError && (serParity s l 0).isSome
  BitVec.ofNat 16 (rxData s l x + 256 * b2n par + 512 * b2n x.stopLow + 1024 * b2n (rxBreak s l x) + 2048 * b2n x.noise +
    4096 * b2n overrun)

/-- A character was received (R305, R307): flags, break, a full FIFO. -/
def serReceive (s : State) (l : Nat) (x : RxChar) : State :=
  let s := if x.stopLow then s.count (F.SER_ERR.FRAMING.item l) 1 else s
  let s := if rxBreak s l x then s.setFlag (F.SER_STATUS.BREAK.item l) true else s
  let q := s.serLine l
  if 256 ≤ q.rx.length then
    (s.setSer l { q with overrun := true, idleDone := false }).count (F.SER_ERR.OVERRUN.item l) 1
  else putSer s l { q with rx := q.rx ++ [rxEntry s l x q.overrun], overrun := false, idleDone := false }

/-- RECEIVED_CHARACTER: the bits of a character on an enabled line are decided (R305); the line is not heard while
the driver is on without ECHO (R308) or while it is held low after a break. -/
def execReceivedCharacter (line : Nat) (x : RxChar) (s : State) : Host.Outcome State Fault Refusal :=
  if serOn s line = false ∨ s.flag (F.SER_STATUS.BREAK.item line) ∨
     (s.flag (F.SER_STATUS.DRIVING.item line) ∧ s.flag (F.SER_CTRL.ECHO.item line) = false) then .next s
  else if x.falseStart then .next (s.count (F.SER_ERR.NOISE.item line) 1)
  else .next (serReceive s line x)

/-- Whether a line raises its receive request (R307). -/
def rxRequests (s : State) (l : Nat) : Bool :=
  let q := s.serLine l
  decide (4 * 2 ^ s.fld (F.SER_CFG.BURST.item l) ≤ q.rx.length) || (q.idleDone && !q.rx.isEmpty)

/-- Whether a line raises its transmit request, enabled or not (R308, R317). -/
def txRequests (s : State) (l : Nat) : Bool :=
  s.domOn (57 + l) && decide (8 * 2 ^ s.fld (F.SER_CFG.BURST.item l) + (s.serLine l).tx.length ≤ 256)

/-- IDLE_REQUEST: the line has been idle for SER_TIMING.IDLE character times (R307). -/
def execIdleRequest (line : Nat) (s : State) : Host.Outcome State Fault Refusal :=
  if serOn s line && !(s.serLine line).rx.isEmpty then
    .next (raiseLine (s.setSer line { s.serLine line with idleDone := true }) (0x10 + line))
  else .next s

/-- Whether a line is allowed to transmit: enabled, and with CROWN_ONLY only while rank 3 is presented (R308). -/
def serAllowed (s : State) (l : Nat) : Bool :=
  s.flag (F.SER_CTRL.EN.item l) && (s.holds || !s.flag (F.SER_CFG.CROWN_ONLY.item l))

/-- Whether a line may begin a character: it is allowed to, and powered (R308). -/
def serMaySend (s : State) (l : Nat) : Bool := s.domOn (57 + l) && serAllowed s l

/-- Whether a line whose domain drains completes a character (R317). -/
def serFinishes (s : State) (l : Nat) : Bool :=
  (s.dom (57 + l) == 3 || s.dom (57 + l) == 4) && s.flag (F.SER_STATUS.DRIVING.item l)

/-- The driver is enabled while characters wait that may be sent (R308). -/
def driveIfDue (s : State) (l : Nat) : State :=
  if serMaySend s l && !(s.serLine l).tx.isEmpty then s.setFlag (F.SER_STATUS.DRIVING.item l) true else s

/-- A byte is written into the transmit FIFO (R308): discarded and counted with CROWN_ONLY at another rank; the FIFO
holds 256. -/
def serPut (l : Nat) (s : State) (b : Byte) : State :=
  let q := s.serLine l
  if s.flag (F.SER_CFG.CROWN_ONLY.item l) && !s.holds then s.count (F.SER_ERR.SUPPRESSED.item l) 1
  else if 256 ≤ q.tx.length then s
  else driveIfDue (putSer s l { q with tx := q.tx ++ [b] }) l

/-- CHARACTER_TRANSMITTED: the character at the head of the transmit FIFO has left (R308); that of a draining line was the
last, and the driver is released (R317). -/
def execCharacterTransmitted (line : Nat) (s : State) : Host.Outcome State Fault Refusal :=
  if serMaySend s line || serFinishes s line then
    match (s.serLine line).tx with
    | [] => .next s
    | b :: rest =>
      let s := s.setFlag (F.SER_STATUS.DRIVING.item line) (serMaySend s line)
      .next ((putSer s line { s.serLine line with tx := rest }).emit (.serial line (serChar s line b)))
  else .next s

/-- DRIVER_RELEASE: TAIL bit times after the last stop bit of a run the driver is released (R308). -/
def execDriverRelease (line : Nat) (s : State) : Host.Outcome State Fault Refusal :=
  if (s.serLine line).tx.isEmpty || !(serMaySend s line || serFinishes s line) then
    .next (s.setFlag (F.SER_STATUS.DRIVING.item line) false)
  else .next s

/-- BREAK_END: the line has been high for one bit time after a break (R305). -/
def execBreakEnd (line : Nat) (s : State) : Host.Outcome State Fault Refusal :=
  .next (s.setFlag (F.SER_STATUS.BREAK.item line) false)

/-- Empty both FIFOs of a line (R307). -/
def serFlush (s : State) (l : Nat) : State :=
  putSer s l { s.serLine l with rx := [], tx := [], overrun := false, idleDone := false }

/-- A write of SER_CTRL: FLUSH, then EN and ECHO take their values. -/
def writeSerCtrl (s : State) (v : Word) : State :=
  let l := s.fld F.SER_SEL.LINE
  let s := if bit v 2 then serFlush s l else s
  driveIfDue ((s.setFlag (F.SER_CTRL.ECHO.item l) (bit v 1)).setFlag (F.SER_CTRL.EN.item l) (bit v 0)) l

/-- FLUSH: a write of SER_CTRL (R307). -/
def execFlush (v : Word) (s : State) : Host.Outcome State Fault Refusal :=
  .next (if s.domOn (57 + s.fld F.SER_SEL.LINE) then writeSerCtrl s v else s)

/-- The input item of a line (R296). -/
def serItem (s : State) (l : Nat) (sub : DWord) : Slot :=
  if s.domOn (57 + l) then ⟨(s.reg (itemKey A.SER_STATUS l)).setWidth 64, .good⟩ else badSlot sub

end Sys2Proof.Machine
end

