-- ==== Sys2Proof/Machine/Power.lean ====
section
/-! DEFINITION. Power domains (R317 to R320), the feeds and the supply-fail warning (R321 to R323), resets (R324) and the
watchdogs (R325). -/

namespace Sys2Proof.Machine

open Sys2Proof

@[reducible] def domOff : Nat := 0
@[reducible] def domRamping : Nat := 1
@[reducible] def domIsOn : Nat := 2
@[reducible] def domDraining : Nat := 3
@[reducible] def domPending : Nat := 4

/-- Change the power manager's internal state. -/
def State.withPower (s : State) (f : PowerSt → PowerSt) : State := { s with power := f s.power }

/-- Whether the running image needs a domain (PWR_DOM_STATE.NEEDED). -/
def domNeeded (s : State) (d : Nat) : Bool := s.flag (F.PWR_DOM_STATE.NEEDED.item d)

/-! ## What a unit does when its domain drains (R317) -/

/-- An analogue group: outputs at 0, conversions discarded. -/
def drainAnalogue (s : State) (g : Nat) : State :=
  let s := (List.range 8).foldl (fun s i =>
    let c := 8 * g + i
    let s := if isOutput (anaMode s c) then driveTerminal s c 0 else s
    s.setAna c { s.anaCh c with integrating := false, applied := if isOutput (anaMode s c) then 0 else (s.anaCh c).applied }) s
  convIdle (s.setGrp g { s.grp g with running := none, held := none }) g

/-- A CAN bus: every transmit buffer but the one whose frame is in progress becomes ABORTED; that frame is not retried. -/
def drainCan (s : State) (b : Nat) : State :=
  let s := s.setCan b { s.canBus b with again := [], abortActive := (s.canBus b).active.isSome }
  (List.range 64).foldl (fun s i => if canState s b i = 2 then txEnd s b i 7 else s) s

/-- A CAN bus is off: a frame that did not complete is broken off. -/
def canOff (s : State) (b : Nat) : State :=
  match (s.canBus b).active with
  | none => s
  | some i => noActive (txEnd s b i 7) b

/-- An RS-485 line: both FIFOs are flushed but for the character in progress, and without one the driver is released. -/
def drainSerial (s : State) (l : Nat) : State :=
  let sending := s.flag (F.SER_STATUS.DRIVING.item l) && serAllowed s l
  let head := if sending then (s.serLine l).tx.take 1 else []
  let s := serFlush s l
  let s := putSer s l { s.serLine l with tx := head }
  s.setFlag (F.SER_STATUS.DRIVING.item l) (!head.isEmpty)

/-- An RS-485 line is off. -/
def serialOff (s : State) (l : Nat) : State := serFlush (s.setFlag (F.SER_STATUS.DRIVING.item l) false) l

/-- What a unit drops when its domain is OFF after draining (R317). -/
def unitOff (s : State) (d : Nat) : State :=
  if 53 ≤ d ∧ d < 57 then canOff s (d - 53) else if 57 ≤ d ∧ d < 61 then serialOff s (d - 57) else s

/-- The unit of a domain begins to drain (R317). The Causeway of a ring closes at the next guard window (R142). -/
def drainUnit (s : State) (d : Nat) : State :=
  if d < 48 then s
  else if d < 52 then drainAnalogue s (d - 48)
  else if d = 52 then s
  else if d < 57 then drainCan s (d - 53)
  else if d < 61 then drainSerial s (d - 57)
  else if d < 76 then closePort s (d - 60)
  else s

/-- A domain enters DRAINING. -/
def startDrain (s : State) (d : Nat) : State := drainUnit (s.setDom d domDraining) d

/-! ## Requests and ends (R319, R320) -/

/-- An on request. -/
def requestOn (s : State) (d : Nat) : State :=
  match s.dom d with
  | 0 => s.setDom d domRamping
  | 3 => s.setDom d domPending
  | _ => s

/-- An off request that is not refused. -/
def requestOff (s : State) (d : Nat) : State :=
  match s.dom d with
  | 1 => s.withPower (fun p => { p with offAsked := insertSorted d p.offAsked })
  | 2 => startDrain s d
  | 4 => s.setDom d domDraining
  | _ => s

/-- An off request: refused for a domain that the running image needs and for domains 76 to 95 (R320). -/
def askOff (s : State) (d : Nat) : State :=
  if domNeeded s d || decide (76 ≤ d) then s.note F.PWR_EVENT.REFUSED else requestOff s d

/-- A keyed write of PWR_DOM_REQ for the domain in PWR_DOM_SEL. -/
def writeDomReq (s : State) (v : Word) : State :=
  let d := s.fld F.PWR_DOM_SEL.DOM
  if getBits v 31 16 ≠ 0x5AC3 ∨ 96 ≤ d then s
  else if bit v 0 && !bit v 1 then requestOn s d
  else if bit v 1 && !bit v 0 then askOff s d
  else s

/-- ON_REQUEST: a write of PWR_DOM_REQ (R319). -/
def execOnRequest (v : Word) (s : State) : Host.Outcome State Fault Refusal := .next (writeDomReq s v)

/-- OFF_REQUEST: a write of PWR_DOM_REQ (R319, R320). -/
def execOffRequest (v : Word) (s : State) : Host.Outcome State Fault Refusal := .next (writeDomReq s v)

/-- The crown holder's loader loads the shadow tables of a ring's stations that have none and no load under way (R95). -/
def loadRingShadows (s : State) (k : Nat) : State :=
  match s.loader.img with
  | none => s
  | some im =>
    if s.fld F.HOOD_STATUS.STATE = 5 && s.holds then
      (im.stations.filter (fun x => x.ring == k)).foldl (fun s x =>
        if s.loader.shadow.any (isLoad x.ring x.station) || s.flag (stnFld F.RING_STN_STATE.SHADOW_OK x.ring x.station)
        then s else startLoad s x) s
    else s

/-- What a unit does when its domain comes ON: free-running converters of an analogue group start (R262), a ring takes the
shadow tables of an armed image (R95). -/
def powerUnit (s : State) (d : Nat) : State :=
  if d < 48 then loadRingShadows s d else if d < 52 then freeRunStarts s else s

/-- RAMP_COMPLETE: ON; an off request made while ramping now drains the domain (R319). -/
def execRampComplete (dom : Nat) (s : State) : Host.Outcome State Fault Refusal :=
  if s.dom dom = domRamping then
    let asked := s.power.offAsked.contains dom
    let s := s.setDom dom domIsOn
    if asked then
      .next (startDrain (s.withPower (fun p => { p with offAsked := p.offAsked.filter (· != dom) })) dom)
    else .next (powerUnit s dom)
  else .next s

/-- DRAIN_COMPLETE: OFF, and with a held on request RAMPING at once (R319). -/
def execDrainComplete (dom : Nat) (s : State) : Host.Outcome State Fault Refusal :=
  match s.dom dom with
  | 3 => .next (unitOff (s.setDom dom domOff) dom)
  | 4 => .next (unitOff (s.setDom dom domRamping) dom)
  | _ => .next s

/-- DOM_FAULT: a limit is exceeded; the domain is forced OFF (R320). -/
def execDomFault (dom : Nat) (s : State) : Host.Outcome State Fault Refusal :=
  let st := s.dom dom
  if st = domRamping ∨ st = domDraining ∨ st = domPending then
    let s := unitOff ((s.setDom dom domOff).withPower (fun p => { p with offAsked := p.offAsked.filter (· != dom) })) dom
    .next ((s.note F.PWR_EVENT.DOM_FAULT).raise 12 2 dom (d1 st))
  else .next s

/-! ## Holding ENTER (R335) -/

/-- Change the panel. -/
def State.withPanel (s : State) (f : PanelSt → PanelSt) : State := { s with panel := f s.panel }

/-- The scan with which ENTER has been touched for 3 s: scans are 10 ms apart (R334, R335). -/
def holdScans : Nat := 301

/-- Whether ENTER has been held for 3 s on a screen (R335). -/
def enterHeldIn (s : State) (m : PanelMenu) : Bool := decide (s.panel.menu = m) && decide (holdScans ≤ s.panel.enterHeld)

/-! ## Feeds (R321 to R323) -/

/-- A feed's voltage in 10 mV is shown; its line is 1 from 18.0 V on. -/
def showFeed (s : State) (feedB : Bool) (cv : Nat) : State :=
  if feedB then (s.setFld F.PWR_FEED.FEED_B cv).setFlag F.PWR_STATUS.FEED_B (decide (1800 ≤ cv))
  else (s.setFld F.PWR_FEED.FEED_A cv).setFlag F.PWR_STATUS.FEED_A (decide (1800 ≤ cv))

/-- FEED_LOST: a feed has been below 18.0 V for 1 ms (R321). -/
def execFeedLost (feedB : Bool) (cv : Nat) (s : State) : Host.Outcome State Fault Refusal :=
  if cv < 1800 then
    .next (((showFeed s feedB cv).note F.PWR_EVENT.FEED_LOST).raise 12 3 (b2n feedB) (leBytes 2 cv))
  else .next s

/-- SUPPLY_FAIL_WARNING: the higher feed is below 16.5 V, so neither is shown as valid (R321); pending writes are finished;
the rest of R322 follows from the flag (R224, R225, R313, R322). -/
def execSupplyFailWarning (s : State) : Host.Outcome State Fault Refusal :=
  if s.power.warned then .next s
  else
    let s := ((s.setFlag F.PWR_STATUS.WARNING true).setFlag F.PWR_STATUS.FEED_A false).setFlag F.PWR_STATUS.FEED_B false
    let s := s.withPower (fun p => { p with warned := true, warnedAt := s.now })
    .next (writeQueue (flushDone s))

/-- FEED_RETURN: a feed at 19.0 V for 100 ms lets the module leave a SUPPLY_FAIL reset (R323). -/
def execFeedReturn (feedB : Bool) (cv : Nat) (s : State) : Host.Outcome State Fault Refusal :=
  let s := showFeed s feedB cv
  .next (if 1900 ≤ cv then s.withPower (fun p => { p with held := false }) else s)

/-! ## Resets (R324) -/

/-- Registers that a reset keeps: Skerry, journal and recorder heads, the stored epoch, straps, feeds, the service
address, the time counter until start-up loads it. -/
def keptRegister (key : Nat) : Bool :=
  let a := key % 0x1000000
  a / 65536 == 24 || a / 65536 == 11 ||
  [A.CROWN_STORED, A.SYS_SLOT, A.EVR_NEXT_LO, A.EVR_NEXT_HI, A.EVR_TOKENS, A.PWR_FEED, A.PANEL_SVC_IP4, A.PANEL_SVC_PFX,
   A.TIME_NOW_LO, A.TIME_NOW_HI, A.TIME_NOW_FRAC, A.ANA_STRAP0, A.ANA_STRAP1].contains a

/-- Whether a place of memory lies in MRAM. -/
def inMram : MemPlace → Bool
  | .addr w => decide (mramBase ≤ 8 * w) && decide (8 * w < mramBase + 0x1000000)
  | _ => false

/-- Whether a supply-fail warning outlives a reset: a watchdog or command reset does not take the place of the SUPPLY_FAIL
reset that a warned module always completes (R323, log entry 120). -/
def stillWarned (s : State) (kind : Nat) : Bool := s.power.warned && (kind == 2 || kind == 3)

/-- What every reset keeps, and everything else at its reset value (R324). -/
def resetBase (s : State) (kind : Nat) : State :=
  { State.reset with
    regs := s.regs.filter (fun e => keptRegister e.1)
    mem := s.mem.filter (fun e => decide (mramBase ≤ e.1) && decide (e.1 < mramBase + 0x1000000))
    bad := s.bad.filter inMram
    bank0 := s.bank0, bank1 := s.bank1, activeRec := s.activeRec, opnum := s.opnum
    recorder := s.recorder, journal := s.journal, sessCtr := s.sessCtr
    footA := s.footA, footB := s.footB
    skerry := { s.skerry with rekeying := false }
    panel := { PanelSt.initial with ip6 := s.panel.ip6 }
    dio := { DioSt.initial with
      applied := s.dio.applied, fieldEnables := s.dio.fieldEnables, pulses := s.dio.pulses
      overloaded := s.dio.overloaded, safe := s.dio.safe, safeTable := s.dio.safeTable }
    power := { State.reset.power with
      held := kind == 1 || s.power.held
      warned := stillWarned s kind
      warnedAt := s.power.warnedAt
      startResets := if kind = 2 && s.mode = stStart then s.power.startResets + 1 else 0 }
    outbox := s.outbox, pending := s.pending }

/-- A reset of a kind: START from any state (R32, R324). -/
def resetModule (s : State) (kind : Nat) : State :=
  let old := s.mode
  let tampered := s.tampered
  let partner := s.reg A.CROWN_PARTNER
  let r := resetBase s kind
  let r := (r.setFlag F.SYS_STATE.TAMPERED tampered).setFld F.PWR_STATUS.RESET_KIND kind
  let r := r.setFlag F.PWR_STATUS.WARNING (stillWarned s kind)
  let r := (r.setFlag F.PWR_STATUS.FEED_A (s.flag F.PWR_STATUS.FEED_A)).setFlag F.PWR_STATUS.FEED_B
    (s.flag F.PWR_STATUS.FEED_B)
  let r := (r.setFld F.EVR_STATUS.QUEUE r.recorder.queue.length).setFlag F.EVR_STATUS.SATURATED
    (s.flag F.EVR_STATUS.SATURATED)
  let r := if r.fld F.SKERRY_STATUS.KEYS = 2 then r.setFld F.SKERRY_STATUS.KEYS 1 else r
  let r := r.raise 12 1 0 (d1 kind)
  if old = stStart then r
  else (r.note F.SYS_EVENT.STATE_CHANGED).raise 0 1 0
    (d1 old ++ d1 stStart ++ d1 0 ++ d1 0 ++ d4 r.crown.toNat ++ d4 partner.toNat)

/-- RESET: 0 POWER_ON, 1 SUPPLY_FAIL after its warning, 2 WATCHDOG, 3 COMMAND; a module held in a SUPPLY_FAIL reset makes no
watchdog or command reset (R323, R324). -/
def execReset (kind : Nat) (s : State) : Host.Outcome State Fault Refusal :=
  if (kind = 1 && !s.power.warned) || (2 ≤ kind && s.power.held) then .next s else .next (resetModule s kind)

/-- A COMMAND reset is asked for: in a running state it comes at the end of the guard window, else at once; a module held in
a SUPPLY_FAIL reset makes none (R323, R324). -/
def commandReset (s : State) : State :=
  if s.power.held then s
  else if s.running then s.withPower (fun p => { p with resetDue := true })
  else resetModule s 3

/-- A keyed write of PWR_RESET. -/
def writePwrReset (s : State) (v : Word) : State :=
  if getBits v 31 16 = 0xE187 ∧ bit v 0 then commandReset s else s

/-- PWR_RESET (R324). -/
def execPwrReset (v : Word) (s : State) : Host.Outcome State Fault Refusal := .next (writePwrReset s v)

/-- SAFE_ARM_RESET: after an arm in SAFE (R101). -/
def execSafeArmReset (s : State) : Host.Outcome State Fault Refusal :=
  .next (if s.loader.safeReset && s.mode == stSafe then resetModule s 3 else s)

/-- TICK_WATCHDOG: four consecutive ticks of a running state without a commit (R325). -/
def execTickWatchdog (s : State) : Host.Outcome State Fault Refusal :=
  .next (if s.running && decide (4 ≤ s.power.noCommit) then resetModule s 2 else s)

/-- Whether the present step of the start-up order is bounded: not the acquisition wait, not resynchronisation with
its waits between attempts (R171, R325). -/
def stepBounded (s : State) : Bool :=
  let st := s.fld F.PWR_STATUS.START_STEP
  st != 0 && st != 7 && !(st == 8 && (s.resync.role == .joiner || s.resync.retryAt.isSome))

/-- START_WATCHDOG: a step has taken twice its limit; after three such resets the module stays at the step (R325).
A module held in a SUPPLY_FAIL reset takes no step (R323). -/
def execStartWatchdog (s : State) : Host.Outcome State Fault Refusal :=
  if s.mode = stStart && stepBounded s && !s.power.held then
    if 3 ≤ s.power.startResets then .next (s.setFlag F.PWR_STATUS.START_STUCK true) else .next (resetModule s 2)
  else .next s

end Sys2Proof.Machine
end

