-- ==== Sys2Proof/Machine/RegAccess.lean ====
section
/-! DEFINITION. Register access (R5, R172, R229, R238, R249, R355 to R357): the order of checks, reads with their latches
and clears, writes by access type, the writes that act, forwarding. -/

namespace Sys2Proof.Machine

open Sys2Proof

/-! ## Items and values -/

/-- The item whose copy of a register is selected at this instant (R356). -/
def regItem (s : State) (a : Nat) (r : RegDesc) : Nat :=
  if a = A.GUARD_BASE_LO ∨ a = A.GUARD_BASE_HI ∨ a = A.GUARD_ATTR then
    s.fld F.GUARD_SEL.REQ * 32 + s.fld F.GUARD_SEL.REGION
  else if a = A.GUARD_APPLY then s.fld F.GUARD_SEL.REQ
  else if a = A.CORE_TASK_EN then s.fld F.CORE_TASK_SEL.TASK
  else match r.sel with
    | none => 0
    | some f => if 26 ≤ a / 65536 then s.fld (f.ring (a / 65536 - 26)) else s.fld f

/-- The bits of a register that a read returns: write-only fields and reserved bits read 0 (R5, R6). -/
def readMask (r : RegDesc) : Word :=
  r.fields.foldl (fun m f => if f.acc = .wo then m else m ||| fieldMask f.hi f.lo) 0

/-- Whether the engine is in RECOVERY mode (R250). -/
def recoveryMode (s : State) : Bool :=
  s.mode == stStart || s.flag F.CHK_STATUS.VERDICT_BUSY || s.fld F.STRAIT_STATUS.COPY != 0 || s.flag F.XFER_CTRL.TEST

/-- The value that a read of the register at `a` returns, with no effect of the read. -/
def regValue (s : State) (a : Nat) : Word :=
  match regAt a with
  | none => 0
  | some r =>
    let i := regItem s a r
    let v := s.reg (itemKey a i) &&& readMask r
    if (a = A.GUARD_BASE_LO ∨ a = A.GUARD_BASE_HI ∨ a = A.GUARD_ATTR) ∧ 16 ≤ i / 32 ∧ i / 32 < 32 then 0
    else if a = A.XFER_STATUS then setBits v 7 7 (b2n (recoveryMode s))
    else if a = A.TIME_PORT_CFG ∧ getBits v 1 0 ≠ 0 then setBits v 7 4 (Config.portState i s.now).toNat
    else if a = A.ANA_HART_PT then
      let g := s.fld F.ANA_HART_PT.MODEM
      setBits (s.reg (itemKey a g) &&& readMask r) 3 2 g
    else if (a = A.CORE_TASK_STATE ∨ (26 ≤ a / 65536 ∧ a % 65536 = A.RING_STN_STATE % 65536)) ∧ bit v 31 = false then 0
    else v

/-! ## Judging an access (R238) -/

/-- The guard requester of a register access: a host command is judged by channel 31's set, a channel by its own; the
module's own units are not judged (log entry 36). -/
def guardReq : Requester → Option Nat
  | .session _ => some 63
  | .channel c => some (32 + c)
  | .unit => none

/-- Whether a requester may reach the data port of a flash (R249). -/
def portOwner (who : Requester) (a : Nat) : Bool :=
  if a = A.CFG_FLASH_DATA then who == .channel 26
  else if a = A.EVR_FLASH_DATA then who == .channel 25
  else true

/-- Orders 1 to 4 of R238 for an access of `n` bytes: the code of the first that fails, and the cause that GUARD_STATUS
shows. No register has a byte-writable field. -/
def regJudge (s : State) (who : Requester) (a n : Nat) (write : Bool) : Option (Nat × Nat) :=
  let named := regAt (a / 4 * 4)
  if 74 ≤ a / 65536 ∨ !portOwner who (a / 4 * 4) then some (rcGuard, 3)
  else if (if n = 8 then a % 4 else a % n) ≠ 0 then some (rcAlign, 0)
  else if named.isSome && n == 8 && !((named.map (fun r => r.low)).getD false) then some (rcSize, 0)
  else if named.isSome && decide (n < 4) && write then some (rcSize, 0)
  else match guardReq who with
    | none => none
    | some q => (guardJudge s q (regBase + a) n write).map (fun c => (rcGuard, c))

/-- The power domain that a register lies in, where it is not the supervisor domain (R317; log entry 37). -/
def accessDomain (s : State) (a : Nat) : Option Nat :=
  let b := a / 65536
  let o := a % 65536
  if 26 ≤ b then some (b - 26)
  else if b = 9 ∧ 4 ≤ o ∧ o ≤ 0x10 then
    let p := s.fld F.NET_PORT_SEL.PORT
    some (if p = 0 then 76 else 60 + p)
  else if b = 17 ∧ 4 ≤ o ∧ o ≤ 0x10 then some (48 + s.fld F.ANA_CH_SEL.CH / 8)
  else if b = 17 ∧ 0x100 ≤ o then some (48 + s.fld F.ANA_HART_PT.MODEM)
  else if b = 18 ∧ 0x24 ≤ o then some (48 + s.fld F.CONV_GRP_SEL.GRP)
  else if b = 19 then some 52
  else if b = 20 ∧ 0x8000 ≤ o then some (53 + (o - 0x8000) / 0x2000)
  else if b = 20 ∧ o ≠ 0 then some (53 + s.fld F.CAN_SEL.BUS)
  else if b = 21 ∧ o ≠ 0 then some (57 + s.fld F.SER_SEL.LINE)
  else none

/-- Whether the unit of a register answers (R317). -/
def unitAnswers (s : State) (a : Nat) : Bool :=
  match accessDomain s a with
  | none => true
  | some d => s.domOn d

/-! ## Reads -/

/-- Clear the RC fields of a register that bytes `lo` to `lo + n − 1` of it cover whole (R5, R238). -/
def clearRead (s : State) (a : Nat) (r : RegDesc) (lo n : Nat) : State :=
  let key := itemKey a (regItem s a r)
  r.fields.foldl (fun s f =>
    if f.acc = .rc ∧ 8 * lo ≤ f.lo ∧ f.hi < 8 * (lo + n) then s.setReg key (setBits (s.reg key) f.hi f.lo 0) else s) s

/-- What a read of a low word does beside returning it (R357, TIME_NOW_FRAC, R192). -/
def lowRead (s : State) (who : Requester) (a : Nat) : State :=
  if a = A.TIME_CAP_T_LO then captureLowRead s who
  else
    let s := s.latch who (a + 4) (regValue s (a + 4))
    if a = A.TIME_NOW_LO then s.latch who A.TIME_NOW_FRAC (regValue s A.TIME_NOW_FRAC) else s

/-- Effects of a read on a CAN message buffer: HEAD takes the lock, TAIL ends it (R299). -/
def canRead (s : State) (a : Nat) : State :=
  let o := a % 65536
  if a / 65536 = 20 ∧ 0x8000 ≤ o then
    let b := (o - 0x8000) / 0x2000
    let i := o % 0x2000 / 0x80
    if o % 0x80 = 0 then headLock s b i else if o % 0x80 = 0x7C then tailRead s b i else s
  else s

/-- Read bytes `lo` to `lo + n − 1` of the register at `a`: the whole word as this requester sees it, and the effects. -/
def readReg (s : State) (who : Requester) (a lo n : Nat) : Word × State :=
  match regAt a with
  | none => (0, s)
  | some r =>
    let live := regValue s a
    let v := if r.high || a == A.TIME_NOW_FRAC || a == A.TIME_CAP_T_FRAC then s.latched who a live else live
    let s := if r.low then lowRead s who a else s
    (v, canRead (clearRead s a r lo n) a)

/-- Read `n` bytes at register address `a`, right-aligned (R5, R238, R357). -/
def readBytes (s : State) (who : Requester) (a n : Nat) : Nat × State :=
  if n = 8 then
    if (regAt a).isNone then (0, s)
    else
      let hi := (regValue s (a + 4)).toNat
      let (lo, s) := readReg s who a 0 4
      (hi * 2 ^ 32 + lo.toNat, s)
  else
    let w := a / 4 * 4
    let (v, s) := readReg s who w (a % 4) n
    (v.toNat / 2 ^ (8 * (a % 4)) % 2 ^ (8 * n), s)

/-! ## Writes -/

/-- What a write makes of one field (R5, R355). -/
def writeField (old v : Word) (f : FieldDesc) : Word :=
  let x := getBits v f.hi f.lo
  let o := getBits old f.hi f.lo
  match f.acc with
  | .rw => setBits old f.hi f.lo (if f.threeIsZero && x == 3 then 0 else clamp f.min f.max x)
  | .w1c => setBits old f.hi f.lo (Nat.land o (2 ^ (f.hi + 1 - f.lo) - 1 - x))
  | .w1s => setBits old f.hi f.lo (Nat.lor o x)
  | .ro | .wo | .rc => old

/-- A write of a register with no action of its own: each field by its access type (R5). -/
def storeFields (s : State) (key : Nat) (r : RegDesc) (v : Word) : State :=
  s.setReg key (r.fields.foldl (fun w f => writeField w v f) (s.reg key))

/-- Perform a write of the register at `a` for an item: the action that the register's table gives, else a store. -/
def applyWrite (s : State) (a item : Nat) (v : Word) : State :=
  match regAt a with
  | none => s
  | some r =>
    let store := storeFields s (itemKey a item) r v
    if 26 ≤ a / 65536 ∧ a % 65536 = 0 then writeRingCtrl s (a / 65536 - 26) v
    else if a / 65536 = 20 ∧ 0x8000 ≤ a % 65536 then
      let o := a % 65536
      writeCanWord s ((o - 0x8000) / 0x2000) (o % 0x2000 / 0x80) (o % 0x80 / 4) v
    else if a = A.SYS_CTRL then writeSafeReq s v
    else if a = A.CORE_TASK_EN then applyTaskEn s item v
    else if a = A.CHK_SPLIT then writeSplit s v
    else if a = A.CROWN_CTRL then writeSwapReq s v
    else if a = A.GUARD_APPLY then guardApplyEffect s item v
    else if a = A.GUARD_BASE_LO ∨ a = A.GUARD_BASE_HI ∨ a = A.GUARD_ATTR then
      if guardOwnable (item / 32) then store else s
    else if a = A.TIME_TRIG_CTRL then writeTrigCtrl s item v
    else if a = A.TIME_SERVO then limitRate store
    else if a = A.TIME_TRIG_T_LO ∨ a = A.TIME_TRIG_T_HI ∨ a = A.TIME_TRIG_PERIOD then
      if s.fld (F.TIME_TRIG_CTRL.STATE.item item) = 1 then s else store
    else if a = A.TIME_PORT_ASYM_IN ∨ a = A.TIME_PORT_ASYM_OUT then
      if 15 ≤ item ∧ item < 32 then s else store
    else if a = A.XFER_CMD then writeXferCmd s v
    else if a = A.XFER_CH_CTRL then writeChCtrl s v
    else if a = A.XFER_CH_DESC_LO ∨ a = A.XFER_CH_DESC_HI then
      if item < 24 ∧ chAtRest s item then store else s
    else if a = A.ANA_TRIM_CTRL then writeTrim s v
    else if a = A.ANA_HART_PT then writeHartPt s v
    else if a = A.CONV_REF_CTRL then setReference s (bit v 0)
    else if a = A.CONV_GRP_CTRL then writeGrpCtrl s v
    else if a = A.CONV_GRP_URGENT then writeUrgent s v [] s.now
    else if a = A.CAN_CTRL then writeCanCtrl s v
    else if a = A.CAN_NBT ∨ a = A.CAN_DBT then if s.flag (F.CAN_CTRL.INIT.item item) then store else s
    else if a = A.CAN_TX_REQ0 then writeTxReq s false v
    else if a = A.CAN_TX_REQ1 then writeTxReq s true v
    else if a = A.CAN_TX_ABORT0 then writeTxAbort s false v
    else if a = A.CAN_TX_ABORT1 then writeTxAbort s true v
    else if a = A.SER_CTRL then writeSerCtrl s v
    else if a = A.SER_CFG then if s.flag (F.SER_CTRL.EN.item item) then s else store
    else if a = A.PWR_DOM_REQ then writeDomReq s v
    else if a = A.PWR_RESET then writePwrReset s v
    else store

/-! ## Forwarded writes (R172) -/

/-- A write of a forwarded register: sent to the partner and due at the start of tick w + 2 on both; while no tick runs it
takes effect at once (log entry 38). The slot names the session whose REG_WRITE it is. -/
def forwardWrite (s : State) (a item : Nat) (v : Word) (slot : Option Nat) : State :=
  if s.ticking then
    let due := s.tick + 2
    let w : FwdWrite := ⟨itemKey a item, v, due, true, s.pair.seq, false, slot⟩
    let s := s.straitOn 6 5 0 ([a / 65536, a % 65536, item, v.toNat, due.toNat] ++ originVals s slot) (originArgs s slot)
    s.withPair (fun p => { p with fwd := p.fwd ++ [w] })
  else applyWrite s a item v

/-- Whether a register is marked as forwarded. -/
def regForwarded (a : Nat) : Bool := ((regAt a).map (fun r => r.fwd)).getD false

/-- A 32-bit write of the register at `a` for the item selected now. -/
def writeReg (s : State) (a : Nat) (v : Word) (slot : Option Nat) : State :=
  match regAt a with
  | none => s
  | some r =>
    let i := regItem s a r
    if r.fwd then forwardWrite s a i v slot else applyWrite s a i v

/-- Write `n` bytes (4 or 8) at register address `a`: each word of a pair as written (R357); nothing at an offset
that names no register (R229). -/
def writeBytes (s : State) (a n v : Nat) (slot : Option Nat) : State :=
  if n = 8 ∧ (regAt a).isNone then s
  else if n = 8 then writeReg (writeReg s a (BitVec.ofNat 32 v) none) (a + 4) (BitVec.ofNat 32 (v / 2 ^ 32)) slot
  else writeReg s a (BitVec.ofNat 32 v) slot

/-- A refused register access: GUARD_STATUS shows a refusal by GUARD (R228, R241, R249). -/
def regRefused (s : State) (who : Requester) (a : Nat) (write : Bool) (why : Nat × Nat) : State :=
  match guardReq who with
  | none => s
  | some q => if why.1 = rcGuard then guardRefuse s q (regBase + a) write why.2 else s

/-- A 32-bit register write by a requester, judged by R238 and R317. -/
def registerWrite (s : State) (who : Requester) (a : Nat) (v : Word) : State :=
  match regJudge s who a 4 true with
  | some why => regRefused s who a true why
  | none => if unitAnswers s a then writeReg s a v none else s

/-- REGISTER_WRITE (R5). -/
def execRegisterWrite (who : Requester) (addr : Nat) (v : Word) (s : State) : Host.Outcome State Fault Refusal :=
  .next (registerWrite s who addr v)

/-- DECLARED_PAIR_LOW_READ (R357). -/
def execDeclaredPairLowRead (who : Requester) (addr : Nat) (s : State) : Host.Outcome State Fault Refusal :=
  match regAt addr with
  | none => .next s
  | some r => .next (if r.low && (regJudge s who addr 4 false).isNone && unitAnswers s addr
      then (readReg s who addr 0 4).2 else s)

/-- GUARD_APPLY: a write of the forwarded register (R242). -/
def execGuardApply (v : Word) (s : State) : Host.Outcome State Fault Refusal := .next (writeReg s A.GUARD_APPLY v none)

/-- TASK_RE_ENABLE: a write of the forwarded CORE_TASK_EN (R70). -/
def execTaskReEnable (v : Word) (s : State) : Host.Outcome State Fault Refusal := .next (writeReg s A.CORE_TASK_EN v none)

/-- REFERENCE_BUFFER_EN: a write of CONV_REF_CTRL takes effect (R264). -/
def execReferenceBufferEn (v : Word) (s : State) : Host.Outcome State Fault Refusal := .next (setReference s (bit v 0))

/-! ## REGINIT (R222) -/

/-- A field that the image sets: a code that its table calls never read leaves the field as it is, and a length below the
stated range takes its limit, as R355 has it for a write (DEDUCED, log entry 175). -/
def imageField (old v : Word) (f : FieldDesc) : Word :=
  let x := getBits v f.hi f.lo
  if f.max < x then old else setBits old f.hi f.lo (Nat.max f.min x)

/-- One REGINIT record: an RW register takes the write at once on this module; of a register reset from the image every
field is set. Before the first tick a trigger is not armed (R191). -/
def regInitOne (s : State) (x : RegInitRec) : State :=
  let a := x.block * 65536 + x.off
  match regAt a with
  | none => s
  | some r =>
    let i := regItem s a r
    if a = A.TIME_TRIG_CTRL && !s.ticking then writeTrigCtrl s i (x.value &&& 0xFFFFFFFE)
    else if r.image && !(r.fields.any (fun f => f.acc = .rw)) then
      s.setReg (itemKey a i) (r.fields.foldl (fun w f => imageField w x.value f) (s.reg (itemKey a i)))
    else applyWrite s a i x.value

/-- The image's REGINIT records in order (R222). -/
def applyRegInit (s : State) (im : Image) : State := im.reginit.foldl regInitOne s

/-- At the first tick the image arms its triggers (R191): each record of TIME_TRIG_CTRL for the trigger that the last
record of TIME_TRIG_SEL before it selects. -/
def armImageTriggers (s : State) : State :=
  match s.image with
  | none => s
  | some im =>
    (im.reginit.foldl (fun (x : Nat × State) r =>
      let a := r.block * 65536 + r.off
      if a = A.TIME_TRIG_SEL then (getBits r.value 5 0, x.2)
      else if a = A.TIME_TRIG_CTRL then (x.1, writeTrigCtrl x.2 x.1 r.value)
      else x) (0, s)).2

end Sys2Proof.Machine
end

