-- ==== Sys2Proof/Machine/Image.lean ====
section
/-! DEFINITION. The Hood image (R212 to R222): reading a container's regions and records, and the checks that need only
its bytes (checks 1, 2, 4, 5 and 7 of R91, the tests of R215). -/

namespace Sys2Proof.Machine

open Sys2Proof

/-! ## The container -/

/-- An entry of the section table (R214). -/
structure Section where
  type : Nat
  inst : Nat
  flags : Nat
  off : Nat
  len : Nat
  records : Nat
  digest : List Byte
  spare : List Byte
deriving DecidableEq, Repr

/-- Records of `n` bytes from a byte string, in order. -/
def chunks (n : Nat) (bs : List Byte) : List (List Byte) :=
  if n = 0 then [] else (List.range (bs.length / n)).map (fun i => slice bs (n * i) n)

/-- One section-table entry (R214). -/
def readSection (r : List Byte) : Section :=
  { type := beAt r 0 2, inst := beAt r 2 2, flags := beAt r 4 2, off := beAt r 8 8, len := beAt r 16 8,
    records := beAt r 24 4, digest := slice r 32 48, spare := slice r 6 2 ++ slice r 28 4 }

/-- The number of sections that the header gives. -/
def sectionCount (bs : List Byte) : Nat := beAt bs 12 4

/-- Where the section table ends. -/
def tableEnd (bs : List Byte) : Nat := 256 + 80 * sectionCount bs

/-- The section table (R212, R214). -/
def sectionsOf (bs : List Byte) : List Section :=
  (chunks 80 (slice bs 256 (80 * sectionCount bs))).map readSection

/-- The bytes of a section. -/
def secBytes (bs : List Byte) (x : Section) : List Byte := slice bs x.off x.len

/-- The bytes of the section of a type and instance; none gives an empty string. -/
def sectionOf (bs : List Byte) (type inst : Nat) : List Byte :=
  match (sectionsOf bs).find? (fun x => x.type == type && x.inst == inst) with
  | none => []
  | some x => secBytes bs x

/-- SIG_OFF of an image of these bytes (R212). -/
def sigOff (bs : List Byte) : Nat := bs.length - 128

/-- The image digest: SHA-384 over bytes 0 to SIG_OFF − 1 (R215). -/
def containerDigest (bs : List Byte) : List Byte := sha384 (bs.take (sigOff bs))

/-! ## Section types (R217) -/

/-- Record length, 0 for a raw section, and the limit in records or bytes, of a known type. -/
def sectionKind (type inst : Nat) : Option (Nat × Nat) :=
  match type with
  | 1 => some (4, 262144)
  | 2 => some (32, 1024)
  | 3 => some (0, 2 ^ 30)
  | 4 => some (0, if inst = 0xFFFF then 4 * 2 ^ 20 else 524288)
  | 5 => some (0, 2 ^ 31)
  | 6 => some (24, 270336)
  | 7 => some (12, 4194304)
  | 8 => some (16, 49)
  | 9 => some (48, 3072)
  | 10 => some (0, 256 * 2 ^ 20)
  | 11 => some (32, 32)
  | 12 => some (96, 1024)
  | 13 => some (0, 2 ^ 31)
  | 14 => some (24, 1048576)
  | 15 => some (8, 65536)
  | 16 => some (4, 96)
  | 17 => some (32, 15)
  | _ => none

/-- Logical cores of a core mode (02: 8 pairs, 16 independent cores, 5 triplets). -/
def modeCores (mode : Nat) : Nat := if mode = 0 then 8 else if mode = 1 then 16 else 5

/-- Whether a type takes an instance under a core mode: CODE that of a logical core (R217). -/
def instanceOk (mode type inst : Nat) : Bool :=
  if type = 1 then decide (inst < modeCores mode)
  else if type = 4 then decide (inst < 1024) || inst == 0xFFFF
  else inst == 0

/-- Whether a section is HELD (R214). -/
def heldType (type : Nat) : Bool := type == 1 || type == 3 || type == 13

/-- Bytes of a record that no table assigns (R218, R220, R221). -/
def spareBytes (type : Nat) : List Nat :=
  match type with
  | 2 => [25, 26, 27, 28, 29, 30, 31]
  | 6 => [13, 14, 15]
  | 7 => [1, 2, 3]
  | 8 => [12, 13, 14, 15]
  | 9 => [17, 18, 19, 40, 41, 42, 43, 44, 45, 46, 47]
  | 11 => [2, 3]
  | 12 => [3, 36, 37, 38, 39, 88, 89, 90, 91, 92, 93, 94, 95]
  | 14 => [7, 10, 11, 20, 21, 22, 23]
  | 16 => [3]
  | 17 => [28, 29, 30, 31]
  | _ => []

/-! ## Records -/

/-- A signed number of `n` bytes, big-endian. -/
def beSigned (r : List Byte) (o n : Nat) : Int := signed (8 * n) (beAt r o n)

/-- A 64-bit field. -/
def be64 (r : List Byte) (o : Nat) : DWord := BitVec.ofNat 64 (beAt r o 8)

/-- Bit `i` of the byte at `o`. -/
def flagAt (r : List Byte) (o i : Nat) : Bool := u8At r o / 2 ^ i % 2 == 1

/-- TASK (R218). -/
def readTask (r : List Byte) : TaskRec :=
  { task := beAt r 0 2, cls := u8At r 2, lcore := u8At r 3, rid := beAt r 4 4, entry := beAt r 8 4,
    dataSize := beAt r 12 4, edgeDigest := slice r 16 8, shaftFeed := flagAt r 24 0 }

/-- A core record of the proof (R219). -/
def readBudgetCore (r : List Byte) : BudgetCore :=
  { t1 := beAt r 0 4, f := beAt r 4 4, w := (List.range 7).map (fun i => beAt r (8 + 4 * i) 4),
    s := (List.range 7).map (fun i => beAt r (36 + 4 * i) 4) }

/-- A task record of the proof (R219). -/
def readBudgetTask (r : List Byte) : BudgetTask :=
  { task := beAt r 0 2, cls := u8At r 2, lcore := u8At r 3, w := beAt r 4 4 }

/-- BUDGET with its check (R219). -/
def readBudget (b : List Byte) : Budget :=
  let n := u8At b 1
  { mode := u8At b 0, lcores := n, cycleTable := u8At b 2,
    cores := (chunks 64 (slice b 16 (64 * n))).map readBudgetCore,
    tasks := (chunks 8 (slice b (16 + 64 * n) (8 * beAt b 4 2))).map readBudgetTask,
    checkOk := beAt b 12 4 == (crc32 (b.take 12 ++ [0, 0, 0, 0] ++ b.drop 16)).toNat }

/-- SIGNAL (R221). -/
def readSignal (r : List Byte) : SignalRec :=
  let slot := beAt r 4 4
  { handle := beAt r 0 4, slot := slot % 2 ^ 31, output := decide (2 ^ 31 ≤ slot), format := u8At r 8,
    qb := flagAt r 9 0, off := beAt r 10 2, bitNo := u8At r 12, value := be64 r 16 }

/-- CLASSMAP (R221). -/
def readClassMap (r : List Byte) : ClassMapRec := { cls := u8At r 0, src := beAt r 4 4, dst := beAt r 8 4 }

/-- RING (R221). -/
def readRing (r : List Byte) : RingRec :=
  { ring := u8At r 0, stations := u8At r 1, cells := u8At r 2, stale := u8At r 3, lane := u8At r 4,
    wrapCovered := flagAt r 5 0, payload := beAt r 6 2, cable := beAt r 8 4 }

/-- A point entry of a station table (R221). -/
def readPoint (r : List Byte) : TablePoint :=
  { off := beAt r 0 2, format := u8At r 2, qb := flagAt r 3 0, action := u8At r 3 / 2 % 4, safe := be64 r 4 }

/-- STATION with its table out of STNTABLE (R221). -/
def readStation (tables : List Byte) (r : List Byte) : StationRec :=
  let t := slice tables (beAt r 20 4) (beAt r 24 4)
  let nOut := beAt t 0 2
  let pts := (chunks 12 (t.drop 8)).map readPoint
  { ring := u8At r 0, station := u8At r 1, prep := beAt r 2 2, outOff := beAt r 4 2, outLen := beAt r 6 2,
    inOff := beAt r 8 2, inLen := beAt r 10 2, slotStart := beAt r 12 4, slotCells := u8At r 16, digest := slice r 28 8,
    cable := beAt r 36 2, asym := beSigned r 38 2, outs := pts.take nOut, ins := pts.drop nOut, bytes := t }

/-- MASTER (R220). -/
def readMaster (r : List Byte) : MasterRec :=
  { external := u8At r 0 != 0, lead := u8At r 1, cmdSlot := beAt r 4 4, posHandle := beAt r 8 4, rid := beAt r 12 4,
    acc := beAt r 16 8, emergAcc := beAt r 24 8 }

/-- AXIS (R220). -/
def readAxis (r : List Byte) : AxisRec :=
  { master := u8At r 0, ffEn := flagAt r 1 0, groupStop := flagAt r 1 1, markEn := flagAt r 1 2, ferrTicks := u8At r 2,
    spHandle := beAt r 4 4, ffHandle := beAt r 8 4, actHandle := beAt r 12 4, cmdBase := beAt r 16 4, rid := beAt r 20 4,
    markCnt := beAt r 24 4, markTime := beAt r 28 4, markLat := beAt r 32 2, markGain := beAt r 34 2,
    trimRate := beAt r 40 8, ferrLimit := beAt r 48 8, markExpect := be64 r 56, markRepeat := beAt r 64 8,
    markWindow := beAt r 72 8, markStep := beAt r 80 8 }

/-- The cam tables in sequence (R220); `fuel` bounds their number. -/
def readCams : Nat → List Byte → List CamTab
  | 0, _ => []
  | _, [] => []
  | fuel + 1, b =>
    let n := 2 ^ u8At b 1
    { number := u8At b 0, b := u8At b 1, cubic := u8At b 2 == 1, rise := be64 b 8,
      points := (chunks 16 (slice b 16 (16 * n))).map (fun p => (be64 p 0, be64 p 8)) } ::
      readCams fuel (b.drop (16 + 16 * n))

/-- RETAINED (R221). -/
def readRetained (r : List Byte) : RetainedRec :=
  { rid := beAt r 0 4, type := beAt r 4 2, area := u8At r 6, task := beAt r 8 2, off := beAt r 12 4,
    size := beAt r 16 4 }

/-- REGINIT (R222). -/
def readRegInit (r : List Byte) : RegInitRec :=
  { block := beAt r 0 2, off := beAt r 2 2, value := BitVec.ofNat 32 (beAt r 4 4) }

/-- NET (R221). -/
def readNet (r : List Byte) : NetRec :=
  { port := u8At r 0, phy := u8At r 1, vlan := beAt r 2 2, ptpRole := u8At r 4, twoStep := u8At r 5 == 1,
    pfx4 := u8At r 6, pfx6 := u8At r 7, ip4 := BitVec.ofNat 32 (beAt r 8 4), ip6 := BitVec.ofNat 128 (beAt r 12 16) }

/-- The sections of a type with their instance. -/
def sectionsOfType (bs : List Byte) (type : Nat) : List (Nat × List Byte) :=
  ((sectionsOf bs).filter (fun x => x.type == type)).map (fun x => (x.inst, secBytes bs x))

/-- The records of a fixed-length type with one instance. -/
def recordsOf (bs : List Byte) (type n : Nat) : List (List Byte) := chunks n (sectionOf bs type 0)

/-- Read an image. -/
def readImage (bs : List Byte) : Image :=
  let const := sectionOf bs 3 0
  { seq := BitVec.ofNat 32 (beAt bs 8 4), coreMode := u8At bs 32, splitPermitted := flagAt bs 33 0,
    freeStart := flagAt bs 33 1, acqWait := beAt bs 34 2, ptpProfile := u8At bs 36, ptpDomain := u8At bs 37,
    prio1 := u8At bs 38, prio2 := u8At bs 39,
    majors := (slice bs 41 (u8At bs 40)).map (fun b => b.toNat),
    code := (sectionsOfType bs 1).foldl (fun m e =>
      putAt e.1 ((chunks 4 e.2).map (fun w => BitVec.ofNat 32 (leVal w))) m) [],
    tasks := (recordsOf bs 2 32).map readTask,
    constAddr := beAt const 0 8, constBytes := const.drop 8,
    data := (sectionsOfType bs 4).foldl (fun m e => putAt e.1 e.2 m) [],
    budget := readBudget (sectionOf bs 5 0),
    signals := (recordsOf bs 6 24).map readSignal,
    classmap := (recordsOf bs 7 12).map readClassMap,
    rings := (recordsOf bs 8 16).map readRing,
    stations := (recordsOf bs 9 48).map (readStation (sectionOf bs 10 0)),
    masters := (recordsOf bs 11 32).map readMaster,
    axes := (recordsOf bs 12 96).map readAxis,
    cams := readCams 256 (sectionOf bs 13 0),
    retained := (recordsOf bs 14 24).map readRetained,
    reginit := (recordsOf bs 15 8).map readRegInit,
    power := (recordsOf bs 16 4).map (fun r => beAt r 0 2),
    net := (recordsOf bs 17 32).map readNet,
    digest := containerDigest bs,
    held := ((sectionsOf bs).filter (fun x => heldType x.type)).map (fun x => (x.type, x.inst, x.digest)) }

/-! ## Check 1: tests 1 to 3 of R215 -/

/-- Test 1: MAGIC, FORMAT, HCRC and the ranges of the header fields. -/
def headerOk (bs : List Byte) : Bool :=
  beAt bs 0 4 == 0x484F4F44 && beAt bs 4 2 == 1 && beAt bs 252 4 == (crc32 (bs.take 252)).toNat &&
  beAt bs 8 4 != 0 && decide (1 ≤ sectionCount bs) && decide (sectionCount bs ≤ 2048) && decide (u8At bs 32 ≤ 2) &&
  decide (u8At bs 33 < 4) && decide (1 ≤ beAt bs 34 2) && decide (beAt bs 34 2 ≤ 600) && decide (u8At bs 36 ≤ 2) &&
  decide (u8At bs 37 ≤ 127) && decide (1 ≤ u8At bs 40) && decide (u8At bs 40 ≤ 15)

/-- Check 1 of R91: `total` and `seq` are those of IMAGE_BEGIN or of COMMIT, `received` the bytes received. -/
def check1 (bs : List Byte) (received total : Nat) (seq : Word) : Bool :=
  headerOk bs && beAt bs 16 8 == received && beAt bs 16 8 == total && beAt bs 8 4 == seq.toNat &&
  beAt bs 24 8 == total - 128 && decide (tableEnd bs ≤ total - 128)

/-! ## Check 5: tests 4 to 10 of R215, the records and the limits -/

/-- Test 4: places of the sections. -/
def layoutOk (bs : List Byte) : Bool :=
  let xs := sectionsOf bs
  xs.all (fun x => x.off % 64 == 0 && decide (tableEnd bs ≤ x.off) && decide (x.off + x.len ≤ sigOff bs)) &&
  (List.range xs.length).all (fun i => (List.range i).all (fun j =>
    match xs[i]?, xs[j]? with
    | some x, some y => decide (x.off + x.len ≤ y.off) || decide (y.off + y.len ≤ x.off)
    | _, _ => true))

/-- Tests 5 and 6: types, instances, HELD bits, record counts and limits. -/
def sectionOk (mode : Nat) (x : Section) : Bool :=
  match sectionKind x.type x.inst with
  | none => false
  | some (n, lim) =>
    instanceOk mode x.type x.inst && x.flags == b2n (heldType x.type) &&
    (if n = 0 then x.records == 0 && decide (x.len ≤ lim) else x.records * n == x.len && decide (x.records ≤ lim))

/-- Test 8: the sections that an image must hold, and no type and instance twice. -/
def sectionSetOk (bs : List Byte) : Bool :=
  let xs := sectionsOf bs
  let has := fun (t i : Nat) => xs.any (fun x => x.type == t && x.inst == i)
  has 2 0 && has 5 0 && ((recordsOf bs 2 32).map readTask).all (fun t => has 1 t.lcore) &&
  (List.range xs.length).all (fun i => (List.range i).all (fun j =>
    match xs[i]?, xs[j]? with
    | some x, some y => x.type != y.type || x.inst != y.inst
    | _, _ => true))

/-- Whether a place of the image lies in a section. -/
def inSection (bs : List Byte) (p : Nat) : Bool :=
  (sectionsOf bs).any (fun x => decide (x.off ≤ p) && decide (p < x.off + x.len))

/-- Whether a place of STNTABLE lies in the table of a station (R221). -/
def inTable (bs : List Byte) (p : Nat) : Bool :=
  (recordsOf bs 9 48).any (fun r => decide (beAt r 20 4 ≤ p) && decide (p < beAt r 20 4 + beAt r 24 4))

/-- Unassigned bytes of the raw sections and of the records whose bytes their own fields assign: STNTABLE outside every
station's table, the flags of a point, a ring-63 record beyond bytes 0 and 4, what the source of a master does not use
(R219, R220, R221). -/
def rawSpareOk (bs : List Byte) : Bool :=
  let b := sectionOf bs 5 0
  let t := sectionOf bs 10 0
  u8At b 3 == 0 && allZero (slice b 6 6) && b.length == 16 + 64 * u8At b 1 + 8 * beAt b 4 2 &&
  (readImage bs).stations.all (fun x => allZero (slice x.bytes 4 4) &&
    (chunks 12 (x.bytes.drop 8)).all (fun r => decide (u8At r 3 < 8))) &&
  (List.range t.length).all (fun i => inTable bs i || u8At t i == 0) &&
  (recordsOf bs 8 16).all (fun r => u8At r 0 != 63 || (allZero (slice r 1 3) && allZero (slice r 5 11))) &&
  (recordsOf bs 11 32).all (fun r =>
    if u8At r 0 = 0 then u8At r 1 == 0 && beAt r 8 4 == 0 else beAt r 4 4 == 0 && beAt r 16 8 == 0)

/-- Test 9: every byte that no table assigns is 0. -/
def sparesOk (bs : List Byte) : Bool :=
  allZero (slice bs 6 2) && allZero (slice bs (41 + u8At bs 40) (15 - u8At bs 40)) && allZero (slice bs 96 156) &&
  (sectionsOf bs).all (fun x => allZero x.spare) &&
  (List.range (sigOff bs - tableEnd bs)).all (fun i =>
    inSection bs (tableEnd bs + i) || u8At bs (tableEnd bs + i) == 0) &&
  (sectionsOf bs).all (fun x => match sectionKind x.type x.inst with
    | none => true
    | some (n, _) => (chunks n (secBytes bs x)).all (fun r => (spareBytes x.type).all (fun o => u8At r o == 0))) &&
  rawSpareOk bs && allZero (slice bs (sigOff bs + 4) 12) && allZero (slice bs (sigOff bs + 112) 16)

/-- TASK records with test 10 (R215, R217, R218). -/
def tasksOk (bs : List Byte) (im : Image) : Bool :=
  (recordsOf bs 2 32).all (fun r => decide (u8At r 24 < 2)) &&
  im.tasks.all (fun t => decide (t.task < 1024) && decide (t.cls < 8) && decide (t.lcore < modeCores im.coreMode) &&
    decide (t.entry < ((getAt t.lcore im.code).getD []).length) && decide (t.dataSize ≤ 524288) &&
    (!t.shaftFeed || t.cls == 0) && (im.tasks.filter (fun u => u.task == t.task)).length == 1)

/-- Whether a local point is one that its chapter defines (R8, R260, R287, R296, R358). -/
def localPointOk (station point : Nat) : Bool :=
  match station with
  | 0 => decide (point < 2048) && decide (point % 64 < 48)
  | 1 => decide (point < 128) && point % 4 != 3
  | 2 => decide (point < 256) && (point % 64 == 0 || decide (16 ≤ point % 64 ∧ point % 64 < 48))
  | 3 => decide (point < 256) && point % 64 == 0
  | 4 => decide (point < 12)
  | _ => false

/-- Whether a signal handle is valid (R8). -/
def handleOk (h : Nat) : Bool :=
  h % 128 == 0 && (decide (hRing h < 48) || (hRing h == 63 && localPointOk (hStation h) (hPoint h)))

/-- SIGNAL, CLASSMAP, the end-point limits of R1 and the slots that an image can have (R51). -/
def signalsOk (bs : List Byte) (im : Image) : Bool :=
  (recordsOf bs 6 24).all (fun r => decide (u8At r 8 ≤ 9) && decide (u8At r 9 < 2) && decide (u8At r 12 < 8)) &&
  im.signals.all (fun g => handleOk g.handle && decide (g.slot < 4194304)) &&
  im.classmap.all (fun c => decide (1 ≤ c.cls ∧ c.cls ≤ 7) && decide (c.src < 4194304) && decide (c.dst < 4194304)) &&
  decide ((im.signals.filter (fun g => decide (hRing g.handle < 48))).length ≤ 262144) &&
  (List.range 48).all (fun k => decide ((im.signals.filter (fun g => hRing g.handle == k)).length ≤ 8192))

/-- The normal return bound of a ring (R138) in units of 10 ps. -/
def normalBound (im : Image) (r : RingRec) : Nat :=
  let cable := r.cable + ((im.stations.filter (fun x => x.ring == r.ring)).map (fun x => x.cable)).foldl (· + ·) 0
  r.cells * 31250 + (r.stations + 1) * 15000 + cable * 500

/-- Input bytes that a ring's CARD carries; of ring 63, 9 bytes a signal (log entry 34). -/
def cardBytes (im : Image) (k : Nat) : Nat :=
  if k = 63 then 9 * (im.signals.filter (fun g => !g.output && hRing g.handle == 63)).length
  else ((im.stations.filter (fun x => x.ring == k)).map (fun x => x.inLen)).foldl (· + ·) 0

/-- The condition of every Carding lane (R154). -/
def lanesOk (im : Image) : Bool :=
  (List.range 6).all (fun l =>
    let rs := im.rings.filter (fun r => r.lane == l)
    let latest := (rs.map (fun r => if r.ring = 63 then 0 else normalBound im r)).foldl max 0
    let bytes := (rs.map (fun r => cardBytes im r.ring + 36)).foldl (· + ·) 0
    rs.isEmpty || decide (latest + 30000 + 32 * bytes ≤ 2750000))

/-- RING, STATION and station tables (R221). -/
def ringsOk (bs : List Byte) (im : Image) : Bool :=
  (recordsOf bs 8 16).all (fun r => decide (u8At r 5 < 2)) &&
  im.rings.all (fun r => decide (r.lane ≤ 5) && (r.ring == 63 || (decide (r.ring < 48) && decide (r.stations ≤ 64) &&
    decide (1 ≤ r.cells ∧ r.cells ≤ 9) && decide (1 ≤ r.stale) && decide (r.payload ≤ 2048)))) &&
  im.stations.all (fun x => decide (x.ring < 48) && decide (x.station < 64) && decide (x.prep ≤ 1000) &&
    x.bytes.length == 8 + 12 * (x.outs.length + x.ins.length) &&
    beAt x.bytes 0 2 == x.outs.length && beAt x.bytes 2 2 == x.ins.length &&
    (x.outs ++ x.ins).all (fun p => decide (p.format ≤ 9) && decide (p.action ≤ 2))) && lanesOk im

/-- The heads of the cam tables: mode 0 or 1, the zero byte, 2^b (R220); `fuel` bounds their number. -/
def camHeadsOk : Nat → List Byte → Bool
  | 0, b => b.isEmpty
  | _, [] => true
  | fuel + 1, b =>
    decide (u8At b 2 ≤ 1) && u8At b 3 == 0 && beAt b 4 4 == 2 ^ u8At b 1 &&
      camHeadsOk fuel (b.drop (16 + 16 * 2 ^ u8At b 1))

/-- MASTER, AXIS and CAM (R105, R107, R112, R220). -/
def shaftOk (bs : List Byte) (im : Image) : Bool :=
  (recordsOf bs 11 32).all (fun r => decide (u8At r 0 ≤ 1)) && (recordsOf bs 12 96).all (fun r => decide (u8At r 1 < 8)) &&
  im.masters.all (fun m => decide (m.lead ≤ 15) && handleOk m.posHandle) &&
  im.axes.all (fun a => decide (a.master ≤ 31) && decide (1 ≤ a.ferrTicks) && handleOk a.spHandle && handleOk a.actHandle &&
    handleOk a.ffHandle && handleOk a.markCnt && handleOk a.markTime &&
    (!a.markEn || decide (1 ≤ a.markRepeat ∧ a.markRepeat ≤ 2 ^ 63))) &&
  im.cams.all (fun c => decide (4 ≤ c.b ∧ c.b ≤ 12) && c.points.length == 2 ^ c.b) &&
  camHeadsOk 256 (sectionOf bs 13 0) &&
  decide (((im.cams.map (fun c => c.points.length)).foldl (· + ·) 0) ≤ 65536) &&
  (sectionOf bs 13 0).length == ((im.cams.map (fun c => 16 + 16 * c.points.length)).foldl (· + ·) 0)

/-- RETAINED, POWER and NET (R221) and the load address of CONST. -/
def restOk (bs : List Byte) (im : Image) : Bool :=
  im.retained.all (fun r => decide (r.type ≤ 3) && decide (r.area ≤ 1)) &&
  (recordsOf bs 16 4).all (fun r => decide (beAt r 0 2 ≤ 95) && u8At r 2 == 1) &&
  (recordsOf bs 17 32).all (fun r => decide (1 ≤ u8At r 0 ∧ u8At r 0 ≤ 15) && decide (u8At r 1 ≤ 2) &&
    decide (u8At r 4 ≤ 2) && decide (u8At r 5 ≤ 1)) &&
  (im.constBytes.isEmpty || (decide (0x100000000 ≤ im.constAddr) && decide (im.constAddr + im.constBytes.length ≤ 0x500000000)))

/-- A REGINIT record (R222): not in SYS, JNL, CFG, HOOD or SKERRY, aligned, a register that is RW or reset from the
image. -/
def regInitOk (x : RegInitRec) : Bool :=
  let a := x.block * 65536 + x.off
  !([A.SYS_ID, A.JNL_STATUS, A.CFG_STATUS, A.HOOD_CTRL, A.SKERRY_STATUS].map (fun b => b / 65536)).contains x.block &&
  x.off % 4 == 0 && (match regAt a with
    | none => false
    | some r => r.image || r.fields.any (fun f => f.acc = .rw))

/-- What the records leave in a word of a CAN message buffer (R298). -/
def canInit (im : Image) (b i w : Nat) : Word :=
  ((im.reginit.reverse.find? (fun x => x.block == 20 && x.off == 0x8000 + b * 0x2000 + i * 0x80 + 4 * w)).map
    (fun x => x.value)).getD 0

/-- The item slots of the receive or transmit buffers of a bus that the records map. -/
def canSlots (im : Image) (b : Nat) (tx : Bool) : List Nat :=
  ((List.range 64).filter (fun i => bit (canInit im b i 0) 19 && bit (canInit im b i 0) 17 == tx)).map
    (fun i => getBits (canInit im b i 3) 19 16)

/-- Whether each mapped buffer of a bus has a slot of its own, so that at most 16 of each direction are mapped (R298). -/
def canMapsOk (im : Image) : Bool :=
  (List.range 4).all (fun b => [false, true].all (fun tx => let xs := canSlots im b tx; xs.eraseDups.length == xs.length))

/-- Check 5 of R91. -/
def check5 (bs : List Byte) : Bool :=
  let im := readImage bs
  layoutOk bs && (sectionsOf bs).all (sectionOk (u8At bs 32)) && (sectionsOf bs).all (fun x => x.digest == sha384 (secBytes bs x)) &&
  sectionSetOk bs && sparesOk bs && tasksOk bs im && signalsOk bs im && ringsOk bs im && shaftOk bs im && restOk bs im &&
  im.reginit.all regInitOk && canMapsOk im

/-- Check 7 of R91: the conditions of R82 under a set split flag. -/
def check7 (im : Image) : Bool :=
  !im.splitPermitted || (im.coreMode == 0 && im.tasks.all (fun t => decide (t.lcore ≤ 3)) &&
    decide ((im.signals.filter (fun g => decide (hRing g.handle < 48))).length ≤ 65536))

end Sys2Proof.Machine
end

