-- ==== Sys2Proof/Machine/Running.lean ====
section
/-! DEFINITION. Judging an image on this module (R43, R91, R227) and making it the running image: the registers that show
it, memories at their initial values (R31, R133, R233), retained state carried over by identifier (R98, R99). -/

namespace Sys2Proof.Machine

open Sys2Proof

/-! ## Judging an image -/

/-- The budget proof (R43); `mode` is the core mode that condition 2 compares with. -/
def budgetOk (s : State) (im : Image) (mode : Nat) : Bool :=
  let b := im.budget
  im.tasks.all (fun t =>
    (b.tasks.filter (fun x => x.task == t.task)).length == 1 &&
    b.tasks.any (fun x => x.task == t.task && x.cls == t.cls && x.lcore == t.lcore)) &&
  b.tasks.all (fun x => im.tasks.any (fun t => t.task == x.task)) &&
  b.mode == mode && b.lcores == modeCores mode && b.cores.length == b.lcores &&
  b.cycleTable == s.fld F.TICK_PROOF.CYCLE_TABLE &&
  b.cores.all (fun c =>
    decide (c.f ≤ 9600) && decide (c.t1 + c.s.foldl (· + ·) 0 ≤ 35936) &&
    (List.range 7).all (fun i => decide (c.w.getD i 0 ≤ classTicks (i + 1) * c.s.getD i 0))) && b.checkOk

/-- SYS_REV.MAJOR is in the image's list (check 4 of R91). -/
def majorOk (s : State) (im : Image) : Bool := im.majors.contains (s.fld F.SYS_REV.MAJOR)

/-- Check 2 of R91: the signature block of an image is of format 1 and verifies against the root public key that Skerry
holds, over the image digest (R216). -/
def signatureOk (s : State) (bs : List Byte) : Bool :=
  let o := sigOff bs
  beAt bs o 4 == 1 && ecdsaOk s.skerry.rootKey (containerDigest bs) (slice bs (o + 16) 48) (slice bs (o + 64) 48)

/-- The first check of R91 that an image fails. `received` counts the bytes received, `total` and `seq` are those it was
announced with, `floor` the sequence number that check 3 compares with, `mode` the core mode of condition 2. -/
def failedCheck (s : State) (bs : List Byte) (received total : Nat) (seq : Word) (floor : Option Word) (mode : Nat) :
    Option Nat :=
  let im := readImage bs
  if !check1 bs received total seq then some 1
  else if !signatureOk s bs then some 2
  else if (floor.map (fun f => decide (im.seq ≤ f))).getD false then some 3
  else if !majorOk s im then some 4
  else if !check5 bs then some 5
  else if !budgetOk s im mode then some 6
  else if !check7 im then some 7
  else none

/-- The result code of a failed check (R91). -/
def checkCode (n : Nat) : Nat :=
  if n = 2 then rcAuth else if n = 3 then rcStaleSeq else if n = 6 then rcBudget else rcCheck

/-! ## What shows the running image -/

/-- Forget the registers that a predicate on keys names. -/
def dropRegs (s : State) (p : Nat → Bool) : State := { s with regs := s.regs.filter (fun e => !p e.1) }

/-- Set a register to a whole value of its fields given as pairs. -/
def setFields (s : State) (fs : List (Fld × Nat)) : State := fs.foldl (fun s e => s.setFld e.1 e.2) s

/-- Per-item registers of the shaft engine, the tasks and the stations, which an image defines anew. -/
def imageItemReg (key : Nat) : Bool :=
  let a := key % 0x1000000
  (decide (A.SHAFT_MASTER_STATE ≤ a) && decide (a < A.SHAFT_AXIS_SEL)) ||
  (decide (A.SHAFT_AXIS_STATE ≤ a) && decide (a ≤ A.SHAFT_AXIS_FERR)) || a == A.CORE_TASK_STATE

/-- A station's register keeps its state when the new image has the station. -/
def staleStationReg (im : Image) (key : Nat) : Bool :=
  let a := key % 0x1000000
  decide (26 ≤ a / 65536) && (a % 65536 == A.RING_STN_STATE % 65536 || a % 65536 == A.RING_STN_LATE % 65536) &&
  !im.stations.any (fun x => x.ring == a / 65536 - 26 && x.station == key / 0x1000000)

/-- A ring's configuration: that of its RING record, 0 for a ring without one (RING_CFG). -/
def showRing (im : Image) (s : State) (k : Nat) : State :=
  match im.rings.find? (fun r => r.ring == k) with
  | none => s.setReg (F.RING_CFG.STATIONS.ring k).reg 0
  | some r => setFields s [(F.RING_CFG.STATIONS.ring k, r.stations), (F.RING_CFG.CELLS.ring k, r.cells),
      (F.RING_CFG.WRAP_COVERED.ring k, b2n r.wrapCovered), (F.RING_CFG.STALE_LIMIT.ring k, r.stale)]

/-- A plant port's settings (TIME_PORT_CFG, NET_PORT_STATUS). -/
def showPort (im : Image) (s : State) (p : Nat) : State :=
  let n := (im.net.find? (fun n => n.port == p)).getD ⟨p, 0, 0, 0, false, 0, 0, 0, 0⟩
  setFields s [(F.TIME_PORT_CFG.ROLE.item (p - 1), n.ptpRole), (F.TIME_PORT_CFG.STEP.item (p - 1), b2n n.twoStep),
    (F.NET_PORT_STATUS.VLAN.item p, n.vlan)]

/-- The bits of the rings that an image uses. -/
def ringMask (im : Image) : DWord :=
  (List.range 48).foldl (fun (m : DWord) k =>
    if im.rings.any (fun r => r.ring == k) then m ||| BitVec.ofNat 64 (2 ^ k) else m) 0

/-- A core's bound T1_j + Σ S_k,j (TICK_CORE_PEAK). -/
def showBound (im : Image) (s : State) (j : Nat) : State :=
  let b := match im.budget.cores[j]? with
    | none => 0
    | some c => c.t1 + c.s.foldl (· + ·) 0
  s.setFld (F.TICK_CORE_PEAK0.BOUND.nth j) b

/-- Which masters and axes an image defines (SHAFT_MASTER_STATE, SHAFT_AXIS_STATE). -/
def showShaft (s : State) (im : Image) : State :=
  let s := (List.range im.masters.length).foldl (fun s i => setFields s [
    (F.SHAFT_MASTER_STATE.VALID.item i, 1),
    (F.SHAFT_MASTER_STATE.SOURCE.item i, b2n ((im.masters[i]?.map (fun m => m.external)).getD false))]) s
  (List.range im.axes.length).foldl (fun s i => setFields s [
    (F.SHAFT_AXIS_STATE.VALID.item i, 1),
    (F.SHAFT_AXIS_STATE.MASTER.item i, (im.axes[i]?.map (fun a => a.master)).getD 0)]) s

/-- No cycle start of any class counts as skipped any more: the classes begin anew (R47). -/
def clearSkips (s : State) : State := (List.range 8).foldl (fun s k => s.setFld (F.TICK_CLS_OVR0.CONSEC.nth k) 0) s

/-- The registers that show a running image. -/
def showImage (s : State) (im : Image) : State :=
  let s := dropRegs (clearSkips s) (fun k => imageItemReg k || staleStationReg im k)
  let s := (s.setReg A.HOOD_RUN_SEQ im.seq).setDword A.FAB_RING_EN_LO (ringMask im)
  let s := setFields s [
    (F.SHAFT_CFG.AXES, im.axes.length), (F.SHAFT_CFG.MASTERS, im.masters.length),
    (F.FAB_POINTS.POINTS, (im.signals.filter (fun g => decide (hRing g.handle < 48))).length),
    (F.CHK_STATUS.SPLIT_ALLOWED, b2n im.splitPermitted),
    (F.TIME_PTP.PRIO1, im.prio1), (F.TIME_PTP.PRIO2, im.prio2), (F.TIME_PTP.PROFILE, im.ptpProfile),
    (F.TIME_PTP.DOMAIN, im.ptpDomain)]
  let s := (List.range 48).foldl (showRing im) s
  let s := ((List.range 15).map (· + 1)).foldl (showPort im) s
  let s := (List.range 16).foldl (showBound im) s
  let s := im.stations.foldl (fun s x => s.setFld (stnFld F.RING_STN_STATE.VALID x.ring x.station) 1) s
  let s := im.tasks.foldl (fun s k => setFields s [(F.CORE_TASK_STATE.VALID.item k.task, 1),
    (F.CORE_TASK_STATE.LCORE.item k.task, k.lcore), (F.CORE_TASK_STATE.CLASS.item k.task, k.cls)]) s
  let s := showShaft s im
  let s := (List.range 4).foldl (fun s g => s.setFlag (F.CONV_GRP_STATUS.STOPPED.item g) (decide (2 ≤ (s.grp g).retired))) s
  (List.range 96).foldl (fun s d => s.setFlag (F.PWR_DOM_STATE.NEEDED.item d) (im.power.contains d)) s

/-! ## Memories at their initial values -/

/-- The input image before any real value: each input's substitute with BAD (R133, R233). -/
def initialInputs (im : Image) : SlotMap :=
  (im.signals.filter (fun g => !g.output)).foldl (fun m g => Sparse.set slotDefault m g.slot (badSlot g.value)) []

/-- An output image: of each output what `value` gives for it. -/
def outputsOf (im : Image) (value : SignalRec → Slot) : SlotMap :=
  (im.signals.filter (fun g => g.output)).foldl (fun m g => Sparse.set slotDefault m g.slot (value g)) []

/-- An output's initial value (R31, R233). -/
def initialOutput (g : SignalRec) : Slot := ⟨g.value, .good⟩

/-- An output by its handle in an older image's output image, else its initial value (R31). -/
def carriedOutput (old : Image) (m : SlotMap) (g : SignalRec) : Slot :=
  match old.signals.find? (fun h => h.output && h.handle == g.handle) with
  | none => initialOutput g
  | some h => Sparse.get slotDefault m h.slot

/-- A task's data at its initial value: the bytes of its DATA section. -/
def initialData (im : Image) (task : Nat) : Bytes := putBytes [] 0 ((getAt task im.data).getD [])

/-- The tasks of an image at their start. -/
def initialTasks (im : Image) : List (Nat × TaskSt) :=
  im.tasks.foldl (fun m k =>
    Sparse.set (fun _ => TaskSt.idle) m k.task { TaskSt.idle with data := initialData im k.task }) []

/-- Bytes of the retained area before the variables: the trim table (R284; log entry 29). -/
def trimBytes : Nat := 256

/-- Units of the retained area that hold the trim table (R234, R284). -/
def trimUnits : Nat := (trimBytes + retUnitBytes - 1) / retUnitBytes

/-- The initial retained area (DATA section 0xFFFF) behind the trim table, which stays. -/
def initialRetained (im : Image) (old : Bytes) : Bytes :=
  let init := (getAt 0xFFFF im.data).getD []
  putBytes (old.filter (fun e => decide (e.1 < trimBytes))) trimBytes (init.drop trimBytes)

/-- The units of the retained area of an image (R234). -/
def retainedUnits (im : Image) : Nat :=
  let top := (im.retained.filter (fun r => r.area == 0)).foldl (fun n r => max n (r.off + r.size))
    (max trimBytes ((getAt 0xFFFF im.data).getD []).length)
  (top + retUnitBytes - 1) / retUnitBytes

/-- The constants of an image are laid out in DRAM (R95, R217). -/
def layOut (s : State) (im : Image) : State :=
  if im.constBytes.isEmpty then s else s.storeMem im.constAddr im.constBytes

/-- The core mode and its logical cores (TICK_PROOF, CHK_STATUS). -/
def showMode (s : State) (mode : Nat) : State :=
  setFields s [(F.CHK_STATUS.MODE, mode), (F.TICK_PROOF.MODE, mode), (F.TICK_PROOF.LCORES, modeCores mode)]

/-- The status bits that tell of a channel's last mode (ANA_CH_STATUS). -/
def clearChannel (s : State) (c : Nat) : State :=
  [F.ANA_CH_STATUS.HART_ERR, F.ANA_CH_STATUS.STRAP_FAULT, F.ANA_CH_STATUS.STRAP_MISMATCH, F.ANA_CH_STATUS.OPEN_LOAD,
   F.ANA_CH_STATUS.WARN, F.ANA_CH_STATUS.CLAMPED, F.ANA_CH_STATUS.OVERRANGE].foldl
    (fun s f => s.setFlag (f.item c) false) (showBand s c 3)

/-- An analogue channel under a new image: one whose mode changed begins anew, and the band of another is that of its levels
(R100, R276). -/
def freshChannel (prev : State) (atSwitch : Bool) (s : State) (c : Nat) : State :=
  if anaKind s c = anaKind prev c then
    (if isCurrentIn (anaMode s c) then showBand s c (bandUnder s c (s.anaCh c).band) else s)
  else (clearChannel s c).setAna c { AnaSt.idle with applied := (s.anaCh c).applied, modeNew := atSwitch }

/-- The field units begin anew under an image: stations have delivered nothing (R133), groups end their sequences
(R267), a channel whose mode changed at a switch has no value in the new mode yet, and a free-running converter starts anew
(R100, R262). A station that is in both images also counts as having delivered nothing from a switch on (DESIGN CHOICE, log
entry 139). `prev` is the state before the image's records. -/
def freshUnits (prev s : State) (atSwitch : Bool) : State :=
  let s := (List.range 48).foldl (fun s k => s.setRing k { s.ring k with everTaken := [] }) s
  let s := (List.range 32).foldl (freshChannel prev atSwitch) s
  let s := startRounds ((List.range 4).foldl showDegraded (canFresh (dioFresh prev s)))
  if s.flag F.CONV_REF_STATUS.READY then freeRunStarts s else s

/-- An image becomes the running one with its memories at their initial values and without carry-over (R233). -/
def installImage (s : State) (im : Image) : State :=
  let s := layOut (showImage s im) im
  { s with
    inImg := initialInputs im, outImg := outputsOf im initialOutput, committed := outputsOf im initialOutput,
    committedPrev := outputsOf im initialOutput, tasks := initialTasks im, classes := [], cores := [],
    masters := [], axes := [], retained := initialRetained im s.retained, image := some im }

/-- The image's REGINIT records, after which its field units begin anew (R222). -/
def initUnits (s : State) (im : Image) : State := freshUnits s (applyRegInit s im) false

/-- An image becomes the running one for a joiner whose state copy follows (R170). -/
def runFresh (s : State) (im : Image) : State :=
  let before := s
  let s := installImage s im
  freshUnits before (applyRegInit { s with retDirty := List.range (retainedUnits im) } im) true

/-- Every domain that an image needs is asked to come ON (R95). -/
def powerNeeded (s : State) (im : Image) : State := im.power.foldl requestOn s

/-- The domains that an image needs and the running image does not (R95, R96). -/
def newDomains (s : State) (im : Image) : List Nat :=
  im.power.filter (fun d => !((s.image.map (fun o => o.power)).getD []).contains d)

/-- Every domain that only the old image used begins to drain (R100). -/
def drainUnused (s : State) (old new : Image) : State :=
  (old.power.filter (fun d => !new.power.contains d && decide (d < 76))).foldl requestOff s

/-! ## Carry-over (R99) -/

/-- Where a retained variable stands: its bytes. -/
def retainedBytes (s : State) (r : RetainedRec) : List Byte :=
  if r.area = 0 then bytesAt s.retained r.off r.size else bytesAt (s.task r.task).data r.off r.size

/-- Put a retained variable's bytes in its new place. -/
def placeRetained (s : State) (r : RetainedRec) (bs : List Byte) : State :=
  if r.area = 0 then { s with retained := putBytes s.retained r.off bs }
  else s.setTask r.task { s.task r.task with data := putBytes (s.task r.task).data r.off bs }

/-- One retained ID is copied. -/
def countCopied (s : State) : State := s.count F.HOOD_CARRY.COPIED 1

/-- One retained variable: copied when both images have it with one type and size, else reset (R99). The edge memory of a
task goes with its task. -/
def carryVariable (prev : State) (old : Image) (s : State) (r : RetainedRec) : State :=
  if r.type = 3 then s
  else match old.retained.find? (fun o => o.rid == r.rid) with
  | none => s
  | some o =>
    if o.type = r.type ∧ o.size = r.size then countCopied (placeRetained s r (retainedBytes prev o))
    else (s.count F.HOOD_CARRY.MISMATCH 1).raise 7 8 0 (d4 r.rid)

/-- A task's edge memory: copied whole when the edge-layout digests match (R99). -/
def carryEdges (prev : State) (old : Image) (s : State) (k : TaskRec) : State :=
  match old.tasks.find? (fun o => o.rid == k.rid) with
  | none => s
  | some o =>
    if o.edgeDigest = k.edgeDigest then
      countCopied (s.setTask k.task { s.task k.task with edges := (prev.task o.task).edges })
    else s

/-- The place of a record with a retained ID. -/
def ridPlace (rids : List Nat) (rid : Nat) : Option Nat := (List.range rids.length).find? (fun i => rids[i]? == some rid)

/-- What registers from address `lo` to `hi` showed for item `j` they show for item `i`. -/
def carryItemRegs (prev : State) (lo hi i j : Nat) (s : State) : State :=
  ((List.range ((hi - lo) / 4 + 1)).map (fun n => lo + 4 * n)).foldl
    (fun s a => s.setReg (itemKey a i) (prev.reg (itemKey a j))) s

/-- Masters and axes keep position and state by retained ID, and their registers with them; those that are new start
disengaged (R99). -/
def carryShaft (prev : State) (old new : Image) (s : State) : State :=
  let mOld := old.masters.map (fun m => m.rid)
  let aOld := old.axes.map (fun a => a.rid)
  let s := (List.range new.masters.length).foldl (fun s i =>
    match (new.masters[i]?.map (fun m => m.rid)).bind (ridPlace mOld) with
    | none => s
    | some j => countCopied (carryItemRegs prev A.SHAFT_MASTER_STATE A.SHAFT_MASTER_VEL_HI i j
        (s.setMaster i (prev.master j)))) s
  let s := (List.range new.axes.length).foldl (fun s i =>
    match (new.axes[i]?.map (fun a => a.rid)).bind (ridPlace aOld) with
    | none => s
    | some j => countCopied (carryItemRegs prev A.SHAFT_AXIS_STATE A.SHAFT_AXIS_FERR i j
        (s.setAxis i (prev.axis j)))) s
  showShaft s new

/-- The Hood switch of the memories: the new image with the state that crosses by identifier (R31, R98, R99), then its
REGINIT records (R222). -/
def runCarried (s : State) (old new : Image) : State :=
  let before := s
  let s := convSwitch s
  let prev := s
  let s := showImage (s.setReg A.HOOD_CARRY 0) new
  let s := { s with
    inImg := initialInputs new
    outImg := outputsOf new (carriedOutput old prev.outImg)
    committed := outputsOf new (carriedOutput old prev.committed)
    committedPrev := outputsOf new (carriedOutput old prev.committedPrev)
    tasks := initialTasks new, classes := [], cores := [], masters := [], axes := []
    retained := initialRetained new s.retained
    retDirty := List.range (retainedUnits new) }
  let s := new.retained.foldl (carryVariable prev old) s
  let s := new.tasks.foldl (carryEdges prev old) s
  let s := applyRegInit (carryShaft prev old new s) new
  freshUnits before { s with image := some new } true

end Sys2Proof.Machine
end

