-- ==== Sys2Proof/Machine/Store.lean ====
section
/-! DEFINITION. The configuration store (R223 to R227): bank states, marker appends, the steps of a store, ACTIVATE, the
active-bank record, and the loader's way back to IDLE. -/

namespace Sys2Proof.Machine

open Sys2Proof

/-! ## Banks -/

/-- A bank by number. -/
def State.bank (s : State) (b : Nat) : Bank := if b = 0 then s.bank0 else s.bank1

/-- Replace a bank. -/
def State.setBank (s : State) (b : Nat) (x : Bank) : State := if b = 0 then { s with bank0 := x } else { s with bank1 := x }

/-- Erased flash reads 0xFF (R223). -/
def erasedByte : Nat → Byte := fun _ => 0xFF

/-- `n` bytes of a bank's data area from byte 0. -/
def bankBytes (x : Bank) (n : Nat) : List Byte := (List.range n).map (fun i => Sparse.get erasedByte x.data i)

/-- Program bytes into an erased data area from byte 0. -/
def programData (bs : List Byte) : Bytes :=
  ((List.range bs.length).zip bs).foldl (fun m e => Sparse.set erasedByte m e.1 e.2) []

@[reducible] def bkCommitted : Nat := 0
@[reducible] def bkInterrupted : Nat := 1
@[reducible] def bkErased : Nat := 2
@[reducible] def bkBlank : Nat := 3
@[reducible] def bkDamaged : Nat := 4

/-- The KIND of a marker entry (R223). -/
def kindCode : MarkerKind → Nat
  | .eraseStart => 0x4553 | .eraseDone => 0x4544 | .commit => 0x434D | .activate => 0x4143

/-- The 80 bytes of a marker entry (R223). -/
def entryBytes (m : Marker) : List Byte :=
  withCrc32 (beBytes 2 (kindCode m.kind) ++ [0, 0] ++ beBytes 4 m.opnum.toNat ++ beBytes 4 m.seq.toNat ++ [0, 0, 0, 0] ++
    beBytes 8 m.length ++ (m.digest ++ List.replicate 48 0).take 48 ++ [0, 0, 0, 0])

/-- A marker entry as it is read: none where it fails its CRC or names no kind (R223, R226). -/
def readEntry (bs : List Byte) : Option Marker :=
  if bs.length = 80 ∧ withCrc32 (bs.take 76) = bs then
    ([.eraseStart, .eraseDone, .commit, .activate].find? (fun k => kindCode k == beAt bs 0 2)).map (fun k =>
      ⟨k, BitVec.ofNat 32 (beAt bs 4 4), BitVec.ofNat 32 (beAt bs 8 4), beAt bs 16 8,
       if k = .commit then (bs.drop 24).take 48 else []⟩)
  else none

/-- The entries of a marker sector up to its first blank one (R226). -/
def entriesFrom : Nat → List Byte → List (List Byte)
  | 0, _ => []
  | n + 1, bs =>
    let e := bs.take 80
    if e.all (fun b => b == 0xFF) then [] else (e ++ List.replicate (80 - e.length) 0xFF) :: entriesFrom n (bs.drop 80)

/-- Marker entries that a sector holds (R223). -/
def markerEntries : Nat := 819

/-- The marker log of a bank, oldest entry first. -/
def markerLog (x : Bank) : List (List Byte) := entriesFrom markerEntries x.markers

/-- The entries of a marker log that pass their CRC. -/
def goodMarkers (x : Bank) : List Marker := (markerLog x).filterMap readEntry

/-- Whether an entry fails its CRC, or a non-blank byte follows a blank entry (R226). -/
def bankDamaged (x : Bank) : Bool :=
  (markerLog x).any (fun e => (readEntry e).isNone) ||
  (x.markers.drop (80 * (markerLog x).length)).any (fun b => b != 0xFF)

/-- The last entry of a marker log. -/
def lastMarker (x : Bank) : Option Marker := (goodMarkers x).getLast?

/-- The COMMIT entry that the bank's state rests on. -/
def commitMarker (x : Bank) : Option Marker :=
  match (goodMarkers x).reverse with
  | [] => none
  | m :: rest =>
    match m.kind with
    | .commit => some m
    | .activate => match rest with
      | c :: _ => if c.kind = .commit ∧ c.opnum = m.opnum then some c else none
      | [] => none
    | _ => none

/-- The state of a bank by its marker sector (R226). -/
def bankState (x : Bank) : Nat :=
  if bankDamaged x then bkDamaged
  else match lastMarker x with
    | none => bkBlank
    | some m => match m.kind with
      | .eraseStart => bkInterrupted
      | .eraseDone => bkErased
      | _ => if (commitMarker x).isSome then bkCommitted else bkDamaged

/-- Whether a bank is ACTIVATED (R226). -/
def bankActivated (x : Bank) : Bool :=
  bankState x == bkCommitted && ((lastMarker x).map (fun m => decide (m.kind = .activate))).getD false

/-- A bank's registers (CFG_BANK, CFG_SEQ). -/
def showBank (s : State) (b : Nat) : State :=
  let x := s.bank b
  let busy := (s.loader.store.map (fun o => o.bank == b)).getD false
  let st := if busy then 5 else bankState x
  let s := setFields s [(F.CFG_BANK0.STATE.nth b, st), (F.CFG_BANK0.ACTIVATED.nth b, b2n (bankActivated x)),
    (F.CFG_BANK0.FREE.nth b, markerEntries - (markerLog x).length)]
  s.setReg (A.CFG_SEQ0 + 4 * b)
    (if st = bkCommitted then ((commitMarker x).map (fun m => m.seq)).getD 0 else 0)

/-- Both banks are shown. -/
def showBanks (s : State) : State := showBank (showBank s 0) 1

/-- A bank with an entry programmed behind its marker log. -/
def withEntry (x : Bank) (bs : List Byte) : Bank := { x with markers := x.markers.take (80 * (markerLog x).length) ++ bs }

/-- An entry whose programming failed: it fails its CRC (R224). -/
def failedEntry (m : Marker) : List Byte := (entryBytes m).take 76 ++ ((entryBytes m).drop 76).map (fun b => ~~~ b)

/-- Append a marker entry (R223, R224). A failed append may leave an entry that fails its CRC; that of ERASE_START does, since
the bank then reads DAMAGED and never COMMITTED by an older entry. -/
def appendMarker (s : State) (b : Nat) (m : Marker) (step : Nat) (ok : Bool) : State :=
  let x := s.bank b
  if ok then s.setBank b (withEntry x (entryBytes m))
  else if step = 2 ∨ Config.failedAppend m.opnum step then s.setBank b (withEntry x (failedEntry m))
  else s

/-! ## The loader's way to IDLE (R90) -/

/-- The loader's state. -/
def loaderState (s : State) : Nat := s.fld F.HOOD_STATUS.STATE

@[reducible] def ldIdle : Nat := 0
@[reducible] def ldReceiving : Nat := 1
@[reducible] def ldVerifying : Nat := 2
@[reducible] def ldStoring : Nat := 3
@[reducible] def ldStaged : Nat := 4
@[reducible] def ldArmed : Nat := 5

/-- The loader goes to IDLE: the staged image is discarded. Outside ARMED, HOOD_SWITCH shows the last switch. -/
def loaderIdle (s : State) : State :=
  let s := (s.setFld F.HOOD_STATUS.STATE ldIdle).setReg A.HOOD_STAGED_SEQ 0
  let s := (s.setDword A.HOOD_SWITCH_LO s.loader.lastSwitch).setFlag F.TICK_STATUS.SWITCH_DEFERRED false
  s.withLoader (fun l => { l with
    staging := [], total := 0, seq := 0, img := none, digest := [], waitSlot := none, asking := none, armDue := none,
    decision := none, shadow := [] })

/-- The loader fails with a cause (HOOD_ERROR) and goes to IDLE. -/
def loaderFail (s : State) (cause : Nat) : State := (loaderIdle s).setFld F.HOOD_ERROR.CAUSE cause

/-- The staged image's bytes; a byte not received reads 0. -/
def stagedBytes (l : Loader) : List Byte := (List.range l.total).map (fun i => (getAt i l.staging).getD 0)

/-! ## The steps of a store (R224) -/

/-- The bytes that channel 26 moves in a step of a store: whole words, the last one padded with 0xFF (R249). -/
def flashBytes (o : StoreOp) : List Byte := o.bytes ++ List.replicate ((4 - o.bytes.length % 4) % 4) 0xFF

/-- Show the step of the store; programming and read-back run on channel 26 (R224, R243). -/
def storeStep (s : State) (n : Nat) : State :=
  let s := (s.setFld F.CFG_STATUS.STEP n).setFld F.CFG_PROGRESS.MIB 0
  if n = 5 ∨ n = 6 then ownerStart s 26 else s

/-- The next step of the store begins; after the supply-fail warning none does, and the reset finds the bank as the step before
left it (R322). -/
def nextStep (s : State) (n : Nat) : State :=
  if s.power.warned then s.withLoader (fun l => { l with store := none }) else storeStep s n

/-- A marker of the store under way. -/
def storeMarker (s : State) (o : StoreOp) (k : MarkerKind) : Marker :=
  if k = .commit then ⟨k, s.opnum, o.seq, o.bytes.length, o.digest⟩ else ⟨k, s.opnum, 0, 0, []⟩

/-- A store begins with the next OPNUM: step 1 when the sector needs an erase, else step 2 (R224). -/
def beginStore (s : State) (o : StoreOp) : State :=
  let x := s.bank o.bank
  let first := if markerEntries < (markerLog x).length + 4 ∨ bankState x = bkDamaged then 1 else 2
  let s := { s with opnum := s.opnum + 1 }.withLoader (fun l => { l with store := some o, bank := o.bank })
  showBank ((storeStep s first).setFld F.CFG_STATUS.BANK_OP o.bank) o.bank

/-- The bank that a store goes to: the one that does not hold the running image (R92). Where none was loaded, bank 0. -/
def storeBank (s : State) : Nat := if s.flag F.CFG_STATUS.LOADED then 1 - s.fld F.CFG_STATUS.ACTIVE else 0

/-- The store of the image that waits in STORING begins, when the flash is free and no supply-fail warning stands (R322). -/
def startStore (s : State) : State :=
  if s.loader.store.isSome || s.power.warned then s
  else beginStore s ⟨storeBank s, stagedBytes s.loader, s.loader.seq, s.loader.digest, false⟩

/-- The store ends; an image that has reached STORING meanwhile begins its own. -/
def endStore (s : State) (b : Nat) : State :=
  let s := showBank ((storeStep s 0).withLoader (fun l => { l with store := none })) b
  if loaderState s = ldStoring then startStore s else s

/-- The store fails in a step (R92, R224): counted, recorded, the loader back to IDLE unless it already left. -/
def failStore (s : State) (o : StoreOp) (step : Nat) (f : Fld) : State :=
  let s := (s.count f 1).raise 7 2 o.bank (d1 step ++ d1 (if o.cancelled then 8 else 9))
  endStore (if !o.cancelled && loaderState s == ldStoring then loaderFail s 9 else s) o.bank

/-- The image is stored (R92): the loader of the same image enters STAGED. -/
def storeDone (s : State) (o : StoreOp) : State :=
  if loaderState s = ldStoring ∧ s.loader.digest = o.digest then endStore (s.setFld F.HOOD_STATUS.STATE ldStaged) o.bank
  else endStore s o.bank

/-- The present step of a store ends (R224, R225). -/
def storeStepDone (s : State) (o : StoreOp) (ok : Bool) : State :=
  let b := o.bank
  let mib := (o.bytes.length + 2 ^ 20 - 1) / 2 ^ 20
  match s.fld F.CFG_STATUS.STEP with
  | 1 => if ok then nextStep (s.setBank b { s.bank b with markers := [] }) 2 else failStore s o 1 F.CFG_ERR.ERASE
  | 2 =>
    let s := appendMarker s b (storeMarker s o .eraseStart) 2 ok
    if ok then nextStep s 3 else failStore s o 2 F.CFG_ERR.PROGRAM
  | 3 => if ok then nextStep (s.setBank b { s.bank b with data := [] }) 4 else failStore s o 3 F.CFG_ERR.ERASE
  | 4 =>
    let s := appendMarker s b (storeMarker s o .eraseDone) 4 ok
    if !ok then failStore s o 4 F.CFG_ERR.PROGRAM
    else if o.cancelled then endStore s b
    else nextStep s 5
  | 5 =>
    let s := if ok then ownerDone s 26 else ownerStop s 26
    if o.cancelled then endStore s b
    else if ok then (nextStep (s.setBank b { s.bank b with data := programData o.bytes }) 6).setFld F.CFG_PROGRESS.MIB mib
    else failStore s o 5 F.CFG_ERR.PROGRAM
  | 6 =>
    let s := if ok then ownerDone s 26 else ownerStop s 26
    if o.cancelled then endStore s b
    else if ok && bankBytes (s.bank b) o.bytes.length == o.bytes then (nextStep s 7).setFld F.CFG_PROGRESS.MIB mib
    else failStore s o 6 F.CFG_ERR.READBACK
  | 7 =>
    if o.cancelled then endStore s b
    else
      let s := appendMarker s b (storeMarker s o .commit) 7 ok
      if ok then storeDone s o else failStore s o 7 F.CFG_ERR.PROGRAM
  | _ => s

/-- STORE_STEP_DONE (R224); after the supply-fail warning an erase is suspended and never ends (R225); during a
bus stop channel 26 waits, and its abort fails the step (R249, R258). -/
def execStoreStepDone (ok : Bool) (s : State) : Host.Outcome State Fault Refusal :=
  match s.loader.store with
  | none => .next s
  | some o =>
    let step := s.fld F.CFG_STATUS.STEP
    let moves := step == 5 || step == 6
    .next (if (s.power.warned && (step == 1 || step == 3)) || (moves && chState s 26 == chStopped) then s
      else storeStepDone s o (ok && !(moves && chState s 26 == chError)))

/-! ## The bursts of channel 26 (R248, R249) -/

/-- The words that channel 26 has still to move for the step of a store: none before programming or after read-back, nor past
the 4 KiB page in which a cancelled store stops (R225). -/
def flashLeft (s : State) : Option (StoreOp × Nat) :=
  match s.loader.store with
  | none => none
  | some o =>
    let m := (s.chan 26).moved
    let step := s.fld F.CFG_STATUS.STEP
    if (step == 5 || step == 6) && ownerRuns s 26 && !s.power.warned && !(o.cancelled && m % 4096 == 0) &&
        decide (m < (flashBytes o).length) then some (o, (flashBytes o).length - m)
    else none

/-- Channel 26 moves `n` bytes between the staged image and the flash: each word passes CFG_FLASH_DATA, programming writes the
data area (R224, R249). -/
def flashBurst (s : State) (o : StoreOp) (n : Nat) : State :=
  let m := (s.chan 26).moved
  let x := s.bank o.bank
  let programs := s.fld F.CFG_STATUS.STEP == 5
  let bs := if programs then slice (flashBytes o) m n
    else (List.range n).map (fun i => Sparse.get erasedByte x.data (m + i))
  let s := if programs then s.setBank o.bank { x with
      data := ((List.range bs.length).zip bs).foldl (fun d e => Sparse.set erasedByte d (m + e.1) e.2) x.data }
    else s
  let s := (s.setReg A.CFG_FLASH_DATA (BitVec.ofNat 32 (leVal (bs.drop (bs.length - 4))))).setChan 26
    { s.chan 26 with moved := m + n, burst := 0 }
  (s.setReg (itemKey A.XFER_CH_REMAIN 26) (BitVec.ofNat 32 ((flashBytes o).length - (m + n)))).setFld
    F.CFG_PROGRESS.MIB ((m + n) / 2 ^ 20)

/-- IMAGE_CANCEL ends a store before its COMMIT (R225). -/
def cancelStore (s : State) : State :=
  s.withLoader (fun l => { l with store := l.store.map (fun o => { o with cancelled := true }) })

/-! ## Active bank (R98, R223, R227) -/

/-- The active-bank record of a bank and its image: 16 bytes with a CRC-32 over the first 12 (R3, R227). -/
def activeBytes (b : Nat) (seq : Word) (digest : List Byte) : List Byte :=
  checkedRecord (d1 b ++ [0, 0, 0] ++ leBytes 4 seq.toNat ++ digest.take 4)

/-- What a record names whose check passes (R227). -/
def readActive (bs : List Byte) : Option ActiveRec :=
  if recordPasses 12 bs then some ⟨u8At bs 0, BitVec.ofNat 32 (leAt bs 4 4), slice bs 8 4⟩ else none

/-- A bank becomes that of the running image: the active-bank record names it, unless MRAM is write-protected (R322), and
ACTIVATE is due (R98). -/
def activateBank (s : State) (b : Nat) (seq : Word) (digest : List Byte) : State :=
  { s with activeRec := if s.mramProtected then s.activeRec else activeBytes b seq digest }.withLoader
    (fun l => { l with activate := some b })

/-- The command that waits on the loader completes. -/
def answerWait (s : State) (opcode code : Nat) (data : List Byte) : State :=
  match s.loader.waitSlot with
  | none => s
  | some k => finishWaiting (s.withLoader (fun l => { l with waitSlot := none })) k opcode code data

/-- An arm in SAFE completes once ACTIVATE has been appended: OK with a planned tick of 0, then a reset (R101). -/
def safeArmDone (s : State) : State :=
  if s.mode = stSafe ∧ loaderState s = ldArmed then
    (answerWait s 0x24 rcOk (beBytes 8 0)).withLoader (fun l => { l with safeReset := true })
  else s

/-- ACTIVATE_APPEND: to the bank whose image has become the start-up image; a failed append leaves the bank COMMITTED
(R223, R224). -/
def execActivateAppend (ok : Bool) (s : State) : Host.Outcome State Fault Refusal :=
  match s.loader.activate with
  | none => .next s
  | some b =>
    let s := s.withLoader (fun l => { l with activate := none })
    .next (safeArmDone (match commitMarker (s.bank b) with
      | none => s
      | some c =>
        if ok then showBank (s.setBank b (withEntry (s.bank b) (entryBytes ⟨.activate, c.opnum, c.seq, 0, []⟩))) b
        else (s.count F.CFG_ERR.PROGRAM 1).raise 7 5 b (d4 0 ++ d4 c.seq.toNat)))

/-- Whether the loader holds, STAGED or ARMED, the image with a sequence number (R170). -/
def holdsStaged (s : State) (seq : Word) : Bool :=
  (loaderState s == ldStaged || loaderState s == ldArmed) && s.loader.seq == seq && s.loader.img.isSome

/-- The staged image becomes the running one without carry-over, with its active-bank record and ACTIVATE; the other schedule
bank is in force, as it is on the holder since its switch (R97, R98, R130, R170). -/
def runStaged (s : State) : State :=
  match s.loader.img with
  | none => s
  | some im =>
    let old := s.image
    let s := powerNeeded (activateBank (runFresh s im) s.loader.bank im.seq im.digest) im
    let s := match old with
      | none => s
      | some o => drainUnused s o im
    let s := s.withLoader (fun l => { l with bankBit := !l.bankBit })
    loaderIdle ((s.setFld F.CFG_STATUS.ACTIVE s.loader.bank).setFlag F.CFG_STATUS.LOADED true)

end Sys2Proof.Machine
end

