-- ==== Sys2Proof/Machine/Resync.lean ====
section
/-! DEFINITION. Resynchronisation of a joiner by a crown holder (R158, R169 to R171), with the maintenance group that it
shares with the DRAM scrub (R237). -/

namespace Sys2Proof.Machine

open Sys2Proof

/-- Ticks from a failed resynchronisation to the next request (R171). -/
def retryTicks : DWord := 16384

/-! ## Ends -/

/-- The local outputs of a standby that stays out of step are those of its last commit in step (R169). -/
def restoreOutputs (s : State) : State :=
  match s.resync.held with
  | none => s
  | some m => { s with committed := m, committedPrev := m }

/-- A resynchronisation ends here; a DRAM segment that waited for it starts (R237). Channels 28 and 29 that still move for it go
back to IDLE (R243). -/
def copyEnds (s : State) : State :=
  let s := ownerStop (ownerStop s 28) 29
  let s := { s.setFld F.STRAIT_STATUS.COPY 0 with resync := Resync.initial }
  let s := s.withPair (fun p => { p with joinDue := none })
  startQueuedSegment s

/-- A resynchronisation fails with a code (R171): the holder tells the joiner, which asks again 16,384 ticks later. -/
def resyncFail (s : State) (code : Nat) : State :=
  let role := s.resync.role
  let round := s.fld F.STRAIT_COPY.ROUND
  if role = .idle then s
  else
    let s := (s.count F.STRAIT_COPY.FAILS 1).raise 4 2 0 (d1 code ++ d1 round)
    let s := if role = .holder then (s.straitReply 8 ((s.resync.queued.map (fun h => h.seq)).getD 0) code).strait 7 0 [2, 0] else s
    let s := copyEnds (restoreOutputs s)
    if role = .joiner then s.withResync (fun r => { r with retryAt := some (s.tick + retryTicks) }) else s

/-- The joiner's request. Where its loader holds the image of the sequence number that the holder runs, the request names that
image with its digest, and the holder's acceptance says that the digests are equal: the joiner then makes it running before
the copy (R170; STATUS carries no digest, DEDUCED, log entry 135). -/
def joinRequest (s : State) : State :=
  match s.pair.status with
  | none => requestResync s
  | some p =>
    if p.imageSeq != runningSeq s && holdsStaged s p.imageSeq then requestAs s true s.loader.seq s.loader.digest
    else requestResync s

/-- Whether nothing has answered a request by the guard window of the next tick, as R172 bounds a REPLY (log entry 102). -/
def requestLost (s : State) : Bool :=
  s.resync.role == .joiner && s.fld F.STRAIT_STATUS.COPY == 1 && !s.resync.unheard &&
  match s.resync.asked with
  | none => false
  | some t => decide (1 ≤ sdiff s.tick t)

/-- RESYNC_RETRY: a joiner that has lost a message fails; one whose time has come asks again (R171). -/
def execResyncRetry (s : State) : Host.Outcome State Fault Refusal :=
  if s.resync.role == .joiner && (s.resync.gap || requestLost s) then .next (resyncFail s rcTimeout)
  else match s.resync.retryAt with
    | none => .next s
    | some t => .next (if sdiff t s.tick ≤ 0 then joinRequest s else s)

/-! ## The holder -/

/-- The state to which the spec gives no address, as the holder's copy carries it (R170; log entry 132). -/
def snapshotOf (s : State) : Snapshot :=
  { inImg := s.inImg, outImg := s.outImg, tasks := s.tasks, classes := s.classes, masters := s.masters, axes := s.axes,
    retained := s.retained, bank := s.loader.bankBit }

/-- A COPY message with a piece of 2 KiB of memory, one unit of channel 28 (R150, R251). -/
def sendPiece (s : State) (q : Nat) : State := s.straitOn 7 9 0 [2048 * q] (bytesAt s.mem (2048 * q) 2048)

/-- The pieces of pages, which channel 28 has still to send, and after them the state without an address (R170, R243). -/
def queueCopy (s : State) (pages : List Nat) : State :=
  s.withResync (fun r => { r with toSend := r.toSend ++ pages.flatMap (fun q => [2 * q, 2 * q + 1]), snapDue := true })

/-- Whether channel 28 has something to send. -/
def copyWaits (s : State) : Bool :=
  s.resync.role == .holder && ownerRuns s 28 && (!s.resync.toSend.isEmpty || s.resync.snapDue)

/-- A unit of channel 28 (R170, R243): the next piece, or the state without an address. An uncorrectable word ends the channel
with MEMORY, and the resynchronisation with it (R231, R256). -/
def copyUnit (s : State) : State :=
  if !copyWaits s then s
  else match s.resync.toSend with
    | [] =>
      let s := s.withResync (fun r => { r with snapDue := false })
      if s.trained then s.emit (.stateCopy (laneOf s.pair.routing 7) (snapshotOf s)) else s
    | q :: qs =>
      match addrBad s (2048 * q) 2048 with
      | some p => resyncFail (channelError (s.memError p) 28 endMemory) rcCheck
      | none => (sendPiece s q).withResync (fun r => { r with toSend := qs })

/-- Everything that channel 28 has still to send leaves (R170). -/
def drainCopy (s : State) : State := (List.range (s.resync.toSend.length + 1)).foldl (fun s _ => copyUnit s) s

/-- The pages of memory that hold a byte other than 0 or an uncorrectable word. -/
def listedPages (s : State) : List Nat :=
  let bad := s.bad.filterMap (fun p => match p with
    | .addr w => some (8 * w / 4096)
    | _ => none)
  bad.foldl (fun d q => insertSorted q d) (s.mem.foldl (fun d e => insertSorted (e.1 / 4096) d) [])

/-- The holder accepts: the bulk copy is to leave on lane 7 (R170). During a bus stop channel 28 sends nothing, and the
resynchronisation fails (R257). -/
def acceptResync (s : State) (h : StraitHdr) : State :=
  let s := (s.strait 8 2 []).strait 7 0 [2, 1]
  let s := (s.setFld F.STRAIT_STATUS.COPY 2).setFld F.STRAIT_COPY.ROUND 0
  let s : State := { s with resync := { Resync.initial with role := .holder, queued := some h } }
  if busStopped s then resyncFail s rcTimeout else queueCopy (ownerStart s 28) (listedPages s)

/-- A request reaches the holder: refused unless image sequence number, digest and core mode are its own, queued behind a
DRAM scrub, else accepted (R170, R237). -/
def judgeRequest (s : State) (h : StraitHdr) (seq : Word) (digest : List Byte) (mode : Nat) : State :=
  if !s.holds || seq != runningSeq s || digest != imageDigest s || mode != s.coreMode then s.straitReply 8 h.seq rcState
  else if s.flag F.MEM_STATUS.SCRUB_BUSY then
    let s := (s.straitReply 8 h.seq rcQueued).setFld F.STRAIT_STATUS.COPY 5
    { s with resync := { Resync.initial with role := .holder, queued := some h } }
  else acceptResync s h

/-- RESYNC_REQUEST (R170). -/
def execResyncRequest (h : StraitHdr) (seq : Word) (digest : List Byte) (mode : Nat) (s : State) :
    Host.Outcome State Fault Refusal :=
  .next (onMsg s h 8 .resync true (fun s => judgeRequest s h seq digest mode))

/-- SCRUB_SEGMENT_DONE: the segment ends; a state copy that waited for it is accepted by the holder, or asked for by the
joiner whose segment it was (R170, R237). -/
def execScrubSegmentDone (s : State) : Host.Outcome State Fault Refusal :=
  if s.flag F.MEM_STATUS.SCRUB_BUSY then
    let s := endActivity (s.setFlag F.MEM_STATUS.SCRUB_BUSY false) 0x0401 true
    match s.resync.queued with
    | none => .next (
        if s.resync.role = .joiner && s.fld F.STRAIT_STATUS.COPY = 5 && s.resync.unheard then joinRequest s else s)
    | some h => .next (if s.fld F.STRAIT_STATUS.COPY = 5 && s.holds then acceptResync s h else s)
  else .next s

/-- The final phase starts: from 58 µs of this tick on the remaining pages leave (R170). A joiner's higher stored epoch is
raised over in the guard window of the final tick (R158). -/
def startFinal (s : State) : State :=
  let s := queueCopy ((s.setFld F.STRAIT_STATUS.COPY 4).withResync (fun r => { r with finalTick := some s.tick })) s.resync.dirty
  (s.withResync (fun r => { r with dirty := [] })).withPair (fun p => { p with joinDue := (p.status.map (fun x => x.epoch)) })

/-- The end of the final phase on the holder, before 27 µs of tick f + 1: what is still to send, with the pages written since it
began and the state as it then is, and RESYNC final of tick f (R170; DESIGN CHOICE, log entry 169). -/
def sendFinal (s : State) : State :=
  if s.resync.role = .holder && s.resync.finalTick == some (s.tick - 1) then
    let s := if ownerRuns s 28 then drainCopy (queueCopy s s.resync.dirty) else resyncFail s rcTimeout
    if s.resync.role = .holder then
      (s.straitFor (s.tick - 1) 6 8 3 [] []).withResync (fun r => { r with dirty := [] })
    else s
  else s

/-- The holder at a tick f with f + 1 a multiple of 1,024: the final phase, the next round, or the end after 64 rounds
(R170, R171). The bulk copy or a round of which something is still to be sent goes on. -/
def resyncRound (s : State) : State :=
  let kib := 4 * s.resync.dirty.length
  let n := s.fld F.STRAIT_COPY.ROUND
  let s := s.setFld F.STRAIT_COPY.DIRTY_KIB (min 0xFFFF kib)
  if busStopped s || !ownerRuns s 28 then resyncFail s rcTimeout
  else if copyWaits s then s
  else if kib ≤ 64 && !classOverrun s then startFinal s
  else if 64 ≤ n then resyncFail s rcTimeout
  else
    (queueCopy ((s.setFld F.STRAIT_STATUS.COPY 3).setFld F.STRAIT_COPY.ROUND (n + 1)) s.resync.dirty).withResync
      (fun r => { r with dirty := [] })

/-- RESYNC_ROUND (R170). -/
def execResyncRound (s : State) : Host.Outcome State Fault Refusal :=
  let c := s.fld F.STRAIT_STATUS.COPY
  .next (if s.resync.role = .holder && (c == 2 || c == 3) && (s.tick.toNat + 1) % 1024 == 0 then resyncRound s else s)

/-! ## The joiner -/

/-- The accepted joiner: the image that its request named runs, and the bulk copy begins (R170). A staged image that the loader
no longer holds fails the resynchronisation. -/
def joinAccepted (s : State) : State :=
  if s.resync.staged && s.loader.img.isNone then resyncFail s rcCheck
  else
    let s := if s.resync.staged then runStaged s else s
    { (ownerStart s 29).setFld F.STRAIT_STATUS.COPY 2 with resync := { Resync.initial with role := .joiner } }

/-- RESYNC_ACCEPT: the bulk copy begins (R170), never beside a DRAM segment of this module (R237). -/
def execResyncAccept (h : StraitHdr) (s : State) : Host.Outcome State Fault Refusal :=
  .next (onMsg s h 8 .resync false (fun s =>
    if s.resync.role = .joiner && !s.flag F.MEM_STATUS.SCRUB_BUSY then joinAccepted s else s))

/-- The joiner writes the bytes of a COPY through channel 29, whose unit it is (R170, R243, R244). -/
def takeCopy (s : State) (a : Nat) (bs : List Byte) : State :=
  let s := s.setFld F.XFER_STATUS.CHANNEL 29
  if busStopped s || !ownerRuns s 29 then resyncFail s rcTimeout
  else match memJudge s 61 a bs.length true with
    | some why => resyncFail (channelError (guardRefuse s 61 a true why) 29 endGuard) rcCheck
    | none => match writeMem s a bs with
      | .error p => resyncFail (channelError (s.memError p) 29 endMemory) rcCheck
      | .ok s => s

/-- COPY (R170, R171). -/
def execCopy (h : StraitHdr) (addr : DWord) (data : List Byte) (s : State) : Host.Outcome State Fault Refusal :=
  .next (onMsg s h 9 .resync false (fun s =>
    if s.resync.role = .joiner && copyRuns s then
      if s.resync.gap then resyncFail s rcTimeout else takeCopy s addr.toNat data
    else s))

/-- The retained area after a state copy: the holder's, with the joiner's own trim table (R170, R284). -/
def copiedRetained (own copied : Bytes) : Bytes :=
  own.filter (fun e => decide (e.1 < trimBytes)) ++ copied.filter (fun e => !decide (e.1 < trimBytes))

/-- The joiner loads the copied state and computes the final tick (R170). No class of the holder is in overrun there, so no
skip is counted (R47). A unit of the retained area that the copy may have changed is in the next snapshot (R234), and a
standby out of step keeps the outputs of its last commit in step until it has joined (R169). -/
def loadSnapshot (s : State) (x : Snapshot) : State :=
  let s := clearSkips s
  let s := if s.pair.outOfStep then s.withResync (fun r => { r with held := some (r.held.getD s.committed) }) else s
  { s.withLoader (fun l => { l with bankBit := x.bank }) with
    inImg := x.inImg, outImg := x.outImg, committed := x.outImg, tasks := x.tasks, classes := x.classes, cores := []
    masters := x.masters, axes := x.axes, retained := copiedRetained s.retained x.retained,
    retDirty := ((s.retained ++ x.retained).map (fun e => e.1 / retUnitBytes)).foldl (fun d u => insertSorted u d) s.retDirty }

/-- RESYNC_FINAL (R158, R170). Acyclic tags are not copied: the joiner begins with none in use. -/
def execResyncFinal (h : StraitHdr) (snap : Snapshot) (s : State) : Host.Outcome State Fault Refusal :=
  .next (onMsg s h 8 .resync false (fun s =>
    if s.resync.role = .joiner && copyRuns s then
      if s.resync.gap then resyncFail s rcTimeout
      else
        let s := (loadSnapshot s snap).setFld F.STRAIT_STATUS.COPY 4
        let s := (usedRings s).foldl (fun s k => setReqs s k []) s
        s.withResync (fun r => { r with finalTick := some h.tick, loaded := true })
    else s))

/-! ## The join (R158, R170) -/

/-- The epoch that a joiner takes: the holder's, or its own stored one plus 1 when that was higher and the holder raised
over it. -/
def joinEpoch (s : State) : State :=
  let e := crownEpoch s.pair.lastCrown
  if s.epoch ≤ e then s.adoptEpoch e else s.raiseEpochFrom s.epoch 4

/-- The joiner is in step. -/
def joinDone (s : State) : State :=
  let rounds := s.fld F.STRAIT_COPY.ROUND
  let s := joinEpoch (ownerDone s 29)
  let s := (copyEnds (s.setFlag F.STRAIT_STATUS.CMP_SUSPENDED false)).withPair (fun p => { p with
    outOfStep := false, silent := false, oosDue := false, missNow := false, missPrev := false, diverged := false })
  let s := if s.mode = stStart then (leaveStart s).become stStandby 4 else s.setFlag F.STRAIT_STATUS.IN_STEP true
  s.raise 4 1 0 (d4 s.epoch ++ d1 rounds)

/-- The holder has a standby again. -/
def holderDone (s : State) : State :=
  let rounds := s.fld F.STRAIT_COPY.ROUND
  let s := ((copyEnds (raiseForJoin (ownerDone s 28))).setFlag F.STRAIT_STATUS.CMP_SUSPENDED false).strait 8 4 []
  let s := s.withPair (fun p => { p with silent := false })
  let s := s.strait 7 0 [2, 0]
  let s := if s.mode = stSolo then s.become stPrimary 4 else s.setFlag F.STRAIT_STATUS.IN_STEP s.paired
  s.raise 4 1 0 (d4 s.epoch ++ d1 rounds)

/-- RESYNC_DONE: at 61.0 µs of the tick after the final phase began, both digests of that tick decide (R170, R171). -/
def execResyncDone (s : State) : Host.Outcome State Fault Refusal :=
  match s.resync.finalTick with
  | none => .next s
  | some f =>
    if s.tick != f + 1 || s.resync.role == .idle then .next s
    else
      let s := s.at 61000
      .next (match s.pair.part2 with
        | none => resyncFail s rcTimeout
        | some d =>
          if d.1 != s.dword A.STRAIT_DIGEST_LO then resyncFail s rcCheck
          else if s.resync.role = .joiner then (if s.resync.loaded then joinDone s else resyncFail s rcTimeout)
          else holderDone s)

end Sys2Proof.Machine
end

