-- ==== Sys2Proof/Machine/Loader.lean ====
section
/-! DEFINITION. The Hood loader (R90 to R101): verification, arming with the partner, the switch decision and the switch. -/

namespace Sys2Proof.Machine

open Sys2Proof

/-! ## Verification (R91, R101) -/

/-- The sequence number that check 3 compares with: the running image's; in SAFE with none loaded, the higher COMMIT of
the two banks (R91, R101). -/
def sequenceFloor (s : State) : Option Word :=
  match s.image with
  | some im => some im.seq
  | none =>
    let of := fun (b : Bank) => if bankState b = bkCommitted then (commitMarker b).map (fun m => m.seq) else none
    match of s.bank0, of s.bank1 with
    | some a, some b => some (if a ≤ b then b else a)
    | a, none => a
    | none, b => b

/-- The core mode that condition 2 of R43 compares with: in SAFE the staged header's own (R101). -/
def budgetMode (s : State) (bs : List Byte) : Nat := if s.mode = stSafe then u8At bs 32 else s.coreMode

/-- A staged image is refused by a check (R91). -/
def refuseStaged (s : State) (n : Nat) : State :=
  let s := (s.raise 7 1 0 (d1 n ++ d1 (checkCode n) ++ [0, 0] ++ d4 s.loader.seq.toNat))
  loaderFail (answerWait s 0x22 (checkCode n) []) n

/-- VERIFYING_DONE (R91, R92): with the first failed check back to IDLE, else on to STORING. -/
def execVerifyingDone (s : State) : Host.Outcome State Fault Refusal :=
  if loaderState s = ldVerifying then
    let l := s.loader
    let bs := stagedBytes l
    match failedCheck s bs l.staging.length l.total l.seq (sequenceFloor s) (budgetMode s bs) with
    | some n => .next (refuseStaged s n)
    | none =>
      let im := readImage bs
      let s := (answerWait s 0x22 rcOk []).setFld F.HOOD_STATUS.STATE ldStoring
      .next (startStore (s.withLoader (fun l => { l with img := some im, digest := im.digest })))
  else .next s

/-! ## Arming (R93 to R95) -/

/-- Whether an image enables the reference buffer while it is off (R94). -/
def enablesReference (s : State) (im : Image) : Bool :=
  !s.flag F.CONV_REF_CTRL.EN &&
  im.reginit.any (fun x => x.block * 65536 + x.off == A.CONV_REF_CTRL && bit x.value 0)

/-- The first tick n with n + 1 a multiple of 1,024 that lies at or after tick `m`. -/
def switchTickFrom (m : Nat) : Nat := (m + 1024) / 1024 * 1024 - 1

/-- The planned switch tick of an arm accepted in this tick (R94). -/
def plannedTick (s : State) (im : Image) : DWord :=
  let lead := s.fld F.HOOD_CTRL.LEAD
  let lead := if enablesReference s im then max lead 48000 else lead
  BitVec.ofNat 64 (switchTickFrom (s.tick.toNat + lead))

/-- Channel 27 lays the new image out beside the running one (R95, R243): now, or once a bus stop ends (R257). -/
def prepareLayout (s : State) (im : Image) : State :=
  let s := ownerStart s 27
  if busStopped s then stopChannel s 27 else ownerDone (layOut s im) 27

/-- The loader enters ARMED: domains, memories and shadow tables of the new image are prepared (R95). -/
def enterArmed (s : State) (planned : DWord) : State :=
  match s.loader.img with
  | none => s
  | some im =>
    let s := ((s.setFld F.HOOD_STATUS.STATE ldArmed).setFld F.HOOD_STATUS.DEFERRALS 0).setDword A.HOOD_SWITCH_LO planned
    let s := s.withLoader (fun l => { l with armDue := none, decision := none, shadow := [] })
    let s := im.stations.foldl (fun s x => s.setFld (stnFld F.RING_STN_STATE.SHADOW_OK x.ring x.station) 0) s
    let s := if enablesReference s im then setReference s true else s
    let s := prepareLayout ((newDomains s im).foldl requestOn s) im
    (List.range 48).foldl (fun s k => if s.domOn k then loadRingShadows s k else s) s

/-- The epoch at which the arm that waits was admitted (R206). -/
def armEpoch (s : State) : Nat := ((s.loader.waitSlot.bind (frontCmd s)).map (fun q => q.epoch)).getD s.epoch

/-- The arm is accepted: both modules enter ARMED in this guard window (R93), where it completes (R206). -/
def acceptArm (s : State) (im : Image) (forward : Bool) : State :=
  let n := plannedTick s im
  let s := s.withLoader (fun l => { l with asking := none, armDue := some (s.tick, n, armEpoch s) })
  let slot := s.loader.waitSlot
  if forward then s.straitOn 6 6 3 (n.toNat :: originVals s slot) (originArgs s slot) else s

/-- LOADER_QUERY: answered with the loader state and the digest of the staged image (R93, R150). -/
def execLoaderQuery (h : StraitHdr) (s : State) : Host.Outcome State Fault Refusal :=
  .next (onMsg s h 6 .other true (fun s => s.straitOn 6 6 2 [loaderState s] s.loader.digest))

/-- LOADER_REPLY: the arm is accepted when the partner is STAGED with an equal digest, else it returns STATE (R93), or
ROLE_CHANGED after a change of the epoch (R206). -/
def execLoaderReply (h : StraitHdr) (state : Nat) (digest : List Byte) (s : State) : Host.Outcome State Fault Refusal :=
  .next (onMsg s h 6 .other false (fun s =>
    match s.loader.asking, s.loader.img with
    | some _, some im =>
      if s.mode = stPrimary && loaderState s == ldStaged && state == ldStaged && digest == s.loader.digest then
        acceptArm s im true
      else (answerWait s 0x24 (if armEpoch s = s.epoch then rcState else rcRoleChanged) []).withLoader (fun l => { l with asking := none })
    | _, _ => s))

/-- A forwarded command of the partner's host is journalled here too (R210). -/
def journalForwarded (s : State) (origin : Option FwdOrigin) (code : Nat) (data : List Byte) : State :=
  match origin with
  | none => s
  | some o => journalAppend s
      { jseq := 0, tick := s.tick, session := o.session, seq := o.seq, opcode := o.opcode, result := code, done := true,
        forwarded := true, replayed := false, epoch := s.epoch, keySlot := o.keySlot,
        argDigest := (sha384 o.args).take 16, resultData := data, chk := 0 }

/-- LOADER_ARM: the partner's arm with its planned tick (R93). -/
def execLoaderArm (h : StraitHdr) (tick : DWord) (origin : Option FwdOrigin) (s : State) :
    Host.Outcome State Fault Refusal :=
  .next (onMsg s h 6 .other true (fun s =>
    if loaderState s = ldStaged then
      let s := s.withLoader (fun l => { l with armDue := some (h.tick, tick, s.epoch) })
      (journalForwarded s origin rcOk (beBytes 8 tick.toNat)).straitReply 6 h.seq rcOk
    else s.straitReply 6 h.seq rcState))

/-! ## The decision (R96, R97) -/

/-- The planned switch tick. -/
def switchTick (s : State) : DWord := s.dword A.HOOD_SWITCH_LO

/-- Whether a switch falls due in this tick. -/
def switchDue (s : State) : Bool := loaderState s == ldArmed && switchTick s == s.tick

/-- Whether something of R96 postpones the switch of an image; a newly needed domain is one that the running image does not
need. -/
def mustDefer (s : State) (im : Image) : Bool :=
  classOverrun s || s.flag F.CHK_STATUS.VERDICT_BUSY || s.flag F.CHK_STATUS.VERDICT_QUEUED ||
  s.flag F.CHK_STATUS.SPLIT_BUSY || s.pair.partVerdict || s.pair.partSplit || s.pair.partCopy ||
  s.fld F.STRAIT_STATUS.COPY != 0 ||
  im.stations.any (fun x => !s.flag (stnFld F.RING_STN_STATE.SHADOW_OK x.ring x.station)) ||
  (newDomains s im).any (fun d => !s.domOn d)

/-- The crown holder judges the switch: its decision, and the mark of an overrun (R96). -/
def judgeSwitch (s : State) : State :=
  match s.loader.img with
  | none => s
  | some im =>
    let go := !mustDefer s im
    let s := if classOverrun s then s.setFlag F.TICK_STATUS.SWITCH_DEFERRED true else s
    s.withLoader (fun l => { l with decision := some go })

/-- SWITCH_JUDGEMENT: at 60.0 µs of the planned tick (R96). -/
def execSwitchJudgement (s : State) : Host.Outcome State Fault Refusal :=
  if switchDue s && s.holds then
    let s := judgeSwitch (s.at 60000)
    .next (if s.mode = stPrimary then s.strait 6 4 [b2n (s.loader.decision == some true)] else s)
  else .next s

/-- SWITCH_DECISION: the standby receives the crown holder's decision (R96). -/
def execSwitchDecision (h : StraitHdr) (go : Bool) (s : State) : Host.Outcome State Fault Refusal :=
  .next (onMsg s h 6 .other false (fun s =>
    if switchDue s && s.mode == stStandby then s.withLoader (fun l => { l with decision := some go }) else s))

/-- NO_SWITCH_DECISION: at 61.0 µs of the planned tick a standby without a decision goes out of step (R97). -/
def execNoSwitchDecision (s : State) : Host.Outcome State Fault Refusal :=
  if switchDue s && s.mode == stStandby && s.loader.decision.isNone then .next (goOutOfStep (s.at 61000)) else .next s

/-! ## The switch (R98 to R100) -/

/-- Both modules switch: carry-over, the new image running, the active-bank record (R98). -/
def hoodSwitch (s : State) (im : Image) : State :=
  let oldSeq := runningSeq s
  let old := s.image.getD im
  let b := s.loader.bank
  let s := activateBank (runCarried s old im) b im.seq im.digest
  let s := (s.setFld F.CFG_STATUS.ACTIVE b).setFlag F.CFG_STATUS.LOADED true
  let s := s.withLoader (fun l => { l with lastSwitch := s.tick, bankBit := !l.bankBit })
  let s := s.raise 7 6 0 (d4 oldSeq.toNat ++ d4 im.seq.toNat ++ d4 (s.reg A.HOOD_CARRY).toNat)
  loaderIdle (drainUnused s old im)

/-- The switch is postponed by 1,024 ticks, and cancelled at the deferral limit (R96). The joint completion leaves a class in
overrun on both modules (R48), so each shows the mark of it. -/
def deferSwitch (s : State) : State :=
  let s := if classOverrun s then s.setFlag F.TICK_STATUS.SWITCH_DEFERRED true else s
  let n := s.fld F.HOOD_STATUS.DEFERRALS + 1
  let s := (s.setFld F.HOOD_STATUS.DEFERRALS n).setDword A.HOOD_SWITCH_LO (switchTick s + 1024)
  let s := s.withLoader (fun l => { l with decision := none })
  if s.fld F.HOOD_CTRL.DEFER_LIMIT ≤ n then
    loaderFail (s.raise 7 7 0 (d1 n ++ [0, 0, 0] ++ d4 s.loader.seq.toNat)) 10
  else s

/-- A due switch at 61.2 µs: by the decision; a survivor that took over in this guard window judges alone (R97, R167); a
standby without a decision keeps its arm for the crown holder's next one. The decision that it missed moves its planned tick
and does not count in DEFERRALS (DESIGN CHOICE, log entry 159). -/
def takeSwitch (s : State) : State :=
  let s := if s.loader.decision.isNone && s.holds then judgeSwitch s else s
  match s.loader.decision, s.loader.img with
  | some true, some im => hoodSwitch s im
  | some _, _ => deferSwitch s
  | none, _ => s.setDword A.HOOD_SWITCH_LO (switchTick s + 1024)

/-- HOOD_SWITCH: at 61.2 µs of a guard window; an accepted arm enters ARMED here and its command
completes (R31, R93, R98, R206, R208). -/
def execHoodSwitch (s : State) : Host.Outcome State Fault Refusal :=
  if s.ticking && s.running then
    let s := s.at 61200
    let s := if switchDue s then takeSwitch s else s
    .next (match s.loader.armDue with
      | none => s
      | some (_, n, _) => answerWait (enterArmed s n) 0x24 rcOk (beBytes 8 n.toNat))
  else .next s

end Sys2Proof.Machine
end

