-- ==== Sys2Proof/Machine/Strait.lean ====
section
/-! DEFINITION. The Strait's lanes and messages (R147 to R152, R168, R172): lanes up and down, STATUS, COMMIT, forwarded
writes, MAINT and REPLY. -/

namespace Sys2Proof.Machine

open Sys2Proof

/-! ## Lanes (R147, R148) -/

/-- The effective lane set follows both announcements; a change is recorded and moves traffic in the next guard window
(R148). -/
def updateLanes (s : State) : State :=
  let set := (s.pair.rxLanes &&& s.pair.partnerLanes).toNat
  let old := s.lanes
  if set = old then s
  else
    let s := (s.setFld F.STRAIT_STATUS.LANES_UP set).setFlag F.STRAIT_STATUS.TRAINED (set != 0)
    (s.raise 4 3 0 (d1 old ++ d1 set)).withPair (fun p => { p with laneDirty := true })

/-- A set of lanes with one lane added or removed. -/
def setLane (m : BitVec 8) (l : Nat) (up : Bool) : BitVec 8 :=
  if up then m ||| BitVec.ofNat 8 (2 ^ l) else m &&& ~~~ BitVec.ofNat 8 (2 ^ l)

/-- A lane is up in this module's receive direction once it holds block lock and a valid STATUS has arrived on it since
(R147). -/
def lanesUp (p : Pair) : Pair := { p with rxLanes := p.blockLock &&& p.statusOn }

/-- LANE_UP: a lane holds block lock, from where on STATUS leaves on it; with a valid STATUS received on it, before this
command or after, it is up (R147; log entry 32). -/
def execLaneUp (lane : Nat) (s : State) : Host.Outcome State Fault Refusal :=
  .next (updateLanes (s.withPair (fun p => lanesUp { p with blockLock := setLane p.blockLock lane true })))

/-- LANE_DOWN: a lane loses block lock and is announced as down from the next STATUS on (R148). -/
def execLaneDown (lane : Nat) (s : State) : Host.Outcome State Fault Refusal :=
  .next (updateLanes (s.withPair (fun p => lanesUp { p with
    blockLock := setLane p.blockLock lane false, statusOn := setLane p.statusOn lane false })))

/-- LANE_MOVE: in the guard window after a change of the effective set, lane roles follow it (R148). -/
def execLaneMove (s : State) : Host.Outcome State Fault Refusal :=
  .next (if s.pair.laneDirty then
      s.withPair (fun p => { p with laneDirty := false, routing := BitVec.ofNat 8 s.lanes })
    else s)

/-! ## STATUS (R150, R152, R165 to R168) -/

/-- Both modules hold the crown (R168): noted and recorded; the lower crown asks for SAFE with CAUSE 8. -/
def dualHold (s : State) (crown : Word) : State :=
  let s := if s.flag F.CROWN_STATUS.DUAL_HOLD then s
    else (s.note F.CROWN_STATUS.DUAL_HOLD).raise 0 6 0 (d4 s.crown.toNat ++ d4 crown.toNat)
  if s.crown < crown then requestSafe s 8 else s

/-- A state in which a module holds the crown. -/
def holdsState (st : Nat) : Bool := st == stPrimary || st == stSolo

/-- After a mismatch or an unclean tick the standby resynchronises once neither module tests itself any more (R77 to
R79). A verdict that MAINT_START asked for suspends no comparison, and no resynchronisation follows it: R79 leaves open
whether its first row speaks of such a verdict too (DESIGN CHOICE, log entry 136). -/
def resyncAfterVerdict (s : State) (p : StatusPayload) : State :=
  if s.mode = stStandby && !s.pair.outOfStep && s.flag F.STRAIT_STATUS.CMP_SUSPENDED &&
     !s.flag F.CHK_STATUS.VERDICT_BUSY && !s.flag F.CHK_STATUS.VERDICT_QUEUED && holdsState p.state && !p.verdictBusy
  then goOutOfStep s else s

/-- CMP_SUSPENDED on a crown holder follows its standby: set while it is out of step, cleared where a silent Strait alone had
set it (R162, R169). -/
def judgeSuspended (s : State) (p : StatusPayload) : State :=
  if s.mode = stPrimary && p.state == stStandby then
    if p.inStep then
      if s.pair.silent then (s.setFlag F.STRAIT_STATUS.CMP_SUSPENDED false).withPair (fun x => { x with silent := false }) else s
    else (s.setFlag F.STRAIT_STATUS.CMP_SUSPENDED true).withPair (fun x => { x with silent := false })
  else s

/-- A request that found the Strait silent is made again when the Strait returns (R162). -/
def askAgain (s : State) (p : StatusPayload) : State :=
  if s.resync.role = .joiner && s.resync.unheard && s.trained && s.fld F.STRAIT_STATUS.COPY == 1 && holdsState p.state then
    joinRequest s
  else s

/-- The control copy of the partner's STATUS (R150): its flags tell of a split, a verdict self-test or a state copy of the
partner as well as MAINT does (R83, R96). From a lower epoch its fields serve loss detection, dual-hold
detection and resynchronisation only (R152), so it shows no healthy standby. -/
def takeStatus (s : State) (h : StraitHdr) (p : StatusPayload) : State :=
  let e := crownEpoch h.crown
  let p' := if e < s.epoch then { p with inStep := false } else p
  let s := s.withPair (fun x => { x with
    status := some p', lastCrown := h.crown, partSplit := if e < s.epoch then x.partSplit else p.splitBusy,
    partVerdict := if e < s.epoch then x.partVerdict else p.verdictBusy,
    partCopy := if e < s.epoch then x.partCopy else p.copyBusy,
    ranBefore := x.ranBefore || (decide (2 ≤ p.state) && decide (p.state ≤ 4)) })
  let s := (s.setFld F.STRAIT_STATUS.PARTNER_STATE p.state).setReg A.CROWN_PARTNER h.crown
  let s := if s.mode = stStandby && holdsState p.state then s.adoptEpoch e else s
  let s := if s.holds && holdsState p.state then dualHold s h.crown else s
  askAgain (resyncAfterVerdict (judgeSuspended (yieldIfDue s) p') p) p

/-- A STATUS on any lane: on one that holds block lock it brings the lane up, and it announces the partner's lanes; the copy on the
control lane has the other effects (R147, R148, R150). -/
def receiveStatus (s : State) (h : StraitHdr) (p : StatusPayload) : State :=
  let control := h.lane == laneOf s.pair.routing 6
  let s := updateLanes (s.withPair (fun x =>
    lanesUp { x with partnerLanes := p.lanes, statusOn := setLane x.statusOn h.lane true }))
  if control then takeStatus s h p else s

/-- STATUS_MSG. -/
def execStatusMsg (h : StraitHdr) (p : StatusPayload) (s : State) : Host.Outcome State Fault Refusal :=
  .next (onMsg s h 1 .status false (fun s => receiveStatus s h p))

/-! ## COMMIT (R48, R155) -/

/-- COMMIT_MSG: stored for the joint completion or the comparison of this tick. -/
def execCommitMsg (h : StraitHdr) (p : CommitPayload) (s : State) : Host.Outcome State Fault Refusal :=
  .next (onMsg s h 3 .tick false (fun s =>
    if h.tick != s.tick then s
    else match p with
      | .completion m t1 late => s.withPair (fun x => { x with part1 := some (m, t1, late) })
      | .digest v clean miss => s.withPair (fun x => { x with part2 := some (v, clean, miss) })))

/-! ## Forwarded writes (R172) -/

/-- The session command that waits for a forwarded write completes: REG_WRITE or TASK_ENABLE. -/
def finishForward (s : State) (slot : Option Nat) (code : Nat) : State :=
  match slot with
  | none => s
  | some k => finishWaiting (finishWaiting s k 0x11 code []) k 0x32 code []

/-- A forwarded write arrives (R172): due at the start of its tick, answered OK, and journalled where a host command of the
partner caused it (R210). One that is due already has no effect here. -/
def takeForward (s : State) (h : StraitHdr) (key : Nat) (v : Word) (tick : DWord) (origin : Option FwdOrigin) : State :=
  if 0 < sdiff tick s.tick then
    let w : FwdWrite := ⟨key, v, tick, false, h.seq, true, none⟩
    let s := s.withPair (fun p => { p with fwd := p.fwd ++ [w] })
    (journalForwarded s origin rcOk []).straitReply 5 h.seq rcOk
  else s.straitReply 5 h.seq rcTimeout

/-- FWD_WRITE. -/
def execFwdWrite (h : StraitHdr) (block off item : Nat) (value : Word) (tick : DWord) (origin : Option FwdOrigin)
    (s : State) : Host.Outcome State Fault Refusal :=
  .next (onMsg s h 5 .other true (fun s => takeForward s h (itemKey (block * 65536 + off) item) value tick origin))

/-- One forwarded write takes effect; the host command of a write whose REPLY did not come returns TIMEOUT. -/
def forwardEffect (s : State) (w : FwdWrite) : State :=
  let s := applyWrite s (w.key % 0x1000000) (w.key / 0x1000000) w.value
  if w.own && !w.replied then finishForward s w.slot rcTimeout else s

/-- The writes due in this tick take effect; of two modules' writes the crown holder's comes last (R172). -/
def forwardedEffects (s : State) : State :=
  let due := s.pair.fwd.filter (fun w => w.tick == s.tick)
  let first := due.filter (fun w => w.own != s.holds)
  let last := due.filter (fun w => w.own == s.holds)
  let s := s.withPair (fun p => { p with fwd := p.fwd.filter (fun w => w.tick != s.tick) })
  (first ++ last).foldl forwardEffect s

/-- FORWARDED_WRITE_EFFECT: at the start of tick w + 2 (R172). -/
def execForwardedWriteEffect (s : State) : Host.Outcome State Fault Refusal := .next (forwardedEffects s)

/-! ## MAINT and REPLY (R150) -/

/-- MAINT: the partner's split, verdict self-test or state copy begins or ends. -/
def execMaintMsg (h : StraitHdr) (what : MaintKind) (begins : Bool) (s : State) : Host.Outcome State Fault Refusal :=
  .next (onMsg s h 7 .other true (fun s =>
    let s := s.withPair (fun p => match what with
      | .split => { p with partSplit := begins }
      | .verdict => { p with partVerdict := begins }
      | .stateCopy => { p with partCopy := begins })
    s.straitReply 7 h.seq rcOk))

/-- REPLY to a forwarded write: OK agrees it; any other code ends it, and its command returns the code (R152, R172). -/
def replyForward (s : State) (seq code : Nat) : State :=
  let mine := fun (w : FwdWrite) => w.own && w.seq == seq && !w.replied
  match s.pair.fwd.find? mine with
  | none => s
  | some w =>
    let s := s.withPair (fun p => { p with
      fwd := if code = rcOk then p.fwd.map (fun x => if mine x then { x with replied := true, slot := none } else x)
             else p.fwd.filter (fun x => !mine x) })
    finishForward s w.slot code

/-- REPLY to SWAP_REQ: the swap is void with the code (R165). -/
def replySwap (s : State) (code : Nat) : State :=
  match s.pair.swap with
  | .asked _ slot =>
    let s := s.withPair (fun p => { p with swap := .none })
    match slot with
    | none => s
    | some k => finishWaiting s k 0x30 code []
  | _ => s

/-- REPLY to LOADER: a query that is refused ends the arm with the code (R93, R152). One that refuses LOADER SUB 3, because the
partner's loader has been cancelled since its reply, changes nothing here: this module stays armed alone, and the spec does
not say what happens (DESIGN CHOICE, log entry 137). -/
def replyLoader (s : State) (code : Nat) : State :=
  if s.loader.asking.isSome && code != rcOk then
    (answerWait s 0x24 code []).withLoader (fun l => { l with asking := none })
  else s

/-- REPLY to RESYNC on the joiner: queued behind a scrub, refused, or failed (R169 to R171); a refusal in START while the
core modes differ is the conflict of R87. A DRAM segment that waited for the copy starts with a refusal (R237). -/
def replyResync (s : State) (code : Nat) : State :=
  if s.resync.role != .joiner then s
  else if code = rcQueued then s.setFld F.STRAIT_STATUS.COPY 5
  else if code = rcTimeout || code = rcCheck then resyncFail s code
  else
    let s := if s.mode = stStart && s.power.partnerMode != s.coreMode then modeConflict s s.power.partnerMode else s
    let s := s.setFld F.STRAIT_STATUS.COPY 0
    startQueuedSegment { s with resync := { Resync.initial with retryAt := some (s.tick + retryTicks) } }

/-- REPLY: an answer to FWD_WRITE, LOADER, ROLE or RESYNC; one to MAINT has no effect. A REPLY to RESYNC belongs to the
exchange of R152's third row. -/
def execReply (h : StraitHdr) (type seq code : Nat) (s : State) : Host.Outcome State Fault Refusal :=
  .next (onMsg s h 0x0A (if type = 8 then .resync else .other) false (fun s =>
    if type = 5 then replyForward s seq code
    else if type = 4 then replySwap s code
    else if type = 6 then replyLoader s code
    else if type = 8 then replyResync s code
    else s))

/-- STRAIT_MESSAGE_DISCARD: a message whose bytes have a wrong CRC, LEN or TYPE is counted and has no other effect (R149,
R150); bytes that are a message are received by the command of their own type, and leave the state as it is here. -/
def execStraitMessageDiscard (message : List Byte) (s : State) : Host.Outcome State Fault Refusal :=
  .next (if straitIntact message then s else s.count F.STRAIT_ERR.MSG_CRC 1)

end Sys2Proof.Machine
end

