-- ==== Sys2Proof/Machine/Net.lean ====
section
/-! DEFINITION. The plant and service ports (R193 to R206): links, PROBE, OPEN, and the admission of a COMMAND into its
session's queue. -/

namespace Sys2Proof.Machine

open Sys2Proof

/-! ## Ports (R193) -/

/-- The power domain of a port (R317). -/
def portDomain (p : Nat) : Nat := if p = 0 then 76 else 60 + p

/-- Whether a port takes datagrams: its domain is ON, and no supply-fail warning stands (R318, R322). -/
def portTakes (s : State) (p : Nat) : Bool := s.domOn (portDomain p) && !s.power.warned && !s.power.held

/-- The frames that N00 accepted in the second of an instant (R336; log entry 170). -/
def svcCount (s : State) (ns : DWord) : Nat := if s.svcFrames.1 = ns.toNat / 1000000000 then s.svcFrames.2 else 0

/-- Whether N00 has accepted its 2,000 frames of the second (R336). -/
def svcFull (s : State) (p : Nat) (ns : DWord) : Bool := p == 0 && decide (2000 ≤ svcCount s ns)

/-- A frame received and accepted is counted (NET_PORT_RX), one of N00 in its second too (R336). -/
def portReceived (s : State) (p : Nat) (ns : DWord) : State :=
  let s : State := if p = 0 then { s with svcFrames := (ns.toNat / 1000000000, svcCount s ns + 1) } else s
  s.count (F.NET_PORT_RX.FRAMES.item p) 1

/-- A frame that arrives at a port: nothing where the port takes none, discarded and counted past the limit of N00 (R336),
else accepted. -/
def onFrame (s : State) (p : Nat) (ns : DWord) (f : State → State) : State :=
  if !portTakes s p then s
  else if svcFull s p ns then s.count (F.NET_PORT_DISC.OTHER.item p) 1
  else f (portReceived s p ns)

/-- LINK_UP: a port's link comes up with its speed. -/
def execLinkUp (port speed : Nat) (s : State) : Host.Outcome State Fault Refusal :=
  .next ((s.setFlag (F.NET_PORT_STATUS.LINK.item port) true).setFld (F.NET_PORT_STATUS.SPEED.item port) speed)

/-- LINK_DOWN: the port's sessions close, a reference selected on it is lost (R179, R201). -/
def execLinkDown (port : Nat) (s : State) : Host.Outcome State Fault Refusal :=
  let s := (s.setFlag (F.NET_PORT_STATUS.LINK.item port) false).setFld (F.NET_PORT_STATUS.SPEED.item port) 0
  .next (loseReference (closePort s port) port 2)

/-- DISCARDED_FRAME: counted by kind (R175, R193). -/
def execDiscardedFrame (port : Nat) (ptp : Bool) (s : State) : Host.Outcome State Fault Refusal :=
  .next (s.count (if ptp then F.NET_PORT_DISC.PTP_OPT.item port else F.NET_PORT_DISC.OTHER.item port) 1)

/-- MALFORMED_DATAGRAM: one that fails the test of R195 is discarded without reply and counted. -/
def execMalformedDatagram (datagram : List Byte) (s : State) : Host.Outcome State Fault Refusal :=
  .next (if pletinIntact datagram then s else s.count F.CMD_ERR.MALFORMED 1)

/-! ## PROBE (R198) -/

/-- The 24-byte status block of STATUS (R207). -/
def statusBlock (s : State) : List Byte :=
  d1 s.mode ++ d1 (b2n s.tampered + 2 * b2n (s.flag F.STRAIT_STATUS.IN_STEP)) ++ [0, 0] ++
    beBytes 4 (s.reg A.CROWN_OWN).toNat ++ beBytes 8 s.tick.toNat ++ beBytes 4 (runningSeq s).toNat ++
    d1 (loaderState s) ++ [0, 0, 0]

/-- A PROBE_REPLY (R195, R198). -/
def probeReply (s : State) (port : Nat) (ns : DWord) : Out :=
  .datagram port (pletinHeader 1 0 (Config.replySeq port ns) 0 0 0 24 ++ statusBlock s)

/-- PROBE: answered with the status block, unless it follows the port's previous PROBE within 1 ms (R198). -/
def execProbe (port : Nat) (ns : DWord) (s : State) : Host.Outcome State Fault Refusal :=
  .next (onFrame s port ns (fun s =>
    let soon := match getAt port s.probeAt with
      | none => false
      | some t => decide (sdiff ns t < 1000000)
    let s := { s with probeAt := putAt port ns s.probeAt }
    if soon then s else s.sendNet port (probeReply s port ns)))

/-! ## OPEN (R199 to R201) -/

/-- The next session ID: the counter skips 0 (R201). -/
def nextSessionId (c : Word) : Word := if c + 1 = 0 then 1 else c + 1

/-- Whether the host nonce was accepted for the slot before (R200). -/
def nonceUsed (s : State) (slot : Nat) (nonce : List Byte) : Bool := s.skerry.nonces.any (fun n => n.1 == slot && n.2 == nonce)

/-- The last 64 nonces accepted for each slot, newest first. -/
def keepNonce (slot : Nat) (nonce : List Byte) (xs : List (Nat × List Byte)) : List (Nat × List Byte) :=
  ((slot, nonce) :: xs.filter (fun n => n.1 == slot)).take 64 ++ xs.filter (fun n => n.1 != slot)

/-- The key slot of an operator, when it is enrolled. -/
def keySlotOf (s : State) (slot : Nat) : Option KeySlot := (s.skerry.slots[slot]?).getD none

/-- The payload of an OPEN before its signature, and its header (R195, R199). -/
def openBody (o : OpenMsg) : List Byte := d1 o.keySlot ++ [0, 0, 0] ++ o.nonce ++ o.ephemeral
/-- See `openBody`. -/
def openHeader (o : OpenMsg) : List Byte := pletinHeader 2 0 o.seq o.epoch 0 0 ((openBody o).length + o.signature.length)

/-- Whether the signature of an OPEN verifies under its key slot's key (R199). -/
def openSigOk (s : State) (o : OpenMsg) : Bool :=
  match keySlotOf s o.keySlot with
  | none => false
  | some x => ecdsaOk x.key (sha384 (openHeader o ++ openBody o)) (o.signature.take 48) (o.signature.drop 48)

/-- An OPEN_REPLY (R199). -/
def openReply (port : Nat) (id : Word) (ns : DWord) (payload : List Byte) : Out :=
  .datagram port (pletinHeader 3 id (Config.replySeq port ns) 0 0 0 payload.length ++ payload)

/-- A refused OPEN is answered with its code, and nothing else (R200; log entry 11). -/
def refuseOpen (s : State) (port code : Nat) (ns : DWord) : State := s.sendNet port (openReply port 0 ns (d1 code ++ [0, 0, 0]))

/-- The nonce and the ephemeral public key of the module, free values (R199, log entry 11). -/
def moduleNonce (id : Word) : List Byte := (List.range 16).map (Config.openReplyByte id)
/-- See `moduleNonce`. -/
def moduleEphemeral (id : Word) : List Byte := (List.range 97).map (fun i => Config.openReplyByte id (16 + i))

/-- The payload of the OPEN_REPLY that accepts: code, module nonce, ephemeral key, and a signature with the device key over
the OPEN payload and what precedes it (R199). -/
def acceptBytes (s : State) (id : Word) (o : OpenMsg) : List Byte :=
  let body := d1 rcOk ++ [0, 0, 0] ++ moduleNonce id ++ moduleEphemeral id
  body ++ ecdsaBytes s.skerry.deviceKey (sha384 (openBody o ++ o.signature ++ body))

/-- The session key of both sides: HKDF-SHA-384 of the ECDH secret, salted with both nonces, for PLETIN-CMD and the ID
(R199). -/
def sessionKey (id : Word) (o : OpenMsg) : List Byte :=
  beBytes 32 (Config.hkdf (beBytes 48 (Config.ecdhShared id o.ephemeral).toNat) (o.nonce ++ moduleNonce id)
    ([0x50, 0x4C, 0x45, 0x54, 0x49, 0x4E, 0x2D, 0x43, 0x4D, 0x44] ++ beBytes 4 id.toNat)).toNat

/-- An accepted OPEN takes the lowest free session slot, half-open (R199, R201). -/
def acceptOpen (s : State) (port k : Nat) (o : OpenMsg) : State :=
  let id := nextSessionId s.sessCtr
  let s := { s with
    sessCtr := id
    skerry := { s.skerry with nonces := keepNonce o.keySlot o.nonce s.skerry.nonces } }
  let s := (s.setSess k { Session.free with lastCmd := o.ns, key := sessionKey id o }).setReg (itemKey A.CMD_SESS_ID k) id
  let s := ((s.setReg (itemKey A.CMD_SESS_STATE k) 0).setFld (F.CMD_SESS_STATE.STATE.item k) 1).setFld
    (F.CMD_SESS_STATE.KEY_SLOT.item k) o.keySlot
  let s := (s.setFld (F.CMD_SESS_STATE.PORT.item k) port).setReg (itemKey A.CMD_SESS_H k) 0
  (showSessions s).sendNet port (openReply port id o.ns (acceptBytes s id o))

/-- The sessions on N00, of which four may be open or half-open (R336). -/
def svcSessions (s : State) : Nat := ((List.range 16).filter (fun k => sessState s k != 0 && sessPort s k == 0)).length

/-- The free slot that an OPEN takes, the lowest: none when all 16 are in use, or four of N00 on that port (R200, R201,
R336). -/
def openSlot (s : State) (port : Nat) : Option Nat :=
  if port = 0 ∧ 4 ≤ svcSessions s then none else (List.range 16).find? (fun k => sessState s k == 0)

/-- OPEN: judged in the order of R200. -/
def execOpenSession (port : Nat) (o : OpenMsg) (s : State) : Host.Outcome State Fault Refusal :=
  .next (onFrame s port o.ns (fun s =>
    if s.tamperRefuse then refuseOpen s port rcTamperHold o.ns
    else if !openSigOk s o || nonceUsed s o.keySlot o.nonce then
      refuseOpen (s.count F.CMD_ERR.AUTH 1) port rcAuth o.ns
    else match openSlot s port with
      | none => refuseOpen (s.count F.CMD_ERR.BUSY 1) port rcBusy o.ns
      | some k => acceptOpen s port k o))

/-- HALF_OPEN_TIMEOUT (R201). -/
def execHalfOpenTimeout (slot : Nat) (s : State) : Host.Outcome State Fault Refusal :=
  .next (if sessState s slot = 1 then closeSession s slot else s)

/-- SESSION_IDLE_TIMEOUT (R201). -/
def execSessionIdleTimeout (slot : Nat) (s : State) : Host.Outcome State Fault Refusal :=
  .next (if sessState s slot = 2 then closeSession s slot else s)

/-! ## COMMAND (R202 to R206) -/

/-- A row of the command table (R207): opcode, permission (0 R, 1 O, 2 E), journalled, always role-bound, and the range of
its argument length. -/
def cmdRow (opcode : Nat) : Option (Nat × Bool × Bool × Nat × Nat) :=
  match opcode with
  | 0x01 => some (0, false, false, 0, 0)
  | 0x02 => some (0, true, false, 4, 4)
  | 0x03 => some (0, true, false, 4, 4)
  | 0x10 => some (0, false, false, 9, 9)
  | 0x11 => some (1, true, false, 24, 24)
  | 0x12 => some (0, false, false, 12, 12)
  | 0x13 => some (2, true, false, 13, 12 + 4096)
  | 0x20 => some (2, true, false, 12, 12)
  | 0x21 => some (2, false, false, 13, 12 + 8192)
  | 0x22 => some (2, true, false, 0, 0)
  | 0x23 => some (2, true, false, 0, 0)
  | 0x24 => some (2, true, true, 0, 0)
  | 0x30 => some (1, true, true, 0, 0)
  | 0x31 => some (1, true, false, 0, 0)
  | 0x32 => some (1, true, true, 2, 2)
  | 0x40 => some (1, true, false, 6, 6)
  | 0x41 => some (0, false, false, 4, 4)
  | 0x50 => some (0, false, false, 4, 4)
  | 0x51 => some (1, true, false, 4, 4 + 1878)
  | 0x60 => some (0, false, false, 9, 9)
  | 0x61 => some (0, false, false, 4, 4)
  | 0x62 => some (0, false, false, 13, 13)
  | 0x70 => some (2, true, false, 198, 198)
  | _ => none

/-- The largest argument length of an opcode on a port: N00 takes at most 1,024 data bytes (R194, R203, R207). -/
def argLimit (port opcode hi : Nat) : Nat :=
  if port ≠ 0 then hi
  else if opcode = 0x13 ∨ opcode = 0x21 then 12 + 1024
  else if opcode = 0x51 then 4 + 1024
  else hi

/-- Whether an opcode is journalled (R207). -/
def journalled (opcode : Nat) : Bool := ((cmdRow opcode).map (fun r => r.2.1)).getD false

/-- Whether a command is role-bound: always, or a REG_WRITE whose address lies in a forwarded register, or IMAGE_CANCEL in
ARMED (R207). -/
def roleBound (s : State) (m : CmdMsg) : Bool :=
  ((cmdRow m.opcode).map (fun r => r.2.2.1)).getD false ||
  (m.opcode == 0x11 && decide (regBase ≤ beAt m.payload 0 8) && regForwarded ((beAt m.payload 0 8 - regBase) / 4 * 4)) ||
  (m.opcode == 0x23 && loaderState s == ldArmed)

/-- A NACK: at most 16 a second and port; every such datagram is counted (R202). -/
def sendNack (s : State) (port : Nat) (m : CmdMsg) : State :=
  let s := s.count F.CMD_ERR.AUTH 1
  let sec := m.ns.toNat / 1000000000
  let n : Nat := ((s.nacks.find? (fun e => e.1 == port && e.2.1 == sec)).map (fun e => e.2.2)).getD 0
  if 16 ≤ n then s
  else
    let s := { s with nacks := (port, sec, n + 1) :: s.nacks.filter (fun e => e.1 != port) }
    s.sendNet port (.datagram port (pletinHeader 7 m.session m.seq 0 0 0 1 ++ d1 rcAuth))

/-- A result that leaves at once, from admission. -/
def resultNow (s : State) (k : Nat) (m : CmdMsg) (replay : Bool) (code : Nat) (data : List Byte) : State :=
  (countAnswer s code).sendNet (sessPort s k) (resultOut s k m.seq m.opcode replay code data)

/-- The journal record of a session's SEQ. -/
def recordFor (s : State) (session seq : Word) : Option JRec :=
  s.journal.find? (fun r => r.session == session && r.seq == seq && !r.forwarded && recordOk r)

/-- A sequence number at or below H (R204): the stored result again, nothing while it is not done, else STALE_SEQ. -/
def replayed (s : State) (k : Nat) (m : CmdMsg) : State :=
  match recordFor s (sessId s k) m.seq with
  | none => resultNow s k m false rcStaleSeq []
  | some r =>
    if r.done then
      let n := if r.result != rcOk && r.result != rcQueued then 0 else if r.opcode = 0x24 then 8 else if r.opcode = 0x40 then 4 else 0
      resultNow (journalUpdate s r.jseq (fun r => { r with replayed := true })) k m true r.result (r.resultData.take n)
    else s

/-- The journal record of a command at its acceptance (R210). -/
def newRecord (s : State) (k : Nat) (m : CmdMsg) (done : Bool) (code : Nat) : JRec :=
  { jseq := 0, tick := s.tick, session := sessId s k, seq := m.seq, opcode := m.opcode, result := code, done := done,
    forwarded := false, replayed := false, epoch := s.epoch, keySlot := sessKey s k,
    argDigest := (sha384 m.payload).take 16, resultData := [], chk := 0 }

/-- The epoch check of step 7 (R206): none when it passes. -/
def epochCode (s : State) (m : CmdMsg) : Option Nat :=
  if m.epoch = 0 then (if roleBound s m then some rcCheck else none)
  else if m.epoch = s.epoch then none else some rcRoleChanged

/-- Steps 5 to 8 of R203: sequence, room, epoch, acceptance. -/
def admitCommand (s : State) (k : Nat) (m : CmdMsg) : State :=
  let j := journalled m.opcode
  if j && decide (m.seq ≤ s.reg (itemKey A.CMD_SESS_H k)) then replayed s k m
  else if 8 ≤ (s.sess k).queue.length then resultNow s k m false rcBusy []
  else
    let s := if j then s.setReg (itemKey A.CMD_SESS_H k) m.seq else s
    match epochCode s m with
    | some code => resultNow (if j then journalAppend s (newRecord s k m true code) else s) k m false code []
    | none =>
      let jseq := s.jseq
      let s := if j then journalAppend s (newRecord s k m false 0) else s
      setSessQueue s k ((s.sess k).queue ++ [⟨m.seq, m.opcode, m.payload, if j then some jseq else none, s.epoch, false⟩])

/-- The permission of a session's key slot. -/
def sessPerm (s : State) (k : Nat) : Nat := ((keySlotOf s (sessKey s k)).map (fun x => x.perm)).getD 0

/-- An authenticated command of session `k` (R201, R203): the session is open, steps 2 to 8 follow. -/
def judgeCommand (s : State) (k : Nat) (m : CmdMsg) : State :=
  let s := showSessions ((s.setSess k { s.sess k with lastCmd := m.ns }).setFld (F.CMD_SESS_STATE.STATE.item k) 2)
  if s.tamperRefuse then resultNow s k m false rcTamperHold []
  else match cmdRow m.opcode with
    | none => resultNow s k m false rcCheck []
    | some (perm, _, _, lo, hi) =>
      if m.payload.length < lo || argLimit (sessPort s k) m.opcode hi < m.payload.length then resultNow s k m false rcSize []
      else if sessPerm s k < perm then resultNow s k m false rcAuth []
      else admitCommand s k m

/-- The 20 header bytes of a COMMAND (R195). -/
def cmdHeader (m : CmdMsg) : List Byte := pletinHeader 4 m.session m.seq m.epoch m.flags m.opcode m.payload.length

/-- Whether the tag of a COMMAND verifies under the key of session `k` (R196, R202). -/
def tagOk (s : State) (k : Nat) (m : CmdMsg) : Bool := m.tag == gcmTag (s.sess k).key (cmdHeader m) m.payload

/-- A COMMAND with its payload deciphered (R196). -/
def deciphered (s : State) (k : Nat) (m : CmdMsg) : CmdMsg :=
  { m with payload := gcmMask (s.sess k).key (gcmNonce (cmdHeader m)) m.payload }

/-- COMMAND: steps 1 to 8 of R203. -/
def execCommand (port : Nat) (m : CmdMsg) (s : State) : Host.Outcome State Fault Refusal :=
  .next (onFrame s port m.ns (fun s =>
    match sessOf s m.session with
    | none => sendNack s port m
    | some k => if tagOk s k m then judgeCommand s k (deciphered s k m) else sendNack s port m))

end Sys2Proof.Machine
end

