-- ==== Sys2Proof/Machine/Xfer.lean ====
section
/-! DEFINITION. The transfer engine's units of work (R243 to R258): fetching and checking descriptors, moving one burst or
up to 2 KiB, the running CRC, pacing, ends, the bus timeout, and MEM_READ and MEM_WRITE on channel 31. -/

namespace Sys2Proof.Machine

open Sys2Proof

/-! ## Descriptors (R245, R246) -/

/-- A descriptor from its 32 bytes. -/
def readDescr (bs : List Byte) : Descr :=
  { src := leAt bs 0 8, dst := leAt bs 8 8, len := leAt bs 16 4, ctrl := BitVec.ofNat 32 (leAt bs 20 4),
    next := leAt bs 24 8 }

/-- Whether a request line is one of the table (R248). -/
def lineKnown (l : Nat) : Bool :=
  decide (1 ≤ l ∧ l ≤ 4) || l == 8 || decide (0x10 ≤ l ∧ l ≤ 0x13) || decide (0x18 ≤ l ∧ l ≤ 0x1B) || l == 0x20 ||
  l == 0x21 || l == 0x28

/-- Whether the peripheral of a line is the destination. -/
def lineWrites (l : Nat) : Bool := decide (0x18 ≤ l ∧ l ≤ 0x1B) || l == 0x20 || l == 0x28

/-- Whether an address lies in register space. -/
def inRegs (a : Nat) : Bool := decide (regBase ≤ a) && decide (a < regBase + 0x1000000)

/-- Whether a descriptor may stand at an address: 32-byte aligned, in SRAM or DRAM. -/
def descrPlace (a : Nat) : Bool :=
  a % 32 == 0 && (match memRange a with
    | some (.sram, _) => true
    | some (.dram, _) => true
    | _ => false)

/-- DST_FIX and SRC_FIX. -/
def Descr.dstFix (d : Descr) : Bool := bit d.ctrl 4
def Descr.srcFix (d : Descr) : Bool := bit d.ctrl 3

/-- The checks before a descriptor executes (R246). -/
def descrOk (d : Descr) : Bool :=
  getBits d.ctrl 23 20 == 0 && getBits d.ctrl 15 8 == 0 && getBits d.ctrl 2 0 == 0 &&
  decide (1 ≤ d.len) && decide (d.len ≤ 1073741824) && decide (getBits d.ctrl 19 16 ≤ 4) &&
  (d.req == 0 || lineKnown d.req) && (d.next == 0 || descrPlace d.next) &&
  (!d.srcFix || inRegs d.src) && (!d.dstFix || inRegs d.dst) &&
  (!inRegs d.src || d.src % 4 == 0) && (!inRegs d.dst || d.dst % 4 == 0) &&
  (!(inRegs d.src || inRegs d.dst) || d.len % 4 == 0)

/-- Whether a descriptor runs in descending order (R254). -/
def Descr.descends (d : Descr) : Bool :=
  !d.srcFix && !d.dstFix && decide (d.src < d.dst) && decide (d.dst < d.src + d.len)

/-! ## Sides -/

/-- Where a channel's bytes come from or go to. -/
inductive XSide where
  | mem (a : Nat)
  | reg (a : Nat) (fix : Bool)
  | line (l a : Nat) (fix : Bool)
  | buffer
deriving DecidableEq, Repr

/-- An address as a side. -/
def addrSide (a : Nat) (fix : Bool) : XSide := if inRegs a then .reg (a - regBase) fix else .mem a

/-- The source of a channel's descriptor; on channel 31 the bytes of a MEM_WRITE. -/
def srcSide (c : Nat) (x : XferCh) (d : Descr) : XSide :=
  if c == 31 && x.write then .buffer
  else if d.req != 0 && !lineWrites d.req then .line d.req d.src d.srcFix
  else addrSide d.src d.srcFix

/-- The destination of a channel's descriptor; on channel 31 the result of a MEM_READ. -/
def dstSide (c : Nat) (x : XferCh) (d : Descr) : XSide :=
  if c == 31 && !x.write then .buffer
  else if d.req != 0 && lineWrites d.req then .line d.req d.dst d.dstFix
  else addrSide d.dst d.dstFix

/-- The first refused address of a range of memory. -/
def memRefused (s : State) (c a len : Nat) (write : Bool) : Option (Nat × Nat) :=
  (memJudge s (32 + c) a len write).map (fun why => (a, why))

/-- The first refused address of registers from offset `a`, each judged by R238. -/
def regsRefused (s : State) (c a n : Nat) (write : Bool) : Option (Nat × Nat) :=
  match memJudge s (32 + c) (regBase + a) n write with
  | some why => some (regBase + a, why)
  | none => (List.range (n / 4)).findSome? (fun i =>
      (regJudge s (.channel c) (a + 4 * i) 4 write).map (fun why => (regBase + a + 4 * i, why.2)))

/-- The first refused address of a side over its exact range, with the cause (R228, R230, R238, R241, R249, R253). The address
of a peripheral is judged like any other (R244); a flash line serves only its owner, which runs no descriptors. -/
def sideRefused (s : State) (c len : Nat) (write : Bool) : XSide → Option (Nat × Nat)
  | .mem a => memRefused s c a len write
  | .reg a fix => regsRefused s c a (if fix then 4 else len) write
  | .line l a fix =>
    if 0x20 ≤ l then some (a, 3)
    else if inRegs a then regsRefused s c (a - regBase) (if fix then 4 else len) write
    else memRefused s c a len write
  | .buffer => none

/-- The first uncorrectable place of a side in a unit, and how many bytes come before it in the order of the move. Of a
destination only partly written words count (R231, R232, R253): of a free-running descriptor those at the ends of its
range of `len` bytes, of a paced one those at the ends of a burst. -/
def sideBad (s : State) (desc write paced : Bool) (len off n : Nat) : XSide → Option (MemPlace × Nat)
  | .mem a =>
    let lo := a + off
    let hi := lo + n
    let from_ := if paced then lo else a
    let to_ := if paced then hi else a + len
    let hits := s.bad.filterMap (fun p => match p with
      | .addr w =>
        if lo / 8 ≤ w ∧ w ≤ (hi - 1) / 8 ∧ !(write && decide (from_ ≤ 8 * w) && decide (8 * w + 8 ≤ to_)) then
          some (p, if desc then hi - (8 * w + 8) else 8 * w - lo)
        else none
      | _ => none)
    hits.foldl (fun best h => match best with
      | none => some h
      | some b => if h.2 < b.2 then some h else some b) none
  | _ => none

/-- The address of a register or a peripheral whose unit does not answer at descriptor offset `off` (R257). -/
def sideAnswers (s : State) (off : Nat) : XSide → Option Nat
  | .reg a fix =>
    let w := if fix then a else a + off
    if unitAnswers s w then none else some (regBase + w)
  | .line _ a fix =>
    let w := if fix then a else a + off
    if !inRegs w || unitAnswers s (w - regBase) then none else some w
  | _ => none

/-- Filler bytes of a peripheral that cannot serve a beat (R270, R307). -/
def fillerBytes (n : Nat) : List Byte := ((List.replicate (n / 2 + 1) ([0x00, 0x80] : List Byte)).flatten).take n

/-- Take `n` bytes from a peripheral (R248). -/
def linePull (s : State) (l n : Nat) : List Byte × State :=
  if l = 8 then ((List.range n).map (Config.resultBlockByte s.now), s)
  else if l < 8 then
    let g := l - 1
    let x := s.grp g
    let bs := x.fifo.take n
    (bs ++ fillerBytes (n - bs.length), s.setGrp g { x with fifo := x.fifo.drop n })
  else
    let k := l - 0x10
    let q := s.serLine k
    let bs := ((q.rx.take (n / 2)).map (fun e => leBytes 2 e.toNat)).flatten
    (bs ++ fillerBytes (n - bs.length), putSer s k { q with rx := q.rx.drop (n / 2) })

/-- Read `n` bytes of a side at descriptor offset `off`. -/
def sideRead (s : State) (c off n : Nat) : XSide → List Byte × State
  | .mem a => ((List.range n).map (fun i => memByte s (a + off + i)), s)
  | .reg a fix =>
    let (v, s) := readReg s (.channel c) (if fix then a else a + off) 0 4
    (leBytes 4 v.toNat, s)
  | .line l _ _ => linePull s l n
  | .buffer => (((s.chan c).got.drop off).take n, s)

/-- Write bytes of a side at descriptor offset `off`. -/
def sideWrite (s : State) (c off : Nat) (bs : List Byte) : XSide → State
  | .mem a => storeBytes s (a + off) bs
  | .reg a fix => writeReg s (if fix then a else a + off) (BitVec.ofNat 32 (leVal bs)) none
  | .line l _ _ => bs.foldl (serPut (l - 0x18)) s
  | .buffer => s.setChan c { s.chan c with got := (s.chan c).got ++ bs }

/-! ## Moving -/

/-- How a unit's moving ended. -/
inductive UnitEnd where
  | ok
  | memory (p : MemPlace)
  | bus (a : Nat)
deriving DecidableEq, Repr

/-- Bytes are read: the running CRC takes them in the order read (R255). -/
def noteRead (s : State) (c : Nat) (d : Descr) (bs : List Byte) : State :=
  let key := itemKey A.XFER_CH_CRC c
  if bit d.ctrl 5 then s.setReg key (crcFrom crc32Poly (s.reg key) (if d.descends then bs.reverse else bs)) else s

/-- `n` bytes are written, and REMAIN counts down. -/
def noteWritten (s : State) (c : Nat) (d : Descr) (n : Nat) : State :=
  let x := s.chan c
  let s := s.setChan c { x with moved := x.moved + n }
  s.setReg (itemKey A.XFER_CH_REMAIN c) (BitVec.ofNat 32 (d.len - (x.moved + n)))

/-- Bytes of a side from its last word boundary to the place, `off` from its start, at which a move goes on (R244, R254). -/
def sideAlign (down : Bool) (off : Nat) : XSide → Nat
  | .mem a => if down then (8 - (a + off) % 8) % 8 else (a + off) % 8
  | _ => 0

/-- How far a unit of `n` bytes comes before a pre-emption after `b` beats, `m` bytes of its descriptor having been moved: the
bytes read, whole source words of which `h` bytes stand in the buffer before, and of them those that fill destination words
(R244, R252). -/
def cutAt (c : Nat) (x : XferCh) (d : Descr) (n : Nat) (b : Option Nat) : Nat × Nat :=
  let h := x.buf.length
  let edge := fun (k : Nat) => if d.descends then d.len - k else k
  match b with
  | none => (n, n)
  | some b =>
    let r := min n (h + (8 * b - sideAlign d.descends (edge (x.moved + h)) (srcSide c x d)))
    if r = n then (n, n)
    else (r, r - (sideAlign d.descends (edge x.moved) (dstSide c x d) + r) % 8)

/-- The bytes that the buffer and a source hold next, in ascending order. -/
def withBuffer (down : Bool) (buf bs : List Byte) : List Byte := if down then bs ++ buf else buf ++ bs

/-- Move a unit of `n` bytes between sides that hold bytes, or what of it comes before a pre-emption after `b` beats: then the
buffer keeps the bytes read and not written, and the running CRC is ahead of them (R252, R255). -/
def moveBytes (s : State) (c : Nat) (d : Descr) (n : Nat) (b : Option Nat) : State × UnitEnd :=
  let x := s.chan c
  let h := x.buf.length
  let down := d.descends
  let off := fun (m k : Nat) => if down then d.len - m - k else m
  let paced := d.req != 0
  let (r, w) := cutAt c x d n b
  let ahead := (sideBad s down false paced d.len (off (x.moved + h) (r - h)) (r - h) (srcSide c x d)).map
    (fun (e : MemPlace × Nat) => (e.1, h + e.2))
  let bad := match ahead, sideBad s down true paced d.len (off x.moved w) w (dstSide c x d) with
    | none, b => b
    | a, none => a
    | some a, some b => if b.2 < a.2 then some b else some a
  let (r, w) := match bad with
    | none => (r, w)
    | some b => (b.2, b.2)
  let (bs, s) := if r - h = 0 then (([] : List Byte), s)
    else
      let (bs, s) := sideRead s c (off (x.moved + h) (r - h)) (r - h) (srcSide c x d)
      (bs, noteRead s c d bs)
  let all := withBuffer down x.buf bs
  let out := if down then all.drop (all.length - w) else all.take w
  let s := if w = 0 then s else noteWritten (sideWrite s c (off x.moved w) out (dstSide c x d)) c d w
  let s := s.setChan c { s.chan c with buf := if down then all.take (all.length - w) else all.drop w }
  (s, match bad with
    | none => .ok
    | some b => .memory b.1)

/-- A destination word of which a descriptor has now written all bytes, `m` of them having been moved, gets new check bits though
it was written in two accesses (R231, R232). -/
def healWritten (s : State) (c : Nat) (d : Descr) (x : XSide) : State :=
  match x with
  | .mem a =>
    let m := (s.chan c).moved
    let lo := if d.descends then a + d.len - m else a
    let hi := if d.descends then a + d.len else a + m
    { s with bad := s.bad.filter (fun p => match p with
      | .addr w => !(decide (lo ≤ 8 * w) && decide (8 * w + 8 ≤ hi))
      | _ => true) }
  | _ => s

/-- Move words one by one, where a side lies in register space; overlapping ranges by R254. -/
def moveWords (c : Nat) (d : Descr) : Nat → State → State × UnitEnd
  | 0, s => (s, .ok)
  | k + 1, s =>
    let x := s.chan c
    let src := srcSide c x d
    let dst := dstSide c x d
    let off := if d.descends then d.len - x.moved - 4 else x.moved
    match sideAnswers s off src, sideAnswers s off dst with
    | some a, _ => (s, .bus a)
    | none, some a => (s, .bus a)
    | none, none =>
      match sideBad s false false (d.req != 0) d.len off 4 src, sideBad s false true (d.req != 0) d.len off 4 dst with
      | some b, _ => (s, .memory b.1)
      | none, some b => (s, .memory b.1)
      | none, none =>
        let (bs, s) := sideRead s c off 4 src
        moveWords c d k (healWritten (noteWritten (noteRead (sideWrite s c off bs dst) c d bs) c d 4) c d dst)

/-- Whether a side lies in register space. -/
def XSide.isReg : XSide → Bool
  | .reg _ _ => true
  | _ => false

/-- The bytes of the next unit: what a stop or a pre-emption left of one, one burst, or up to 2 KiB that end with a whole word of
the destination (R232, R248, R251). A beat is 8 bytes, in register space 4 (R244). -/
def unitBytes (s : State) (c : Nat) (d : Descr) : Nat :=
  let x := s.chan c
  let left := d.len - x.moved
  if x.burst ≠ 0 then min left x.burst
  else if d.req = 0 then
    min left (2048 - sideAlign d.descends (if d.descends then d.len - x.moved else x.moved) (dstSide c x d))
  else min left ((if 0x20 ≤ d.req then 4 else 8) * d.beats)

/-- Whether a peripheral keeps its request raised (R249, R270, R307, R308). -/
def lineAsserted (s : State) (l : Nat) : Bool :=
  if 1 ≤ l ∧ l ≤ 4 then convRequests s (l - 1)
  else if 0x10 ≤ l ∧ l ≤ 0x13 then rxRequests s (l - 0x10)
  else if 0x18 ≤ l ∧ l ≤ 0x1B then txRequests s (l - 0x18)
  else if l = 0x20 then (flashLeft s).isSome && s.fld F.CFG_STATUS.STEP == 5
  else if l = 0x21 then (flashLeft s).isSome && s.fld F.CFG_STATUS.STEP == 6
  else if l = 0x28 then !s.recorder.queue.isEmpty
  else false

/-- A channel waits for its line, or is READY when the line is raised. -/
def awaitLine (s : State) (c : Nat) (l : Nat) : State :=
  let up := lineAsserted s l
  setChState (s.setChan c { s.chan c with request := up }) c (if up then chReady else chWait)

/-- A chain completes: channel 31 answers its command (R207, R256). -/
def chainDone (s : State) (c : Nat) : State :=
  let x := s.chan c
  let s := channelDone s c
  match x.slot with
  | none => s
  | some k => finishMem (s.setChan c XferCh.idle) k rcOk (if x.write then [] else x.got)

/-- A descriptor is complete: NOTE, then the next of its chain (R245, R247). -/
def descrDone (s : State) (c : Nat) (d : Descr) : State :=
  let s := if bit d.ctrl 7 then s.note (F.XFER_CH_STATUS.NOTE.item c) else s
  if d.next = 0 then chainDone s c
  else
    let s := s.setDword (itemKey A.XFER_CH_DESC_LO c) (BitVec.ofNat 64 d.next)
    setChState (s.setChan c { s.chan c with desc := none, moved := 0, request := false }) c chReady

/-- A bus timeout: the channels stop, and a state copy fails with them (R171, R257). -/
def busFailed (s : State) (a : Nat) : State :=
  let s := busStop s a
  if copyRuns s then resyncFail s rcTimeout else s

/-- What follows a unit: the end of its descriptor, the next wait, or an end with a code. -/
def afterUnit (s : State) (c : Nat) (d : Descr) : UnitEnd → State
  | .memory p => channelError (s.memError p) c endMemory
  | .bus a => busFailed s a
  | .ok =>
    if (s.chan c).abort then channelError s c endAbort
    else if d.len ≤ (s.chan c).moved then descrDone s c d
    else if d.req = 0 then setChState s c chReady
    else awaitLine s c d.req

/-- PRIO of a channel. -/
def chanHigh (s : State) (c : Nat) : Bool := s.flag (F.XFER_CH_CTRL.PRIO.item c)

/-- After how many beats of a unit of channel `c` a pre-emption comes: in RECOVERY mode, of a normal-priority channel, by a
high-priority one that waits for its request, which rises after that many beats (R252). -/
def preemptAfter (s : State) (c : Nat) (preempt : Option (Nat × Nat)) : Option Nat :=
  match preempt with
  | none => none
  | some (b, h) =>
    if recoveryMode s && !chanHigh s c && decide (0 < b) && chanHigh s h && chState s h == chWait then some b else none

/-- The high-priority channel that pre-empts is READY. -/
def preemptor (s : State) (preempt : Option (Nat × Nat)) : State :=
  match preempt with
  | none => s
  | some (_, h) => setChState (s.setChan h { s.chan h with request := true }) h chReady

/-- The bytes of a unit of `n` bytes that are moved before a pre-emption, by beats of 4 bytes. -/
def wordsCut (n : Nat) : Option Nat → Nat
  | none => n
  | some b => min n (4 * b)

/-- What is left of a unit of `n` bytes that began with `m` bytes moved. -/
def setBurst (s : State) (c m n : Nat) : State :=
  s.setChan c { s.chan c with burst := n - ((s.chan c).moved - m) }

/-- The DRAM word of a side at a place, where the device may report address parity (R231). -/
def dramPlace (off : Nat) : XSide → Option MemPlace
  | .mem a => if dramBase ≤ a + off ∧ a + off < dramEnd then some (.addr ((a + off) / 8)) else none
  | _ => none

/-- The place of the DRAM access of a unit, of its source or else of its destination. -/
def parityPlace (c : Nat) (x : XferCh) (d : Descr) : Option MemPlace :=
  let off := if d.descends then d.len - x.moved - 1 else x.moved
  (dramPlace off (srcSide c x d)).or (dramPlace off (dstSide c x d))

/-- One unit of a channel with a descriptor, up to a pre-emption (R252). An address parity that DRAM reports twice is an
uncorrectable error (R231). -/
def runUnit (s : State) (c : Nat) (d : Descr) (up : UnitUpset) (preempt : Option (Nat × Nat)) : State :=
  let x := s.chan c
  match sideRefused s c d.len false (srcSide c x d), sideRefused s c d.len true (dstSide c x d) with
  | some r, _ => channelError (guardRefuse s (32 + c) r.1 false r.2) c endGuard
  | none, some r => channelError (guardRefuse s (32 + c) r.1 true r.2) c endGuard
  | none, none =>
    if up.buffer then channelError s c endParity
    else match (if up.address then parityPlace c x d else none) with
      | some p => afterUnit s c d (.memory p)
      | none =>
        match (sideAnswers s x.moved (srcSide c x d)).or (sideAnswers s x.moved (dstSide c x d)) with
        | some a => afterUnit s c d (.bus a)
        | none =>
          let n := unitBytes s c d
          let b := preemptAfter s c preempt
          let words := (srcSide c x d).isReg || (dstSide c x d).isReg
          let s := s.setChan c { x with request := false }
          let (s, e) := if words then moveWords c d (wordsCut n b / 4) s else moveBytes s c d n b
          let s := setBurst s c x.moved n
          if e = .ok ∧ (s.chan c).burst ≠ 0 then preemptor (setChState s c chPreempted) preempt
          else afterUnit s c d e

/-! ## Units of the channels that their owners drive (R243, R249)

A burst of channel 25 is one record, of channel 26 sixteen words. One that is pre-empted has its effect when it completes. -/

/-- A burst of `n` bytes through a flash port: pre-empted after some beats, or performed, with an ABORT that waited for its
end (R248, R252, R258). -/
def portBurst (s : State) (c n : Nat) (preempt : Option (Nat × Nat)) (f : State → State) : State :=
  let n := if (s.chan c).burst ≠ 0 then (s.chan c).burst else n
  let k := wordsCut n (preemptAfter s c preempt)
  if k < n then preemptor (setChState (s.setChan c { s.chan c with burst := n - k }) c chPreempted) preempt
  else
    let stop := (s.chan c).abort
    let s := f (setChState (s.setChan c { s.chan c with burst := 0 }) c chActive)
    if stop then channelError s c endAbort else s

/-- The recorder's channel 25: one record of its queue, in which the chain ends with the last one (R313). -/
def recorderUnit (s : State) (preempt : Option (Nat × Nat)) : State :=
  let s := if ownerRuns s 25 then s else ownerStart s 25
  portBurst s 25 64 preempt (fun s =>
    let s := writeFront s
    if s.recorder.queue.isEmpty then ownerDone s 25 else s)

/-- The configuration store's channel 26: the next sixteen words of the step (R224, R249). -/
def flashUnit (s : State) (preempt : Option (Nat × Nat)) : State :=
  match flashLeft s with
  | none => s
  | some (o, left) => portBurst s 26 (min left 64) preempt (fun s => flashBurst s o (min left 64))

/-- The loader's channel 27: the layout that a bus stop held up (R95, R257). -/
def layoutUnit (s : State) : State :=
  match s.loader.img with
  | none => ownerStop s 27
  | some im => ownerDone (layOut s im) 27

/-- Take up the next descriptor of a chain (R244 to R247): its limit, its place, its fetch, its checks. -/
def fetchDescr (s : State) (c : Nat) : Except State (State × Descr) :=
  let a := (s.dword (itemKey A.XFER_CH_DESC_LO c)).toNat
  let n := s.fld (F.XFER_CH_STATUS.COUNT.item c)
  if s.fld (F.XFER_CH_CFG.DESC_LIMIT.item c) ≤ n then .error (channelError s c endLoop)
  else if (memRange a).isNone then .error (channelError (guardRefuse s (32 + c) a false 3) c endGuard)
  else if !descrPlace a then .error (channelError s c endDesc)
  else match memJudge s (32 + c) a 32 false with
    | some why => .error (channelError (guardRefuse s (32 + c) a false why) c endGuard)
    | none => match readMem s a 32 with
      | .error p => .error (channelError (s.memError p) c endMemory)
      | .ok bs =>
        let d := readDescr bs
        if !descrOk d then
          .error (channelError (s.setReg (itemKey A.XFER_CH_REMAIN c) (BitVec.ofNat 32 d.len)) c endDesc)
        else
          let s := (s.setFld (F.XFER_CH_STATUS.COUNT.item c) (n + 1)).setFlag (F.XFER_CH_STATUS.DIR.item c) d.descends
          let s := s.setReg (itemKey A.XFER_CH_REMAIN c) (BitVec.ofNat 32 d.len)
          let s := if bit d.ctrl 6 then s else s.setReg (itemKey A.XFER_CH_CRC c) 0xFFFFFFFF
          .ok (s.setChan c { s.chan c with desc := some d, moved := 0, request := false }, d)

/-- The turn of a channel: its descriptor is taken up where none is; a paced one without a request waits (R248). -/
def channelTurn (s : State) (c : Nat) (up : UnitUpset) (preempt : Option (Nat × Nat)) : State :=
  if c = 25 then recorderUnit s preempt
  else if c = 26 then flashUnit s preempt
  else if c = 27 then layoutUnit s
  else if c = 28 then copyUnit s
  else match (s.chan c).desc with
  | some d => runUnit s c d up preempt
  | none =>
    match fetchDescr s c with
    | .error s => s
    | .ok (s, d) => if d.req = 0 || lineAsserted s d.req then runUnit s c d up preempt else awaitLine s c d.req

/-! ## Arbitration (R250 to R252) -/

/-- Whether a channel is ready: one that its unit drives while it has something to move (R243, R313). -/
def chanReady (s : State) (c : Nat) : Bool :=
  if c = 25 then !s.recorder.queue.isEmpty
  else if c = 26 then (flashLeft s).isSome
  else if c = 27 then chState s 27 == chActive
  else if c = 28 then copyWaits s
  else chState s c == chReady

/-- The next channel: round-robin after the one that ran last; in RECOVERY a high-priority channel goes first; a pre-empted one
goes on before any other (R251, R252). -/
def nextChannel (s : State) : Option Nat :=
  let last := s.fld F.XFER_STATUS.CHANNEL
  let order := (List.range 32).map (fun i => (last + 1 + i) % 32)
  let ready := order.filter (chanReady s)
  match (if recoveryMode s then ready.find? (chanHigh s) else none) with
  | some c => some c
  | none => match order.find? (fun c => chState s c == chPreempted) with
    | some c => some c
    | none => ready.head?

/-- UNIT_OF_WORK (R251): nothing moves during a bus stop (R257). -/
def execUnitOfWork (upset : UnitUpset) (preempt : Option (Nat × Nat)) (s : State) : Host.Outcome State Fault Refusal :=
  if busStopped s then .next s
  else match nextChannel s with
    | none => .next s
    | some c => .next (channelTurn (s.setFld F.XFER_STATUS.CHANNEL c) c upset preempt)

/-- PERIPHERAL_REQUEST: a converter group's samples enter its FIFO; a raised line makes its channel ready (R248, R270). -/
def execPeripheralRequest (line : Nat) (samples : List Int) (s : State) : Host.Outcome State Fault Refusal :=
  let s := if 1 ≤ line ∧ line ≤ 4 then convSamples s (line - 1) samples else s
  .next (if lineAsserted s line || line == 8 then raiseLine s line else s)

/-- BUS_TIMEOUT: an access of a channel is not answered (R257); a state copy fails with it (R171). -/
def execBusTimeout (addr : DWord) (s : State) : Host.Outcome State Fault Refusal :=
  if (List.range 32).all (fun c => chAtRest s c || chState s c == chStopped) then .next s
  else .next (busFailed s addr.toNat)

/-! ## MEM_READ and MEM_WRITE (R207) -/

/-- A memory command of session `k` starts on channel 31; a malformed register-space range ends with DESC (R246). -/
def startMemCommand (s : State) (k a n : Nat) (write : Bool) (data : List Byte) : State :=
  let d : Descr := ⟨a, a, n, 0, 0⟩
  let s := channelStart s 31
  let s := ((s.setFld (F.XFER_CH_STATUS.COUNT.item 31) 1).setReg (itemKey A.XFER_CH_REMAIN 31) (BitVec.ofNat 32 n)).setReg
    (itemKey A.XFER_CH_CRC 31) 0xFFFFFFFF
  let s := s.setChan 31 { XferCh.idle with desc := some d, slot := some k, write := write, got := data }
  if inRegs a && (a % 4 != 0 || n % 4 != 0) then channelError s 31 endDesc else s

end Sys2Proof.Machine
end

