-- ==== Sys2Proof/Machine/HostCmd.lean ====
section
/-! DEFINITION. The host commands beside image staging and maintenance (R207): each executes the command at the front of its
session's queue (R203 step 9). -/

namespace Sys2Proof.Machine

open Sys2Proof

/-! ## Sessions -/

/-- STATUS. -/
def execStatusCmd (slot : Nat) (s : State) : Host.Outcome State Fault Refusal :=
  .next (onCommand s slot 0x01 (fun _ => finishCommand s slot rcOk (statusBlock s)))

/-- SESSION_CLOSE: the own session after its result, another one of the same key slot at once (R207). -/
def execSessionClose (slot : Nat) (s : State) : Host.Outcome State Fault Refusal :=
  .next (onCommand s slot 0x02 (fun q =>
    let id : Word := BitVec.ofNat 32 (beAt q.payload 0 4)
    if id = 0 ∨ id = sessId s slot then closeSession (finishCommand s slot rcOk []) slot
    else match sessOf s id with
      | none => finishCommand s slot rcState []
      | some k =>
        if sessKey s k = sessKey s slot then finishCommand (closeSession s k) slot rcOk []
        else finishCommand s slot rcAuth []))

/-- EVENT_SUBSCRIBE (R209). -/
def execEventSubscribe (slot : Nat) (s : State) : Host.Outcome State Fault Refusal :=
  .next (onCommand s slot 0x03 (fun q =>
    finishCommand (s.setSess slot { s.sess slot with mask := BitVec.ofNat 32 (beAt q.payload 0 4) }) slot rcOk []))

/-! ## Registers (R238) -/

/-- Whether a width is one of a register access. -/
def widthOk (n : Nat) : Bool := n == 1 || n == 2 || n == 4 || n == 8

/-- The checks of a host's register access: width, then the orders of R238, then the block's domain (R317). -/
def hostRegCheck (s : State) (slot a n : Nat) (write : Bool) : Option (State × Nat) :=
  if !widthOk n then some (s, rcSize)
  else if !inRegs a then some (guardRefuse s 63 a write 3, rcGuard)
  else match regJudge s (.session slot) (a - regBase) n write with
    | some why => some (regRefused s (.session slot) (a - regBase) write why, why.1)
    | none => if unitAnswers s (a - regBase) then none else some (s, rcTimeout)

/-- REG_READ. -/
def execRegRead (slot : Nat) (s : State) : Host.Outcome State Fault Refusal :=
  .next (onCommand s slot 0x10 (fun q =>
    let a := beAt q.payload 0 8
    let n := u8At q.payload 8
    match hostRegCheck s slot a n false with
    | some (s, code) => finishCommand s slot code []
    | none =>
      let (v, s) := readBytes s (.session slot) (a - regBase) n
      finishCommand s slot rcOk (beBytes 8 v)))

/-- Whether a forwarded write waits for the partner's REPLY: a tick runs and the module is one of a pair (R172). -/
def awaitsPartner (s : State) : Bool := s.ticking && s.paired

/-- REG_WRITE: of a forwarded register in a pair the result waits for the partner (R172). -/
def execRegWrite (slot : Nat) (s : State) : Host.Outcome State Fault Refusal :=
  .next (onCommand s slot 0x11 (fun q =>
    let a := beAt q.payload 0 8
    let n := u8At q.payload 8
    match hostRegCheck s slot a n true with
    | some (s, code) => finishCommand s slot code []
    | none =>
      let v := beAt q.payload 16 8
      if regForwarded (a - regBase) && awaitsPartner s then writeBytes (holdCommand s slot) (a - regBase) n v (some slot)
      else finishCommand (writeBytes s (a - regBase) n v none) slot rcOk []))

/-! ## Memory (R207, R239) -/

/-- The largest length of a host's memory command on its port (R194). -/
def memLimit (s : State) (slot : Nat) : Nat := if sessPort s slot = 0 then 1024 else 4096

/-- A MEM command runs on channel 31 when that channel is free. -/
def memCommand (s : State) (slot : Nat) (q : QCmd) (write : Bool) : State :=
  let n := beAt q.payload 8 4
  let data := q.payload.drop 12
  if n = 0 || memLimit s slot < n || (write && data.length != n) then finishCommand s slot rcSize []
  else if chAtRest s 31 then startMemCommand (holdCommand s slot) slot (beAt q.payload 0 8) n write (if write then data else [])
  else s

/-- MEM_READ. -/
def execMemRead (slot : Nat) (s : State) : Host.Outcome State Fault Refusal :=
  .next (onCommand s slot 0x12 (fun q => memCommand s slot q false))

/-- MEM_WRITE. -/
def execMemWrite (slot : Nat) (s : State) : Host.Outcome State Fault Refusal :=
  .next (onCommand s slot 0x13 (fun q => memCommand s slot q true))

/-! ## Roles and tasks -/

/-- ROLE_SWAP (R165). -/
def execRoleSwap (slot : Nat) (s : State) : Host.Outcome State Fault Refusal :=
  .next (onCommand s slot 0x30 (fun _ =>
    if swapAllowed s then sendSwapReq (holdCommand s slot) (some slot) else finishCommand s slot rcState []))

/-- SAFE_REQUEST: SAFE at the next guard window (R32). -/
def execSafeRequest (slot : Nat) (s : State) : Host.Outcome State Fault Refusal :=
  .next (onCommand s slot 0x31 (fun _ => finishCommand (requestSafe s 8) slot rcOk []))

/-- TASK_ENABLE: a forwarded write of CORE_TASK_EN for the task (R70, R172). -/
def execTaskEnable (slot : Nat) (s : State) : Host.Outcome State Fault Refusal :=
  .next (onCommand s slot 0x32 (fun q =>
    let i := beAt q.payload 0 2
    if (taskRec s i).isNone then finishCommand s slot rcNoImage []
    else if awaitsPartner s then forwardWrite (holdCommand s slot) A.CORE_TASK_EN i 0x5A3C0001 (some slot)
    else finishCommand (forwardWrite s A.CORE_TASK_EN i 0x5A3C0001 none) slot rcOk []))

/-! ## Stations (R146, R207) -/

/-- One acyclic transaction with a station of the running image; UNTRACKED for a number of 64 or more (R141), NO_IMAGE for a
station that the image does not hold. -/
def stationCommand (s : State) (slot : Nat) (q : QCmd) (write : Bool) : State :=
  let ring := u8At q.payload 0
  let station := u8At q.payload 1
  let data := q.payload.drop 4
  if 64 ≤ station then finishCommand s slot rcUntracked []
  else if sessPort s slot = 0 && decide (1024 < data.length) then finishCommand s slot rcSize []
  else if !(ringStations s ring).any (fun x => x.station == station) then finishCommand s slot rcNoImage []
  else askStation (holdCommand s slot) ring (b2n write) station (slice q.payload 2 2 ++ data) (.host slot write)

/-- STN_READ. -/
def execStnRead (slot : Nat) (s : State) : Host.Outcome State Fault Refusal :=
  .next (onCommand s slot 0x50 (fun q => stationCommand s slot q false))

/-- STN_WRITE. -/
def execStnWrite (slot : Nat) (s : State) : Host.Outcome State Fault Refusal :=
  .next (onCommand s slot 0x51 (fun q => stationCommand s slot q true))

/-! ## Recorder and journal (R210, R211, R315) -/

/-- The largest record count on a session's port (R194). -/
def countLimit (s : State) (slot : Nat) : Nat := if sessPort s slot = 0 then 16 else 64

/-- EVR_READ. -/
def execEvrRead (slot : Nat) (s : State) : Host.Outcome State Fault Refusal :=
  .next (onCommand s slot 0x60 (fun q =>
    let first := beAt q.payload 0 8
    let n := u8At q.payload 8
    if n = 0 || countLimit s slot < n || s.nextIndex ≤ first then finishCommand s slot rcSize []
    else
      let (bytes, s) := readRecords s first n
      finishCommand s slot rcOk bytes))

/-- JNL_QUERY: journal bounds, the session's highest SEQ and record count, whether it is open. -/
def journalQuery (s : State) (id : Word) : List Byte :=
  let mine := s.journal.filter (fun r => r.session == id)
  let oldest := ((s.journal.filter recordOk).getLast?.map (fun r => r.jseq)).getD s.jseq
  let top := mine.foldl (fun n r => max n r.seq.toNat) 0
  let isOpen := ((sessOf s id).map (fun k => sessState s k == 2)).getD false
  beBytes 8 oldest.toNat ++ beBytes 8 s.jseq.toNat ++ beBytes 4 top ++ beBytes 4 mine.length ++ d1 (b2n isOpen) ++ [0, 0, 0]

/-- JNL_QUERY. -/
def execJnlQuery (slot : Nat) (s : State) : Host.Outcome State Fault Refusal :=
  .next (onCommand s slot 0x61 (fun q =>
    finishCommand s slot rcOk (journalQuery s (BitVec.ofNat 32 (beAt q.payload 0 4)))))

/-- The records that JNL_READ returns, oldest first: those held from the JSEQ named on, or from the SEQ named on of its session
(R207; log entry 171). -/
def journalRead (s : State) (mode key n : Nat) : List JRec :=
  let asked := fun (r : JRec) =>
    if mode = 0 then decide (key ≤ r.jseq.toNat)
    else r.session.toNat == key / 2 ^ 32 && decide (key % 2 ^ 32 ≤ r.seq.toNat)
  (s.journal.reverse.filter asked).take n

/-- JNL_READ. -/
def execJnlRead (slot : Nat) (s : State) : Host.Outcome State Fault Refusal :=
  .next (onCommand s slot 0x62 (fun q =>
    let mode := u8At q.payload 0
    let n := u8At q.payload 12
    if 2 ≤ mode then finishCommand s slot rcCheck []
    else if n = 0 || countLimit s slot < n then finishCommand s slot rcSize []
    else match journalRead s mode (beAt q.payload 4 8) n with
      | [] => finishCommand s slot rcNoImage []
      | rs => finishCommand s slot rcOk (rs.flatMap journalBytes)))

/-! ## Key administration (R333) -/

/-- The key slots after a change. -/
def changedSlots (s : State) (k : Nat) (x : Option KeySlot) : List (Option KeySlot) := s.skerry.slots.set k x

/-- Whether some slot has permission E. -/
def someEngineer (xs : List (Option KeySlot)) : Bool := xs.any (fun x => (x.map (fun y => y.perm)) == some 2)

/-- An accepted change of a key slot: counted, recorded with a checkpoint; the slot's sessions close after the result. -/
def changeKey (s : State) (slot sub k perm : Nat) (x : Option KeySlot) : State :=
  let s := { s with skerry := { s.skerry with slots := changedSlots s k x } }
  let s := s.setReg A.SKERRY_KEYCNT (s.reg A.SKERRY_KEYCNT + 1)
  let s := s.raise 13 2 k (d1 sub ++ d1 perm ++ [0, 0] ++ d4 (s.reg A.SKERRY_KEYCNT).toNat)
  let s := finishCommand s.checkpointRecord slot rcOk []
  (List.range 16).foldl (fun s j => if sessState s j ≠ 0 ∧ sessKey s j = k then closeSession s j else s) s

/-- Whether the root signature of a KEY_ADMIN verifies: over its argument bytes before the signature, SKERRY_KEYCNT + 1 and
SKERRY_FP (R333). -/
def keyAdminSigned (s : State) (args : List Byte) : Bool :=
  ecdsaOk s.skerry.rootKey (sha384 (args.take 102 ++ beBytes 4 (s.reg A.SKERRY_KEYCNT + 1).toNat ++
    beBytes 8 (s.dword A.SKERRY_FP_LO).toNat)) (slice args 102 48) (slice args 150 48)

/-- KEY_ADMIN: on N00 only. -/
def execKeyAdmin (slot : Nat) (s : State) : Host.Outcome State Fault Refusal :=
  .next (onCommand s slot 0x70 (fun q =>
    let sub := u8At q.payload 0
    let k := u8At q.payload 1
    let key := slice q.payload 4 97
    let perm := u8At q.payload 101
    let x : Option KeySlot := if sub = 1 then some ⟨key, perm⟩ else none
    if sessPort s slot ≠ 0 then finishCommand s slot rcState []
    else if !keyAdminSigned s q.payload then finishCommand s slot rcAuth []
    else if !(sub == 1 || sub == 2) || !allZero (slice q.payload 2 2) || decide (2 < perm) ||
        (sub == 2 && !(allZero key && perm == 0)) then finishCommand s slot rcCheck []
    else if k = 0 || 7 < k || !someEngineer (changedSlots s k x) then finishCommand s slot rcState []
    else changeKey s slot sub k perm x))

end Sys2Proof.Machine
end

