-- ==== Sys2Proof/Machine/HostImage.lean ====
section
/-! DEFINITION. The host commands that stage and arm an image (R90, R93, R101, R207). -/

namespace Sys2Proof.Machine

open Sys2Proof

/-- IMAGE_BEGIN: total length and sequence number. -/
def execImageBegin (slot : Nat) (s : State) : Host.Outcome State Fault Refusal :=
  .next (onCommand s slot 0x20 (fun q =>
    let total := beAt q.payload 0 8
    let seq := beAt q.payload 8 4
    if total < 512 || 2 ^ 31 < total || seq = 0 then finishCommand s slot rcSize []
    else if loaderState s ≠ ldIdle then finishCommand s slot rcBusy []
    else
      let s := s.withLoader (fun l => { l with staging := [], total := total, seq := BitVec.ofNat 32 seq, img := none, digest := [] })
      finishCommand (s.setFld F.HOOD_STATUS.STATE ldReceiving) slot rcOk []))

/-- Bytes written into the staging area at an offset; later bytes take the place of earlier ones (R207). -/
def stageBytes (m : List (Nat × Byte)) (off : Nat) : List Byte → List (Nat × Byte)
  | [] => m
  | b :: bs => stageBytes (putAt off b m) (off + 1) bs

/-- IMAGE_DATA: offset, length and data; channel 27 moves them, and waits out a bus stop (R243, R257). -/
def execImageData (slot : Nat) (s : State) : Host.Outcome State Fault Refusal :=
  .next (onCommand s slot 0x21 (fun q =>
    let off := beAt q.payload 0 8
    let n := beAt q.payload 8 4
    let data := q.payload.drop 12
    if n = 0 || n != data.length || (if sessPort s slot = 0 then 1024 else 8192) < n then finishCommand s slot rcSize []
    else if loaderState s ≠ ldReceiving then finishCommand s slot rcState []
    else if s.loader.total < off + n then finishCommand s slot rcSize []
    else if busStopped s then s
    else
      let s := ownerDone (ownerStart s 27) 27
      finishCommand (s.withLoader (fun l => { l with staging := stageBytes l.staging off data })) slot rcOk []))

/-- IMAGE_END: verification begins, the result follows at its end (R91). -/
def execImageEnd (slot : Nat) (s : State) : Host.Outcome State Fault Refusal :=
  .next (onCommand s slot 0x22 (fun _ =>
    if loaderState s ≠ ldReceiving then finishCommand s slot rcState []
    else
      let s := (holdCommand s slot).withLoader (fun l => { l with waitSlot := some slot })
      (s.setFld F.HOOD_STATUS.STATE ldVerifying).setReg A.HOOD_STAGED_SEQ s.loader.seq))

/-- Whether the guard window of the planned switch has begun (R96). -/
def switchGuard (s : State) : Bool := switchDue s && s.fld F.TICK_STATUS.WINDOW == 5

/-- IMAGE_CANCEL: the loader returns to IDLE, and a command that waits for it returns STATE: IMAGE_END in VERIFYING, IMAGE_ARM
after that (R90, R93). -/
def execImageCancel (slot : Nat) (s : State) : Host.Outcome State Fault Refusal :=
  .next (onCommand s slot 0x23 (fun _ =>
    if loaderState s = ldIdle || switchGuard s then finishCommand s slot rcState []
    else
      let s := answerWait s (if loaderState s = ldVerifying then 0x22 else 0x24) rcState []
      finishCommand (cancelStore (loaderFail s 8)) slot rcOk []))

/-- The arm of a STAGED image by the state of the module (R93); in SAFE the record is written, ACTIVATE is appended and the
result follows (R101). -/
def armStaged (s : State) (slot : Nat) (im : Image) : State :=
  if s.mode = stPrimary then
    ((holdCommand s slot).strait 6 1 []).withLoader (fun l => { l with asking := some s.tick, waitSlot := some slot })
  else if s.mode = stSolo then
    acceptArm ((holdCommand s slot).withLoader (fun l => { l with waitSlot := some slot })) im false
  else if s.mode = stSafe then
    let s := (activateBank (holdCommand s slot) s.loader.bank im.seq im.digest).withLoader (fun l =>
      { l with waitSlot := some slot })
    ((s.setFld F.HOOD_STATUS.STATE ldArmed).setFld F.HOOD_STATUS.DEFERRALS 0).setDword A.HOOD_SWITCH_LO 0
  else finishCommand s slot rcState []

/-- IMAGE_ARM. -/
def execImageArm (slot : Nat) (s : State) : Host.Outcome State Fault Refusal :=
  .next (onCommand s slot 0x24 (fun _ =>
    match s.loader.img with
    | none => finishCommand s slot rcState []
    | some im =>
      if loaderState s ≠ ldStaged || s.loader.asking.isSome || s.loader.armDue.isSome then finishCommand s slot rcState []
      else armStaged s slot im))

end Sys2Proof.Machine
end

