-- ==== Sys2Proof/Machine/Maint.lean ====
section
/-! DEFINITION. Maintenance activities (R327, R328): groups, MAINT_START, MAINT_STATUS, the end of an activity. -/

namespace Sys2Proof.Machine

open Sys2Proof

/-- The group of an activity (R327): 0 converter reference, 1 core checking, 2 + k ring k, 50 DRAM; none for a code that the
table does not list or a target outside its range. -/
def activityGroup (code target : Nat) : Option Nat :=
  match code with
  | 0x0101 => if target ≤ 3 then some 0 else none
  | 0x0102 => if target = 0 then some 0 else none
  | 0x0201 => if target < 32 then some 1 else none
  | 0x0202 => if target = 0 then some 1 else none
  | 0x0301 => if target < 48 then some (2 + target) else none
  | 0x0302 => if target < 48 then some (2 + target) else none
  | 0x0401 => if target = 0 then some 50 else none
  | _ => none

/-- A ring activity begins (R127, R146, R327): the cable test, or the realignment, in which both receives of the ring search
again. -/
def beginRingActivity (s : State) (code k : Nat) : State :=
  if code = 0x0301 then startCableTest s k
  else (s.setFld (lockFld k 0) 0).setFld (lockFld k 1) 0

/-- A ring activity is asked for: it begins, or waits for the one before it. -/
def askRingActivity (s : State) (g code k : Nat) : State :=
  if groupHeld s g then newActivity s g code k 0 else beginRingActivity (newActivity s g code k 1) code k

/-- An activity of a group is asked for: it takes the next number and begins or waits (R327). -/
def askActivity (s : State) (g code target : Nat) : State :=
  match code with
  | 0x0101 => startCalibration s target
  | 0x0102 => startProof s
  | 0x0201 => askSplit s (target / 2) (target % 2)
  | 0x0202 => startVerdict s 3
  | 0x0401 => startSegment s
  | _ => askRingActivity s g code target

/-- Whether an activity's own rules refuse it: a split that R82 does not permit, a calibration that R274 or R275 rules out
(R328). -/
def activityRefused (s : State) (code target : Nat) : Bool :=
  (code == 0x0201 && !splitPermitted s (target / 2)) || (code == 0x0101 && calibrationRefused s target)

/-- A refused split shows in CHK_SPLIT_STATUS (R82). -/
def showRefused (s : State) (code : Nat) : State := if code = 0x0201 then s.setFld F.CHK_SPLIT_STATUS.LAST_REQ 2 else s

/-- The result of MAINT_START: its code and the number of the activity (R207, R327, R328). -/
def maintStart (s : State) (code target : Nat) : State × Nat × List Byte :=
  if code = 0x0402 then (s, rcState, [])
  else match activityGroup code target with
    | none => (s, rcCheck, [])
    | some g =>
      match liveActivity s code target with
      | some a => (s, if a.state = 0 then rcQueued else rcOk, beBytes 4 a.num)
      | none =>
        if activityRefused s code target then (showRefused s code, rcState, [])
        else
          let t := askActivity s g code target
          (t, if t.acts.any (fun a => a.num == s.actNext && a.state == 0) then rcQueued else rcOk, beBytes 4 s.actNext)

/-- MAINT_START: activity code and target. -/
def execMaintStart (slot : Nat) (s : State) : Host.Outcome State Fault Refusal :=
  .next (onCommand s slot 0x40 (fun q =>
    let (s, code, data) := maintStart s (beAt q.payload 0 2) (beAt q.payload 2 4)
    finishCommand s slot code data))

/-- MAINT_STATUS: the state of one of the last 256 activities. -/
def execMaintStatus (slot : Nat) (s : State) : Host.Outcome State Fault Refusal :=
  .next (onCommand s slot 0x41 (fun q =>
    let n := beAt q.payload 0 4
    match s.acts.find? (fun a => a.num == n && decide (s.actNext ≤ a.num + 256)) with
    | none => finishCommand s slot rcNoImage []
    | some a => finishCommand s slot rcOk (d1 a.state ++ [0, 0, 0])))

/-- The oldest waiting activity of a group starts where nothing of the group runs (R327). Splits start with SPLIT_START. -/
def startNext (s : State) (group : Nat) : State :=
  if group = 0 then startConvNext s
  else if group = 50 then startQueuedSegment s
  else if groupRuns s group then s
  else match oldestWaiting s group with
    | none => s
    | some a =>
      if a.code = 0x0201 then s
      else if a.code = 0x0202 then startQueuedVerdict s
      else beginRingActivity (setActivity s a.num 1) a.code a.target

/-- At a guard window the waiting activities of every free group start (R327). -/
def startWaiting (s : State) : State :=
  (s.acts.reverse.filter (fun a => a.state == 0)).foldl (fun s a => startNext s a.group) s

/-- ACTIVITY_END: the running activity of a ring ends, done or failed; the next starts at the next guard window (R327). The
activities of the other groups end with rows of their own (VERDICT, SPLIT_REJOIN, CALIBRATION_DONE, PROOF_TEST_DONE,
SCRUB_SEGMENT_DONE). With a cable test the stations are asked for their counts (R146). -/
def execActivityEnd (group : Nat) (ok : Bool) (s : State) : Host.Outcome State Fault Refusal :=
  match s.acts.find? (fun a => a.group == group && a.state == 1 && (a.code == 0x0301 || a.code == 0x0302)) with
  | none => .next s
  | some a =>
    let s := setActivity s a.num (if ok then 2 else 3)
    let s := if a.code = 0x0301 then askCounts s a.target else s
    .next (if s.ticking then s else startNext s group)

end Sys2Proof.Machine
end

