-- ==== Sys2Proof/Machine/Panel.lean ====
section
/-! DEFINITION. The front panel (R334, R335) and the addresses of the service port (R336). -/

namespace Sys2Proof.Machine

open Sys2Proof

/-! ## Keys (R334): scans are 10 ms apart -/

/-- Sixteen times the delta of a count: C − B with B the mean of 16 counts. -/
def keyDelta (k : KeySt) (c : Nat) : Int := 16 * (c : Int) - k.base

/-- A capture of the baseline begins: the mean of the next 16 counts. -/
def startCapture (k : KeySt) (blocked : Bool) : KeySt :=
  { k with capture := 16, sum := 0, hi := 0, lo := 0, neg := 0, touched := false, held := 0, blocked := blocked }

/-- A scan during a capture. -/
def captureScan (k : KeySt) (c : Nat) : KeySt :=
  if k.capture = 1 then { k with capture := 0, sum := 0, base := ((k.sum + c : Nat) : Int) }
  else { k with capture := k.capture - 1, sum := k.sum + c }

/-- A scan of a key with a baseline: touched, released, recaptured after 2 s at −20 or below, recaptured and blocked after
more than 20 s touched (R334). The second result tells a recapture. -/
def judgeScan (k : KeySt) (c : Nat) : KeySt × Bool :=
  let d := keyDelta k c
  let low := decide (d < 320)
  let blocked := k.blocked && !low
  let k := { k with
    blocked := blocked
    hi := if 640 ≤ d && !blocked then k.hi + 1 else 0
    lo := if low then k.lo + 1 else 0
    neg := if d ≤ -320 then k.neg + 1 else 0 }
  let t := if 3 ≤ k.hi then true else if 3 ≤ k.lo then false else k.touched
  let k := { k with touched := t, held := if t then k.held + 1 else 0 }
  if 200 ≤ k.neg then (startCapture k k.blocked, true)
  else if 2000 < k.held then (startCapture k true, true)
  else (k, false)

/-- One scan of a key. -/
def scanKey (k : KeySt) (c : Nat) : KeySt × Bool := if k.capture = 0 then judgeScan k c else (captureScan k c, false)

/-- A mask of the keys for which a test holds. -/
def keyMask (xs : List (KeySt × Bool)) (p : KeySt × Bool → Bool) : Nat :=
  ((List.range xs.length).zip xs).foldl (fun m e => if p e.2 then m + 2 ^ e.1 else m) 0

/-! ## Menus (R335; the keys that choose among them are log entry 179) -/

/-- The display goes to a screen; an ENTER touched before does not count there. -/
def showMenu (s : State) (m : PanelMenu) : State :=
  s.withPanel (fun p => { p with menu := m, notice := .none, enterHeld := 0 })

/-- The display says something about an action. -/
def panelNotice (s : State) (n : PanelNotice) : State := s.withPanel (fun p => { p with notice := n })

/-- The screen behind an entry of the list, and the entry that a screen belongs to. -/
def menuScreen : Nat → PanelMenu
  | 0 => .status | 1 => .trim 0 | 2 => .service | 3 => .reset | _ => .reKey
def menuEntry : PanelMenu → Nat
  | .trim _ => 1 | .service => 2 | .reset => 3 | .reKey => 4 | _ => 0

/-- An entry of the list is opened: TRIM and SERVICE are refused with LOCK. -/
def openMenu (s : State) (i : Nat) : State :=
  if s.flag F.PANEL_CTRL.LOCK && (i == 1 || i == 2) then panelNotice s .locked else showMenu s (menuScreen i)

/-- BEGIN, LOW or HIGH on their screens; a step that is taken shows the next screen, a BEGIN beside another trim TRIM BUSY. -/
def panelTrimStep (s : State) (n : Nat) : State :=
  let s := trimStep s (n + 1) s.panel.trimCh
  if s.fld F.ANA_TRIM_STATUS.RESULT = rcOk then showMenu s (.trim (n + 1))
  else if n = 0 then panelNotice s .trimBusy
  else s

/-- A key on a screen of TRIM: UP and DOWN set ANA_TRIM_REF, LEFT and RIGHT the channel before BEGIN, ENTER takes a step. -/
def trimKey (s : State) (n k : Nat) : State :=
  if s.flag F.PANEL_CTRL.LOCK then panelNotice s .locked
  else match k with
    | 0 => s.setReg A.ANA_TRIM_REF (Config.panelReference true (s.reg A.ANA_TRIM_REF))
    | 1 => s.setReg A.ANA_TRIM_REF (Config.panelReference false (s.reg A.ANA_TRIM_REF))
    | 2 => if n = 0 then s.withPanel (fun p => { p with trimCh := (p.trimCh + 31) % 32 }) else s
    | 3 => if n = 0 then s.withPanel (fun p => { p with trimCh := (p.trimCh + 1) % 32 }) else s
    | _ => if n < 3 then panelTrimStep s n else s

/-- A key of the list of menus with entry `i` marked. -/
def listKey (s : State) (i k : Nat) : State :=
  match k with
  | 0 => showMenu s (.list ((i + 4) % 5))
  | 1 => showMenu s (.list ((i + 1) % 5))
  | 3 => openMenu s i
  | 4 => openMenu s i
  | 5 => showMenu s .line
  | _ => s

/-- A key is touched: ESC returns one level up. -/
def pressKey (s : State) (k : Nat) : State :=
  match s.panel.menu with
  | .line => if k = 5 then s else showMenu s (.list 0)
  | .list i => listKey s i k
  | .trim n => if k = 5 then showMenu s (.list 1) else trimKey s n k
  | m => if k = 5 then showMenu s (.list (menuEntry m)) else s

/-- ENTER has been held for 3 s: COMMIT of a trim, or the reset of the RESET menu. SERVICE and RE-KEY are commands of their
own. -/
def holdAction (s : State) : State :=
  match s.panel.menu with
  | .trim 3 =>
    if s.flag F.PANEL_CTRL.LOCK then panelNotice s .locked
    else
      let s := trimStep s 4 s.panel.trimCh
      panelNotice s (.trimResult (s.fld F.ANA_TRIM_STATUS.RESULT))
  | .reset => commandReset s
  | _ => s

/-- The scans of a held ENTER that count: a touch that begins counts from here on, one from an earlier screen not. -/
def enterCount (held : Nat) (shown began : Bool) : Nat :=
  if !shown then 0 else if began then 1 else if held = 0 then 0 else held + 1

/-- The keys after a scan: with two or more touched none is reported until all are released (R334); a key that becomes touched
acts on the menu, and so does ENTER when it has been held long enough (R335). -/
def keyScan (s : State) (counts : List Nat) : State :=
  let xs := (s.panel.keys.zip counts).map (fun e => scanKey e.1 e.2)
  let touched := keyMask xs (fun e => e.1.touched)
  let n := (xs.filter (fun e => e.1.touched)).length
  let multi := decide (2 ≤ n) || (s.panel.multi && n != 0)
  let shown := if multi then 0 else touched
  let recal := s.fld F.PANEL_KEYS.RECAL ||| keyMask xs (fun e => e.2)
  let before := s.fld F.PANEL_KEYS.TOUCHED
  let s := (s.setFld F.PANEL_KEYS.TOUCHED shown).setFld F.PANEL_KEYS.RECAL recal
  let s := s.withPanel (fun p => { p with
    keys := xs.map (fun e => e.1)
    multi := multi
    enterHeld := enterCount p.enterHeld (shown.testBit 4) (!before.testBit 4) })
  let s := ((List.range 6).filter (fun k => shown.testBit k && !before.testBit k)).foldl pressKey s
  if s.panel.enterHeld = holdScans then holdAction s else s

/-- KEY_SCAN (R334). -/
def execKeyScan (counts : List Nat) (s : State) : Host.Outcome State Fault Refusal := .next (keyScan s counts)

/-- MENU_TIMEOUT: back to the status line (R335). -/
def execMenuTimeout (s : State) : Host.Outcome State Fault Refusal :=
  .next (showMenu s .line)

/-! ## Service port (R336) -/

/-- SERVICE: ENTER has been held in the SERVICE menu; new addresses of N00, unless the menus are locked (R335, R336). -/
def execService (a : SvcAddr) (s : State) : Host.Outcome State Fault Refusal :=
  .next (if !enterHeldIn s .service then s
    else if s.flag F.PANEL_CTRL.LOCK then panelNotice s .locked
    else s.withPanel (fun p => { p with pendingAddr := some a, enterHeld := 0 }))

/-- SERVICE_ADDRESS_APPLY: the new addresses apply and every session on N00 closes (R336). -/
def execServiceAddressApply (s : State) : Host.Outcome State Fault Refusal :=
  match s.panel.pendingAddr with
  | none => .next s
  | some a =>
    let s := (s.setReg A.PANEL_SVC_IP4 a.ip4).setFld F.PANEL_SVC_PFX.IP4 a.pfx4
    let s := (s.setFld F.PANEL_SVC_PFX.IP6 a.pfx6).withPanel (fun p => { p with pendingAddr := none, ip6 := a.ip6 })
    .next (closePort s 0)

end Sys2Proof.Machine
end

