-- ==== Sys2Proof/Machine/Shaft.lean ====
section
/-! DEFINITION. The shaft engine (R42, R102 to R120): its pass over the masters and the axes. Positions are 64-bit words
that wrap; every division rounds toward minus infinity on exact integers (R102). -/

namespace Sys2Proof.Machine

open Sys2Proof

/-! ## Slots by handle -/

/-- The image slot of a signal (R8, R221). -/
def handleSlot (s : State) (handle : Nat) (output : Bool) : Option Nat :=
  match s.image with
  | none => none
  | some im => (im.signals.find? (fun g => g.handle == handle && g.output == output)).map (fun g => g.slot)

/-- An input by handle; one that the image does not hold reads 0, BAD. -/
def handleIn (s : State) (handle : Nat) : Slot :=
  match handleSlot s handle false with
  | none => slotDefault 0
  | some i => s.inSlot i

/-- Write an output by handle. -/
def handleOut (s : State) (handle : Nat) (x : Slot) : State :=
  match handleSlot s handle true with
  | none => s
  | some i => s.setOut i x

/-- A value moved toward a target by at most a bound, by signed difference (R102, R106, R115). -/
def moveToward (v target : DWord) (bound : Nat) : DWord := v + wrap64 (clampAbs (bound : Int) (sdiff target v))

/-! ## Masters (R105, R106) -/

/-- The source of a master: its command slot, or its position input. -/
def masterSource (s : State) (r : MasterRec) : Slot := if r.external then handleIn s r.posHandle else s.outSlot r.cmdSlot

/-- Whether an emergency ramp ends before this pass (R106). -/
def emergencyEnds (r : MasterRec) (x : MasterSt) (src : Slot) : Bool :=
  x.v == 0 && src.q != .bad && !x.stopReq && (r.external || src.val == 0)

/-- The cause of an emergency ramp that starts in this pass (R106): 1 source BAD, 2 group stop. -/
def emergencyCause (r : MasterRec) (x : MasterSt) (src : Slot) : Option Nat :=
  if x.emerg then none
  else if src.q == .bad then some 1
  else if !r.external && x.stopReq then some 2
  else none

/-- A master's state for the application edge (R106). In the pass of an external master's first sample, at the start or after
an emergency, there is no sample of the pass before: V is 0 and M stays, which the spec leaves open (DESIGN CHOICE, log entry
141). -/
def masterNext (r : MasterRec) (x : MasterSt) (src : Slot) : MasterSt :=
  let emerg := (x.emerg && !emergencyEnds r x src) || (emergencyCause r x src).isSome
  let x := { x with q := src.q, emerg := emerg, stopReq := false }
  if emerg then
    let v := moveToward x.v 0 r.emergAcc
    { x with v := v, m := x.m + v, samples := [] }
  else if r.external then
    match x.samples with
    | [] => { x with v := 0, samples := [src.val] }
    | prev :: _ =>
      let v := src.val - prev
      { x with v := v, m := src.val + BitVec.ofNat 64 r.lead * v, samples := [src.val, prev] }
  else
    let v := moveToward x.v src.val r.acc
    { x with v := v, m := x.m + v, samples := [] }

/-- Show a master (SHAFT register block). -/
def showMaster (s : State) (i : Nat) : State :=
  let x := s.master i
  let s := (s.setFld (F.SHAFT_MASTER_STATE.QUAL.item i) x.q.code).setFlag (F.SHAFT_MASTER_STATE.EMERG.item i) x.emerg
  (s.setDword (itemKey A.SHAFT_MASTER_POS_LO i) x.m).setDword (itemKey A.SHAFT_MASTER_VEL_LO i) x.v

/-- The lanes disagree (R104): noted, recorded, the module is unclean and tests itself. -/
def laneMismatch (s : State) (src : Nat) : State :=
  startVerdict (((s.note F.SHAFT_EVENT.LANE_MISMATCH).raise 3 8 src []).unclean) 1

/-- An external master's sample of a pass whose result is not written: the next pass still finds sample(n − 1) (R106). -/
def keepSample (r : MasterRec) (x : MasterSt) (src : Slot) : MasterSt :=
  if r.external && !x.emerg then { x with samples := (src.val :: x.samples).take 2 } else x

/-- One master in the pass. On a lane disagreement no result is written: the master keeps M, V and quality (log entry 84). -/
def masterPass (faults : LaneFaults) (s : State) (e : Nat × MasterRec) : State :=
  let (i, r) := e
  if faults.masters.contains i then showMaster ((laneMismatch s (0x8000 + i)).setMaster i (keepSample r (s.master i) (masterSource s r))) i
  else
    let x := s.master i
    let src := masterSource s r
    let s := match emergencyCause r x src with
      | none => s
      | some c => (s.note F.SHAFT_EVENT.MASTER_EMERG).raise 17 3 i (d1 c)
    showMaster (s.setMaster i (masterNext r x src)) i

/-! ## Gearing and cams (R110 to R114) -/

/-- GEAR_N as a signed 32-bit value and GEAR_D (R108). Of a GEAR_D slot value above 4,294,967,295, outside the range that R108
states, the low 32 bits count (DESIGN CHOICE, log entry 143). -/
def gearOf (s : State) (a : AxisRec) : Int × Nat :=
  let w := fun (i : Nat) => (s.outSlot (a.cmdBase + i)).val.toNat % 2 ^ 32
  (signed 32 (w 2), w 3)

/-- Take the ratio of this pass: a denominator of 0 is refused, a change sets R to 0 (R108, R111). -/
def takeRatio (x : AxisSt) (g : Int × Nat) : AxisSt :=
  if g.2 = 0 ∨ (g.1 = x.n ∧ g.2 = x.d) then x else { x with n := g.1, d := g.2, r := 0 }

/-- The cam table with a number. -/
def camOf (s : State) (c : Nat) : Option CamTab :=
  match s.image with
  | none => none
  | some im => im.cams.find? (fun t => t.number == c)

/-- RISE of a cam table; free for a table that the image does not hold (log entry 41). -/
def camRise (s : State) (c : Nat) : DWord :=
  match camOf s c with
  | none => Config.absentCamRise c
  | some t => t.rise

/-- What `k` crossings of an integer revolution add to the cycle base: the first one RISE of the table in use until then, the
others that of the table that it brings into use (R113, R114), in both directions: at a backward crossing too the RISE of the
table in use until then is subtracted (DESIGN CHOICE, log entry 162). -/
def crossed (s : State) (old new : Nat) (k : Int) : Int :=
  let one := if k < 0 then -1 else 1
  one * (camRise s old).toInt + (k - one) * (camRise s new).toInt

/-- Advance G by the master's change (R110); every crossing of an integer revolution moves the cycle base by RISE, and a
crossing brings the selected cam table into use (R113, R114). -/
def advance (s : State) (x : AxisSt) (dm : Int) (camSel : Nat) : AxisSt :=
  if x.d = 0 then x
  else
    let p := dm * x.n + (x.r : Int)
    let q := floorDiv p x.d
    let g := x.g.toInt
    let k := floorDiv (g + q) (2 ^ 32) - floorDiv g (2 ^ 32)
    let x := { x with r := (p - q * (x.d : Int)).toNat, g := x.g + wrap64 q }
    if x.mode = .cammed && k != 0 then
      { x with base := x.base + wrap64 (crossed s x.cam camSel k), cam := camSel }
    else x

/-- Point `i` of a cam table: its position and slope; after the last, Y[0] + RISE with the slope of point 0 (R112). -/
def camPoint (t : CamTab) (i : Nat) : DWord × DWord :=
  if i < t.points.length then t.points.getD i (0, 0)
  else let z := t.points.getD 0 (0, 0); (z.1 + t.rise, z.2)

/-- The value of a cam table at the low 32 bits of G, rounded toward minus infinity (R102, R113). -/
def camTabValue (t : CamTab) (low : Nat) : DWord :=
  let w := 2 ^ (32 - t.b)
  let i := low / w
  let u : Int := (low % w : Nat)
  let a := camPoint t i
  let z := camPoint t (i + 1)
  let dy := sdiff z.1 a.1
  let m0 := a.2.toInt
  let m1 := z.2.toInt
  if t.cubic then
    let W : Int := (w : Nat)
    a.1 + wrap64 (floorDiv (m0 * u * W * W + (3 * dy - 2 * m0 - m1) * u * u * W + (-2 * dy + m0 + m1) * u * u * u) (w * w * w))
  else a.1 + wrap64 (floorDiv (dy * u) w)

/-- The value of a cam; free for a table that the image does not hold (log entry 41). -/
def camValue (s : State) (c low : Nat) : DWord :=
  match camOf s c with
  | none => Config.absentCamValue c low
  | some t => camTabValue t low

/-- The contribution of gear or cam to the setpoint (R113, R115). -/
def contribution (s : State) (x : AxisSt) : DWord :=
  if x.mode = .cammed then x.base + camValue s x.cam (x.g.toNat % 2 ^ 32) else x.g

/-! ## Register marks (R116 to R118) -/

/-- Ticks of the time counter's 1/256 ns in one tick. -/
def edgeUnits : Nat := 62500 * 256

/-- The register error of a mark whose stamp lies `tau` 1/256 ns after edge n, with the setpoint history; none where the
stamp lies outside the history (R117). -/
def markError (a : AxisRec) (hist : List (DWord × DWord)) (n : DWord) (tau : Int) : Option Int :=
  let j := floorDiv tau edgeUnits
  let k := n + wrap64 j
  let at_ := fun (e : DWord) => (hist.find? (fun h => h.1 == e)).map (fun h => h.2)
  match at_ k, at_ (k + 1) with
  | some s0, some s1 =>
    let pos := s0 + wrap64 (floorDiv (sdiff s1 s0 * (tau - j * (edgeUnits : Int))) edgeUnits)
    let r := (sdiff pos a.markExpect) % (a.markRepeat : Int)
    some (if (a.markRepeat / 2 : Nat) ≤ r then r - (a.markRepeat : Int) else r)
  | _, _ => none

/-- The change of MARK_TRIM for a register error (R118). -/
def markDelta (a : AxisRec) (e : Int) : Int := clampAbs (a.markStep : Int) (-(floorDiv (e * (a.markGain : Int)) 65536))

/-- The accepted error of a new mark, none where R118 rejects it. -/
def markAccepted (s : State) (a : AxisRec) (x : AxisSt) (cnt time : Slot) : Option Int :=
  let tau := sdiff time.val (s.tick * BitVec.ofNat 64 edgeUnits) - (a.markLat : Int) * 256
  let engaged := x.mode == .geared || x.mode == .cammed
  if cnt.q != .good || time.q != .good || decide (0 < tau) || !engaged then none
  else match markError a x.hist s.tick tau with
    | none => none
    | some e => if (e.natAbs : Nat) ≤ a.markWindow then some e else none

/-- MARK_TRIM after a correction, saturating at half of MARK_REPEAT (R118). -/
def markTrimmed (a : AxisRec) (trim : DWord) (e : Int) : DWord :=
  wrap64 (clampAbs ((a.markRepeat / 2 : Nat) : Int) (trim.toInt + markDelta a e))

/-- The engine has read MARK_CNT in this pass, and a later pass sees no new mark in it. -/
def seeMark (s : State) (a : AxisRec) (x : AxisSt) : AxisSt :=
  if a.markEn then { x with markSeen := true, markCnt := (handleIn s a.markCnt).val } else x

/-- The marks of an axis: a change of MARK_CNT is a new mark (R116); the axis after it, with the counts shown. -/
def markPass (s : State) (i : Nat) (a : AxisRec) (x : AxisSt) : State × AxisSt :=
  if !a.markEn then (s, x)
  else
    let cnt := handleIn s a.markCnt
    let time := handleIn s a.markTime
    let isNew := x.markSeen && cnt.val != x.markCnt
    let lost := (sdiff cnt.val x.markCnt - 1).toNat
    let x' := { x with markSeen := true, markCnt := cnt.val }
    if !isNew then (s, x')
    else
      let s := s.count (F.SHAFT_AXIS_MARK.LOST.item i) lost
      match markAccepted s a x cnt time with
      | none => ((s.count (F.SHAFT_AXIS_MARK.REJECTED.item i) 1).note F.SHAFT_EVENT.MARK_REJECT, x')
      | some e => (s.count (F.SHAFT_AXIS_MARK.ACCEPTED.item i) 1, { x' with markTrim := markTrimmed a x.markTrim e })

/-! ## Following error (R120) -/

/-- The following error at edge n: none in a tick that is skipped. -/
def followError (s : State) (x : AxisSt) (act : Slot) : Option Int :=
  if act.q != .good then none
  else ((x.hist.find? (fun h => h.1 == s.tick)).map (fun h => sdiff h.2 act.val))

/-- Consecutive ticks above FERR_LIMIT. -/
def ferrCount (a : AxisRec) (x : AxisSt) : Option Int → Nat
  | none => x.ferrCnt
  | some e => if a.ferrLimit < e.natAbs then min 255 (x.ferrCnt + 1) else 0

/-- FERR as signed Q16.16, saturating (SHAFT_AXIS_FERR). -/
def ferrWord (e : Int) : Word :=
  let v := floorDiv e 65536
  BitVec.ofInt 32 (if v < -(2 ^ 31) then -(2 ^ 31) else if 2 ^ 31 - 1 < v then 2 ^ 31 - 1 else v)

/-- What a fault with GROUP_STOP asks of the group from the next pass: the emergency ramp of a virtual master, or FAULT for
every other axis of an external one, with one recorder event for the group (R120). -/
def groupStop (s : State) (i : Nat) (a : AxisRec) : State :=
  match s.image with
  | none => s
  | some im =>
    match im.masters[a.master]? with
    | none => s
    | some m =>
      if m.external then
        let others := (List.range im.axes.length).filter (fun j =>
          j != i && (im.axes[j]?.map (fun b => b.master)) == some a.master)
        let s := if (s.axis i).groupStop || others.any (fun j => (s.axis j).groupStop) then s
          else s.raise 17 2 a.master (leBytes 2 i)
        others.foldl (fun s j => s.setAxis j { s.axis j with groupStop := true }) s
      else s.setMaster a.master { s.master a.master with stopReq := true }

/-! ## Axes (R107 to R109, R115) -/

/-- The mode of an axis after MODE_REQ (R108, R109, R120). -/
def nextMode (m : AxisMode) (req : DWord) : AxisMode :=
  match m with
  | .fault => if req = 0 then .disengaged else .fault
  | m => if req = 0 then .disengaged else if req = 1 then .geared else if req = 2 then .cammed else m

/-- The code of a mode (SHAFT_AXIS_STATE). -/
def modeCode : AxisMode → Nat
  | .disengaged => 0 | .geared => 1 | .cammed => 2 | .fault => 3

/-- The axis follows its actual position (R109). -/
def holdActual (x : AxisSt) (act : Slot) : AxisSt := { x with s := act.val, ff := 0 }

/-- The re-base at a change to GEARED or CAMMED: G, R, TRIM, MARK_TRIM and the cycle base are 0 (R109). The
table that CAM_SEL names is in use from the re-base on, before any crossing (R114; DESIGN CHOICE, log entry 163). -/
def rebase (x : AxisSt) (mode : AxisMode) (ratio : Int × Nat) (camSel : Nat) : AxisSt :=
  let x := takeRatio x ratio
  { x with mode := mode, g := 0, r := 0, trim := 0, markTrim := 0, base := 0, cam := camSel }

/-- The pass that changes the mode: OFFSET makes the setpoint for edge n + 2 that for edge n + 1 (R109). It is set before the
marks of the pass, so that a correction accepted in this pass enters its setpoint (R119; DESIGN CHOICE, log entry 161). -/
def keepSetpoint (s : State) (x : AxisSt) : AxisSt :=
  { x with offset := x.s - contribution s x - x.trim - x.markTrim }

/-- The setpoint and feedforward of an engaged axis (R115). -/
def compose (s : State) (x : AxisSt) : AxisSt :=
  let p := x.offset + contribution s x + x.trim + x.markTrim
  { x with s := p, ff := p - x.s }

/-- The five command slots' values and their highest quality (R108, R115). -/
def commandQuality (s : State) (a : AxisRec) : Quality :=
  (List.range 5).foldl (fun q i => Quality.max q (s.outSlot (a.cmdBase + i)).q) .good

/-- The quality written with the setpoint (R115). -/
def setpointQuality (s : State) (a : AxisRec) (x : AxisSt) (act : Slot) : Quality :=
  match x.mode with
  | .disengaged => act.q
  | .fault => .substitute
  | _ => Quality.max (s.master a.master).q (commandQuality s a)

/-- Write the setpoint and feedforward of an axis and show it. -/
def writeAxis (s : State) (i : Nat) (a : AxisRec) (x : AxisSt) (q : Quality) : State :=
  let s := handleOut s a.spHandle ⟨x.s, q⟩
  let s := if a.ffEn then handleOut s a.ffHandle ⟨x.ff, q⟩ else s
  let s := s.setAxis i { x with hist := ((s.tick + 2, x.s) :: x.hist).take 16 }
  let s := (s.setFld (F.SHAFT_AXIS_STATE.MODE.item i) (modeCode x.mode)).setFld (F.SHAFT_AXIS_STATE.QUAL.item i) q.code
  let s := s.setFld (F.SHAFT_AXIS_STATE.FERR_CNT.item i) x.ferrCnt
  (s.setDword (itemKey A.SHAFT_AXIS_POS_LO i) x.s).setDword (itemKey A.SHAFT_AXIS_MTRIM_LO i) x.markTrim

/-- An axis enters FAULT on its following error (R120). -/
def axisFaults (s : State) (i : Nat) (ferr : Int) : State :=
  (s.note F.SHAFT_EVENT.AXIS_FAULT).raise 17 1 i (leBytes 4 (ferrWord ferr).toNat)

/-- The engaged part of a pass: re-base at a change of mode, else gear, cam and trim; then the marks and the setpoint. In the
pass of the re-base G does not advance by the master's change of that tick and TRIM does not move toward TRIM_TGT: both begin
with the pass after it (R109 beside R110 and R115; DESIGN CHOICE, log entry 161). -/
def engagedPass (s : State) (i : Nat) (a : AxisRec) (x : AxisSt) (mode : AxisMode) (dm : Int) : State × AxisSt :=
  let camSel := (s.outSlot (a.cmdBase + 4)).val.toNat
  if mode != x.mode then
    let (s, x) := markPass s i a (keepSetpoint s (rebase x mode (gearOf s a) camSel))
    (s, compose s x)
  else
    let x := advance s (takeRatio x (gearOf s a)) dm camSel
    let x := { x with trim := moveToward x.trim (s.outSlot (a.cmdBase + 1)).val a.trimRate }
    let (s, x) := markPass s i a x
    (s, compose s x)

/-- One axis in the pass, with the position change of its master. The ratio slots are read in every mode, so that a refused
denominator leaves the ratio read last (R108). On a lane disagreement the axis keeps its internal state: G lacks that tick's
change of the master, and a mark of that pass is passed over, since its correction could only enter a later setpoint (R119;
DESIGN CHOICE, log entry 140). An axis whose MASTER names a
master that the image does not define follows one at rest, of the quality of the idle record (DESIGN CHOICE, log entry 142). -/
def axisPass (faults : LaneFaults) (dms : List Int) (s : State) (e : Nat × AxisRec) : State :=
  let (i, a) := e
  let x := s.axis i
  if faults.axes.contains i then
    writeAxis (laneMismatch s i) i a { seeMark s a x with s := x.s + x.ff } (setpointQuality s a x (handleIn s a.actHandle))
  else
    let act := handleIn s a.actHandle
    let ferr := followError s x act
    let cnt := ferrCount a x ferr
    let s := match ferr with
      | none => s
      | some e => s.setReg (itemKey A.SHAFT_AXIS_FERR i) (ferrWord e)
    let tooFar := ferr.isSome && decide (a.ferrTicks ≤ cnt) && x.mode != .fault
    let s := if tooFar then axisFaults s i (ferr.getD 0)
      else if x.groupStop && x.mode != .fault then s.note F.SHAFT_EVENT.AXIS_FAULT else s
    let mode := if tooFar || x.groupStop then .fault else nextMode x.mode (s.outSlot a.cmdBase).val
    let x := { x with ferrCnt := cnt, groupStop := false }
    let x := if mode = .geared ∨ mode = .cammed then x else takeRatio x (gearOf s a)
    let (s, x) :=
      if mode = .geared ∨ mode = .cammed then engagedPass s i a x mode (dms.getD a.master 0)
      else let (s, x) := markPass s i a { x with mode := mode }; (s, holdActual x act)
    writeAxis s i a x (setpointQuality s a x act)

/-! ## The pass (R42, R103) -/

/-- Whether a shaft-feed task has not reached its END (R42). -/
def feedLate (s : State) : Bool :=
  match s.image with
  | none => false
  | some im => im.tasks.any (fun k => k.cls == 0 && k.shaftFeed && !(s.task k.task).ended)

/-- A list with its positions. -/
def numbered {α : Type} (xs : List α) : List (Nat × α) := (List.range xs.length).zip xs

/-- Whether an axis entered FAULT on its own following error in this pass and stops its group. -/
def stopsGroup (prev : State) (s : State) (e : Nat × AxisRec) : Bool :=
  e.2.groupStop && (prev.axis e.1).mode != .fault && !(prev.axis e.1).groupStop && (s.axis e.1).mode == .fault

/-- The masters in index order, then the axes in index order; group stops act from the next pass. -/
def shaftPass (s : State) (im : Image) (faults : LaneFaults) : State :=
  let before := (List.range im.masters.length).map (fun i => (s.master i).m)
  let s := (numbered im.masters).foldl (masterPass faults) s
  let dms := (numbered before).map (fun e => sdiff (s.master e.1).m e.2)
  let t := (numbered im.axes).foldl (axisPass faults dms) s
  (((numbered im.axes).filter (stopsGroup s t)).foldl (fun t e => groupStop t e.1 e.2) t).markPages
    ((List.range im.masters.length).map (Config.statePage 2) ++ (List.range im.axes.length).map (Config.statePage 3))

/-- ENGINE_PASS: at 36 µs (R42, R103). -/
def execEnginePass (laneFaults : LaneFaults) (s : State) : Host.Outcome State Fault Refusal :=
  if s.ticking && s.computes then
    let s := s.at 36000
    let late := feedLate s
    let s := if late then s.note F.TICK_STATUS.SHAFT_FEED_LATE else s
    let s := s.withPair (fun p => { p with own1 := some (0, false, late) })
    match s.image with
    | none => .next s
    | some im => .next (shaftPass s im laneFaults)
  else .next s

end Sys2Proof.Machine
end

