-- ==== Sys2Proof/Machine/Tamper.lean ====
section
/-! DEFINITION. Tamper (R331, R332) and re-keying. -/

namespace Sys2Proof.Machine

open Sys2Proof

/-- Change Skerry. -/
def State.withSkerry (s : State) (f : SkerrySt → SkerrySt) : State := { s with skerry := f s.skerry }

/-- Zeroising clears the wrapping key, every unwrapped key and every session key; a re-keying under way is aborted
(R332). -/
def zeroise (s : State) : State :=
  let s := (s.setFld F.SKERRY_STATUS.KEYS 0).setDword A.SKERRY_FP_LO 0
  closeAll (s.withSkerry (fun k => { k with rekeying := false, deviceKey := [] }))

/-- Whether a key operation runs: re-keying, or the verification of an image (R332). -/
def keyOperation (s : State) : Bool := s.skerry.rekeying || loaderState s == ldVerifying

/-- The moment of a tamper, as SKERRY_TAMPER.MOMENT shows it (R332). SAFE and TAMPER_HOLD count as running. -/
def tamperMoment (s : State) : Nat :=
  if s.power.held then 2
  else if keyOperation s then 3
  else if s.mode = stStart && s.fld F.PWR_STATUS.START_STEP != 9 then 0
  else 1

/-- A sensor sets its bits and enters the tamper log of the last 16 events (R331). -/
def logTamper (s : State) (sensor moment : Nat) (clock : DWord) : State :=
  let s := s.setFld F.SKERRY_STATUS.LIVE (s.fld F.SKERRY_STATUS.LIVE ||| 2 ^ sensor)
  let s := s.setFld F.SKERRY_TAMPER.SENSOR (s.fld F.SKERRY_TAMPER.SENSOR ||| 2 ^ sensor)
  let s := s.setFld F.SKERRY_TAMPER.MOMENT moment
  s.withSkerry (fun k => { k with log := (⟨sensor, moment, clock, moment == 2⟩ :: k.log).take 16 })

/-- Tamper at once returns the loader to IDLE and discards the staged image; a store in progress completes (R92, R332). -/
def loaderTamper (s : State) : State := if loaderState s = ldIdle then s else loaderFail s 8

/-- Domains 76 to 95 (R318). -/
def coreDomainList : List Nat := (List.range 20).map (· + 76)

/-- Domains 76 to 95 are taken to ON: those that are OFF ramp up (R318, R319). -/
def coreDomains (s : State) : State := coreDomainList.foldl requestOn s

/-- The start-up sequence stops in TAMPER_HOLD (R32, R33, R326); N00, the Strait and the other domains of R318 are taken to
ON there (R198, log entry 146). -/
def tamperHold (s : State) : State :=
  ((endPairing (loaderTamper (coreDomains s))).setFld F.PWR_STATUS.START_STEP 0).become stTamperHold 1

/-- A tampered module goes on with its loaded image and refuses commands (R33, R332). -/
def tamperRunning (s : State) : State :=
  yieldIfDue (showSessions (loaderTamper (s.setFlag F.SYS_STATE.TAMPERED true)))

/-- The outcome of a tamper sensed in START before its last step, or later (R332). -/
def tamperOutcome (s : State) : State :=
  if s.mode = stStart && s.fld F.PWR_STATUS.START_STEP != 9 then showSessions (tamperHold s) else tamperRunning s

/-- TAMPER: a sensor fires (R331, R332). `clock` is the Skerry clock at that instant. -/
def execTamper (sensor : Nat) (clock : DWord) (s : State) : Host.Outcome State Fault Refusal :=
  let moment := tamperMoment s
  let s := logTamper s sensor moment clock
  if s.power.held then .next (zeroise s)
  else .next (tamperOutcome (zeroise (s.raise 13 1 0 (d1 (2 ^ sensor) ++ d1 moment))))

/-- TAMPER_SENSOR_CLEARED: the condition of a sensor ends (R331). -/
def execTamperSensorCleared (sensor : Nat) (s : State) : Host.Outcome State Fault Refusal :=
  let live := s.fld F.SKERRY_STATUS.LIVE
  .next (if live.testBit sensor then s.setFld F.SKERRY_STATUS.LIVE (live - 2 ^ sensor) else s)

/-- RE_KEY: ENTER has been held in the RE-KEY menu (R335); the crypto engine begins to generate a device key and a wrapping
key. A module in TAMPER_HOLD must first be reset (R332). -/
def execReKey (s : State) : Host.Outcome State Fault Refusal :=
  .next (if !enterHeldIn s .reKey || s.mode = stTamperHold || s.power.held then s
    else (s.withSkerry (fun k => { k with rekeying := true })).withPanel (fun p => { p with enterHeld := 0 }))

/-- The fingerprint of a device public key: the first 8 bytes of its SHA-384, byte 0 lowest (SKERRY_FP). -/
def fingerprint (key : List Byte) : DWord := BitVec.ofNat 64 (leAt (sha384 key) 0 8)

/-- RE_KEYING_DONE: the keys are unwrapped, TAMPERED is cleared; `key` is the new device public key. -/
def execReKeyingDone (key : List Byte) (s : State) : Host.Outcome State Fault Refusal :=
  if s.skerry.rekeying then
    let fp := fingerprint key
    let s := s.withSkerry (fun k => { k with rekeying := false, deviceKey := key })
    let s := (s.setFld F.SKERRY_STATUS.KEYS 2).setDword A.SKERRY_FP_LO fp
    let s := (s.setFlag F.SYS_STATE.TAMPERED false).setFlag F.CROWN_STATUS.YIELD_PENDING false
    .next ((showSessions s).raise 13 3 0 (leBytes 8 fp.toNat))
  else .next s

end Sys2Proof.Machine
end

