-- ==== Sys2Proof/Machine/Startup.lean ====
section
/-! DEFINITION. The start-up order (R326): one definition per step, what each reads from MRAM, the flashes and Skerry, the
choice of the bank (R227), and the way out of START (R32, R87, R158, R170). -/

namespace Sys2Proof.Machine

open Sys2Proof

/-! ## Step 1: supervisor and Skerry (R324, R329 to R332) -/

/-- Skerry lost its power: the keys count as zeroised, slots 1 to 7 are empty, the clock is invalid, the token count
restarts, the service port takes its default addresses (R330, R336). -/
def skerryLost (s : State) : State :=
  let s := (zeroise s).withSkerry (fun k => { k with
    slots := k.slots.take 1 ++ List.replicate 7 none, clockValid := false })
  let s := ((s.setFld F.EVR_TOKENS.TOKENS 0).setReg A.PANEL_SVC_IP4 0xC0A8600A).setReg A.PANEL_SVC_PFX 0x4018
  { s with panel := { s.panel with ip6 := PanelSt.initial.ip6 } }

/-- A tamper event kept in Skerry while unpowered is copied to the recorder (R309, R332). -/
def copyTamper (s : State) (e : TamperEv) : State :=
  let r : RawEvent := ⟨BitVec.ofNat 64 (e.clock.toNat * 1000000000 / 32768), 0, 13, 1, s.tick, s.mode, 0,
    detail12 (d1 (2 ^ e.sensor) ++ d1 e.moment), true, true⟩
  s.withRecorder (fun q => { q with raised := q.raised ++ [r] })

/-- Every event that waits is copied, oldest first. -/
def copyTampers (s : State) : State :=
  let s := ((s.skerry.log.filter (fun e => e.uncopied)).reverse).foldl copyTamper s
  s.withSkerry (fun k => { k with log := k.log.map (fun e => { e with uncopied := false }) })

/-- A sensor is live at step 1: a tamper sensed at that step (R326). -/
def liveAtStart (s : State) : State :=
  let live := s.fld F.SKERRY_STATUS.LIVE
  let s := (s.setFld F.SKERRY_TAMPER.SENSOR (s.fld F.SKERRY_TAMPER.SENSOR ||| live)).setFld F.SKERRY_TAMPER.MOMENT 0
  tamperOutcome (zeroise (s.raise 13 1 0 (d1 live ++ d1 0)))

/-- Step 1: the power-cycle count, the state of Skerry; with no key to unwrap the module runs tampered (R332). -/
def startStep1 (s : State) (x : StartIn) : State :=
  let s := if s.fld F.PWR_STATUS.RESET_KIND ≤ 1 then s.setReg A.SKERRY_CYCLES (s.reg A.SKERRY_CYCLES + 1) else s
  let s := (s.setFlag F.SKERRY_STATUS.CELL_LOW x.cellLow).setFlag F.SKERRY_STATUS.LOST x.skerryLost
  let s := if x.skerryLost then skerryLost (skerryError s x.skerryAt) else s
  let s := copyTampers (s.withSkerry (fun k => { k with clock := x.clock }))
  if s.fld F.SKERRY_STATUS.LIVE ≠ 0 then liveAtStart s
  else
    let s := if s.fld F.SKERRY_STATUS.KEYS = 0 then showSessions (s.setFlag F.SYS_STATE.TAMPERED true) else s
    s.setFld F.PWR_STATUS.START_STEP 2

/-! ## Steps 2 and 3 -/

/-- Whether the nine straps hold an even number of 1s (R341). -/
def strapsEven (x : StartIn) : Bool :=
  (((List.range 8).filter (fun i => x.slot.getLsbD i)).length + b2n x.strapP) % 2 == 0

/-- Step 2: the straps; a fault holds the module here (R326, R341). With the step's end domains 76 to 95 begin to ramp, so that
they can be ON in step 3 (R318, R319). -/
def startStep2 (s : State) (x : StartIn) : State :=
  let s := (s.setFld F.SYS_SLOT.SLOT x.slot.toNat).setFlag F.SYS_SLOT.STRAP_FAULT (!strapsEven x)
  if strapsEven x then coreDomains (s.setFld F.PWR_STATUS.START_STEP 3) else s

/-- The time counter from the Skerry clock (R173, R174). -/
def clockNs (c : DWord) : DWord := BitVec.ofNat 64 (c.toNat * 1000000000 / 32768)

/-- Step 3 ends when domains 76 to 95 are ON; the time counter is loaded (R173, R318). -/
def startStep3 (s : State) (x : StartIn) : State :=
  if coreDomainList.all s.domOn then
    let s := s.withSkerry (fun k => { k with clock := x.clock })
    (s.setNow (clockNs x.clock) 0).setFld F.PWR_STATUS.START_STEP 4
  else s

/-! ## Step 4: memories and records (R157, R211, R233, R330) -/

/-- The journal at start-up: its head is the valid record with the highest JSEQ, failed records are counted (R211). A record
past the head stands, in the ring, where the oldest do. -/
def readJournal (s : State) : State :=
  let good := s.journal.filter recordOk
  let n := s.journal.length - good.length
  let next := if good.isEmpty then s.jseq.toNat else good.foldl (fun m r => max m (r.jseq.toNat + 1)) 0
  let s : State := { s.setDword A.JNL_NEXT_LO (BitVec.ofNat 64 next) with
    journal := s.journal.filter (fun (r : JRec) => decide (r.jseq.toNat < next)) ++
      s.journal.filter (fun (r : JRec) => !decide (r.jseq.toNat < next)) }
  let s := s.setFld F.JNL_STATUS.BAD (min n 255)
  let s := s.setFld F.JNL_STATUS.FILL s.journal.length
  if n = 0 then s else s.raise 14 1 0 (d4 n)

/-- The newest checkpoint record among the last 68,000 (R330). -/
def newestCheckpoint (s : State) : Option EvRecord :=
  (s.recorder.halfA.take 68000).find? (fun r => r.ev.cls == 16 && r.ev.code == 2)

/-- The counts of a lost Skerry are rebuilt from the newest checkpoint (R330); without one they are free values (log entry
42). -/
def rebuildCounts (s : State) : State :=
  match newestCheckpoint s with
  | none =>
    (((s.setReg A.SKERRY_CYCLES (Config.lostCount 0)).setReg A.SKERRY_KEYCNT (Config.lostCount 1)).setReg
      A.SKERRY_OPTIME_LO (Config.lostCount 2)).setReg A.SKERRY_OPTIME_HI (Config.lostCount 3)
  | some r =>
    let keys := leVal (r.ev.detail.take 4)
    let s := (s.setReg A.SKERRY_CYCLES (r.cycles + 1)).setReg A.SKERRY_KEYCNT (BitVec.ofNat 32 keys + 1)
    (s.setDword A.SKERRY_OPTIME_LO r.optime).raise 16 3 0 (leBytes 8 r.index)

/-- A trim table with a unit in neither copy is lost whole (R284); then the registers take it. -/
def takeTrims (s : State) (lost : List Nat) : State :=
  let s := if lost.any (fun u => decide (u < trimUnits)) then
      (retainedPut s 0 (List.replicate trimBytes 0)).note F.MEM_EVENT.RETAINED_INIT
    else s
  loadTrims s

/-- The retained data that no image lays out is read: the trim table (R235, R284; log entry 104). -/
def readTrims (s : State) : State :=
  let (s, lost) := retainedLoad s 0 trimUnits
  takeTrims s lost

/-- Step 4: SRAM and DRAM hold zeros, retained data, the epoch and the journal are read, the checkpoint of this start is
written. -/
def startStep4 (s : State) (x : StartIn) : State :=
  let s := s.setFlag F.MEM_STATUS.INIT_DONE true
  let s := if x.epochRecordOk then s else (s.setFld F.CROWN_STORED.EPOCH 0).raise 0 7 0 []
  let s := readJournal (readTrims s)
  let s := if s.flag F.SKERRY_STATUS.LOST then rebuildCounts s else s
  s.checkpointRecord.setFld F.PWR_STATUS.START_STEP 5

/-! ## Step 5: the bank and its image (R227, R235) -/

/-- Whether a bank holds a COMMITTED image. -/
def bankGood (s : State) (b : Nat) : Bool := bankState (s.bank b) == bkCommitted

/-- Sequence number and digest that a bank's COMMIT names. -/
def bankSeq (s : State) (b : Nat) : Word := ((commitMarker (s.bank b)).map (fun m => m.seq)).getD 0
def bankDigest (s : State) (b : Nat) : List Byte := ((commitMarker (s.bank b)).map (fun m => m.digest)).getD []

/-- The active-bank record, when MRAM delivers it without an uncorrectable error and its check passes (R227). -/
def activeRecord (s : State) (x : StartIn) : Option ActiveRec := if x.activeRecordOk then readActive s.activeRec else none

/-- The bank that a valid active-bank record names, whatever that bank holds. -/
def recordBank (s : State) (x : StartIn) : Option Nat := (activeRecord s x).map (fun r => r.bank)

/-- The bank of a valid record that matches it (R227). -/
def matchedBank (s : State) (x : StartIn) : Option Nat :=
  match activeRecord s x with
  | none => none
  | some r =>
    if bankGood s r.bank && bankSeq s r.bank == r.seq && (bankDigest s r.bank).take 4 == r.dig4
    then some r.bank else none

/-- The image that a running partner reports (R150). -/
def partnerImage (s : State) : Option Word :=
  match s.pair.status with
  | none => none
  | some p => if 2 ≤ p.state ∧ p.state ≤ 4 then some p.imageSeq else none

/-- The order in which banks are tried (R227). -/
def bankOrder (s : State) (x : StartIn) : List Nat :=
  match matchedBank s x with
  | some b => [b, 1 - b]
  | none =>
    let act := fun (b : Nat) => bankActivated (s.bank b)
    let held := (partnerImage s).bind (fun q => [0, 1].find? (fun b => bankGood s b && bankSeq s b == q))
    match held with
    | some b => b :: [1 - b].filter act
    | none => (if bankSeq s 0 < bankSeq s 1 then [1, 0] else [0, 1]).filter act

/-- The first check that a candidate fails: the COMMIT digest against the data area, then checks 1, 2 and 4 to 7 of R91
with the header's core mode (R86, R227). -/
def candidateFails (s : State) (b : Nat) : Option Nat :=
  match commitMarker (s.bank b) with
  | none => some Config.digestCheck
  | some c =>
    let bs := bankBytes (s.bank b) c.length
    if (readImage bs).digest != c.digest then some Config.digestCheck
    else failedCheck s bs c.length c.length c.seq none (u8At bs 32)

/-- The first committed bank that passes; each refused one is counted and recorded (R227). -/
def chooseBank (x : StartIn) : State → List Nat → State × Option Nat
  | s, [] => (s, none)
  | s, b :: rest =>
    if !bankGood s b then chooseBank x s rest
    else match candidateFails s b with
      | none => (s, some b)
      | some n => chooseBank x ((s.count F.CFG_ERR.LOAD 1).raise 7 3 b (d1 n ++ [0, 0, 0] ++ d4 (bankSeq s b).toNat)) rest

/-- The retained area of an image from MRAM; a variable with a unit in neither copy takes its initial value (R235), and a trim
table with one is lost whole (R284). -/
def loadRetained (s : State) (im : Image) : State :=
  let init := s.retained
  let (s, lost) := retainedLoad s trimUnits (retainedUnits im)
  let s := lost.foldl (fun s u => retainedPut s (retUnitBytes * u) (bytesAt init (retUnitBytes * u) retUnitBytes)) s
  let hit := fun (r : RetainedRec) => lost.any (fun u =>
    decide (r.off < retUnitBytes * (u + 1)) && decide (retUnitBytes * u < r.off + r.size))
  let vars := im.retained.filter (fun r => r.area == 0 && hit r)
  let s := vars.foldl (fun s r => retainedPut s r.off (bytesAt init r.off r.size)) s
  let s := if vars.isEmpty then s else (s.note F.MEM_EVENT.RETAINED_INIT).raise 8 2 0 (d4 vars.length)
  takeTrims s lost

/-- A bank's image becomes the running one; a bank that the record does not name is a fallback, one that was never
activated is now (R227). -/
def loadBank (s : State) (x : StartIn) (b : Nat) : State :=
  let im := readImage (bankBytes (s.bank b) (((commitMarker (s.bank b)).map (fun m => m.length)).getD 0))
  let s := loadRetained (installImage (showMode s im.coreMode) im) im
  let s := (s.setFld F.CFG_STATUS.ACTIVE b).setFlag F.CFG_STATUS.LOADED true
  let s := if recordBank s x = some b then s
    else { s.setFlag F.CFG_STATUS.FALLBACK true with activeRec := activeBytes b im.seq im.digest }
  let s := if bankActivated (s.bank b) then s else s.withLoader (fun l => { l with activate := some b })
  (powerNeeded s im).setFld F.PWR_STATUS.START_STEP 6

/-- No bank holds a valid image: SAFE, with the keys unwrapped unless tamper has been sensed (R32, R101, R326). -/
def startSafe (s : State) : State := (leaveStart s).become stSafe 2

/-- Step 5. -/
def startStep5 (s : State) (x : StartIn) : State :=
  let s := showBanks s
  let s := if (matchedBank s x).isSome then s else (s.raise 7 4 0 []).setFlag F.CFG_STATUS.RECORD_BAD true
  match chooseBank x s (bankOrder s x) with
  | (s, none) => startSafe s
  | (s, some b) => loadBank s x b

/-! ## Steps 6 and 7 -/

/-- Step 6 ends when no domain that the image needs is on its way; then REGINIT is applied and the fail-direction straps
are read (R222, R278). -/
def startStep6 (s : State) (x : StartIn) : State :=
  match s.image with
  | none => s
  | some im =>
    if im.power.any (fun d => let v := s.dom d; v == domRamping || v == domDraining || v == domPending) then s
    else (readStraps (initUnits s im) x.strapsAna).setFld F.PWR_STATUS.START_STEP 7

/-- Step 7 ends when the time is acquired (R176). -/
def startStep7 (s : State) : State := if s.acquired then s.setFld F.PWR_STATUS.START_STEP 8 else s

/-! ## Steps 8 and 9: the way out of START (R32, R87, R158, R170) -/

/-- Whether the Strait has not trained within 2 s after the acquisition (R17, R32). -/
def straitAbsent (s : State) : Bool := !s.trained && decide (2000000000 * 256 + (s.time.acqFrac : Int) ≤ sdiff s.now s.time.acqAt * 256 + (s.nowFrac : Int))

/-- Step 8 ends with a decision on the running state. -/
def decideStart (s : State) (state epoch : Nat) : State :=
  (s.withPower (fun p => { p with startAs := some state, startEpoch := epoch })).setFld F.PWR_STATUS.START_STEP 9

/-- Step 8: SOLO without a partner, a joint start with a partner that is also in START with its image loaded in the same core
mode, resynchronisation with a running partner (R32, R87, R170). -/
def startStep8 (s : State) (x : StartIn) : State :=
  let s := s.withPower (fun p => { p with partnerMode := x.partnerMode })
  if !s.flag F.SYS_SLOT.PARTNER_PRESENT || straitAbsent s then decideStart s stSolo 0
  else if !s.trained then s
  else match s.pair.status with
    | none => s
    | some p =>
      if p.state = stStart then
        if p.imageSeq = 0 then s
        else if x.partnerMode ≠ s.coreMode then modeConflict s x.partnerMode
        else decideStart s (if s.parity = 1 then stPrimary else stStandby) p.epoch
      else if 2 ≤ p.state ∧ p.state ≤ 4 then
        if s.resync.role = .idle && s.resync.retryAt.isNone then joinRequest s
        else s
      else s

/-- Step 9: in the guard window before the first tick the keys are unwrapped, the epoch is raised and the module leaves
START (R157, R158, R326). -/
def startStep9 (s : State) : State :=
  match s.power.startAs with
  | none => s
  | some v =>
    let e := s.power.startEpoch
    let s := leaveStart (s.withPower (fun p => { p with startAs := none, startEpoch := 0, startResets := 0 }))
    if v = stSolo then (s.raiseEpoch 3).become stSolo 3
    else (s.raiseEpochFrom (max s.epoch e) 9).become v 9

/-- START_STEP: the present step of the start-up order ends, unless what it waits for is not there; a stuck or unpowered
module stays (R323, R325, R326). -/
def startStep (s : State) (x : StartIn) : State :=
  if s.mode ≠ stStart || s.power.held || s.flag F.PWR_STATUS.START_STUCK then s
  else match s.fld F.PWR_STATUS.START_STEP with
    | 1 => startStep1 s x
    | 2 => startStep2 s x
    | 3 => startStep3 s x
    | 4 => startStep4 s x
    | 5 => startStep5 s x
    | 6 => startStep6 s x
    | 7 => startStep7 s
    | 8 => startStep8 s x
    | 9 => startStep9 s
    | _ => s

/-- START_STEP (R326). -/
def execStartStep (x : StartIn) (s : State) : Host.Outcome State Fault Refusal := .next (startStep s x)

end Sys2Proof.Machine
end

