-- ==== Sys2Proof/Machine/Window.lean ====
section
/-! DEFINITION. The windows of a tick (R26, R34 to R48, R155): the edge, the ring deadline, Carding, the compute window,
its stop, the freeze of the output image and the comparison of digests. -/

namespace Sys2Proof.Machine

open Sys2Proof

/-! ## Class cycles (R36, R46, R47) -/

/-- Whether a cycle of class index `k` can start at tick `n` (R12, R36). -/
def cycleStart (k : Nat) (n : DWord) : Bool := n.toNat % classTicks k == 0

/-- The TASK records of a class. -/
def classTasks (s : State) (k : Nat) : List TaskRec :=
  match s.image with
  | none => []
  | some im => im.tasks.filter (fun x => x.cls == k)

/-- Whether every task of a class has reached its END (R48). -/
def classDone (s : State) (k : Nat) : Bool := (classTasks s k).all (fun x => (s.task x.task).ended)

/-- CONSEC of a class. -/
@[reducible] def consecFld (k : Nat) : Fld := F.TICK_CLS_OVR0.CONSEC.nth k

/-- A bit of TICK_OVR. -/
def setOvr (s : State) (b : Nat) : State := s.setReg A.TICK_OVR (s.reg A.TICK_OVR ||| BitVec.ofNat 32 (2 ^ b))

/-- A cycle start that finds its class unfinished is skipped (R47). -/
def skipCycle (s : State) (k : Nat) : State :=
  let before := s.fld (consecFld k)
  let s := s.count (consecFld k) 1
  let n := s.fld (consecFld k)
  if n = s.fld F.TICK_CTRL.SKIP_LIMIT ∧ before < n then
    (setOvr s (8 + k)).raiseAt (s.cls k).cycle 1 2 k (d1 n)
  else s

/-- Whether a task stopped by an unresolved mismatch waits for the verdict of the self-test that it started: only if that
passes does the task run again (R76). -/
def awaitsVerdict (s : State) (t : TaskSt) : Bool :=
  t.unresolved && (s.flag F.CHK_STATUS.VERDICT_BUSY || s.flag F.CHK_STATUS.VERDICT_QUEUED)

/-- A task at a cycle start: activated at its turn, or counted as ended while it is disabled or waits for a verdict (R50,
R70, R76). -/
def taskStarts (s : State) (x : TaskRec) : State :=
  let t := s.task x.task
  s.setTask x.task { t with
    active := false, ended := s.flag (F.CORE_TASK_STATE.DISABLED.item x.task) || awaitsVerdict s t, cycle := s.tick }

/-- A cycle of class `k` begins in this tick (R36). -/
def startCycle (s : State) (k : Nat) : State :=
  let s := s.setCls k { s.cls k with running := true, cycle := s.tick, overrun := false, buffer := [] }
  (classTasks s k).foldl taskStarts s

/-- The cycle starts of a tick. -/
def classEdge (s : State) : State :=
  (List.range 8).foldl (fun s k =>
    if cycleStart k s.tick then (if (s.cls k).running then skipCycle s k else startCycle s k) else s) s

/-! ## Local inputs (R22, R358) -/

/-- A module diagnostics point (R358). -/
def diagnosticValue (s : State) (point : Nat) : DWord :=
  let u := fun (a : Nat) => (s.reg a).setWidth 64
  match point with
  | 0 => u A.SYS_STATE | 1 => u A.CROWN_OWN | 2 => u A.CROWN_PARTNER | 3 => u A.STRAIT_STATUS | 4 => u A.TIME_STATUS
  | 5 => (s.reg A.TIME_OFFSET).signExtend 64
  | 6 => u A.TICK_OVR | 7 => u A.CHK_STATUS | 8 => u A.PWR_STATUS | 9 => u A.SKERRY_STATUS | 10 => u A.HOOD_RUN_SEQ
  | _ => u A.CFG_STATUS

/-- The value of a local input at the edge, by its station (R8). -/
def localItem (s : State) (g : SignalRec) : Slot :=
  let p := hPoint g.handle
  match hStation g.handle with
  | 0 => anaItem s (p / 64) (p % 64) g.value
  | 1 => dioItem s (p / 4) (p % 4) g.value
  | 2 => canItem s (p / 64) (p % 64) g.value
  | 3 => serItem s (p / 64) g.value
  | _ => ⟨diagnosticValue s p, .good⟩

/-- Sample the local inputs of the stations that a test names into the module's own image (R22). -/
def sampleLocal (s : State) (station : Nat → Bool) : State :=
  let put := fun (m : SlotMap) (g : SignalRec) => Sparse.set slotDefault m g.slot (localItem s g)
  { s with localOwn := ((localInputs s).filter (fun g => station (hStation g.handle))).foldl put s.localOwn }

/-- The bytes of the CARD of ring 63: 8 value bytes and a quality byte per local input in image order (log entry 34). -/
def localCardBytes (s : State) : List Byte :=
  (localInputs s).flatMap (fun g =>
    let x := s.inSlot g.slot
    beBytes 8 x.val.toNat ++ d1 x.q.code)

/-- The crown holder's local inputs enter its image; a PRIMARY forwards them as ring 63 (R22, R153). -/
def cardLocal (s : State) : State :=
  if s.holds then
    let s := takeLocalOwn s
    if s.mode = stPrimary then
      let lane := match s.image with
        | none => 0
        | some im => ((im.rings.find? (fun r => r.ring == 63)).map (fun r => r.lane)).getD 0
      let bytes := localCardBytes s
      s.straitOn lane 2 0 [63, bytes.length, 0x1F] bytes
    else s
  else s

/-! ## The edge (R26, R35, R150, R159) -/

/-- The crown lines and the presence line as sampled after an edge; the own CLA toggles (R159, R161). -/
def sampleLines (s : State) (e : EdgeIn) : State :=
  let s := s.setFlag F.SYS_SLOT.PARTNER_PRESENT e.present
  let s := (s.setFlag F.CROWN_STATUS.CLA_TOGGLED (e.cla != s.pair.claLevel)).setFlag F.CROWN_STATUS.CLH_IN e.clh
  let own := !s.pair.ownCla
  (s.withPair (fun p => { p with presLine := e.presentLate, claPrev := p.claLevel, claLevel := e.cla, ownCla := own })).emit (.crownLines own s.holds)

/-- STATUS payload: state, the six flags, lane-up mask, stored epoch, running image, loader state (R150). -/
def statusVals (s : State) : List Nat :=
  let verdict := s.flag F.CHK_STATUS.VERDICT_BUSY || s.flag F.CHK_STATUS.VERDICT_QUEUED
  [s.mode, b2n s.tampered + 2 * b2n (s.flag F.STRAIT_STATUS.IN_STEP) + 4 * b2n s.pair.cleanLast +
     8 * b2n (s.flag F.CHK_STATUS.SPLIT_BUSY) + 16 * b2n verdict + 32 * b2n (s.fld F.STRAIT_STATUS.COPY != 0),
   s.pair.rxLanes.toNat, s.epoch, (runningSeq s).toNat, loaderState s]

/-- STATUS leaves on every lane that holds block lock and whose domain is ON, from step 3 of the start-up order on
(R147, R150). -/
def sendStatus (s : State) (n : DWord) : State :=
  if s.mode = stStart && decide (s.fld F.PWR_STATUS.START_STEP < 3) then s
  else (List.range 8).foldl (fun s l =>
    if s.pair.blockLock.getLsbD l && s.domOn (77 + l) then
      { s.emit (.strait l
          (straitMessage 1 0 (s.reg A.CROWN_OWN) n s.pair.seq (straitPayload 1 0 (statusVals s) []))) with
        pair := { s.pair with seq := (s.pair.seq + 1) % 65536 } }
    else s) s

/-- What the pair holds of one tick starts anew. -/
def clearTick (s : State) : State :=
  let s := (s.setFld F.STRAIT_STATUS.PARTNER_STATE 7).setReg A.CROWN_PARTNER 0
  let s := s.withPair (fun p => { p with
    heard := false, own1 := none, part1 := none, part2 := none, localCarded := false, cardingOver := false, missPrev := p.missNow,
    missNow := false, diverged := false })
  let s := s.rings.foldl (fun s e => s.setRing e.1 { s.ring e.1 with own := [], passing := [], carded := false, back := none, ret := none, window := 0 }) s
  let s := s.setFlag F.CHK_STATUS.UNCLEAN false
  s.withCheck (fun c => { c with halted := [], odd := if s.tick.toNat % 1024 = 0 then [] else c.odd })

/-- The frames of a ring leave with the outputs committed in the last tick: one in the module's direction, in SOLO one in
each (R121, R130, R137). -/
def sendFrames (s : State) (im : Image) (r : RingRec) : State :=
  let k := r.ring
  if k < 48 && ringSends s k then
    let payload := ringPayload im (fun g => Sparse.get slotDefault s.committed g.slot) r
    let body := frameHeader (s.reg A.CROWN_OWN) s.tick k 0 (s.ring k).hops 0xFF s.loader.bankBit r.payload im.seq ++ payload
    let send := fun (s : State) (dir : Bool) => s.emit (.frame k dir (frameCells r.cells dir (s.parity == 1) body))
    (trainDirs s).foldl send s
  else s

/-- The trains of an edge: the idle cells of every ring, and the frames of the image's rings among them (R126, R130). -/
def sendTrains (s : State) : State :=
  let s := (List.range 48).foldl sendTrain s
  match s.image with
  | none => s
  | some im => im.rings.foldl (fun s r => sendFrames s im r) s

/-- Starts that cycle starts give the local units: triggers by class and converters by class (R189, R262). -/
def cycleStarts (s : State) (k : Nat) : State :=
  let s := triggerCycle s k
  (List.range 32).foldl (fun s c =>
    if s.fld (F.ANA_CH_CFG.ISTART.item c) = 2 && s.fld (F.ANA_CH_CFG.ICLASS.item c) == k then anaStart s c (edgeNs s.tick) else s) s

/-- The local units at an edge: outputs applied, stamps latched, inputs sampled (R26, R263, R277, R291, R301, R303). -/
def unitsEdge (s : State) (e : EdgeIn) : State :=
  let s := (List.range 32).foldl (fun s c => adoptResult s (edgeNs s.tick) c) s
  let held := strapsDisagree s
  let s := if s.tick.toNat % 1024 = 0 then readStraps s e.straps else s
  let s := dioEdge ((List.range 32).foldl (applyOutput held) s)
  let s := mappedRequests (latchStamps s e.canCounts)
  let s := s.setFld F.CONV_REF_STATUS.WARM (s.fld F.CONV_REF_STATUS.WARM - 1)
  let s := ((List.range 8).filter (fun k => cycleStart k s.tick)).foldl cycleStarts s
  sampleLocal s (fun st => st != 1)

/-- An arm whose query the partner has not answered within 2 ticks returns TIMEOUT (R93, R207). -/
def armTimeout (s : State) : State :=
  match s.loader.asking with
  | none => s
  | some t => if 2 ≤ sdiff s.tick t then (answerWait s 0x24 rcTimeout []).withLoader (fun l => { l with asking := none }) else s

/-- Whether a host's station request has found no tag for three acyclic timeouts: with the one that its tag could still take
it would reach the four of R207 (log entry 118). -/
def requestLate (s : State) (k : Nat) (q : AcycReq) : Bool :=
  match q.owner with
  | .host _ _ => q.tag.isNone && decide (3 * s.fld (F.RING_CTRL.ACYC_TIMEOUT.ring k) ≤ (s.tick - q.sent).toNat)
  | _ => false

/-- Station requests of a ring that wait too long end with TIMEOUT (R207). -/
def expireRequests (s : State) (k : Nat) : State :=
  let late := (s.ring k).reqs.filter (requestLate s k)
  if late.isEmpty then s
  else late.foldl (fun s q => deliverTimeout s k q) (setReqs s k ((s.ring k).reqs.filter (fun q => !requestLate s k q)))

/-- Shadow tables of an armed image load when the module newly presents rank 3 (R95). -/
def newHolder (s : State) (before : Word) : State :=
  if s.rank = 3 && crownRank before != 3 && loaderState s == ldArmed then
    (List.range 48).foldl (fun s k => if s.domOn k then loadRingShadows s k else s) s
  else s

/-- The commit count of the tick watchdog (R325). -/
def countCommit (s : State) : State :=
  s.withPower (fun p => { p with
    noCommit := if s.running && !p.committed then p.noCommit + 1 else 0, committed := false })

/-- Edge `n` while ticks run. Class cycles start only while the module computes: ticks that run in START start none, and the
first cycle of class Tk begins at the first multiple of k after a running state is entered, which R36 and R326 leave open
(DESIGN CHOICE, log entry 138). Outputs of a commit that is the module's last in step are applied at the edge that R39
gives them, and held from then on (R169). -/
def runEdge (s : State) (e : EdgeIn) (n : DWord) : State :=
  let before := s.reg A.CROWN_OWN
  let s := ((s.setDword A.SYS_TICK_LO n).setNow (edgeNs n) 0).window 0
  let s := (clearTick (countCommit s)).setReg A.CROWN_OWN s.crown
  let s := sendStatus (sampleLines s e) n
  let s := verdictTick (splitTick s)
  let s := if s.computes then classEdge s else s
  let s := sendTrains s
  let s := unitsEdge s e
  let s := if s.computes then s else { s with committedPrev := s.committed }
  let s := if n.toNat % 1024 = 0 then queueStampReads s else s
  newHolder (armTimeout ((s.rings.map Prod.fst).foldl expireRequests s)) before

/-- Whether the edge `n` is the first tick: at least 62,500 ns after the acquisition step (R35). -/
def firstTick (s : State) (n : DWord) : Bool :=
  s.acquired && decide (62500 * 256 + (s.time.acqFrac : Int) ≤ sdiff (edgeNs n) s.time.acqAt * 256)

/-- An edge of the time counter while no tick runs: lines are sampled, STATUS and idle cells are sent (R126), and analogue outputs are driven to their
fail values, CAN stamps are latched (R33, R150, R159, R173, R301). -/
def idleEdge (s : State) (e : EdgeIn) (n : DWord) : State :=
  let s := (s.setFld F.STRAIT_STATUS.PARTNER_STATE 7).setReg A.CROWN_PARTNER 0
  let s := (s.setReg A.CROWN_OWN s.crown).setNow (edgeNs n) 0
  let s := latchStamps ((List.range 48).foldl sendTrain (sendStatus (sampleLines s e) n)) e.canCounts
  if s.running then s else (List.range 32).foldl (applyOutput []) s

/-- TICK_EDGE: edge n of the time counter (R26, R35). A COMMAND reset waits for the end of the guard window (PWR_RESET). -/
def execTickEdge (e : EdgeIn) (s : State) : Host.Outcome State Fault Refusal :=
  .next (
    if s.power.held then s
    else if s.power.resetDue then resetModule s 3
    else if s.ticking then runEdge (flushFirst s) e (s.tick + 1)
    else if firstTick s e.tickBefore then runEdge (armImageTriggers ((s.setFlag F.TICK_STATUS.RUNNING true).setNow (edgeNs e.tickBefore) 0)) e e.tickBefore
    else idleEdge s e e.tickBefore)

/-! ## Ring deadline and Carding (R28, R29, R37) -/

/-- RING_DEADLINE: at 24 µs the rings are judged, the digital inputs of the tick are known, and the crown holder's local
inputs are in the image (R28, R289). In START and SAFE, where no input is taken, the rings that the module sends on are still
judged for lateness (R140). A state copy in its final phase ends (R170). -/
def execRingDeadline (s : State) : Host.Outcome State Fault Refusal :=
  if s.ticking then
    let s := sendFinal ((s.at 24000).window 1)
    if s.active then .next (cardLocal (sampleLocal ((usedRings s).foldl ringDeadline s) (fun st => st == 1)))
    else .next ((usedRings s).foldl (fun s k => if ringSends s k then ringLate s k else s) s)
  else .next s

/-- The input area of a class at a cycle start: the slots that its CLASSMAP records name (R37). -/
def classInput (s : State) (k : Nat) : SlotMap :=
  match s.image with
  | none => []
  | some im => (im.classmap.filter (fun x => x.cls == k)).foldl
      (fun m x => Sparse.set slotGood m x.dst (s.inSlot x.src)) []

/-- The input areas of the classes that begin a cycle in this tick. -/
def refreshInputs (s : State) : State :=
  ((List.range 8).filter (fun k => k != 0 && (s.cls k).running && (s.cls k).cycle == s.tick)).foldl
    (fun s k =>
      let m := classInput s k
      (s.setCls k { s.cls k with input := m }).touch (m.map (fun e => .clsIn k e.1))) s

/-- CARDING: at 28 µs (R29, R37). -/
def execCarding (s : State) : Host.Outcome State Fault Refusal :=
  if s.ticking && s.active then
    let s := s.at 28000
    let s := if s.follows then cardingOwn s else s
    let s := s.withPair (fun p => { p with cardingOver := true })
    .next (if s.computes then refreshInputs s else s)
  else .next s

/-! ## The compute window (R40, R41) -/

/-- Logical cores by the image's core mode (R39). -/
def lcores (s : State) : Nat := s.fld F.TICK_PROOF.LCORES

/-- COMPUTE_WINDOW: at 28 µs every logical core takes its first work. -/
def execComputeWindow (s : State) : Host.Outcome State Fault Refusal :=
  if s.ticking then
    let s := (s.at 28000).window 3
    if s.computes then
      .next ((List.range (lcores s)).foldl
        (fun s j => dispatchCore (s.setCore j ⟨none, [], 0, true⟩) j) s)
    else .next s
  else .next s

/-- SLICE_END: the slice of the class that runs on a core is used up; the task keeps its state and the next slice begins
(R41). A T1 task and the work of step 4 have no slice. -/
def execSliceEnd (core : Nat) (s : State) : Host.Outcome State Fault Refusal :=
  match currentTask s core with
  | none => .next s
  | some k =>
    let c := s.core core
    if k.cls = 0 || c.sliced.contains k.cls then .next s
    else .next (dispatchCore (s.setCore core { c with sliced := insertSorted k.cls c.sliced }) core)

/-- The cores stop and show their peak use (TICK_CORE_PEAK). -/
def stopCore (s : State) (j : Nat) : State :=
  let f := F.TICK_CORE_PEAK0.PEAK.nth j
  let c := s.core j
  (s.setFld f (max (s.fld f) (min 0xFFFF c.used))).setCore j { c with cur := none, inWindow := false }

/-- The completion mask: a bit for each class whose cycle has finished (R48). -/
def completionMask (s : State) : BitVec 8 :=
  (List.range 8).foldl (fun m k => if classDone s k then m ||| BitVec.ofNat 8 (2 ^ k) else m) 0

/-- COMPUTE_STOP: at 58.0 µs compute stops and COMMIT SUB 1 is sent (R48). A standby that is out of step has stopped computing
(R169) and sends none, although R48 and R150 say every running module: the crown holder then goes by its own mask (DESIGN
CHOICE, log entry 165). -/
def execComputeStop (s : State) : Host.Outcome State Fault Refusal :=
  if s.ticking then
    let s := (s.at 58000).window 4
    if s.computes then
      let s := (List.range (lcores s)).foldl stopCore s
      let mask := completionMask s
      let t1 := classDone s 0
      let late := (s.pair.own1.map (fun x => x.2.2)).getD false
      let s := s.withPair (fun p => { p with own1 := some (mask, t1, late) })
      .next (s.strait 3 1 [mask.toNat, b2n t1 + 2 * b2n late])
    else .next s
  else .next s

/-! ## Commit (R38, R46 to R48, R155) -/

/-- The mask by which this module publishes, and whether the modules of a pair diverge (R48). -/
def jointMask (s : State) : BitVec 8 × Bool :=
  let own := s.pair.own1.getD (completionMask s, classDone s 0, false)
  if s.paired then
    match s.pair.part1 with
    | none => (own.1, true)
    | some p => if p.2.1 != own.2.1 || p.2.2 != own.2.2 then (own.1, true) else (own.1 &&& p.1, false)
  else (own.1, false)

/-- A class publishes: its buffer enters the output image, its skip count is kept (R38, R47). -/
def publishClass (s : State) (k : Nat) : State :=
  let c := s.cls k
  let s := (c.buffer.foldl (fun s e => s.setOut e.1 e.2) s).touch (c.buffer.map (fun e => .outSlot e.1))
  (s.setCls k { c with running := false, overrun := false, skipped := s.fld (consecFld k), buffer := [] }).setFld
    (consecFld k) 0

/-- A class overruns, once for a cycle (R46). -/
def overrunClass (s : State) (k : Nat) : State :=
  let c := s.cls k
  if c.overrun then s
  else
    let s := (setOvr s k).count (F.TICK_CLS_OVR0.COUNT.nth k) 1
    let s := s.setFld (F.TICK_CLS_LAST0.TICK.nth k) (c.cycle.toNat % 2 ^ 32)
    (s.setCls k { c with overrun := true }).raiseAt c.cycle 1 1 k (d1 (s.fld (consecFld k)))

/-- The classes whose cycle period ends in this tick publish or overrun. -/
def commitClasses (s : State) (mask : BitVec 8) : State :=
  (List.range 8).foldl (fun s k =>
    if cycleStart k (s.tick + 1) && (s.cls k).running then
      (if mask.getLsbD k then publishClass s k else overrunClass s k)
    else s) s

/-- The digest of the frozen output image: every slot in slot order, 8 value bytes as they stand and the quality byte
(R52, R155). -/
def imageDigest64 (s : State) : DWord :=
  match s.image with
  | none => crc64From 0xFFFFFFFFFFFFFFFF []
  | some im => (List.range (imageSlots im true)).foldl (fun c i =>
      let x := s.outSlot i
      crc64From c (leBytes 8 x.val.toNat ++ d1 x.q.code)) 0xFFFFFFFFFFFFFFFF

/-- The commit of a computing module. -/
def freeze (s : State) : State :=
  let (mask, apart) := jointMask s
  let s := commitClasses s mask
  let s := { s with committedPrev := s.committed, committed := s.outImg }
  let clean := !s.flag F.CHK_STATUS.UNCLEAN
  let s := s.withPair (fun p => { p with
    diverged := apart, cleanLast := clean,
    oosDue := p.oosDue || (apart && s.mode == stStandby && !p.outOfStep) })
  let d := imageDigest64 s
  let s := (s.setDword A.STRAIT_DIGEST_LO d).strait 3 2 [d.toNat, b2n clean + 2 * b2n s.pair.missNow]
  retainedSnapshot s

/-- OUTPUT_IMAGE_FREEZE: at 58.5 µs (R38, R48, R155). -/
def execOutputImageFreeze (s : State) : Host.Outcome State Fault Refusal :=
  if s.ticking && s.active then
    let s := s.at 58500
    let s := if s.computes then freeze s else s
    .next (s.withPower (fun p => { p with committed := true }))
  else .next s

/-! ## Comparison (R77, R78, R155) -/

/-- Digest comparison is suspended until the standby has resynchronised (R77, R78). -/
def suspendCompare (s : State) : State :=
  (s.setFlag F.STRAIT_STATUS.CMP_SUSPENDED true).withPair (fun p => { p with silent := false })

/-- The digests of a tick that is compared, and what the clean bits say (R77, R78, R155). -/
def judgeDigest (s : State) (d : DWord) (clean miss : Bool) : State :=
  if !clean || !s.pair.cleanLast then suspendCompare s
  else if s.flag F.STRAIT_STATUS.CMP_SUSPENDED || miss || s.pair.missNow || s.pair.diverged ||
      (s.pair.status.map (fun p => p.imageSeq)) != some (runningSeq s) then s
  else if d = s.dword A.STRAIT_DIGEST_LO then s
  else startVerdict (suspendCompare (s.note F.SYS_EVENT.DIGEST_MISMATCH)) 2

/-- A silent Strait suspends the comparison on the crown holder (R162). -/
def silentStrait (s : State) : State :=
  if s.mode = stPrimary && !s.pair.heard && !s.flag F.STRAIT_STATUS.CMP_SUSPENDED then
    (s.setFlag F.STRAIT_STATUS.CMP_SUSPENDED true).withPair (fun p => { p with silent := true })
  else s

/-- DIGEST_COMPARE: at 61.0 µs the guard window opens, in which waiting maintenance activities start (R327); a COMMIT that
has not arrived is counted and gives no comparison, which an unclean tick of this module suspends all the same (R77). -/
def execDigestCompare (s : State) : Host.Outcome State Fault Refusal :=
  if s.ticking then
    let s := (s.at 61000).window 5
    let s := (startWaiting s).setDword A.STRAIT_PDIGEST_LO ((s.pair.part2.map (fun x => x.1)).getD 0)
    if s.paired then
      match s.pair.part2 with
      | none =>
        let s := silentStrait (s.count F.STRAIT_ERR.COMMIT_MISS 1)
        .next (if s.pair.cleanLast then s else suspendCompare s)
      | some (d, clean, miss) => .next (judgeDigest s d clean miss)
    else .next s
  else .next s

end Sys2Proof.Machine
end

