-- ==== Sys2Proof/Machine/Dispatch.lean ====
section
/-! DEFINITION. One arm per command: a direct call of its meaning, or the command rejected by name. -/

namespace Sys2Proof.Machine

open Sys2Proof

/-- The effect of a command on everything but the queue. -/
def exec (i : Instr) (s : State) : Host.Outcome State Fault Refusal :=
  match i with
  | .tickEdge e => Sys2Proof.Machine.execTickEdge e s
  | .cyclicFrame ring f => Sys2Proof.Machine.execCyclicFrame ring f s
  | .lock ring port => Sys2Proof.Machine.execLock ring port s
  | .lockLoss ring port => Sys2Proof.Machine.execLockLoss ring port s
  | .ringDeadline => Sys2Proof.Machine.execRingDeadline s
  | .card h ring mask bytes => Sys2Proof.Machine.execCard h ring mask bytes s
  | .carding => Sys2Proof.Machine.execCarding s
  | .computeWindow => Sys2Proof.Machine.execComputeWindow s
  | .sliceEnd core => Sys2Proof.Machine.execSliceEnd core s
  | .enginePass laneFaults => Sys2Proof.Machine.execEnginePass laneFaults s
  | .computeStop => Sys2Proof.Machine.execComputeStop s
  | .outputImageFreeze => Sys2Proof.Machine.execOutputImageFreeze s
  | .retainedFlushDone => Sys2Proof.Machine.execRetainedFlushDone s
  | .switchJudgement => Sys2Proof.Machine.execSwitchJudgement s
  | .digestCompare => Sys2Proof.Machine.execDigestCompare s
  | .partnerLossCheck => Sys2Proof.Machine.execPartnerLossCheck s
  | .crownChange => Sys2Proof.Machine.execCrownChange s
  | .hoodSwitch => Sys2Proof.Machine.execHoodSwitch s
  | .activateAppend ok => Sys2Proof.Machine.execActivateAppend ok s
  | .causewaySwitch ring => Sys2Proof.Machine.execCausewaySwitch ring s
  | .guardSetApply => Sys2Proof.Machine.execGuardSetApply s
  | .timeReferenceSwitchCommit => Sys2Proof.Machine.execTimeReferenceSwitchCommit s
  | .safeEntry => Sys2Proof.Machine.execSafeEntry s
  | .laneMove => Sys2Proof.Machine.execLaneMove s
  | .laneUp lane => Sys2Proof.Machine.execLaneUp lane s
  | .statusMsg h p => Sys2Proof.Machine.execStatusMsg h p s
  | .commitMsg h p => Sys2Proof.Machine.execCommitMsg h p s
  | .swapReq h => Sys2Proof.Machine.execSwapReq h s
  | .swapAck h => Sys2Proof.Machine.execSwapAck h s
  | .yieldMsg h => Sys2Proof.Machine.execYieldMsg h s
  | .raiseMsg h crown => Sys2Proof.Machine.execRaiseMsg h crown s
  | .fwdWrite h block off item value tick origin => Sys2Proof.Machine.execFwdWrite h block off item value tick origin s
  | .forwardedWriteEffect => Sys2Proof.Machine.execForwardedWriteEffect s
  | .loaderQuery h => Sys2Proof.Machine.execLoaderQuery h s
  | .loaderReply h state digest => Sys2Proof.Machine.execLoaderReply h state digest s
  | .loaderArm h tick origin => Sys2Proof.Machine.execLoaderArm h tick origin s
  | .switchDecision h go => Sys2Proof.Machine.execSwitchDecision h go s
  | .noSwitchDecision => Sys2Proof.Machine.execNoSwitchDecision s
  | .maintMsg h what begins => Sys2Proof.Machine.execMaintMsg h what begins s
  | .resyncRequest h seq digest mode => Sys2Proof.Machine.execResyncRequest h seq digest mode s
  | .resyncAccept h => Sys2Proof.Machine.execResyncAccept h s
  | .resyncRound => Sys2Proof.Machine.execResyncRound s
  | .resyncFinal h snap => Sys2Proof.Machine.execResyncFinal h snap s
  | .resyncDone => Sys2Proof.Machine.execResyncDone s
  | .resyncRetry => Sys2Proof.Machine.execResyncRetry s
  | .copy h addr data => Sys2Proof.Machine.execCopy h addr data s
  | .reply h type seq code => Sys2Proof.Machine.execReply h type seq code s
  | .nop core up => Sys2Proof.Machine.execNop core up s
  | .endTask core up => Sys2Proof.Machine.execEndTask core up s
  | .chkp core up => Sys2Proof.Machine.execChkp core up s
  | .jmp core up off => Sys2Proof.Machine.execJmp core up off s
  | .jt core up off => Sys2Proof.Machine.execJt core up off s
  | .jf core up off => Sys2Proof.Machine.execJf core up off s
  | .call core up off => Sys2Proof.Machine.execCall core up off s
  | .ret core up => Sys2Proof.Machine.execRet core up s
  | .lpb core up count => Sys2Proof.Machine.execLpb core up count s
  | .lpe core up => Sys2Proof.Machine.execLpe core up s
  | .lpx core up off => Sys2Proof.Machine.execLpx core up off s
  | .ld core up space idx => Sys2Proof.Machine.execLd core up space idx s
  | .ldn core up space idx => Sys2Proof.Machine.execLdn core up space idx s
  | .andB core up space idx => Sys2Proof.Machine.execAndB core up space idx s
  | .andn core up space idx => Sys2Proof.Machine.execAndn core up space idx s
  | .orB core up space idx => Sys2Proof.Machine.execOrB core up space idx s
  | .orn core up space idx => Sys2Proof.Machine.execOrn core up space idx s
  | .xorB core up space idx => Sys2Proof.Machine.execXorB core up space idx s
  | .xorn core up space idx => Sys2Proof.Machine.execXorn core up space idx s
  | .st core up space idx => Sys2Proof.Machine.execSt core up space idx s
  | .stn core up space idx => Sys2Proof.Machine.execStn core up space idx s
  | .setB core up space idx => Sys2Proof.Machine.execSetB core up space idx s
  | .rst core up space idx => Sys2Proof.Machine.execRst core up space idx s
  | .notB core up => Sys2Proof.Machine.execNotB core up s
  | .set1 core up => Sys2Proof.Machine.execSet1 core up s
  | .set0 core up => Sys2Proof.Machine.execSet0 core up s
  | .ap core up => Sys2Proof.Machine.execAp core up s
  | .anp core up => Sys2Proof.Machine.execAnp core up s
  | .opB core up => Sys2Proof.Machine.execOpB core up s
  | .onp core up => Sys2Proof.Machine.execOnp core up s
  | .xp core up => Sys2Proof.Machine.execXp core up s
  | .pop core up => Sys2Proof.Machine.execPop core up s
  | .redge core up edge => Sys2Proof.Machine.execRedge core up edge s
  | .fedge core up edge => Sys2Proof.Machine.execFedge core up edge s
  | .ton core up idx => Sys2Proof.Machine.execTon core up idx s
  | .tof core up idx => Sys2Proof.Machine.execTof core up idx s
  | .tp core up idx => Sys2Proof.Machine.execTp core up idx s
  | .ctu core up idx => Sys2Proof.Machine.execCtu core up idx s
  | .ctd core up idx => Sys2Proof.Machine.execCtd core up idx s
  | .crst core up idx => Sys2Proof.Machine.execCrst core up idx s
  | .cld core up idx => Sys2Proof.Machine.execCld core up idx s
  | .ldw core up space idx => Sys2Proof.Machine.execLdw core up space idx s
  | .stw core up space idx => Sys2Proof.Machine.execStw core up space idx s
  | .ldk core up imm => Sys2Proof.Machine.execLdk core up imm s
  | .ldkx core up lo hi => Sys2Proof.Machine.execLdkx core up lo hi s
  | .ldwx core up space idx ext => Sys2Proof.Machine.execLdwx core up space idx ext s
  | .stwx core up space idx ext => Sys2Proof.Machine.execStwx core up space idx ext s
  | .tix core up => Sys2Proof.Machine.execTix core up s
  | .ldd core up => Sys2Proof.Machine.execLdd core up s
  | .std core up => Sys2Proof.Machine.execStd core up s
  | .swap core up => Sys2Proof.Machine.execSwap core up s
  | .btw core up => Sys2Proof.Machine.execBtw core up s
  | .wtb core up => Sys2Proof.Machine.execWtb core up s
  | .qtw core up => Sys2Proof.Machine.execQtw core up s
  | .setq core up q => Sys2Proof.Machine.execSetq core up q s
  | .setbq core up q => Sys2Proof.Machine.execSetbq core up q s
  | .add core up => Sys2Proof.Machine.execAdd core up s
  | .sub core up => Sys2Proof.Machine.execSub core up s
  | .mul core up => Sys2Proof.Machine.execMul core up s
  | .div core up => Sys2Proof.Machine.execDiv core up s
  | .mod core up => Sys2Proof.Machine.execMod core up s
  | .wand core up => Sys2Proof.Machine.execWand core up s
  | .wor core up => Sys2Proof.Machine.execWor core up s
  | .wxor core up => Sys2Proof.Machine.execWxor core up s
  | .wnot core up => Sys2Proof.Machine.execWnot core up s
  | .neg core up => Sys2Proof.Machine.execNeg core up s
  | .shl core up amount => Sys2Proof.Machine.execShl core up amount s
  | .shr core up amount => Sys2Proof.Machine.execShr core up amount s
  | .sar core up amount => Sys2Proof.Machine.execSar core up amount s
  | .addk core up imm => Sys2Proof.Machine.execAddk core up imm s
  | .abs core up => Sys2Proof.Machine.execAbs core up s
  | .eq core up => Sys2Proof.Machine.execEq core up s
  | .ne core up => Sys2Proof.Machine.execNe core up s
  | .lt core up => Sys2Proof.Machine.execLt core up s
  | .le core up => Sys2Proof.Machine.execLe core up s
  | .gt core up => Sys2Proof.Machine.execGt core up s
  | .ge core up => Sys2Proof.Machine.execGe core up s
  | .ltu core up => Sys2Proof.Machine.execLtu core up s
  | .geu core up => Sys2Proof.Machine.execGeu core up s
  | .fadd core up => Sys2Proof.Machine.execFadd core up s
  | .fsub core up => Sys2Proof.Machine.execFsub core up s
  | .fmul core up => Sys2Proof.Machine.execFmul core up s
  | .fdiv core up => Sys2Proof.Machine.execFdiv core up s
  | .fsqrt core up => Sys2Proof.Machine.execFsqrt core up s
  | .fneg core up => Sys2Proof.Machine.execFneg core up s
  | .fabs core up => Sys2Proof.Machine.execFabs core up s
  | .itf core up => Sys2Proof.Machine.execItf core up s
  | .fti core up => Sys2Proof.Machine.execFti core up s
  | .feq core up => Sys2Proof.Machine.execFeq core up s
  | .flt core up => Sys2Proof.Machine.execFlt core up s
  | .fle core up => Sys2Proof.Machine.execFle core up s
  | .fmin core up => Sys2Proof.Machine.execFmin core up s
  | .fmax core up => Sys2Proof.Machine.execFmax core up s
  | .rds core up num => Sys2Proof.Machine.execRds core up num s
  | .wrs core up num => Sys2Proof.Machine.execWrs core up num s
  | .undefinedOpcode core up word => Sys2Proof.Machine.execUndefinedOpcode core up word s
  | .verdict memOk imageOk coreOk => Sys2Proof.Machine.execVerdict memOk imageOk coreOk s
  | .splitStart => Sys2Proof.Machine.execSplitStart s
  | .splitRejoin pass => Sys2Proof.Machine.execSplitRejoin pass s
  | .safeReq v => Sys2Proof.Machine.execSafeReq v s
  | .taskReEnable v => Sys2Proof.Machine.execTaskReEnable v s
  | .splitRequest v => Sys2Proof.Machine.execSplitRequest v s
  | .crownSwapReq v => Sys2Proof.Machine.execCrownSwapReq v s
  | .guardApply v => Sys2Proof.Machine.execGuardApply v s
  | .causewayReq ring v => Sys2Proof.Machine.execCausewayReq ring v s
  | .triggerArm trig v => Sys2Proof.Machine.execTriggerArm trig v s
  | .triggerFire trig => Sys2Proof.Machine.execTriggerFire trig s
  | .capture cap ns frac rising => Sys2Proof.Machine.execCapture cap ns frac rising s
  | .captureRead who => Sys2Proof.Machine.execCaptureRead who s
  | .declaredPairLowRead who addr => Sys2Proof.Machine.execDeclaredPairLowRead who addr s
  | .registerWrite who addr v => Sys2Proof.Machine.execRegisterWrite who addr v s
  | .offsetSample port off refNs refFrac => Sys2Proof.Machine.execOffsetSample port off refNs refFrac s
  | .freeStart => Sys2Proof.Machine.execFreeStart s
  | .referenceLost port cause => Sys2Proof.Machine.execReferenceLost port cause s
  | .holdoffExpiry => Sys2Proof.Machine.execHoldoffExpiry s
  | .skerryClockSet => Sys2Proof.Machine.execSkerryClockSet s
  | .ptpEventMessage m => Sys2Proof.Machine.execPtpEventMessage m s
  | .ringDelayUpdate ring stamps => Sys2Proof.Machine.execRingDelayUpdate ring stamps s
  | .linkDown port => Sys2Proof.Machine.execLinkDown port s
  | .acyclicFrame ring f => Sys2Proof.Machine.execAcyclicFrame ring f s
  | .acyclicRequestSend ring => Sys2Proof.Machine.execAcyclicRequestSend ring s
  | .acyclicTimeout ring tag => Sys2Proof.Machine.execAcyclicTimeout ring tag s
  | .probe port ns => Sys2Proof.Machine.execProbe port ns s
  | .openSession port o => Sys2Proof.Machine.execOpenSession port o s
  | .command port m => Sys2Proof.Machine.execCommand port m s
  | .halfOpenTimeout slot => Sys2Proof.Machine.execHalfOpenTimeout slot s
  | .sessionIdleTimeout slot => Sys2Proof.Machine.execSessionIdleTimeout slot s
  | .statusCmd slot => Sys2Proof.Machine.execStatusCmd slot s
  | .sessionClose slot => Sys2Proof.Machine.execSessionClose slot s
  | .eventSubscribe slot => Sys2Proof.Machine.execEventSubscribe slot s
  | .regRead slot => Sys2Proof.Machine.execRegRead slot s
  | .regWrite slot => Sys2Proof.Machine.execRegWrite slot s
  | .memRead slot => Sys2Proof.Machine.execMemRead slot s
  | .memWrite slot => Sys2Proof.Machine.execMemWrite slot s
  | .imageBegin slot => Sys2Proof.Machine.execImageBegin slot s
  | .imageData slot => Sys2Proof.Machine.execImageData slot s
  | .imageEnd slot => Sys2Proof.Machine.execImageEnd slot s
  | .verifyingDone => Sys2Proof.Machine.execVerifyingDone s
  | .storeStepDone ok => Sys2Proof.Machine.execStoreStepDone ok s
  | .imageCancel slot => Sys2Proof.Machine.execImageCancel slot s
  | .imageArm slot => Sys2Proof.Machine.execImageArm slot s
  | .safeArmReset => Sys2Proof.Machine.execSafeArmReset s
  | .roleSwap slot => Sys2Proof.Machine.execRoleSwap slot s
  | .safeRequest slot => Sys2Proof.Machine.execSafeRequest slot s
  | .taskEnable slot => Sys2Proof.Machine.execTaskEnable slot s
  | .maintStart slot => Sys2Proof.Machine.execMaintStart slot s
  | .maintStatus slot => Sys2Proof.Machine.execMaintStatus slot s
  | .activityEnd group ok => Sys2Proof.Machine.execActivityEnd group ok s
  | .stnRead slot => Sys2Proof.Machine.execStnRead slot s
  | .stnWrite slot => Sys2Proof.Machine.execStnWrite slot s
  | .evrRead slot => Sys2Proof.Machine.execEvrRead slot s
  | .jnlQuery slot => Sys2Proof.Machine.execJnlQuery slot s
  | .jnlRead slot => Sys2Proof.Machine.execJnlRead slot s
  | .keyAdmin slot => Sys2Proof.Machine.execKeyAdmin slot s
  | .unitOfWork upset preempt => Sys2Proof.Machine.execUnitOfWork upset preempt s
  | .peripheralRequest line samples => Sys2Proof.Machine.execPeripheralRequest line samples s
  | .busTimeout addr => Sys2Proof.Machine.execBusTimeout addr s
  | .xferStart v => Sys2Proof.Machine.execXferStart v s
  | .xferAbort v => Sys2Proof.Machine.execXferAbort v s
  | .xferResume v => Sys2Proof.Machine.execXferResume v s
  | .xferAbortAll v => Sys2Proof.Machine.execXferAbortAll v s
  | .integrationEnd ch r => Sys2Proof.Machine.execIntegrationEnd ch r s
  | .referenceBufferEn v => Sys2Proof.Machine.execReferenceBufferEn v s
  | .warmUpEnd => Sys2Proof.Machine.execWarmUpEnd s
  | .entryEnd g samples ns => Sys2Proof.Machine.execEntryEnd g samples ns s
  | .convGo v => Sys2Proof.Machine.execConvGo v s
  | .convStop v => Sys2Proof.Machine.execConvStop v s
  | .urgentEntry v samples ns => Sys2Proof.Machine.execUrgentEntry v samples ns s
  | .calibration g => Sys2Proof.Machine.execCalibration g s
  | .calibrationDone g result => Sys2Proof.Machine.execCalibrationDone g result s
  | .proofTest => Sys2Proof.Machine.execProofTest s
  | .proofTestDone dev => Sys2Proof.Machine.execProofTestDone dev s
  | .hartReply g r => Sys2Proof.Machine.execHartReply g r s
  | .hartPollTimeout g => Sys2Proof.Machine.execHartPollTimeout g s
  | .passThrough v => Sys2Proof.Machine.execPassThrough v s
  | .passThroughTimeout g => Sys2Proof.Machine.execPassThroughTimeout g s
  | .trimBegin v => Sys2Proof.Machine.execTrimBegin v s
  | .trimLow v => Sys2Proof.Machine.execTrimLow v s
  | .trimHigh v => Sys2Proof.Machine.execTrimHigh v s
  | .trimCommit v => Sys2Proof.Machine.execTrimCommit v s
  | .trimAbandon v => Sys2Proof.Machine.execTrimAbandon v s
  | .trimClear v => Sys2Proof.Machine.execTrimClear v s
  | .trimTimeout => Sys2Proof.Machine.execTrimTimeout s
  | .uplinkFrame f => Sys2Proof.Machine.execUplinkFrame f s
  | .downlinkFrame noise => Sys2Proof.Machine.execDownlinkFrame noise s
  | .linkTimeout => Sys2Proof.Machine.execLinkTimeout s
  | .overload ch => Sys2Proof.Machine.execOverload ch s
  | .overloadRetry ch => Sys2Proof.Machine.execOverloadRetry ch s
  | .pulseEnd ch => Sys2Proof.Machine.execPulseEnd ch s
  | .receivedFrame bus f => Sys2Proof.Machine.execReceivedFrame bus f s
  | .transmitEnd bus r stamp => Sys2Proof.Machine.execTransmitEnd bus r stamp s
  | .busOff bus => Sys2Proof.Machine.execBusOff bus s
  | .busOffRecovery bus => Sys2Proof.Machine.execBusOffRecovery bus s
  | .recover v => Sys2Proof.Machine.execRecover v s
  | .headRead bus buf => Sys2Proof.Machine.execHeadRead bus buf s
  | .tailRead bus buf => Sys2Proof.Machine.execTailRead bus buf s
  | .lockTimeout bus => Sys2Proof.Machine.execLockTimeout bus s
  | .txReq hi v => Sys2Proof.Machine.execTxReq hi v s
  | .txAbort hi v => Sys2Proof.Machine.execTxAbort hi v s
  | .receivedCharacter line x => Sys2Proof.Machine.execReceivedCharacter line x s
  | .idleRequest line => Sys2Proof.Machine.execIdleRequest line s
  | .driverRelease line => Sys2Proof.Machine.execDriverRelease line s
  | .flush v => Sys2Proof.Machine.execFlush v s
  | .recordAdmission => Sys2Proof.Machine.execRecordAdmission s
  | .tokenGain => Sys2Proof.Machine.execTokenGain s
  | .coalesceWindowEnd key => Sys2Proof.Machine.execCoalesceWindowEnd key s
  | .checkpointRecord => Sys2Proof.Machine.execCheckpointRecord s
  | .scrubSegment => Sys2Proof.Machine.execScrubSegment s
  | .scrubSegmentDone => Sys2Proof.Machine.execScrubSegmentDone s
  | .onRequest v => Sys2Proof.Machine.execOnRequest v s
  | .offRequest v => Sys2Proof.Machine.execOffRequest v s
  | .rampComplete dom => Sys2Proof.Machine.execRampComplete dom s
  | .drainComplete dom => Sys2Proof.Machine.execDrainComplete dom s
  | .domFault dom => Sys2Proof.Machine.execDomFault dom s
  | .feedLost feedB cv => Sys2Proof.Machine.execFeedLost feedB cv s
  | .supplyFailWarning => Sys2Proof.Machine.execSupplyFailWarning s
  | .reset kind => Sys2Proof.Machine.execReset kind s
  | .feedReturn feedB cv => Sys2Proof.Machine.execFeedReturn feedB cv s
  | .pwrReset v => Sys2Proof.Machine.execPwrReset v s
  | .tickWatchdog => Sys2Proof.Machine.execTickWatchdog s
  | .startWatchdog => Sys2Proof.Machine.execStartWatchdog s
  | .startStep x => Sys2Proof.Machine.execStartStep x s
  | .tamper sensor clock => Sys2Proof.Machine.execTamper sensor clock s
  | .reKey => Sys2Proof.Machine.execReKey s
  | .reKeyingDone key => Sys2Proof.Machine.execReKeyingDone key s
  | .keyScan counts => Sys2Proof.Machine.execKeyScan counts s
  | .menuTimeout => Sys2Proof.Machine.execMenuTimeout s
  | .service a => Sys2Proof.Machine.execService a s
  | .serviceAddressApply => Sys2Proof.Machine.execServiceAddressApply s
  | .laneDown lane => Sys2Proof.Machine.execLaneDown lane s
  | .announceMessage port ds => Sys2Proof.Machine.execAnnounceMessage port ds s
  | .linkUp port speed => Sys2Proof.Machine.execLinkUp port speed s
  | .transmissionStart bus => Sys2Proof.Machine.execTransmissionStart bus s
  | .characterTransmitted line => Sys2Proof.Machine.execCharacterTransmitted line s
  | .breakEnd line => Sys2Proof.Machine.execBreakEnd line s
  | .tamperSensorCleared sensor => Sys2Proof.Machine.execTamperSensorCleared sensor s
  | .scrubPass found => Sys2Proof.Machine.execScrubPass found s
  | .straitMessageDiscard message => Sys2Proof.Machine.execStraitMessageDiscard message s
  | .malformedDatagram datagram => Sys2Proof.Machine.execMalformedDatagram datagram s
  | .discardedFrame port ptp => Sys2Proof.Machine.execDiscardedFrame port ptp s

end Sys2Proof.Machine
end

