-- ==== Sys2Proof/Safety.lean ====
section
/-! DEFINITION. What counts as a safe run of the block, the invariant of the state that every step keeps, and the
words in which the statements of Certificates/Slice0/Obligations.lean speak: which task a core runs, what an Aidon
instruction leaves beside its own effect, which commands are Aidon instructions. -/

namespace Sys2Proof

open Sys2Proof.Machine

/-- A step answers a next state. -/
def StepCompletes (s : State) : Prop := ∃ t, step s = .next t

/-- The canonical form of a byte memory: addresses strictly rising, no byte listed that reads as an unlisted one. -/
def Memory.wf (m : Bytes) : Bool := Sparse.wf zeroByte m

/-- The canonical form of the register file: keys strictly rising, no register listed at its reset value. -/
def Registers.wf (m : List (Nat × Word)) : Bool := Sparse.wf resetValue m

/-- No session has more than 8 commands waiting (R203). -/
def SessionsFit (s : State) : Prop := ∀ k, (s.sess k).queue.length ≤ 8

/-- The invariant that every step keeps: equal register files are equal data, and equal memories are; the recorder has at most
64 records waiting (R313) and a session at most 8 commands (R203). -/
@[reducible] def Inv (s : State) : Prop :=
  Registers.wf s.regs = true ∧ Memory.wf s.mem = true ∧ s.recorder.queue.length ≤ 64 ∧ SessionsFit s

/-! ## Aidon -/

/-- Logical core `j` runs an activation of task `k`, and the code at its PC is instruction `i`, whose words can be
fetched (R55). -/
def CoreRuns (s : State) (j : Nat) (k : TaskRec) (i : Instr) : Prop :=
  currentTask s j = some k ∧ fetchFault s j (s.task k.task).regs.pc.toNat (codeOf i).length = none ∧
  spells s j (s.task k.task).regs.pc.toNat (codeOf i) = true

/-- The members that are compared on core `j` agree, whatever instruction they are compared at: what upsets did to their
signatures is the same, and none alone met a fault (R71, R73, R88). -/
def MembersAgree (s : State) (j : Nat) (k : TaskRec) (up : Upset) : Prop :=
  let view := fun (i : Nat) => ((s.task k.task).syn.getD i 0 ^^^ up.syn.getD i 0, up.odd.contains i)
  ∀ a ∈ members s j, ∀ b ∈ members s j, view a = view b ∧ (view a).2 = false

/-- The registers of a task (R49). -/
def aidonRegs (s : State) (k : TaskRec) : TaskRegs := (s.task k.task).regs

/-- The state after an instruction of `size` words and `cost` cycles on core `j` whose effect is on the context of its
task alone: the cycles are charged (R45), PC stands at the next instruction, `f` changes the context, and what an upset
does to a member stays in its signature (R72). -/
def aidonTask (s : State) (j : Nat) (k : TaskRec) (up : Upset) (size cost : Nat) (f : TaskSt → TaskSt) : State :=
  let c := chargeTask s j k cost
  let t := c.task k.task
  c.setTask k.task (struckTask (f { t with regs := { t.regs with pc := pcAt (t.regs.pc.toNat + size) } }) up)

/-- The same where the instruction changes registers alone: the registers become `r`, with PC at the next
instruction. -/
def aidonNext (s : State) (j : Nat) (k : TaskRec) (up : Upset) (size cost : Nat) (r : TaskRegs) : State :=
  aidonTask s j k up size cost (fun t => { t with regs := { r with pc := t.regs.pc } })

/-- The same where the instruction sets PC as well. -/
def aidonJump (s : State) (j : Nat) (k : TaskRec) (up : Upset) (size cost : Nat) (r : TaskRegs) : State :=
  aidonTask s j k up size cost (fun t => { t with regs := r })

/-- The address of the instruction after one of `size` words. -/
def aidonPc (s : State) (k : TaskRec) (size : Nat) : BitVec 19 := pcAt ((aidonRegs s k).pc.toNat + size)

/-- Whether a number is a signed 64-bit number. -/
def fits64 (v : Int) : Bool := decide (-(2 ^ 63) ≤ v) && decide (v < 2 ^ 63)

/-- An integer result `w` with quality `q`: OV is set when the exact result is no signed 64-bit number (R60). -/
def intWord (r : TaskRegs) (w : DWord) (exact : Int) (q : Quality) : TaskRegs :=
  { r with wa := w, qa := q, flags := { r.flags with ov := r.flags.ov || !fits64 exact } }

/-- A push: WB, QB ← WA, QA, then WA, QA (R57). -/
def pushed (r : TaskRegs) (v : DWord) (q : Quality) : TaskRegs :=
  { r with wb := r.wa, qb := r.qa, wa := v, qa := q }

/-- The core, what an upset does and the cycle count of the Aidon instructions of one word that change registers alone (R57). -/
def aidonRegisterOnly : Instr → Option (Nat × Upset × Nat)
  | .nop j u | .notB j u | .set1 j u | .set0 j u | .ldk j u _ | .tix j u | .swap j u | .btw j u | .wtb j u | .qtw j u | .setq j u _
  | .setbq j u _ | .add j u | .sub j u | .wand j u | .wor j u | .wxor j u | .wnot j u | .neg j u | .shl j u _ | .shr j u _ | .sar j u _
  | .addk j u _ | .abs j u | .eq j u | .ne j u | .lt j u | .le j u | .gt j u | .ge j u | .ltu j u | .geu j u | .fneg j u | .fabs j u =>
    some (j, u, 1)
  | .mul j u | .itf j u | .fti j u => some (j, u, 3)
  | .div j u | .mod j u => some (j, u, 20)
  | .fadd j u | .fsub j u | .fmul j u | .feq j u | .flt j u | .fle j u | .fmin j u | .fmax j u => some (j, u, 4)
  | .fdiv j u => some (j, u, 24)
  | .fsqrt j u => some (j, u, 28)
  | _ => none

/-- The core, and what an upset does, of the Aidon instructions that store nothing in memory or in an image: all but CHKP, END and STD. A
store to the output area is staged (R53), one to task data stays in the task. -/
def aidonStoresNothing : Instr → Option (Nat × Upset)
  | .nop j u | .jmp j u _ | .jt j u _ | .jf j u _ | .call j u _ | .ret j u | .lpb j u _ | .lpe j u | .lpx j u _ | .ld j u _ _ | .ldn j u _ _
  | .andB j u _ _ | .andn j u _ _ | .orB j u _ _ | .orn j u _ _ | .xorB j u _ _ | .xorn j u _ _ | .st j u _ _ | .stn j u _ _
  | .setB j u _ _ | .rst j u _ _ | .notB j u | .set1 j u | .set0 j u | .ap j u | .anp j u | .opB j u | .onp j u | .xp j u | .pop j u
  | .redge j u _ | .fedge j u _ | .ton j u _ | .tof j u _ | .tp j u _ | .ctu j u _ | .ctd j u _ | .crst j u _ | .cld j u _
  | .ldw j u _ _ | .stw j u _ _ | .ldk j u _ | .ldkx j u _ _ | .ldwx j u _ _ _ | .stwx j u _ _ _ | .tix j u | .ldd j u | .swap j u
  | .btw j u | .wtb j u | .qtw j u | .setq j u _ | .setbq j u _ | .add j u | .sub j u | .mul j u | .div j u | .mod j u | .wand j u | .wor j u
  | .wxor j u | .wnot j u | .neg j u | .shl j u _ | .shr j u _ | .sar j u _ | .addk j u _ | .abs j u | .eq j u | .ne j u | .lt j u | .le j u
  | .gt j u | .ge j u | .ltu j u | .geu j u | .fadd j u | .fsub j u | .fmul j u | .fdiv j u | .fsqrt j u | .fneg j u | .fabs j u | .itf j u
  | .fti j u | .feq j u | .flt j u | .fle j u | .fmin j u | .fmax j u | .rds j u _ | .wrs j u _ | .undefinedOpcode j u _ => some (j, u)
  | _ => none

/-- The commands that may write an addressed memory: Aidon instructions, which store (R59) or, where members differ, undo
stores (R75, R76), a joiner that makes a staged image running or takes the state copy (R170), the retained flush (R234), the transfer engine (R243), and whatever may reset the
module (R324). -/
def mayWriteMemory (c : Instr) : Bool :=
  !(codeOf c).isEmpty ||
  match c with
  | .copy _ _ _ | .resyncAccept _ | .retainedFlushDone | .supplyFailWarning | .keyScan _
  | .unitOfWork _ _ | .tickEdge _ | .hoodSwitch | .startStep _ | .reset _ | .pwrReset _ | .safeArmReset | .tickWatchdog
  | .startWatchdog | .forwardedWriteEffect | .registerWrite _ _ _ | .regWrite _ | .taskReEnable _ | .guardApply _
  | .taskEnable _ => true
  | _ => false

/-! ## Commands of the block -/

/-- From `s` to `t` nothing changes but registers, and of those only the ones whose key stands in `ks`. -/
def OnlyRegs (s t : State) (ks : List Nat) : Prop := t = { s with regs := t.regs } ∧ ∀ a, a ∉ ks → t.reg a = s.reg a

/-- Command `q` with an opcode stands at the front of the queue of session `k`, one of the 16, before `rest`, and waits for
nothing (R203). -/
@[reducible] def Fronts (s : State) (k opcode : Nat) (q : QCmd) (rest : List QCmd) : Prop :=
  k < 16 ∧ (s.sess k).queue = q :: rest ∧ q.opcode = opcode ∧ q.waiting = false

/-- The same where the command waits for what completes it. -/
@[reducible] def Waits (s : State) (k opcode : Nat) (q : QCmd) (rest : List QCmd) : Prop :=
  k < 16 ∧ (s.sess k).queue = q :: rest ∧ q.opcode = opcode ∧ q.waiting = true

/-- Session `k` has been sent the result of its command `q`: it left the queue, its RESULT is the last thing that was
sent, and its journal record is done with the same result (R203, R208, R210) as long as MRAM takes writes (R322). -/
def Answered (t : State) (k : Nat) (q : QCmd) (rest : List QCmd) (code : Nat) (data : List Byte) : Prop :=
  (t.sess k).queue = rest ∧ (∃ o, t.outbox = resultOut t k q.seq q.opcode false code data :: o) ∧
  (t.mramProtected = false → ∀ j, q.jseq = some j → ∀ r ∈ t.journal, r.jseq = j →
    r.done = true ∧ r.result = code ∧ r.resultData = data)

/-- Session `k`'s command `q` stays at the front of its queue and waits for what completes it; nothing is answered. -/
def Held (t : State) (k : Nat) (q : QCmd) (rest : List QCmd) : Prop :=
  (t.sess k).queue = { q with waiting := true } :: rest

/-- A Strait message that this module sends on the lane that carries the control lane's traffic (R148 to R150). -/
def controlOut (s : State) (type sub : Nat) (vals : List Nat) (bytes : List Byte) : Out :=
  .strait (laneOf s.pair.routing 6) (straitMessage type sub (s.reg A.CROWN_OWN) s.tick s.pair.seq
    (straitPayload type sub vals bytes))

/-- The REPLY that answers a message of a TYPE and SEQ with a code (R150). -/
def replyOut (s : State) (type seq code : Nat) : Out := controlOut s 0x0A 0 [type, seq, code] []

/-- An event of a class and code with a SOURCE has been raised, after those raised before (R309). -/
def Raised (s t : State) (cls code src : Nat) : Prop :=
  ∃ e, t.recorder.raised = s.recorder.raised ++ [e] ∧ e.cls = cls ∧ e.code = code ∧ e.source = src

end Sys2Proof
end

