-- ==== Sys2Proof/WellFormed.lean ====
section
/-! DEFINITION. When a command is well formed: every numeric operand lies in the range that the spec gives it
(ring 0 to 47, core 0 to 15, channel 0 to 31, slot index below 4,194,304, and so on). -/

namespace Sys2Proof

/-- The range check of a command's operands. -/
def Instr.wellFormed : Instr → Bool
  | .tickEdge _ => true
  | .cyclicFrame ring _ => decide (ring < 48)
  | .lock ring port => decide (ring < 48) && decide (port < 2)
  | .lockLoss ring port => decide (ring < 48) && decide (port < 2)
  | .ringDeadline => true
  | .card _ ring _ _ => decide (ring < 64)
  | .carding => true
  | .computeWindow => true
  | .sliceEnd core => decide (core < 16)
  | .enginePass _ => true
  | .computeStop => true
  | .outputImageFreeze => true
  | .retainedFlushDone => true
  | .switchJudgement => true
  | .digestCompare => true
  | .partnerLossCheck => true
  | .crownChange => true
  | .hoodSwitch => true
  | .activateAppend _ => true
  | .causewaySwitch ring => decide (ring < 48)
  | .guardSetApply => true
  | .timeReferenceSwitchCommit => true
  | .safeEntry => true
  | .laneMove => true
  | .laneUp lane => decide (lane < 8)
  | .statusMsg _ _ => true
  | .commitMsg _ _ => true
  | .swapReq _ => true
  | .swapAck _ => true
  | .yieldMsg _ => true
  | .raiseMsg _ _ => true
  | .fwdWrite _ block off item _ _ _ => decide (block < 74) && decide (off < 65536) && decide (item < 1024)
  | .forwardedWriteEffect => true
  | .loaderQuery _ => true
  | .loaderReply _ state _ => decide (state < 8)
  | .loaderArm _ _ _ => true
  | .switchDecision _ _ => true
  | .noSwitchDecision => true
  | .maintMsg _ _ _ => true
  | .resyncRequest _ _ _ mode => decide (mode < 4)
  | .resyncAccept _ => true
  | .resyncRound => true
  | .resyncFinal _ _ => true
  | .resyncDone => true
  | .resyncRetry => true
  | .copy _ _ _ => true
  | .reply _ type seq code => decide (type < 256) && decide (seq < 65536) && decide (code < 16)
  | .nop core _ => decide (core < 16)
  | .endTask core _ => decide (core < 16)
  | .chkp core _ => decide (core < 16)
  | .jmp core _ _ => decide (core < 16)
  | .jt core _ _ => decide (core < 16)
  | .jf core _ _ => decide (core < 16)
  | .call core _ _ => decide (core < 16)
  | .ret core _ => decide (core < 16)
  | .lpb core _ count => decide (core < 16) && decide (count < 65536)
  | .lpe core _ => decide (core < 16)
  | .lpx core _ _ => decide (core < 16)
  | .ld core _ space idx => decide (core < 16) && decide (space < 4) && decide (idx < 4194304)
  | .ldn core _ space idx => decide (core < 16) && decide (space < 4) && decide (idx < 4194304)
  | .andB core _ space idx => decide (core < 16) && decide (space < 4) && decide (idx < 4194304)
  | .andn core _ space idx => decide (core < 16) && decide (space < 4) && decide (idx < 4194304)
  | .orB core _ space idx => decide (core < 16) && decide (space < 4) && decide (idx < 4194304)
  | .orn core _ space idx => decide (core < 16) && decide (space < 4) && decide (idx < 4194304)
  | .xorB core _ space idx => decide (core < 16) && decide (space < 4) && decide (idx < 4194304)
  | .xorn core _ space idx => decide (core < 16) && decide (space < 4) && decide (idx < 4194304)
  | .st core _ space idx => decide (core < 16) && decide (space < 4) && decide (idx < 4194304)
  | .stn core _ space idx => decide (core < 16) && decide (space < 4) && decide (idx < 4194304)
  | .setB core _ space idx => decide (core < 16) && decide (space < 4) && decide (idx < 4194304)
  | .rst core _ space idx => decide (core < 16) && decide (space < 4) && decide (idx < 4194304)
  | .notB core _ => decide (core < 16)
  | .set1 core _ => decide (core < 16)
  | .set0 core _ => decide (core < 16)
  | .ap core _ => decide (core < 16)
  | .anp core _ => decide (core < 16)
  | .opB core _ => decide (core < 16)
  | .onp core _ => decide (core < 16)
  | .xp core _ => decide (core < 16)
  | .pop core _ => decide (core < 16)
  | .redge core _ edge => decide (core < 16) && decide (edge < 65536)
  | .fedge core _ edge => decide (core < 16) && decide (edge < 65536)
  | .ton core _ idx => decide (core < 16) && decide (idx < 4194304)
  | .tof core _ idx => decide (core < 16) && decide (idx < 4194304)
  | .tp core _ idx => decide (core < 16) && decide (idx < 4194304)
  | .ctu core _ idx => decide (core < 16) && decide (idx < 4194304)
  | .ctd core _ idx => decide (core < 16) && decide (idx < 4194304)
  | .crst core _ idx => decide (core < 16) && decide (idx < 4194304)
  | .cld core _ idx => decide (core < 16) && decide (idx < 4194304)
  | .ldw core _ space idx => decide (core < 16) && decide (space < 4) && decide (idx < 4194304)
  | .stw core _ space idx => decide (core < 16) && decide (space < 4) && decide (idx < 4194304)
  | .ldk core _ _ => decide (core < 16)
  | .ldkx core _ _ _ => decide (core < 16)
  | .ldwx core _ space idx _ => decide (core < 16) && decide (space < 4) && decide (idx < 4194304)
  | .stwx core _ space idx _ => decide (core < 16) && decide (space < 4) && decide (idx < 4194304)
  | .tix core _ => decide (core < 16)
  | .ldd core _ => decide (core < 16)
  | .std core _ => decide (core < 16)
  | .swap core _ => decide (core < 16)
  | .btw core _ => decide (core < 16)
  | .wtb core _ => decide (core < 16)
  | .qtw core _ => decide (core < 16)
  | .setq core _ _ => decide (core < 16)
  | .setbq core _ _ => decide (core < 16)
  | .add core _ => decide (core < 16)
  | .sub core _ => decide (core < 16)
  | .mul core _ => decide (core < 16)
  | .div core _ => decide (core < 16)
  | .mod core _ => decide (core < 16)
  | .wand core _ => decide (core < 16)
  | .wor core _ => decide (core < 16)
  | .wxor core _ => decide (core < 16)
  | .wnot core _ => decide (core < 16)
  | .neg core _ => decide (core < 16)
  | .shl core _ amount => decide (core < 16) && decide (amount < 64)
  | .shr core _ amount => decide (core < 16) && decide (amount < 64)
  | .sar core _ amount => decide (core < 16) && decide (amount < 64)
  | .addk core _ _ => decide (core < 16)
  | .abs core _ => decide (core < 16)
  | .eq core _ => decide (core < 16)
  | .ne core _ => decide (core < 16)
  | .lt core _ => decide (core < 16)
  | .le core _ => decide (core < 16)
  | .gt core _ => decide (core < 16)
  | .ge core _ => decide (core < 16)
  | .ltu core _ => decide (core < 16)
  | .geu core _ => decide (core < 16)
  | .fadd core _ => decide (core < 16)
  | .fsub core _ => decide (core < 16)
  | .fmul core _ => decide (core < 16)
  | .fdiv core _ => decide (core < 16)
  | .fsqrt core _ => decide (core < 16)
  | .fneg core _ => decide (core < 16)
  | .fabs core _ => decide (core < 16)
  | .itf core _ => decide (core < 16)
  | .fti core _ => decide (core < 16)
  | .feq core _ => decide (core < 16)
  | .flt core _ => decide (core < 16)
  | .fle core _ => decide (core < 16)
  | .fmin core _ => decide (core < 16)
  | .fmax core _ => decide (core < 16)
  | .rds core _ num => decide (core < 16) && decide (num < 256)
  | .wrs core _ num => decide (core < 16) && decide (num < 256)
  | .undefinedOpcode core _ _ => decide (core < 16)
  | .verdict _ _ _ => true
  | .splitStart => true
  | .splitRejoin _ => true
  | .safeReq _ => true
  | .taskReEnable _ => true
  | .splitRequest _ => true
  | .crownSwapReq _ => true
  | .guardApply _ => true
  | .causewayReq ring _ => decide (ring < 48)
  | .triggerArm trig _ => decide (trig < 64)
  | .triggerFire trig => decide (trig < 64)
  | .capture cap _ frac _ => decide (cap < 32) && decide (frac < 256)
  | .captureRead _ => true
  | .declaredPairLowRead _ addr => decide (addr < 16777216)
  | .registerWrite _ addr _ => decide (addr < 16777216)
  | .offsetSample port _ _ refFrac => decide (port < 16) && decide (refFrac < 256)
  | .freeStart => true
  | .referenceLost port cause => decide (port < 16) && decide (cause < 4)
  | .holdoffExpiry => true
  | .skerryClockSet => true
  | .ptpEventMessage _ => true
  | .ringDelayUpdate ring _ => decide (ring < 48)
  | .linkDown port => decide (port < 16)
  | .acyclicFrame ring _ => decide (ring < 48)
  | .acyclicRequestSend ring => decide (ring < 48)
  | .acyclicTimeout ring tag => decide (ring < 48) && decide (tag < 256)
  | .probe port _ => decide (port < 16)
  | .openSession port _ => decide (port < 16)
  | .command port _ => decide (port < 16)
  | .halfOpenTimeout slot => decide (slot < 16)
  | .sessionIdleTimeout slot => decide (slot < 16)
  | .statusCmd slot => decide (slot < 16)
  | .sessionClose slot => decide (slot < 16)
  | .eventSubscribe slot => decide (slot < 16)
  | .regRead slot => decide (slot < 16)
  | .regWrite slot => decide (slot < 16)
  | .memRead slot => decide (slot < 16)
  | .memWrite slot => decide (slot < 16)
  | .imageBegin slot => decide (slot < 16)
  | .imageData slot => decide (slot < 16)
  | .imageEnd slot => decide (slot < 16)
  | .verifyingDone => true
  | .storeStepDone _ => true
  | .imageCancel slot => decide (slot < 16)
  | .imageArm slot => decide (slot < 16)
  | .safeArmReset => true
  | .roleSwap slot => decide (slot < 16)
  | .safeRequest slot => decide (slot < 16)
  | .taskEnable slot => decide (slot < 16)
  | .maintStart slot => decide (slot < 16)
  | .maintStatus slot => decide (slot < 16)
  | .activityEnd group _ => decide (group < 64)
  | .stnRead slot => decide (slot < 16)
  | .stnWrite slot => decide (slot < 16)
  | .evrRead slot => decide (slot < 16)
  | .jnlQuery slot => decide (slot < 16)
  | .jnlRead slot => decide (slot < 16)
  | .keyAdmin slot => decide (slot < 16)
  | .unitOfWork _ _ => true
  | .peripheralRequest line _ => decide (line < 256)
  | .busTimeout _ => true
  | .xferStart _ => true
  | .xferAbort _ => true
  | .xferResume _ => true
  | .xferAbortAll _ => true
  | .integrationEnd ch _ => decide (ch < 32)
  | .referenceBufferEn _ => true
  | .warmUpEnd => true
  | .entryEnd g _ _ => decide (g < 4)
  | .convGo _ => true
  | .convStop _ => true
  | .urgentEntry _ _ _ => true
  | .calibration g => decide (g < 4)
  | .calibrationDone g _ => decide (g < 4)
  | .proofTest => true
  | .proofTestDone _ => true
  | .hartReply g _ => decide (g < 4)
  | .hartPollTimeout g => decide (g < 4)
  | .passThrough _ => true
  | .passThroughTimeout g => decide (g < 4)
  | .trimBegin _ => true
  | .trimLow _ => true
  | .trimHigh _ => true
  | .trimCommit _ => true
  | .trimAbandon _ => true
  | .trimClear _ => true
  | .trimTimeout => true
  | .uplinkFrame _ => true
  | .downlinkFrame _ => true
  | .linkTimeout => true
  | .overload ch => decide (ch < 32)
  | .overloadRetry ch => decide (ch < 32)
  | .pulseEnd ch => decide (ch < 32)
  | .receivedFrame bus _ => decide (bus < 4)
  | .transmitEnd bus _ _ => decide (bus < 4)
  | .busOff bus => decide (bus < 4)
  | .busOffRecovery bus => decide (bus < 4)
  | .recover _ => true
  | .headRead bus buf => decide (bus < 4) && decide (buf < 64)
  | .tailRead bus buf => decide (bus < 4) && decide (buf < 64)
  | .lockTimeout bus => decide (bus < 4)
  | .txReq _ _ => true
  | .txAbort _ _ => true
  | .receivedCharacter line _ => decide (line < 4)
  | .idleRequest line => decide (line < 4)
  | .driverRelease line => decide (line < 4)
  | .flush _ => true
  | .recordAdmission => true
  | .tokenGain => true
  | .coalesceWindowEnd key => decide (key < 256)
  | .checkpointRecord => true
  | .scrubSegment => true
  | .scrubSegmentDone => true
  | .onRequest _ => true
  | .offRequest _ => true
  | .rampComplete dom => decide (dom < 96)
  | .drainComplete dom => decide (dom < 96)
  | .domFault dom => decide (dom < 96)
  | .feedLost _ cv => decide (cv < 65536)
  | .supplyFailWarning => true
  | .reset kind => decide (kind < 4)
  | .feedReturn _ cv => decide (cv < 65536)
  | .pwrReset _ => true
  | .tickWatchdog => true
  | .startWatchdog => true
  | .startStep _ => true
  | .tamper sensor _ => decide (sensor < 6)
  | .reKey => true
  | .reKeyingDone _ => true
  | .keyScan counts => decide (counts.length = 6)
  | .menuTimeout => true
  | .service a => decide (a.pfx4 ≤ 32) && decide (a.pfx6 ≤ 128)
  | .serviceAddressApply => true
  | .laneDown lane => decide (lane < 8)
  | .announceMessage port _ => decide (port < 16)
  | .linkUp port speed => decide (port < 16) && decide (speed < 4)
  | .transmissionStart bus => decide (bus < 4)
  | .characterTransmitted line => decide (line < 4)
  | .breakEnd line => decide (line < 4)
  | .tamperSensorCleared sensor => decide (sensor < 6)
  | .scrubPass _ => true
  | .straitMessageDiscard _ => true
  | .malformedDatagram _ => true
  | .discardedFrame port _ => decide (port < 16)

end Sys2Proof
end

