-- ==== Sys2Proof/Certificates/Slice0/Obligations.lean ====
section
/-! DEFINITION. The statements for the provers. Each names the rules of spec/ it rests on; OBLIGATIONS.json lists
them. -/

open Sys2Proof Sys2Proof.Machine

/-! ## Aidon instructions -/

/-- ADD, SUB, MUL, NEG, ABS and ADDK (R57, R60): WA takes the low 64 bits of the exact result, OV is set exactly when
that result is no signed 64-bit number, QA is the higher of the operands' qualities (R54), and nothing else of the
task's context changes but PC and the charge.
DIV and MOD (R57, R60): truncated toward zero, the remainder with the sign of WB; OV only for −2^63 by −1; a zero
divisor gives 0, DZ and BAD and no fault. -/
def Obligations.IntegerResults : Prop :=
  (∀ (s : State) (j : Nat) (k : TaskRec) (up : Upset), up.odd = [] →
     let r := aidonRegs s k
     let q := r.qb.max r.qa
     (CoreRuns s j k (.add j up) →
       exec (.add j up) s = .next (aidonNext s j k up 1 1 (intWord r (r.wb + r.wa) (r.wb.toInt + r.wa.toInt) q))) ∧
     (CoreRuns s j k (.sub j up) →
       exec (.sub j up) s = .next (aidonNext s j k up 1 1 (intWord r (r.wb - r.wa) (r.wb.toInt - r.wa.toInt) q))) ∧
     (CoreRuns s j k (.mul j up) →
       exec (.mul j up) s = .next (aidonNext s j k up 1 3 (intWord r (r.wb * r.wa) (r.wb.toInt * r.wa.toInt) q))) ∧
     (CoreRuns s j k (.neg j up) →
       exec (.neg j up) s = .next (aidonNext s j k up 1 1 (intWord r (-r.wa) (-r.wa.toInt) r.qa))) ∧
     (CoreRuns s j k (.abs j up) →
       exec (.abs j up) s = .next (aidonNext s j k up 1 1
       (intWord r (if r.wa.toInt < 0 then -r.wa else r.wa) r.wa.toInt.natAbs r.qa))) ∧
     ∀ imm : BitVec 24, (CoreRuns s j k (.addk j up imm) →
       exec (.addk j up imm) s = .next (aidonNext s j k up 1 1
       (intWord r (r.wa + imm.signExtend 64) (r.wa.toInt + imm.toInt) r.qa)))) ∧
  (∀ (s : State) (j : Nat) (k : TaskRec) (up : Upset), up.odd = [] →
     let r := aidonRegs s k
     let q := r.qb.max r.qa
     let z : TaskRegs := { r with wa := 0, qa := .bad, flags := { r.flags with dz := true } }
     (CoreRuns s j k (.div j up) →
       exec (.div j up) s = .next (aidonNext s j k up 1 20 (if r.wa = 0 then z else
       { r with wa := r.wb.sdiv r.wa, qa := q,
                flags := { r.flags with
                  ov := r.flags.ov || (decide (r.wb.toInt = -(2 ^ 63)) && decide (r.wa.toInt = -1)) } }))) ∧
     (CoreRuns s j k (.mod j up) →
       exec (.mod j up) s = .next (aidonNext s j k up 1 20 (if r.wa = 0 then z else
       { r with wa := r.wb.srem r.wa, qa := q }))))

/-- The compares (R57, R60): BA takes the result of WB against WA, signed for LT, LE, GT, GE, unsigned for LTU, GEU, by
value for the floating ones, where a NaN operand gives 0 and sets FI; BQ is the higher of QA and QB; the words stay.
By value, words of one sign without it are ordered as their magnitudes, a negative one lies before a positive one, and
−0 equals +0 (IEEE 754, log entry 115).
WAND, WOR, WXOR, WNOT and the shifts (R57): bit by bit, and by multiples of powers of two; a shift moves WA by
its immediate, SAR keeping the sign. -/
def Obligations.CompareAndBitwiseResults : Prop :=
  ((∀ a b : DWord, fIsNaN a = false → fIsNaN b = false →
     (fSign a = false → fSign b = false → (fKey a < fKey b ↔ a.toNat < b.toNat)) ∧
     (fSign a = true → fSign b = true → (fKey a < fKey b ↔ b.toNat < a.toNat)) ∧
     (fSign a = true → fSign b = false →
       fKey a ≤ fKey b ∧ (fKey a = fKey b ↔ fIsZero a = true ∧ fIsZero b = true))) ∧
   ∀ (s : State) (j : Nat) (k : TaskRec) (up : Upset), up.odd = [] →
     let r := aidonRegs s k
     let c := fun (b : Bool) => ({ r with ba := b, bq := r.qb.max r.qa } : TaskRegs)
     let nan := fIsNaN r.wb || fIsNaN r.wa
     let f := fun (b : Bool) => ({ r with
       ba := !nan && b, bq := r.qb.max r.qa, flags := { r.flags with fi := r.flags.fi || nan } } : TaskRegs)
     (CoreRuns s j k (.eq j up) →
       exec (.eq j up) s = .next (aidonNext s j k up 1 1 (c (decide (r.wb = r.wa))))) ∧
     (CoreRuns s j k (.ne j up) →
       exec (.ne j up) s = .next (aidonNext s j k up 1 1 (c (decide (r.wb ≠ r.wa))))) ∧
     (CoreRuns s j k (.lt j up) →
       exec (.lt j up) s = .next (aidonNext s j k up 1 1 (c (decide (r.wb.toInt < r.wa.toInt))))) ∧
     (CoreRuns s j k (.le j up) →
       exec (.le j up) s = .next (aidonNext s j k up 1 1 (c (decide (r.wb.toInt ≤ r.wa.toInt))))) ∧
     (CoreRuns s j k (.gt j up) →
       exec (.gt j up) s = .next (aidonNext s j k up 1 1 (c (decide (r.wb.toInt > r.wa.toInt))))) ∧
     (CoreRuns s j k (.ge j up) →
       exec (.ge j up) s = .next (aidonNext s j k up 1 1 (c (decide (r.wb.toInt ≥ r.wa.toInt))))) ∧
     (CoreRuns s j k (.ltu j up) →
       exec (.ltu j up) s = .next (aidonNext s j k up 1 1 (c (decide (r.wb.toNat < r.wa.toNat))))) ∧
     (CoreRuns s j k (.geu j up) →
       exec (.geu j up) s = .next (aidonNext s j k up 1 1 (c (decide (r.wb.toNat ≥ r.wa.toNat))))) ∧
     (CoreRuns s j k (.feq j up) →
       exec (.feq j up) s = .next (aidonNext s j k up 1 4 (f (fKey r.wb == fKey r.wa)))) ∧
     (CoreRuns s j k (.flt j up) →
       exec (.flt j up) s = .next (aidonNext s j k up 1 4 (f (decide (fKey r.wb < fKey r.wa))))) ∧
     (CoreRuns s j k (.fle j up) →
       exec (.fle j up) s = .next (aidonNext s j k up 1 4 (f (decide (fKey r.wb ≤ fKey r.wa)))))) ∧
  (∀ (s : State) (j : Nat) (k : TaskRec) (up : Upset), up.odd = [] →
     let r := aidonRegs s k
     let q := r.qb.max r.qa
     (CoreRuns s j k (.wand j up) →
       exec (.wand j up) s = .next (aidonNext s j k up 1 1 { r with wa := r.wb &&& r.wa, qa := q })) ∧
     (CoreRuns s j k (.wor j up) →
       exec (.wor j up) s = .next (aidonNext s j k up 1 1 { r with wa := r.wb ||| r.wa, qa := q })) ∧
     (CoreRuns s j k (.wxor j up) →
       exec (.wxor j up) s = .next (aidonNext s j k up 1 1 { r with wa := r.wb ^^^ r.wa, qa := q })) ∧
     (CoreRuns s j k (.wnot j up) →
       exec (.wnot j up) s = .next (aidonNext s j k up 1 1 { r with wa := ~~~r.wa })) ∧
     ∀ n : Nat, n < 64 →
       (CoreRuns s j k (.shl j up n) →
       exec (.shl j up n) s = .next (aidonNext s j k up 1 1 { r with wa := BitVec.ofNat 64 (r.wa.toNat * 2 ^ n) })) ∧
       (CoreRuns s j k (.shr j up n) →
       exec (.shr j up n) s = .next (aidonNext s j k up 1 1 { r with wa := BitVec.ofNat 64 (r.wa.toNat / 2 ^ n) })) ∧
       (CoreRuns s j k (.sar j up n) →
       exec (.sar j up n) s = .next (aidonNext s j k up 1 1 { r with wa := BitVec.ofInt 64 (r.wa.toInt / 2 ^ n) })))

/-- The floating instructions (R57, R60, R359). FNEG and FABS change the sign bit alone; FMIN and FMAX give the lesser and
the greater of two operands that are no NaN, of one NaN the other operand, of two the default NaN. The others write the value of their operation with QA by R54, and where
that operation makes a NaN of operands that are not NaN, overflows or divides by zero, the flag FI, FO or FZ and BAD.
A NaN that they deliver is the default NaN. The value of an operation is the exact one rounded once, to nearest, ties to
even, as IEEE 754 has it (PRESUMED, log entry 115); it is fixed here on numbers worked out outside the model.
Floating operations on special operands (R60, R359): infinities of opposite sign do not add, a finite non-zero
dividend over zero is an infinity with FZ, the root of a negative number is the default NaN with FI, FTI of a NaN is 0
with FI, FTI beyond the range saturates with FO, the root of a NaN is the default NaN, FMIN takes −0 as less than +0. -/
def Obligations.FloatingResults : Prop :=
  (∀ (s : State) (j : Nat) (k : TaskRec) (up : Upset), up.odd = [] →
     let r := aidonRegs s k
     let q := r.qb.max r.qa
     let f := fun (x : FResult) (q : Quality) => ({ r with
       wa := x.val, qa := if x.invalid || x.overflow || x.divZero then .bad else q,
       flags := { r.flags with fi := r.flags.fi || x.invalid, fo := r.flags.fo || x.overflow,
                               fz := r.flags.fz || x.divZero } } : TaskRegs)
     (CoreRuns s j k (.fneg j up) →
       exec (.fneg j up) s = .next (aidonNext s j k up 1 1 { r with wa := BitVec.ofBool (!r.wa.msb) ++ r.wa.setWidth 63 })) ∧
     (CoreRuns s j k (.fabs j up) →
       exec (.fabs j up) s = .next (aidonNext s j k up 1 1 { r with wa := (r.wa.setWidth 63).setWidth 64 })) ∧
     (CoreRuns s j k (.fmin j up) →
       exec (.fmin j up) s = .next (aidonNext s j k up 1 4 { r with wa := fMin r.wb r.wa, qa := q })) ∧
     (CoreRuns s j k (.fmax j up) →
       exec (.fmax j up) s = .next (aidonNext s j k up 1 4 { r with wa := fMax r.wb r.wa, qa := q })) ∧
     (CoreRuns s j k (.fadd j up) →
       exec (.fadd j up) s = .next (aidonNext s j k up 1 4 (f (fAdd r.wb r.wa) q))) ∧
     (CoreRuns s j k (.fsub j up) →
       exec (.fsub j up) s = .next (aidonNext s j k up 1 4 (f (fSub r.wb r.wa) q))) ∧
     (CoreRuns s j k (.fmul j up) →
       exec (.fmul j up) s = .next (aidonNext s j k up 1 4 (f (fMul r.wb r.wa) q))) ∧
     (CoreRuns s j k (.fdiv j up) →
       exec (.fdiv j up) s = .next (aidonNext s j k up 1 24 (f (fDiv r.wb r.wa) q))) ∧
     (CoreRuns s j k (.fsqrt j up) →
       exec (.fsqrt j up) s = .next (aidonNext s j k up 1 28 (f (fSqrt r.wa) r.qa))) ∧
     (CoreRuns s j k (.itf j up) →
       exec (.itf j up) s = .next (aidonNext s j k up 1 3 (f (fOfInt r.wa.toInt) r.qa))) ∧
     (CoreRuns s j k (.fti j up) →
       exec (.fti j up) s = .next (aidonNext s j k up 1 3 (f (fToInt r.wa) r.qa))) ∧
     ∀ x ∈ [fAdd r.wb r.wa, fSub r.wb r.wa, fMul r.wb r.wa, fDiv r.wb r.wa],
       (fIsNaN r.wb || fIsNaN r.wa → x = ⟨defaultNaN, false, false, false⟩) ∧
       (x.invalid = true → x.val = defaultNaN)) ∧
  ((∀ a b : DWord, fIsInf a = true → fIsInf b = true → fSign a ≠ fSign b →
     fAdd a b = ⟨defaultNaN, true, false, false⟩) ∧
   (∀ a b : DWord, fIsNaN a = false → fIsInf a = false → fIsZero a = false → fIsZero b = true →
     fDiv a b = ⟨fInf (fSign a != fSign b), false, false, true⟩) ∧
   (∀ a : DWord, fIsNaN a = false → fIsZero a = false → fSign a = true → fSqrt a = ⟨defaultNaN, true, false, false⟩) ∧
   (∀ a : DWord, fIsNaN a = true → fToInt a = ⟨0, true, false, false⟩) ∧
   (∀ a : DWord, fIsNaN a = false → 1086 ≤ fExp a → a ≠ 0xC3E0000000000000 →
     fToInt a = ⟨if fSign a then 0x8000000000000000 else 0x7FFFFFFFFFFFFFFF, false, true, false⟩) ∧
   (∀ a b : DWord, fIsZero a = true → fIsZero b = true →
     fMin a b = (if fSign a then a else b) ∧ fMax a b = (if fSign a then b else a)) ∧
   (∀ a b : DWord, fIsNaN a = false → fIsNaN b = false → fKey a < fKey b →
     fMin a b = a ∧ fMin b a = a ∧ fMax a b = b ∧ fMax b a = b) ∧
   (∀ a b : DWord, fIsNaN a = true →
     fMin a b = (if fIsNaN b then defaultNaN else b) ∧ fMax a b = (if fIsNaN b then defaultNaN else b) ∧
     fMin b a = (if fIsNaN b then defaultNaN else b) ∧ fMax b a = (if fIsNaN b then defaultNaN else b)) ∧
   (∀ a : DWord, fIsNaN a = true → fSqrt a = ⟨defaultNaN, false, false, false⟩) ∧ defaultNaN = 0x7FF8000000000000 ∧
   (let plain := fun (v : DWord) => (⟨v, false, false, false⟩ : FResult)
    fAdd 0x3FB999999999999A 0x3FC999999999999A = plain 0x3FD3333333333334 ∧
    fAdd 0x7FEFFFFFFFFFFFFF 0x7FEFFFFFFFFFFFFF = ⟨0x7FF0000000000000, false, true, false⟩ ∧
    fSub 0x3FF0000000000000 0x3FEFFFFFFFFFFFFF = plain 0x3CA0000000000000 ∧
    fMul 0x3FB999999999999A 0x3FB999999999999A = plain 0x3F847AE147AE147C ∧
    fDiv 0x3FF0000000000000 0x4008000000000000 = plain 0x3FD5555555555555 ∧
    fDiv 0x0000000000000003 0x4000000000000000 = plain 0x0000000000000002 ∧
    fDiv 0x0000000000000001 0x4000000000000000 = plain 0x0000000000000000 ∧
    fSqrt 0x4000000000000000 = plain 0x3FF6A09E667F3BCD ∧
    fOfInt 9007199254740993 = plain 0x4340000000000000 ∧ fOfInt 9007199254740995 = plain 0x4340000000000002 ∧
    fToInt 0xC00C000000000000 = plain (BitVec.ofInt 64 (-3))))

/-- Constants, moves and conversions of registers (R54, R55, R57): LDK sign-extends its immediate, LDKX takes two
words, low first; a constant is GOOD; SWAP exchanges words and qualities; the others move what their row says.
System registers (R67): RDS pushes the register its number names; WRS of SY_FLAGS clears each flag whose bit is 1
in WA, WRS of SY_IX takes the low word of WA. -/
def Obligations.RegisterAndSystemResults : Prop :=
  (∀ (s : State) (j : Nat) (k : TaskRec) (up : Upset), up.odd = [] →
     let r := aidonRegs s k
     (CoreRuns s j k (.nop j up) →
       exec (.nop j up) s = .next (aidonNext s j k up 1 1 r)) ∧
     (∀ imm : BitVec 24, (CoreRuns s j k (.ldk j up imm) →
       exec (.ldk j up imm) s = .next (aidonNext s j k up 1 1 (pushed r (BitVec.ofInt 64 imm.toInt) .good)))) ∧
     (CoreRuns s j k (.tix j up) →
       exec (.tix j up) s = .next (aidonNext s j k up 1 1 { r with ix := BitVec.ofNat 32 r.wa.toNat })) ∧
     (CoreRuns s j k (.swap j up) →
       exec (.swap j up) s = .next (aidonNext s j k up 1 1 { r with wa := r.wb, qa := r.qb, wb := r.wa, qb := r.qa })) ∧
     (CoreRuns s j k (.btw j up) →
       exec (.btw j up) s = .next (aidonNext s j k up 1 1 (pushed r (BitVec.ofNat 64 r.ba.toNat) r.bq))) ∧
     (CoreRuns s j k (.wtb j up) →
       exec (.wtb j up) s = .next (aidonNext s j k up 1 1 { r with ba := decide (r.wa ≠ 0), bq := r.qa })) ∧
     (CoreRuns s j k (.qtw j up) →
       exec (.qtw j up) s = .next (aidonNext s j k up 1 1 (pushed r (BitVec.ofNat 64 r.qa.code) .good))) ∧
     (∀ q : Quality, (CoreRuns s j k (.setq j up q) →
       exec (.setq j up q) s = .next (aidonNext s j k up 1 1 { r with qa := q }))) ∧
     (∀ q : Quality, (CoreRuns s j k (.setbq j up q) →
       exec (.setbq j up q) s = .next (aidonNext s j k up 1 1 { r with bq := q }))) ∧
     (CoreRuns s j k (.notB j up) →
       exec (.notB j up) s = .next (aidonNext s j k up 1 1 { r with ba := !r.ba })) ∧
     (CoreRuns s j k (.set1 j up) →
       exec (.set1 j up) s = .next (aidonNext s j k up 1 1 { r with ba := true, bq := .good })) ∧
     (CoreRuns s j k (.set0 j up) →
       exec (.set0 j up) s = .next (aidonNext s j k up 1 1 { r with ba := false, bq := .good })) ∧
     (∀ lo hi : Word, (CoreRuns s j k (.ldkx j up lo hi) →
       exec (.ldkx j up lo hi) s =
       .next (aidonNext s j k up 3 2 (pushed r (BitVec.ofNat 64 (hi.toNat * 2 ^ 32 + lo.toNat)) .good))))) ∧
  (∀ (s : State) (j : Nat) (k : TaskRec) (up : Upset), up.odd = [] →
     let r := aidonRegs s k
     let t := s.task k.task
     let reads := fun (n : Nat) (v : DWord) => (CoreRuns s j k (.rds j up n) →
       exec (.rds j up n) s = .next (aidonNext s j k up 1 2 (pushed r v .good)))
     reads 0x00 t.cycle ∧ reads 0x01 s.tick ∧ reads 0x02 (t.cycle * 62500) ∧
     reads 0x03 (BitVec.ofNat 64 k.cls) ∧ reads 0x04 (BitVec.ofNat 64 k.task) ∧ reads 0x05 (BitVec.ofNat 64 k.lcore) ∧
     reads 0x07 (BitVec.ofNat 64 t.first.toNat) ∧ reads 0x08 (BitVec.ofNat 64 (s.cls k.cls).skipped) ∧
     reads 0x09 (BitVec.ofNat 64 (s.reg A.HOOD_RUN_SEQ).toNat) ∧ reads 0x0B (BitVec.ofNat 64 r.ix.toNat) ∧
     reads 0x0A (BitVec.ofNat 64 (t.cycles + 2)) ∧
     (∃ v : DWord, reads 0x06 v ∧ v.getLsbD 0 = r.flags.ov ∧ v.getLsbD 1 = r.flags.dz ∧ v.getLsbD 2 = r.flags.fi ∧
       v.getLsbD 3 = r.flags.fo ∧ v.getLsbD 4 = r.flags.fz) ∧
     (CoreRuns s j k (.wrs j up 0x06) →
       exec (.wrs j up 0x06) s = .next (aidonNext s j k up 1 2 { r with flags :=
       ⟨r.flags.ov && !r.wa.getLsbD 0, r.flags.dz && !r.wa.getLsbD 1, r.flags.fi && !r.wa.getLsbD 2,
        r.flags.fo && !r.wa.getLsbD 3, r.flags.fz && !r.wa.getLsbD 4⟩ })) ∧
     (CoreRuns s j k (.wrs j up 0x0B) →
       exec (.wrs j up 0x0B) s = .next (aidonNext s j k up 1 2 { r with ix := BitVec.ofNat 32 r.wa.toNat })))

/-- Bit loads and bit logic (R54, R57) on an operand that can be read: LD and LDN load value and quality, the others
combine BA with the operand and keep the higher quality.
Nesting (R57): AP, ANP, OP, ONP and XP push BA, BQ and their operation while fewer than eight entries stand;
POP applies the top entry's operation to its bit and BA. -/
def Obligations.BitLogicAndNestingResults : Prop :=
  (∀ (s : State) (j : Nat) (k : TaskRec) (up : Upset) (space idx : Nat) (b : Bool) (q : Quality), up.odd = [] →
     bitOperand s k (s.task k.task) space idx = .ok (b, q) →
     let r := aidonRegs s k
     let m := r.bq.max q
     (CoreRuns s j k (.ld j up space idx) →
       exec (.ld j up space idx) s = .next (aidonNext s j k up 1 3 { r with ba := b, bq := q })) ∧
     (CoreRuns s j k (.ldn j up space idx) →
       exec (.ldn j up space idx) s = .next (aidonNext s j k up 1 3 { r with ba := !b, bq := q })) ∧
     (CoreRuns s j k (.andB j up space idx) →
       exec (.andB j up space idx) s = .next (aidonNext s j k up 1 3 { r with ba := r.ba && b, bq := m })) ∧
     (CoreRuns s j k (.andn j up space idx) →
       exec (.andn j up space idx) s = .next (aidonNext s j k up 1 3 { r with ba := r.ba && !b, bq := m })) ∧
     (CoreRuns s j k (.orB j up space idx) →
       exec (.orB j up space idx) s = .next (aidonNext s j k up 1 3 { r with ba := r.ba || b, bq := m })) ∧
     (CoreRuns s j k (.orn j up space idx) →
       exec (.orn j up space idx) s = .next (aidonNext s j k up 1 3 { r with ba := r.ba || !b, bq := m })) ∧
     (CoreRuns s j k (.xorB j up space idx) →
       exec (.xorB j up space idx) s = .next (aidonNext s j k up 1 3 { r with ba := r.ba != b, bq := m })) ∧
     (CoreRuns s j k (.xorn j up space idx) →
       exec (.xorn j up space idx) s = .next (aidonNext s j k up 1 3 { r with ba := r.ba == b, bq := m }))) ∧
  (∀ (s : State) (j : Nat) (k : TaskRec) (up : Upset), up.odd = [] →
     let r := aidonRegs s k
     let push := fun (op : NestOp) => aidonNext s j k up 1 1 { r with nest := ⟨r.ba, r.bq, op⟩ :: r.nest }
     (r.nest.length < 8 →
       (CoreRuns s j k (.ap j up) →
       exec (.ap j up) s = .next (push .and)) ∧ (CoreRuns s j k (.anp j up) →
       exec (.anp j up) s = .next (push .andNot)) ∧
       (CoreRuns s j k (.opB j up) →
       exec (.opB j up) s = .next (push .or)) ∧ (CoreRuns s j k (.onp j up) →
       exec (.onp j up) s = .next (push .orNot)) ∧
       (CoreRuns s j k (.xp j up) →
       exec (.xp j up) s = .next (push .xor))) ∧
     ∀ (b : Bool) (q : Quality) (op : NestOp) (es : List NestEntry), r.nest = ⟨b, q, op⟩ :: es →
       ∃ v, (CoreRuns s j k (.pop j up) →
       exec (.pop j up) s = .next (aidonNext s j k up 1 1 { r with nest := es, ba := v, bq := q.max r.bq })) ∧
         (op = .and → v = (b && r.ba)) ∧ (op = .andNot → v = (b && !r.ba)) ∧ (op = .or → v = (b || r.ba)) ∧
         (op = .orNot → v = (b || !r.ba)) ∧ (op = .xor → v = (b != r.ba)))

/-- Jumps, calls and loops (R57, R58): a forward jump moves PC by its offset from the next instruction; CALL pushes that
address while fewer than 16 stand, RET pops it; LPB opens a loop while fewer than four are open, LPE closes it after
its last turn and else returns to its start, LPX leaves it. Two clauses are the model's choice: a target that no code word
can have is the place past the last word, where the fetch is ILLEGAL (log entry 123), and a JT or JF with a negative offset
goes on where its condition does not hold (log entry 157). -/
def Obligations.ControlResults : Prop :=
  ∀ (s : State) (j : Nat) (k : TaskRec) (up : Upset), up.odd = [] →
    let r := aidonRegs s k
    let pc := aidonPc s k 1
    let go := fun (off : BitVec 24) =>
      if 0 ≤ (pc.toNat : Int) + off.toInt then pcAt ((pc.toNat : Int) + off.toInt).toNat else pcAt lastPc
    (∀ off : BitVec 24, 0 ≤ off.toInt →
      (CoreRuns s j k (.jmp j up off) →
      exec (.jmp j up off) s = .next (aidonJump s j k up 1 3 { r with pc := go off })) ∧
      (CoreRuns s j k (.jt j up off) →
      exec (.jt j up off) s = .next (aidonJump s j k up 1 3 { r with pc := if r.ba then go off else pc })) ∧
      (CoreRuns s j k (.jf j up off) →
      exec (.jf j up off) s = .next (aidonJump s j k up 1 3 { r with pc := if r.ba then pc else go off })) ∧
      ∀ l ls, r.loops = l :: ls →
        (CoreRuns s j k (.lpx j up off) →
      exec (.lpx j up off) s = .next (aidonJump s j k up 1 3 { r with pc := go off, loops := ls }))) ∧
    (∀ off : BitVec 24, off.toInt < 0 →
      (r.ba = false → CoreRuns s j k (.jt j up off) →
        exec (.jt j up off) s = .next (aidonJump s j k up 1 3 { r with pc := pc })) ∧
      (r.ba = true → CoreRuns s j k (.jf j up off) →
        exec (.jf j up off) s = .next (aidonJump s j k up 1 3 { r with pc := pc }))) ∧
    (∀ off : BitVec 24, r.calls.length < 16 →
      (CoreRuns s j k (.call j up off) →
      exec (.call j up off) s = .next (aidonJump s j k up 1 4 { r with pc := go off, calls := pc :: r.calls }))) ∧
    (∀ a as, r.calls = a :: as →
      (CoreRuns s j k (.ret j up) →
      exec (.ret j up) s = .next (aidonJump s j k up 1 4 { r with pc := a, calls := as }))) ∧
    (∀ n, n ≠ 0 → r.loops.length < 4 →
      (CoreRuns s j k (.lpb j up n) →
      exec (.lpb j up n) s = .next (aidonJump s j k up 1 2 { r with pc := pc, loops := ⟨pc, n⟩ :: r.loops }))) ∧
    (∀ (a : BitVec 19) (n : Nat) (ls : List LoopEntry), r.loops = ⟨a, n⟩ :: ls →
      (CoreRuns s j k (.lpe j up) →
      exec (.lpe j up) s = .next (aidonJump s j k up 1 3
        (if n = 1 then { r with pc := pc, loops := ls } else { r with pc := a, loops := ⟨a, n - 1⟩ :: ls }))))

/-- Word loads (R54, R57): LDW pushes the operand; LDWX does so at index + IX where IX is below the array length of
its extension word.
LDD and STD (R59) where the region guard allows the access, no uncorrectable word is met and the DRAM domain is
ON: LDD brings eight bytes from address WA with GOOD; STD writes WB at address WA, and every byte of memory outside
those eight reads as before. -/
def Obligations.WordAndDramResults : Prop :=
  (∀ (s : State) (j : Nat) (k : TaskRec) (up : Upset) (space idx : Nat) (v : DWord) (q : Quality), up.odd = [] →
     let r := aidonRegs s k
     (wordOperand s k (s.task k.task) space idx = .ok (v, q) →
       (CoreRuns s j k (.ldw j up space idx) →
       exec (.ldw j up space idx) s = .next (aidonNext s j k up 1 3 (pushed r v q)))) ∧
     (∀ ext : Word, space < 3 → ext.toNat ≤ 4194304 → r.ix.toNat < ext.toNat →
       wordOperand s k (s.task k.task) space (idx + r.ix.toNat) = .ok (v, q) →
       (CoreRuns s j k (.ldwx j up space idx ext) →
       exec (.ldwx j up space idx ext) s = .next (aidonNext s j k up 2 4 (pushed r v q))))) ∧
  (∀ (s : State) (j : Nat) (k : TaskRec) (up : Upset), up.odd = [] → s.domOn 93 = true →
     let r := aidonRegs s k
     let a := r.wa.toNat
     addrBad s a 8 = none →
     (dramJudge s k.lcore a false = none → CoreRuns s j k (.ldd j up) →
       exec (.ldd j up) s = .next (aidonNext s j k up 1 64 { r with wa := dwordAt s.mem a, qa := .good })) ∧
     (dramJudge s k.lcore a true = none → CoreRuns s j k (.std j up) →
       ∃ t, exec (.std j up) s = .next t ∧ (t.task k.task).regs = { r with pc := aidonPc s k 1 } ∧
         ∀ x, byteAt t.mem x = if a ≤ x ∧ x < a + 8 then byteOf r.wb.toNat (x - a) else byteAt s.mem x))

/-- Stores to the output area (R53): ST, STN, STW and STWX stage the slot with value and quality, S and RST do so when
BA is 1 and stage nothing when it is 0; a slot staged before keeps one entry; the output image, the class buffer and
the registers stay.
Stores to task data (R51, R57): STW and STWX write eight bytes, least significant first, at the word's place and
leave every other byte; ST, STN, S and RST write one bit, the last two when BA is 1; no quality is kept. -/
def Obligations.StoreResults : Prop :=
  (∀ (s : State) (j : Nat) (k : TaskRec) (up : Upset) (idx : Nat), up.odd = [] → idx < spaceSize s k 1 →
     let room := fun (a : Nat) => (s.task k.task).staging.length < 256 ∨ (getAt a (s.task k.task).staging).isSome = true
     let r := aidonRegs s k
     let bit := fun (b : Bool) => (⟨BitVec.ofNat 64 b.toNat, r.bq⟩ : Slot)
     let staged := fun (t : State) (n a : Nat) (x : Slot) =>
       (t.task k.task).regs = { r with pc := aidonPc s k n } ∧
       (∀ b, getAt b (t.task k.task).staging = if b = a then some x else getAt b (s.task k.task).staging) ∧
       t.outImg = s.outImg ∧ t.classes = s.classes ∧ t.mem = s.mem
     (room idx →
       (CoreRuns s j k (.st j up 1 idx) → ∃ t, exec (.st j up 1 idx) s = .next t ∧ staged t 1 idx (bit r.ba)) ∧
       (CoreRuns s j k (.stn j up 1 idx) → ∃ t, exec (.stn j up 1 idx) s = .next t ∧ staged t 1 idx (bit (!r.ba))) ∧
       (CoreRuns s j k (.stw j up 1 idx) → ∃ t, exec (.stw j up 1 idx) s = .next t ∧ staged t 1 idx ⟨r.wa, r.qa⟩) ∧
       (r.ba = true →
         (CoreRuns s j k (.setB j up 1 idx) → ∃ t, exec (.setB j up 1 idx) s = .next t ∧ staged t 1 idx (bit true)) ∧
         (CoreRuns s j k (.rst j up 1 idx) → ∃ t, exec (.rst j up 1 idx) s = .next t ∧ staged t 1 idx (bit false)))) ∧
     (∀ ext : Word, ext.toNat ≤ 4194304 → r.ix.toNat < ext.toNat → idx + r.ix.toNat < spaceSize s k 1 →
       room (idx + r.ix.toNat) → CoreRuns s j k (.stwx j up 1 idx ext) →
       ∃ t, exec (.stwx j up 1 idx ext) s = .next t ∧ staged t 2 (idx + r.ix.toNat) ⟨r.wa, r.qa⟩) ∧
     (r.ba = false →
       (CoreRuns s j k (.setB j up 1 idx) → exec (.setB j up 1 idx) s = .next (aidonNext s j k up 1 2 r)) ∧
       (CoreRuns s j k (.rst j up 1 idx) → exec (.rst j up 1 idx) s = .next (aidonNext s j k up 1 2 r)))) ∧
  (∀ (s : State) (j : Nat) (k : TaskRec) (up : Upset) (idx : Nat), up.odd = [] →
     let r := aidonRegs s k
     let words := fun (t : State) (n w : Nat) =>
       (t.task k.task).regs = { r with pc := aidonPc s k n } ∧
       (∀ a, byteAt (t.task k.task).data a =
         if 8 * w ≤ a ∧ a < 8 * w + 8 then byteOf r.wa.toNat (a - 8 * w) else byteAt (s.task k.task).data a) ∧
       t.mem = s.mem ∧ t.outImg = s.outImg
     let bits := fun (t : State) (b : Bool) =>
       ∀ i, (byteAt (t.task k.task).data (i / 8)).getLsbD (i % 8) =
         if i = idx then b else (byteAt (s.task k.task).data (i / 8)).getLsbD (i % 8)
     (CoreRuns s j k (.stw j up 2 idx) → idx * 8 + 8 ≤ k.dataSize →
       ∃ t, exec (.stw j up 2 idx) s = .next t ∧ words t 1 idx) ∧
     (∀ ext : Word, CoreRuns s j k (.stwx j up 2 idx ext) → ext.toNat ≤ 4194304 → r.ix.toNat < ext.toNat →
       (idx + r.ix.toNat) * 8 + 8 ≤ k.dataSize →
       ∃ t, exec (.stwx j up 2 idx ext) s = .next t ∧ words t 2 (idx + r.ix.toNat)) ∧
     (idx / 8 < k.dataSize → s.isBad (.data k.task (idx / 8 / 8)) = false →
       (CoreRuns s j k (.st j up 2 idx) → ∃ t, exec (.st j up 2 idx) s = .next t ∧ bits t r.ba) ∧
       (CoreRuns s j k (.stn j up 2 idx) → ∃ t, exec (.stn j up 2 idx) s = .next t ∧ bits t (!r.ba)) ∧
       (r.ba = true →
         (CoreRuns s j k (.setB j up 2 idx) → ∃ t, exec (.setB j up 2 idx) s = .next t ∧ bits t true) ∧
         (CoreRuns s j k (.rst j up 2 idx) → ∃ t, exec (.rst j up 2 idx) s = .next t ∧ bits t false))))

/-- Edge instructions (R61): REDGE gives 1 when BA is 1 and the edge bit was 0, FEDGE when BA is 0 and it was 1; the
edge bit takes BA and every other edge bit of the task stays.
Timers (R63, R64) on a record that can be read: TON times a 1 of BA, TOF a 0 after a 1, TP a pulse from a rising
BA; BA takes Q and WA, after a push, the elapsed ticks up to PRESET while RUN; the record takes the new state.
Counters (R66): CTU and CTD move COUNT by one at a rising BA, holding at the ends of the signed 32-bit range; BA
takes the test and WA, after a push, COUNT; CRST and CLD write 0 and PRESET into COUNT when BA is 1 and leave the
registers. -/
def Obligations.EdgesTimersCounters : Prop :=
  (∀ (s : State) (j : Nat) (k : TaskRec) (up : Upset) (e : Nat), up.odd = [] →
     s.isBad (.edge k.task (e / 64)) = false →
     let r := aidonRegs s k
     let edge := fun (s : State) (i : Nat) => (byteAt (s.task k.task).edges (i / 8)).getLsbD (i % 8)
     let judged := fun (t : State) (b : Bool) =>
       (t.task k.task).regs = { r with ba := b, pc := aidonPc s k 1 } ∧
       ∀ i, edge t i = if i = e then r.ba else edge s i
     (CoreRuns s j k (.redge j up e) → ∃ t, exec (.redge j up e) s = .next t ∧ judged t (r.ba && !edge s e)) ∧
     (CoreRuns s j k (.fedge j up e) → ∃ t, exec (.fedge j up e) s = .next t ∧ judged t (!r.ba && edge s e))) ∧
  (∀ (s : State) (j : Nat) (k : TaskRec) (up : Upset) (idx : Nat), up.odd = [] → recordAddr s k idx = .ok (idx * 8) →
     let r := aidonRegs s k
     let c := (s.task k.task).cycle
     let x := timerAt (s.task k.task) (idx * 8)
     let timed := fun (t : State) (y : TimerRec) =>
       (t.task k.task).regs = { pushed r (BitVec.ofNat 64 (if y.run then min (c - y.start).toNat y.preset else 0)) r.bq
         with ba := y.q, pc := aidonPc s k 1 } ∧
       timerAt (t.task k.task) (idx * 8) = y
     let starts := fun (b : Bool) => if b then c else x.start
     (CoreRuns s j k (.ton j up idx) → ∃ t, exec (.ton j up idx) s = .next t ∧ timed t
       (let st := starts (r.ba && !x.run)
       ⟨st, x.preset, r.ba && decide (x.preset ≤ (c - st).toNat), r.ba, r.ba⟩)) ∧
     (CoreRuns s j k (.tof j up idx) → ∃ t, exec (.tof j up idx) s = .next t ∧ timed t
       (let st := starts (!r.ba && x.inp)
       let on := !r.ba && (x.inp || x.run) && decide ((c - st).toNat < x.preset)
       ⟨st, x.preset, r.ba || on || (!(x.inp || x.run) && x.q), on, r.ba⟩)) ∧
     (CoreRuns s j k (.tp j up idx) → ∃ t, exec (.tp j up idx) s = .next t ∧ timed t
       (let go := r.ba && !x.inp && !x.run
       let st := starts go
       let on := (go || x.run) && decide ((c - st).toNat < x.preset)
       ⟨st, x.preset, on || (!(go || x.run) && x.q), on, r.ba⟩))) ∧
  (∀ (s : State) (j : Nat) (k : TaskRec) (up : Upset) (idx : Nat), up.odd = [] → recordAddr s k idx = .ok (idx * 8) →
     let r := aidonRegs s k
     let x := counterAt (s.task k.task) (idx * 8)
     let more := if r.ba && !x.inp then min (x.count + 1) 2147483647 else x.count
     let less := if r.ba && !x.inp then max (x.count - 1) (-2147483648) else x.count
     let counted := fun (t : State) (n : Int) (b : Bool) =>
       (t.task k.task).regs = { pushed r (BitVec.ofInt 64 n) r.bq with ba := b, pc := aidonPc s k 1 } ∧
       counterAt (t.task k.task) (idx * 8) = ⟨n, x.preset, r.ba⟩
     let loaded := fun (t : State) (n : Int) =>
       (t.task k.task).regs = { r with pc := aidonPc s k 1 } ∧
       counterAt (t.task k.task) (idx * 8) = ⟨if r.ba then n else x.count, x.preset, x.inp⟩
     (CoreRuns s j k (.ctu j up idx) → ∃ t, exec (.ctu j up idx) s = .next t ∧
       counted t more (decide (x.preset ≤ more))) ∧
     (CoreRuns s j k (.ctd j up idx) → ∃ t, exec (.ctd j up idx) s = .next t ∧ counted t less (decide (less ≤ 0))) ∧
     (CoreRuns s j k (.crst j up idx) → ∃ t, exec (.crst j up idx) s = .next t ∧ loaded t 0) ∧
     (CoreRuns s j k (.cld j up idx) → ∃ t, exec (.cld j up idx) s = .next t ∧ loaded t x.preset))

/-- An undefined opcode is ILLEGAL (R55, R68), and a fault does what R69 says: the task's activation ends with its
staged outputs discarded, the core's bit in CORE_FAULT_SUM is set, and CORE_FAULT_INFO and CORE_FAULT_PC name the kind,
the class, the task and the instruction.
The faults of R57 and R68: where an instruction meets one, its task faults with that kind at the instruction, after
the cycles are charged: a jump backward that is taken, a ninth nesting entry, an empty stack, a 17th call, a fifth loop, a
loop count of 0, an index beyond the array, a store to the input area, an operand beyond its space, a misaligned record, an
unknown system register. END with a stack that is not empty faults, judged nesting, loops, calls. -/
def Obligations.InstructionsFault : Prop :=
  (∀ (s : State) (j : Nat) (k : TaskRec) (up : Upset) (w : Word), undefinedWord w = true →
     CoreRuns s j k (.undefinedOpcode j up w) → MembersAgree s j k up → j < 16 → k.cls < 8 → k.task < 1024 →
     ∃ t, exec (.undefinedOpcode j up w) s = .next t ∧
       (t.task k.task).active = false ∧ (t.task k.task).ended = true ∧ (t.task k.task).staging = [] ∧
       bit (t.reg A.CORE_FAULT_SUM) j = true ∧
       t.fld (F.CORE_FAULT_INFO.KIND.item j) = 1 ∧ t.fld (F.CORE_FAULT_INFO.CLASS.item j) = k.cls ∧
       t.fld (F.CORE_FAULT_INFO.TASK.item j) = k.task ∧
       t.fld (F.CORE_FAULT_PC.PC.item j) = (aidonRegs s k).pc.toNat ∧
       t.outImg = s.outImg ∧ t.mem = s.mem) ∧
  (∀ (s : State) (j : Nat) (k : TaskRec) (up : Upset), MembersAgree s j k up →
     let r := aidonRegs s k
     let faults := fun (i : Instr) (cost : Nat) (f : AFault) =>
       CoreRuns s j k i → exec i s = .next (taskFault (chargeTask s j k cost) j k r.pc.toNat f)
     let ends := fun (f : AFault) => CoreRuns s j k (.endTask j up) → j < 16 →
       ∃ t, exec (.endTask j up) s = .next t ∧ (t.task k.task).active = false ∧ (t.task k.task).ended = true ∧
         (t.task k.task).staging = [] ∧ bit (t.reg A.CORE_FAULT_SUM) j = true ∧
         t.fld (F.CORE_FAULT_INFO.KIND.item j) = f.code ∧ t.outImg = s.outImg ∧ t.classes = s.classes ∧ t.mem = s.mem
     (∀ off : BitVec 24, off.toInt < 0 → faults (.jmp j up off) 3 .backjump ∧
       (r.ba = true → faults (.jt j up off) 3 .backjump) ∧ (r.ba = false → faults (.jf j up off) 3 .backjump) ∧
       (r.loops ≠ [] → faults (.lpx j up off) 3 .backjump)) ∧
     (8 ≤ r.nest.length → faults (.ap j up) 1 .nest ∧ faults (.anp j up) 1 .nest ∧ faults (.opB j up) 1 .nest ∧
       faults (.onp j up) 1 .nest ∧ faults (.xp j up) 1 .nest) ∧
     (r.nest ≠ [] → ends .nest) ∧ (r.nest = [] → r.loops ≠ [] → ends .loop) ∧
     (r.nest = [] → r.loops = [] → r.calls ≠ [] → ends .callstack) ∧
     (∀ idx, faults (.st j up 0 idx) 2 .writeIn ∧ faults (.stn j up 0 idx) 2 .writeIn ∧
       faults (.setB j up 0 idx) 2 .writeIn ∧ faults (.rst j up 0 idx) 2 .writeIn ∧
       ∀ ext : Word, 0 < ext.toNat → ext.toNat ≤ 4194304 → faults (.stwx j up 0 idx ext) 3 .writeIn) ∧
     (r.nest = [] → faults (.pop j up) 1 .nest) ∧
     (16 ≤ r.calls.length → ∀ off, faults (.call j up off) 4 .callstack) ∧ (r.calls = [] → faults (.ret j up) 4 .callstack) ∧
     faults (.lpb j up 0) 2 .illegal ∧ (4 ≤ r.loops.length → faults (.lpb j up 1) 2 .loop) ∧
     (r.loops = [] → faults (.lpe j up) 3 .loop ∧ ∀ off, faults (.lpx j up off) 3 .loop) ∧
     (∀ idx, faults (.stw j up 0 idx) 2 .writeIn ∧ faults (.stw j up 3 idx) 2 .illegal ∧ faults (.ldw j up 3 idx) 3 .illegal) ∧
     (∀ idx, spaceSize s k 1 ≤ idx → faults (.stw j up 1 idx) 2 .range ∧ faults (.ldw j up 1 idx) 3 .range) ∧
     (∀ idx, k.dataSize < idx * 8 + 8 → faults (.stw j up 2 idx) 2 .range ∧ faults (.ldw j up 2 idx) 3 .range) ∧
     (∀ idx, idx % 2 = 1 → faults (.ton j up idx) 8 .align ∧ faults (.ctu j up idx) 6 .align) ∧
     (∀ n, 0x0B < n → faults (.rds j up n) 2 .sysreg ∧ faults (.wrs j up n) 2 .sysreg) ∧
     ∀ ext : Word, ext.toNat ≤ r.ix.toNat → 0 < ext.toNat → ext.toNat ≤ 4194304 →
       ∀ idx, faults (.ldwx j up 2 idx ext) 4 .index)

/-- The outcome of a checkpoint where nothing is out of agreement (R53, R72 to R74): the staged outputs of a T1 task
enter the output image, those of another class its output buffer while the output image stays (R38), every staged slot
with its value and quality, the staging list and the undo log are empty and
the register state is saved; CHKP goes on with the next instruction, END ends the activation.
A mismatch in a checked pair (R75, R76), at CHKP and at END: where the two halves' signatures differ, no output leaves
and the logged words stand again as they were: every word that the undo log names reads its old value, every other byte of
task data, edge memory and memory as before. The first time the segment starts again from the saved registers; where it
differs again, and where the log had no room for a 513th word, the task stops as finished, the core's bit in CHK_UNRESOLVED
is set, KIND is 2 or 3 and the module is unclean.
The vote of a triplet (R88): the member whose signature alone differs is odd, and no vote stands where all three
differ. At a checkpoint the majority's outputs leave, the odd member is halted until the guard, no retry takes place, and the
core's bit in CHK_MISMATCH with KIND 5 names the member; with no majority the mismatch is unresolved, with KIND 6. -/
def Obligations.CheckpointsCompare : Prop :=
  (∀ (s : State) (j : Nat) (k : TaskRec) (up : Upset), MembersAgree s j k up → (s.task k.task).retry = false →
     let x := s.task k.task
     let buffer := fun (t : State) => (t.cls k.cls).buffer
     let sent := fun (t : State) => ∀ a,
       (k.cls = 0 → t.classes = s.classes ∧ (getAt a x.staging = none → t.outSlot a = s.outSlot a) ∧
         ((x.staging.map Prod.fst).Nodup → ∀ v, (a, v) ∈ x.staging → t.outSlot a = v)) ∧
       (k.cls ≠ 0 → t.outImg = s.outImg ∧
         (getAt a x.staging = none → getAt a (buffer t) = getAt a (buffer s)) ∧
         ((x.staging.map Prod.fst).Nodup → ∀ v, (a, v) ∈ x.staging → getAt a (buffer t) = some v))
     (CoreRuns s j k (.chkp j up) → ∃ t, exec (.chkp j up) s = .next t ∧ sent t ∧ (t.task k.task).active = x.active ∧
       (t.task k.task).staging = [] ∧ (t.task k.task).undo = [] ∧
       (t.task k.task).regs = { x.regs with pc := aidonPc s k 1 } ∧
       (t.task k.task).saved = { x.regs with pc := aidonPc s k 1 } ∧ t.mem = s.mem) ∧
     (CoreRuns s j k (.endTask j up) → x.regs.nest = [] → x.regs.loops = [] → x.regs.calls = [] →
       ∃ t, exec (.endTask j up) s = .next t ∧ sent t ∧ (t.task k.task).active = false ∧
         (t.task k.task).ended = true ∧ (t.task k.task).staging = [] ∧
         t.fld (F.CORE_TASK_STATE.CONSEC.item k.task) = 0 ∧ t.mem = s.mem)) ∧
  (∀ (s : State) (j : Nat) (k : TaskRec) (up : Upset) (i : Instr), i ∈ [Instr.chkp j up, Instr.endTask j up] →
     CoreRuns s j k i → j < 8 → members s j = [0, 1] → ¬ MembersAgree s j k up →
     let x := s.task k.task
     let held := fun (t : State) => (t.task k.task).staging = [] ∧ (t.task k.task).undo = [] ∧
       t.outImg = s.outImg ∧ t.classes = s.classes
     let back := fun (t : State) => (x.undo.map (fun e => e.place)).Nodup →
       (∀ e ∈ x.undo, ∃ w, e.place = .data (8 * w) ∨ e.place = .edge (8 * w) ∨ e.place = .dram (8 * w)) →
       (∀ e ∈ x.undo, match e.place with
         | .data a => dwordAt (t.task k.task).data a = e.old
         | .edge a => dwordAt (t.task k.task).edges a = e.old
         | .dram a => dwordAt t.mem a = e.old) ∧
       (∀ a, (∀ e ∈ x.undo, e.place ≠ .data (a / 8 * 8)) →
         byteAt (t.task k.task).data a = byteAt x.data a) ∧
       (∀ a, (∀ e ∈ x.undo, e.place ≠ .edge (a / 8 * 8)) →
         byteAt (t.task k.task).edges a = byteAt x.edges a) ∧
       (∀ a, (∀ e ∈ x.undo, e.place ≠ .dram (a / 8 * 8)) → byteAt t.mem a = byteAt s.mem a)
     let stopped := fun (t : State) (kind : Nat) => (t.task k.task).active = false ∧ (t.task k.task).ended = true ∧
       bit (t.reg A.CHK_UNRESOLVED) j = true ∧ t.flag F.CHK_STATUS.UNCLEAN = true ∧
       t.fld F.CHK_MISMATCH_INFO.KIND = kind
     (x.retry = false → x.undoFull = false → ∃ t, exec i s = .next t ∧
       (t.task k.task).retry = true ∧ (t.task k.task).regs = x.saved ∧ held t ∧ back t) ∧
     (x.retry = true → ∃ t, exec i s = .next t ∧ stopped t 2 ∧ held t ∧ back t) ∧
     (x.retry = false → x.undoFull = true → ∃ t, exec i s = .next t ∧ stopped t 3 ∧ held t ∧ back t)) ∧
  ((∀ a b c : DWord,
     (oddMember a b c = some none ↔ a = b ∧ b = c) ∧
     (oddMember a b c = some (some 0) ↔ b = c ∧ a ≠ b) ∧
     (oddMember a b c = some (some 1) ↔ a = c ∧ a ≠ b) ∧
     (oddMember a b c = some (some 2) ↔ a = b ∧ b ≠ c) ∧
     (oddMember a b c = none ↔ a ≠ b ∧ b ≠ c ∧ a ≠ c)) ∧
   ∀ (s : State) (j : Nat) (k : TaskRec) (up : Upset), CoreRuns s j k (.chkp j up) → j < 5 → k.cls = 0 →
     members s j = [0, 1, 2] → up.odd = [] → (s.task k.task).retry = false →
     let x := s.task k.task
     let view := fun (i : Nat) => x.syn.getD i 0 ^^^ up.syn.getD i 0
     (∀ i, i < 3 → oddMember (view 0) (view 1) (view 2) = some (some i) →
       ∃ t, exec (.chkp j up) s = .next t ∧ (t.task k.task).active = x.active ∧ (t.task k.task).staging = [] ∧
         (t.task k.task).retry = false ∧ (3 * j + i) ∈ t.check.halted ∧ bit (t.reg A.CHK_MISMATCH) j = true ∧
         t.fld F.CHK_MISMATCH_INFO.KIND = 5 ∧ t.fld F.CHK_MISMATCH_INFO.MEMBER = i ∧
         ((x.staging.map Prod.fst).Nodup → ∀ a v, (a, v) ∈ x.staging → t.outSlot a = v)) ∧
     (oddMember (view 0) (view 1) (view 2) = none →
       ∃ t, exec (.chkp j up) s = .next t ∧ (t.task k.task).active = false ∧ (t.task k.task).ended = true ∧
         (t.task k.task).staging = [] ∧ t.outImg = s.outImg ∧ bit (t.reg A.CHK_UNRESOLVED) j = true ∧
         t.fld F.CHK_MISMATCH_INFO.KIND = 6 ∧ t.flag F.CHK_STATUS.UNCLEAN = true))

/-- Charging (R45): an instruction that completes adds its cycles to the activation's charge; when the charge first
exceeds W the module sets TICK_OVR.BOUND_EXCEEDED and records class 1 code 3 with the task as SOURCE and the tick of the
cycle, and the task keeps running.
The frame of the Aidon instructions that store nothing: whatever they meet on members that agree, a
next state differs from the old one
in the contexts of tasks, the cores' places, the record of healed words, registers and raised events alone; every byte
of memory, both images and the classes read as before, and so does the context of every task of another core. -/
def Obligations.ChargesAndFrame : Prop :=
  (∀ (s : State) (i : Instr) (j cost : Nat) (k : TaskRec) (up : Upset), aidonRegisterOnly i = some (j, up, cost) →
     up.odd = [] → CoreRuns s j k i →
     (s.task k.task).retry = false →
     let n := (s.task k.task).charged + cost
     ∃ t, exec i s = .next t ∧ (t.task k.task).charged = n ∧ (t.task k.task).active = (s.task k.task).active ∧
       (n ≤ taskW s k.task → t.recorder = s.recorder ∧ t.regs = s.regs) ∧
       (taskW s k.task < n → (s.task k.task).boundHit = false →
         t.flag F.TICK_OVR.BOUND_EXCEEDED = true ∧
         ∃ e, t.recorder.raised = s.recorder.raised ++ [e] ∧ e.cls = 1 ∧ e.code = 3 ∧ e.source = k.task ∧
           e.tick = (s.task k.task).cycle)) ∧
  (∀ (s t : State) (i : Instr) (j : Nat) (up : Upset), aidonStoresNothing i = some (j, up) →
     (∀ k, currentTask s j = some k → MembersAgree s j k up) → exec i s = .next t →
     t = { s with tasks := t.tasks, cores := t.cores, bad := t.bad, regs := t.regs, recorder := t.recorder } ∧
     (∀ a, byteAt t.mem a = byteAt s.mem a) ∧
     (∀ n, (∀ k ∈ coreTasks s j, k.task ≠ n) → t.task n = s.task n) ∧
     (∀ n, n ≠ j → t.core n = s.core n))

/-- Code words (R55, R57): the words of a well-formed instruction spell that instruction and no other, with every operand
at every value that its format admits; and a word that spells an instruction is one of its words, with the next one or two
words of LDKX, LDWX and STWX behind it, so that no bit of a code word is dropped. -/
def Obligations.CodeWordsSpellInstructions : Prop :=
  (∀ (i : Instr) (w : Word) (rest : List Word), Instr.wellFormed i = true → codeOf i = w :: rest →
    (∃ j up, i = .undefinedOpcode j up w) ∨
    ∃ j up, ∀ x y : Word, decodeCode j up w (rest.getD 0 x) (rest.getD 1 y) = some i) ∧
  ∀ (j : Nat) (up : Upset) (w x y : Word) (i : Instr), decodeCode j up w x y = some i →
    (codeOf i).head? = some w ∧ codeOf i = [w, x, y].take (codeOf i).length

/-! ## The tick and its windows -/

/-- The first tick (R35): while no tick runs, an edge is the first tick exactly when the time unit has made its step and
the edge lies at least 62,500 ns after it, the fraction of the counter (R17) included; until then RUNNING stays 0 and no
tick number comes.
A tick edge while ticks run (R11, R25, R26, R159): the tick number is the next one, without a gap, and the presence
and crown lines are the ones sampled. -/
def Obligations.TicksStartAndFollow : Prop :=
  (∀ (s : State) (e : EdgeIn), s.power.held = false → s.power.resetDue = false → s.ticking = false →
     ∃ t, exec (.tickEdge e) s = .next t ∧
       if s.flag F.TIME_STATUS.ACQUIRED = true ∧
           62500 * 256 + (s.time.acqFrac : Int) ≤ (e.tickBefore * 62500 - s.time.acqAt).toInt * 256 then
         t.ticking = true ∧ t.tick = e.tickBefore
       else t.ticking = false ∧ t.tick = s.tick) ∧
  (∀ (s : State) (e : EdgeIn), s.power.held = false → s.power.resetDue = false → s.ticking = true →
     ∃ t, exec (.tickEdge e) s = .next t ∧ t.tick = s.tick + 1 ∧ t.ticking = true ∧
       t.flag F.SYS_SLOT.PARTNER_PRESENT = e.present ∧ t.flag F.CROWN_STATUS.CLH_IN = e.clh ∧
       t.reg A.CROWN_OWN = s.crown ∧ t.power.committed = false)

/-- The compute window (R41): at its start every logical core stands in its window with no cycle used and no slice
ended; at the end of a class's slice that class has had its slice and its task keeps its context; at the end of the
window no core runs a task, and the completion mask names the classes whose tasks have all ended (R48).
The commit (R30, R38): the output image as it stands after the classes have published is frozen, and the image
frozen one tick earlier is kept beside it. A class whose cycle period ends and that both modules of a pair report finished
(R48; by the module's own mask where it runs alone or the modules diverge) publishes: its output buffer enters the image, its
count of skips is kept for SY_SKIPPED and CONSEC returns to 0 (R38, R47). One that is not finished overruns: its buffer stays
out of the image, its cycle runs on, and once in a cycle TICK_OVR and its count and last tick show it (R46). A cycle start
that finds its class unfinished counts in CONSEC and starts nothing, and at SKIP_LIMIT the class is STALLED; a class that is
finished begins a cycle with an empty buffer (R36, R47). -/
def Obligations.ComputeAndCommit : Prop :=
  ((∀ s : State, s.ticking = true → s.computes = true →
     ∃ t, exec .computeWindow s = .next t ∧
       ∀ j, j < s.fld F.TICK_PROOF.LCORES → (t.core j).inWindow = true ∧ (t.core j).used = 0 ∧ (t.core j).sliced = []) ∧
   (∀ (s : State) (j : Nat) (k : TaskRec), currentTask s j = some k → k.cls ≠ 0 → k.cls ∉ (s.core j).sliced →
     ∃ t, exec (.sliceEnd j) s = .next t ∧ k.cls ∈ (t.core j).sliced ∧ t.task k.task = s.task k.task ∧
       t.regs = s.regs ∧ t.mem = s.mem) ∧
   (∀ s : State, s.ticking = true → s.computes = true →
     ∃ t, exec .computeStop s = .next t ∧
       (∀ j, j < s.fld F.TICK_PROOF.LCORES → (t.core j).cur = none ∧ (t.core j).inWindow = false) ∧
       ∃ (m : BitVec 8) (t1 late : Bool), t.pair.own1 = some (m, t1, late) ∧ t1 = classDone s 0 ∧
         ∀ k, k < 8 → m.getLsbD k = classDone s k)) ∧
  ((∀ (s : State) (m : BitVec 8) (t1 late : Bool), s.ticking = true → s.computes = true → s.active = true →
     s.pair.own1 = some (m, t1, late) →
     let joint := fun (k : Nat) => m.getLsbD k && (match s.pair.part1 with
       | some (p, a, b) => !(s.paired && a == t1 && b == late) || p.getLsbD k
       | none => true)
     let ends := fun (k : Nat) => k < 8 ∧ (s.cls k).running = true ∧ (s.tick + 1).toNat % classTicks k = 0
     ∃ t, exec .outputImageFreeze s = .next t ∧ t.committed = t.outImg ∧ t.committedPrev = s.committed ∧
       t.power.committed = true ∧ t.inImg = s.inImg ∧
       (∀ k, ends k → joint k = true →
         (t.cls k).running = false ∧ (t.cls k).buffer = [] ∧ (t.cls k).skipped = s.fld (consecFld k) ∧
         t.fld (consecFld k) = 0 ∧
         (((s.cls k).buffer.map Prod.fst).Nodup → ∀ a v, (a, v) ∈ (s.cls k).buffer →
           (∀ n, n ≠ k → getAt a (s.cls n).buffer = none) → t.outSlot a = v)) ∧
       (∀ k, ends k → joint k = false →
         (t.cls k).running = true ∧ (t.cls k).cycle = (s.cls k).cycle ∧ (t.cls k).buffer = (s.cls k).buffer ∧
         (t.cls k).overrun = true ∧ t.fld (consecFld k) = s.fld (consecFld k) ∧
         ((s.cls k).overrun = true → t.fld (F.TICK_CLS_OVR0.COUNT.nth k) = s.fld (F.TICK_CLS_OVR0.COUNT.nth k)) ∧
         ((s.cls k).overrun = false → bit (t.reg A.TICK_OVR) k = true ∧
           t.fld (F.TICK_CLS_OVR0.COUNT.nth k) =
             min (F.TICK_CLS_OVR0.COUNT.nth k).top (s.fld (F.TICK_CLS_OVR0.COUNT.nth k) + 1) ∧
           t.fld (F.TICK_CLS_LAST0.TICK.nth k) = (s.cls k).cycle.toNat % 2 ^ 32)) ∧
       ∀ a, (∀ k, ends k → joint k = true → getAt a (s.cls k).buffer = none) → t.outSlot a = s.outSlot a) ∧
   (∀ (s : State) (k : Nat), k < 8 → s.tick.toNat % classTicks k = 0 →
     ((s.cls k).running = true → ((classEdge s).cls k) = s.cls k ∧
       (classEdge s).fld (consecFld k) = min (consecFld k).top (s.fld (consecFld k) + 1) ∧
       (s.fld (consecFld k) + 1 = s.fld F.TICK_CTRL.SKIP_LIMIT → s.fld (consecFld k) < (consecFld k).top →
         bit ((classEdge s).reg A.TICK_OVR) (8 + k) = true)) ∧
     ((s.cls k).running = false → ((classEdge s).cls k).running = true ∧ ((classEdge s).cls k).cycle = s.tick ∧
       ((classEdge s).cls k).buffer = [] ∧ (classEdge s).fld (consecFld k) = s.fld (consecFld k))) ∧
   ∀ (s : State) (e : EdgeIn) (k : Nat), k < 8 → s.power.held = false → s.power.resetDue = false → s.ticking = true →
     s.computes = true → (s.tick + 1).toNat % classTicks k = 0 →
     ∃ t, exec (.tickEdge e) s = .next t ∧ ((s.cls k).running = true → t.cls k = s.cls k) ∧
       ((s.cls k).running = false → (t.cls k).running = true ∧ (t.cls k).cycle = s.tick + 1 ∧ (t.cls k).buffer = []))

/-- Carding on a crown holder (R29, R37): each class that begins a cycle in this tick takes its input area from the input
image, slot by slot as its CLASSMAP records say, and the image itself stays. On a standby whose local channels' CARD
did not arrive SYS_EVENT.CARDING_MISS is set.
CARD messages of the crown holder's epoch and of this tick (R153): before its Carding ends the standby takes for each
station whose VALID bit is 1 that station's block from the message's bytes, the blocks of the valid stations in rising order,
and every input of the station reads the value and the quality that its place in that block holds; an input of a station
whose bit is 0 is not GOOD (R133); with ring 63 it takes its local channels, nine bytes for each input of a valid group (the
order of the bytes is the model's choice, log entry 34). The ring is marked as carded; what arrives later changes no slot of
the input image (R29, R37). -/
def Obligations.CardingTakesInputs : Prop :=
  ((∀ (s : State) (k : Nat), s.ticking = true → s.holds = true → s.resync.role ≠ .joiner → 0 < k → k < 8 →
     (s.cls k).running = true → (s.cls k).cycle = s.tick →
     ∃ t, exec .carding s = .next t ∧ (t.cls k).input = classInput s k ∧ t.inImg = s.inImg ∧ t.tasks = s.tasks) ∧
   (∀ s : State, s.ticking = true → s.mode = stStandby → s.pair.localCarded = false →
     ∃ t, exec .carding s = .next t ∧ t.flag F.SYS_EVENT.CARDING_MISS = true ∧ t.pair.missNow = true)) ∧
  (∀ (s : State) (h : StraitHdr) (k : Nat) (mask : DWord) (bytes : List Byte), s.mode = stStandby →
     crownEpoch h.crown = s.epoch → h.tick = s.tick →
     (s.pair.cardingOver = false → k ≠ 63 → ringUsed s k = true →
       ∃ t, exec (.card h k mask bytes) s = .next t ∧ (t.ring k).carded = true ∧ t.outImg = s.outImg ∧
         ∀ (pre post : List StationRec) (x : StationRec) (g : SignalRec), ringStations s k = pre ++ x :: post →
           (∀ y ∈ pre ++ post, y.station ≠ x.station) → g ∈ inputSignals s k x.station →
           (∀ y ∈ ringStations s k, ∀ g' ∈ inputSignals s k y.station, g'.slot = g.slot → g' = g) →
           let skip := ((pre.filter (fun y => mask.getLsbD y.station)).map (fun y => y.inLen)).sum
           let block := (bytes.drop skip).take x.inLen
           (mask.getLsbD x.station = true →
             t.inSlot g.slot = ⟨pointValue block g, pointQuality block x.ins g⟩) ∧
           (mask.getLsbD x.station = false → (t.inSlot g.slot).q ≠ .good)) ∧
     (s.pair.cardingOver = false →
       ∃ t, exec (.card h 63 mask bytes) s = .next t ∧ t.pair.localCarded = true ∧ t.outImg = s.outImg ∧
         t.rings = s.rings ∧
         ∀ (pre post : List SignalRec) (g : SignalRec), localInputs s = pre ++ g :: post →
           (∀ g' ∈ pre ++ post, g'.slot ≠ g.slot) → mask.getLsbD (hStation g.handle) = true →
           let rest := bytes.drop (9 * (pre.filter (fun y => mask.getLsbD (hStation y.handle))).length)
           t.inSlot g.slot = ⟨BitVec.ofNat 64 (beAt rest 0 8), Quality.ofCode (u8At rest 8)⟩) ∧
     (s.pair.cardingOver = true → ∃ t, exec (.card h k mask bytes) s = .next t ∧ t.inImg = s.inImg ∧ t.rings = s.rings))

/-- A digest mismatch (R78, R155): both modules clean and their digests of a tick that is compared differ: the module
sets SYS_EVENT.DIGEST_MISMATCH, a verdict self-test runs or waits, and comparison is suspended. Equal digests leave both
alone. A COMMIT that has not arrived is counted, and an unclean tick of this module suspends the comparison all the same
(R77). -/
def Obligations.DigestsAreCompared : Prop :=
  (∀ (s : State) (d : DWord), s.ticking = true → s.paired = true → s.pair.part2 = some (d, true, false) →
     s.pair.cleanLast = true → s.flag F.STRAIT_STATUS.CMP_SUSPENDED = false → s.pair.missNow = false →
     s.pair.diverged = false → (∀ p, s.pair.status = some p → p.imageSeq = runningSeq s) → s.pair.status.isSome →
     s.acts = [] →
     ∃ t, exec .digestCompare s = .next t ∧ t.dword A.STRAIT_PDIGEST_LO = d ∧
       (d ≠ s.dword A.STRAIT_DIGEST_LO →
         t.flag F.SYS_EVENT.DIGEST_MISMATCH = true ∧ t.flag F.STRAIT_STATUS.CMP_SUSPENDED = true ∧
         (t.flag F.CHK_STATUS.VERDICT_BUSY = true ∨ t.flag F.CHK_STATUS.VERDICT_QUEUED = true)) ∧
       (d = s.dword A.STRAIT_DIGEST_LO →
         t.flag F.SYS_EVENT.DIGEST_MISMATCH = s.flag F.SYS_EVENT.DIGEST_MISMATCH ∧
         t.flag F.STRAIT_STATUS.CMP_SUSPENDED = false)) ∧
  ∀ s : State, s.ticking = true → s.paired = true → s.pair.part2 = none → s.acts = [] →
    ∃ t, exec .digestCompare s = .next t ∧ t.dword A.STRAIT_PDIGEST_LO = 0 ∧
      t.fld F.STRAIT_ERR.COMMIT_MISS = min F.STRAIT_ERR.COMMIT_MISS.top (s.fld F.STRAIT_ERR.COMMIT_MISS + 1) ∧
      (s.pair.cleanLast = false → t.flag F.STRAIT_STATUS.CMP_SUSPENDED = true)

/-! ## Rings -/

/-- Lock and the Causeway (R127, R128, R142): a receiver gains lock on a ring whose domain is ON and whose Causeway is
open, and loses it with a count and a record of class 6 code 1, the three cells it missed counted in HDR (the model's choice,
log entry 129); CAUSEWAY_REQ is stored, ACYC_TIMEOUT of 0 counts as 1;
a Causeway asked for or a domain that is not ON closes it, and closed neither receiver holds lock.
A returning frame (R28, R130, R132, R138, R139): the module's own frame of this tick, its first cell sound, shows its
return time, its wrap and its count in every module state in which ticks run (R140, R141); on a module that takes part in the
tick, before the deadline the blocks that its good cells bring are the ring's blocks of this tick, and
the frame counts as back exactly when every one of its cells has arrived by 24 µs (which returns count is the model's
choice, log entry 54).
The ring deadline on a standby (R28): a ring in use whose own frame is not back by 24 µs is LATE, SYS_EVENT.RING_LATE
is set, and the input image stays as it is; RING_RETURN.LAST reads 0xFFFF where no own frame has come at all. -/
def Obligations.RingsReturnTheirFrames : Prop :=
  (∀ (s : State) (k port : Nat), k < 48 → port < 2 →
     (s.fld (F.RING_STATUS.CAUSEWAY.ring k) = 0 → s.dom k = 2 →
       ∃ t, exec (.lock k port) s = .next t ∧ t.fld (lockFld k port) = 1 ∧ t = { s with regs := t.regs } ∧
         ∀ a, a ≠ A.RING_STATUS + 0x10000 * k → t.reg a = s.reg a) ∧
     (s.fld (lockFld k port) = 1 →
       ∃ t, exec (.lockLoss k port) s = .next t ∧ t.fld (lockFld k port) = 0 ∧
         t.fld (F.RING_ERR.LOCK_LOSS.ring k) =
           min (F.RING_ERR.LOCK_LOSS.ring k).top (s.fld (F.RING_ERR.LOCK_LOSS.ring k) + 1) ∧
         t.fld (F.RING_ERR.HDR.ring k) =
           min (F.RING_ERR.HDR.ring k).top (s.fld (F.RING_ERR.HDR.ring k) + 3) ∧
         ∃ e, t.recorder.raised = s.recorder.raised ++ [e] ∧ e.cls = 6 ∧ e.code = 1 ∧ e.source = k) ∧
     (∀ v : Word, ∃ t, exec (.causewayReq k v) s = .next t ∧
       t.flag (F.RING_CTRL.CAUSEWAY_REQ.ring k) = v.getLsbD 0 ∧
       t.fld (F.RING_CTRL.ACYC_TIMEOUT.ring k) = max 1 (getBits v 15 8) ∧ t = { s with regs := t.regs }) ∧
     ∃ t, exec (.causewaySwitch k) s = .next t ∧
       (t.flag (F.RING_STATUS.CAUSEWAY.ring k) = (s.dom k != 2 || s.flag (F.RING_CTRL.CAUSEWAY_REQ.ring k))) ∧
       (t.flag (F.RING_STATUS.CAUSEWAY.ring k) = true →
         t.fld (F.RING_STATUS.LOCK_EVEN.ring k) = 0 ∧ t.fld (F.RING_STATUS.LOCK_ODD.ring k) = 0)) ∧
  (∀ (s : State) (k : Nat) (f : CyclicFrame), k < 48 → s.ticking = true → ringUsed s k = true →
     receiverOn s k f.oddPort = true → frameUse s k f.oddPort (readFrame f) = .own → (readFrame f).headOk = true →
     (readFrame f).tick = s.tick →
     ∃ t, exec (.cyclicFrame k f) s = .next t ∧ t.fld (F.RING_RETURN.LAST.ring k) = min 0xFFFE f.retNs ∧
       (s.active = true → s.fld F.TICK_STATUS.WINDOW = 0 →
         (t.ring k).own = frameBlocks s k (readFrame f) f.parityBad) ∧
       t.flag (F.RING_STATUS.WRAP.ring k) = decide ((readFrame f).wrapAt ≠ 0xFF) ∧
       t.fld (F.RING_STATUS.UNTRACKED.ring k) = (readFrame f).hop - 64 ∧
       (t.ring k).back.isSome =
         decide (f.retNs ≤ 24000 ∧ (readFrame f).lost = [] ∧ (readFrame f).missed = []) ∧
       t.mem = s.mem ∧ t.outImg = s.outImg) ∧
  (∀ (s : State) (k : Nat), s.ticking = true → s.mode = stStandby → k ∈ usedRings s → (s.ring k).back = none →
     ∃ t, exec .ringDeadline s = .next t ∧ t.flag (F.RING_STATUS.LATE.ring k) = true ∧
       ((s.ring k).ret = none → t.fld (F.RING_RETURN.LAST.ring k) = 0xFFFF) ∧
       t.flag F.SYS_EVENT.RING_LATE = true ∧ t.inImg = s.inImg)

/-! ## The Strait and the pair -/

/-- Lanes (R147, R148): a lane is up in this module's receive direction while it holds block lock and a valid STATUS has
arrived on it since; the effective set is the intersection with the partner's; traffic follows it once the move has taken
place in the guard window. That no lane is up before a LANE_UP and that the effective set follows messages at once are the
model's choice (log entries 32 and 57).
STATUS on the control lane (R150): the partner's state and the crown of the header are shown, the partner's lane mask is
taken, and from the own epoch what its flags tell of its tests (R83). COMMIT of this tick is kept for the joint completion and
the comparison (R48, R155); MAINT is kept for what it reports and answered OK (R83); a message whose bytes are not well
formed is counted and has no other effect (R149). -/
def Obligations.StraitMessagesAreTaken : Prop :=
  (∀ (s : State) (l : Nat), l < 8 →
     (∃ t, exec (.laneUp l) s = .next t ∧ t.fld F.STRAIT_STATUS.LANES_UP = (t.pair.rxLanes &&& s.pair.partnerLanes).toNat ∧
       ∀ i, i < 8 →
         t.pair.rxLanes.getLsbD i = ((s.pair.blockLock.getLsbD i || i == l) && s.pair.statusOn.getLsbD i)) ∧
     (∃ t, exec (.laneDown l) s = .next t ∧ t.fld F.STRAIT_STATUS.LANES_UP = (t.pair.rxLanes &&& s.pair.partnerLanes).toNat ∧
       t.pair.blockLock.getLsbD l = false ∧ t.pair.statusOn.getLsbD l = false ∧
       ∀ i, i < 8 →
         t.pair.rxLanes.getLsbD i = (s.pair.blockLock.getLsbD i && s.pair.statusOn.getLsbD i && i != l)) ∧
     (s.pair.laneDirty = true → ∃ t, exec .laneMove s = .next t ∧ t.pair.routing.toNat = s.fld F.STRAIT_STATUS.LANES_UP ∧
       t.pair.laneDirty = false ∧ t.regs = s.regs)) ∧
  ((∀ (s : State) (h : StraitHdr) (p : StatusPayload), h.lane = laneOf s.pair.routing 6 → p.state < 8 →
     ∃ t, exec (.statusMsg h p) s = .next t ∧ t.fld F.STRAIT_STATUS.PARTNER_STATE = p.state ∧
       t.reg A.CROWN_PARTNER = h.crown ∧ t.pair.partnerLanes = p.lanes ∧
       (crownEpoch h.crown = s.epoch → t.pair.partSplit = p.splitBusy ∧ t.pair.partVerdict = p.verdictBusy) ∧
       (s.mode ≠ stStandby → s.resync.role ≠ .joiner → t.mem = s.mem)) ∧
   (∀ (s : State) (h : StraitHdr) (m : BitVec 8) (d : DWord) (a b : Bool), crownEpoch h.crown = s.epoch → h.tick = s.tick →
     (∃ t, exec (.commitMsg h (.completion m a b)) s = .next t ∧ t.pair.part1 = some (m, a, b) ∧ t.regs = s.regs) ∧
     ∃ t, exec (.commitMsg h (.digest d a b)) s = .next t ∧ t.pair.part2 = some (d, a, b) ∧ t.regs = s.regs) ∧
   (∀ (s : State) (h : StraitHdr) (b : Bool), crownEpoch h.crown = s.epoch →
     ∃ t, exec (.maintMsg h .split b) s = .next t ∧ t.pair.partSplit = b ∧ t.regs = s.regs ∧
       (s.trained = true → t.outbox = replyOut s 7 h.seq rcOk :: s.outbox)) ∧
   (∀ (s : State) (m : List Byte),
     (straitIntact m = false → ∃ t, exec (.straitMessageDiscard m) s = .next t ∧ t = { s with regs := t.regs } ∧
       t.fld F.STRAIT_ERR.MSG_CRC = min F.STRAIT_ERR.MSG_CRC.top (s.fld F.STRAIT_ERR.MSG_CRC + 1)) ∧
     (straitIntact m = true → exec (.straitMessageDiscard m) s = .next s)))

/-- Messages from a lower epoch (R152): a request is counted, sets CROWN_EVENT.STALE_EPOCH, is answered ROLE_CHANGED and
has no other effect; the queue of forwarded writes, the roles and the loader stay.
Role changes asked for (R165, R166): a keyed write of CROWN_CTRL on a crown holder with a healthy standby asks for a
swap; a healthy standby agrees to one for the next tick; the acknowledgement agrees it on the crown holder; YIELD makes a
standby in step change in this guard window. For which tick a swap is agreed, and when a YIELD takes effect, is the model's
choice (log entries 62 and 63).
The epoch on the Strait (R15, R152, R167): RAISE from a higher epoch lifts a standby's epoch to it and no further;
a lower one never lowers it. -/
def Obligations.CrownsAndRoles : Prop :=
  (∀ (s : State) (h : StraitHdr) (b o i : Nat) (v : Word) (w : DWord) (x : Option FwdOrigin),
     crownEpoch h.crown < s.epoch → s.trained = true →
     ∀ c ∈ [(Instr.fwdWrite h b o i v w x, 5), (.swapReq h, 4), (.yieldMsg h, 4), (.loaderArm h w x, 6)],
       ∃ t, exec c.1 s = .next t ∧
       t.fld F.STRAIT_ERR.STALE_EPOCH = min F.STRAIT_ERR.STALE_EPOCH.top (s.fld F.STRAIT_ERR.STALE_EPOCH + 1) ∧
       t.flag F.CROWN_EVENT.STALE_EPOCH = true ∧ t.pair.fwd = s.pair.fwd ∧ t.pair.swap = s.pair.swap ∧
       t.loader = s.loader ∧ t.journal = s.journal ∧ t.outbox = replyOut s c.2 h.seq rcRoleChanged :: s.outbox) ∧
  ((∀ (s : State) (v : Word), getBits v 31 16 = 0x69C3 → v.getLsbD 0 = true → swapAllowed s = true →
     ∃ t, exec (.crownSwapReq v) s = .next t ∧ t.pair.swap = .asked s.tick none ∧ t.regs = s.regs) ∧
   (∀ (s : State) (h : StraitHdr), crownEpoch h.crown = s.epoch →
     (selfHealthy s = true →
       ∃ t, exec (.swapReq h) s = .next t ∧ t.pair.swap = .agreed (h.tick + 1) none false ∧ t.regs = s.regs) ∧
     (∀ w k, s.pair.swap = .asked w k →
       ∃ t, exec (.swapAck h) s = .next t ∧ t.pair.swap = .agreed (w + 1) k false ∧ t.regs = s.regs) ∧
     (s.mode = stStandby → s.pair.outOfStep = false →
       ∃ t, exec (.yieldMsg h) s = .next t ∧ t.pair.swap = .agreed h.tick none true ∧ t.regs = s.regs))) ∧
  (∀ (s : State) (h : StraitHdr) (crown : Word), s.mode = stStandby → s.epoch < crownEpoch h.crown →
     ∃ t, exec (.raiseMsg h crown) s = .next t ∧ t.epoch = max s.epoch (crownEpoch crown) ∧
       t.mode = stStandby ∧ t.pair.swap = s.pair.swap)

/-- Loss of the partner (R161, R164): a module that sees neither presence, nor messages with a CLA, nor a running partner
judges it lost, by the presence line as it then stands (R340); a standby that has lost it takes over in this guard window, in SOLO with its epoch one higher; a PRIMARY
that has lost it goes on in SOLO without a raise.
SAFE (R32, R33): a keyed write of SYS_CTRL on a running module asks for SAFE with CAUSE 8; in the guard window a
running module enters SAFE with the cause asked for, records class 0 code 1, and presents rank 0. -/
def Obligations.SafeAndTakeover : Prop :=
  ((∀ s : State, s.ticking = true → s.running = true →
     ∃ t, exec .partnerLossCheck s = .next t ∧ t.flag F.SYS_SLOT.PARTNER_PRESENT = s.pair.presLine ∧
       t.pair.lost = partnerLostNow (s.setFlag F.SYS_SLOT.PARTNER_PRESENT s.pair.presLine) ∧
       (s.pair.presLine = false → t.pair.lost = true) ∧
       (s.pair.heard = true → s.flag F.CROWN_STATUS.CLA_TOGGLED = false → t.flag F.CROWN_STATUS.LINE_FAULT = true)) ∧
   (∀ s : State, s.ticking = true → s.mode = stStandby → s.pair.lost = true → s.epoch < 0xFFFFFF →
     s.pair.swap = .none →
     ∃ t, exec .crownChange s = .next t ∧ t.mode = stSolo ∧ t.epoch = s.epoch + 1 ∧
       t.flag F.CROWN_EVENT.TAKEOVER = true ∧ t.flag F.SYS_EVENT.STATE_CHANGED = true) ∧
   (∀ s : State, s.ticking = true → s.mode = stPrimary → s.pair.lost = true → s.pair.swap = .none →
     ∃ t, exec .crownChange s = .next t ∧ t.mode = stSolo ∧ t.epoch = s.epoch)) ∧
  ((∀ (s : State) (v : Word), getBits v 31 16 = 0xA5C3 → v.getLsbD 0 = true → s.running = true → s.pair.safeDue = none →
     ∃ t, exec (.safeReq v) s = .next t ∧ t = { s with pair := { s.pair with safeDue := some 8 } }) ∧
   (∀ (s : State) (c : Nat), s.pair.safeDue = some c → c < 16 → s.running = true → s.pair.swap = .none →
     ∃ t, exec .safeEntry s = .next t ∧ t.mode = stSafe ∧ t.fld F.SYS_STATE.CAUSE = c ∧ t.rank = 0 ∧
       t.flag F.SYS_EVENT.STATE_CHANGED = true ∧ t.pair.safeDue = none ∧
       ∃ e, t.recorder.raised = s.recorder.raised ++ [e] ∧ e.cls = 0 ∧ e.code = 1))

/-- Forwarded writes (R172): one that arrives for a later tick waits for it and is answered OK; one that is due already is
answered TIMEOUT and waits not. At the start of its tick a write takes effect and waits no longer, as CORE_CTRL, CHK_CTRL,
HOOD_CTRL and TIME_TRIG_PERIOD show, values below a field's range raised to it; so does an own write whose partner stayed
silent, which takes effect on this module alone, counts no COMMIT_MISS and returns TIMEOUT to the command that waits for it. A
REPLY OK to an own one agrees it, another code ends it. -/
def Obligations.ForwardedWritesWait : Prop :=
  (∀ (s : State) (h : StraitHdr) (block off item : Nat) (v : Word) (w : DWord) (x : Option FwdOrigin),
    crownEpoch h.crown = s.epoch →
    (0 < (w - s.tick).toInt → ∃ t, exec (.fwdWrite h block off item v w x) s = .next t ∧
      t.pair.fwd = s.pair.fwd ++ [⟨itemKey (block * 65536 + off) item, v, w, false, h.seq, true, none⟩] ∧
      (s.trained = true → t.outbox = replyOut s 5 h.seq rcOk :: s.outbox) ∧ (x = none → t.regs = s.regs)) ∧
    ((w - s.tick).toInt ≤ 0 → ∃ t, exec (.fwdWrite h block off item v w x) s = .next t ∧ t.pair.fwd = s.pair.fwd ∧
      t.regs = s.regs ∧ (s.trained = true → t.outbox = replyOut s 5 h.seq rcTimeout :: s.outbox))) ∧
  (∀ s : State, (∀ w ∈ s.pair.fwd, w.tick ≠ s.tick) → exec .forwardedWriteEffect s = .next s) ∧
  (∀ (s : State) (w : FwdWrite) (i : Nat), s.pair.fwd = [w] → w.tick = s.tick →
    w.key ∈ [A.CORE_CTRL, A.CHK_CTRL, A.HOOD_CTRL, itemKey A.TIME_TRIG_PERIOD i] →
    s.fld (F.TIME_TRIG_CTRL.STATE.item i) ≠ 1 →
    ∃ t, exec .forwardedWriteEffect s = .next t ∧ t.pair.fwd = [] ∧
      (w.key = A.CORE_CTRL → t.fld F.CORE_CTRL.FAULT_LIMIT = max 1 (getBits w.value 7 0)) ∧
      (w.key = A.CHK_CTRL → t.fld F.CHK_CTRL.ODD_LIMIT = max 1 (getBits w.value 7 0)) ∧
      (w.key = A.HOOD_CTRL → t.fld F.HOOD_CTRL.DEFER_LIMIT = max 1 (getBits w.value 23 16) ∧
        t.fld F.HOOD_CTRL.LEAD = max 1024 (getBits w.value 15 0)) ∧
      (w.key = itemKey A.TIME_TRIG_PERIOD i → t.reg w.key = w.value) ∧
      t.fld F.STRAIT_ERR.COMMIT_MISS = s.fld F.STRAIT_ERR.COMMIT_MISS ∧
      (w.slot = none → t.mem = s.mem ∧ ∀ a, a ≠ w.key → t.reg a = s.reg a) ∧
      ∀ (k : Nat) (q : QCmd), k < 16 → w.own = true → w.replied = false → w.slot = some k → (s.sess k).queue = [q] →
        q.waiting = true → q.opcode ∈ [0x11, 0x32] → (t.sess k).queue = [] ∧ t.outbox.length = s.outbox.length + 1) ∧
  (∀ (s : State) (h : StraitHdr) (w : FwdWrite), crownEpoch h.crown = s.epoch → s.pair.fwd = [w] → w.own = true →
    w.replied = false → w.slot = none →
    (∃ t, exec (.reply h 5 w.seq rcOk) s = .next t ∧ t.pair.fwd = [{ w with replied := true, slot := none }] ∧
      t.regs = s.regs) ∧
    ∀ c, c ≠ rcOk → ∃ t, exec (.reply h 5 w.seq c) s = .next t ∧ t.pair.fwd = [] ∧ t.regs = s.regs)

/-- The verdict self-test and the pair split (R79 to R84): a self-test that started in tick m ends in the guard window of
tick m + 32 with its first failed part, counted, and a failure asks for SAFE with CAUSE 7. What the parts meet in their ticks
counts with what the operands bring: a word in use that is bad in one of the first 12 fails the memory part, a HELD section
without its digest in one of the next 12 the image part (the model's choice, log entry 153). A permitted split is accepted,
or answered QUEUED where a self-test, the partner's split or another split stands in its way, and refused with STATE
where the image does not permit it; asked for again it takes no new place (R327). It starts with 160 ticks to go; one whose
permission has gone ends as failed (the model's choice, log entry 154). It ends in tick s + 160 with its pass bit, and a
self-test that waited starts in that guard window (R81). -/
def Obligations.VerdictAndSplit : Prop :=
  (∀ (s : State) (m a b x y c : Bool) (n : DWord), s.check.verdictAt = some n → s.tick = n + 32 →
    x = (a && !s.check.memBad) → y = (b && !s.check.imageBad) → m = (x && y && c) →
    ∃ t, exec (.verdict a b c) s = .next t ∧ t.fld F.CHK_VERDICT.RESULT = (if m then 1 else 2) ∧
      t.fld F.CHK_VERDICT.PART = (if !x then 1 else if !y then 2 else if !c then 3 else 0) ∧
      t.fld F.CHK_VERDICT.COUNT = min F.CHK_VERDICT.COUNT.top (s.fld F.CHK_VERDICT.COUNT + 1) ∧
      t.flag F.CHK_STATUS.VERDICT_BUSY = false ∧ t.check.verdictAt = none ∧
      (m = true → t.pair.safeDue = s.pair.safeDue) ∧
      (m = false → s.running = true → s.pair.safeDue = none → t.pair.safeDue = some 7)) ∧
  (∀ (s : State) (n : DWord), s.check.verdictAt = some n →
    let d := (s.tick - n).toNat
    (1 ≤ d → d ≤ 12 → (verdictTick s).check.memBad = (s.check.memBad || inUseBad s) ∧
      (verdictTick s).check.imageBad = s.check.imageBad) ∧
    (13 ≤ d → d ≤ 24 → (verdictTick s).check.imageBad = (s.check.imageBad || !heldIntact s) ∧
      (verdictTick s).check.memBad = s.check.memBad) ∧
    (24 < d → verdictTick s = s)) ∧
  (∀ (s : State) (v : Word), getBits v 31 16 = 0x3C96 → v.getLsbD 0 = true →
    let core := getBits v 5 2
    let target := 2 * core + getBits v 1 1
    ∃ t, exec (.splitRequest v) s = .next t ∧
      (splitPermitted s core = false → t.fld F.CHK_SPLIT_STATUS.LAST_REQ = 2 ∧ t.check = s.check ∧ t.acts = s.acts) ∧
      (splitPermitted s core = true → ∀ a, liveActivity s 0x0201 target = some a →
        t.fld F.CHK_SPLIT_STATUS.LAST_REQ = (if a.state = 0 then 1 else 0) ∧ t.acts = s.acts) ∧
      (splitPermitted s core = true → liveActivity s 0x0201 target = none →
        (s.flag F.CHK_STATUS.VERDICT_BUSY || s.flag F.CHK_STATUS.VERDICT_QUEUED || s.pair.partSplit ||
          s.flag F.CHK_STATUS.SPLIT_BUSY → t.fld F.CHK_SPLIT_STATUS.LAST_REQ = 1) ∧
        (splitMustWait s = false → t.fld F.CHK_SPLIT_STATUS.LAST_REQ = 0) ∧ t.actNext = s.actNext + 1 ∧
        liveActivity t 0x0201 target = some ⟨s.actNext, 1, 0x0201, target, if splitMustWait s then 0 else 1⟩)) ∧
  (∀ (s : State) (a : Activity), nextSplit s = some a → s.flag F.CHK_STATUS.VERDICT_BUSY = false →
    s.pair.partSplit = false → s.flag F.CHK_STATUS.SPLIT_BUSY = false →
    (splitPermitted s (a.target / 2) = true →
      ∃ t, exec .splitStart s = .next t ∧ t.flag F.CHK_STATUS.SPLIT_BUSY = true ∧
      t.fld F.CHK_SPLIT_STATUS.REMAIN = 160 ∧ t.fld F.CHK_SPLIT_STATUS.LCORE = a.target / 2 ∧
      t.fld F.CHK_SPLIT_STATUS.HALF = a.target % 2 ∧ t.check.splitAt = some s.tick ∧
      ∀ b ∈ t.acts, b.num = a.num → b.state = 1) ∧
    (splitPermitted s (a.target / 2) = false →
      ∃ t, exec .splitStart s = .next t ∧ t.check = s.check ∧ t.pair = s.pair ∧
      ∀ b ∈ t.acts, b.num = a.num → b.state = 3)) ∧
  (∀ (s : State) (pass : Bool) (n : DWord), s.check.splitAt = some n → s.tick = n + 160 →
    ∃ t, exec (.splitRejoin pass) s = .next t ∧ t.flag F.CHK_STATUS.SPLIT_BUSY = false ∧
      t.flag F.CHK_SPLIT_STATUS.PASS = pass ∧ t.check.splitAt = none ∧
      (pass = false → t.flag F.CHK_STATUS.DEGRADED = true) ∧
      (s.check.queuedTrigger.isSome → t.flag F.CHK_STATUS.VERDICT_BUSY = true ∧ t.check.verdictAt = some s.tick) ∧
      ∃ e es, t.recorder.raised = s.recorder.raised ++ e :: es ∧ e.cls = 3 ∧ e.code = 5)

/-! ## Ports, sessions and host commands -/

/-- Links, counters and session timers (R175, R179, R193, R195, R201): a link that comes up shows its speed; one that goes
down closes every session of its port and of no other; a discarded frame, and a datagram whose bytes fail the test of R195, are
counted and have no other effect; a half-open and an idle session close: the slot is free and its queue is gone.
PROBE and OPEN (R198 to R201): a PROBE is answered with the status block, unless it follows the port's last one
within 1 ms, which is log entry 44's reference; an OPEN whose signature verifies under the key of an enrolled slot and whose
nonce is fresh takes the lowest free slot, half-open, with the next session number and the session key of both sides, and is
answered with the signed OPEN_REPLY; a tampered module refuses it with TAMPER_HOLD, one whose signature does not verify
with AUTH, a full one with BUSY (the three bytes after the code, and the reply's nonce and key, are the model's choice, log
entry 11), and so does one with four sessions on N00 refuse a fifth there (R336). N00 accepts 2,000
frames in a second, here of the calendar (the model's choice, log entry 170); the rest are discarded and counted. -/
def Obligations.PortsProbesOpens : Prop :=
  ((∀ (s : State) (p v : Nat), v < 4 →
     ∃ t, exec (.linkUp p v) s = .next t ∧ t.flag (F.NET_PORT_STATUS.LINK.item p) = true ∧
       t.fld (F.NET_PORT_STATUS.SPEED.item p) = v ∧ OnlyRegs s t [itemKey A.NET_PORT_STATUS p]) ∧
   (∀ (s : State) (p : Nat), ∃ t, exec (.linkDown p) s = .next t ∧ t.flag (F.NET_PORT_STATUS.LINK.item p) = false ∧
     t.fld (F.NET_PORT_STATUS.SPEED.item p) = 0 ∧ t.mem = s.mem ∧ t.journal = s.journal ∧
     ∀ k, k < 16 → if sessState s k ≠ 0 ∧ sessPort s k = p then sessState t k = 0 ∧ (t.sess k).queue = []
       else sessState t k = sessState s k ∧ t.sess k = s.sess k) ∧
   (∀ (s : State) (p : Nat) (b : Bool), let f := (if b then F.NET_PORT_DISC.PTP_OPT else F.NET_PORT_DISC.OTHER).item p
     ∃ t, exec (.discardedFrame p b) s = .next t ∧ t.fld f = min 65535 (s.fld f + 1) ∧
       OnlyRegs s t [itemKey A.NET_PORT_DISC p]) ∧
   (∀ (s : State) (d : List Byte),
     (pletinIntact d = false → ∃ t, exec (.malformedDatagram d) s = .next t ∧
       t.fld F.CMD_ERR.MALFORMED = min 255 (s.fld F.CMD_ERR.MALFORMED + 1) ∧ OnlyRegs s t [A.CMD_ERR]) ∧
     (pletinIntact d = true → exec (.malformedDatagram d) s = .next s)) ∧
   ∀ (s : State) (k : Nat), k < 16 →
     (sessState s k = 1 → ∃ t, exec (.halfOpenTimeout k) s = .next t ∧ sessState t k = 0 ∧ sessId t k = 0 ∧
       (t.sess k).queue = [] ∧ t.mem = s.mem ∧ t.journal = s.journal ∧ t.outbox = s.outbox) ∧
     (sessState s k = 2 → ∃ t, exec (.sessionIdleTimeout k) s = .next t ∧ sessState t k = 0 ∧ sessId t k = 0 ∧
       (t.sess k).queue = [] ∧ t.mem = s.mem ∧ t.journal = s.journal ∧ t.outbox = s.outbox)) ∧
  (∀ (s : State) (p : Nat), portTakes s p = true →
     let room := fun (ns : DWord) => p = 0 → svcCount s ns < 2000
     (∀ ns : DWord, p = 0 → 2000 ≤ svcCount s ns → ∀ c ∈ [Instr.probe p ns], ∃ t, exec c s = .next t ∧
       OnlyRegs s t [itemKey A.NET_PORT_DISC p] ∧
       t.fld (F.NET_PORT_DISC.OTHER.item p) = min 65535 (s.fld (F.NET_PORT_DISC.OTHER.item p) + 1)) ∧
     (∀ (o : OpenMsg) (m : CmdMsg), p = 0 → 2000 ≤ svcCount s o.ns → m.ns = o.ns →
       ∀ c ∈ [Instr.openSession p o, Instr.command p m], ∃ t, exec c s = .next t ∧
       OnlyRegs s t [itemKey A.NET_PORT_DISC p] ∧
       t.fld (F.NET_PORT_DISC.OTHER.item p) = min 65535 (s.fld (F.NET_PORT_DISC.OTHER.item p) + 1)) ∧
     (∀ ns : DWord, room ns → (∀ t0, getAt p s.probeAt = some t0 → 1000000 ≤ (ns - t0).toInt) →
       ∃ t, exec (.probe p ns) s = .next t ∧ t.outbox = probeReply s p ns :: s.outbox ∧ t.mem = s.mem ∧
         t.sessions = s.sessions) ∧
     (∀ (ns t0 : DWord), room ns → getAt p s.probeAt = some t0 → (ns - t0).toInt < 1000000 →
       ∃ t, exec (.probe p ns) s = .next t ∧ t.outbox = s.outbox ∧ t.sessions = s.sessions) ∧
     (∀ (o : OpenMsg), room o.ns → s.tamperRefuse = true →
       ∃ t, exec (.openSession p o) s = .next t ∧ t.outbox = openReply p 0 o.ns [11, 0, 0, 0] :: s.outbox ∧
         t.sessions = s.sessions ∧ t.sessCtr = s.sessCtr) ∧
     (∀ (o : OpenMsg), room o.ns → s.tamperRefuse = false → openSigOk s o = false →
       ∃ t, exec (.openSession p o) s = .next t ∧ t.outbox = openReply p 0 o.ns [5, 0, 0, 0] :: s.outbox ∧
         t.sessions = s.sessions ∧ t.sessCtr = s.sessCtr ∧ t.skerry = s.skerry) ∧
     (∀ (o : OpenMsg), room o.ns → s.tamperRefuse = false → openSigOk s o = true → nonceUsed s o.keySlot o.nonce = false →
       (∀ k, k < 16 → p < 16 → (p = 0 → ((List.range 16).filter (fun j => sessState s j != 0 && sessPort s j == 0)).length < 4) → o.keySlot < 8 → sessState s k = 0 → (∀ j, j < k → sessState s j ≠ 0) →
         ∃ t, exec (.openSession p o) s = .next t ∧ sessState t k = 1 ∧ sessPort t k = p ∧ sessKey t k = o.keySlot ∧
           sessId t k = (if s.sessCtr + 1 = 0 then 1 else s.sessCtr + 1) ∧ t.sessCtr = sessId t k ∧
           (t.sess k).key = sessionKey (sessId t k) o ∧
           t.outbox = openReply p (sessId t k) o.ns (acceptBytes s (sessId t k) o) :: s.outbox ∧
           nonceUsed t o.keySlot o.nonce = true ∧ t.mem = s.mem ∧ t.journal = s.journal ∧
           ∀ j, j < 16 → j ≠ k → sessState t j = sessState s j ∧ t.sess j = s.sess j) ∧
       ((∀ j, j < 16 → sessState s j ≠ 0) ∨
           (p = 0 ∧ 4 ≤ ((List.range 16).filter (fun j => sessState s j != 0 && sessPort s j == 0)).length) →
         ∃ t, exec (.openSession p o) s = .next t ∧ t.outbox = openReply p 0 o.ns [4, 0, 0, 0] :: s.outbox ∧
           t.sessions = s.sessions)))

/-- A datagram that is not executed (R202): where the tag check fails or no open session has its number, the module
changes nothing but its counters; it answers with a NACK that carries SESSION, SEQ and the one byte AUTH, unless 16 left
through the port in this second; every such datagram is counted in CMD_ERR.AUTH. -/
def Obligations.UnauthenticIsNacked : Prop :=
  ∀ (s : State) (p : Nat) (m : CmdMsg) (n : Nat), portTakes s p = true → (p = 0 → svcCount s m.ns < 2000) →
    (∀ k, sessOf s m.session = some k → tagOk s k m = false) →
    n = ((s.nacks.find? (fun e => e.1 == p && e.2.1 == m.ns.toNat / 1000000000)).map (fun e => e.2.2)).getD 0 →
    ∃ t, exec (.command p m) s = .next t ∧
      t = { s with regs := t.regs, nacks := t.nacks, outbox := t.outbox, svcFrames := t.svcFrames } ∧ (p ≠ 0 → t.svcFrames = s.svcFrames) ∧
      (∀ a, a ∉ [A.CMD_ERR, itemKey A.NET_PORT_RX p, itemKey A.NET_PORT_TX p] → t.reg a = s.reg a) ∧
      t.fld F.CMD_ERR.AUTH = min 255 (s.fld F.CMD_ERR.AUTH + 1) ∧
      (n < 16 → t.outbox = .datagram p (pletinHeader 7 m.session m.seq 0 0 0 1 ++ [5]) :: s.outbox ∧
        ((t.nacks.find? (fun e => e.1 == p && e.2.1 == m.ns.toNat / 1000000000)).map (fun e => e.2.2)).getD 0 = n + 1) ∧
      (16 ≤ n → t.outbox = s.outbox)

/-- The admission of a COMMAND (R203 to R206): on an open or half-open session of an untampered module, with an opcode
of the table, a length of its deciphered arguments in its range (on N00 at most 1,024 data bytes, R194), a sufficient permission, room in the queue and epoch 0 where it is not role-bound, a
command that is not journalled joins the end of the session's queue; a journalled one above H does so too, raises H to
its SEQ and enters the journal, not done. A full queue answers BUSY, a tampered module TAMPER_HOLD; neither queues. -/
def Obligations.CommandsAreAdmitted : Prop :=
  ∀ (s : State) (p k : Nat) (m : CmdMsg), portTakes s p = true → (p = 0 → svcCount s m.ns < 2000) →
    sessOf s m.session = some k → tagOk s k m = true →
    let d := deciphered s k m
    (s.tamperRefuse = false → sessPort s k = 0 → (m.opcode = 0x13 ∨ m.opcode = 0x21) → 1036 < d.payload.length →
      ∃ t, exec (.command p m) s = .next t ∧ (t.sess k).queue = (s.sess k).queue ∧ t.journal = s.journal ∧
        t.reg (itemKey A.CMD_SESS_H k) = s.reg (itemKey A.CMD_SESS_H k) ∧
        t.outbox = resultOut s k m.seq m.opcode false rcSize [] :: s.outbox) ∧
    (s.tamperRefuse = true → ∃ t, exec (.command p m) s = .next t ∧ (t.sess k).queue = (s.sess k).queue ∧
      t.outbox = resultOut s k m.seq m.opcode false rcTamperHold [] :: s.outbox ∧ t.journal = s.journal) ∧
    (∀ (perm lo hi : Nat) (j r : Bool), s.tamperRefuse = false → cmdRow m.opcode = some (perm, j, r, lo, hi) →
      lo ≤ d.payload.length → d.payload.length ≤ argLimit (sessPort s k) m.opcode hi → perm ≤ sessPerm s k →
      ((s.sess k).queue.length < 8 → m.epoch = 0 → roleBound s d = false → j = false →
        ∃ t, exec (.command p m) s = .next t ∧ sessState t k = 2 ∧ t.outbox = s.outbox ∧ t.journal = s.journal ∧
          (t.sess k).queue = (s.sess k).queue ++ [⟨m.seq, m.opcode, d.payload, none, s.epoch, false⟩]) ∧
      ((s.sess k).queue.length < 8 → m.epoch = 0 → roleBound s d = false → j = true →
        s.reg (itemKey A.CMD_SESS_H k) < m.seq →
        ∃ t, exec (.command p m) s = .next t ∧ sessState t k = 2 ∧ t.reg (itemKey A.CMD_SESS_H k) = m.seq ∧
          (t.sess k).queue = (s.sess k).queue ++ [⟨m.seq, m.opcode, d.payload, some s.jseq, s.epoch, false⟩] ∧
          t.jseq = s.jseq + 1 ∧ ∃ e, t.journal.head? = some e ∧ e.jseq = s.jseq ∧ e.seq = m.seq ∧
            e.session = sessId s k ∧ e.opcode = m.opcode ∧ e.argDigest = (sha384 d.payload).take 16 ∧ e.done = false ∧ e.forwarded = false) ∧
      (8 ≤ (s.sess k).queue.length → j = false →
        ∃ t, exec (.command p m) s = .next t ∧ (t.sess k).queue = (s.sess k).queue ∧
          t.outbox = resultOut s k m.seq m.opcode false rcBusy [] :: s.outbox))

/-- The commands that read, subscribe or close (R207, R209, R238, R315): each front command is answered OK with what its
row of the command table names and changes no memory; a close of the own session answers first and then frees the
slot; MEM_READ takes channel 31 for a descriptor from and to its range and waits for it. -/
def Obligations.ReadingCommands : Prop :=
  ∀ (s : State) (k : Nat) (q : QCmd) (rest : List QCmd),
    (Fronts s k 0x01 q rest →
      ∃ t, exec (.statusCmd k) s = .next t ∧ Answered t k q rest rcOk (statusBlock s) ∧ t.mem = s.mem) ∧
    (Fronts s k 0x02 q rest → beAt q.payload 0 4 = 0 →
      ∃ t, exec (.sessionClose k) s = .next t ∧ sessState t k = 0 ∧ (t.sess k).queue = [] ∧ t.mem = s.mem ∧
        t.outbox = resultOut s k q.seq 0x02 false rcOk [] :: s.outbox) ∧
    (Fronts s k 0x03 q rest →
      ∃ t, exec (.eventSubscribe k) s = .next t ∧ Answered t k q rest rcOk [] ∧ t.mem = s.mem ∧
        (t.sess k).mask = BitVec.ofNat 32 (beAt q.payload 0 4)) ∧
    (Fronts s k 0x10 q rest → hostRegCheck s k (beAt q.payload 0 8) (u8At q.payload 8) false = none →
      ∃ t, exec (.regRead k) s = .next t ∧ t.mem = s.mem ∧ Answered t k q rest rcOk
        (beBytes 8 (readBytes s (.session k) (beAt q.payload 0 8 - regBase) (u8At q.payload 8)).1)) ∧
    (Fronts s k 0x12 q rest → chAtRest s 31 = true →
      ∀ a n, a = beAt q.payload 0 8 → n = beAt q.payload 8 4 → 0 < n → n ≤ memLimit s k →
      (inRegs a = true → a % 4 = 0 ∧ n % 4 = 0) →
      ∃ t, exec (.memRead k) s = .next t ∧ Held t k q rest ∧ chState t 31 = chReady ∧
        (t.chan 31).desc = some ⟨a, a, n, 0, 0⟩ ∧ (t.chan 31).slot = some k ∧ (t.chan 31).write = false ∧
        t.mem = s.mem ∧ t.outbox = s.outbox) ∧
    (Fronts s k 0x60 q rest → ∀ n, n = u8At q.payload 8 → 0 < n → n ≤ countLimit s k → beAt q.payload 0 8 < s.nextIndex →
      ∃ t, exec (.evrRead k) s = .next t ∧ Answered t k q rest rcOk (readRecords s (beAt q.payload 0 8) n).1 ∧
        t.mem = s.mem) ∧
    (Fronts s k 0x61 q rest →
      ∃ t, exec (.jnlQuery k) s = .next t ∧ t.mem = s.mem ∧
        Answered t k q rest rcOk (journalQuery s (BitVec.ofNat 32 (beAt q.payload 0 4)))) ∧
    (Fronts s k 0x62 q rest → ∀ n xs, n = u8At q.payload 12 → u8At q.payload 0 < 2 → 0 < n → n ≤ countLimit s k →
      xs = journalRead s (u8At q.payload 0) (beAt q.payload 4 8) n → xs ≠ [] →
      ∃ t, exec (.jnlRead k) s = .next t ∧ Answered t k q rest rcOk (xs.flatMap journalBytes) ∧ t.mem = s.mem)

/-- The commands that change the module beside the loader's (R32, R70, R165, R172, R207, R333): a register write of
CORE_TASK_SEL stores its field and answers; in a pair a forwarded register's write goes to the partner for tick w + 2 and
waits; MEM_WRITE takes channel 31 with its bytes; ROLE_SWAP asks the partner; SAFE_REQUEST asks for SAFE; TASK_ENABLE
outside a pair forwards its write and answers; station commands queue a transaction on their ring, and a station of 64
or more is UNTRACKED; a KEY_ADMIN whose root signature verifies changes its slot and counts, any other on N00 answers AUTH. -/
def Obligations.WritingCommands : Prop :=
  ∀ (s : State) (k : Nat) (q : QCmd) (rest : List QCmd),
    (Fronts s k 0x11 q rest → beAt q.payload 0 8 = regBase + A.CORE_TASK_SEL → u8At q.payload 8 = 4 →
      hostRegCheck s k (beAt q.payload 0 8) 4 true = none →
      ∃ t, exec (.regWrite k) s = .next t ∧ Answered t k q rest rcOk [] ∧ t.mem = s.mem ∧
        t.fld F.CORE_TASK_SEL.TASK = beAt q.payload 16 8 % 1024) ∧
    (Fronts s k 0x11 q rest → ∀ a r, beAt q.payload 0 8 = regBase + a → u8At q.payload 8 = 4 →
      hostRegCheck s k (regBase + a) 4 true = none → regAt a = some r → r.fwd = true → s.ticking = true →
      s.paired = true →
      ∃ t, exec (.regWrite k) s = .next t ∧ Held t k q rest ∧ t.regs = s.regs ∧ t.mem = s.mem ∧
        t.pair.fwd = s.pair.fwd ++ [⟨itemKey a (regItem s a r), BitVec.ofNat 32 (beAt q.payload 16 8), s.tick + 2, true,
          s.pair.seq, false, some k⟩]) ∧
    (Fronts s k 0x13 q rest → chAtRest s 31 = true →
      ∀ a n bs, a = beAt q.payload 0 8 → n = beAt q.payload 8 4 → bs = q.payload.drop 12 → bs.length = n → 0 < n →
      n ≤ memLimit s k → (inRegs a = true → a % 4 = 0 ∧ n % 4 = 0) →
      ∃ t, exec (.memWrite k) s = .next t ∧ Held t k q rest ∧ chState t 31 = chReady ∧
        (t.chan 31).desc = some ⟨a, a, n, 0, 0⟩ ∧ (t.chan 31).slot = some k ∧ (t.chan 31).write = true ∧
        (t.chan 31).got = bs ∧ t.mem = s.mem ∧ t.outbox = s.outbox) ∧
    (Fronts s k 0x30 q rest → swapAllowed s = true →
      ∃ t, exec (.roleSwap k) s = .next t ∧ Held t k q rest ∧ t.pair.swap = .asked s.tick (some k) ∧ t.regs = s.regs) ∧
    (Fronts s k 0x31 q rest → s.running = true → s.pair.safeDue = none →
      ∃ t, exec (.safeRequest k) s = .next t ∧ Answered t k q rest rcOk [] ∧ t.pair.safeDue = some 8) ∧
    (Fronts s k 0x32 q rest → (taskRec s (beAt q.payload 0 2)).isSome = true → s.ticking = true → s.paired = false →
      ∃ t, exec (.taskEnable k) s = .next t ∧ Answered t k q rest rcOk [] ∧
        t.pair.fwd = s.pair.fwd ++ [⟨itemKey A.CORE_TASK_EN (beAt q.payload 0 2), 0x5A3C0001, s.tick + 2, true,
          s.pair.seq, false, none⟩]) ∧
    (∀ (w : Bool) (c : Instr) (ring station : Nat), ring = u8At q.payload 0 → station = u8At q.payload 1 →
      c = (if w then .stnWrite k else .stnRead k) → Fronts s k (if w then 0x51 else 0x50) q rest →
      (64 ≤ station → ∃ t, exec c s = .next t ∧ Answered t k q rest rcUntracked [] ∧ t.rings = s.rings) ∧
      (station < 64 → (ringStations s ring).any (fun x => x.station == station) = true →
        (q.payload.drop 4).length ≤ 1024 →
        ∃ t, exec c s = .next t ∧ Held t k q rest ∧ t.outbox = s.outbox ∧ t.regs = s.regs ∧
          (t.ring ring).reqs = (s.ring ring).reqs ++ [⟨none, b2n w, station,
            slice q.payload 2 2 ++ q.payload.drop 4, .host k w, s.tick⟩])) ∧
    (Fronts s k 0x70 q rest → ∀ i key perm, i = u8At q.payload 1 → key = slice q.payload 4 97 →
      perm = u8At q.payload 101 → u8At q.payload 0 = 1 → sessPort s k = 0 → keyAdminSigned s q.payload = true →
      allZero (slice q.payload 2 2) = true →
      perm ≤ 2 → 0 < i → i < 8 → sessKey s k ≠ i → someEngineer (s.skerry.slots.set i (some ⟨key, perm⟩)) = true →
      ∃ t, exec (.keyAdmin k) s = .next t ∧ t.skerry.slots = s.skerry.slots.set i (some ⟨key, perm⟩) ∧
        t.reg A.SKERRY_KEYCNT = s.reg A.SKERRY_KEYCNT + 1 ∧ Answered t k q rest rcOk [] ∧
        ∀ j, j < 16 → sessKey s j = i → sessState t j = 0) ∧
    (Fronts s k 0x70 q rest → sessPort s k = 0 → keyAdminSigned s q.payload = false →
      ∃ t, exec (.keyAdmin k) s = .next t ∧ t.skerry = s.skerry ∧ Answered t k q rest rcAuth [])

/-- Maintenance (R327, R328): a code that the table does not list and a target outside its range are answered CHECK; an
activity that its own rules refuse (a split that R82 does not permit, a calibration of a group that cannot be calibrated or of
any group once the proof test has failed) and the internal one are answered STATE; neither takes a place. An accepted one
takes the next number and runs, or waits and is answered QUEUED where its group is held; one that runs or waits already gives
its own number again. MAINT_STATUS reports the last 256 numbers and answers NO_IMAGE to an older one. While a cable test runs
its cells fill the acyclic window of every tick's train (R146); a ring activity ends done or failed, a cable test with a
request for counts to every station, one after another (what an activity does beyond its start, and that the counts are asked
for at the end, is the model's choice, log entries 100 and 166). -/
def Obligations.MaintenanceActivities : Prop :=
  (∀ (s : State) (k : Nat) (q : QCmd) (rest : List QCmd) (code target : Nat), Fronts s k 0x40 q rest →
    code = beAt q.payload 0 2 → target = beAt q.payload 2 4 →
    (code ∉ [0x0101, 0x0102, 0x0201, 0x0202, 0x0301, 0x0302, 0x0401, 0x0402] ∨ (code = 0x0101 ∧ 4 ≤ target) ∨
      (code ∈ [0x0102, 0x0202, 0x0401] ∧ target ≠ 0) ∨ (code = 0x0201 ∧ 32 ≤ target) ∨
      (code ∈ [0x0301, 0x0302] ∧ 48 ≤ target) →
      ∃ t, exec (.maintStart k) s = .next t ∧ Answered t k q rest rcCheck [] ∧ t.acts = s.acts ∧
        t.actNext = s.actNext) ∧
    ((∀ a ∈ s.acts, 2 ≤ a.state) →
      code = 0x0402 ∨ (code = 0x0201 ∧ target < 32 ∧ splitPermitted s (target / 2) = false) ∨
      (code = 0x0101 ∧ target < 4 ∧ (convAble s target = false ∨ s.fld (F.CONV_GRP_STATUS.SPARE.item target) = 7 ∨
        s.flag F.CONV_REF_STATUS.FAIL = true)) →
      ∃ t, exec (.maintStart k) s = .next t ∧ Answered t k q rest rcState [] ∧ t.acts = s.acts ∧
        t.actNext = s.actNext) ∧
    (code ∈ [0x0301, 0x0302] → target < 48 → (∀ a ∈ s.acts, a.group = 2 + target → 2 ≤ a.state) →
      (∀ a ∈ s.acts, a.code = code → a.target = target → 2 ≤ a.state) →
      ∃ t, exec (.maintStart k) s = .next t ∧ t.actNext = s.actNext + 1 ∧
        (∃ a, liveActivity t code target = some a ∧ a.num = s.actNext ∧ a.state = 1) ∧
        ((∀ a ∈ s.acts, a.num ≠ s.actNext) → Answered t k q rest rcOk (beBytes 4 s.actNext)) ∧
        (code = 0x0302 → t.fld (lockFld target 0) = 0 ∧ t.fld (lockFld target 1) = 0)) ∧
    (code ∈ [0x0301, 0x0302] → target < 48 → (∃ a ∈ s.acts, a.group = 2 + target ∧ a.state ≤ 1) →
      (∀ a ∈ s.acts, a.code = code → a.target = target → 2 ≤ a.state) →
      ∃ t, exec (.maintStart k) s = .next t ∧ Answered t k q rest rcQueued (beBytes 4 s.actNext) ∧
        (∃ a, liveActivity t code target = some a ∧ a.num = s.actNext ∧ a.state = 0)) ∧
    (∀ a, (activityGroup code target).isSome = true → liveActivity s code target = some a →
      ∃ t, exec (.maintStart k) s = .next t ∧ t.acts = s.acts ∧
        Answered t k q rest (if a.state = 0 then rcQueued else rcOk) (beBytes 4 a.num))) ∧
  (∀ (s : State) (k : Nat) (q : QCmd) (rest : List QCmd) (n : Nat), Fronts s k 0x41 q rest → n = beAt q.payload 0 4 →
    (∀ a, s.acts.find? (fun a => a.num == n) = some a → s.actNext ≤ n + 256 →
      ∃ t, exec (.maintStatus k) s = .next t ∧ Answered t k q rest rcOk [BitVec.ofNat 8 a.state, 0, 0, 0] ∧
        t.acts = s.acts) ∧
    (n + 256 < s.actNext →
      ∃ t, exec (.maintStatus k) s = .next t ∧ Answered t k q rest rcNoImage [] ∧ t.acts = s.acts)) ∧
  (∀ (s : State) (k : Nat), s.domOn k = true → causewayClosed s k = false → s.mode ≠ stSolo →
    (∃ a ∈ s.acts, a.code = 0x0301 ∧ a.target = k ∧ a.state = 1) →
    (sendTrain s k).outbox.head? = some (.cableTest k (s.parity == 1) (s.parity == 1) 16 48)) ∧
  ∀ (s : State) (g : Nat) (ok : Bool) (a : Activity), s.ticking = true → 2 ≤ g →
    s.acts.find? (fun a => a.group == g && a.state == 1) = some a → a.code ∈ [0x0301, 0x0302] →
    ∃ t, exec (.activityEnd g ok) s = .next t ∧ t = { s with acts := t.acts, rings := t.rings } ∧
      t.acts = s.acts.map (fun x => if x.num = a.num then { x with state := if ok then 2 else 3 } else x) ∧
      (a.code = 0x0302 → t.rings = s.rings) ∧
      (a.code = 0x0301 → (t.ring a.target).reqs = (s.ring a.target).reqs ++
        (ringStations s a.target).map (fun x => ⟨none, 5, x.station, [], .cable, s.tick⟩))

/-! ## Images: staging, store, switch -/

/-- Staging (R90, R93, R101, R207): IMAGE_BEGIN takes the loader from IDLE to RECEIVING with an empty staging area;
IMAGE_DATA puts its bytes at their offset through channel 27 and leaves the others, and waits out a bus stop (R257); IMAGE_END starts VERIFYING and waits; IMAGE_CANCEL goes
back to IDLE with HOOD_ERROR 8; IMAGE_ARM of a staged image plans the switch in SOLO, asks the partner in PRIMARY, makes
the image the start-up one and waits for its ACTIVATE in SAFE, and is refused in STANDBY.
Verification and the store (R91, R92, R223, R224): an image that passes every check is answered OK and goes on to
STORING in the bank that does not run, under the next OPNUM; one that fails check n is answered with that check's code,
recorded, and leaves the loader in IDLE with HOOD_ERROR n. The steps of a store append their markers, erase, program and
end in STAGED; a failed append is counted, recorded and ends the store, that of ERASE_START leaving an entry that fails its
CRC; after a supply-fail warning no further step begins (R322). ACTIVATE is appended after the COMMIT it names, and
an arm in SAFE then completes with a planned tick of 0 (R101). -/
def Obligations.ImagesAreStagedAndStored : Prop :=
  (∀ (s : State) (k : Nat) (q : QCmd) (rest : List QCmd),
     (Fronts s k 0x20 q rest → loaderState s = ldIdle → 512 ≤ beAt q.payload 0 8 → beAt q.payload 0 8 ≤ 2 ^ 31 →
       beAt q.payload 8 4 ≠ 0 →
       ∃ t, exec (.imageBegin k) s = .next t ∧ loaderState t = ldReceiving ∧ t.loader.total = beAt q.payload 0 8 ∧
         t.loader.seq = BitVec.ofNat 32 (beAt q.payload 8 4) ∧ t.loader.staging = [] ∧ t.loader.img = none ∧
         Answered t k q rest rcOk [] ∧ t.mem = s.mem) ∧
     (Fronts s k 0x21 q rest → loaderState s = ldReceiving → ∀ off bs, off = beAt q.payload 0 8 →
       bs = q.payload.drop 12 → beAt q.payload 8 4 = bs.length → bs ≠ [] → bs.length ≤ 1024 →
       off + bs.length ≤ s.loader.total →
       (busStopped s = true → exec (.imageData k) s = .next s) ∧
       (busStopped s = false →
       ∃ t, exec (.imageData k) s = .next t ∧ Answered t k q rest rcOk [] ∧ loaderState t = ldReceiving ∧
         chState t 27 = chDone ∧ t.mem = s.mem ∧ (∀ i, i < bs.length → getAt (off + i) t.loader.staging = bs[i]?) ∧
         ∀ i, i < off ∨ off + bs.length ≤ i → getAt i t.loader.staging = getAt i s.loader.staging)) ∧
     (Fronts s k 0x22 q rest → loaderState s = ldReceiving →
       ∃ t, exec (.imageEnd k) s = .next t ∧ Held t k q rest ∧ loaderState t = ldVerifying ∧
         t.loader.waitSlot = some k ∧ t.reg A.HOOD_STAGED_SEQ = s.loader.seq ∧ t.outbox = s.outbox ∧ t.mem = s.mem) ∧
     (Fronts s k 0x23 q rest → loaderState s ≠ ldIdle → switchGuard s = false →
       ∃ t, exec (.imageCancel k) s = .next t ∧ Answered t k q rest rcOk [] ∧ loaderState t = ldIdle ∧
         t.loader.img = none ∧ t.loader.staging = [] ∧ t.fld F.HOOD_ERROR.CAUSE = 8 ∧ t.image = s.image) ∧
     (∀ im, Fronts s k 0x24 q rest → s.loader.img = some im → loaderState s = ldStaged → s.loader.asking = none →
       s.loader.armDue = none →
       (s.mode = stSolo → ∃ t, exec (.imageArm k) s = .next t ∧ Held t k q rest ∧ t.outbox = s.outbox ∧
         t.loader.armDue = some (s.tick, plannedTick s im, q.epoch) ∧ loaderState t = ldStaged) ∧
       (s.mode = stPrimary → ∃ t, exec (.imageArm k) s = .next t ∧ Held t k q rest ∧
         t.loader.asking = some s.tick ∧ t.loader.waitSlot = some k ∧ t.regs = s.regs ∧
         (s.trained = true → t.outbox = controlOut s 6 1 [] [] :: s.outbox)) ∧
       (s.mode = stSafe → ∃ t, exec (.imageArm k) s = .next t ∧ Held t k q rest ∧ loaderState t = ldArmed ∧
         switchTick t = 0 ∧ t.loader.activate = some s.loader.bank ∧ t.loader.waitSlot = some k ∧
         t.activeRec = activeBytes s.loader.bank im.seq im.digest ∧ t.outbox = s.outbox) ∧
       (s.mode = stStandby → ∃ t, exec (.imageArm k) s = .next t ∧ Answered t k q rest rcState [] ∧
         t.loader = s.loader))) ∧
  ((∀ (s : State) (k : Nat) (q : QCmd) (rest : List QCmd), loaderState s = ldVerifying →
     s.loader.waitSlot = some k → Waits s k 0x22 q rest →
     let bs := stagedBytes s.loader
     let check := failedCheck s bs s.loader.staging.length s.loader.total s.loader.seq (sequenceFloor s)
       (budgetMode s bs)
     (check = none → s.loader.store = none → s.power.warned = false →
       ∃ t, exec .verifyingDone s = .next t ∧ Answered t k q rest rcOk [] ∧ loaderState t = ldStoring ∧
         t.loader.img = some (readImage bs) ∧ t.opnum = s.opnum + 1 ∧
         ∃ o, t.loader.store = some o ∧ o.bytes = bs ∧ o.seq = s.loader.seq ∧ o.bank = storeBank s ∧
           o.cancelled = false) ∧
     (∀ n, check = some n →
       ∃ t, exec .verifyingDone s = .next t ∧ Answered t k q rest (checkCode n) [] ∧ loaderState t = ldIdle ∧
         t.loader.img = none ∧ t.fld F.HOOD_ERROR.CAUSE = n ∧ Raised s t 7 1 0)) ∧
   (∀ (s : State) (o : StoreOp), s.loader.store = some o → o.bank < 2 → o.cancelled = false → s.power.warned = false →
     busStopped s = false → chState s 26 ≠ chError → chState s 26 ≠ chStopped →
     (s.fld F.CFG_STATUS.STEP = 1 → ∃ t, exec (.storeStepDone true) s = .next t ∧ t.fld F.CFG_STATUS.STEP = 2 ∧
       (t.bank o.bank).markers = [] ∧ (t.bank o.bank).data = (s.bank o.bank).data) ∧
     (s.fld F.CFG_STATUS.STEP = 2 →
       (∃ t, exec (.storeStepDone true) s = .next t ∧ t.fld F.CFG_STATUS.STEP = 3 ∧ t.mem = s.mem ∧
         t.bank o.bank = withEntry (s.bank o.bank) (entryBytes (storeMarker s o .eraseStart))) ∧
       ∃ t, exec (.storeStepDone false) s = .next t ∧ t.fld F.CFG_STATUS.STEP = 0 ∧ t.loader.store = none ∧
         t.bank o.bank = withEntry (s.bank o.bank) (failedEntry (storeMarker s o .eraseStart)) ∧
         t.fld F.CFG_ERR.PROGRAM = min 255 (s.fld F.CFG_ERR.PROGRAM + 1) ∧ Raised s t 7 2 o.bank) ∧
     (s.fld F.CFG_STATUS.STEP = 3 → ∃ t, exec (.storeStepDone true) s = .next t ∧ t.fld F.CFG_STATUS.STEP = 4 ∧
       (t.bank o.bank).data = [] ∧ (t.bank o.bank).markers = (s.bank o.bank).markers) ∧
     (s.fld F.CFG_STATUS.STEP = 5 → ∃ t, exec (.storeStepDone true) s = .next t ∧ t.fld F.CFG_STATUS.STEP = 6 ∧
       (t.bank o.bank).data = programData o.bytes) ∧
     (s.fld F.CFG_STATUS.STEP = 4 → ∃ t, exec (.storeStepDone true) s = .next t ∧ t.fld F.CFG_STATUS.STEP = 5 ∧
       t.bank o.bank = withEntry (s.bank o.bank) (entryBytes (storeMarker s o .eraseDone))) ∧
     (s.fld F.CFG_STATUS.STEP = 6 → bankBytes (s.bank o.bank) o.bytes.length = o.bytes →
       ∃ t, exec (.storeStepDone true) s = .next t ∧ t.fld F.CFG_STATUS.STEP = 7 ∧ t.bank o.bank = s.bank o.bank) ∧
     (s.fld F.CFG_STATUS.STEP = 7 → loaderState s = ldStoring → s.loader.digest = o.digest →
       ∃ t, exec (.storeStepDone true) s = .next t ∧ t.fld F.CFG_STATUS.STEP = 0 ∧ t.loader.store = none ∧
         loaderState t = ldStaged ∧
         t.bank o.bank = withEntry (s.bank o.bank) (entryBytes (storeMarker s o .commit)))) ∧
   (∀ (s : State) (o : StoreOp), s.loader.store = some o → o.bank < 2 → s.power.warned = true →
     (s.fld F.CFG_STATUS.STEP = 1 ∨ s.fld F.CFG_STATUS.STEP = 3 → ∀ ok, exec (.storeStepDone ok) s = .next s) ∧
     (s.fld F.CFG_STATUS.STEP = 2 → ∃ t, exec (.storeStepDone true) s = .next t ∧ t.loader.store = none ∧
       t.bank o.bank = withEntry (s.bank o.bank) (entryBytes (storeMarker s o .eraseStart)))) ∧
   ∀ (s : State) (b : Nat) (c : Marker), s.loader.activate = some b → commitMarker (s.bank b) = some c →
     (∃ t, exec (.activateAppend true) s = .next t ∧ t.loader.activate = none ∧ t.mem = s.mem ∧
       t.bank b = withEntry (s.bank b) (entryBytes ⟨.activate, c.opnum, c.seq, 0, []⟩)) ∧
     (∀ (k : Nat) (q : QCmd) (rest : List QCmd), s.mode = stSafe → loaderState s = ldArmed → s.loader.waitSlot = some k →
       Waits s k 0x24 q rest →
       ∃ t, exec (.activateAppend true) s = .next t ∧ t.loader.safeReset = true ∧
         Answered t k q rest rcOk (beBytes 8 0)) ∧
     ∃ t, exec (.activateAppend false) s = .next t ∧ t.loader.activate = none ∧ t.bank b = s.bank b ∧
       t.fld F.CFG_ERR.PROGRAM = min 255 (s.fld F.CFG_ERR.PROGRAM + 1) ∧ Raised s t 7 5 b)

/-- Arming with the partner and the switch (R93, R96 to R98, R101): LOADER messages are answered and armed by; in the
planned tick the crown holder decides by the grounds of R96 and the standby takes its decision; at 61.2 µs an accepted
arm enters ARMED and its command completes, one whose epoch has changed by 61.0 µs is abandoned with ROLE_CHANGED
(R206); a go switches the image, a no-go postpones it by 1,024 ticks; a standby without a decision goes out of
step; after an arm in SAFE the module resets. When an accepted arm enters ARMED, and that a standby without a decision moves
its own plan, is the model's choice (log entries 70 and 159). -/
def Obligations.SwitchesAreDecided : Prop :=
  (∀ (s : State) (h : StraitHdr), crownEpoch h.crown = s.epoch →
    (s.trained = true → ∃ t, exec (.loaderQuery h) s = .next t ∧ t.regs = s.regs ∧ t.loader = s.loader ∧
      t.outbox = controlOut s 6 2 [loaderState s] s.loader.digest :: s.outbox) ∧
    (∀ (w : DWord) (im : Image) (k : Nat) (q : QCmd) (rest : List QCmd), s.loader.asking = some w →
      s.loader.img = some im → s.mode = stPrimary → loaderState s = ldStaged → s.loader.waitSlot = some k →
      Waits s k 0x24 q rest →
      ∃ t, exec (.loaderReply h ldStaged s.loader.digest) s = .next t ∧ t.loader.asking = none ∧
        t.loader.armDue = some (s.tick, plannedTick s im, q.epoch) ∧ (t.sess k).queue = q :: rest ∧
        (s.trained = true → t.outbox = controlOut s 6 3 [(plannedTick s im).toNat, (sessId s k).toNat, q.seq.toNat,
          q.opcode, sessKey s k] q.payload :: s.outbox)) ∧
    (∀ w : DWord, loaderState s = ldStaged →
      ∃ t, exec (.loaderArm h w none) s = .next t ∧ t.loader.armDue = some (h.tick, w, s.epoch) ∧ t.regs = s.regs ∧
        t.journal = s.journal) ∧
    (∀ go : Bool, switchDue s = true → s.mode = stStandby →
      ∃ t, exec (.switchDecision h go) s = .next t ∧ t.loader.decision = some go ∧ t.regs = s.regs)) ∧
  (∀ (s : State) (im : Image), switchDue s = true → s.loader.img = some im →
    (s.holds = true → ∃ t, exec .switchJudgement s = .next t ∧ t.loader.decision = some (!mustDefer s im) ∧
      t.mem = s.mem ∧ t.image = s.image) ∧
    (s.ticking = true → s.running = true → s.loader.decision = some true →
      ∃ t, exec .hoodSwitch s = .next t ∧ t.image = some im ∧ loaderState t = ldIdle ∧ t.loader.img = none ∧
        t.loader.activate = some s.loader.bank ∧ t.loader.lastSwitch = s.tick) ∧
    (s.ticking = true → s.running = true → s.loader.decision = some false → s.loader.armDue = none →
      s.fld F.HOOD_STATUS.DEFERRALS + 1 < s.fld F.HOOD_CTRL.DEFER_LIMIT →
      ∃ t, exec .hoodSwitch s = .next t ∧ switchTick t = s.tick + 1024 ∧ loaderState t = ldArmed ∧
        t.fld F.HOOD_STATUS.DEFERRALS = s.fld F.HOOD_STATUS.DEFERRALS + 1 ∧ t.image = s.image ∧
        t.loader.decision = none)) ∧
  (∀ (s : State) (im : Image) (w n : DWord) (e : Nat), s.ticking = true → s.running = true → switchDue s = false →
    s.loader.armDue = some (w, n, e) → s.loader.img = some im →
    ∃ t, exec .hoodSwitch s = .next t ∧ loaderState t = ldArmed ∧ switchTick t = n ∧ t.loader.armDue = none ∧
      t.image = s.image ∧
      ∀ (k : Nat) (q : QCmd) (rest : List QCmd), s.loader.waitSlot = some k → Waits s k 0x24 q rest → Answered t k q rest rcOk (beBytes 8 n.toNat)) ∧
  (∀ (s : State) (w n : DWord) (e k : Nat) (q : QCmd) (rest : List QCmd), s.ticking = true → s.mode = stSolo →
    s.pair.lost = false → s.pair.swap = .none → s.pair.joinDue = none → s.pair.oosDue = false →
    s.loader.armDue = some (w, n, e) → e ≠ s.epoch → s.loader.waitSlot = some k → Waits s k 0x24 q rest →
    ∃ t, exec .crownChange s = .next t ∧ t.loader.armDue = none ∧ loaderState t = loaderState s ∧
      Answered t k q rest rcRoleChanged []) ∧
  (∀ s : State, switchDue s = true → s.mode = stStandby → s.loader.decision = none → s.pair.outOfStep = false →
    s.flag F.MEM_STATUS.SCRUB_BUSY = false →
    ∃ t, exec .noSwitchDecision s = .next t ∧ t.pair.outOfStep = true ∧ t.rank = 0 ∧ t.resync.role = .joiner ∧
      t.fld F.STRAIT_STATUS.COPY = 1 ∧ t.loader = s.loader) ∧
  ∀ s : State, s.loader.safeReset = true → s.mode = stSafe →
    ∃ t, exec .safeArmReset s = .next t ∧ t.mode = stStart ∧ t.fld F.PWR_STATUS.RESET_KIND = 3 ∧
      t.flag F.SYS_EVENT.STATE_CHANGED = true ∧ t.image = none ∧ t.bank0 = s.bank0 ∧ t.bank1 = s.bank1

/-! ## Resynchronisation, memory, guard sets, registers -/

/-- The holder's side (R158, R170, R171, R237): a request that names the running image and mode is accepted at once, or
queued behind a DRAM scrub and accepted when the segment ends, and any other is refused; channel 28 sends the pages piece by
piece (R243), and at a round tick with nothing left to send few dirty pages start the final phase, more start the next round, and the 64th round ends the copy with one more failure; equal digests
in tick f + 1 give a holder in SOLO its standby, different ones a failure. What travels as a snapshot, the size of a piece and
who raises over a joiner's epoch are the model's choice (log entries 66, 112 and 172).
The joiner's side (R158, R169 to R171): it asks when its waiting time is over; an accept begins the copy; a COPY that
follows the last message puts its bytes in place and no others, a lost one fails the copy, to be asked for again 16,384
ticks later; the final message brings the copied state, of the retained area all but the joiner's own trim table (R284), and a standby that
stays out of step takes its last commit in step for its outputs again (R169); equal digests in tick f + 1 make it a standby
in step, whose epoch is the higher of its own and the holder's. How a lost message is noticed, and that a joiner takes the
holder's schedule bank, is the model's choice (log entries 67 and 139). -/
def Obligations.StatesAreCopied : Prop :=
  ((∀ (s : State) (h : StraitHdr) (seq : Word) (dg : List Byte) (m : Nat), crownEpoch h.crown = s.epoch →
     (s.holds = true → seq = runningSeq s → dg = imageDigest s → m = s.coreMode → busStopped s = false →
       ∃ t, exec (.resyncRequest h seq dg m) s = .next t ∧ t.resync.role = .holder ∧ t.resync.queued = some h ∧
         t.mem = s.mem ∧ t.fld F.STRAIT_STATUS.COPY = (if s.flag F.MEM_STATUS.SCRUB_BUSY then 5 else 2) ∧
         (s.flag F.MEM_STATUS.SCRUB_BUSY = false → copyWaits t = true)) ∧
     (s.resync.role ≠ .joiner → s.holds = false ∨ seq ≠ runningSeq s ∨ dg ≠ imageDigest s ∨ m ≠ s.coreMode →
       ∃ t, exec (.resyncRequest h seq dg m) s = .next t ∧ t.resync = s.resync ∧ t.regs = s.regs ∧
         (s.trained = true → t.outbox = replyOut s 8 h.seq rcState :: s.outbox))) ∧
   (∀ (s : State) (h : StraitHdr), s.flag F.MEM_STATUS.SCRUB_BUSY = true → s.resync.queued = some h → s.holds = true →
     s.fld F.STRAIT_STATUS.COPY = 5 → busStopped s = false →
     ∃ t, exec .scrubSegmentDone s = .next t ∧ t.flag F.MEM_STATUS.SCRUB_BUSY = false ∧ t.resync.role = .holder ∧
       t.fld F.STRAIT_STATUS.COPY = 2) ∧
   (∀ s : State, s.resync.role = .holder → s.fld F.STRAIT_STATUS.COPY = 2 ∨ s.fld F.STRAIT_STATUS.COPY = 3 →
     (s.tick.toNat + 1) % 1024 = 0 → busStopped s = false → ownerRuns s 28 = true →
     (copyWaits s = true → ∃ t, exec .resyncRound s = .next t ∧ t.resync = s.resync ∧
       t.fld F.STRAIT_STATUS.COPY = s.fld F.STRAIT_STATUS.COPY) ∧
     (copyWaits s = false → s.resync.dirty.length ≤ 16 → (∀ k, k < 8 → (s.cls k).overrun = false) →
       ∃ t, exec .resyncRound s = .next t ∧ t.fld F.STRAIT_STATUS.COPY = 4 ∧ t.resync.finalTick = some s.tick ∧
         t.mem = s.mem) ∧
     (copyWaits s = false → 16 < s.resync.dirty.length → s.fld F.STRAIT_COPY.ROUND < 64 →
       ∃ t, exec .resyncRound s = .next t ∧ t.fld F.STRAIT_STATUS.COPY = 3 ∧ t.resync.dirty = [] ∧
         t.fld F.STRAIT_COPY.ROUND = s.fld F.STRAIT_COPY.ROUND + 1) ∧
     (copyWaits s = false → 16 < s.resync.dirty.length → 64 ≤ s.fld F.STRAIT_COPY.ROUND →
       ∃ t, exec .resyncRound s = .next t ∧ t.fld F.STRAIT_STATUS.COPY = 0 ∧ t.resync.role = .idle ∧
         t.fld F.STRAIT_COPY.FAILS = min 255 (s.fld F.STRAIT_COPY.FAILS + 1) ∧ Raised s t 4 2 0)) ∧
   (∀ (s : State) (q : Nat) (qs : List Nat) (up : UnitUpset) (pre : Option (Nat × Nat)), busStopped s = false →
     nextChannel s = some 28 → copyWaits s = true → s.resync.toSend = q :: qs → addrBad s (2048 * q) 2048 = none →
     ∃ t, exec (.unitOfWork up pre) s = .next t ∧ t.resync = { s.resync with toSend := qs } ∧ t.mem = s.mem ∧
       (s.trained = true → t.outbox = .strait (laneOf s.pair.routing 7) (straitMessage 9 0 (s.reg A.CROWN_OWN) s.tick
         s.pair.seq (straitPayload 9 0 [2048 * q] (bytesAt s.mem (2048 * q) 2048))) :: s.outbox)) ∧
   ∀ (s : State) (f d : DWord) (a b : Bool), s.resync.finalTick = some f → s.tick = f + 1 → s.resync.role = .holder →
     s.mode = stSolo → s.pair.part2 = some (d, a, b) →
     (d = s.dword A.STRAIT_DIGEST_LO →
       ∃ t, exec .resyncDone s = .next t ∧ t.mode = stPrimary ∧ t.resync.role = .idle ∧ t.fld F.STRAIT_STATUS.COPY = 0 ∧
         t.flag F.STRAIT_STATUS.CMP_SUSPENDED = false) ∧
     (d ≠ s.dword A.STRAIT_DIGEST_LO →
       ∃ t, exec .resyncDone s = .next t ∧ t.mode = stSolo ∧ t.resync.role = .idle ∧ t.fld F.STRAIT_STATUS.COPY = 0)) ∧
  ((∀ (s : State) (w : DWord), s.resync.retryAt = some w → (w - s.tick).toInt ≤ 0 → s.pair.status = none →
     s.resync.role ≠ .joiner → s.flag F.MEM_STATUS.SCRUB_BUSY = false →
     ∃ t, exec .resyncRetry s = .next t ∧ t.resync.role = .joiner ∧ t.resync.retryAt = none ∧
       t.fld F.STRAIT_STATUS.COPY = 1 ∧ t.image = s.image) ∧
   (∀ (s : State) (h : StraitHdr), crownEpoch h.crown = s.epoch → s.resync.role = .joiner →
     s.flag F.MEM_STATUS.SCRUB_BUSY = false →
     (s.resync.staged = false → ∃ t, exec (.resyncAccept h) s = .next t ∧ t.fld F.STRAIT_STATUS.COPY = 2 ∧
       t.resync.role = .joiner ∧ ownerRuns t 29 = true ∧ t.mem = s.mem) ∧
     ∀ im, s.resync.staged = true → s.loader.img = some im → ∃ t, exec (.resyncAccept h) s = .next t ∧
       t.fld F.STRAIT_STATUS.COPY = 2 ∧ t.resync.role = .joiner ∧ t.image = some im ∧ loaderState t = ldIdle) ∧
   (∀ (s : State) (h : StraitHdr) (n : Nat), crownEpoch h.crown = s.epoch → s.resync.role = .joiner →
     copyRuns s = true → s.pair.rxSeq = some n → s.resync.gap = false →
     (∀ (a : DWord) (bs : List Byte), h.seq = (n + 1) % 65536 → bs ≠ [] → busStopped s = false →
       ownerRuns s 29 = true → s.bad = [] → s.mramProtected = false →
       memJudge s 61 a.toNat bs.length true = none →
       ∃ t, exec (.copy h a bs) s = .next t ∧ (∀ r, r ≠ A.XFER_STATUS → t.reg r = s.reg r) ∧
         (∀ i, i < bs.length → byteAt t.mem (a.toNat + i) = bs.getD i 0) ∧
         ∀ x, x < a.toNat ∨ a.toNat + bs.length ≤ x → byteAt t.mem x = byteAt s.mem x) ∧
     (∀ (a : DWord) (bs : List Byte), h.seq ≠ (n + 1) % 65536 →
       ∃ t, exec (.copy h a bs) s = .next t ∧ t.mem = s.mem ∧ t.fld F.STRAIT_STATUS.COPY = 0 ∧
         t.resync.retryAt = some (s.tick + 16384) ∧ (∀ m, s.resync.held = some m → t.committed = m) ∧
         t.fld F.STRAIT_COPY.FAILS = min 255 (s.fld F.STRAIT_COPY.FAILS + 1)) ∧
     (∀ x : Snapshot, h.seq = (n + 1) % 65536 →
       ∃ t, exec (.resyncFinal h x) s = .next t ∧ t.fld F.STRAIT_STATUS.COPY = 4 ∧ t.resync.loaded = true ∧
         t.resync.finalTick = some h.tick ∧ t.inImg = x.inImg ∧ t.outImg = x.outImg ∧ t.tasks = x.tasks ∧
         t.classes = x.classes ∧ t.retained = copiedRetained s.retained x.retained ∧
         (s.pair.outOfStep = true → s.resync.held = none → t.resync.held = some s.committed) ∧ t.loader.bankBit = x.bank ∧ t.mem = s.mem)) ∧
   ∀ (s : State) (f : DWord) (a b : Bool), s.resync.finalTick = some f → s.tick = f + 1 → s.resync.role = .joiner →
     s.resync.loaded = true → s.mode = stStandby ∨ s.mode = stStart →
     s.pair.part2 = some (s.dword A.STRAIT_DIGEST_LO, a, b) → s.epoch ≤ crownEpoch s.pair.lastCrown →
     ∃ t, exec .resyncDone s = .next t ∧ t.mode = stStandby ∧ t.pair.outOfStep = false ∧ t.rank = 2 ∧
       t.epoch = crownEpoch s.pair.lastCrown ∧ t.resync.role = .idle ∧ t.fld F.STRAIT_STATUS.COPY = 0)

/-- Scrubbing and the retained flush (R231, R234, R236, R237): a segment starts, and the one after it is next (the model's
choice, log entry 119), or waits for a state copy that runs or that this module has asked for (log entry 156), and takes its
place in its group, one that waits or runs already no second one; what a pass corrected is counted and what it
found uncorrectable stays so and is reported, of Skerry's memory with its address; a flush writes each unit's line into copy A where that is not done already
(log entry 147), then into copy B, and nothing else, and each copy's footer follows with its tick. -/
def Obligations.MemoryIsScrubbedAndFlushed : Prop :=
  (∀ s : State, s.flag F.MEM_STATUS.SCRUB_BUSY = false → (∀ a ∈ s.acts, a.code = 0x0401 → 2 ≤ a.state) →
    let c := copyRuns s || s.resync.role == .joiner
    ∃ t, exec .scrubSegment s = .next t ∧
    t.flag F.MEM_STATUS.SCRUB_BUSY = !c ∧ t.flag F.MEM_STATUS.SEGMENT_QUEUED = c ∧
    t = { s with regs := t.regs, acts := t.acts, actNext := s.actNext + 1 } ∧
    (∀ a, a ∉ [A.MEM_STATUS, A.MEM_SCRUB] → t.reg a = s.reg a) ∧
    liveActivity t 0x0401 0 = some ⟨s.actNext, 50, 0x0401, 0, if c then 0 else 1⟩ ∧
    t.fld F.MEM_SCRUB.SEGMENT = if c then s.fld F.MEM_SCRUB.SEGMENT else (s.fld F.MEM_SCRUB.SEGMENT + 1) % 256) ∧
  (∀ s : State, s.flag F.MEM_STATUS.SCRUB_BUSY = true ∨ (liveActivity s 0x0401 0).isSome = true →
    exec .scrubSegment s = .next s) ∧
  (∀ (s : State) (f : ScrubFindings), ∃ t, exec (.scrubPass f) s = .next t ∧ t.mem = s.mem ∧
    t.fld F.MEM_ECC_CE.SRAM = min 255 (s.fld F.MEM_ECC_CE.SRAM + f.correctedSram) ∧
    t.fld F.MEM_ECC_CE.DRAM = min 65535 (s.fld F.MEM_ECC_CE.DRAM + f.correctedDram) ∧
    t.fld F.MEM_ECC_CE.MRAM = min 255 (s.fld F.MEM_ECC_CE.MRAM + f.correctedMram) ∧
    (∀ p ∈ f.uncorrectable, t.isBad p = true) ∧ (∀ p, s.isBad p = true → t.isBad p = true) ∧
    (f.uncorrectable ≠ [] ∨ f.skerryParity ≠ [] → t.flag F.MEM_EVENT.UE = true) ∧
    (∀ a ∈ f.skerryParity, ∃ e ∈ t.recorder.raised, e.cls = 8 ∧ e.code = 1 ∧ e.source = 3 ∧
      e.detail.take 8 = leBytes 8 a.toNat)) ∧
  ∀ (s : State) (u : Nat) (data : List Byte) (w : Word), s.retSnap = some ([(u, data)], w) → 64 * u + 64 ≤ 0x500000 →
    s.mramProtected = false →
    ∃ t, exec .retainedFlushDone s = .next t ∧ t.flag F.MEM_STATUS.FLUSH_BUSY = false ∧ t.retSnap = none ∧
      t.footB = footerBytes w ∧ bytesAt t.mem (lineAddr true u) 64 = lineBytes data w ∧
      (s.footA = [] → t.footA = footerBytes w ∧ bytesAt t.mem (lineAddr false u) 64 = lineBytes data w) ∧
      (s.footA ≠ [] → t.footA = s.footA ∧
        bytesAt t.mem (lineAddr false u) 64 = bytesAt s.mem (lineAddr false u) 64) ∧
      ∀ x, (∀ b, x < lineAddr b u ∨ lineAddr b u + 64 ≤ x) → byteAt t.mem x = byteAt s.mem x

/-- Guard sets and register accesses (R5, R70, R172, R192, R242, R357): an apply that is due makes the shadow set the
active one, unless an enabled region's base is not a multiple of its size; while ticks run GUARD_APPLY and CORE_TASK_EN
go to both modules for tick w + 2, before the first tick they act at once (the model's choice, log entry 38); a plain register keeps what is written; a
read of a declared pair's low word latches the high word for its requester; a capture read latches the stamp and clears
NEW. -/
def Obligations.RegistersAndGuards : Prop :=
  (∀ (s : State) (req : Nat), s.guardDue = [(req, s.tick)] →
    ((∀ r, r < 32 → (shadowRegion s req r).en = true → (shadowRegion s req r).base % 2 ^ (shadowRegion s req r).size = 0) →
      ∃ t, exec .guardSetApply s = .next t ∧ t.guardDue = [] ∧ t.mem = s.mem ∧
        (∀ r, r < 32 → t.region (req * 32 + r) = shadowRegion s req r) ∧
        ∀ i, i < req * 32 ∨ req * 32 + 32 ≤ i → t.region i = s.region i) ∧
    (∀ r, r < 32 → (shadowRegion s req r).en = true →
      (shadowRegion s req r).base % 2 ^ (shadowRegion s req r).size ≠ 0 →
      ∃ t, exec .guardSetApply s = .next t ∧ t.guardDue = [] ∧ t.guards = s.guards ∧
        t.flag F.GUARD_STATUS.APPLY_ERR = true)) ∧
  (∀ (s : State) (v : Word), s.ticking = true →
    (∃ t, exec (.guardApply v) s = .next t ∧ t.regs = s.regs ∧ t.pair.fwd = s.pair.fwd ++
      [⟨itemKey A.GUARD_APPLY (s.fld F.GUARD_SEL.REQ), v, s.tick + 2, true, s.pair.seq, false, none⟩]) ∧
    ∃ t, exec (.taskReEnable v) s = .next t ∧ t.regs = s.regs ∧ t.pair.fwd = s.pair.fwd ++
      [⟨itemKey A.CORE_TASK_EN (s.fld F.CORE_TASK_SEL.TASK), v, s.tick + 2, true, s.pair.seq, false, none⟩]) ∧
  (∀ (s : State) (i : Nat), s.ticking = false →
    (i = s.fld F.GUARD_SEL.REQ → guardOwnable i = true →
      ∃ t, exec (.guardApply 0x4B960001) s = .next t ∧ t = { s with guardDue := s.guardDue ++ [(i, s.tick)] }) ∧
    (i = s.fld F.CORE_TASK_SEL.TASK → (taskRec s i).isSome = true → s.flag (F.CORE_TASK_STATE.DISABLED.item i) = true →
      ∃ t, exec (.taskReEnable 0x5A3C0001) s = .next t ∧ t.flag (F.CORE_TASK_STATE.DISABLED.item i) = false ∧
        t.fld (F.CORE_TASK_STATE.CONSEC.item i) = 0 ∧ (t.task i).first = true ∧ Raised s t 2 3 i)) ∧
  (∀ (s : State) (who : Requester) (v : Word), regJudge s who A.CORE_TASK_SEL 4 true = none →
    ∃ t, exec (.registerWrite who A.CORE_TASK_SEL v) s = .next t ∧ t.fld F.CORE_TASK_SEL.TASK = v.toNat % 1024 ∧
      OnlyRegs s t [A.CORE_TASK_SEL]) ∧
  (∀ (s : State) (who : Requester) (a : Nat) (r : RegDesc) (v : Word), regAt a = some r → r.low = true →
    a ≠ A.TIME_CAP_T_LO → a ≠ A.TIME_NOW_LO → regJudge s who a 4 false = none → unitAnswers s a = true →
    ∃ t, exec (.declaredPairLowRead who a) s = .next t ∧ t.latched who (a + 4) v = regValue s (a + 4) ∧
      t.mem = s.mem) ∧
  ∀ (s : State) (who : Requester) (i : Nat) (v : Word), i = s.fld F.TIME_CAP_SEL.CAP →
    ∃ t, exec (.captureRead who) s = .next t ∧ t.flag (F.TIME_CAP_CTRL.NEW.item i) = false ∧
      t.latched who A.TIME_CAP_T_HI v = s.reg (itemKey A.TIME_CAP_T_HI i) ∧
      t.latched who A.TIME_CAP_T_FRAC v = s.reg (itemKey A.TIME_CAP_T_FRAC i) ∧
      ∀ a, a ≠ itemKey A.TIME_CAP_CTRL i → t.reg a = s.reg a

/-! ## Transfers, acyclic transactions, the shaft engine -/

/-- Transfer channels (R243, R250, R256 to R258): START makes a channel at rest READY with nothing executed; ABORT ends
one that is not at rest with END 6, its bit in XFER_ERR and a record of class 9 code 1, and one within a burst only when the
burst is complete; a bus timeout stops every channel
that is not IDLE, its state kept, of a state copy's channels given up, and END BUS shown meanwhile, and the command on channel
31 receives TIMEOUT (the model's choice, log entry 148); RESUME gives each its state and its END back;
ABORT_ALL ends each stopped one with ABORT; a raised request line makes the channels that wait for it
READY.
A unit of work (R244, R251 to R256): the chosen channel moves one descriptor that one unit can carry, which ends with a
whole word of its destination, and which is the last of its chain, from memory to memory: the bytes in its destination are
those of its source, no byte outside is written, it ends DONE with nothing remaining and its bit in XFER_DONE. In RECOVERY
mode a high-priority channel that waits for its request pre-empts a channel of normal priority after the beats at which the
request rises: what has been moved stays, the channel is PREEMPTED, and no other goes on before it. A failed parity of the
channel's buffer ends it with PARITY; during a bus stop nothing moves (R257). -/
def Obligations.TransfersRun : Prop :=
  ((∀ (s : State) (v : Word) (c : Nat), c = s.fld F.XFER_CH_SEL.CH →
     (v.getLsbD 0 = true → v.getLsbD 1 = false → c < 24 → chAtRest s c = true →
       ∃ t, exec (.xferStart v) s = .next t ∧ chState t c = chReady ∧ t.fld (F.XFER_CH_STATUS.COUNT.item c) = 0 ∧
         t.fld (F.XFER_CH_STATUS.END.item c) = 0 ∧ t.chan c = XferCh.idle ∧ t.mem = s.mem ∧
         ∀ j, j ≠ c → chState t j = chState s j ∧ t.chan j = s.chan j) ∧
     (v.getLsbD 1 = true → chAtRest s c = false → midBurst s c = true →
       ∃ t, exec (.xferAbort v) s = .next t ∧ chState t c = chState s c ∧ (t.chan c).abort = true ∧ t.mem = s.mem) ∧
     (v.getLsbD 1 = true → chAtRest s c = false → midBurst s c = false → (s.chan c).slot = none →
       ∃ t, exec (.xferAbort v) s = .next t ∧ chState t c = chError ∧ t.fld (F.XFER_CH_STATUS.END.item c) = endAbort ∧
         (t.reg A.XFER_ERR).getLsbD c = true ∧ t.mem = s.mem ∧ Raised s t 9 1 c ∧
         ∀ j, j ≠ c → chState t j = chState s j ∧ t.chan j = s.chan j)) ∧
   (∀ (s : State) (a : DWord), (∃ c, c < 32 ∧ chAtRest s c = false ∧ chState s c ≠ chStopped) → copyRuns s = false →
     ∃ t, exec (.busTimeout a) s = .next t ∧ busStopped t = true ∧ t.dword A.XFER_BUS_ADDR_LO = a ∧ Raised s t 9 2 0 ∧
       ∀ c, c < 32 → if chState s c = chIdle then chState t c = chIdle
         else chState t c = chStopped ∧ (chState s c ≠ chStopped → (t.chan c).before = (if c = 28 ∨ c = 29 then chIdle else chState s c) ∧
           (t.chan c).moved = (s.chan c).moved ∧ t.fld (F.XFER_CH_STATUS.END.item c) = endBus)) ∧
   (∀ (s : State) (a : DWord) (k : Nat) (q : QCmd) (rest : List QCmd), chAtRest s 31 = false → chState s 31 ≠ chStopped →
     copyRuns s = false → (s.chan 31).slot = some k → (∀ c, c ≠ 31 → (s.chan c).slot = none) → Waits s k 0x12 q rest →
     ∃ t, exec (.busTimeout a) s = .next t ∧ Answered t k q rest rcTimeout []) ∧
   (∀ (s : State) (v : Word), getBits v 31 16 = 0xC35A → busStopped s = true →
     (v.getLsbD 0 = true → v.getLsbD 1 = false → (∀ c, (s.chan c).before < 8 ∧ (s.chan c).beforeEnd < 8) →
       ∃ t, exec (.xferResume v) s = .next t ∧ busStopped t = false ∧ t.xfer = s.xfer ∧ t.mem = s.mem ∧
         ∀ c, c < 32 → if chState s c = chStopped then chState t c = (s.chan c).before ∧
           t.fld (F.XFER_CH_STATUS.END.item c) = (s.chan c).beforeEnd else chState t c = chState s c) ∧
     (v.getLsbD 1 = true →
       ∃ t, exec (.xferAbortAll v) s = .next t ∧ busStopped t = false ∧ t.mem = s.mem ∧
         ∀ c, c < 32 → if chState s c = chStopped then chState t c = chError ∧
           t.fld (F.XFER_CH_STATUS.END.item c) = endAbort else chState t c = chState s c)) ∧
   ∀ (s : State) (xs : List Int), ∃ t, exec (.peripheralRequest 8 xs) s = .next t ∧ t.mem = s.mem ∧
     ∀ c d, c < 32 → (s.chan c).desc = some d → d.req = 8 → chState s c = chWait →
       chState t c = chReady ∧ (t.chan c).request = true) ∧
  ((∀ (s : State) (c src dst len : Nat), busStopped s = false → nextChannel s = some c → c < 31 → c ∉ [25, 26, 27, 28] →
     (s.chan c).desc = some ⟨src, dst, len, 0, 0⟩ → (s.chan c).moved = 0 → (s.chan c).burst = 0 → (s.chan c).buf = [] →
     (s.chan c).abort = false → (s.chan c).slot = none → 0 < len → inRegs src = false → inRegs dst = false → s.bad = [] →
     s.mramProtected = false → memJudge s (32 + c) src len false = none → memJudge s (32 + c) dst len true = none →
     (len + dst % 8 ≤ 2048 → len + (8 - (dst + len) % 8) % 8 ≤ 2048 →
       ∃ t, exec (.unitOfWork ⟨false, false⟩ none) s = .next t ∧ chState t c = chDone ∧ t.fld F.XFER_STATUS.CHANNEL = c ∧
       (t.reg A.XFER_DONE).getLsbD c = true ∧ t.reg (itemKey A.XFER_CH_REMAIN c) = 0 ∧ (t.chan c).desc = none ∧
       (∀ i, i < len → byteAt t.mem (dst + i) = memByte s (src + i)) ∧
       ∀ x, x < dst ∨ dst + len ≤ x → byteAt t.mem x = byteAt s.mem x) ∧
     (∀ b h, 0 < b → 8 * b < len → 8 * b < 2048 → src % 8 = 0 → dst % 8 = 0 → dst ≤ src ∨ src + len ≤ dst →
       recoveryMode s = true → chanHigh s c = false → chanHigh s h = true → chState s h = chWait → h < 32 →
       ∃ t, exec (.unitOfWork ⟨false, false⟩ (some (b, h))) s = .next t ∧ chState t c = chPreempted ∧
         chState t h = chReady ∧ (t.chan c).moved = 8 * b ∧ (t.chan c).desc = (s.chan c).desc ∧
         t.reg (itemKey A.XFER_CH_REMAIN c) = BitVec.ofNat 32 (len - 8 * b) ∧
         (∀ i, i < 8 * b → byteAt t.mem (dst + i) = memByte s (src + i)) ∧
         ∀ x, x < dst ∨ dst + 8 * b ≤ x → byteAt t.mem x = byteAt s.mem x) ∧
     ∀ pre, ∃ t, exec (.unitOfWork ⟨true, false⟩ pre) s = .next t ∧ chState t c = chError ∧
       t.fld (F.XFER_CH_STATUS.END.item c) = endParity ∧ t.mem = s.mem ∧ Raised s t 9 1 c) ∧
   (∀ (s : State) (up : UnitUpset) (pre : Option (Nat × Nat)), busStopped s = true → exec (.unitOfWork up pre) s = .next s) ∧
   ∀ (s : State) (c : Nat), c < 32 → chState s c = chPreempted → (∀ j, j < 32 → j ≠ c → chState s j ≠ chPreempted) →
     (∀ j, j < 32 → chanHigh s j = false) → nextChannel s = some c)

/-- Acyclic transactions (R143 to R146): the first waiting request leaves with the lowest free tag (the model's choice, log
entry 35) and the tag's generation in the next cells of this tick's window that have not begun to leave, which the frame
fits, and one that fits no more waits; a good reply whose
stamp, corrected by R183, lies in its owner's slot, with the right generation frees the tag and answers a host's STN command;
one whose first cell is sound but lies outside its slot is discarded and counted, whatever its other cells hold;
after the timeout the tag is free, its generation inverted, the timeout counted and the command answered TIMEOUT. -/
def Obligations.AcyclicTransactions : Prop :=
  ∀ (s : State) (r : Nat), r < 48 → s.domOn r = true → causewayClosed s r = false →
    (∀ q tag n, (s.ring r).reqs.find? (fun q => q.tag.isNone) = some q → tag < 256 → tag ∉ tagsInUse (s.ring r) →
      (∀ j, j < tag → j ∈ tagsInUse (s.ring r)) → n = acyclicCells q.data.length →
      let first := max (16 + (s.ring r).window) (cellsBegun s)
      (first + n ≤ 48 →
        ∃ t, exec (.acyclicRequestSend r) s = .next t ∧ tag ∈ tagsInUse (t.ring r) ∧ t.mem = s.mem ∧
          (t.ring r).window = first + n - 16 ∧
          t.outbox = .acyclic r (s.parity == 1) (requestCells first tag ((s.ring r).gens.contains tag)
            q.svc q.station (s.parity == 1) (s.parity == 1) q.data) :: s.outbox) ∧
      (48 < first + n → exec (.acyclicRequestSend r) s = .next s)) ∧
    (∀ (f : AcycFrame) (v : AcycView) (q : AcycReq) (k : Nat) (c : QCmd) (rest : List QCmd),
      receiverOn s r f.oddPort = true → readAcyclic f = some v → b2n v.origin = s.parity → slotStart s r v.owner ≠ 0 →
      (slotError s r v.owner f).natAbs ≤ 250 * 256 →
      (s.ring r).reqs.find? (fun q => q.tag == some v.tag) = some q → v.gen = (s.ring r).gens.contains v.tag →
      q.owner = .host k false → Waits s k 0x50 c rest → v.status = 0 →
      v.data.length ≤ 1024 →
      ∃ t, exec (.acyclicFrame r f) s = .next t ∧ v.tag ∉ tagsInUse (t.ring r) ∧ Answered t k c rest rcOk v.data) ∧
    (∀ (f : AcycFrame) (x : List Byte) (more : List (Option (List Byte))), receiverOn s r f.oddPort = true →
      f.cells = some x :: more → (readCell x).missed = false → (readCell x).type = 2 →
      b2n (readCell x).origin = s.parity → (readCell x).owner < 64 →
      slotStart s r (readCell x).owner = 0 ∨ 250 * 256 < (slotError s r (readCell x).owner f).natAbs →
      let late := stnFld F.RING_STN_LATE.LATE r (readCell x).owner
      ∃ t, exec (.acyclicFrame r f) s = .next t ∧ t.fld late = min late.top (s.fld late + 1) ∧ t.rings = s.rings ∧
        t.sessions = s.sessions) ∧
    ∀ (tag : Nat) (q : AcycReq) (k : Nat) (c : QCmd) (rest : List QCmd),
      (s.ring r).reqs.find? (fun q => q.tag == some tag) = some q →
      s.fld (F.RING_CTRL.ACYC_TIMEOUT.ring r) ≤ (s.tick - q.sent).toNat → q.owner = .host k true →
      Waits s k 0x51 c rest →
      ∃ t, exec (.acyclicTimeout r tag) s = .next t ∧ tag ∉ tagsInUse (t.ring r) ∧
        (t.ring r).gens.contains tag = (!(s.ring r).gens.contains tag) ∧ Answered t k c rest rcTimeout [] ∧
        t.fld (F.RING_ACYC.TIMEOUT.ring r) =
          min (F.RING_ACYC.TIMEOUT.ring r).top (s.fld (F.RING_ACYC.TIMEOUT.ring r) + 1)

/-- The engine pass (R42, R103, R104, R106, R109 to R115, R118 to R120): it notes whether a shaft-feed task is late; a
virtual master whose command lies within its acceleration takes it as its velocity and moves by it; a master keeps position,
velocity and quality where the lanes disagree and the module is unclean (the model's choice, log entry 84), and an axis then
puts out its last setpoint plus its last feedforward and keeps its accumulator (log entry 140). A disengaged axis puts out the
actual position with no feedforward. At its change to GEARED or CAMMED an axis begins anew with the setpoint that it had. A
GEARED axis advances its accumulator by the exact ratio of its master's change with the remainder carried, moves TRIM toward
its target by at most TRIM_RATE and puts out OFFSET, accumulator, TRIM and MARK_TRIM together; on a CAMMED one the cycle base
and the cam's value stand in the accumulator's place, and a crossing of an integer revolution moves the base by RISE and
brings the selected table into use. An accepted mark is counted and its correction enters that setpoint, a rejected one is
counted and changes nothing. A following error above its limit for long enough puts the axis in FAULT, at its actual
position with quality SUBSTITUTE.
Cam tables (R112, R113): at a point of its grid a table reads that point's position, linear or cubic; between two points a
linear one reads the exact value on the line between them, rounded toward minus infinity (R102), the point behind the last
being the first one raised by RISE; a cubic one with the slopes of that line reads the same. -/
def Obligations.EnginePassMovesShafts : Prop :=
  ((∀ (s : State) (im : Image) (i : Nat), s.ticking = true → s.computes = true → s.image = some im →
     (∀ r, im.masters[i]? = some r → im.axes = [] →
       (∀ src, src = s.outSlot r.cmdSlot → r.external = false → (s.master i).emerg = false →
         (s.master i).stopReq = false → src.q ≠ .bad → (src.val - (s.master i).v).toInt.natAbs ≤ r.acc →
         ∃ t, exec (.enginePass ⟨[], []⟩) s = .next t ∧ (t.master i).v = src.val ∧
           (t.master i).m = (s.master i).m + src.val ∧ t.mem = s.mem ∧ t.outImg = s.outImg ∧
           t.pair.own1 = some (0, false, feedLate s)) ∧
       ∃ t, exec (.enginePass ⟨[i], []⟩) s = .next t ∧ (t.master i).m = (s.master i).m ∧
         (t.master i).v = (s.master i).v ∧ (t.master i).q = (s.master i).q ∧
         t.flag F.SHAFT_EVENT.LANE_MISMATCH = true ∧ t.flag F.CHK_STATUS.UNCLEAN = true) ∧
     ∀ a o, im.axes = [a] → a.ffEn = false → handleSlot s a.spHandle true = some o → (s.axis 0).mode = .disengaged →
       (s.outSlot a.cmdBase).val = 0 →
       ∃ t, exec (.enginePass ⟨[], []⟩) s = .next t ∧ (t.axis 0).s = (handleIn s a.actHandle).val ∧
         (t.axis 0).ff = 0 ∧ (t.outSlot o).val = (handleIn s a.actHandle).val ∧ t.mem = s.mem) ∧
   ∀ (s : State) (im : Image) (a : AxisRec) (o : Nat), s.ticking = true → s.computes = true → s.image = some im →
     im.axes = [a] → a.master < im.masters.length → a.ffEn = false → handleSlot s a.spHandle true = some o →
     let x := s.axis 0
     let act := handleIn s a.actHandle
     let cmd := fun (i : Nat) => s.outSlot (a.cmdBase + i)
     let run := fun (t : State) => exec (.enginePass ⟨[], []⟩) s = .next t
     (∃ t, exec (.enginePass ⟨[], [0]⟩) s = .next t ∧ (t.axis 0).s = x.s + x.ff ∧ (t.outSlot o).val = x.s + x.ff ∧
       (t.axis 0).g = x.g ∧ (t.axis 0).r = x.r ∧ (t.axis 0).trim = x.trim ∧ (t.axis 0).markTrim = x.markTrim ∧
       (t.axis 0).mode = x.mode ∧ t.flag F.SHAFT_EVENT.LANE_MISMATCH = true ∧ t.flag F.CHK_STATUS.UNCLEAN = true) ∧
     (∀ e, followError s x act = some e → a.ferrLimit < e.natAbs → x.mode = .geared ∨ x.mode = .cammed →
       a.ferrTicks ≤ min 255 (x.ferrCnt + 1) →
       ∃ t, run t ∧ (t.axis 0).mode = .fault ∧ (t.axis 0).s = act.val ∧ (t.axis 0).ff = 0 ∧
         t.outSlot o = ⟨act.val, .substitute⟩ ∧ t.flag F.SHAFT_EVENT.AXIS_FAULT = true ∧
         ∃ ev ∈ t.recorder.raised, ev.cls = 17 ∧ ev.code = 1 ∧ ev.source = 0) ∧
     (x.groupStop = false → 0 < a.ferrTicks → (∀ e, followError s x act = some e → e.natAbs ≤ a.ferrLimit) →
       (a.markEn = false → x.mode = .disengaged →
         (cmd 0).val = 1 ∨ (cmd 0).val = 2 →
         ∃ t, run t ∧ (t.axis 0).mode = (if (cmd 0).val = 1 then .geared else .cammed) ∧ (t.axis 0).s = x.s ∧
           (t.axis 0).ff = 0 ∧ (t.axis 0).g = 0 ∧ (t.axis 0).r = 0 ∧ (t.axis 0).trim = 0 ∧ (t.axis 0).markTrim = 0 ∧
           (t.outSlot o).val = x.s) ∧
       ∀ (n : Int) (d : Nat) (e : Option Int), gearOf s a = (n, d) → 0 < d →
         let cnt := handleIn s a.markCnt
         let isNew := a.markEn = true ∧ x.markSeen = true ∧ cnt.val ≠ x.markCnt
         (isNew → markAccepted s a x cnt (handleIn s a.markTime) = e) → (¬ isNew → e = none) →
         let r0 : Nat := if n = x.n ∧ d = x.d then x.r else 0
         let p := fun (t : State) => ((t.master a.master).m - (s.master a.master).m).toInt * n + (r0 : Int)
         let far := ((cmd 1).val - x.trim).toInt
         let trim := if far.natAbs ≤ a.trimRate then (cmd 1).val
           else if 0 < far then x.trim + BitVec.ofNat 64 a.trimRate else x.trim - BitVec.ofNat 64 a.trimRate
         let markTrim := match e with
           | none => x.markTrim
           | some e => markTrimmed a x.markTrim e
         let marks := fun (t : State) =>
           let acc := F.SHAFT_AXIS_MARK.ACCEPTED.item 0
           let rej := F.SHAFT_AXIS_MARK.REJECTED.item 0
           (isNew → e.isSome → t.fld acc = min acc.top (s.fld acc + 1)) ∧
           (isNew → e = none → t.fld rej = min rej.top (s.fld rej + 1) ∧ t.flag F.SHAFT_EVENT.MARK_REJECT = true)
         let moved := fun (t : State) => (t.axis 0).mode = x.mode ∧ (t.axis 0).trim = trim ∧
           (t.axis 0).markTrim = markTrim ∧ (t.axis 0).g = x.g + BitVec.ofInt 64 (p t / (d : Int)) ∧
           ((t.axis 0).r : Int) = p t % (d : Int) ∧ (t.axis 0).ff = (t.axis 0).s - x.s ∧
           t.outSlot o = ⟨(t.axis 0).s, (t.master a.master).q.max (commandQuality s a)⟩ ∧ marks t ∧ t.mem = s.mem
         (x.mode = .geared → (cmd 0).val = 1 →
           ∃ t, run t ∧ moved t ∧ (t.axis 0).s = x.offset + (t.axis 0).g + trim + markTrim) ∧
         (x.mode = .cammed → (cmd 0).val = 2 →
           ∃ t, run t ∧ moved t ∧
             (t.axis 0).s = x.offset + ((t.axis 0).base +
               camValue s (t.axis 0).cam ((t.axis 0).g.toNat % 2 ^ 32)) + trim + markTrim ∧
             let k := (x.g.toInt + p t / (d : Int)) / 2 ^ 32 - x.g.toInt / 2 ^ 32
             (k = 0 → (t.axis 0).base = x.base ∧ (t.axis 0).cam = x.cam) ∧
             (k ≠ 0 → (t.axis 0).cam = (cmd 4).val.toNat) ∧
             (k = 1 → (t.axis 0).base = x.base + camRise s x.cam) ∧
             (k = -1 → (t.axis 0).base = x.base - camRise s x.cam)))) ∧
  (∀ (t : CamTab) (i u : Nat), t.b ≤ 12 → t.points.length = 2 ^ t.b → i < 2 ^ t.b → u < 2 ^ (32 - t.b) →
     let w := 2 ^ (32 - t.b)
     let y := (t.points.getD i (0, 0)).1
     let next := if i + 1 < 2 ^ t.b then (t.points.getD (i + 1) (0, 0)).1 else (t.points.getD 0 (0, 0)).1 + t.rise
     camTabValue t (i * w) = y ∧
     (t.cubic = false → camTabValue t (i * w + u) = y + BitVec.ofInt 64 ((next - y).toInt * u / w)) ∧
     (t.cubic = true → (camPoint t i).2 = next - y → (camPoint t (i + 1)).2 = next - y →
       camTabValue t (i * w + u) = y + BitVec.ofInt 64 ((next - y).toInt * u / w)))

/-! ## Analogue channels, HART, converter groups, trim -/

/-- Precision converters and the reference (R261 to R264, R284): the end of an integration gives the result of an input
trimmed, of an output as read back, limited to the range with OVERRANGE, with its midpoint, and a free-running converter
starts again, stamped in the capture units whose source it is (R192; that its start is a rising edge is the model's choice, log
entry 167); the buffer's enable starts the warm-up of 48,000
ticks, its disable ends READY and every integration; at the end of the warm-up the free-running converters start. -/
def Obligations.PrecisionChannelsConvert : Prop :=
  (∀ (s : State) (c m : Nat) (r : Integration), (s.anaCh c).integrating = true → m = anaMode s c →
    ∃ t, exec (.integrationEnd c r) s = .next t ∧ t.mem = s.mem ∧
      (∃ res, (t.anaCh c).next = some res ∧ res.instant = r.mid ∧ res.noCompliance = r.noCompliance ∧
        res.endNs = r.mid + BitVec.ofNat 64 (halfTime s c) ∧
        ∀ x, x = clampRatio (if isOutput m then (r.raw, 1) else trimmed s c r.raw 1) (anaRange m).1 (anaRange m).2 →
          res.value = siOf m x.1 ∧ t.flag (F.ANA_CH_STATUS.OVERRANGE.item c) = x.2) ∧
      (s.fld (F.ANA_CH_CFG.ISTART.item c) ≠ 0 → (t.anaCh c).integrating = false ∧ (t.anaCh c).lost = 0) ∧
      (s.fld (F.ANA_CH_CFG.ISTART.item c) = 0 → m ≠ 0 → anaFast s c = false → anaOn s c = true →
        s.flag F.CONV_REF_STATUS.READY = true → (t.anaCh c).integrating = true ∧
        ∀ cap, cap < 32 → s.fld (F.TIME_CAP_CTRL.SOURCE.item cap) = 0x20 + c →
          s.fld (F.TIME_CAP_CTRL.EDGE.item cap) % 2 = 1 → t.flag (F.TIME_CAP_CTRL.NEW.item cap) = true ∧
          t.dword (itemKey A.TIME_CAP_T_LO cap) = r.mid + BitVec.ofNat 64 (halfTime s c + 20000))) ∧
  (∀ (s : State) (v : Word),
    (s.flag F.CONV_REF_CTRL.EN = false → v.getLsbD 0 = true →
      ∃ t, exec (.referenceBufferEn v) s = .next t ∧ t.flag F.CONV_REF_CTRL.EN = true ∧
        t.fld F.CONV_REF_STATUS.WARM = 48000 ∧ t.flag F.CONV_REF_STATUS.READY = s.flag F.CONV_REF_STATUS.READY ∧
        OnlyRegs s t [A.CONV_REF_CTRL, A.CONV_REF_STATUS]) ∧
    (s.flag F.CONV_REF_CTRL.EN = true → v.getLsbD 0 = false →
      ∃ t, exec (.referenceBufferEn v) s = .next t ∧ t.flag F.CONV_REF_CTRL.EN = false ∧
        t.flag F.CONV_REF_STATUS.READY = false ∧ ∀ c, c < 32 → (t.anaCh c).integrating = false)) ∧
  ∀ s : State, s.flag F.CONV_REF_CTRL.EN = true → s.flag F.CONV_REF_STATUS.READY = false →
    ∃ t, exec .warmUpEnd s = .next t ∧ t.flag F.CONV_REF_STATUS.READY = true ∧ t.fld F.CONV_REF_STATUS.WARM = 0 ∧
      ∀ c, c < 32 → s.fld (F.ANA_CH_CFG.ISTART.item c) = 0 → anaMode s c ≠ 0 → anaFast s c = false →
        anaOn s c = true → (t.anaCh c).integrating = true

/-- HART modems (R281 to R283): a good reply of an identified device updates its items, widened from binary32, and moves
the round on to the next device, whose poll leaves; the reply to command 0 identifies the device; an attempt without a good
reply is repeated, and a third makes the poll a failed one; a pass-through frame is taken, sent at once on its channel where
no device is polled, refused BUSY while one is pending; it ends with its reply or TIMEOUT and BUSY off. Preambles, check and
the bits of the status bytes are the model's choice (HART 7, log entry 173). -/
def Obligations.HartModemsPoll : Prop :=
  (∀ (s : State) (g c d : Nat) (r : HartReply), (s.modem g).ptRunning = false → (s.modem g).ptPending = false →
    (hartRound s g)[(s.modem g).pos]? = some (c, d) →
    (hartOk r = true →
      ∃ t, exec (.hartReply g r) s = .next t ∧ t.mem = s.mem ∧ (t.modem g).tries = 0 ∧
        (t.modem g).pos = ((s.modem g).pos + 1) % (hartRound s g).length ∧ d ∈ (t.anaCh c).hartIdent ∧
        (d ∉ (s.anaCh c).hartIdent → (t.anaCh c).hart = (s.anaCh c).hart) ∧
        (d ∈ (s.anaCh c).hartIdent →
          (∀ v, v < 4 → getAt (5 * d + v) (t.anaCh c).hart =
            some ⟨widen32 (r.values.getD v 0).toNat, if hartMalfunction r then .bad else .good⟩) ∧
          getAt (5 * d + 4) (t.anaCh c).hart =
            some ⟨(fOfInt (hartStatus r)).val, if hartMalfunction r then .bad else .good⟩ ∧
          ∀ c' d', (hartRound s g)[((s.modem g).pos + 1) % (hartRound s g).length]? = some (c', d') →
            s.domOn (48 + g) = true → t.outbox = .hartPoll c' (s.parity == 0) d'
              (if (s.anaCh c').hartIdent.contains d' then 3 else 0) :: s.outbox)) ∧
    (hartOk r = false → exec (.hartReply g r) s = exec (.hartPollTimeout g) s) ∧
    ((s.modem g).tries < 2 →
      ∃ t, exec (.hartPollTimeout g) s = .next t ∧ (t.modem g).tries = (s.modem g).tries + 1 ∧
        (t.modem g).pos = (s.modem g).pos ∧ t.ana = s.ana ∧ t.regs = s.regs ∧
        (s.domOn (48 + g) = true → t.outbox = .hartPoll c (s.parity == 0) d
          (if (s.anaCh c).hartIdent.contains d then 3 else 0) :: s.outbox)) ∧
    (2 ≤ (s.modem g).tries →
      ∃ t, exec (.hartPollTimeout g) s = .next t ∧ (t.modem g).tries = 0 ∧
        getAt d (t.anaCh c).hartFails = some (min 255 ((getAt d (s.anaCh c).hartFails).getD 0 + 1)) ∧
        (t.modem g).pos = ((s.modem g).pos + 1) % (hartRound s g).length)) ∧
  (∀ (s : State) (g : Nat) (v : Word), g = getBits v 3 2 → v.getLsbD 0 = true →
    (s.flag (F.ANA_HART_PT.BUSY.item g) = false →
      ∃ t, exec (.passThrough v) s = .next t ∧ t.flag (F.ANA_HART_PT.BUSY.item g) = true ∧
        t.fld (F.ANA_HART_PT.LEN.item g) = max 1 (getBits v 15 8) ∧ t.mem = s.mem ∧
        (hartRound s g = [] → (t.modem g).ptRunning = true ∧
          t.outbox = .hart (8 * g + getBits v 18 16) (hartFrame (hartBuf t g)) :: s.outbox) ∧
        (hartRound s g ≠ [] → (t.modem g).ptPending = true ∧ t.outbox = s.outbox)) ∧
    (s.flag (F.ANA_HART_PT.BUSY.item g) = true →
      ∃ t, exec (.passThrough v) s = .next t ∧ t.fld (F.ANA_HART_PT.RESULT.item g) = rcBusy ∧
        OnlyRegs s t [itemKey A.ANA_HART_PT g])) ∧
  ∀ (s : State) (g : Nat), (s.modem g).ptRunning = true → (s.modem g).ptPending = false →
    (∃ t, exec (.passThroughTimeout g) s = .next t ∧ t.fld (F.ANA_HART_PT.RESULT.item g) = rcTimeout ∧
      t.flag (F.ANA_HART_PT.BUSY.item g) = false ∧ (t.modem g).ptRunning = false ∧ t.ana = s.ana) ∧
    ∀ r : HartReply, ∃ t, exec (.hartReply g r) s = .next t ∧
      t.fld (F.ANA_HART_PT.RESULT.item g) = (if r.checkOk then rcOk else rcCheck) ∧
      t.flag (F.ANA_HART_PT.BUSY.item g) = false ∧ (t.modem g).ptRunning = false ∧ t.ana = s.ana

/-- Fast converter groups (R266 to R275): GO begins entry 0 of an idle group; STOP lets the running entry be the last;
an urgent entry begins at once, aborts a sequence entry, or is held behind a running urgent one; at the end of an entry
the sequence goes on, ends, or repeats the aborted entry. A calibration that falls due begins, or waits while the reference
is not ready, a proof test or another calibration runs or something waits before it; it passes within 0.05 % of full scale,
0.1 % and 20 ps and then exchanges the spare for the slice that served longest; its third failure in a row retires the slice;
the proof test waits in its turn and sets FAIL beyond 0.02 %. Each takes its place in the list of activities (R327). -/
def Obligations.ConverterGroupsRun : Prop :=
  (∀ (s : State) (g : Nat) (v : Word) (xs : List Int) (w : DWord), g = s.fld F.CONV_GRP_SEL.GRP →
    (v.getLsbD 0 = true → convAble s g = true → (s.grp g).running = none →
      (∃ t, exec (.convGo v) s = .next t ∧ t.fld (F.CONV_GRP_STATUS.STATE.item g) = 1 ∧
        t.fld (F.CONV_GRP_STATUS.ENTRY.item g) = 0 ∧ (t.grp g).got = [] ∧ t.mem = s.mem ∧
        (t.grp g).running = some (entryOf g (s.reg (itemKey A.CONV_GRP_SEQ0 g)) false false)) ∧
      ∃ t, exec (.urgentEntry v xs w) s = .next t ∧ t.fld (F.CONV_GRP_STATUS.STATE.item g) = 2 ∧
        t.fld (F.CONV_GRP_STATUS.URG.item g) = 1 ∧ (t.grp g).running = some (entryOf g v true false)) ∧
    (∀ e, (s.grp g).running = some e →
      (v.getLsbD 1 = true → v.getLsbD 0 = false →
        ∃ t, exec (.convStop v) s = .next t ∧ (t.grp g).stopReq = true ∧ (t.grp g).running = some e ∧ t.mem = s.mem) ∧
      (v.getLsbD 0 = true → convAble s g = true →
        (e.urgent = false → ∃ t, exec (.urgentEntry v xs w) s = .next t ∧ (t.grp g).aborted = true ∧
          (t.grp g).running = some (entryOf g v true false) ∧ t.fld (F.CONV_GRP_STATUS.STATE.item g) = 2) ∧
        (e.urgent = true → (s.grp g).held = none → ∃ t, exec (.urgentEntry v xs w) s = .next t ∧
          (t.grp g).held = some (entryOf g v true false) ∧ (t.grp g).running = some e ∧
          t.fld (F.CONV_GRP_STATUS.URG.item g) = 2)))) ∧
  (∀ (s : State) (g n : Nat) (e : FastEntry) (xs : List Int) (w : DWord), g < 4 → (s.grp g).running = some e →
    n = s.fld (F.CONV_GRP_STATUS.ENTRY.item g) → (s.grp g).swapDue = false →
    (e.urgent = false → (s.grp g).stopReq = true → ∃ t, exec (.entryEnd g xs w) s = .next t ∧
      (t.grp g).running = none ∧ t.fld (F.CONV_GRP_STATUS.STATE.item g) = 0) ∧
    (e.urgent = false → (s.grp g).stopReq = false → n < s.fld (F.CONV_GRP_CTRL.LEN.item g) →
      ∃ t, exec (.entryEnd g xs w) s = .next t ∧ t.fld (F.CONV_GRP_STATUS.ENTRY.item g) = n + 1 ∧
        (t.grp g).running = some (entryOf g (s.reg (itemKey (A.CONV_GRP_SEQ0 + 4 * (n + 1)) g)) false false)) ∧
    (e.urgent = true → (s.grp g).stopReq = false → (s.grp g).held = none → (s.grp g).aborted = true →
      ∃ t, exec (.entryEnd g xs w) s = .next t ∧ t.flag (F.CONV_GRP_STATUS.REPEAT.item g) = true ∧
        (t.grp g).running = some (entryOf g (s.reg (itemKey (A.CONV_GRP_SEQ0 + 4 * n) g)) false true))) ∧
  (∀ (s : State) (g : Nat), g < 4 →
    (s.flag F.CONV_REF_STATUS.FAIL = false → convAble s g = true → s.fld (F.CONV_GRP_STATUS.SPARE.item g) ≠ 7 →
      liveActivity s 0x0101 g = none →
      (s.flag F.CONV_REF_STATUS.READY = true → s.flag F.CONV_REF_STATUS.PROOF_BUSY = false →
        (∀ k, k < 4 → (s.grp k).calibrating = false) → groupHeld s 0 = false →
        ∃ t, exec (.calibration g) s = .next t ∧ (t.grp g).calibrating = true ∧
          t.acts.head? = some ⟨s.actNext, 0, 0x0101, g, 1⟩ ∧ t.regs = s.regs ∧ t.mem = s.mem) ∧
      (s.flag F.CONV_REF_STATUS.READY = false ∨ s.flag F.CONV_REF_STATUS.PROOF_BUSY = true ∨
        (∃ k, k < 4 ∧ (s.grp k).calibrating = true) ∨ groupHeld s 0 = true →
        ∃ t, exec (.calibration g) s = .next t ∧ t.conv = s.conv ∧
          t.acts.head? = some ⟨s.actNext, 0, 0x0101, g, 0⟩ ∧ t.regs = s.regs ∧ t.mem = s.mem)) ∧
    (s.flag F.CONV_REF_STATUS.FAIL = true ∨ convAble s g = false ∨ s.fld (F.CONV_GRP_STATUS.SPARE.item g) = 7 →
      exec (.calibration g) s = .next s) ∧
    (∀ r : CalResult, (s.grp g).calibrating = true → s.ticking = true ∨ oldestWaiting s 0 = none →
      (∀ old rest, r.offset.natAbs ≤ 500000 → r.gain.natAbs ≤ 1000000 → r.skew.natAbs ≤ 20000 →
        (s.grp g).running = none → (s.grp g).active = old :: rest → old < 8 →
        ∃ t, exec (.calibrationDone g r) s = .next t ∧ (t.grp g).calibrating = false ∧ (t.grp g).fails = 0 ∧
          (t.grp g).active = rest ++ [s.fld (F.CONV_GRP_STATUS.SPARE.item g)] ∧
          t.fld (F.CONV_GRP_STATUS.SPARE.item g) = old ∧ t.acts = (endActivity s 0x0101 true).acts) ∧
      (500000 < r.offset.natAbs ∨ 1000000 < r.gain.natAbs ∨ 20000 < r.skew.natAbs →
        ((s.grp g).fails < 2 → ∃ t, exec (.calibrationDone g r) s = .next t ∧ (t.grp g).calibrating = false ∧
          (t.grp g).fails = (s.grp g).fails + 1 ∧ t.flag F.CONV_EVENT.CAL_FAIL = true ∧
          (t.grp g).active = (s.grp g).active ∧ t.acts = (endActivity s 0x0101 false).acts) ∧
        ((s.grp g).fails = 2 → ∃ t, exec (.calibrationDone g r) s = .next t ∧ (t.grp g).calibrating = false ∧
          (t.grp g).retired = (s.grp g).retired + 1 ∧ t.fld (F.CONV_GRP_STATUS.SPARE.item g) = 7 ∧
          t.flag F.CONV_EVENT.SLICE_RETIRED = true)))) ∧
  ∀ s : State,
    (s.fld F.CONV_CAL.PROOF_H ≠ 0 → s.flag F.CONV_REF_STATUS.PROOF_BUSY = false → liveActivity s 0x0102 0 = none →
      ∃ t, exec .proofTest s = .next t ∧
        (∀ w, w = (calibrating s || groupHeld s 0) → t.flag F.CONV_REF_STATUS.PROOF_BUSY = !w ∧
          t.flag F.CONV_REF_STATUS.PROOF_QUEUED = w ∧ t.acts.head? = some ⟨s.actNext, 0, 0x0102, 0, if w then 0 else 1⟩) ∧
        (∀ k, k ≠ A.CONV_REF_STATUS → t.reg k = s.reg k) ∧ t.mem = s.mem) ∧
    (s.fld F.CONV_CAL.PROOF_H = 0 → exec .proofTest s = .next s) ∧
    ∀ dev : Int, s.flag F.CONV_REF_STATUS.PROOF_BUSY = true → s.ticking = true ∨ oldestWaiting s 0 = none →
      ∃ t, exec (.proofTestDone dev) s = .next t ∧ t.flag F.CONV_REF_STATUS.PROOF_BUSY = false ∧
        t.reg A.CONV_REF_DEV = BitVec.ofInt 32 dev ∧ t.flag F.CONV_REF_STATUS.FAIL = decide (2000 < dev.natAbs) ∧
        t.acts = (endActivity s 0x0102 (decide (dev.natAbs ≤ 2000))).acts ∧ (2000 < dev.natAbs → Raised s t 10 3 0)

/-- Zero and span trim (R284, R285): BEGIN opens a trim of a channel; LOW and HIGH take an input's points as the applied
value and the mean of its last 16 results, and drive an output to the point; a step out of order or before 16 results
answers STATE; COMMIT writes Z and g into the channel's registers and table where they lie
within 1 % of span and 20,000,000, and else writes nothing and answers CHECK; ABANDON ends the trim, CLEAR writes 0 and
0, and 300 s without a step end it with TIMEOUT. The order of the steps and where the table lies are the model's choice (log
entries 88 and 29). -/
def Obligations.TrimsRunInOrder : Prop :=
  ∀ (s : State) (v : Word) (step ch : Nat), getBits v 31 16 = 0x96A5 → step = getBits v 2 0 → ch = getBits v 12 8 →
    (step = 1 → s.trim = none → ∃ t, exec (.trimBegin v) s = .next t ∧ t.trim = some ⟨ch, 0, 0, 0, 0⟩ ∧
      t.fld F.ANA_TRIM_STATUS.STATE = 1 ∧ t.fld F.ANA_TRIM_STATUS.CH = ch % 8 ∧
      t.fld F.ANA_TRIM_STATUS.RESULT = rcOk ∧ t.retained = s.retained) ∧
    (∀ x o, s.trim = some x → isOutput (anaMode s x.ch) = false → trimMean s x.ch = some o →
      (step = 2 → s.fld F.ANA_TRIM_STATUS.STATE = 1 → ∃ t, exec (.trimLow v) s = .next t ∧
        t.trim = some { x with appliedL := trimRef s, observedL := o } ∧ t.fld F.ANA_TRIM_STATUS.STATE = 2 ∧
        t.fld F.ANA_TRIM_STATUS.RESULT = rcOk ∧ t.reg A.ANA_TRIM_OBS = BitVec.ofInt 32 o) ∧
      (step = 3 → s.fld F.ANA_TRIM_STATUS.STATE = 2 → ∃ t, exec (.trimHigh v) s = .next t ∧
        t.trim = some { x with appliedH := trimRef s, observedH := o } ∧ t.fld F.ANA_TRIM_STATUS.STATE = 3 ∧
        t.fld F.ANA_TRIM_STATUS.RESULT = rcOk)) ∧
    (∀ x, s.trim = some x → isOutput (anaMode s x.ch) = true →
      (step = 2 → s.fld F.ANA_TRIM_STATUS.STATE = 1 → ∃ t, exec (.trimLow v) s = .next t ∧
        t.trim = some { x with appliedL := trimRef s, observedL := 0 } ∧ t.fld F.ANA_TRIM_STATUS.STATE = 2 ∧
        t.fld F.ANA_TRIM_STATUS.RESULT = rcOk ∧
        (s.running = true → anaOn s x.ch = true → s.flag (F.ANA_CH_STATUS.STRAP_MISMATCH.item x.ch) = false →
          t.outbox = .analogue x.ch (siOf (anaMode s x.ch) (1000 * trimRef s, 1)) :: s.outbox)) ∧
      (step = 3 → s.fld F.ANA_TRIM_STATUS.STATE = 2 → ∃ t, exec (.trimHigh v) s = .next t ∧
        t.trim = some { x with observedL := trimObs s, appliedH := trimRef s, observedH := 0 } ∧
        t.fld F.ANA_TRIM_STATUS.STATE = 3 ∧ t.fld F.ANA_TRIM_STATUS.RESULT = rcOk)) ∧
    (s.trim ≠ none →
      (step = 1 ∨ (2 ≤ step ∧ step ≤ 4 ∧ s.fld F.ANA_TRIM_STATUS.STATE + 1 ≠ step) ∨
        (∃ x, s.trim = some x ∧ 2 ≤ step ∧ step ≤ 3 ∧ isOutput (anaMode s x.ch) = false ∧ (s.anaCh x.ch).raws.length < 16) →
        ∃ t, exec (.trimLow v) s = .next t ∧ t.trim = s.trim ∧ t.fld F.ANA_TRIM_STATUS.RESULT = rcState ∧
          OnlyRegs s t [A.ANA_TRIM_STATUS])) ∧
    (∀ x oh z g, s.trim = some x → oh = (if isOutput (anaMode s x.ch) then trimObs s else x.observedH) → step = 4 →
      s.fld F.ANA_TRIM_STATUS.STATE = 3 → trimOf x.appliedL x.observedL x.appliedH oh = some (z, g) →
      (100 * z.natAbs ≤ anaSpan (anaMode s x.ch) → g.natAbs ≤ 20000000 →
        ∃ t, exec (.trimCommit v) s = .next t ∧ t.trim = none ∧ t.fld F.ANA_TRIM_STATUS.STATE = 0 ∧
          t.fld F.ANA_TRIM_STATUS.RESULT = rcOk ∧ t.reg (itemKey A.ANA_CH_TRIM_Z x.ch) = BitVec.ofInt 32 z ∧
          t.reg (itemKey A.ANA_CH_TRIM_G x.ch) = BitVec.ofInt 32 g ∧
          bytesAt t.retained (8 * x.ch) 8 =
            leBytes 4 (BitVec.ofInt 32 z).toNat ++ leBytes 4 (BitVec.ofInt 32 g).toNat) ∧
      (anaSpan (anaMode s x.ch) < 100 * z.natAbs ∨ 20000000 < g.natAbs →
        ∃ t, exec (.trimCommit v) s = .next t ∧ t.trim = some x ∧ t.fld F.ANA_TRIM_STATUS.RESULT = rcCheck ∧
          t.retained = s.retained ∧ OnlyRegs s t [A.ANA_TRIM_STATUS])) ∧
    (∀ x, s.trim = some x →
      (step = 5 → ∃ t, exec (.trimAbandon v) s = .next t ∧ t.trim = none ∧ t.fld F.ANA_TRIM_STATUS.STATE = 0 ∧
        t.fld F.ANA_TRIM_STATUS.RESULT = rcOk ∧ t.retained = s.retained) ∧
      (step = 6 → ∃ t, exec (.trimClear v) s = .next t ∧ t.reg (itemKey A.ANA_CH_TRIM_Z x.ch) = 0 ∧
        t.reg (itemKey A.ANA_CH_TRIM_G x.ch) = 0 ∧ bytesAt t.retained (8 * x.ch) 8 = List.replicate 8 0 ∧
        t.trim = some x ∧ t.fld F.ANA_TRIM_STATUS.RESULT = rcOk) ∧
      ∃ t, exec .trimTimeout s = .next t ∧ t.trim = none ∧ t.fld F.ANA_TRIM_STATUS.STATE = 0 ∧
        t.fld F.ANA_TRIM_STATUS.RESULT = rcTimeout ∧ t.retained = s.retained)

/-! ## Digital channels, CAN, RS-485 -/

/-- The isolated digital link (R289, R291, R293 to R295, R354): an uplink frame whose check passes shows the terminals, the
supplies and the diagnostics of its four channels, and is the tick's sample when it arrives by 4 µs; a downlink frame carries
the commanded states for the next edge with its check; a frame whose check fails is counted and has no other effect on the
field side; the field side takes its copy of the safe values from the link, enters safe state by the SAFE flag or the link
timeout, and leaves it with the sixteenth valid frame. Byte order and layout of the frames and what the field side drives after
a lost link are the model's choice (log entries 176 and 89).
Overloads and pulses of digital outputs (R290, R292): a driven output that is overloaded is off, as its next diagnostics
show; a retry while it is commanded on or enabled takes it back; a pulse that ends is off and the other pulses stay. -/
def Obligations.DigitalSideWorks : Prop :=
  (∀ (s : State) (f : UplinkFrame) (noise : List Byte),
     (s.dom 52 ≠ 2 → exec (.uplinkFrame f) s = .next s ∧ exec (.downlinkFrame noise) s = .next s) ∧
     (s.dom 52 = 2 →
       (f.check = crc16 (uplinkBytes s f) → ∃ t, exec (.uplinkFrame f) s = .next t ∧ t.mem = s.mem ∧
         t.dio.lastUp = edgeNs s.tick + BitVec.ofNat 64 f.ns ∧ t.flag F.DIO_LINK_STATUS.UP = true ∧
         t.fld F.DIO_LINK_STATUS.SUPPLY = f.supply.toNat ∧
         (f.ns ≤ 4000 → t.dio.sample = f.states ∧ t.dio.sampled = true ∧ t.dio.fresh = true) ∧
         (4000 < f.ns → t.dio.sample = s.dio.sample ∧ t.dio.fresh = s.dio.fresh) ∧
         (∀ c, c < 32 → t.flag (F.DIO_CH_STATUS.STATE.item c) = f.states.getLsbD c ∧
           t.flag (F.DIO_CH_STATUS.NO_SUPPLY.item c) = !f.supply.getLsbD (c / 8)) ∧
         ∀ i c, i < 4 → c = (f.diagBase + i) % 32 →
           t.flag (F.DIO_CH_STATUS.OVERLOAD.item c) = s.dio.overloaded.contains c ∧
           t.flag (F.DIO_CH_STATUS.OPEN_LOAD.item c) = (f.openLoad.getLsbD i && decide (dioDir s c ≠ 0))) ∧
       (f.check ≠ crc16 (uplinkBytes s f) → ∃ t, exec (.uplinkFrame f) s = .next t ∧ OnlyRegs s t [A.DIO_LINK_ERR] ∧
         t.fld F.DIO_LINK_ERR.CRC = min 65535 (s.fld F.DIO_LINK_ERR.CRC + 1)) ∧
       (onLine (downlinkNow s) noise = none → ∃ t, exec (.downlinkFrame noise) s = .next t ∧
         t.dio = { s.dio with goodFrames := 0 } ∧ t.fld F.DIO_LINK_ERR.CRC = min 65535 (s.fld F.DIO_LINK_ERR.CRC + 1) ∧
         t.outbox = .downlink (downlinkBytes (downlinkNow s)) :: s.outbox ∧ ∀ a, a ≠ A.DIO_LINK_ERR → t.reg a = s.reg a) ∧
       ((∀ b, b ∈ noise → b = 0) →
         (s.dio.tableDue = true → ∃ t, exec (.downlinkFrame noise) s = .next t ∧ t.dio.tableDue = false ∧
           ∀ c, c < 32 → t.dio.safeTable.getD c 0 = if dioDir s c = 0 then 0 else s.fld (F.DIO_CH_CFG.SAFE.item c)) ∧
         (s.running = true →
           (s.dio.safe = false → s.dio.tableDue = false → ∃ t, exec (.downlinkFrame noise) s = .next t ∧
             t.dio = { s.dio with next := some (s.dio.commanded, s.dio.enables) } ∧ t.regs = s.regs ∧
             t.outbox = .downlink (downlinkBytes ⟨s.dio.commanded, s.dio.enables, false, (s.tick.toNat + 1) % 256⟩) ::
               s.outbox) ∧
           (s.dio.safe = true → s.dio.goodFrames < 15 → ∃ t, exec (.downlinkFrame noise) s = .next t ∧
             t.dio.safe = true ∧ t.dio.goodFrames = s.dio.goodFrames + 1) ∧
           (s.dio.safe = true → s.dio.goodFrames = 15 → ∃ t, exec (.downlinkFrame noise) s = .next t ∧
             t.dio.safe = false ∧ t.flag F.DIO_LINK_STATUS.FIELD_SAFE = false ∧
             t.dio.next = some (s.dio.commanded, s.dio.enables) ∧ t.dio.goodFrames = 0)) ∧
         (s.running = false → ∃ t, exec (.downlinkFrame noise) s = .next t ∧ t.dio.safe = true ∧
           t.flag F.DIO_LINK_STATUS.FIELD_SAFE = true ∧ t.dio.fieldEnables = 0 ∧ t.dio.pulses = []))) ∧
     (s.dio.safe = false →
       ∃ t, exec .linkTimeout s = .next t ∧ t.dio.safe = true ∧ t.flag F.DIO_LINK_STATUS.FIELD_SAFE = true ∧
         t.fld F.DIO_LINK_ERR.SAFE_ENTRIES = min 255 (s.fld F.DIO_LINK_ERR.SAFE_ENTRIES + 1) ∧
         t.dio.pulses = [] ∧ t.dio.fieldEnables = 0 ∧ t.dio.next = none ∧ Raised s t 11 1 0 ∧
         ∀ c, c < 32 → t.dio.applied.getLsbD c = (if s.dio.safeTable.getD c 0 = 0 then false
             else if s.dio.safeTable.getD c 0 = 1 then true else dioDriven s c) ∧
           (dioDir s c ≠ 0 → t.flag (F.DIO_CH_STATUS.SAFE.item c) = true))) ∧
  (∀ (s : State) (c : Nat), c < 32 →
     (dioDriven s c = true → ∃ t, exec (.overload c) s = .next t ∧ t.dio.overloaded.contains c = true ∧
       dioDriven t c = false ∧ t.mem = s.mem ∧ t.regs = s.regs) ∧
     (s.dio.overloaded.contains c = true → s.dio.applied.getLsbD c = true ∨ s.dio.fieldEnables.getLsbD c = true →
       ∃ t, exec (.overloadRetry c) s = .next t ∧ t.dio.overloaded.contains c = false ∧ t.mem = s.mem ∧ t.regs = s.regs ∧
         (s.dio.applied.getLsbD c = true → dioDriven t c = true)) ∧
     (s.dio.overloaded.contains c = true → s.dio.applied.getLsbD c = false → s.dio.fieldEnables.getLsbD c = false →
       exec (.overloadRetry c) s = .next s) ∧
     ∃ t, exec (.pulseEnd c) s = .next t ∧ t.regs = s.regs ∧ t.mem = s.mem ∧
       ∀ i, t.dio.pulses.contains i = (s.dio.pulses.contains i && i != c))

/-- CAN reception and the buffer lock (R297 to R299): on a bus that is up a frame in error raises the receive error count, a
data frame that matches no enabled buffer and a remote frame are counted; one that matches is stored in the lowest such buffer, which is FULL, unless that buffer is
locked; a read of HEAD locks, a read of TAIL with the lock releases and empties or takes the shadow, and the lock
released after 1 ms is an event. In internal loopback the bus is not heard. -/
def Obligations.CanReceivesAndLocks : Prop :=
  ∀ (s : State) (b : Nat), b < 4 →
    (s.fld (F.CAN_CTRL.MODE.item b) = 2 → ∀ f : CanFrame, exec (.receivedFrame b f) s = .next s) ∧
    (busUp s b = true → s.fld (F.CAN_CTRL.MODE.item b) ≠ 2 → ∀ f : CanFrame,
      (f.errors ≠ 0 → ∃ t, exec (.receivedFrame b f) s = .next t ∧ t.can = s.can ∧ t.mem = s.mem ∧
        t.fld (F.CAN_STATUS.REC.item b) = min 255 (s.fld (F.CAN_STATUS.REC.item b) + f.errors)) ∧
      (f.errors = 0 → f.remote = true → ∃ t, exec (.receivedFrame b f) s = .next t ∧ t.can = s.can ∧
        t.fld (F.CAN_ERR.REMOTE.item b) = min 65535 (s.fld (F.CAN_ERR.REMOTE.item b) + 1)) ∧
      (f.errors = 0 → f.remote = false → (∀ i, i < 64 → canMatch s b i f = false) →
        ∃ t, exec (.receivedFrame b f) s = .next t ∧ t.can = s.can ∧
          t.fld (F.CAN_ERR.NO_MATCH.item b) = min 65535 (s.fld (F.CAN_ERR.NO_MATCH.item b) + 1)) ∧
      ∀ i, i < 64 → f.errors = 0 → f.remote = false → canMatch s b i f = true → (∀ j, j < i → canMatch s b j f = false) →
        ((s.canBus b).lock ≠ some i → ∃ t, exec (.receivedFrame b f) s = .next t ∧ t.mem = s.mem ∧
          t.fld (headFld b i 3 0) = 1 ∧ t.dword (canWord b i 4) = f.stamp ∧
          (∀ w, w < 16 → t.reg (canWord b i (6 + w)) = BitVec.ofNat 32 (leAt (frameData f) (4 * w) 4)) ∧
          t.fld (headFld b i 31 24) = (if s.fld (headFld b i 3 0) = 1 then min 255 (s.fld (headFld b i 31 24) + 1)
            else s.fld (headFld b i 31 24))) ∧
        ((s.canBus b).lock = some i → ∃ t, exec (.receivedFrame b f) s = .next t ∧
          getAt i (t.canBus b).shadow = some f ∧ t.fld (headFld b i 3 0) = s.fld (headFld b i 3 0) ∧
          ∀ w, w < 16 → t.reg (canWord b i (6 + w)) = s.reg (canWord b i (6 + w)))) ∧
    ∀ i, i < 64 →
      (s.dom (53 + b) = 2 →
        (∃ t, exec (.headRead b i) s = .next t ∧ (t.canBus b).lock = some i ∧ t.fld (headFld b i 31 24) = 0 ∧
          (∀ j, (s.canBus b).lock = some j → j ≠ i → t.flag (F.CAN_EVENT.LOCK_BROKEN.item b) = true)) ∧
        ((s.canBus b).lock = some i → ∃ t, exec (.tailRead b i) s = .next t ∧ (t.canBus b).lock = none ∧
          (getAt i (s.canBus b).shadow = none → s.fld (headFld b i 3 0) = 1 → t.fld (headFld b i 3 0) = 0) ∧
          (∀ f, getAt i (s.canBus b).shadow = some f → t.fld (headFld b i 3 0) = 1 ∧
            ∀ w, w < 16 → t.reg (canWord b i (6 + w)) = BitVec.ofNat 32 (leAt (frameData f) (4 * w) 4)))) ∧
      ((s.canBus b).lock = some i → ∃ t, exec (.lockTimeout b) s = .next t ∧ (t.canBus b).lock = none ∧
        t.flag (F.CAN_EVENT.LOCK_TIMEOUT.item b) = true)

/-- CAN transmission (R300): a requested enabled transmit buffer becomes pending, a ONESHOT one on a bus that is off ends
in TX_ERROR; an aborted pending one is ABORTED; the pending buffer that competes first goes on the bus; a successful attempt
sends its frame and is TX_DONE, a lost arbitration leaves it pending, an error adds 8 to TEC. How identifiers compete and by
how much TEC moves are the model's choice (log entries 177 and 91).
Bus-off (R297, R300): a bus that goes bus-off shows it, its TEC is 255 and no frame is on it; its ONESHOT buffers end
in TX_ERROR and the others stay pending; RECOVER or AUTO_REC starts recovery, whose end shows error active with both counts 0;
INIT cleared leads back to the bus, or to the bus-off that is still to be recovered from. -/
def Obligations.CanTransmitsAndRecovers : Prop :=
  (∀ (s : State) (b i : Nat), b < 4 → i < 64 →
     (∀ v : Word, b = s.fld F.CAN_SEL.BUS → s.dom (53 + b) = 2 → v.getLsbD (i % 32) = true → canMapped s b i = false →
       (canEn s b i = true → canTx s b i = true → canState s b i ≠ 2 → canState s b i ≠ 3 →
         ∃ t, exec (.txReq (decide (32 ≤ i)) v) s = .next t ∧ t.mem = s.mem ∧
           (canOneshot s b i && busIsOff s b = false → canState t b i = 2 ∧ t.fld (txReqFld b i) = 1) ∧
           (canOneshot s b i && busIsOff s b = true → canState t b i = 6 ∧ t.fld (txReqFld b i) = 0)) ∧
       (canState s b i = 2 → ∃ t, exec (.txAbort (decide (32 ≤ i)) v) s = .next t ∧ canState t b i = 7 ∧
         t.fld (txReqFld b i) = 0 ∧ t.fld (txAbortFld b i) = 0 ∧ t.mem = s.mem) ∧
       (canState s b i = 3 → ∃ t, exec (.txAbort (decide (32 ≤ i)) v) s = .next t ∧ canState t b i = 3 ∧
         (t.canBus b).abortActive = true ∧ t.fld (txAbortFld b i) = 1)) ∧
     (busUp s b = true → (s.canBus b).active = none → s.fld (F.CAN_CTRL.MODE.item b) ≠ 1 → txFirst s b = some i →
       ∃ t, exec (.transmissionStart b) s = .next t ∧ (t.canBus b).active = some i ∧ canState t b i = 3 ∧
         ∀ a, a ≠ canWord b i 0 → t.reg a = s.reg a) ∧
     ∀ stamp : DWord, (s.canBus b).active = some i → getAt i (s.canBus b).again = none →
       (s.fld (F.CAN_CTRL.MODE.item b) ≠ 2 → ∃ t, exec (.transmitEnd b .success stamp) s = .next t ∧
         canState t b i = 4 ∧ (t.canBus b).active = none ∧ t.dword (canWord b i 4) = stamp ∧
         t.fld (F.CAN_STATUS.TEC.item b) = s.fld (F.CAN_STATUS.TEC.item b) - 1 ∧
         t.outbox = .can b i (txFrame s b i stamp) :: s.outbox) ∧
       (s.fld (F.CAN_CTRL.MODE.item b) = 2 → ∃ t, exec (.transmitEnd b .success stamp) s = .next t ∧
         (t.canBus b).active = none ∧ t.outbox = s.outbox ∧ t.mem = s.mem) ∧
       ((s.canBus b).abortActive = false → canOneshot s b i = false →
         (∃ t, exec (.transmitEnd b .lostArbitration stamp) s = .next t ∧ canState t b i = 2 ∧
           (t.canBus b).active = none ∧ t.outbox = s.outbox) ∧
         ∃ t, exec (.transmitEnd b .error stamp) s = .next t ∧ canState t b i = 2 ∧ (t.canBus b).active = none ∧
           t.fld (F.CAN_STATUS.TEC.item b) = min 255 (s.fld (F.CAN_STATUS.TEC.item b) + 8) ∧ t.outbox = s.outbox)) ∧
  (∀ (s : State) (b : Nat), b < 4 →
     (busUp s b = true → ∃ t, exec (.busOff b) s = .next t ∧
       busState t b = (if s.flag (F.CAN_CTRL.AUTO_REC.item b) then 3 else 2) ∧ t.fld (F.CAN_STATUS.TEC.item b) = 255 ∧
       t.flag (F.CAN_EVENT.BUS_OFF.item b) = true ∧ (t.canBus b).active = none ∧
       ∀ i, i < 64 → canState s b i = 2 → canState t b i = if canOneshot s b i then 6 else 2) ∧
     (∀ v : Word, b = s.fld F.CAN_SEL.BUS → s.dom (53 + b) = 2 → busState s b = 2 → v.getLsbD 6 = true ∨ v.getLsbD 5 = true →
       v.getLsbD 0 = false → s.flag (F.CAN_CTRL.INIT.item b) = false →
       ∃ t, exec (.recover v) s = .next t ∧ busState t b = 3 ∧ t.flag (F.CAN_CTRL.AUTO_REC.item b) = v.getLsbD 5 ∧
         OnlyRegs s t [itemKey A.CAN_CTRL b, itemKey A.CAN_STATUS b]) ∧
     (∀ v : Word, b = s.fld F.CAN_SEL.BUS → s.dom (53 + b) = 2 →
       (s.flag (F.CAN_CTRL.INIT.item b) = false → v.getLsbD 0 = true →
         ∃ t, exec (.recover v) s = .next t ∧ busState t b = 4 ∧ (t.canBus b).wasOff = busIsOff s b) ∧
       (s.flag (F.CAN_CTRL.INIT.item b) = true → v.getLsbD 0 = false →
         ∃ t, exec (.recover v) s = .next t ∧ t.flag (F.CAN_CTRL.INIT.item b) = false ∧
           busState t b = if (s.canBus b).wasOff then (if v.getLsbD 6 || v.getLsbD 5 then 3 else 2) else 0)) ∧
     (busState s b = 3 → ∃ t, exec (.busOffRecovery b) s = .next t ∧ busState t b = 0 ∧
       t.fld (F.CAN_STATUS.TEC.item b) = 0 ∧ t.fld (F.CAN_STATUS.REC.item b) = 0 ∧
       OnlyRegs s t [itemKey A.CAN_STATUS b]))

/-- The RS-485 lines (R304, R305, R307, R308, R317): a received character enters the FIFO, behind 256 it is lost and counted, a
false start is noise, a break is seen where all its bits are low; an idle line raises its request; a character sent leaves the
FIFO as the line's settings say with the driver on, the last one of a draining line releases it; the driver is
released when nothing is left, a break ends, FLUSH empties both FIFOs. -/
def Obligations.SerialLinesWork : Prop :=
  ∀ (s : State) (l : Nat), l < 4 →
    (serOn s l = true → s.flag (F.SER_STATUS.BREAK.item l) = false →
      s.flag (F.SER_STATUS.DRIVING.item l) = false ∨ s.flag (F.SER_CTRL.ECHO.item l) = true →
      ∀ x : RxChar,
        (x.falseStart = true → ∃ t, exec (.receivedCharacter l x) s = .next t ∧
          t.fld (F.SER_ERR.NOISE.item l) = min 255 (s.fld (F.SER_ERR.NOISE.item l) + 1) ∧
          OnlyRegs s t [itemKey A.SER_ERR l]) ∧
        (x.falseStart = false → (s.serLine l).rx.length < 256 → ∃ t, exec (.receivedCharacter l x) s = .next t ∧
          (t.serLine l).rx = (s.serLine l).rx ++ [rxEntry s l x (s.serLine l).overrun] ∧
          (t.serLine l).tx = (s.serLine l).tx ∧
          t.fld (F.SER_STATUS.RX_FILL.item l) = (s.serLine l).rx.length + 1 ∧
          t.flag (F.SER_STATUS.BREAK.item l) = rxBreak s l x) ∧
        (x.falseStart = false → 256 ≤ (s.serLine l).rx.length → ∃ t, exec (.receivedCharacter l x) s = .next t ∧
          (t.serLine l).rx = (s.serLine l).rx ∧ (t.serLine l).overrun = true ∧
          t.fld (F.SER_ERR.OVERRUN.item l) = min 255 (s.fld (F.SER_ERR.OVERRUN.item l) + 1))) ∧
    (serOn s l = true → (s.serLine l).rx ≠ [] → ∃ t, exec (.idleRequest l) s = .next t ∧
      (t.serLine l).idleDone = true ∧ (t.serLine l).rx = (s.serLine l).rx ∧ t.mem = s.mem) ∧
    (∀ x rest, serMaySend s l = true ∨ serFinishes s l = true → (s.serLine l).tx = x :: rest →
      ∃ t, exec (.characterTransmitted l) s = .next t ∧ (t.serLine l).tx = rest ∧
        t.outbox = .serial l (serChar s l x) :: s.outbox ∧ t.flag (F.SER_STATUS.DRIVING.item l) = serMaySend s l) ∧
    (∀ x : Byte, s.flag (F.SER_CFG.BITS7.item l) = false → s.fld (F.SER_CFG.PARITY.item l) = 0 →
      s.flag (F.SER_CFG.STOP2.item l) = false →
      serChar s l x = false :: (List.range 8).map (fun i => x.toNat.testBit i) ++ [true]) ∧
    ((s.serLine l).tx = [] → ∃ t, exec (.driverRelease l) s = .next t ∧
      t.flag (F.SER_STATUS.DRIVING.item l) = false ∧ OnlyRegs s t [itemKey A.SER_STATUS l]) ∧
    (∃ t, exec (.breakEnd l) s = .next t ∧ t.flag (F.SER_STATUS.BREAK.item l) = false ∧
      OnlyRegs s t [itemKey A.SER_STATUS l]) ∧
    ∀ v : Word, l = s.fld F.SER_SEL.LINE → s.dom (57 + l) = 2 → v.getLsbD 2 = true →
      ∃ t, exec (.flush v) s = .next t ∧ (t.serLine l).rx = [] ∧ (t.serLine l).tx = [] ∧
        t.fld (F.SER_STATUS.TX_FILL.item l) = 0 ∧ t.fld (F.SER_STATUS.RX_FILL.item l) = 0 ∧
        t.flag (F.SER_CTRL.EN.item l) = v.getLsbD 0 ∧ t.flag (F.SER_CTRL.ECHO.item l) = v.getLsbD 1 ∧ t.mem = s.mem

/-! ## Recorder, power, resets, start-up -/

/-- The recorder (R311, R312, R330): an admitted event takes one token and joins the queue; one whose key is tracked
joins that key's count; one without a token or room is counted as suppressed; a window that ends with something pending
writes one record for all, with nothing pending it frees its key; tokens are gained up to 65,536, by a
module held without supply none (R329); a day of operating time raises a checkpoint record. That TOKEN_GAIN shows the
operating time is the model's choice (log entry 18). -/
def Obligations.EventsAreAdmittedByTokens : Prop :=
  ∀ s : State, s.flag F.EVR_STATUS.SATURATED = false →
    (∀ e es, s.recorder.raised = e :: es →
      (s.recorder.keys.any (keyOf e) = false → s.recorder.queue.length < 64 → 1024 < s.fld F.EVR_TOKENS.TOKENS →
        ∃ t, exec .recordAdmission s = .next t ∧ t.recorder.raised = es ∧
          t.fld F.EVR_TOKENS.TOKENS = s.fld F.EVR_TOKENS.TOKENS - 1 ∧ t.recorder.suppressed = 0 ∧
          t.recorder.queue.length = s.recorder.queue.length + 1 ∧
          t.fld F.EVR_STATUS.QUEUE = s.recorder.queue.length + 1 ∧
          ∃ r ∈ t.recorder.queue, r.ev = e ∧ r.suppressed = s.recorder.suppressed ∧ r.rep = 0) ∧
      (s.recorder.keys.any (keyOf e) = true →
        ∃ t, exec .recordAdmission s = .next t ∧ t.recorder.raised = es ∧ t.recorder.queue = s.recorder.queue ∧
          t.regs = s.regs ∧ ∃ k ∈ t.recorder.keys, keyOf e k = true ∧ k.last = e ∧ 0 < k.pending) ∧
      (s.recorder.keys.any (keyOf e) = false →
        64 ≤ s.recorder.queue.length ∨ s.fld F.EVR_TOKENS.TOKENS = 0 ∨
          (priorityClass e.cls = false ∧ s.fld F.EVR_TOKENS.TOKENS ≤ 1024) →
        ∃ t, exec .recordAdmission s = .next t ∧ t.recorder.raised = es ∧ t.recorder.queue = s.recorder.queue ∧
          t.recorder.suppressed = s.recorder.suppressed + 1 ∧
          t.fld F.EVR_DROP.COUNT = min F.EVR_DROP.COUNT.top (s.fld F.EVR_DROP.COUNT + 1))) ∧
    (∀ i k, s.recorder.keys[i]? = some k →
      (k.pending = 0 → ∃ t, exec (.coalesceWindowEnd i) s = .next t ∧ t.recorder.keys = s.recorder.keys.eraseIdx i ∧
        t.recorder.queue = s.recorder.queue ∧ t.regs = s.regs) ∧
      (k.pending ≠ 0 → s.recorder.queue.length < 64 → 1024 < s.fld F.EVR_TOKENS.TOKENS →
        ∃ t, exec (.coalesceWindowEnd i) s = .next t ∧
          t.recorder.keys = s.recorder.keys.eraseIdx i ++ [{ k with pending := 0 }] ∧
          ∃ r ∈ t.recorder.queue, r.ev = k.last ∧ r.rep = k.pending ∧ r.coalesced = true)) ∧
    (s.power.held = true → exec .tokenGain s = .next s) ∧
    (s.power.held = false → ∃ t, exec .tokenGain s = .next t ∧ t.dword A.SKERRY_OPTIME_LO = s.dword A.SKERRY_OPTIME_LO + 57 ∧
      t.fld F.EVR_TOKENS.TOKENS = min 65536 (s.fld F.EVR_TOKENS.TOKENS + 1) ∧
      OnlyRegs s t [A.EVR_TOKENS, A.SKERRY_OPTIME_LO, A.SKERRY_OPTIME_HI]) ∧
    ∃ t, exec .checkpointRecord s = .next t ∧ Raised s t 16 2 0 ∧ t.regs = s.regs ∧ t.mem = s.mem

/-- Power domains (R319, R320): a keyed on request starts a ramp, or turns a drain into a pending one; an off request for
a domain that the image needs or for one of 76 to 95 is refused, another one drains; a ramp ends ON, a drain OFF or in a
new ramp, and a CAN bus or a line that is off holds nothing any more (R317); a fault forces a domain on its way OFF and is
recorded. That a fault of a pending domain counts too is the model's choice (log entry 103).
The feeds (R321 to R323): a feed lost shows its voltage, clears its line and is recorded; the supply-fail warning
shows neither feed as valid and writes the recorder's queue to flash; a feed back at 19.0 V lets the module leave its reset.
When a feed's voltage is known is the model's choice (log entry 113). -/
def Obligations.PowerFollowsRequests : Prop :=
  (∀ (s : State) (v : Word) (d : Nat),
     (getBits v 31 16 = 0x5AC3 → d = s.fld F.PWR_DOM_SEL.DOM → d < 96 →
       (v.getLsbD 0 = true → v.getLsbD 1 = false → ∃ t, exec (.onRequest v) s = .next t ∧
         (s.dom d = 0 → t.dom d = 1) ∧ (s.dom d = 3 → t.dom d = 4) ∧ (s.dom d = 2 → t = s) ∧
         OnlyRegs s t [itemKey A.PWR_DOM_STATE d]) ∧
       (v.getLsbD 0 = false → v.getLsbD 1 = true →
         (domNeeded s d = true ∨ 76 ≤ d → ∃ t, exec (.offRequest v) s = .next t ∧ t.flag F.PWR_EVENT.REFUSED = true ∧
           OnlyRegs s t [A.PWR_EVENT]) ∧
         (domNeeded s d = false → d < 76 →
           (s.dom d = 2 ∨ s.dom d = 4 → ∃ t, exec (.offRequest v) s = .next t ∧ t.dom d = 3) ∧
           (s.dom d = 1 → ∃ t, exec (.offRequest v) s = .next t ∧ t.power.offAsked.contains d = true ∧
             t.regs = s.regs)))) ∧
     (d < 96 → s.dom d = 1 → ∃ t, exec (.rampComplete d) s = .next t ∧
       t.dom d = if s.power.offAsked.contains d then 3 else 2) ∧
     (s.dom d = 3 ∨ s.dom d = 4 → ∃ t, exec (.drainComplete d) s = .next t ∧ t.dom d = s.dom d - 3 ∧
       t.mem = s.mem ∧ (d < 53 ∨ 61 ≤ d → OnlyRegs s t [itemKey A.PWR_DOM_STATE d]) ∧
       (53 ≤ d → d < 57 → (t.canBus (d - 53)).active = none) ∧
       (57 ≤ d → d < 61 → (t.serLine (d - 57)).rx = [] ∧ (t.serLine (d - 57)).tx = [] ∧
         t.flag (F.SER_STATUS.DRIVING.item (d - 57)) = false)) ∧
     (s.dom d = 1 ∨ s.dom d = 3 ∨ s.dom d = 4 → ∃ t, exec (.domFault d) s = .next t ∧ t.dom d = 0 ∧
       t.flag F.PWR_EVENT.DOM_FAULT = true ∧ Raised s t 12 2 d ∧ t.mem = s.mem)) ∧
  (∀ (s : State) (b : Bool) (cv : Nat), cv < 65536 →
     let shown := fun (t : State) => (if b then t.fld F.PWR_FEED.FEED_B else t.fld F.PWR_FEED.FEED_A) = cv ∧
       (if b then t.flag F.PWR_STATUS.FEED_B else t.flag F.PWR_STATUS.FEED_A) = decide (1800 ≤ cv)
     (cv < 1800 → ∃ t, exec (.feedLost b cv) s = .next t ∧ shown t ∧ t.flag F.PWR_EVENT.FEED_LOST = true ∧
       Raised s t 12 3 (if b then 1 else 0) ∧ t.mem = s.mem) ∧
     (1900 ≤ cv → ∃ t, exec (.feedReturn b cv) s = .next t ∧ shown t ∧ t.power.held = false ∧ t.mem = s.mem) ∧
     (s.power.warned = false → s.recorder.queue.length ≤ 64 → ∃ t, exec .supplyFailWarning s = .next t ∧
       t.flag F.PWR_STATUS.WARNING = true ∧ t.flag F.PWR_STATUS.FEED_A = false ∧ t.flag F.PWR_STATUS.FEED_B = false ∧
       t.power.warned = true ∧ t.power.warnedAt = s.now ∧ t.recorder.queue = [] ∧ t.retSnap = none))

/-- Resets (R323 to R325): every reset leaves the module in START step 1 with its kind shown, no task, an empty image and
SRAM and DRAM without contents, and keeps the stored epoch, the journal, the recorder and MRAM; a keyed PWR_RESET does so
at once outside the running states and in them waits for the end of the guard window; the tick watchdog after four
ticks without a commit, the start watchdog of a bounded step up to three times in a row; a module held in a SUPPLY_FAIL reset
makes none of them. What a reset does to each register and where a warning outlives it are the model's choice (log entries 102
and 120).
The start-up order (R32, R158, R173, R318, R326, R341): step 2 takes the straps and goes on where their parity holds, with
domains 76 to 95 on their way; step 3 waits for them and loads the time; step 7 ends with
the acquisition; step 8 without a partner decides on SOLO; step 9 unwraps the keys, raises the epoch and leaves START. How a step's decision is kept for the next
is the model's choice (log entry 105). -/
def Obligations.ResetsAndStartUp : Prop :=
  (∀ s : State, Inv s →
     let isReset := fun (t : State) (kind : Nat) => t.mode = stStart ∧ t.fld F.PWR_STATUS.RESET_KIND = kind ∧
       t.fld F.PWR_STATUS.START_STEP = 1 ∧ t.tasks = [] ∧ t.inImg = [] ∧ t.outImg = [] ∧ t.image = none ∧
       t.epoch = s.epoch ∧ t.journal = s.journal ∧ t.recorder.halfA = s.recorder.halfA ∧ t.bank0 = s.bank0 ∧
       t.tampered = s.tampered ∧ t.pending = s.pending ∧
       ∀ a, byteAt t.mem a = if mramBase ≤ a ∧ a < mramBase + 0x1000000 then byteAt s.mem a else 0
     (∀ kind, kind < 4 → kind = 1 → s.power.warned = true → ∃ t, exec (.reset kind) s = .next t ∧ isReset t kind ∧
       t.power.held = true) ∧
     (∀ kind, kind < 4 → kind ≠ 1 → kind = 0 ∨ s.power.held = false → ∃ t, exec (.reset kind) s = .next t ∧
       isReset t kind ∧ t.power.held = s.power.held) ∧
     (∀ kind, 2 ≤ kind → s.power.held = true → exec (.reset kind) s = .next s) ∧
     (∀ v : Word, getBits v 31 16 = 0xE187 → v.getLsbD 0 = true →
       (s.power.held = true → exec (.pwrReset v) s = .next s) ∧ (s.power.held = false →
       (s.running = false → ∃ t, exec (.pwrReset v) s = .next t ∧ isReset t 3) ∧
       (s.running = true → ∃ t, exec (.pwrReset v) s = .next t ∧ t.power.resetDue = true ∧ t.regs = s.regs ∧
         t.mem = s.mem))) ∧
     (s.running = true → 4 ≤ s.power.noCommit → ∃ t, exec .tickWatchdog s = .next t ∧ isReset t 2) ∧
     (s.mode = stStart → stepBounded s = true → s.power.held = false →
       (s.power.startResets < 3 → ∃ t, exec .startWatchdog s = .next t ∧ isReset t 2 ∧
         t.power.startResets = s.power.startResets + 1) ∧
       (3 ≤ s.power.startResets → ∃ t, exec .startWatchdog s = .next t ∧ t.flag F.PWR_STATUS.START_STUCK = true ∧
         OnlyRegs s t [A.PWR_STATUS]))) ∧
  (∀ (s : State) (x : StartIn), s.mode = stStart → s.power.held = false → s.flag F.PWR_STATUS.START_STUCK = false →
     (s.fld F.PWR_STATUS.START_STEP = 2 → ∃ t, exec (.startStep x) s = .next t ∧
       t.fld F.SYS_SLOT.SLOT = x.slot.toNat ∧ t.flag F.SYS_SLOT.STRAP_FAULT = !strapsEven x ∧
       t.fld F.PWR_STATUS.START_STEP = (if strapsEven x then 3 else 2) ∧ t.mode = stStart ∧
       (strapsEven x = true → ∀ d, 76 ≤ d → d < 96 → s.dom d = 0 → t.dom d = 1)) ∧
     (s.fld F.PWR_STATUS.START_STEP = 3 →
       ((∀ d, 76 ≤ d → d < 96 → s.dom d = 2) → ∃ t, exec (.startStep x) s = .next t ∧
         t.fld F.PWR_STATUS.START_STEP = 4 ∧ t.now = BitVec.ofNat 64 (x.clock.toNat * 1000000000 / 32768) ∧ t.nowFrac = 0) ∧
       ((∃ d, 76 ≤ d ∧ d < 96 ∧ s.dom d ≠ 2) → exec (.startStep x) s = .next s)) ∧
     (s.fld F.PWR_STATUS.START_STEP = 7 → ∃ t, exec (.startStep x) s = .next t ∧
       t.fld F.PWR_STATUS.START_STEP = if s.acquired then 8 else 7) ∧
     (s.fld F.PWR_STATUS.START_STEP = 8 → s.flag F.SYS_SLOT.PARTNER_PRESENT = false →
       ∃ t, exec (.startStep x) s = .next t ∧ t.fld F.PWR_STATUS.START_STEP = 9 ∧ t.power.startAs = some stSolo ∧
         t.mode = stStart) ∧
     (s.fld F.PWR_STATUS.START_STEP = 9 → s.power.startAs = some stSolo → s.epoch < 0xFFFFFF →
       ∃ t, exec (.startStep x) s = .next t ∧ t.mode = stSolo ∧ t.fld F.SYS_STATE.CAUSE = 3 ∧ t.epoch = s.epoch + 1 ∧
         t.fld F.PWR_STATUS.START_STEP = 0 ∧ (s.fld F.SKERRY_STATUS.KEYS = 1 → t.fld F.SKERRY_STATUS.KEYS = 2) ∧
         t.holds = true ∧ Raised s t 0 1 0))

/-- Tamper and re-keying (R331, R332): a sensor sets its bits, enters the log, zeroises the keys and closes every session;
in START before its last step the module stops in TAMPER_HOLD, a running one goes on tampered; a condition that ends
clears its live bit alone; re-keying begins where ENTER has been held in its menu (R335) and ends with keys, the new
fingerprint and no tamper. The moment of a tamper, that the sensors do not hinder re-keying, and the domains in TAMPER_HOLD are
the model's choice (log entries 106, 107 and 146). -/
def Obligations.TamperZeroises : Prop :=
  ∀ s : State,
    (∀ (k : Nat) (c : DWord), k < 6 → ∃ t, exec (.tamper k c) s = .next t ∧
      (t.fld F.SKERRY_TAMPER.SENSOR).testBit k = true ∧ (t.fld F.SKERRY_STATUS.LIVE).testBit k = true ∧
      t.fld F.SKERRY_STATUS.KEYS = 0 ∧ t.dword A.SKERRY_FP_LO = 0 ∧ t.skerry.rekeying = false ∧ t.skerry.deviceKey = [] ∧
      (∃ e rest, t.skerry.log = e :: rest ∧ e.sensor = k ∧ e.clock = c ∧ e.uncopied = s.power.held) ∧
      (∀ j, j < 16 → sessState t j = 0 ∧ (t.sess j).queue = []) ∧
      (s.power.held = false → s.mode = stStart → s.fld F.PWR_STATUS.START_STEP ≠ 9 →
        t.mode = stTamperHold ∧ t.fld F.PWR_STATUS.START_STEP = 0 ∧ ∀ d, 76 ≤ d → d < 96 →
          t.dom d = if s.dom d = 0 then 1 else if s.dom d = 3 then 4 else s.dom d) ∧
      (s.power.held = false → s.running = true → t.tampered = true ∧ t.mode = s.mode)) ∧
    (∀ k, k < 6 → (s.fld F.SKERRY_STATUS.LIVE).testBit k = true →
      ∃ t, exec (.tamperSensorCleared k) s = .next t ∧ OnlyRegs s t [A.SKERRY_STATUS] ∧
        t.fld F.SKERRY_STATUS.KEYS = s.fld F.SKERRY_STATUS.KEYS ∧ ∀ j, j < 6 →
          (t.fld F.SKERRY_STATUS.LIVE).testBit j = ((s.fld F.SKERRY_STATUS.LIVE).testBit j && j != k)) ∧
    (s.mode ≠ stTamperHold → s.power.held = false → s.panel.menu = .reKey → 301 ≤ s.panel.enterHeld →
      ∃ t, exec .reKey s = .next t ∧
        t = { s with skerry := { s.skerry with rekeying := true }, panel := { s.panel with enterHeld := 0 } }) ∧
    (s.panel.menu ≠ .reKey ∨ s.panel.enterHeld < 301 ∨ s.mode = stTamperHold → exec .reKey s = .next s) ∧
    ∀ key : List Byte, s.skerry.rekeying = true → ∃ t, exec (.reKeyingDone key) s = .next t ∧
      t.fld F.SKERRY_STATUS.KEYS = 2 ∧ t.dword A.SKERRY_FP_LO = fingerprint key ∧ t.skerry.deviceKey = key ∧
      t.tampered = false ∧ t.skerry.rekeying = false ∧
      Raised s t 13 3 0 ∧ t.mem = s.mem

/-- The panel and the service port (R334 to R336): a key 40 counts above its baseline for three scans is touched; the
sixteenth scan of a capture gives the baseline; a key that becomes touched moves among the menus, ESC one level up, TRIM and
SERVICE refused with LOCK; ENTER held for 3 s in the RESET menu asks for a reset, in the SERVICE menu takes the address; the
timeout goes back to the status line; the address applies with every session of N00 closed. Which keys choose among the menus
and how scans are counted are the model's choice (log entries 179 and 108). -/
def Obligations.PanelAndServicePort : Prop :=
  (∀ (s : State) (counts : List Nat), s.panel.keys.length = 6 → counts.length = 6 →
    ∃ t, exec (.keyScan counts) s = .next t ∧
      ((s.panel.menu = .reset → s.panel.enterHeld < 300) → t.mem = s.mem ∧
        (∀ i c k, i < 6 → s.panel.keys[i]? = some k → counts[i]? = some c → ∃ k', t.panel.keys[i]? = some k' ∧
          (k.capture = 1 → k'.capture = 0 ∧ k'.base = ((k.sum + c : Nat) : Int)) ∧
          (k.capture = 0 → k.blocked = false → 640 ≤ 16 * (c : Int) - k.base → k.hi = 2 → k.held < 2000 →
            k'.touched = true ∧ k'.held = k.held + 1)) ∧
        ((∀ i, i < 6 → (t.fld F.PANEL_KEYS.TOUCHED).testBit i = true → (s.fld F.PANEL_KEYS.TOUCHED).testBit i = true) →
          t.panel.menu = s.panel.menu) ∧
        ∀ j, j < 6 → (s.fld F.PANEL_KEYS.TOUCHED).testBit j = false → t.fld F.PANEL_KEYS.TOUCHED = 2 ^ j →
          (j = 5 → t.panel.menu = match s.panel.menu with
            | .line => .line | .list _ => .line | .status => .list 0 | .trim _ => .list 1 | .service => .list 2
            | .reset => .list 3 | .reKey => .list 4) ∧
          (j ≠ 5 → s.panel.menu = .line → t.panel.menu = .list 0) ∧
          ∀ i, s.panel.menu = .list i → (j = 0 → t.panel.menu = .list ((i + 4) % 5)) ∧
            (j = 1 → t.panel.menu = .list ((i + 1) % 5)) ∧
            (j = 4 → t.panel.menu = if s.flag F.PANEL_CTRL.LOCK = true ∧ (i = 1 ∨ i = 2) then .list i
              else match i with | 0 => .status | 1 => .trim 0 | 2 => .service | 3 => .reset | _ => .reKey)) ∧
      (s.panel.menu = .reset → s.panel.enterHeld = 300 → s.fld F.PANEL_KEYS.TOUCHED = 16 → s.running = true →
        s.power.held = false → t.fld F.PANEL_KEYS.TOUCHED = 16 → t.power.resetDue = true)) ∧
  (∀ s : State, ∃ t, exec .menuTimeout s = .next t ∧
    t = { s with panel := { s.panel with menu := .line, notice := .none, enterHeld := 0 } }) ∧
  ∀ (s : State) (a : SvcAddr), a.pfx4 < 256 → a.pfx6 < 256 →
    (s.panel.menu = .service → 301 ≤ s.panel.enterHeld →
      (s.flag F.PANEL_CTRL.LOCK = false → exec (.service a) s =
        .next { s with panel := { s.panel with pendingAddr := some a, enterHeld := 0 } }) ∧
      (s.flag F.PANEL_CTRL.LOCK = true → exec (.service a) s =
        .next { s with panel := { s.panel with notice := .locked } })) ∧
    (s.panel.menu ≠ .service ∨ s.panel.enterHeld < 301 → exec (.service a) s = .next s) ∧
    (s.panel.pendingAddr = some a → ∃ t, exec .serviceAddressApply s = .next t ∧ t.reg A.PANEL_SVC_IP4 = a.ip4 ∧
      t.fld F.PANEL_SVC_PFX.IP4 = a.pfx4 ∧ t.fld F.PANEL_SVC_PFX.IP6 = a.pfx6 ∧ t.panel.ip6 = a.ip6 ∧
      t.panel.pendingAddr = none ∧ ∀ k, k < 16 → sessPort s k = 0 → sessState t k = 0)

/-! ## Time, triggers, captures -/

/-- Time acquisition and the servo (R173, R176 to R178): the sixteenth of sixteen samples within 1 µs of each other steps
the counter to the reference, each sample corrected by its port's asymmetries (R183, log entry 116); a free start takes
the Skerry clock in holdover, module B not beside a partner in START that is permitted one too (what the partner's image
permits is a free value, log entry 144); a sample within the jump threshold reaches the servo and the rate stays within its limit,
whatever the free output of the servo (log entry 13); a sample beyond it is refused and changes neither.
Reference selection (R179 to R181): an Announce offers its parent, and a best one better than the reference makes a
switch pending; a lost selected reference is due for holdover and no candidate any more; a hold-off that expires makes
the switch pending with its samples at 0; at 62.0 µs a qualified switch commits and a lost reference enters holdover. -/
def Obligations.TimeAndReferences : Prop :=
  (∀ (s : State) (p : Nat) (off : Int) (ns : DWord) (fr : Nat),
     (p < 16 → fr < 256 → ptpRole s p = 1 → (rankOf s.time p).isSome = true →
       (s.acquired = false → s.mode = stStart → (bestCand s.time).map Prod.fst = some p → s.time.acq.length = 15 →
         within1us (correctedOffset s p off :: s.time.acq) = true → ∃ t, exec (.offsetSample p off ns fr) s = .next t ∧
           t.acquired = true ∧ t.now = ns ∧ t.nowFrac = fr ∧ t.fld F.TIME_STATUS.ACQ_SRC = 1 ∧
           t.fld F.TIME_STATUS.REF = p ∧ t.flag F.TIME_STATUS.HOLDOVER = false ∧ Raised s t 5 1 p) ∧
       (s.acquired = true → p = s.fld F.TIME_STATUS.REF → refLost s = false →
         ((correctedOffset s p off).natAbs ≤ (jumpLimit s).natAbs → ∃ t, exec (.offsetSample p off ns fr) s = .next t ∧
           t.time.samples = s.time.samples + 1 ∧ t.time.refused = 0 ∧
           (t.reg A.TIME_RATE).toInt.natAbs ≤ clamp 1 250 (s.fld F.TIME_SERVO.MAX_PPM) * 1000000 ∧
           t.now = s.now ∧ t.mem = s.mem) ∧
         ((jumpLimit s).natAbs < (correctedOffset s p off).natAbs → s.time.refused < 15 →
           ∃ t, exec (.offsetSample p off ns fr) s = .next t ∧ t.flag F.TIME_EVENT.JUMP_REFUSED = true ∧
             t.time.samples = s.time.samples ∧ t.time.refused = s.time.refused + 1 ∧
             t.reg A.TIME_RATE = s.reg A.TIME_RATE ∧ t.now = s.now))) ∧
     (∀ im, s.image = some im → im.freeStart = true → s.mode = stStart → s.acquired = false →
       s.skerry.clockValid = true → s.fld F.TIME_STATUS.SWITCH = 0 →
       s.flag F.SYS_SLOT.PARTNER_PRESENT = false ∨ (∃ p, s.pair.status = some p ∧
         (p.state = stSafe ∨ p.state = stTamperHold ∨
           (p.state = stStart ∧ (s.parity = 0 ∨ Config.partnerFreeStart p.imageSeq = false)))) →
       ∃ t, exec .freeStart s = .next t ∧ t.acquired = true ∧ t.fld F.TIME_STATUS.ACQ_SRC = 2 ∧
         t.flag F.TIME_STATUS.HOLDOVER = true ∧ t.now = s.now ∧ Raised s t 5 1 0) ∧
     (∀ p, s.flag F.SYS_SLOT.PARTNER_PRESENT = true → s.pair.status = some p →
       (2 ≤ p.state ∧ p.state ≤ 4) ∨ (p.state = stStart ∧ s.parity = 1 ∧ Config.partnerFreeStart p.imageSeq = true) →
       exec .freeStart s = .next s) ∧
     (s.acquired = true → s.flag F.TIME_STATUS.HOLDOVER = false → ∃ t, exec .skerryClockSet s = .next t ∧
       t = { s with skerry := { s.skerry with clock := BitVec.ofNat 64 (s.now.toNat * 32768 / 1000000000),
                                              clockValid := true } })) ∧
  (∀ (s : State) (p : Nat), p < 16 →
     (∀ ds : PtpDataset, ptpRole s p = 1 → ∃ t, exec (.announceMessage p ds) s = .next t ∧
       rankOf t.time p = some ds.rank ∧ t.mem = s.mem ∧
       (∀ c, c = { s.time with cands := putAt p ds.rank s.time.cands } → bestCand c = some (p, ds.rank) →
         s.acquired = true → s.fld F.TIME_STATUS.SWITCH = 0 → refLost s = false → p ≠ s.fld F.TIME_STATUS.REF →
         rankBetter ds.rank (rankOf s.time (s.fld F.TIME_STATUS.REF)) = true → s.time.cameDown = false →
         t.fld F.TIME_STATUS.SWITCH = 1 ∧ t.fld F.TIME_STATUS.PEND = p)) ∧
     (∀ cause, (rankOf s.time p).isSome = true → ∃ t, exec (.referenceLost p cause) s = .next t ∧
       rankOf t.time p = none ∧ (s.acquired = true → p = s.fld F.TIME_STATUS.REF → refLost s = false →
         s.fld F.TIME_STATUS.SWITCH = 0 → t.time.holdoverDue = some cause)) ∧
     (s.fld F.TIME_STATUS.SWITCH = 2 → ∃ t, exec .holdoffExpiry s = .next t ∧ t.fld F.TIME_STATUS.SWITCH = 1 ∧
       t.fld F.TIME_STATUS.PEND = s.fld F.TIME_STATUS.PEND ∧ t.time.returning = true ∧ t.time.good = 0 ∧
       t.time.qualified = false) ∧
     (s.ticking = true →
       (s.fld F.TIME_STATUS.SWITCH = 1 → s.time.qualified = true → s.time.holdoverDue = none →
         ∃ t, exec .timeReferenceSwitchCommit s = .next t ∧ t.fld F.TIME_STATUS.REF = s.fld F.TIME_STATUS.PEND ∧
           t.flag F.TIME_STATUS.HOLDOVER = false ∧ t.flag F.TIME_EVENT.SWITCH_COMMITTED = true ∧
           t.time.lastRef = s.fld F.TIME_STATUS.PEND ∧
           Raised s t 5 (if s.time.returning then 5 else 4) (s.fld F.TIME_STATUS.PEND)) ∧
       (∀ cause, s.time.holdoverDue = some cause → s.time.qualified = false →
         ∃ t, exec .timeReferenceSwitchCommit s = .next t ∧ t.flag F.TIME_STATUS.HOLDOVER = true ∧
           t.flag F.TIME_EVENT.HOLDOVER_ENTERED = true ∧ t.fld F.TIME_STATUS.REF = 0 ∧ t.time.holdoverDue = none ∧
           Raised s t 5 3 s.time.lastRef)))

/-- Residence and ring delays (R183, R184, R187): an event message between transparent-clock ports leaves with its
residence, corrected by the asymmetries of both ports, added to its correction or, in two-step operation, to that of the
message that follows it, with the corrected link delay where the profile measures it; one of another domain or on a port
without a role is counted; the delay of a ring's station is the link's mean delay, from the module's stamps as R183 corrects them,
and its asymmetry, kept and written to the station, and the stamps of the latch are used up. What an offset holds, the sum over
the links and the bytes of the delay are the model's choice (log entries 116, 95 and 31). -/
def Obligations.ResidenceAndRingDelays : Prop :=
  (∀ (s : State) (m : PtpEvent), m.inPort < 16 → m.outPort < 16 →
    (ptpRole s m.inPort = 2 → ptpRole s m.outPort = 2 → m.inPort ≠ m.outPort →
      m.domain = s.fld F.TIME_PTP.DOMAIN →
      let more := m.tx + asymOut s (m.outPort - 1) - (m.rx - asymIn s (m.inPort - 1)) +
        if s.fld F.TIME_PTP.PROFILE = 0 then 0
        else m.linkDelay - (asymIn s (m.inPort - 1) + asymOut s (m.inPort - 1)) / 2
      let two := (m.kind = .sync ∨ m.kind = .pdelayResp) ∧
        (m.twoStep = true ∨ s.flag (F.TIME_PORT_CFG.STEP.item (m.outPort - 1)) = true)
      (two → ∃ t, exec (.ptpEventMessage m) s = .next t ∧ t.mem = s.mem ∧
        t.outbox = .ptp m.outPort m.kind true (m.followUp + more) ::
          .ptp m.outPort m.kind false m.correction :: s.outbox) ∧
      (¬ two → ∃ t, exec (.ptpEventMessage m) s = .next t ∧ t.mem = s.mem ∧
        t.outbox = .ptp m.outPort m.kind false (m.correction + more) :: s.outbox)) ∧
    (ptpRole s m.inPort = 0 ∨ m.domain ≠ s.fld F.TIME_PTP.DOMAIN →
      ∃ t, exec (.ptpEventMessage m) s = .next t ∧ t.outbox = s.outbox ∧
      t.fld (F.NET_PORT_DISC.PTP_OPT.item m.inPort) = min 65535 (s.fld (F.NET_PORT_DISC.PTP_OPT.item m.inPort) + 1))) ∧
  ∀ (s : State) (k : Nat) (xs : List StationStamps), s.running = true →
    ∃ t, exec (.ringDelayUpdate k xs) s = .next t ∧ (∀ e ∈ t.time.stamps, e.1 / 64 ≠ k) ∧ t.mem = s.mem ∧
      (∀ x ∈ ringStations s k, x.slotStart ≠ 0 → getAt (k * 64 + x.station) s.time.stamps = none →
        t.flag F.TIME_EVENT.RING_DELAY_STALE = true) ∧
      ∀ x y e, ringStations s k = [x] → getAt (k * 64 + x.station) s.time.stamps = some y →
        endStamps xs 64 = some e → s.mode = stPrimary → s.parity = 0 →
        getAt (k * 64 + x.station) s.time.delays = none →
        getAt (k * 64 + x.station) t.time.delays = some (some (linkDelay (portStamps s k 64 e) y + x.asym), none) ∧
        (t.ring k).reqs = (s.ring k).reqs ++ [⟨none, 1, x.station,
          delayRequest false (linkDelay (portStamps s k 64 e) y + x.asym), .delay, s.tick⟩]

/-- Triggers and captures (R189 to R192): a write that arms a one-shot trigger for an instant not past shows it armed for
that instant, for one past, by a part of a nanosecond too, MISSED, a write without ARM disarms; at its instant an armed trigger starts its target: a
one-shot one is FIRED, a periodic one goes on by its period; a selected edge of a source outside the converters is stamped
with the source's delay removed (R288; the fixed delays are the model's choice, log entry 116), and one that finds the last
unread is an overrun. -/
def Obligations.TriggersFireAndCapturesStamp : Prop :=
  (∀ (s : State) (i : Nat) (v : Word), i < 64 → ∃ t, exec (.triggerArm i v) s = .next t ∧ t.mem = s.mem ∧
    t.fld (F.TIME_TRIG_CTRL.TARGET.item i) = getBits v 15 8 ∧ t.fld (F.TIME_TRIG_CTRL.MODE.item i) = getBits v 2 1 ∧
    (v.getLsbD 0 = false → t.fld (F.TIME_TRIG_CTRL.STATE.item i) = 0 ∧ getAt i t.time.trigNext = none) ∧
    (v.getLsbD 0 = true → getBits v 2 1 = 0 → trigTarget (getBits v 15 8) = true →
      (behindNow s (trigT s i) ≤ 0 → t.fld (F.TIME_TRIG_CTRL.STATE.item i) = 1 ∧
        getAt i t.time.trigNext = some (trigT s i)) ∧
      (0 < behindNow s (trigT s i) → t.fld (F.TIME_TRIG_CTRL.STATE.item i) = 3 ∧
        t.flag F.TIME_EVENT.TRIG_MISSED = true ∧ getAt i t.time.trigNext = none))) ∧
  (∀ (s : State) (i : Nat) (w : DWord), i < 64 → getAt i s.time.trigNext = some w →
    s.fld (F.TIME_TRIG_CTRL.STATE.item i) = 1 → s.fld (F.TIME_TRIG_CTRL.TARGET.item i) = 0x80 →
    ∃ t, exec (.triggerFire i) s = .next t ∧ t.now = w ∧ t.outbox = .trigger 0x80 w :: s.outbox ∧ Raised s t 15 1 i ∧
      (s.fld (F.TIME_TRIG_CTRL.MODE.item i) = 0 → t.fld (F.TIME_TRIG_CTRL.STATE.item i) = 2 ∧
        getAt i t.time.trigNext = none) ∧
      (s.fld (F.TIME_TRIG_CTRL.MODE.item i) = 1 → t.fld (F.TIME_TRIG_CTRL.STATE.item i) = 1 ∧
        getAt i t.time.trigNext = some (w + (s.reg (itemKey A.TIME_TRIG_PERIOD i)).setWidth 64))) ∧
  ∀ (s : State) (i fr : Nat) (ns : DWord) (up : Bool), i < 32 → fr < 256 →
    (∀ c, c = s.fld (F.TIME_CAP_CTRL.SOURCE.item i) → (0x40 ≤ c ∧ c ≤ 0x5F) ∨ c = 0x80) →
    capEdge (s.fld (F.TIME_CAP_CTRL.EDGE.item i)) up = true →
    ∃ t, exec (.capture i ns fr up) s = .next t ∧ t.dword (itemKey A.TIME_CAP_T_LO i) =
        ns - BitVec.ofNat 64 (captureDelay s (s.fld (F.TIME_CAP_CTRL.SOURCE.item i))) ∧
      t.fld (F.TIME_CAP_T_FRAC.FRAC.item i) = fr ∧ t.flag (F.TIME_CAP_CTRL.NEW.item i) = true ∧
      (s.flag (F.TIME_CAP_CTRL.NEW.item i) = true → t.flag (F.TIME_CAP_CTRL.OVERRUN.item i) = true ∧
        t.flag F.TIME_EVENT.CAP_OVERRUN = true) ∧
      OnlyRegs s t [itemKey A.TIME_CAP_T_LO i, itemKey A.TIME_CAP_T_HI i, itemKey A.TIME_CAP_T_FRAC i,
        itemKey A.TIME_CAP_CTRL i, A.TIME_EVENT]

/-! ## The whole machine -/

/-- A step runs the front command on the state with the rest of the queue; on an empty queue the block idles, which is
the model's choice (log entry 23). -/
def Obligations.StepRunsFrontCommand : Prop :=
  (∀ (s : State) (c : Instr) (rest : List Instr), s.pending = c :: rest →
    step s = exec c { s with pending := rest }) ∧
  ∀ s : State, s.pending = [] → step s = .next s

/-- Every command completes with a next state, whatever the state and its operands, and leaves the queue of the commands
that wait as it found it. -/
def Obligations.EveryCommandCompletes : Prop :=
  ∀ (c : Instr) (s : State), ∃ t, exec c s = .next t ∧ t.pending = s.pending

/-- What reset leaves (R5, R11, R13, R18, R35, R157, R318): START, step 1, no tick, epoch 0 and rank 0, no session, every domain
OFF, the module's identification, transfers not running, trigger and time unit at rest; and the invariant holds. That
State.reset is a module as it leaves the factory is the model's choice (log entry 3). -/
def Obligations.ResetIsAsTheSpecSays : Prop :=
  Inv State.reset ∧ State.reset.mode = stStart ∧ State.reset.fld F.PWR_STATUS.START_STEP = 1 ∧
  State.reset.ticking = false ∧ State.reset.tick = 0 ∧ State.reset.epoch = 0 ∧ State.reset.rank = 0 ∧
  State.reset.reg A.SYS_ID = 0x96004C53 ∧ State.reset.acquired = false ∧ State.reset.pending = [] ∧
  (∀ k, k < 16 → sessState State.reset k = 0) ∧ (∀ d, d < 96 → State.reset.dom d = 0) ∧
  (∀ c, c < 32 → chState State.reset c = chIdle) ∧ State.reset.tampered = false ∧
  loaderState State.reset = ldIdle ∧ State.reset.image = none

/-- The invariant that every step keeps, from every state and whatever stands in the queue: registers and memory stay in
their canonical forms, so that equal contents are equal data, and the queues of the recorder (R313) and of the sessions (R203)
within their 64 and 8 places. -/
def Obligations.StepKeepsInv : Prop :=
 ∀ s t : State, Inv s → step s = .next t → Inv t

/-- The addressed memories change only by the commands that the spec lets write them (R51, R59, R73, R76, R170, R228, R234, R243, R324):
after every other command every byte reads as before; an Aidon instruction that stores nothing is one of these where no
upset struck, since a mismatch gives back what its segment wrote. -/
def Obligations.MemoryChangesOnlyByWriters : Prop :=
  ∀ (c : Instr) (s t : State),
    (mayWriteMemory c = false ∨
      ∃ j up, aidonStoresNothing c = some (j, up) ∧ ∀ k, currentTask s j = some k → MembersAgree s j k up) →
    exec c s = .next t → ∀ a, byteAt t.mem a = byteAt s.mem a

/-- The recorder is never erased (R313, R314, R316): no command takes a record out of either half of its flash or changes
one; what a command adds stands before what was there. -/
def Obligations.RecorderOnlyGrows : Prop :=
  ∀ (c : Instr) (s t : State), exec c s = .next t →
    (∃ xs, t.recorder.halfA = xs ++ s.recorder.halfA) ∧ ∃ xs, t.recorder.halfB = xs ++ s.recorder.halfB

/-- Active guard regions change at a guard set apply or a reset and by nothing else (R241, R242, R324): after any command
the active regions are those of before, unless it is GUARD_SET_APPLY, or they are all off as a reset leaves them. -/
def Obligations.GuardsChangeOnlyByApply : Prop :=
  ∀ (c : Instr) (s t : State), c ≠ .guardSetApply → exec c s = .next t → t.guards = s.guards ∨ t.guards = []
end

