-- ==== Sys2Proof/Laws/Sparse.lean ====
section
/-! SUPPORT. Laws of the sparse maps: a read after a write, and the canonical form that every operation keeps. -/

namespace Sys2Proof.Machine

variable {α : Type}

/-- Below every key a map reads as unlisted. -/
theorem Sparse.get_above_le (d : Nat → α) (k a : Nat) (h : a ≤ k) :
    ∀ m : List (Nat × α), Sparse.get d (Sparse.above k m) a = d a
  | [] => rfl
  | (j, v) :: m => by
    unfold Sparse.above
    split
    · exact Sparse.get_above_le d k a h m
    · rename_i hj
      have h1 : j ≠ a := by omega
      have h2 : a < j := by omega
      simp [Sparse.get, h1, h2]

/-- Above `k`, dropping the entries up to `k` changes nothing. -/
theorem Sparse.get_above_gt (d : Nat → α) (k a : Nat) (h : k < a) :
    ∀ m : List (Nat × α), Sparse.get d (Sparse.above k m) a = Sparse.get d m a
  | [] => rfl
  | (j, v) :: m => by
    unfold Sparse.above
    split
    · rename_i hj
      have h1 : j ≠ a := by omega
      have h2 : ¬ a < j := by omega
      simp [Sparse.get, h1, h2, Sparse.get_above_gt d k a h m]
    · rfl

variable [DecidableEq α]

/-- A read after a write at the same key gives the value written. -/
@[simp] theorem Sparse.get_set_same (d : Nat → α) (k : Nat) (v : α) :
    ∀ m : List (Nat × α), Sparse.get d (Sparse.set d m k v) k = v
  | [] => by
    unfold Sparse.set; split <;> simp_all [Sparse.get]
  | (j, w) :: m => by
    unfold Sparse.set
    split
    · rename_i hk
      have h1 : j ≠ k := by omega
      split <;> simp_all [Sparse.get]
    · split
      · split
        · rename_i hv; rw [Sparse.get_above_le d k k (Nat.le_refl k)]; exact hv.symm
        · simp [Sparse.get]
      · rename_i hk hj
        have h1 : j ≠ k := by omega
        simp [Sparse.get, h1, hk, Sparse.get_set_same d k v m]

/-- A write leaves every other key alone. -/
theorem Sparse.get_set_other (d : Nat → α) (k a : Nat) (v : α) (h : a ≠ k) :
    ∀ m : List (Nat × α), Sparse.get d (Sparse.set d m k v) a = Sparse.get d m a
  | [] => by
    have h' : k ≠ a := Ne.symm h
    unfold Sparse.set; split <;> simp [Sparse.get, h']
  | (j, w) :: m => by
    have h' : k ≠ a := Ne.symm h
    unfold Sparse.set
    split
    · rename_i hk
      split
      · rfl
      · simp only [Sparse.get, if_neg h']
        split
        · have h1 : j ≠ a := by omega
          have h2 : a < j := by omega
          simp [h1, h2]
        · rfl
    · split
      · rename_i hj; subst hj
        split
        · by_cases hlt : a < k
          · rw [Sparse.get_above_le d k a (by omega)]
            simp [Sparse.get, h', hlt]
          · rw [Sparse.get_above_gt d k a (by omega)]
            simp [Sparse.get, h', hlt]
        · simp only [Sparse.get, if_neg h']
      · simp only [Sparse.get, Sparse.get_set_other d k a v h m]

/-- A write read back at any key. -/
theorem Sparse.get_set (d : Nat → α) (k a : Nat) (v : α) (m : List (Nat × α)) :
    Sparse.get d (Sparse.set d m k v) a = if a = k then v else Sparse.get d m a := by
  by_cases h : a = k
  · subst h; simp
  · simp [h, Sparse.get_set_other d k a v h m]

/-- The canonical form from a higher key holds from a lower one. -/
theorem Sparse.wfFrom_mono (d : Nat → α) {lo lo' : Nat} (hl : lo' ≤ lo) :
    ∀ {m : List (Nat × α)}, Sparse.wfFrom d lo m = true → Sparse.wfFrom d lo' m = true
  | [], _ => rfl
  | (k, v) :: m, h => by
    simp only [Sparse.wfFrom, Bool.and_eq_true, decide_eq_true_eq] at h ⊢
    exact ⟨⟨by omega, h.1.2⟩, h.2⟩

/-- Dropping the entries up to `k` of a canonical list leaves one from `k + 1` on. -/
theorem Sparse.wfFrom_above (d : Nat → α) (k : Nat) :
    ∀ {lo : Nat} {m : List (Nat × α)}, Sparse.wfFrom d lo m = true →
      Sparse.wfFrom d (k + 1) (Sparse.above k m) = true
  | _, [], _ => rfl
  | lo, (j, v) :: m, h => by
    simp only [Sparse.wfFrom, Bool.and_eq_true, decide_eq_true_eq] at h
    unfold Sparse.above
    split
    · exact Sparse.wfFrom_above d k h.2
    · simp only [Sparse.wfFrom, Bool.and_eq_true, decide_eq_true_eq]
      exact ⟨⟨by omega, h.1.2⟩, h.2⟩

/-- A write keeps the canonical form. -/
theorem Sparse.wfFrom_set (d : Nat → α) (k : Nat) (v : α) :
    ∀ {lo : Nat} {m : List (Nat × α)}, lo ≤ k → Sparse.wfFrom d lo m = true →
      Sparse.wfFrom d lo (Sparse.set d m k v) = true
  | lo, [], hl, _ => by
    unfold Sparse.set; split
    · rfl
    · rename_i hv; simp [Sparse.wfFrom, hl, hv]
  | lo, (j, w) :: m, hl, h => by
    have h0 := h
    simp only [Sparse.wfFrom, Bool.and_eq_true, decide_eq_true_eq] at h
    unfold Sparse.set
    split
    · rename_i hk
      split
      · exact h0
      · rename_i hv
        simp only [Sparse.wfFrom, Bool.and_eq_true, decide_eq_true_eq]
        exact ⟨⟨hl, hv⟩, ⟨by omega, h.1.2⟩, h.2⟩
    · split
      · rename_i hj; subst hj
        split
        · exact Sparse.wfFrom_mono d (by omega) (Sparse.wfFrom_above d k h.2)
        · rename_i hv
          simp only [Sparse.wfFrom, Bool.and_eq_true, decide_eq_true_eq]
          exact ⟨⟨hl, hv⟩, h.2⟩
      · rename_i hk hj
        simp only [Sparse.wfFrom, Bool.and_eq_true, decide_eq_true_eq]
        exact ⟨h.1, Sparse.wfFrom_set d k v (by omega) h.2⟩

/-- A write keeps the canonical form of a whole map. -/
theorem Sparse.wf_set (d : Nat → α) (m : List (Nat × α)) (k : Nat) (v : α) (h : Sparse.wf d m = true) :
    Sparse.wf d (Sparse.set d m k v) = true :=
  Sparse.wfFrom_set d k v (Nat.zero_le k) h

/-- Keeping some of the entries keeps the canonical form. -/
theorem Sparse.wfFrom_filter (d : Nat → α) (p : Nat × α → Bool) :
    ∀ {lo : Nat} {m : List (Nat × α)}, Sparse.wfFrom d lo m = true → Sparse.wfFrom d lo (m.filter p) = true
  | _, [], _ => rfl
  | lo, (k, v) :: m, h => by
    simp only [Sparse.wfFrom, Bool.and_eq_true, decide_eq_true_eq] at h
    have ih := Sparse.wfFrom_filter d p h.2
    unfold List.filter
    split
    · simp only [Sparse.wfFrom, Bool.and_eq_true, decide_eq_true_eq]; exact ⟨h.1, ih⟩
    · exact Sparse.wfFrom_mono d (by omega) ih

/-- Keeping some of the entries keeps the canonical form of a whole map. -/
theorem Sparse.wf_filter (d : Nat → α) (p : Nat × α → Bool) (m : List (Nat × α)) (h : Sparse.wf d m = true) :
    Sparse.wf d (m.filter p) = true :=
  Sparse.wfFrom_filter d p h

end Sys2Proof.Machine
end

