-- ==== Sys2Proof/Laws/State.lean ====
section
/-! SUPPORT. What each update of the state leaves as it was, field by field, and what the tables read after a write.
Each law is true by unfolding one record update; none of them needs a case split. -/

namespace Sys2Proof.Machine

open Sys2Proof

variable (s : State)

/-- `setReg` leaves every field but regs. -/
@[simp] theorem State.setReg_fields (k : Nat) (v : Word) :
    (s.setReg k v).latches = s.latches ∧ (s.setReg k v).mem = s.mem ∧ (s.setReg k v).bad = s.bad ∧
    (s.setReg k v).inImg = s.inImg ∧ (s.setReg k v).outImg = s.outImg ∧ (s.setReg k v).localOwn = s.localOwn ∧
    (s.setReg k v).committed = s.committed ∧ (s.setReg k v).committedPrev = s.committedPrev ∧
    (s.setReg k v).tasks = s.tasks ∧ (s.setReg k v).classes = s.classes ∧ (s.setReg k v).cores = s.cores ∧
    (s.setReg k v).check = s.check ∧ (s.setReg k v).masters = s.masters ∧ (s.setReg k v).axes = s.axes ∧
    (s.setReg k v).image = s.image ∧ (s.setReg k v).loader = s.loader ∧ (s.setReg k v).bank0 = s.bank0 ∧
    (s.setReg k v).bank1 = s.bank1 ∧ (s.setReg k v).activeRec = s.activeRec ∧ (s.setReg k v).opnum = s.opnum ∧
    (s.setReg k v).recorder = s.recorder ∧ (s.setReg k v).journal = s.journal ∧ (s.setReg k v).sessCtr = s.sessCtr ∧
    (s.setReg k v).sessions = s.sessions ∧ (s.setReg k v).probeAt = s.probeAt ∧ (s.setReg k v).nacks = s.nacks ∧
    (s.setReg k v).svcFrames = s.svcFrames ∧ (s.setReg k v).pair = s.pair ∧ (s.setReg k v).resync = s.resync ∧
    (s.setReg k v).time = s.time ∧ (s.setReg k v).rings = s.rings ∧ (s.setReg k v).guards = s.guards ∧
    (s.setReg k v).guardDue = s.guardDue ∧ (s.setReg k v).xfer = s.xfer ∧ (s.setReg k v).ana = s.ana ∧
    (s.setReg k v).modems = s.modems ∧ (s.setReg k v).conv = s.conv ∧ (s.setReg k v).trim = s.trim ∧
    (s.setReg k v).dio = s.dio ∧ (s.setReg k v).can = s.can ∧ (s.setReg k v).ser = s.ser ∧
    (s.setReg k v).retained = s.retained ∧ (s.setReg k v).retDirty = s.retDirty ∧ (s.setReg k v).footA = s.footA ∧
    (s.setReg k v).footB = s.footB ∧ (s.setReg k v).retSnap = s.retSnap ∧ (s.setReg k v).acts = s.acts ∧
    (s.setReg k v).actNext = s.actNext ∧ (s.setReg k v).power = s.power ∧ (s.setReg k v).skerry = s.skerry ∧
    (s.setReg k v).panel = s.panel ∧ (s.setReg k v).outbox = s.outbox ∧ (s.setReg k v).pending = s.pending :=
  by and_intros <;> rfl

/-- What reads as before after `setReg`. -/
@[simp] theorem State.setReg_reads (k : Nat) (v : Word) :
    (∀ a, (s.setReg k v).task a = s.task a) ∧ (∀ a, (s.setReg k v).cls a = s.cls a) ∧
    (∀ a, (s.setReg k v).core a = s.core a) ∧ (∀ a, (s.setReg k v).master a = s.master a) ∧
    (∀ a, (s.setReg k v).axis a = s.axis a) ∧ (∀ a, (s.setReg k v).sess a = s.sess a) ∧
    (∀ a, (s.setReg k v).ring a = s.ring a) ∧ (∀ a, (s.setReg k v).chan a = s.chan a) ∧
    (∀ a, (s.setReg k v).region a = s.region a) ∧ (∀ a, (s.setReg k v).anaCh a = s.anaCh a) ∧
    (∀ a, (s.setReg k v).modem a = s.modem a) ∧ (∀ a, (s.setReg k v).grp a = s.grp a) ∧
    (∀ a, (s.setReg k v).canBus a = s.canBus a) ∧ (∀ a, (s.setReg k v).serLine a = s.serLine a) ∧
    (∀ a, (s.setReg k v).inSlot a = s.inSlot a) ∧ (∀ a, (s.setReg k v).outSlot a = s.outSlot a) ∧
    (∀ a, (s.setReg k v).isBad a = s.isBad a) :=
  by and_intros <;> first | rfl | exact fun _ => rfl

/-- `setFld` leaves every field but regs. -/
@[simp] theorem State.setFld_fields (f : Fld) (v : Nat) :
    (s.setFld f v).latches = s.latches ∧ (s.setFld f v).mem = s.mem ∧ (s.setFld f v).bad = s.bad ∧
    (s.setFld f v).inImg = s.inImg ∧ (s.setFld f v).outImg = s.outImg ∧ (s.setFld f v).localOwn = s.localOwn ∧
    (s.setFld f v).committed = s.committed ∧ (s.setFld f v).committedPrev = s.committedPrev ∧
    (s.setFld f v).tasks = s.tasks ∧ (s.setFld f v).classes = s.classes ∧ (s.setFld f v).cores = s.cores ∧
    (s.setFld f v).check = s.check ∧ (s.setFld f v).masters = s.masters ∧ (s.setFld f v).axes = s.axes ∧
    (s.setFld f v).image = s.image ∧ (s.setFld f v).loader = s.loader ∧ (s.setFld f v).bank0 = s.bank0 ∧
    (s.setFld f v).bank1 = s.bank1 ∧ (s.setFld f v).activeRec = s.activeRec ∧ (s.setFld f v).opnum = s.opnum ∧
    (s.setFld f v).recorder = s.recorder ∧ (s.setFld f v).journal = s.journal ∧ (s.setFld f v).sessCtr = s.sessCtr ∧
    (s.setFld f v).sessions = s.sessions ∧ (s.setFld f v).probeAt = s.probeAt ∧ (s.setFld f v).nacks = s.nacks ∧
    (s.setFld f v).svcFrames = s.svcFrames ∧ (s.setFld f v).pair = s.pair ∧ (s.setFld f v).resync = s.resync ∧
    (s.setFld f v).time = s.time ∧ (s.setFld f v).rings = s.rings ∧ (s.setFld f v).guards = s.guards ∧
    (s.setFld f v).guardDue = s.guardDue ∧ (s.setFld f v).xfer = s.xfer ∧ (s.setFld f v).ana = s.ana ∧
    (s.setFld f v).modems = s.modems ∧ (s.setFld f v).conv = s.conv ∧ (s.setFld f v).trim = s.trim ∧
    (s.setFld f v).dio = s.dio ∧ (s.setFld f v).can = s.can ∧ (s.setFld f v).ser = s.ser ∧
    (s.setFld f v).retained = s.retained ∧ (s.setFld f v).retDirty = s.retDirty ∧ (s.setFld f v).footA = s.footA ∧
    (s.setFld f v).footB = s.footB ∧ (s.setFld f v).retSnap = s.retSnap ∧ (s.setFld f v).acts = s.acts ∧
    (s.setFld f v).actNext = s.actNext ∧ (s.setFld f v).power = s.power ∧ (s.setFld f v).skerry = s.skerry ∧
    (s.setFld f v).panel = s.panel ∧ (s.setFld f v).outbox = s.outbox ∧ (s.setFld f v).pending = s.pending :=
  by and_intros <;> rfl

/-- What reads as before after `setFld`. -/
@[simp] theorem State.setFld_reads (f : Fld) (v : Nat) :
    (∀ a, (s.setFld f v).task a = s.task a) ∧ (∀ a, (s.setFld f v).cls a = s.cls a) ∧
    (∀ a, (s.setFld f v).core a = s.core a) ∧ (∀ a, (s.setFld f v).master a = s.master a) ∧
    (∀ a, (s.setFld f v).axis a = s.axis a) ∧ (∀ a, (s.setFld f v).sess a = s.sess a) ∧
    (∀ a, (s.setFld f v).ring a = s.ring a) ∧ (∀ a, (s.setFld f v).chan a = s.chan a) ∧
    (∀ a, (s.setFld f v).region a = s.region a) ∧ (∀ a, (s.setFld f v).anaCh a = s.anaCh a) ∧
    (∀ a, (s.setFld f v).modem a = s.modem a) ∧ (∀ a, (s.setFld f v).grp a = s.grp a) ∧
    (∀ a, (s.setFld f v).canBus a = s.canBus a) ∧ (∀ a, (s.setFld f v).serLine a = s.serLine a) ∧
    (∀ a, (s.setFld f v).inSlot a = s.inSlot a) ∧ (∀ a, (s.setFld f v).outSlot a = s.outSlot a) ∧
    (∀ a, (s.setFld f v).isBad a = s.isBad a) :=
  by and_intros <;> first | rfl | exact fun _ => rfl

/-- `setFlag` leaves every field but regs. -/
@[simp] theorem State.setFlag_fields (f : Fld) (b : Bool) :
    (s.setFlag f b).latches = s.latches ∧ (s.setFlag f b).mem = s.mem ∧ (s.setFlag f b).bad = s.bad ∧
    (s.setFlag f b).inImg = s.inImg ∧ (s.setFlag f b).outImg = s.outImg ∧ (s.setFlag f b).localOwn = s.localOwn ∧
    (s.setFlag f b).committed = s.committed ∧ (s.setFlag f b).committedPrev = s.committedPrev ∧
    (s.setFlag f b).tasks = s.tasks ∧ (s.setFlag f b).classes = s.classes ∧ (s.setFlag f b).cores = s.cores ∧
    (s.setFlag f b).check = s.check ∧ (s.setFlag f b).masters = s.masters ∧ (s.setFlag f b).axes = s.axes ∧
    (s.setFlag f b).image = s.image ∧ (s.setFlag f b).loader = s.loader ∧ (s.setFlag f b).bank0 = s.bank0 ∧
    (s.setFlag f b).bank1 = s.bank1 ∧ (s.setFlag f b).activeRec = s.activeRec ∧ (s.setFlag f b).opnum = s.opnum ∧
    (s.setFlag f b).recorder = s.recorder ∧ (s.setFlag f b).journal = s.journal ∧
    (s.setFlag f b).sessCtr = s.sessCtr ∧ (s.setFlag f b).sessions = s.sessions ∧
    (s.setFlag f b).probeAt = s.probeAt ∧ (s.setFlag f b).nacks = s.nacks ∧ (s.setFlag f b).svcFrames = s.svcFrames ∧
    (s.setFlag f b).pair = s.pair ∧ (s.setFlag f b).resync = s.resync ∧ (s.setFlag f b).time = s.time ∧
    (s.setFlag f b).rings = s.rings ∧ (s.setFlag f b).guards = s.guards ∧ (s.setFlag f b).guardDue = s.guardDue ∧
    (s.setFlag f b).xfer = s.xfer ∧ (s.setFlag f b).ana = s.ana ∧ (s.setFlag f b).modems = s.modems ∧
    (s.setFlag f b).conv = s.conv ∧ (s.setFlag f b).trim = s.trim ∧ (s.setFlag f b).dio = s.dio ∧
    (s.setFlag f b).can = s.can ∧ (s.setFlag f b).ser = s.ser ∧ (s.setFlag f b).retained = s.retained ∧
    (s.setFlag f b).retDirty = s.retDirty ∧ (s.setFlag f b).footA = s.footA ∧ (s.setFlag f b).footB = s.footB ∧
    (s.setFlag f b).retSnap = s.retSnap ∧ (s.setFlag f b).acts = s.acts ∧ (s.setFlag f b).actNext = s.actNext ∧
    (s.setFlag f b).power = s.power ∧ (s.setFlag f b).skerry = s.skerry ∧ (s.setFlag f b).panel = s.panel ∧
    (s.setFlag f b).outbox = s.outbox ∧ (s.setFlag f b).pending = s.pending :=
  by and_intros <;> rfl

/-- What reads as before after `setFlag`. -/
@[simp] theorem State.setFlag_reads (f : Fld) (b : Bool) :
    (∀ a, (s.setFlag f b).task a = s.task a) ∧ (∀ a, (s.setFlag f b).cls a = s.cls a) ∧
    (∀ a, (s.setFlag f b).core a = s.core a) ∧ (∀ a, (s.setFlag f b).master a = s.master a) ∧
    (∀ a, (s.setFlag f b).axis a = s.axis a) ∧ (∀ a, (s.setFlag f b).sess a = s.sess a) ∧
    (∀ a, (s.setFlag f b).ring a = s.ring a) ∧ (∀ a, (s.setFlag f b).chan a = s.chan a) ∧
    (∀ a, (s.setFlag f b).region a = s.region a) ∧ (∀ a, (s.setFlag f b).anaCh a = s.anaCh a) ∧
    (∀ a, (s.setFlag f b).modem a = s.modem a) ∧ (∀ a, (s.setFlag f b).grp a = s.grp a) ∧
    (∀ a, (s.setFlag f b).canBus a = s.canBus a) ∧ (∀ a, (s.setFlag f b).serLine a = s.serLine a) ∧
    (∀ a, (s.setFlag f b).inSlot a = s.inSlot a) ∧ (∀ a, (s.setFlag f b).outSlot a = s.outSlot a) ∧
    (∀ a, (s.setFlag f b).isBad a = s.isBad a) :=
  by and_intros <;> first | rfl | exact fun _ => rfl

/-- `note` leaves every field but regs. -/
@[simp] theorem State.note_fields (f : Fld) :
    (s.note f).latches = s.latches ∧ (s.note f).mem = s.mem ∧ (s.note f).bad = s.bad ∧ (s.note f).inImg = s.inImg ∧
    (s.note f).outImg = s.outImg ∧ (s.note f).localOwn = s.localOwn ∧ (s.note f).committed = s.committed ∧
    (s.note f).committedPrev = s.committedPrev ∧ (s.note f).tasks = s.tasks ∧ (s.note f).classes = s.classes ∧
    (s.note f).cores = s.cores ∧ (s.note f).check = s.check ∧ (s.note f).masters = s.masters ∧
    (s.note f).axes = s.axes ∧ (s.note f).image = s.image ∧ (s.note f).loader = s.loader ∧
    (s.note f).bank0 = s.bank0 ∧ (s.note f).bank1 = s.bank1 ∧ (s.note f).activeRec = s.activeRec ∧
    (s.note f).opnum = s.opnum ∧ (s.note f).recorder = s.recorder ∧ (s.note f).journal = s.journal ∧
    (s.note f).sessCtr = s.sessCtr ∧ (s.note f).sessions = s.sessions ∧ (s.note f).probeAt = s.probeAt ∧
    (s.note f).nacks = s.nacks ∧ (s.note f).svcFrames = s.svcFrames ∧ (s.note f).pair = s.pair ∧
    (s.note f).resync = s.resync ∧ (s.note f).time = s.time ∧ (s.note f).rings = s.rings ∧
    (s.note f).guards = s.guards ∧ (s.note f).guardDue = s.guardDue ∧ (s.note f).xfer = s.xfer ∧
    (s.note f).ana = s.ana ∧ (s.note f).modems = s.modems ∧ (s.note f).conv = s.conv ∧ (s.note f).trim = s.trim ∧
    (s.note f).dio = s.dio ∧ (s.note f).can = s.can ∧ (s.note f).ser = s.ser ∧ (s.note f).retained = s.retained ∧
    (s.note f).retDirty = s.retDirty ∧ (s.note f).footA = s.footA ∧ (s.note f).footB = s.footB ∧
    (s.note f).retSnap = s.retSnap ∧ (s.note f).acts = s.acts ∧ (s.note f).actNext = s.actNext ∧
    (s.note f).power = s.power ∧ (s.note f).skerry = s.skerry ∧ (s.note f).panel = s.panel ∧
    (s.note f).outbox = s.outbox ∧ (s.note f).pending = s.pending :=
  by and_intros <;> rfl

/-- What reads as before after `note`. -/
@[simp] theorem State.note_reads (f : Fld) :
    (∀ a, (s.note f).task a = s.task a) ∧ (∀ a, (s.note f).cls a = s.cls a) ∧ (∀ a, (s.note f).core a = s.core a) ∧
    (∀ a, (s.note f).master a = s.master a) ∧ (∀ a, (s.note f).axis a = s.axis a) ∧
    (∀ a, (s.note f).sess a = s.sess a) ∧ (∀ a, (s.note f).ring a = s.ring a) ∧ (∀ a, (s.note f).chan a = s.chan a) ∧
    (∀ a, (s.note f).region a = s.region a) ∧ (∀ a, (s.note f).anaCh a = s.anaCh a) ∧
    (∀ a, (s.note f).modem a = s.modem a) ∧ (∀ a, (s.note f).grp a = s.grp a) ∧
    (∀ a, (s.note f).canBus a = s.canBus a) ∧ (∀ a, (s.note f).serLine a = s.serLine a) ∧
    (∀ a, (s.note f).inSlot a = s.inSlot a) ∧ (∀ a, (s.note f).outSlot a = s.outSlot a) ∧
    (∀ a, (s.note f).isBad a = s.isBad a) :=
  by and_intros <;> first | rfl | exact fun _ => rfl

/-- `count` leaves every field but regs. -/
@[simp] theorem State.count_fields (f : Fld) (n : Nat) :
    (s.count f n).latches = s.latches ∧ (s.count f n).mem = s.mem ∧ (s.count f n).bad = s.bad ∧
    (s.count f n).inImg = s.inImg ∧ (s.count f n).outImg = s.outImg ∧ (s.count f n).localOwn = s.localOwn ∧
    (s.count f n).committed = s.committed ∧ (s.count f n).committedPrev = s.committedPrev ∧
    (s.count f n).tasks = s.tasks ∧ (s.count f n).classes = s.classes ∧ (s.count f n).cores = s.cores ∧
    (s.count f n).check = s.check ∧ (s.count f n).masters = s.masters ∧ (s.count f n).axes = s.axes ∧
    (s.count f n).image = s.image ∧ (s.count f n).loader = s.loader ∧ (s.count f n).bank0 = s.bank0 ∧
    (s.count f n).bank1 = s.bank1 ∧ (s.count f n).activeRec = s.activeRec ∧ (s.count f n).opnum = s.opnum ∧
    (s.count f n).recorder = s.recorder ∧ (s.count f n).journal = s.journal ∧ (s.count f n).sessCtr = s.sessCtr ∧
    (s.count f n).sessions = s.sessions ∧ (s.count f n).probeAt = s.probeAt ∧ (s.count f n).nacks = s.nacks ∧
    (s.count f n).svcFrames = s.svcFrames ∧ (s.count f n).pair = s.pair ∧ (s.count f n).resync = s.resync ∧
    (s.count f n).time = s.time ∧ (s.count f n).rings = s.rings ∧ (s.count f n).guards = s.guards ∧
    (s.count f n).guardDue = s.guardDue ∧ (s.count f n).xfer = s.xfer ∧ (s.count f n).ana = s.ana ∧
    (s.count f n).modems = s.modems ∧ (s.count f n).conv = s.conv ∧ (s.count f n).trim = s.trim ∧
    (s.count f n).dio = s.dio ∧ (s.count f n).can = s.can ∧ (s.count f n).ser = s.ser ∧
    (s.count f n).retained = s.retained ∧ (s.count f n).retDirty = s.retDirty ∧ (s.count f n).footA = s.footA ∧
    (s.count f n).footB = s.footB ∧ (s.count f n).retSnap = s.retSnap ∧ (s.count f n).acts = s.acts ∧
    (s.count f n).actNext = s.actNext ∧ (s.count f n).power = s.power ∧ (s.count f n).skerry = s.skerry ∧
    (s.count f n).panel = s.panel ∧ (s.count f n).outbox = s.outbox ∧ (s.count f n).pending = s.pending :=
  by and_intros <;> rfl

/-- What reads as before after `count`. -/
@[simp] theorem State.count_reads (f : Fld) (n : Nat) :
    (∀ a, (s.count f n).task a = s.task a) ∧ (∀ a, (s.count f n).cls a = s.cls a) ∧
    (∀ a, (s.count f n).core a = s.core a) ∧ (∀ a, (s.count f n).master a = s.master a) ∧
    (∀ a, (s.count f n).axis a = s.axis a) ∧ (∀ a, (s.count f n).sess a = s.sess a) ∧
    (∀ a, (s.count f n).ring a = s.ring a) ∧ (∀ a, (s.count f n).chan a = s.chan a) ∧
    (∀ a, (s.count f n).region a = s.region a) ∧ (∀ a, (s.count f n).anaCh a = s.anaCh a) ∧
    (∀ a, (s.count f n).modem a = s.modem a) ∧ (∀ a, (s.count f n).grp a = s.grp a) ∧
    (∀ a, (s.count f n).canBus a = s.canBus a) ∧ (∀ a, (s.count f n).serLine a = s.serLine a) ∧
    (∀ a, (s.count f n).inSlot a = s.inSlot a) ∧ (∀ a, (s.count f n).outSlot a = s.outSlot a) ∧
    (∀ a, (s.count f n).isBad a = s.isBad a) :=
  by and_intros <;> first | rfl | exact fun _ => rfl

/-- `setDword` leaves every field but regs. -/
@[simp] theorem State.setDword_fields (k : Nat) (v : DWord) :
    (s.setDword k v).latches = s.latches ∧ (s.setDword k v).mem = s.mem ∧ (s.setDword k v).bad = s.bad ∧
    (s.setDword k v).inImg = s.inImg ∧ (s.setDword k v).outImg = s.outImg ∧ (s.setDword k v).localOwn = s.localOwn ∧
    (s.setDword k v).committed = s.committed ∧ (s.setDword k v).committedPrev = s.committedPrev ∧
    (s.setDword k v).tasks = s.tasks ∧ (s.setDword k v).classes = s.classes ∧ (s.setDword k v).cores = s.cores ∧
    (s.setDword k v).check = s.check ∧ (s.setDword k v).masters = s.masters ∧ (s.setDword k v).axes = s.axes ∧
    (s.setDword k v).image = s.image ∧ (s.setDword k v).loader = s.loader ∧ (s.setDword k v).bank0 = s.bank0 ∧
    (s.setDword k v).bank1 = s.bank1 ∧ (s.setDword k v).activeRec = s.activeRec ∧ (s.setDword k v).opnum = s.opnum ∧
    (s.setDword k v).recorder = s.recorder ∧ (s.setDword k v).journal = s.journal ∧
    (s.setDword k v).sessCtr = s.sessCtr ∧ (s.setDword k v).sessions = s.sessions ∧
    (s.setDword k v).probeAt = s.probeAt ∧ (s.setDword k v).nacks = s.nacks ∧
    (s.setDword k v).svcFrames = s.svcFrames ∧ (s.setDword k v).pair = s.pair ∧ (s.setDword k v).resync = s.resync ∧
    (s.setDword k v).time = s.time ∧ (s.setDword k v).rings = s.rings ∧ (s.setDword k v).guards = s.guards ∧
    (s.setDword k v).guardDue = s.guardDue ∧ (s.setDword k v).xfer = s.xfer ∧ (s.setDword k v).ana = s.ana ∧
    (s.setDword k v).modems = s.modems ∧ (s.setDword k v).conv = s.conv ∧ (s.setDword k v).trim = s.trim ∧
    (s.setDword k v).dio = s.dio ∧ (s.setDword k v).can = s.can ∧ (s.setDword k v).ser = s.ser ∧
    (s.setDword k v).retained = s.retained ∧ (s.setDword k v).retDirty = s.retDirty ∧
    (s.setDword k v).footA = s.footA ∧ (s.setDword k v).footB = s.footB ∧ (s.setDword k v).retSnap = s.retSnap ∧
    (s.setDword k v).acts = s.acts ∧ (s.setDword k v).actNext = s.actNext ∧ (s.setDword k v).power = s.power ∧
    (s.setDword k v).skerry = s.skerry ∧ (s.setDword k v).panel = s.panel ∧ (s.setDword k v).outbox = s.outbox ∧
    (s.setDword k v).pending = s.pending :=
  by and_intros <;> rfl

/-- What reads as before after `setDword`. -/
@[simp] theorem State.setDword_reads (k : Nat) (v : DWord) :
    (∀ a, (s.setDword k v).task a = s.task a) ∧ (∀ a, (s.setDword k v).cls a = s.cls a) ∧
    (∀ a, (s.setDword k v).core a = s.core a) ∧ (∀ a, (s.setDword k v).master a = s.master a) ∧
    (∀ a, (s.setDword k v).axis a = s.axis a) ∧ (∀ a, (s.setDword k v).sess a = s.sess a) ∧
    (∀ a, (s.setDword k v).ring a = s.ring a) ∧ (∀ a, (s.setDword k v).chan a = s.chan a) ∧
    (∀ a, (s.setDword k v).region a = s.region a) ∧ (∀ a, (s.setDword k v).anaCh a = s.anaCh a) ∧
    (∀ a, (s.setDword k v).modem a = s.modem a) ∧ (∀ a, (s.setDword k v).grp a = s.grp a) ∧
    (∀ a, (s.setDword k v).canBus a = s.canBus a) ∧ (∀ a, (s.setDword k v).serLine a = s.serLine a) ∧
    (∀ a, (s.setDword k v).inSlot a = s.inSlot a) ∧ (∀ a, (s.setDword k v).outSlot a = s.outSlot a) ∧
    (∀ a, (s.setDword k v).isBad a = s.isBad a) :=
  by and_intros <;> first | rfl | exact fun _ => rfl

/-- `setNow` leaves every field but regs. -/
@[simp] theorem State.setNow_fields (v : DWord) (n : Nat) :
    (s.setNow v n).latches = s.latches ∧ (s.setNow v n).mem = s.mem ∧ (s.setNow v n).bad = s.bad ∧
    (s.setNow v n).inImg = s.inImg ∧ (s.setNow v n).outImg = s.outImg ∧ (s.setNow v n).localOwn = s.localOwn ∧
    (s.setNow v n).committed = s.committed ∧ (s.setNow v n).committedPrev = s.committedPrev ∧
    (s.setNow v n).tasks = s.tasks ∧ (s.setNow v n).classes = s.classes ∧ (s.setNow v n).cores = s.cores ∧
    (s.setNow v n).check = s.check ∧ (s.setNow v n).masters = s.masters ∧ (s.setNow v n).axes = s.axes ∧
    (s.setNow v n).image = s.image ∧ (s.setNow v n).loader = s.loader ∧ (s.setNow v n).bank0 = s.bank0 ∧
    (s.setNow v n).bank1 = s.bank1 ∧ (s.setNow v n).activeRec = s.activeRec ∧ (s.setNow v n).opnum = s.opnum ∧
    (s.setNow v n).recorder = s.recorder ∧ (s.setNow v n).journal = s.journal ∧ (s.setNow v n).sessCtr = s.sessCtr ∧
    (s.setNow v n).sessions = s.sessions ∧ (s.setNow v n).probeAt = s.probeAt ∧ (s.setNow v n).nacks = s.nacks ∧
    (s.setNow v n).svcFrames = s.svcFrames ∧ (s.setNow v n).pair = s.pair ∧ (s.setNow v n).resync = s.resync ∧
    (s.setNow v n).time = s.time ∧ (s.setNow v n).rings = s.rings ∧ (s.setNow v n).guards = s.guards ∧
    (s.setNow v n).guardDue = s.guardDue ∧ (s.setNow v n).xfer = s.xfer ∧ (s.setNow v n).ana = s.ana ∧
    (s.setNow v n).modems = s.modems ∧ (s.setNow v n).conv = s.conv ∧ (s.setNow v n).trim = s.trim ∧
    (s.setNow v n).dio = s.dio ∧ (s.setNow v n).can = s.can ∧ (s.setNow v n).ser = s.ser ∧
    (s.setNow v n).retained = s.retained ∧ (s.setNow v n).retDirty = s.retDirty ∧ (s.setNow v n).footA = s.footA ∧
    (s.setNow v n).footB = s.footB ∧ (s.setNow v n).retSnap = s.retSnap ∧ (s.setNow v n).acts = s.acts ∧
    (s.setNow v n).actNext = s.actNext ∧ (s.setNow v n).power = s.power ∧ (s.setNow v n).skerry = s.skerry ∧
    (s.setNow v n).panel = s.panel ∧ (s.setNow v n).outbox = s.outbox ∧ (s.setNow v n).pending = s.pending :=
  by and_intros <;> rfl

/-- What reads as before after `setNow`. -/
@[simp] theorem State.setNow_reads (v : DWord) (n : Nat) :
    (∀ a, (s.setNow v n).task a = s.task a) ∧ (∀ a, (s.setNow v n).cls a = s.cls a) ∧
    (∀ a, (s.setNow v n).core a = s.core a) ∧ (∀ a, (s.setNow v n).master a = s.master a) ∧
    (∀ a, (s.setNow v n).axis a = s.axis a) ∧ (∀ a, (s.setNow v n).sess a = s.sess a) ∧
    (∀ a, (s.setNow v n).ring a = s.ring a) ∧ (∀ a, (s.setNow v n).chan a = s.chan a) ∧
    (∀ a, (s.setNow v n).region a = s.region a) ∧ (∀ a, (s.setNow v n).anaCh a = s.anaCh a) ∧
    (∀ a, (s.setNow v n).modem a = s.modem a) ∧ (∀ a, (s.setNow v n).grp a = s.grp a) ∧
    (∀ a, (s.setNow v n).canBus a = s.canBus a) ∧ (∀ a, (s.setNow v n).serLine a = s.serLine a) ∧
    (∀ a, (s.setNow v n).inSlot a = s.inSlot a) ∧ (∀ a, (s.setNow v n).outSlot a = s.outSlot a) ∧
    (∀ a, (s.setNow v n).isBad a = s.isBad a) :=
  by and_intros <;> first | rfl | exact fun _ => rfl

/-- `at` leaves every field but regs. -/
@[simp] theorem State.at_fields (n : Nat) :
    (s.at n).latches = s.latches ∧ (s.at n).mem = s.mem ∧ (s.at n).bad = s.bad ∧ (s.at n).inImg = s.inImg ∧
    (s.at n).outImg = s.outImg ∧ (s.at n).localOwn = s.localOwn ∧ (s.at n).committed = s.committed ∧
    (s.at n).committedPrev = s.committedPrev ∧ (s.at n).tasks = s.tasks ∧ (s.at n).classes = s.classes ∧
    (s.at n).cores = s.cores ∧ (s.at n).check = s.check ∧ (s.at n).masters = s.masters ∧ (s.at n).axes = s.axes ∧
    (s.at n).image = s.image ∧ (s.at n).loader = s.loader ∧ (s.at n).bank0 = s.bank0 ∧ (s.at n).bank1 = s.bank1 ∧
    (s.at n).activeRec = s.activeRec ∧ (s.at n).opnum = s.opnum ∧ (s.at n).recorder = s.recorder ∧
    (s.at n).journal = s.journal ∧ (s.at n).sessCtr = s.sessCtr ∧ (s.at n).sessions = s.sessions ∧
    (s.at n).probeAt = s.probeAt ∧ (s.at n).nacks = s.nacks ∧ (s.at n).svcFrames = s.svcFrames ∧
    (s.at n).pair = s.pair ∧ (s.at n).resync = s.resync ∧ (s.at n).time = s.time ∧ (s.at n).rings = s.rings ∧
    (s.at n).guards = s.guards ∧ (s.at n).guardDue = s.guardDue ∧ (s.at n).xfer = s.xfer ∧ (s.at n).ana = s.ana ∧
    (s.at n).modems = s.modems ∧ (s.at n).conv = s.conv ∧ (s.at n).trim = s.trim ∧ (s.at n).dio = s.dio ∧
    (s.at n).can = s.can ∧ (s.at n).ser = s.ser ∧ (s.at n).retained = s.retained ∧ (s.at n).retDirty = s.retDirty ∧
    (s.at n).footA = s.footA ∧ (s.at n).footB = s.footB ∧ (s.at n).retSnap = s.retSnap ∧ (s.at n).acts = s.acts ∧
    (s.at n).actNext = s.actNext ∧ (s.at n).power = s.power ∧ (s.at n).skerry = s.skerry ∧ (s.at n).panel = s.panel ∧
    (s.at n).outbox = s.outbox ∧ (s.at n).pending = s.pending :=
  by and_intros <;> rfl

/-- What reads as before after `at`. -/
@[simp] theorem State.at_reads (n : Nat) :
    (∀ a, (s.at n).task a = s.task a) ∧ (∀ a, (s.at n).cls a = s.cls a) ∧ (∀ a, (s.at n).core a = s.core a) ∧
    (∀ a, (s.at n).master a = s.master a) ∧ (∀ a, (s.at n).axis a = s.axis a) ∧ (∀ a, (s.at n).sess a = s.sess a) ∧
    (∀ a, (s.at n).ring a = s.ring a) ∧ (∀ a, (s.at n).chan a = s.chan a) ∧ (∀ a, (s.at n).region a = s.region a) ∧
    (∀ a, (s.at n).anaCh a = s.anaCh a) ∧ (∀ a, (s.at n).modem a = s.modem a) ∧ (∀ a, (s.at n).grp a = s.grp a) ∧
    (∀ a, (s.at n).canBus a = s.canBus a) ∧ (∀ a, (s.at n).serLine a = s.serLine a) ∧
    (∀ a, (s.at n).inSlot a = s.inSlot a) ∧ (∀ a, (s.at n).outSlot a = s.outSlot a) ∧
    (∀ a, (s.at n).isBad a = s.isBad a) :=
  by and_intros <;> first | rfl | exact fun _ => rfl

/-- `window` leaves every field but regs. -/
@[simp] theorem State.window_fields (n : Nat) :
    (s.window n).latches = s.latches ∧ (s.window n).mem = s.mem ∧ (s.window n).bad = s.bad ∧
    (s.window n).inImg = s.inImg ∧ (s.window n).outImg = s.outImg ∧ (s.window n).localOwn = s.localOwn ∧
    (s.window n).committed = s.committed ∧ (s.window n).committedPrev = s.committedPrev ∧
    (s.window n).tasks = s.tasks ∧ (s.window n).classes = s.classes ∧ (s.window n).cores = s.cores ∧
    (s.window n).check = s.check ∧ (s.window n).masters = s.masters ∧ (s.window n).axes = s.axes ∧
    (s.window n).image = s.image ∧ (s.window n).loader = s.loader ∧ (s.window n).bank0 = s.bank0 ∧
    (s.window n).bank1 = s.bank1 ∧ (s.window n).activeRec = s.activeRec ∧ (s.window n).opnum = s.opnum ∧
    (s.window n).recorder = s.recorder ∧ (s.window n).journal = s.journal ∧ (s.window n).sessCtr = s.sessCtr ∧
    (s.window n).sessions = s.sessions ∧ (s.window n).probeAt = s.probeAt ∧ (s.window n).nacks = s.nacks ∧
    (s.window n).svcFrames = s.svcFrames ∧ (s.window n).pair = s.pair ∧ (s.window n).resync = s.resync ∧
    (s.window n).time = s.time ∧ (s.window n).rings = s.rings ∧ (s.window n).guards = s.guards ∧
    (s.window n).guardDue = s.guardDue ∧ (s.window n).xfer = s.xfer ∧ (s.window n).ana = s.ana ∧
    (s.window n).modems = s.modems ∧ (s.window n).conv = s.conv ∧ (s.window n).trim = s.trim ∧
    (s.window n).dio = s.dio ∧ (s.window n).can = s.can ∧ (s.window n).ser = s.ser ∧
    (s.window n).retained = s.retained ∧ (s.window n).retDirty = s.retDirty ∧ (s.window n).footA = s.footA ∧
    (s.window n).footB = s.footB ∧ (s.window n).retSnap = s.retSnap ∧ (s.window n).acts = s.acts ∧
    (s.window n).actNext = s.actNext ∧ (s.window n).power = s.power ∧ (s.window n).skerry = s.skerry ∧
    (s.window n).panel = s.panel ∧ (s.window n).outbox = s.outbox ∧ (s.window n).pending = s.pending :=
  by and_intros <;> rfl

/-- What reads as before after `window`. -/
@[simp] theorem State.window_reads (n : Nat) :
    (∀ a, (s.window n).task a = s.task a) ∧ (∀ a, (s.window n).cls a = s.cls a) ∧
    (∀ a, (s.window n).core a = s.core a) ∧ (∀ a, (s.window n).master a = s.master a) ∧
    (∀ a, (s.window n).axis a = s.axis a) ∧ (∀ a, (s.window n).sess a = s.sess a) ∧
    (∀ a, (s.window n).ring a = s.ring a) ∧ (∀ a, (s.window n).chan a = s.chan a) ∧
    (∀ a, (s.window n).region a = s.region a) ∧ (∀ a, (s.window n).anaCh a = s.anaCh a) ∧
    (∀ a, (s.window n).modem a = s.modem a) ∧ (∀ a, (s.window n).grp a = s.grp a) ∧
    (∀ a, (s.window n).canBus a = s.canBus a) ∧ (∀ a, (s.window n).serLine a = s.serLine a) ∧
    (∀ a, (s.window n).inSlot a = s.inSlot a) ∧ (∀ a, (s.window n).outSlot a = s.outSlot a) ∧
    (∀ a, (s.window n).isBad a = s.isBad a) :=
  by and_intros <;> first | rfl | exact fun _ => rfl

/-- `setDom` leaves every field but regs. -/
@[simp] theorem State.setDom_fields (d v : Nat) :
    (s.setDom d v).latches = s.latches ∧ (s.setDom d v).mem = s.mem ∧ (s.setDom d v).bad = s.bad ∧
    (s.setDom d v).inImg = s.inImg ∧ (s.setDom d v).outImg = s.outImg ∧ (s.setDom d v).localOwn = s.localOwn ∧
    (s.setDom d v).committed = s.committed ∧ (s.setDom d v).committedPrev = s.committedPrev ∧
    (s.setDom d v).tasks = s.tasks ∧ (s.setDom d v).classes = s.classes ∧ (s.setDom d v).cores = s.cores ∧
    (s.setDom d v).check = s.check ∧ (s.setDom d v).masters = s.masters ∧ (s.setDom d v).axes = s.axes ∧
    (s.setDom d v).image = s.image ∧ (s.setDom d v).loader = s.loader ∧ (s.setDom d v).bank0 = s.bank0 ∧
    (s.setDom d v).bank1 = s.bank1 ∧ (s.setDom d v).activeRec = s.activeRec ∧ (s.setDom d v).opnum = s.opnum ∧
    (s.setDom d v).recorder = s.recorder ∧ (s.setDom d v).journal = s.journal ∧ (s.setDom d v).sessCtr = s.sessCtr ∧
    (s.setDom d v).sessions = s.sessions ∧ (s.setDom d v).probeAt = s.probeAt ∧ (s.setDom d v).nacks = s.nacks ∧
    (s.setDom d v).svcFrames = s.svcFrames ∧ (s.setDom d v).pair = s.pair ∧ (s.setDom d v).resync = s.resync ∧
    (s.setDom d v).time = s.time ∧ (s.setDom d v).rings = s.rings ∧ (s.setDom d v).guards = s.guards ∧
    (s.setDom d v).guardDue = s.guardDue ∧ (s.setDom d v).xfer = s.xfer ∧ (s.setDom d v).ana = s.ana ∧
    (s.setDom d v).modems = s.modems ∧ (s.setDom d v).conv = s.conv ∧ (s.setDom d v).trim = s.trim ∧
    (s.setDom d v).dio = s.dio ∧ (s.setDom d v).can = s.can ∧ (s.setDom d v).ser = s.ser ∧
    (s.setDom d v).retained = s.retained ∧ (s.setDom d v).retDirty = s.retDirty ∧ (s.setDom d v).footA = s.footA ∧
    (s.setDom d v).footB = s.footB ∧ (s.setDom d v).retSnap = s.retSnap ∧ (s.setDom d v).acts = s.acts ∧
    (s.setDom d v).actNext = s.actNext ∧ (s.setDom d v).power = s.power ∧ (s.setDom d v).skerry = s.skerry ∧
    (s.setDom d v).panel = s.panel ∧ (s.setDom d v).outbox = s.outbox ∧ (s.setDom d v).pending = s.pending :=
  by and_intros <;> rfl

/-- What reads as before after `setDom`. -/
@[simp] theorem State.setDom_reads (d v : Nat) :
    (∀ a, (s.setDom d v).task a = s.task a) ∧ (∀ a, (s.setDom d v).cls a = s.cls a) ∧
    (∀ a, (s.setDom d v).core a = s.core a) ∧ (∀ a, (s.setDom d v).master a = s.master a) ∧
    (∀ a, (s.setDom d v).axis a = s.axis a) ∧ (∀ a, (s.setDom d v).sess a = s.sess a) ∧
    (∀ a, (s.setDom d v).ring a = s.ring a) ∧ (∀ a, (s.setDom d v).chan a = s.chan a) ∧
    (∀ a, (s.setDom d v).region a = s.region a) ∧ (∀ a, (s.setDom d v).anaCh a = s.anaCh a) ∧
    (∀ a, (s.setDom d v).modem a = s.modem a) ∧ (∀ a, (s.setDom d v).grp a = s.grp a) ∧
    (∀ a, (s.setDom d v).canBus a = s.canBus a) ∧ (∀ a, (s.setDom d v).serLine a = s.serLine a) ∧
    (∀ a, (s.setDom d v).inSlot a = s.inSlot a) ∧ (∀ a, (s.setDom d v).outSlot a = s.outSlot a) ∧
    (∀ a, (s.setDom d v).isBad a = s.isBad a) :=
  by and_intros <;> first | rfl | exact fun _ => rfl

/-- `latch` leaves every field but latches. -/
@[simp] theorem State.latch_fields (r : Requester) (k : Nat) (v : Word) :
    (s.latch r k v).regs = s.regs ∧ (s.latch r k v).mem = s.mem ∧ (s.latch r k v).bad = s.bad ∧
    (s.latch r k v).inImg = s.inImg ∧ (s.latch r k v).outImg = s.outImg ∧ (s.latch r k v).localOwn = s.localOwn ∧
    (s.latch r k v).committed = s.committed ∧ (s.latch r k v).committedPrev = s.committedPrev ∧
    (s.latch r k v).tasks = s.tasks ∧ (s.latch r k v).classes = s.classes ∧ (s.latch r k v).cores = s.cores ∧
    (s.latch r k v).check = s.check ∧ (s.latch r k v).masters = s.masters ∧ (s.latch r k v).axes = s.axes ∧
    (s.latch r k v).image = s.image ∧ (s.latch r k v).loader = s.loader ∧ (s.latch r k v).bank0 = s.bank0 ∧
    (s.latch r k v).bank1 = s.bank1 ∧ (s.latch r k v).activeRec = s.activeRec ∧ (s.latch r k v).opnum = s.opnum ∧
    (s.latch r k v).recorder = s.recorder ∧ (s.latch r k v).journal = s.journal ∧
    (s.latch r k v).sessCtr = s.sessCtr ∧ (s.latch r k v).sessions = s.sessions ∧
    (s.latch r k v).probeAt = s.probeAt ∧ (s.latch r k v).nacks = s.nacks ∧ (s.latch r k v).svcFrames = s.svcFrames ∧
    (s.latch r k v).pair = s.pair ∧ (s.latch r k v).resync = s.resync ∧ (s.latch r k v).time = s.time ∧
    (s.latch r k v).rings = s.rings ∧ (s.latch r k v).guards = s.guards ∧ (s.latch r k v).guardDue = s.guardDue ∧
    (s.latch r k v).xfer = s.xfer ∧ (s.latch r k v).ana = s.ana ∧ (s.latch r k v).modems = s.modems ∧
    (s.latch r k v).conv = s.conv ∧ (s.latch r k v).trim = s.trim ∧ (s.latch r k v).dio = s.dio ∧
    (s.latch r k v).can = s.can ∧ (s.latch r k v).ser = s.ser ∧ (s.latch r k v).retained = s.retained ∧
    (s.latch r k v).retDirty = s.retDirty ∧ (s.latch r k v).footA = s.footA ∧ (s.latch r k v).footB = s.footB ∧
    (s.latch r k v).retSnap = s.retSnap ∧ (s.latch r k v).acts = s.acts ∧ (s.latch r k v).actNext = s.actNext ∧
    (s.latch r k v).power = s.power ∧ (s.latch r k v).skerry = s.skerry ∧ (s.latch r k v).panel = s.panel ∧
    (s.latch r k v).outbox = s.outbox ∧ (s.latch r k v).pending = s.pending :=
  by and_intros <;> rfl

/-- What reads as before after `latch`. -/
@[simp] theorem State.latch_reads (r : Requester) (k : Nat) (v : Word) :
    (∀ a, (s.latch r k v).reg a = s.reg a) ∧ (∀ a, (s.latch r k v).fld a = s.fld a) ∧
    (∀ a, (s.latch r k v).flag a = s.flag a) ∧ (∀ a, (s.latch r k v).dword a = s.dword a) ∧
    (s.latch r k v).tick = s.tick ∧ (s.latch r k v).now = s.now ∧ (s.latch r k v).mode = s.mode ∧
    (∀ a, (s.latch r k v).dom a = s.dom a) ∧ (s.latch r k v).coreMode = s.coreMode ∧
    (∀ a, (s.latch r k v).task a = s.task a) ∧ (∀ a, (s.latch r k v).cls a = s.cls a) ∧
    (∀ a, (s.latch r k v).core a = s.core a) ∧ (∀ a, (s.latch r k v).master a = s.master a) ∧
    (∀ a, (s.latch r k v).axis a = s.axis a) ∧ (∀ a, (s.latch r k v).sess a = s.sess a) ∧
    (∀ a, (s.latch r k v).ring a = s.ring a) ∧ (∀ a, (s.latch r k v).chan a = s.chan a) ∧
    (∀ a, (s.latch r k v).region a = s.region a) ∧ (∀ a, (s.latch r k v).anaCh a = s.anaCh a) ∧
    (∀ a, (s.latch r k v).modem a = s.modem a) ∧ (∀ a, (s.latch r k v).grp a = s.grp a) ∧
    (∀ a, (s.latch r k v).canBus a = s.canBus a) ∧ (∀ a, (s.latch r k v).serLine a = s.serLine a) ∧
    (∀ a, (s.latch r k v).inSlot a = s.inSlot a) ∧ (∀ a, (s.latch r k v).outSlot a = s.outSlot a) ∧
    (∀ a, (s.latch r k v).isBad a = s.isBad a) ∧ (s.latch r k v).holds = s.holds ∧
    (s.latch r k v).running = s.running ∧ (s.latch r k v).epoch = s.epoch ∧ (s.latch r k v).ticking = s.ticking :=
  by and_intros <;> first | rfl | exact fun _ => rfl

/-- `raiseAt` leaves every field but recorder. -/
@[simp] theorem State.raiseAt_fields (tk : DWord) (c d e : Nat) (det : List Byte) :
    (s.raiseAt tk c d e det).regs = s.regs ∧ (s.raiseAt tk c d e det).latches = s.latches ∧
    (s.raiseAt tk c d e det).mem = s.mem ∧ (s.raiseAt tk c d e det).bad = s.bad ∧
    (s.raiseAt tk c d e det).inImg = s.inImg ∧ (s.raiseAt tk c d e det).outImg = s.outImg ∧
    (s.raiseAt tk c d e det).localOwn = s.localOwn ∧ (s.raiseAt tk c d e det).committed = s.committed ∧
    (s.raiseAt tk c d e det).committedPrev = s.committedPrev ∧ (s.raiseAt tk c d e det).tasks = s.tasks ∧
    (s.raiseAt tk c d e det).classes = s.classes ∧ (s.raiseAt tk c d e det).cores = s.cores ∧
    (s.raiseAt tk c d e det).check = s.check ∧ (s.raiseAt tk c d e det).masters = s.masters ∧
    (s.raiseAt tk c d e det).axes = s.axes ∧ (s.raiseAt tk c d e det).image = s.image ∧
    (s.raiseAt tk c d e det).loader = s.loader ∧ (s.raiseAt tk c d e det).bank0 = s.bank0 ∧
    (s.raiseAt tk c d e det).bank1 = s.bank1 ∧ (s.raiseAt tk c d e det).activeRec = s.activeRec ∧
    (s.raiseAt tk c d e det).opnum = s.opnum ∧ (s.raiseAt tk c d e det).journal = s.journal ∧
    (s.raiseAt tk c d e det).sessCtr = s.sessCtr ∧ (s.raiseAt tk c d e det).sessions = s.sessions ∧
    (s.raiseAt tk c d e det).probeAt = s.probeAt ∧ (s.raiseAt tk c d e det).nacks = s.nacks ∧
    (s.raiseAt tk c d e det).svcFrames = s.svcFrames ∧ (s.raiseAt tk c d e det).pair = s.pair ∧
    (s.raiseAt tk c d e det).resync = s.resync ∧ (s.raiseAt tk c d e det).time = s.time ∧
    (s.raiseAt tk c d e det).rings = s.rings ∧ (s.raiseAt tk c d e det).guards = s.guards ∧
    (s.raiseAt tk c d e det).guardDue = s.guardDue ∧ (s.raiseAt tk c d e det).xfer = s.xfer ∧
    (s.raiseAt tk c d e det).ana = s.ana ∧ (s.raiseAt tk c d e det).modems = s.modems ∧
    (s.raiseAt tk c d e det).conv = s.conv ∧ (s.raiseAt tk c d e det).trim = s.trim ∧
    (s.raiseAt tk c d e det).dio = s.dio ∧ (s.raiseAt tk c d e det).can = s.can ∧
    (s.raiseAt tk c d e det).ser = s.ser ∧ (s.raiseAt tk c d e det).retained = s.retained ∧
    (s.raiseAt tk c d e det).retDirty = s.retDirty ∧ (s.raiseAt tk c d e det).footA = s.footA ∧
    (s.raiseAt tk c d e det).footB = s.footB ∧ (s.raiseAt tk c d e det).retSnap = s.retSnap ∧
    (s.raiseAt tk c d e det).acts = s.acts ∧ (s.raiseAt tk c d e det).actNext = s.actNext ∧
    (s.raiseAt tk c d e det).power = s.power ∧ (s.raiseAt tk c d e det).skerry = s.skerry ∧
    (s.raiseAt tk c d e det).panel = s.panel ∧ (s.raiseAt tk c d e det).outbox = s.outbox ∧
    (s.raiseAt tk c d e det).pending = s.pending :=
  by and_intros <;> rfl

/-- What reads as before after `raiseAt`. -/
@[simp] theorem State.raiseAt_reads (tk : DWord) (c d e : Nat) (det : List Byte) :
    (∀ a, (s.raiseAt tk c d e det).reg a = s.reg a) ∧ (∀ a, (s.raiseAt tk c d e det).fld a = s.fld a) ∧
    (∀ a, (s.raiseAt tk c d e det).flag a = s.flag a) ∧ (∀ a, (s.raiseAt tk c d e det).dword a = s.dword a) ∧
    (s.raiseAt tk c d e det).tick = s.tick ∧ (s.raiseAt tk c d e det).now = s.now ∧
    (s.raiseAt tk c d e det).mode = s.mode ∧ (∀ a, (s.raiseAt tk c d e det).dom a = s.dom a) ∧
    (s.raiseAt tk c d e det).coreMode = s.coreMode ∧ (∀ a, (s.raiseAt tk c d e det).task a = s.task a) ∧
    (∀ a, (s.raiseAt tk c d e det).cls a = s.cls a) ∧ (∀ a, (s.raiseAt tk c d e det).core a = s.core a) ∧
    (∀ a, (s.raiseAt tk c d e det).master a = s.master a) ∧ (∀ a, (s.raiseAt tk c d e det).axis a = s.axis a) ∧
    (∀ a, (s.raiseAt tk c d e det).sess a = s.sess a) ∧ (∀ a, (s.raiseAt tk c d e det).ring a = s.ring a) ∧
    (∀ a, (s.raiseAt tk c d e det).chan a = s.chan a) ∧ (∀ a, (s.raiseAt tk c d e det).region a = s.region a) ∧
    (∀ a, (s.raiseAt tk c d e det).anaCh a = s.anaCh a) ∧ (∀ a, (s.raiseAt tk c d e det).modem a = s.modem a) ∧
    (∀ a, (s.raiseAt tk c d e det).grp a = s.grp a) ∧ (∀ a, (s.raiseAt tk c d e det).canBus a = s.canBus a) ∧
    (∀ a, (s.raiseAt tk c d e det).serLine a = s.serLine a) ∧ (∀ a, (s.raiseAt tk c d e det).inSlot a = s.inSlot a) ∧
    (∀ a, (s.raiseAt tk c d e det).outSlot a = s.outSlot a) ∧ (∀ a, (s.raiseAt tk c d e det).isBad a = s.isBad a) ∧
    (s.raiseAt tk c d e det).holds = s.holds ∧ (s.raiseAt tk c d e det).running = s.running ∧
    (s.raiseAt tk c d e det).epoch = s.epoch ∧ (s.raiseAt tk c d e det).ticking = s.ticking :=
  by and_intros <;> first | rfl | exact fun _ => rfl

/-- `raise` leaves every field but recorder. -/
@[simp] theorem State.raise_fields (c d e : Nat) (det : List Byte) :
    (s.raise c d e det).regs = s.regs ∧ (s.raise c d e det).latches = s.latches ∧ (s.raise c d e det).mem = s.mem ∧
    (s.raise c d e det).bad = s.bad ∧ (s.raise c d e det).inImg = s.inImg ∧ (s.raise c d e det).outImg = s.outImg ∧
    (s.raise c d e det).localOwn = s.localOwn ∧ (s.raise c d e det).committed = s.committed ∧
    (s.raise c d e det).committedPrev = s.committedPrev ∧ (s.raise c d e det).tasks = s.tasks ∧
    (s.raise c d e det).classes = s.classes ∧ (s.raise c d e det).cores = s.cores ∧
    (s.raise c d e det).check = s.check ∧ (s.raise c d e det).masters = s.masters ∧
    (s.raise c d e det).axes = s.axes ∧ (s.raise c d e det).image = s.image ∧ (s.raise c d e det).loader = s.loader ∧
    (s.raise c d e det).bank0 = s.bank0 ∧ (s.raise c d e det).bank1 = s.bank1 ∧
    (s.raise c d e det).activeRec = s.activeRec ∧ (s.raise c d e det).opnum = s.opnum ∧
    (s.raise c d e det).journal = s.journal ∧ (s.raise c d e det).sessCtr = s.sessCtr ∧
    (s.raise c d e det).sessions = s.sessions ∧ (s.raise c d e det).probeAt = s.probeAt ∧
    (s.raise c d e det).nacks = s.nacks ∧ (s.raise c d e det).svcFrames = s.svcFrames ∧
    (s.raise c d e det).pair = s.pair ∧ (s.raise c d e det).resync = s.resync ∧ (s.raise c d e det).time = s.time ∧
    (s.raise c d e det).rings = s.rings ∧ (s.raise c d e det).guards = s.guards ∧
    (s.raise c d e det).guardDue = s.guardDue ∧ (s.raise c d e det).xfer = s.xfer ∧ (s.raise c d e det).ana = s.ana ∧
    (s.raise c d e det).modems = s.modems ∧ (s.raise c d e det).conv = s.conv ∧ (s.raise c d e det).trim = s.trim ∧
    (s.raise c d e det).dio = s.dio ∧ (s.raise c d e det).can = s.can ∧ (s.raise c d e det).ser = s.ser ∧
    (s.raise c d e det).retained = s.retained ∧ (s.raise c d e det).retDirty = s.retDirty ∧
    (s.raise c d e det).footA = s.footA ∧ (s.raise c d e det).footB = s.footB ∧
    (s.raise c d e det).retSnap = s.retSnap ∧ (s.raise c d e det).acts = s.acts ∧
    (s.raise c d e det).actNext = s.actNext ∧ (s.raise c d e det).power = s.power ∧
    (s.raise c d e det).skerry = s.skerry ∧ (s.raise c d e det).panel = s.panel ∧
    (s.raise c d e det).outbox = s.outbox ∧ (s.raise c d e det).pending = s.pending :=
  by and_intros <;> rfl

/-- What reads as before after `raise`. -/
@[simp] theorem State.raise_reads (c d e : Nat) (det : List Byte) :
    (∀ a, (s.raise c d e det).reg a = s.reg a) ∧ (∀ a, (s.raise c d e det).fld a = s.fld a) ∧
    (∀ a, (s.raise c d e det).flag a = s.flag a) ∧ (∀ a, (s.raise c d e det).dword a = s.dword a) ∧
    (s.raise c d e det).tick = s.tick ∧ (s.raise c d e det).now = s.now ∧ (s.raise c d e det).mode = s.mode ∧
    (∀ a, (s.raise c d e det).dom a = s.dom a) ∧ (s.raise c d e det).coreMode = s.coreMode ∧
    (∀ a, (s.raise c d e det).task a = s.task a) ∧ (∀ a, (s.raise c d e det).cls a = s.cls a) ∧
    (∀ a, (s.raise c d e det).core a = s.core a) ∧ (∀ a, (s.raise c d e det).master a = s.master a) ∧
    (∀ a, (s.raise c d e det).axis a = s.axis a) ∧ (∀ a, (s.raise c d e det).sess a = s.sess a) ∧
    (∀ a, (s.raise c d e det).ring a = s.ring a) ∧ (∀ a, (s.raise c d e det).chan a = s.chan a) ∧
    (∀ a, (s.raise c d e det).region a = s.region a) ∧ (∀ a, (s.raise c d e det).anaCh a = s.anaCh a) ∧
    (∀ a, (s.raise c d e det).modem a = s.modem a) ∧ (∀ a, (s.raise c d e det).grp a = s.grp a) ∧
    (∀ a, (s.raise c d e det).canBus a = s.canBus a) ∧ (∀ a, (s.raise c d e det).serLine a = s.serLine a) ∧
    (∀ a, (s.raise c d e det).inSlot a = s.inSlot a) ∧ (∀ a, (s.raise c d e det).outSlot a = s.outSlot a) ∧
    (∀ a, (s.raise c d e det).isBad a = s.isBad a) ∧ (s.raise c d e det).holds = s.holds ∧
    (s.raise c d e det).running = s.running ∧ (s.raise c d e det).epoch = s.epoch ∧
    (s.raise c d e det).ticking = s.ticking :=
  by and_intros <;> first | rfl | exact fun _ => rfl

/-- `emit` leaves every field but outbox. -/
@[simp] theorem State.emit_fields (o : Out) :
    (s.emit o).regs = s.regs ∧ (s.emit o).latches = s.latches ∧ (s.emit o).mem = s.mem ∧ (s.emit o).bad = s.bad ∧
    (s.emit o).inImg = s.inImg ∧ (s.emit o).outImg = s.outImg ∧ (s.emit o).localOwn = s.localOwn ∧
    (s.emit o).committed = s.committed ∧ (s.emit o).committedPrev = s.committedPrev ∧ (s.emit o).tasks = s.tasks ∧
    (s.emit o).classes = s.classes ∧ (s.emit o).cores = s.cores ∧ (s.emit o).check = s.check ∧
    (s.emit o).masters = s.masters ∧ (s.emit o).axes = s.axes ∧ (s.emit o).image = s.image ∧
    (s.emit o).loader = s.loader ∧ (s.emit o).bank0 = s.bank0 ∧ (s.emit o).bank1 = s.bank1 ∧
    (s.emit o).activeRec = s.activeRec ∧ (s.emit o).opnum = s.opnum ∧ (s.emit o).recorder = s.recorder ∧
    (s.emit o).journal = s.journal ∧ (s.emit o).sessCtr = s.sessCtr ∧ (s.emit o).sessions = s.sessions ∧
    (s.emit o).probeAt = s.probeAt ∧ (s.emit o).nacks = s.nacks ∧ (s.emit o).svcFrames = s.svcFrames ∧
    (s.emit o).pair = s.pair ∧ (s.emit o).resync = s.resync ∧ (s.emit o).time = s.time ∧ (s.emit o).rings = s.rings ∧
    (s.emit o).guards = s.guards ∧ (s.emit o).guardDue = s.guardDue ∧ (s.emit o).xfer = s.xfer ∧
    (s.emit o).ana = s.ana ∧ (s.emit o).modems = s.modems ∧ (s.emit o).conv = s.conv ∧ (s.emit o).trim = s.trim ∧
    (s.emit o).dio = s.dio ∧ (s.emit o).can = s.can ∧ (s.emit o).ser = s.ser ∧ (s.emit o).retained = s.retained ∧
    (s.emit o).retDirty = s.retDirty ∧ (s.emit o).footA = s.footA ∧ (s.emit o).footB = s.footB ∧
    (s.emit o).retSnap = s.retSnap ∧ (s.emit o).acts = s.acts ∧ (s.emit o).actNext = s.actNext ∧
    (s.emit o).power = s.power ∧ (s.emit o).skerry = s.skerry ∧ (s.emit o).panel = s.panel ∧
    (s.emit o).pending = s.pending :=
  by and_intros <;> rfl

/-- What reads as before after `emit`. -/
@[simp] theorem State.emit_reads (o : Out) :
    (∀ a, (s.emit o).reg a = s.reg a) ∧ (∀ a, (s.emit o).fld a = s.fld a) ∧ (∀ a, (s.emit o).flag a = s.flag a) ∧
    (∀ a, (s.emit o).dword a = s.dword a) ∧ (s.emit o).tick = s.tick ∧ (s.emit o).now = s.now ∧
    (s.emit o).mode = s.mode ∧ (∀ a, (s.emit o).dom a = s.dom a) ∧ (s.emit o).coreMode = s.coreMode ∧
    (∀ a, (s.emit o).task a = s.task a) ∧ (∀ a, (s.emit o).cls a = s.cls a) ∧ (∀ a, (s.emit o).core a = s.core a) ∧
    (∀ a, (s.emit o).master a = s.master a) ∧ (∀ a, (s.emit o).axis a = s.axis a) ∧
    (∀ a, (s.emit o).sess a = s.sess a) ∧ (∀ a, (s.emit o).ring a = s.ring a) ∧ (∀ a, (s.emit o).chan a = s.chan a) ∧
    (∀ a, (s.emit o).region a = s.region a) ∧ (∀ a, (s.emit o).anaCh a = s.anaCh a) ∧
    (∀ a, (s.emit o).modem a = s.modem a) ∧ (∀ a, (s.emit o).grp a = s.grp a) ∧
    (∀ a, (s.emit o).canBus a = s.canBus a) ∧ (∀ a, (s.emit o).serLine a = s.serLine a) ∧
    (∀ a, (s.emit o).inSlot a = s.inSlot a) ∧ (∀ a, (s.emit o).outSlot a = s.outSlot a) ∧
    (∀ a, (s.emit o).isBad a = s.isBad a) ∧ (s.emit o).holds = s.holds ∧ (s.emit o).running = s.running ∧
    (s.emit o).epoch = s.epoch ∧ (s.emit o).ticking = s.ticking :=
  by and_intros <;> first | rfl | exact fun _ => rfl

/-- `sendNet` leaves every field but outbox, regs. -/
@[simp] theorem State.sendNet_fields (p : Nat) (o : Out) :
    (s.sendNet p o).latches = s.latches ∧ (s.sendNet p o).mem = s.mem ∧ (s.sendNet p o).bad = s.bad ∧
    (s.sendNet p o).inImg = s.inImg ∧ (s.sendNet p o).outImg = s.outImg ∧ (s.sendNet p o).localOwn = s.localOwn ∧
    (s.sendNet p o).committed = s.committed ∧ (s.sendNet p o).committedPrev = s.committedPrev ∧
    (s.sendNet p o).tasks = s.tasks ∧ (s.sendNet p o).classes = s.classes ∧ (s.sendNet p o).cores = s.cores ∧
    (s.sendNet p o).check = s.check ∧ (s.sendNet p o).masters = s.masters ∧ (s.sendNet p o).axes = s.axes ∧
    (s.sendNet p o).image = s.image ∧ (s.sendNet p o).loader = s.loader ∧ (s.sendNet p o).bank0 = s.bank0 ∧
    (s.sendNet p o).bank1 = s.bank1 ∧ (s.sendNet p o).activeRec = s.activeRec ∧ (s.sendNet p o).opnum = s.opnum ∧
    (s.sendNet p o).recorder = s.recorder ∧ (s.sendNet p o).journal = s.journal ∧
    (s.sendNet p o).sessCtr = s.sessCtr ∧ (s.sendNet p o).sessions = s.sessions ∧
    (s.sendNet p o).probeAt = s.probeAt ∧ (s.sendNet p o).nacks = s.nacks ∧ (s.sendNet p o).svcFrames = s.svcFrames ∧
    (s.sendNet p o).pair = s.pair ∧ (s.sendNet p o).resync = s.resync ∧ (s.sendNet p o).time = s.time ∧
    (s.sendNet p o).rings = s.rings ∧ (s.sendNet p o).guards = s.guards ∧ (s.sendNet p o).guardDue = s.guardDue ∧
    (s.sendNet p o).xfer = s.xfer ∧ (s.sendNet p o).ana = s.ana ∧ (s.sendNet p o).modems = s.modems ∧
    (s.sendNet p o).conv = s.conv ∧ (s.sendNet p o).trim = s.trim ∧ (s.sendNet p o).dio = s.dio ∧
    (s.sendNet p o).can = s.can ∧ (s.sendNet p o).ser = s.ser ∧ (s.sendNet p o).retained = s.retained ∧
    (s.sendNet p o).retDirty = s.retDirty ∧ (s.sendNet p o).footA = s.footA ∧ (s.sendNet p o).footB = s.footB ∧
    (s.sendNet p o).retSnap = s.retSnap ∧ (s.sendNet p o).acts = s.acts ∧ (s.sendNet p o).actNext = s.actNext ∧
    (s.sendNet p o).power = s.power ∧ (s.sendNet p o).skerry = s.skerry ∧ (s.sendNet p o).panel = s.panel ∧
    (s.sendNet p o).pending = s.pending :=
  by and_intros <;> rfl

/-- What reads as before after `sendNet`. -/
@[simp] theorem State.sendNet_reads (p : Nat) (o : Out) :
    (∀ a, (s.sendNet p o).task a = s.task a) ∧ (∀ a, (s.sendNet p o).cls a = s.cls a) ∧
    (∀ a, (s.sendNet p o).core a = s.core a) ∧ (∀ a, (s.sendNet p o).master a = s.master a) ∧
    (∀ a, (s.sendNet p o).axis a = s.axis a) ∧ (∀ a, (s.sendNet p o).sess a = s.sess a) ∧
    (∀ a, (s.sendNet p o).ring a = s.ring a) ∧ (∀ a, (s.sendNet p o).chan a = s.chan a) ∧
    (∀ a, (s.sendNet p o).region a = s.region a) ∧ (∀ a, (s.sendNet p o).anaCh a = s.anaCh a) ∧
    (∀ a, (s.sendNet p o).modem a = s.modem a) ∧ (∀ a, (s.sendNet p o).grp a = s.grp a) ∧
    (∀ a, (s.sendNet p o).canBus a = s.canBus a) ∧ (∀ a, (s.sendNet p o).serLine a = s.serLine a) ∧
    (∀ a, (s.sendNet p o).inSlot a = s.inSlot a) ∧ (∀ a, (s.sendNet p o).outSlot a = s.outSlot a) ∧
    (∀ a, (s.sendNet p o).isBad a = s.isBad a) :=
  by and_intros <;> first | rfl | exact fun _ => rfl

/-- `become` leaves every field but regs, recorder. -/
@[simp] theorem State.become_fields (n c : Nat) :
    (s.become n c).latches = s.latches ∧ (s.become n c).mem = s.mem ∧ (s.become n c).bad = s.bad ∧
    (s.become n c).inImg = s.inImg ∧ (s.become n c).outImg = s.outImg ∧ (s.become n c).localOwn = s.localOwn ∧
    (s.become n c).committed = s.committed ∧ (s.become n c).committedPrev = s.committedPrev ∧
    (s.become n c).tasks = s.tasks ∧ (s.become n c).classes = s.classes ∧ (s.become n c).cores = s.cores ∧
    (s.become n c).check = s.check ∧ (s.become n c).masters = s.masters ∧ (s.become n c).axes = s.axes ∧
    (s.become n c).image = s.image ∧ (s.become n c).loader = s.loader ∧ (s.become n c).bank0 = s.bank0 ∧
    (s.become n c).bank1 = s.bank1 ∧ (s.become n c).activeRec = s.activeRec ∧ (s.become n c).opnum = s.opnum ∧
    (s.become n c).journal = s.journal ∧ (s.become n c).sessCtr = s.sessCtr ∧ (s.become n c).sessions = s.sessions ∧
    (s.become n c).probeAt = s.probeAt ∧ (s.become n c).nacks = s.nacks ∧ (s.become n c).svcFrames = s.svcFrames ∧
    (s.become n c).pair = s.pair ∧ (s.become n c).resync = s.resync ∧ (s.become n c).time = s.time ∧
    (s.become n c).rings = s.rings ∧ (s.become n c).guards = s.guards ∧ (s.become n c).guardDue = s.guardDue ∧
    (s.become n c).xfer = s.xfer ∧ (s.become n c).ana = s.ana ∧ (s.become n c).modems = s.modems ∧
    (s.become n c).conv = s.conv ∧ (s.become n c).trim = s.trim ∧ (s.become n c).dio = s.dio ∧
    (s.become n c).can = s.can ∧ (s.become n c).ser = s.ser ∧ (s.become n c).retained = s.retained ∧
    (s.become n c).retDirty = s.retDirty ∧ (s.become n c).footA = s.footA ∧ (s.become n c).footB = s.footB ∧
    (s.become n c).retSnap = s.retSnap ∧ (s.become n c).acts = s.acts ∧ (s.become n c).actNext = s.actNext ∧
    (s.become n c).power = s.power ∧ (s.become n c).skerry = s.skerry ∧ (s.become n c).panel = s.panel ∧
    (s.become n c).outbox = s.outbox ∧ (s.become n c).pending = s.pending :=
  by and_intros <;> rfl

/-- What reads as before after `become`. -/
@[simp] theorem State.become_reads (n c : Nat) :
    (∀ a, (s.become n c).task a = s.task a) ∧ (∀ a, (s.become n c).cls a = s.cls a) ∧
    (∀ a, (s.become n c).core a = s.core a) ∧ (∀ a, (s.become n c).master a = s.master a) ∧
    (∀ a, (s.become n c).axis a = s.axis a) ∧ (∀ a, (s.become n c).sess a = s.sess a) ∧
    (∀ a, (s.become n c).ring a = s.ring a) ∧ (∀ a, (s.become n c).chan a = s.chan a) ∧
    (∀ a, (s.become n c).region a = s.region a) ∧ (∀ a, (s.become n c).anaCh a = s.anaCh a) ∧
    (∀ a, (s.become n c).modem a = s.modem a) ∧ (∀ a, (s.become n c).grp a = s.grp a) ∧
    (∀ a, (s.become n c).canBus a = s.canBus a) ∧ (∀ a, (s.become n c).serLine a = s.serLine a) ∧
    (∀ a, (s.become n c).inSlot a = s.inSlot a) ∧ (∀ a, (s.become n c).outSlot a = s.outSlot a) ∧
    (∀ a, (s.become n c).isBad a = s.isBad a) :=
  by and_intros <;> first | rfl | exact fun _ => rfl

/-- `setTask` leaves every field but tasks. -/
@[simp] theorem State.setTask_fields (i : Nat) (x : TaskSt) :
    (s.setTask i x).regs = s.regs ∧ (s.setTask i x).latches = s.latches ∧ (s.setTask i x).mem = s.mem ∧
    (s.setTask i x).bad = s.bad ∧ (s.setTask i x).inImg = s.inImg ∧ (s.setTask i x).outImg = s.outImg ∧
    (s.setTask i x).localOwn = s.localOwn ∧ (s.setTask i x).committed = s.committed ∧
    (s.setTask i x).committedPrev = s.committedPrev ∧ (s.setTask i x).classes = s.classes ∧
    (s.setTask i x).cores = s.cores ∧ (s.setTask i x).check = s.check ∧ (s.setTask i x).masters = s.masters ∧
    (s.setTask i x).axes = s.axes ∧ (s.setTask i x).image = s.image ∧ (s.setTask i x).loader = s.loader ∧
    (s.setTask i x).bank0 = s.bank0 ∧ (s.setTask i x).bank1 = s.bank1 ∧ (s.setTask i x).activeRec = s.activeRec ∧
    (s.setTask i x).opnum = s.opnum ∧ (s.setTask i x).recorder = s.recorder ∧ (s.setTask i x).journal = s.journal ∧
    (s.setTask i x).sessCtr = s.sessCtr ∧ (s.setTask i x).sessions = s.sessions ∧
    (s.setTask i x).probeAt = s.probeAt ∧ (s.setTask i x).nacks = s.nacks ∧ (s.setTask i x).svcFrames = s.svcFrames ∧
    (s.setTask i x).pair = s.pair ∧ (s.setTask i x).resync = s.resync ∧ (s.setTask i x).time = s.time ∧
    (s.setTask i x).rings = s.rings ∧ (s.setTask i x).guards = s.guards ∧ (s.setTask i x).guardDue = s.guardDue ∧
    (s.setTask i x).xfer = s.xfer ∧ (s.setTask i x).ana = s.ana ∧ (s.setTask i x).modems = s.modems ∧
    (s.setTask i x).conv = s.conv ∧ (s.setTask i x).trim = s.trim ∧ (s.setTask i x).dio = s.dio ∧
    (s.setTask i x).can = s.can ∧ (s.setTask i x).ser = s.ser ∧ (s.setTask i x).retained = s.retained ∧
    (s.setTask i x).retDirty = s.retDirty ∧ (s.setTask i x).footA = s.footA ∧ (s.setTask i x).footB = s.footB ∧
    (s.setTask i x).retSnap = s.retSnap ∧ (s.setTask i x).acts = s.acts ∧ (s.setTask i x).actNext = s.actNext ∧
    (s.setTask i x).power = s.power ∧ (s.setTask i x).skerry = s.skerry ∧ (s.setTask i x).panel = s.panel ∧
    (s.setTask i x).outbox = s.outbox ∧ (s.setTask i x).pending = s.pending :=
  by and_intros <;> rfl

/-- What reads as before after `setTask`. -/
@[simp] theorem State.setTask_reads (i : Nat) (x : TaskSt) :
    (∀ a, (s.setTask i x).reg a = s.reg a) ∧ (∀ a, (s.setTask i x).fld a = s.fld a) ∧
    (∀ a, (s.setTask i x).flag a = s.flag a) ∧ (∀ a, (s.setTask i x).dword a = s.dword a) ∧
    (s.setTask i x).tick = s.tick ∧ (s.setTask i x).now = s.now ∧ (s.setTask i x).mode = s.mode ∧
    (∀ a, (s.setTask i x).dom a = s.dom a) ∧ (s.setTask i x).coreMode = s.coreMode ∧
    (∀ a, (s.setTask i x).cls a = s.cls a) ∧ (∀ a, (s.setTask i x).core a = s.core a) ∧
    (∀ a, (s.setTask i x).master a = s.master a) ∧ (∀ a, (s.setTask i x).axis a = s.axis a) ∧
    (∀ a, (s.setTask i x).sess a = s.sess a) ∧ (∀ a, (s.setTask i x).ring a = s.ring a) ∧
    (∀ a, (s.setTask i x).chan a = s.chan a) ∧ (∀ a, (s.setTask i x).region a = s.region a) ∧
    (∀ a, (s.setTask i x).anaCh a = s.anaCh a) ∧ (∀ a, (s.setTask i x).modem a = s.modem a) ∧
    (∀ a, (s.setTask i x).grp a = s.grp a) ∧ (∀ a, (s.setTask i x).canBus a = s.canBus a) ∧
    (∀ a, (s.setTask i x).serLine a = s.serLine a) ∧ (∀ a, (s.setTask i x).inSlot a = s.inSlot a) ∧
    (∀ a, (s.setTask i x).outSlot a = s.outSlot a) ∧ (∀ a, (s.setTask i x).isBad a = s.isBad a) ∧
    (s.setTask i x).holds = s.holds ∧ (s.setTask i x).running = s.running ∧ (s.setTask i x).epoch = s.epoch ∧
    (s.setTask i x).ticking = s.ticking :=
  by and_intros <;> first | rfl | exact fun _ => rfl

/-- `setCls` leaves every field but classes. -/
@[simp] theorem State.setCls_fields (i : Nat) (x : ClassSt) :
    (s.setCls i x).regs = s.regs ∧ (s.setCls i x).latches = s.latches ∧ (s.setCls i x).mem = s.mem ∧
    (s.setCls i x).bad = s.bad ∧ (s.setCls i x).inImg = s.inImg ∧ (s.setCls i x).outImg = s.outImg ∧
    (s.setCls i x).localOwn = s.localOwn ∧ (s.setCls i x).committed = s.committed ∧
    (s.setCls i x).committedPrev = s.committedPrev ∧ (s.setCls i x).tasks = s.tasks ∧
    (s.setCls i x).cores = s.cores ∧ (s.setCls i x).check = s.check ∧ (s.setCls i x).masters = s.masters ∧
    (s.setCls i x).axes = s.axes ∧ (s.setCls i x).image = s.image ∧ (s.setCls i x).loader = s.loader ∧
    (s.setCls i x).bank0 = s.bank0 ∧ (s.setCls i x).bank1 = s.bank1 ∧ (s.setCls i x).activeRec = s.activeRec ∧
    (s.setCls i x).opnum = s.opnum ∧ (s.setCls i x).recorder = s.recorder ∧ (s.setCls i x).journal = s.journal ∧
    (s.setCls i x).sessCtr = s.sessCtr ∧ (s.setCls i x).sessions = s.sessions ∧ (s.setCls i x).probeAt = s.probeAt ∧
    (s.setCls i x).nacks = s.nacks ∧ (s.setCls i x).svcFrames = s.svcFrames ∧ (s.setCls i x).pair = s.pair ∧
    (s.setCls i x).resync = s.resync ∧ (s.setCls i x).time = s.time ∧ (s.setCls i x).rings = s.rings ∧
    (s.setCls i x).guards = s.guards ∧ (s.setCls i x).guardDue = s.guardDue ∧ (s.setCls i x).xfer = s.xfer ∧
    (s.setCls i x).ana = s.ana ∧ (s.setCls i x).modems = s.modems ∧ (s.setCls i x).conv = s.conv ∧
    (s.setCls i x).trim = s.trim ∧ (s.setCls i x).dio = s.dio ∧ (s.setCls i x).can = s.can ∧
    (s.setCls i x).ser = s.ser ∧ (s.setCls i x).retained = s.retained ∧ (s.setCls i x).retDirty = s.retDirty ∧
    (s.setCls i x).footA = s.footA ∧ (s.setCls i x).footB = s.footB ∧ (s.setCls i x).retSnap = s.retSnap ∧
    (s.setCls i x).acts = s.acts ∧ (s.setCls i x).actNext = s.actNext ∧ (s.setCls i x).power = s.power ∧
    (s.setCls i x).skerry = s.skerry ∧ (s.setCls i x).panel = s.panel ∧ (s.setCls i x).outbox = s.outbox ∧
    (s.setCls i x).pending = s.pending :=
  by and_intros <;> rfl

/-- What reads as before after `setCls`. -/
@[simp] theorem State.setCls_reads (i : Nat) (x : ClassSt) :
    (∀ a, (s.setCls i x).reg a = s.reg a) ∧ (∀ a, (s.setCls i x).fld a = s.fld a) ∧
    (∀ a, (s.setCls i x).flag a = s.flag a) ∧ (∀ a, (s.setCls i x).dword a = s.dword a) ∧
    (s.setCls i x).tick = s.tick ∧ (s.setCls i x).now = s.now ∧ (s.setCls i x).mode = s.mode ∧
    (∀ a, (s.setCls i x).dom a = s.dom a) ∧ (s.setCls i x).coreMode = s.coreMode ∧
    (∀ a, (s.setCls i x).task a = s.task a) ∧ (∀ a, (s.setCls i x).core a = s.core a) ∧
    (∀ a, (s.setCls i x).master a = s.master a) ∧ (∀ a, (s.setCls i x).axis a = s.axis a) ∧
    (∀ a, (s.setCls i x).sess a = s.sess a) ∧ (∀ a, (s.setCls i x).ring a = s.ring a) ∧
    (∀ a, (s.setCls i x).chan a = s.chan a) ∧ (∀ a, (s.setCls i x).region a = s.region a) ∧
    (∀ a, (s.setCls i x).anaCh a = s.anaCh a) ∧ (∀ a, (s.setCls i x).modem a = s.modem a) ∧
    (∀ a, (s.setCls i x).grp a = s.grp a) ∧ (∀ a, (s.setCls i x).canBus a = s.canBus a) ∧
    (∀ a, (s.setCls i x).serLine a = s.serLine a) ∧ (∀ a, (s.setCls i x).inSlot a = s.inSlot a) ∧
    (∀ a, (s.setCls i x).outSlot a = s.outSlot a) ∧ (∀ a, (s.setCls i x).isBad a = s.isBad a) ∧
    (s.setCls i x).holds = s.holds ∧ (s.setCls i x).running = s.running ∧ (s.setCls i x).epoch = s.epoch ∧
    (s.setCls i x).ticking = s.ticking :=
  by and_intros <;> first | rfl | exact fun _ => rfl

/-- `setCore` leaves every field but cores. -/
@[simp] theorem State.setCore_fields (i : Nat) (x : CoreSt) :
    (s.setCore i x).regs = s.regs ∧ (s.setCore i x).latches = s.latches ∧ (s.setCore i x).mem = s.mem ∧
    (s.setCore i x).bad = s.bad ∧ (s.setCore i x).inImg = s.inImg ∧ (s.setCore i x).outImg = s.outImg ∧
    (s.setCore i x).localOwn = s.localOwn ∧ (s.setCore i x).committed = s.committed ∧
    (s.setCore i x).committedPrev = s.committedPrev ∧ (s.setCore i x).tasks = s.tasks ∧
    (s.setCore i x).classes = s.classes ∧ (s.setCore i x).check = s.check ∧ (s.setCore i x).masters = s.masters ∧
    (s.setCore i x).axes = s.axes ∧ (s.setCore i x).image = s.image ∧ (s.setCore i x).loader = s.loader ∧
    (s.setCore i x).bank0 = s.bank0 ∧ (s.setCore i x).bank1 = s.bank1 ∧ (s.setCore i x).activeRec = s.activeRec ∧
    (s.setCore i x).opnum = s.opnum ∧ (s.setCore i x).recorder = s.recorder ∧ (s.setCore i x).journal = s.journal ∧
    (s.setCore i x).sessCtr = s.sessCtr ∧ (s.setCore i x).sessions = s.sessions ∧
    (s.setCore i x).probeAt = s.probeAt ∧ (s.setCore i x).nacks = s.nacks ∧ (s.setCore i x).svcFrames = s.svcFrames ∧
    (s.setCore i x).pair = s.pair ∧ (s.setCore i x).resync = s.resync ∧ (s.setCore i x).time = s.time ∧
    (s.setCore i x).rings = s.rings ∧ (s.setCore i x).guards = s.guards ∧ (s.setCore i x).guardDue = s.guardDue ∧
    (s.setCore i x).xfer = s.xfer ∧ (s.setCore i x).ana = s.ana ∧ (s.setCore i x).modems = s.modems ∧
    (s.setCore i x).conv = s.conv ∧ (s.setCore i x).trim = s.trim ∧ (s.setCore i x).dio = s.dio ∧
    (s.setCore i x).can = s.can ∧ (s.setCore i x).ser = s.ser ∧ (s.setCore i x).retained = s.retained ∧
    (s.setCore i x).retDirty = s.retDirty ∧ (s.setCore i x).footA = s.footA ∧ (s.setCore i x).footB = s.footB ∧
    (s.setCore i x).retSnap = s.retSnap ∧ (s.setCore i x).acts = s.acts ∧ (s.setCore i x).actNext = s.actNext ∧
    (s.setCore i x).power = s.power ∧ (s.setCore i x).skerry = s.skerry ∧ (s.setCore i x).panel = s.panel ∧
    (s.setCore i x).outbox = s.outbox ∧ (s.setCore i x).pending = s.pending :=
  by and_intros <;> rfl

/-- What reads as before after `setCore`. -/
@[simp] theorem State.setCore_reads (i : Nat) (x : CoreSt) :
    (∀ a, (s.setCore i x).reg a = s.reg a) ∧ (∀ a, (s.setCore i x).fld a = s.fld a) ∧
    (∀ a, (s.setCore i x).flag a = s.flag a) ∧ (∀ a, (s.setCore i x).dword a = s.dword a) ∧
    (s.setCore i x).tick = s.tick ∧ (s.setCore i x).now = s.now ∧ (s.setCore i x).mode = s.mode ∧
    (∀ a, (s.setCore i x).dom a = s.dom a) ∧ (s.setCore i x).coreMode = s.coreMode ∧
    (∀ a, (s.setCore i x).task a = s.task a) ∧ (∀ a, (s.setCore i x).cls a = s.cls a) ∧
    (∀ a, (s.setCore i x).master a = s.master a) ∧ (∀ a, (s.setCore i x).axis a = s.axis a) ∧
    (∀ a, (s.setCore i x).sess a = s.sess a) ∧ (∀ a, (s.setCore i x).ring a = s.ring a) ∧
    (∀ a, (s.setCore i x).chan a = s.chan a) ∧ (∀ a, (s.setCore i x).region a = s.region a) ∧
    (∀ a, (s.setCore i x).anaCh a = s.anaCh a) ∧ (∀ a, (s.setCore i x).modem a = s.modem a) ∧
    (∀ a, (s.setCore i x).grp a = s.grp a) ∧ (∀ a, (s.setCore i x).canBus a = s.canBus a) ∧
    (∀ a, (s.setCore i x).serLine a = s.serLine a) ∧ (∀ a, (s.setCore i x).inSlot a = s.inSlot a) ∧
    (∀ a, (s.setCore i x).outSlot a = s.outSlot a) ∧ (∀ a, (s.setCore i x).isBad a = s.isBad a) ∧
    (s.setCore i x).holds = s.holds ∧ (s.setCore i x).running = s.running ∧ (s.setCore i x).epoch = s.epoch ∧
    (s.setCore i x).ticking = s.ticking :=
  by and_intros <;> first | rfl | exact fun _ => rfl

/-- `setMaster` leaves every field but masters. -/
@[simp] theorem State.setMaster_fields (i : Nat) (x : MasterSt) :
    (s.setMaster i x).regs = s.regs ∧ (s.setMaster i x).latches = s.latches ∧ (s.setMaster i x).mem = s.mem ∧
    (s.setMaster i x).bad = s.bad ∧ (s.setMaster i x).inImg = s.inImg ∧ (s.setMaster i x).outImg = s.outImg ∧
    (s.setMaster i x).localOwn = s.localOwn ∧ (s.setMaster i x).committed = s.committed ∧
    (s.setMaster i x).committedPrev = s.committedPrev ∧ (s.setMaster i x).tasks = s.tasks ∧
    (s.setMaster i x).classes = s.classes ∧ (s.setMaster i x).cores = s.cores ∧ (s.setMaster i x).check = s.check ∧
    (s.setMaster i x).axes = s.axes ∧ (s.setMaster i x).image = s.image ∧ (s.setMaster i x).loader = s.loader ∧
    (s.setMaster i x).bank0 = s.bank0 ∧ (s.setMaster i x).bank1 = s.bank1 ∧
    (s.setMaster i x).activeRec = s.activeRec ∧ (s.setMaster i x).opnum = s.opnum ∧
    (s.setMaster i x).recorder = s.recorder ∧ (s.setMaster i x).journal = s.journal ∧
    (s.setMaster i x).sessCtr = s.sessCtr ∧ (s.setMaster i x).sessions = s.sessions ∧
    (s.setMaster i x).probeAt = s.probeAt ∧ (s.setMaster i x).nacks = s.nacks ∧
    (s.setMaster i x).svcFrames = s.svcFrames ∧ (s.setMaster i x).pair = s.pair ∧
    (s.setMaster i x).resync = s.resync ∧ (s.setMaster i x).time = s.time ∧ (s.setMaster i x).rings = s.rings ∧
    (s.setMaster i x).guards = s.guards ∧ (s.setMaster i x).guardDue = s.guardDue ∧ (s.setMaster i x).xfer = s.xfer ∧
    (s.setMaster i x).ana = s.ana ∧ (s.setMaster i x).modems = s.modems ∧ (s.setMaster i x).conv = s.conv ∧
    (s.setMaster i x).trim = s.trim ∧ (s.setMaster i x).dio = s.dio ∧ (s.setMaster i x).can = s.can ∧
    (s.setMaster i x).ser = s.ser ∧ (s.setMaster i x).retained = s.retained ∧
    (s.setMaster i x).retDirty = s.retDirty ∧ (s.setMaster i x).footA = s.footA ∧ (s.setMaster i x).footB = s.footB ∧
    (s.setMaster i x).retSnap = s.retSnap ∧ (s.setMaster i x).acts = s.acts ∧ (s.setMaster i x).actNext = s.actNext ∧
    (s.setMaster i x).power = s.power ∧ (s.setMaster i x).skerry = s.skerry ∧ (s.setMaster i x).panel = s.panel ∧
    (s.setMaster i x).outbox = s.outbox ∧ (s.setMaster i x).pending = s.pending :=
  by and_intros <;> rfl

/-- What reads as before after `setMaster`. -/
@[simp] theorem State.setMaster_reads (i : Nat) (x : MasterSt) :
    (∀ a, (s.setMaster i x).reg a = s.reg a) ∧ (∀ a, (s.setMaster i x).fld a = s.fld a) ∧
    (∀ a, (s.setMaster i x).flag a = s.flag a) ∧ (∀ a, (s.setMaster i x).dword a = s.dword a) ∧
    (s.setMaster i x).tick = s.tick ∧ (s.setMaster i x).now = s.now ∧ (s.setMaster i x).mode = s.mode ∧
    (∀ a, (s.setMaster i x).dom a = s.dom a) ∧ (s.setMaster i x).coreMode = s.coreMode ∧
    (∀ a, (s.setMaster i x).task a = s.task a) ∧ (∀ a, (s.setMaster i x).cls a = s.cls a) ∧
    (∀ a, (s.setMaster i x).core a = s.core a) ∧ (∀ a, (s.setMaster i x).axis a = s.axis a) ∧
    (∀ a, (s.setMaster i x).sess a = s.sess a) ∧ (∀ a, (s.setMaster i x).ring a = s.ring a) ∧
    (∀ a, (s.setMaster i x).chan a = s.chan a) ∧ (∀ a, (s.setMaster i x).region a = s.region a) ∧
    (∀ a, (s.setMaster i x).anaCh a = s.anaCh a) ∧ (∀ a, (s.setMaster i x).modem a = s.modem a) ∧
    (∀ a, (s.setMaster i x).grp a = s.grp a) ∧ (∀ a, (s.setMaster i x).canBus a = s.canBus a) ∧
    (∀ a, (s.setMaster i x).serLine a = s.serLine a) ∧ (∀ a, (s.setMaster i x).inSlot a = s.inSlot a) ∧
    (∀ a, (s.setMaster i x).outSlot a = s.outSlot a) ∧ (∀ a, (s.setMaster i x).isBad a = s.isBad a) ∧
    (s.setMaster i x).holds = s.holds ∧ (s.setMaster i x).running = s.running ∧ (s.setMaster i x).epoch = s.epoch ∧
    (s.setMaster i x).ticking = s.ticking :=
  by and_intros <;> first | rfl | exact fun _ => rfl

/-- `setAxis` leaves every field but axes. -/
@[simp] theorem State.setAxis_fields (i : Nat) (x : AxisSt) :
    (s.setAxis i x).regs = s.regs ∧ (s.setAxis i x).latches = s.latches ∧ (s.setAxis i x).mem = s.mem ∧
    (s.setAxis i x).bad = s.bad ∧ (s.setAxis i x).inImg = s.inImg ∧ (s.setAxis i x).outImg = s.outImg ∧
    (s.setAxis i x).localOwn = s.localOwn ∧ (s.setAxis i x).committed = s.committed ∧
    (s.setAxis i x).committedPrev = s.committedPrev ∧ (s.setAxis i x).tasks = s.tasks ∧
    (s.setAxis i x).classes = s.classes ∧ (s.setAxis i x).cores = s.cores ∧ (s.setAxis i x).check = s.check ∧
    (s.setAxis i x).masters = s.masters ∧ (s.setAxis i x).image = s.image ∧ (s.setAxis i x).loader = s.loader ∧
    (s.setAxis i x).bank0 = s.bank0 ∧ (s.setAxis i x).bank1 = s.bank1 ∧ (s.setAxis i x).activeRec = s.activeRec ∧
    (s.setAxis i x).opnum = s.opnum ∧ (s.setAxis i x).recorder = s.recorder ∧ (s.setAxis i x).journal = s.journal ∧
    (s.setAxis i x).sessCtr = s.sessCtr ∧ (s.setAxis i x).sessions = s.sessions ∧
    (s.setAxis i x).probeAt = s.probeAt ∧ (s.setAxis i x).nacks = s.nacks ∧ (s.setAxis i x).svcFrames = s.svcFrames ∧
    (s.setAxis i x).pair = s.pair ∧ (s.setAxis i x).resync = s.resync ∧ (s.setAxis i x).time = s.time ∧
    (s.setAxis i x).rings = s.rings ∧ (s.setAxis i x).guards = s.guards ∧ (s.setAxis i x).guardDue = s.guardDue ∧
    (s.setAxis i x).xfer = s.xfer ∧ (s.setAxis i x).ana = s.ana ∧ (s.setAxis i x).modems = s.modems ∧
    (s.setAxis i x).conv = s.conv ∧ (s.setAxis i x).trim = s.trim ∧ (s.setAxis i x).dio = s.dio ∧
    (s.setAxis i x).can = s.can ∧ (s.setAxis i x).ser = s.ser ∧ (s.setAxis i x).retained = s.retained ∧
    (s.setAxis i x).retDirty = s.retDirty ∧ (s.setAxis i x).footA = s.footA ∧ (s.setAxis i x).footB = s.footB ∧
    (s.setAxis i x).retSnap = s.retSnap ∧ (s.setAxis i x).acts = s.acts ∧ (s.setAxis i x).actNext = s.actNext ∧
    (s.setAxis i x).power = s.power ∧ (s.setAxis i x).skerry = s.skerry ∧ (s.setAxis i x).panel = s.panel ∧
    (s.setAxis i x).outbox = s.outbox ∧ (s.setAxis i x).pending = s.pending :=
  by and_intros <;> rfl

/-- What reads as before after `setAxis`. -/
@[simp] theorem State.setAxis_reads (i : Nat) (x : AxisSt) :
    (∀ a, (s.setAxis i x).reg a = s.reg a) ∧ (∀ a, (s.setAxis i x).fld a = s.fld a) ∧
    (∀ a, (s.setAxis i x).flag a = s.flag a) ∧ (∀ a, (s.setAxis i x).dword a = s.dword a) ∧
    (s.setAxis i x).tick = s.tick ∧ (s.setAxis i x).now = s.now ∧ (s.setAxis i x).mode = s.mode ∧
    (∀ a, (s.setAxis i x).dom a = s.dom a) ∧ (s.setAxis i x).coreMode = s.coreMode ∧
    (∀ a, (s.setAxis i x).task a = s.task a) ∧ (∀ a, (s.setAxis i x).cls a = s.cls a) ∧
    (∀ a, (s.setAxis i x).core a = s.core a) ∧ (∀ a, (s.setAxis i x).master a = s.master a) ∧
    (∀ a, (s.setAxis i x).sess a = s.sess a) ∧ (∀ a, (s.setAxis i x).ring a = s.ring a) ∧
    (∀ a, (s.setAxis i x).chan a = s.chan a) ∧ (∀ a, (s.setAxis i x).region a = s.region a) ∧
    (∀ a, (s.setAxis i x).anaCh a = s.anaCh a) ∧ (∀ a, (s.setAxis i x).modem a = s.modem a) ∧
    (∀ a, (s.setAxis i x).grp a = s.grp a) ∧ (∀ a, (s.setAxis i x).canBus a = s.canBus a) ∧
    (∀ a, (s.setAxis i x).serLine a = s.serLine a) ∧ (∀ a, (s.setAxis i x).inSlot a = s.inSlot a) ∧
    (∀ a, (s.setAxis i x).outSlot a = s.outSlot a) ∧ (∀ a, (s.setAxis i x).isBad a = s.isBad a) ∧
    (s.setAxis i x).holds = s.holds ∧ (s.setAxis i x).running = s.running ∧ (s.setAxis i x).epoch = s.epoch ∧
    (s.setAxis i x).ticking = s.ticking :=
  by and_intros <;> first | rfl | exact fun _ => rfl

/-- `setSess` leaves every field but sessions. -/
@[simp] theorem State.setSess_fields (i : Nat) (x : Session) :
    (s.setSess i x).regs = s.regs ∧ (s.setSess i x).latches = s.latches ∧ (s.setSess i x).mem = s.mem ∧
    (s.setSess i x).bad = s.bad ∧ (s.setSess i x).inImg = s.inImg ∧ (s.setSess i x).outImg = s.outImg ∧
    (s.setSess i x).localOwn = s.localOwn ∧ (s.setSess i x).committed = s.committed ∧
    (s.setSess i x).committedPrev = s.committedPrev ∧ (s.setSess i x).tasks = s.tasks ∧
    (s.setSess i x).classes = s.classes ∧ (s.setSess i x).cores = s.cores ∧ (s.setSess i x).check = s.check ∧
    (s.setSess i x).masters = s.masters ∧ (s.setSess i x).axes = s.axes ∧ (s.setSess i x).image = s.image ∧
    (s.setSess i x).loader = s.loader ∧ (s.setSess i x).bank0 = s.bank0 ∧ (s.setSess i x).bank1 = s.bank1 ∧
    (s.setSess i x).activeRec = s.activeRec ∧ (s.setSess i x).opnum = s.opnum ∧
    (s.setSess i x).recorder = s.recorder ∧ (s.setSess i x).journal = s.journal ∧
    (s.setSess i x).sessCtr = s.sessCtr ∧ (s.setSess i x).probeAt = s.probeAt ∧ (s.setSess i x).nacks = s.nacks ∧
    (s.setSess i x).svcFrames = s.svcFrames ∧ (s.setSess i x).pair = s.pair ∧ (s.setSess i x).resync = s.resync ∧
    (s.setSess i x).time = s.time ∧ (s.setSess i x).rings = s.rings ∧ (s.setSess i x).guards = s.guards ∧
    (s.setSess i x).guardDue = s.guardDue ∧ (s.setSess i x).xfer = s.xfer ∧ (s.setSess i x).ana = s.ana ∧
    (s.setSess i x).modems = s.modems ∧ (s.setSess i x).conv = s.conv ∧ (s.setSess i x).trim = s.trim ∧
    (s.setSess i x).dio = s.dio ∧ (s.setSess i x).can = s.can ∧ (s.setSess i x).ser = s.ser ∧
    (s.setSess i x).retained = s.retained ∧ (s.setSess i x).retDirty = s.retDirty ∧ (s.setSess i x).footA = s.footA ∧
    (s.setSess i x).footB = s.footB ∧ (s.setSess i x).retSnap = s.retSnap ∧ (s.setSess i x).acts = s.acts ∧
    (s.setSess i x).actNext = s.actNext ∧ (s.setSess i x).power = s.power ∧ (s.setSess i x).skerry = s.skerry ∧
    (s.setSess i x).panel = s.panel ∧ (s.setSess i x).outbox = s.outbox ∧ (s.setSess i x).pending = s.pending :=
  by and_intros <;> rfl

/-- What reads as before after `setSess`. -/
@[simp] theorem State.setSess_reads (i : Nat) (x : Session) :
    (∀ a, (s.setSess i x).reg a = s.reg a) ∧ (∀ a, (s.setSess i x).fld a = s.fld a) ∧
    (∀ a, (s.setSess i x).flag a = s.flag a) ∧ (∀ a, (s.setSess i x).dword a = s.dword a) ∧
    (s.setSess i x).tick = s.tick ∧ (s.setSess i x).now = s.now ∧ (s.setSess i x).mode = s.mode ∧
    (∀ a, (s.setSess i x).dom a = s.dom a) ∧ (s.setSess i x).coreMode = s.coreMode ∧
    (∀ a, (s.setSess i x).task a = s.task a) ∧ (∀ a, (s.setSess i x).cls a = s.cls a) ∧
    (∀ a, (s.setSess i x).core a = s.core a) ∧ (∀ a, (s.setSess i x).master a = s.master a) ∧
    (∀ a, (s.setSess i x).axis a = s.axis a) ∧ (∀ a, (s.setSess i x).ring a = s.ring a) ∧
    (∀ a, (s.setSess i x).chan a = s.chan a) ∧ (∀ a, (s.setSess i x).region a = s.region a) ∧
    (∀ a, (s.setSess i x).anaCh a = s.anaCh a) ∧ (∀ a, (s.setSess i x).modem a = s.modem a) ∧
    (∀ a, (s.setSess i x).grp a = s.grp a) ∧ (∀ a, (s.setSess i x).canBus a = s.canBus a) ∧
    (∀ a, (s.setSess i x).serLine a = s.serLine a) ∧ (∀ a, (s.setSess i x).inSlot a = s.inSlot a) ∧
    (∀ a, (s.setSess i x).outSlot a = s.outSlot a) ∧ (∀ a, (s.setSess i x).isBad a = s.isBad a) ∧
    (s.setSess i x).holds = s.holds ∧ (s.setSess i x).running = s.running ∧ (s.setSess i x).epoch = s.epoch ∧
    (s.setSess i x).ticking = s.ticking :=
  by and_intros <;> first | rfl | exact fun _ => rfl

/-- `setRing` leaves every field but rings. -/
@[simp] theorem State.setRing_fields (i : Nat) (x : RingSt) :
    (s.setRing i x).regs = s.regs ∧ (s.setRing i x).latches = s.latches ∧ (s.setRing i x).mem = s.mem ∧
    (s.setRing i x).bad = s.bad ∧ (s.setRing i x).inImg = s.inImg ∧ (s.setRing i x).outImg = s.outImg ∧
    (s.setRing i x).localOwn = s.localOwn ∧ (s.setRing i x).committed = s.committed ∧
    (s.setRing i x).committedPrev = s.committedPrev ∧ (s.setRing i x).tasks = s.tasks ∧
    (s.setRing i x).classes = s.classes ∧ (s.setRing i x).cores = s.cores ∧ (s.setRing i x).check = s.check ∧
    (s.setRing i x).masters = s.masters ∧ (s.setRing i x).axes = s.axes ∧ (s.setRing i x).image = s.image ∧
    (s.setRing i x).loader = s.loader ∧ (s.setRing i x).bank0 = s.bank0 ∧ (s.setRing i x).bank1 = s.bank1 ∧
    (s.setRing i x).activeRec = s.activeRec ∧ (s.setRing i x).opnum = s.opnum ∧
    (s.setRing i x).recorder = s.recorder ∧ (s.setRing i x).journal = s.journal ∧
    (s.setRing i x).sessCtr = s.sessCtr ∧ (s.setRing i x).sessions = s.sessions ∧
    (s.setRing i x).probeAt = s.probeAt ∧ (s.setRing i x).nacks = s.nacks ∧ (s.setRing i x).svcFrames = s.svcFrames ∧
    (s.setRing i x).pair = s.pair ∧ (s.setRing i x).resync = s.resync ∧ (s.setRing i x).time = s.time ∧
    (s.setRing i x).guards = s.guards ∧ (s.setRing i x).guardDue = s.guardDue ∧ (s.setRing i x).xfer = s.xfer ∧
    (s.setRing i x).ana = s.ana ∧ (s.setRing i x).modems = s.modems ∧ (s.setRing i x).conv = s.conv ∧
    (s.setRing i x).trim = s.trim ∧ (s.setRing i x).dio = s.dio ∧ (s.setRing i x).can = s.can ∧
    (s.setRing i x).ser = s.ser ∧ (s.setRing i x).retained = s.retained ∧ (s.setRing i x).retDirty = s.retDirty ∧
    (s.setRing i x).footA = s.footA ∧ (s.setRing i x).footB = s.footB ∧ (s.setRing i x).retSnap = s.retSnap ∧
    (s.setRing i x).acts = s.acts ∧ (s.setRing i x).actNext = s.actNext ∧ (s.setRing i x).power = s.power ∧
    (s.setRing i x).skerry = s.skerry ∧ (s.setRing i x).panel = s.panel ∧ (s.setRing i x).outbox = s.outbox ∧
    (s.setRing i x).pending = s.pending :=
  by and_intros <;> rfl

/-- What reads as before after `setRing`. -/
@[simp] theorem State.setRing_reads (i : Nat) (x : RingSt) :
    (∀ a, (s.setRing i x).reg a = s.reg a) ∧ (∀ a, (s.setRing i x).fld a = s.fld a) ∧
    (∀ a, (s.setRing i x).flag a = s.flag a) ∧ (∀ a, (s.setRing i x).dword a = s.dword a) ∧
    (s.setRing i x).tick = s.tick ∧ (s.setRing i x).now = s.now ∧ (s.setRing i x).mode = s.mode ∧
    (∀ a, (s.setRing i x).dom a = s.dom a) ∧ (s.setRing i x).coreMode = s.coreMode ∧
    (∀ a, (s.setRing i x).task a = s.task a) ∧ (∀ a, (s.setRing i x).cls a = s.cls a) ∧
    (∀ a, (s.setRing i x).core a = s.core a) ∧ (∀ a, (s.setRing i x).master a = s.master a) ∧
    (∀ a, (s.setRing i x).axis a = s.axis a) ∧ (∀ a, (s.setRing i x).sess a = s.sess a) ∧
    (∀ a, (s.setRing i x).chan a = s.chan a) ∧ (∀ a, (s.setRing i x).region a = s.region a) ∧
    (∀ a, (s.setRing i x).anaCh a = s.anaCh a) ∧ (∀ a, (s.setRing i x).modem a = s.modem a) ∧
    (∀ a, (s.setRing i x).grp a = s.grp a) ∧ (∀ a, (s.setRing i x).canBus a = s.canBus a) ∧
    (∀ a, (s.setRing i x).serLine a = s.serLine a) ∧ (∀ a, (s.setRing i x).inSlot a = s.inSlot a) ∧
    (∀ a, (s.setRing i x).outSlot a = s.outSlot a) ∧ (∀ a, (s.setRing i x).isBad a = s.isBad a) ∧
    (s.setRing i x).holds = s.holds ∧ (s.setRing i x).running = s.running ∧ (s.setRing i x).epoch = s.epoch ∧
    (s.setRing i x).ticking = s.ticking :=
  by and_intros <;> first | rfl | exact fun _ => rfl

/-- `setChan` leaves every field but xfer. -/
@[simp] theorem State.setChan_fields (i : Nat) (x : XferCh) :
    (s.setChan i x).regs = s.regs ∧ (s.setChan i x).latches = s.latches ∧ (s.setChan i x).mem = s.mem ∧
    (s.setChan i x).bad = s.bad ∧ (s.setChan i x).inImg = s.inImg ∧ (s.setChan i x).outImg = s.outImg ∧
    (s.setChan i x).localOwn = s.localOwn ∧ (s.setChan i x).committed = s.committed ∧
    (s.setChan i x).committedPrev = s.committedPrev ∧ (s.setChan i x).tasks = s.tasks ∧
    (s.setChan i x).classes = s.classes ∧ (s.setChan i x).cores = s.cores ∧ (s.setChan i x).check = s.check ∧
    (s.setChan i x).masters = s.masters ∧ (s.setChan i x).axes = s.axes ∧ (s.setChan i x).image = s.image ∧
    (s.setChan i x).loader = s.loader ∧ (s.setChan i x).bank0 = s.bank0 ∧ (s.setChan i x).bank1 = s.bank1 ∧
    (s.setChan i x).activeRec = s.activeRec ∧ (s.setChan i x).opnum = s.opnum ∧
    (s.setChan i x).recorder = s.recorder ∧ (s.setChan i x).journal = s.journal ∧
    (s.setChan i x).sessCtr = s.sessCtr ∧ (s.setChan i x).sessions = s.sessions ∧
    (s.setChan i x).probeAt = s.probeAt ∧ (s.setChan i x).nacks = s.nacks ∧ (s.setChan i x).svcFrames = s.svcFrames ∧
    (s.setChan i x).pair = s.pair ∧ (s.setChan i x).resync = s.resync ∧ (s.setChan i x).time = s.time ∧
    (s.setChan i x).rings = s.rings ∧ (s.setChan i x).guards = s.guards ∧ (s.setChan i x).guardDue = s.guardDue ∧
    (s.setChan i x).ana = s.ana ∧ (s.setChan i x).modems = s.modems ∧ (s.setChan i x).conv = s.conv ∧
    (s.setChan i x).trim = s.trim ∧ (s.setChan i x).dio = s.dio ∧ (s.setChan i x).can = s.can ∧
    (s.setChan i x).ser = s.ser ∧ (s.setChan i x).retained = s.retained ∧ (s.setChan i x).retDirty = s.retDirty ∧
    (s.setChan i x).footA = s.footA ∧ (s.setChan i x).footB = s.footB ∧ (s.setChan i x).retSnap = s.retSnap ∧
    (s.setChan i x).acts = s.acts ∧ (s.setChan i x).actNext = s.actNext ∧ (s.setChan i x).power = s.power ∧
    (s.setChan i x).skerry = s.skerry ∧ (s.setChan i x).panel = s.panel ∧ (s.setChan i x).outbox = s.outbox ∧
    (s.setChan i x).pending = s.pending :=
  by and_intros <;> rfl

/-- What reads as before after `setChan`. -/
@[simp] theorem State.setChan_reads (i : Nat) (x : XferCh) :
    (∀ a, (s.setChan i x).reg a = s.reg a) ∧ (∀ a, (s.setChan i x).fld a = s.fld a) ∧
    (∀ a, (s.setChan i x).flag a = s.flag a) ∧ (∀ a, (s.setChan i x).dword a = s.dword a) ∧
    (s.setChan i x).tick = s.tick ∧ (s.setChan i x).now = s.now ∧ (s.setChan i x).mode = s.mode ∧
    (∀ a, (s.setChan i x).dom a = s.dom a) ∧ (s.setChan i x).coreMode = s.coreMode ∧
    (∀ a, (s.setChan i x).task a = s.task a) ∧ (∀ a, (s.setChan i x).cls a = s.cls a) ∧
    (∀ a, (s.setChan i x).core a = s.core a) ∧ (∀ a, (s.setChan i x).master a = s.master a) ∧
    (∀ a, (s.setChan i x).axis a = s.axis a) ∧ (∀ a, (s.setChan i x).sess a = s.sess a) ∧
    (∀ a, (s.setChan i x).ring a = s.ring a) ∧ (∀ a, (s.setChan i x).region a = s.region a) ∧
    (∀ a, (s.setChan i x).anaCh a = s.anaCh a) ∧ (∀ a, (s.setChan i x).modem a = s.modem a) ∧
    (∀ a, (s.setChan i x).grp a = s.grp a) ∧ (∀ a, (s.setChan i x).canBus a = s.canBus a) ∧
    (∀ a, (s.setChan i x).serLine a = s.serLine a) ∧ (∀ a, (s.setChan i x).inSlot a = s.inSlot a) ∧
    (∀ a, (s.setChan i x).outSlot a = s.outSlot a) ∧ (∀ a, (s.setChan i x).isBad a = s.isBad a) ∧
    (s.setChan i x).holds = s.holds ∧ (s.setChan i x).running = s.running ∧ (s.setChan i x).epoch = s.epoch ∧
    (s.setChan i x).ticking = s.ticking :=
  by and_intros <;> first | rfl | exact fun _ => rfl

/-- `setRegion` leaves every field but guards. -/
@[simp] theorem State.setRegion_fields (i : Nat) (x : Region) :
    (s.setRegion i x).regs = s.regs ∧ (s.setRegion i x).latches = s.latches ∧ (s.setRegion i x).mem = s.mem ∧
    (s.setRegion i x).bad = s.bad ∧ (s.setRegion i x).inImg = s.inImg ∧ (s.setRegion i x).outImg = s.outImg ∧
    (s.setRegion i x).localOwn = s.localOwn ∧ (s.setRegion i x).committed = s.committed ∧
    (s.setRegion i x).committedPrev = s.committedPrev ∧ (s.setRegion i x).tasks = s.tasks ∧
    (s.setRegion i x).classes = s.classes ∧ (s.setRegion i x).cores = s.cores ∧ (s.setRegion i x).check = s.check ∧
    (s.setRegion i x).masters = s.masters ∧ (s.setRegion i x).axes = s.axes ∧ (s.setRegion i x).image = s.image ∧
    (s.setRegion i x).loader = s.loader ∧ (s.setRegion i x).bank0 = s.bank0 ∧ (s.setRegion i x).bank1 = s.bank1 ∧
    (s.setRegion i x).activeRec = s.activeRec ∧ (s.setRegion i x).opnum = s.opnum ∧
    (s.setRegion i x).recorder = s.recorder ∧ (s.setRegion i x).journal = s.journal ∧
    (s.setRegion i x).sessCtr = s.sessCtr ∧ (s.setRegion i x).sessions = s.sessions ∧
    (s.setRegion i x).probeAt = s.probeAt ∧ (s.setRegion i x).nacks = s.nacks ∧
    (s.setRegion i x).svcFrames = s.svcFrames ∧ (s.setRegion i x).pair = s.pair ∧
    (s.setRegion i x).resync = s.resync ∧ (s.setRegion i x).time = s.time ∧ (s.setRegion i x).rings = s.rings ∧
    (s.setRegion i x).guardDue = s.guardDue ∧ (s.setRegion i x).xfer = s.xfer ∧ (s.setRegion i x).ana = s.ana ∧
    (s.setRegion i x).modems = s.modems ∧ (s.setRegion i x).conv = s.conv ∧ (s.setRegion i x).trim = s.trim ∧
    (s.setRegion i x).dio = s.dio ∧ (s.setRegion i x).can = s.can ∧ (s.setRegion i x).ser = s.ser ∧
    (s.setRegion i x).retained = s.retained ∧ (s.setRegion i x).retDirty = s.retDirty ∧
    (s.setRegion i x).footA = s.footA ∧ (s.setRegion i x).footB = s.footB ∧ (s.setRegion i x).retSnap = s.retSnap ∧
    (s.setRegion i x).acts = s.acts ∧ (s.setRegion i x).actNext = s.actNext ∧ (s.setRegion i x).power = s.power ∧
    (s.setRegion i x).skerry = s.skerry ∧ (s.setRegion i x).panel = s.panel ∧ (s.setRegion i x).outbox = s.outbox ∧
    (s.setRegion i x).pending = s.pending :=
  by and_intros <;> rfl

/-- What reads as before after `setRegion`. -/
@[simp] theorem State.setRegion_reads (i : Nat) (x : Region) :
    (∀ a, (s.setRegion i x).reg a = s.reg a) ∧ (∀ a, (s.setRegion i x).fld a = s.fld a) ∧
    (∀ a, (s.setRegion i x).flag a = s.flag a) ∧ (∀ a, (s.setRegion i x).dword a = s.dword a) ∧
    (s.setRegion i x).tick = s.tick ∧ (s.setRegion i x).now = s.now ∧ (s.setRegion i x).mode = s.mode ∧
    (∀ a, (s.setRegion i x).dom a = s.dom a) ∧ (s.setRegion i x).coreMode = s.coreMode ∧
    (∀ a, (s.setRegion i x).task a = s.task a) ∧ (∀ a, (s.setRegion i x).cls a = s.cls a) ∧
    (∀ a, (s.setRegion i x).core a = s.core a) ∧ (∀ a, (s.setRegion i x).master a = s.master a) ∧
    (∀ a, (s.setRegion i x).axis a = s.axis a) ∧ (∀ a, (s.setRegion i x).sess a = s.sess a) ∧
    (∀ a, (s.setRegion i x).ring a = s.ring a) ∧ (∀ a, (s.setRegion i x).chan a = s.chan a) ∧
    (∀ a, (s.setRegion i x).anaCh a = s.anaCh a) ∧ (∀ a, (s.setRegion i x).modem a = s.modem a) ∧
    (∀ a, (s.setRegion i x).grp a = s.grp a) ∧ (∀ a, (s.setRegion i x).canBus a = s.canBus a) ∧
    (∀ a, (s.setRegion i x).serLine a = s.serLine a) ∧ (∀ a, (s.setRegion i x).inSlot a = s.inSlot a) ∧
    (∀ a, (s.setRegion i x).outSlot a = s.outSlot a) ∧ (∀ a, (s.setRegion i x).isBad a = s.isBad a) ∧
    (s.setRegion i x).holds = s.holds ∧ (s.setRegion i x).running = s.running ∧ (s.setRegion i x).epoch = s.epoch ∧
    (s.setRegion i x).ticking = s.ticking :=
  by and_intros <;> first | rfl | exact fun _ => rfl

/-- `setAna` leaves every field but ana. -/
@[simp] theorem State.setAna_fields (i : Nat) (x : AnaSt) :
    (s.setAna i x).regs = s.regs ∧ (s.setAna i x).latches = s.latches ∧ (s.setAna i x).mem = s.mem ∧
    (s.setAna i x).bad = s.bad ∧ (s.setAna i x).inImg = s.inImg ∧ (s.setAna i x).outImg = s.outImg ∧
    (s.setAna i x).localOwn = s.localOwn ∧ (s.setAna i x).committed = s.committed ∧
    (s.setAna i x).committedPrev = s.committedPrev ∧ (s.setAna i x).tasks = s.tasks ∧
    (s.setAna i x).classes = s.classes ∧ (s.setAna i x).cores = s.cores ∧ (s.setAna i x).check = s.check ∧
    (s.setAna i x).masters = s.masters ∧ (s.setAna i x).axes = s.axes ∧ (s.setAna i x).image = s.image ∧
    (s.setAna i x).loader = s.loader ∧ (s.setAna i x).bank0 = s.bank0 ∧ (s.setAna i x).bank1 = s.bank1 ∧
    (s.setAna i x).activeRec = s.activeRec ∧ (s.setAna i x).opnum = s.opnum ∧ (s.setAna i x).recorder = s.recorder ∧
    (s.setAna i x).journal = s.journal ∧ (s.setAna i x).sessCtr = s.sessCtr ∧ (s.setAna i x).sessions = s.sessions ∧
    (s.setAna i x).probeAt = s.probeAt ∧ (s.setAna i x).nacks = s.nacks ∧ (s.setAna i x).svcFrames = s.svcFrames ∧
    (s.setAna i x).pair = s.pair ∧ (s.setAna i x).resync = s.resync ∧ (s.setAna i x).time = s.time ∧
    (s.setAna i x).rings = s.rings ∧ (s.setAna i x).guards = s.guards ∧ (s.setAna i x).guardDue = s.guardDue ∧
    (s.setAna i x).xfer = s.xfer ∧ (s.setAna i x).modems = s.modems ∧ (s.setAna i x).conv = s.conv ∧
    (s.setAna i x).trim = s.trim ∧ (s.setAna i x).dio = s.dio ∧ (s.setAna i x).can = s.can ∧
    (s.setAna i x).ser = s.ser ∧ (s.setAna i x).retained = s.retained ∧ (s.setAna i x).retDirty = s.retDirty ∧
    (s.setAna i x).footA = s.footA ∧ (s.setAna i x).footB = s.footB ∧ (s.setAna i x).retSnap = s.retSnap ∧
    (s.setAna i x).acts = s.acts ∧ (s.setAna i x).actNext = s.actNext ∧ (s.setAna i x).power = s.power ∧
    (s.setAna i x).skerry = s.skerry ∧ (s.setAna i x).panel = s.panel ∧ (s.setAna i x).outbox = s.outbox ∧
    (s.setAna i x).pending = s.pending :=
  by and_intros <;> rfl

/-- What reads as before after `setAna`. -/
@[simp] theorem State.setAna_reads (i : Nat) (x : AnaSt) :
    (∀ a, (s.setAna i x).reg a = s.reg a) ∧ (∀ a, (s.setAna i x).fld a = s.fld a) ∧
    (∀ a, (s.setAna i x).flag a = s.flag a) ∧ (∀ a, (s.setAna i x).dword a = s.dword a) ∧
    (s.setAna i x).tick = s.tick ∧ (s.setAna i x).now = s.now ∧ (s.setAna i x).mode = s.mode ∧
    (∀ a, (s.setAna i x).dom a = s.dom a) ∧ (s.setAna i x).coreMode = s.coreMode ∧
    (∀ a, (s.setAna i x).task a = s.task a) ∧ (∀ a, (s.setAna i x).cls a = s.cls a) ∧
    (∀ a, (s.setAna i x).core a = s.core a) ∧ (∀ a, (s.setAna i x).master a = s.master a) ∧
    (∀ a, (s.setAna i x).axis a = s.axis a) ∧ (∀ a, (s.setAna i x).sess a = s.sess a) ∧
    (∀ a, (s.setAna i x).ring a = s.ring a) ∧ (∀ a, (s.setAna i x).chan a = s.chan a) ∧
    (∀ a, (s.setAna i x).region a = s.region a) ∧ (∀ a, (s.setAna i x).modem a = s.modem a) ∧
    (∀ a, (s.setAna i x).grp a = s.grp a) ∧ (∀ a, (s.setAna i x).canBus a = s.canBus a) ∧
    (∀ a, (s.setAna i x).serLine a = s.serLine a) ∧ (∀ a, (s.setAna i x).inSlot a = s.inSlot a) ∧
    (∀ a, (s.setAna i x).outSlot a = s.outSlot a) ∧ (∀ a, (s.setAna i x).isBad a = s.isBad a) ∧
    (s.setAna i x).holds = s.holds ∧ (s.setAna i x).running = s.running ∧ (s.setAna i x).epoch = s.epoch ∧
    (s.setAna i x).ticking = s.ticking :=
  by and_intros <;> first | rfl | exact fun _ => rfl

/-- `setModem` leaves every field but modems. -/
@[simp] theorem State.setModem_fields (i : Nat) (x : Modem) :
    (s.setModem i x).regs = s.regs ∧ (s.setModem i x).latches = s.latches ∧ (s.setModem i x).mem = s.mem ∧
    (s.setModem i x).bad = s.bad ∧ (s.setModem i x).inImg = s.inImg ∧ (s.setModem i x).outImg = s.outImg ∧
    (s.setModem i x).localOwn = s.localOwn ∧ (s.setModem i x).committed = s.committed ∧
    (s.setModem i x).committedPrev = s.committedPrev ∧ (s.setModem i x).tasks = s.tasks ∧
    (s.setModem i x).classes = s.classes ∧ (s.setModem i x).cores = s.cores ∧ (s.setModem i x).check = s.check ∧
    (s.setModem i x).masters = s.masters ∧ (s.setModem i x).axes = s.axes ∧ (s.setModem i x).image = s.image ∧
    (s.setModem i x).loader = s.loader ∧ (s.setModem i x).bank0 = s.bank0 ∧ (s.setModem i x).bank1 = s.bank1 ∧
    (s.setModem i x).activeRec = s.activeRec ∧ (s.setModem i x).opnum = s.opnum ∧
    (s.setModem i x).recorder = s.recorder ∧ (s.setModem i x).journal = s.journal ∧
    (s.setModem i x).sessCtr = s.sessCtr ∧ (s.setModem i x).sessions = s.sessions ∧
    (s.setModem i x).probeAt = s.probeAt ∧ (s.setModem i x).nacks = s.nacks ∧
    (s.setModem i x).svcFrames = s.svcFrames ∧ (s.setModem i x).pair = s.pair ∧ (s.setModem i x).resync = s.resync ∧
    (s.setModem i x).time = s.time ∧ (s.setModem i x).rings = s.rings ∧ (s.setModem i x).guards = s.guards ∧
    (s.setModem i x).guardDue = s.guardDue ∧ (s.setModem i x).xfer = s.xfer ∧ (s.setModem i x).ana = s.ana ∧
    (s.setModem i x).conv = s.conv ∧ (s.setModem i x).trim = s.trim ∧ (s.setModem i x).dio = s.dio ∧
    (s.setModem i x).can = s.can ∧ (s.setModem i x).ser = s.ser ∧ (s.setModem i x).retained = s.retained ∧
    (s.setModem i x).retDirty = s.retDirty ∧ (s.setModem i x).footA = s.footA ∧ (s.setModem i x).footB = s.footB ∧
    (s.setModem i x).retSnap = s.retSnap ∧ (s.setModem i x).acts = s.acts ∧ (s.setModem i x).actNext = s.actNext ∧
    (s.setModem i x).power = s.power ∧ (s.setModem i x).skerry = s.skerry ∧ (s.setModem i x).panel = s.panel ∧
    (s.setModem i x).outbox = s.outbox ∧ (s.setModem i x).pending = s.pending :=
  by and_intros <;> rfl

/-- What reads as before after `setModem`. -/
@[simp] theorem State.setModem_reads (i : Nat) (x : Modem) :
    (∀ a, (s.setModem i x).reg a = s.reg a) ∧ (∀ a, (s.setModem i x).fld a = s.fld a) ∧
    (∀ a, (s.setModem i x).flag a = s.flag a) ∧ (∀ a, (s.setModem i x).dword a = s.dword a) ∧
    (s.setModem i x).tick = s.tick ∧ (s.setModem i x).now = s.now ∧ (s.setModem i x).mode = s.mode ∧
    (∀ a, (s.setModem i x).dom a = s.dom a) ∧ (s.setModem i x).coreMode = s.coreMode ∧
    (∀ a, (s.setModem i x).task a = s.task a) ∧ (∀ a, (s.setModem i x).cls a = s.cls a) ∧
    (∀ a, (s.setModem i x).core a = s.core a) ∧ (∀ a, (s.setModem i x).master a = s.master a) ∧
    (∀ a, (s.setModem i x).axis a = s.axis a) ∧ (∀ a, (s.setModem i x).sess a = s.sess a) ∧
    (∀ a, (s.setModem i x).ring a = s.ring a) ∧ (∀ a, (s.setModem i x).chan a = s.chan a) ∧
    (∀ a, (s.setModem i x).region a = s.region a) ∧ (∀ a, (s.setModem i x).anaCh a = s.anaCh a) ∧
    (∀ a, (s.setModem i x).grp a = s.grp a) ∧ (∀ a, (s.setModem i x).canBus a = s.canBus a) ∧
    (∀ a, (s.setModem i x).serLine a = s.serLine a) ∧ (∀ a, (s.setModem i x).inSlot a = s.inSlot a) ∧
    (∀ a, (s.setModem i x).outSlot a = s.outSlot a) ∧ (∀ a, (s.setModem i x).isBad a = s.isBad a) ∧
    (s.setModem i x).holds = s.holds ∧ (s.setModem i x).running = s.running ∧ (s.setModem i x).epoch = s.epoch ∧
    (s.setModem i x).ticking = s.ticking :=
  by and_intros <;> first | rfl | exact fun _ => rfl

/-- `setGrp` leaves every field but conv. -/
@[simp] theorem State.setGrp_fields (i : Nat) (x : ConvGrp) :
    (s.setGrp i x).regs = s.regs ∧ (s.setGrp i x).latches = s.latches ∧ (s.setGrp i x).mem = s.mem ∧
    (s.setGrp i x).bad = s.bad ∧ (s.setGrp i x).inImg = s.inImg ∧ (s.setGrp i x).outImg = s.outImg ∧
    (s.setGrp i x).localOwn = s.localOwn ∧ (s.setGrp i x).committed = s.committed ∧
    (s.setGrp i x).committedPrev = s.committedPrev ∧ (s.setGrp i x).tasks = s.tasks ∧
    (s.setGrp i x).classes = s.classes ∧ (s.setGrp i x).cores = s.cores ∧ (s.setGrp i x).check = s.check ∧
    (s.setGrp i x).masters = s.masters ∧ (s.setGrp i x).axes = s.axes ∧ (s.setGrp i x).image = s.image ∧
    (s.setGrp i x).loader = s.loader ∧ (s.setGrp i x).bank0 = s.bank0 ∧ (s.setGrp i x).bank1 = s.bank1 ∧
    (s.setGrp i x).activeRec = s.activeRec ∧ (s.setGrp i x).opnum = s.opnum ∧ (s.setGrp i x).recorder = s.recorder ∧
    (s.setGrp i x).journal = s.journal ∧ (s.setGrp i x).sessCtr = s.sessCtr ∧ (s.setGrp i x).sessions = s.sessions ∧
    (s.setGrp i x).probeAt = s.probeAt ∧ (s.setGrp i x).nacks = s.nacks ∧ (s.setGrp i x).svcFrames = s.svcFrames ∧
    (s.setGrp i x).pair = s.pair ∧ (s.setGrp i x).resync = s.resync ∧ (s.setGrp i x).time = s.time ∧
    (s.setGrp i x).rings = s.rings ∧ (s.setGrp i x).guards = s.guards ∧ (s.setGrp i x).guardDue = s.guardDue ∧
    (s.setGrp i x).xfer = s.xfer ∧ (s.setGrp i x).ana = s.ana ∧ (s.setGrp i x).modems = s.modems ∧
    (s.setGrp i x).trim = s.trim ∧ (s.setGrp i x).dio = s.dio ∧ (s.setGrp i x).can = s.can ∧
    (s.setGrp i x).ser = s.ser ∧ (s.setGrp i x).retained = s.retained ∧ (s.setGrp i x).retDirty = s.retDirty ∧
    (s.setGrp i x).footA = s.footA ∧ (s.setGrp i x).footB = s.footB ∧ (s.setGrp i x).retSnap = s.retSnap ∧
    (s.setGrp i x).acts = s.acts ∧ (s.setGrp i x).actNext = s.actNext ∧ (s.setGrp i x).power = s.power ∧
    (s.setGrp i x).skerry = s.skerry ∧ (s.setGrp i x).panel = s.panel ∧ (s.setGrp i x).outbox = s.outbox ∧
    (s.setGrp i x).pending = s.pending :=
  by and_intros <;> rfl

/-- What reads as before after `setGrp`. -/
@[simp] theorem State.setGrp_reads (i : Nat) (x : ConvGrp) :
    (∀ a, (s.setGrp i x).reg a = s.reg a) ∧ (∀ a, (s.setGrp i x).fld a = s.fld a) ∧
    (∀ a, (s.setGrp i x).flag a = s.flag a) ∧ (∀ a, (s.setGrp i x).dword a = s.dword a) ∧
    (s.setGrp i x).tick = s.tick ∧ (s.setGrp i x).now = s.now ∧ (s.setGrp i x).mode = s.mode ∧
    (∀ a, (s.setGrp i x).dom a = s.dom a) ∧ (s.setGrp i x).coreMode = s.coreMode ∧
    (∀ a, (s.setGrp i x).task a = s.task a) ∧ (∀ a, (s.setGrp i x).cls a = s.cls a) ∧
    (∀ a, (s.setGrp i x).core a = s.core a) ∧ (∀ a, (s.setGrp i x).master a = s.master a) ∧
    (∀ a, (s.setGrp i x).axis a = s.axis a) ∧ (∀ a, (s.setGrp i x).sess a = s.sess a) ∧
    (∀ a, (s.setGrp i x).ring a = s.ring a) ∧ (∀ a, (s.setGrp i x).chan a = s.chan a) ∧
    (∀ a, (s.setGrp i x).region a = s.region a) ∧ (∀ a, (s.setGrp i x).anaCh a = s.anaCh a) ∧
    (∀ a, (s.setGrp i x).modem a = s.modem a) ∧ (∀ a, (s.setGrp i x).canBus a = s.canBus a) ∧
    (∀ a, (s.setGrp i x).serLine a = s.serLine a) ∧ (∀ a, (s.setGrp i x).inSlot a = s.inSlot a) ∧
    (∀ a, (s.setGrp i x).outSlot a = s.outSlot a) ∧ (∀ a, (s.setGrp i x).isBad a = s.isBad a) ∧
    (s.setGrp i x).holds = s.holds ∧ (s.setGrp i x).running = s.running ∧ (s.setGrp i x).epoch = s.epoch ∧
    (s.setGrp i x).ticking = s.ticking :=
  by and_intros <;> first | rfl | exact fun _ => rfl

/-- `setCan` leaves every field but can. -/
@[simp] theorem State.setCan_fields (i : Nat) (x : CanSt) :
    (s.setCan i x).regs = s.regs ∧ (s.setCan i x).latches = s.latches ∧ (s.setCan i x).mem = s.mem ∧
    (s.setCan i x).bad = s.bad ∧ (s.setCan i x).inImg = s.inImg ∧ (s.setCan i x).outImg = s.outImg ∧
    (s.setCan i x).localOwn = s.localOwn ∧ (s.setCan i x).committed = s.committed ∧
    (s.setCan i x).committedPrev = s.committedPrev ∧ (s.setCan i x).tasks = s.tasks ∧
    (s.setCan i x).classes = s.classes ∧ (s.setCan i x).cores = s.cores ∧ (s.setCan i x).check = s.check ∧
    (s.setCan i x).masters = s.masters ∧ (s.setCan i x).axes = s.axes ∧ (s.setCan i x).image = s.image ∧
    (s.setCan i x).loader = s.loader ∧ (s.setCan i x).bank0 = s.bank0 ∧ (s.setCan i x).bank1 = s.bank1 ∧
    (s.setCan i x).activeRec = s.activeRec ∧ (s.setCan i x).opnum = s.opnum ∧ (s.setCan i x).recorder = s.recorder ∧
    (s.setCan i x).journal = s.journal ∧ (s.setCan i x).sessCtr = s.sessCtr ∧ (s.setCan i x).sessions = s.sessions ∧
    (s.setCan i x).probeAt = s.probeAt ∧ (s.setCan i x).nacks = s.nacks ∧ (s.setCan i x).svcFrames = s.svcFrames ∧
    (s.setCan i x).pair = s.pair ∧ (s.setCan i x).resync = s.resync ∧ (s.setCan i x).time = s.time ∧
    (s.setCan i x).rings = s.rings ∧ (s.setCan i x).guards = s.guards ∧ (s.setCan i x).guardDue = s.guardDue ∧
    (s.setCan i x).xfer = s.xfer ∧ (s.setCan i x).ana = s.ana ∧ (s.setCan i x).modems = s.modems ∧
    (s.setCan i x).conv = s.conv ∧ (s.setCan i x).trim = s.trim ∧ (s.setCan i x).dio = s.dio ∧
    (s.setCan i x).ser = s.ser ∧ (s.setCan i x).retained = s.retained ∧ (s.setCan i x).retDirty = s.retDirty ∧
    (s.setCan i x).footA = s.footA ∧ (s.setCan i x).footB = s.footB ∧ (s.setCan i x).retSnap = s.retSnap ∧
    (s.setCan i x).acts = s.acts ∧ (s.setCan i x).actNext = s.actNext ∧ (s.setCan i x).power = s.power ∧
    (s.setCan i x).skerry = s.skerry ∧ (s.setCan i x).panel = s.panel ∧ (s.setCan i x).outbox = s.outbox ∧
    (s.setCan i x).pending = s.pending :=
  by and_intros <;> rfl

/-- What reads as before after `setCan`. -/
@[simp] theorem State.setCan_reads (i : Nat) (x : CanSt) :
    (∀ a, (s.setCan i x).reg a = s.reg a) ∧ (∀ a, (s.setCan i x).fld a = s.fld a) ∧
    (∀ a, (s.setCan i x).flag a = s.flag a) ∧ (∀ a, (s.setCan i x).dword a = s.dword a) ∧
    (s.setCan i x).tick = s.tick ∧ (s.setCan i x).now = s.now ∧ (s.setCan i x).mode = s.mode ∧
    (∀ a, (s.setCan i x).dom a = s.dom a) ∧ (s.setCan i x).coreMode = s.coreMode ∧
    (∀ a, (s.setCan i x).task a = s.task a) ∧ (∀ a, (s.setCan i x).cls a = s.cls a) ∧
    (∀ a, (s.setCan i x).core a = s.core a) ∧ (∀ a, (s.setCan i x).master a = s.master a) ∧
    (∀ a, (s.setCan i x).axis a = s.axis a) ∧ (∀ a, (s.setCan i x).sess a = s.sess a) ∧
    (∀ a, (s.setCan i x).ring a = s.ring a) ∧ (∀ a, (s.setCan i x).chan a = s.chan a) ∧
    (∀ a, (s.setCan i x).region a = s.region a) ∧ (∀ a, (s.setCan i x).anaCh a = s.anaCh a) ∧
    (∀ a, (s.setCan i x).modem a = s.modem a) ∧ (∀ a, (s.setCan i x).grp a = s.grp a) ∧
    (∀ a, (s.setCan i x).serLine a = s.serLine a) ∧ (∀ a, (s.setCan i x).inSlot a = s.inSlot a) ∧
    (∀ a, (s.setCan i x).outSlot a = s.outSlot a) ∧ (∀ a, (s.setCan i x).isBad a = s.isBad a) ∧
    (s.setCan i x).holds = s.holds ∧ (s.setCan i x).running = s.running ∧ (s.setCan i x).epoch = s.epoch ∧
    (s.setCan i x).ticking = s.ticking :=
  by and_intros <;> first | rfl | exact fun _ => rfl

/-- `setSer` leaves every field but ser. -/
@[simp] theorem State.setSer_fields (i : Nat) (x : SerSt) :
    (s.setSer i x).regs = s.regs ∧ (s.setSer i x).latches = s.latches ∧ (s.setSer i x).mem = s.mem ∧
    (s.setSer i x).bad = s.bad ∧ (s.setSer i x).inImg = s.inImg ∧ (s.setSer i x).outImg = s.outImg ∧
    (s.setSer i x).localOwn = s.localOwn ∧ (s.setSer i x).committed = s.committed ∧
    (s.setSer i x).committedPrev = s.committedPrev ∧ (s.setSer i x).tasks = s.tasks ∧
    (s.setSer i x).classes = s.classes ∧ (s.setSer i x).cores = s.cores ∧ (s.setSer i x).check = s.check ∧
    (s.setSer i x).masters = s.masters ∧ (s.setSer i x).axes = s.axes ∧ (s.setSer i x).image = s.image ∧
    (s.setSer i x).loader = s.loader ∧ (s.setSer i x).bank0 = s.bank0 ∧ (s.setSer i x).bank1 = s.bank1 ∧
    (s.setSer i x).activeRec = s.activeRec ∧ (s.setSer i x).opnum = s.opnum ∧ (s.setSer i x).recorder = s.recorder ∧
    (s.setSer i x).journal = s.journal ∧ (s.setSer i x).sessCtr = s.sessCtr ∧ (s.setSer i x).sessions = s.sessions ∧
    (s.setSer i x).probeAt = s.probeAt ∧ (s.setSer i x).nacks = s.nacks ∧ (s.setSer i x).svcFrames = s.svcFrames ∧
    (s.setSer i x).pair = s.pair ∧ (s.setSer i x).resync = s.resync ∧ (s.setSer i x).time = s.time ∧
    (s.setSer i x).rings = s.rings ∧ (s.setSer i x).guards = s.guards ∧ (s.setSer i x).guardDue = s.guardDue ∧
    (s.setSer i x).xfer = s.xfer ∧ (s.setSer i x).ana = s.ana ∧ (s.setSer i x).modems = s.modems ∧
    (s.setSer i x).conv = s.conv ∧ (s.setSer i x).trim = s.trim ∧ (s.setSer i x).dio = s.dio ∧
    (s.setSer i x).can = s.can ∧ (s.setSer i x).retained = s.retained ∧ (s.setSer i x).retDirty = s.retDirty ∧
    (s.setSer i x).footA = s.footA ∧ (s.setSer i x).footB = s.footB ∧ (s.setSer i x).retSnap = s.retSnap ∧
    (s.setSer i x).acts = s.acts ∧ (s.setSer i x).actNext = s.actNext ∧ (s.setSer i x).power = s.power ∧
    (s.setSer i x).skerry = s.skerry ∧ (s.setSer i x).panel = s.panel ∧ (s.setSer i x).outbox = s.outbox ∧
    (s.setSer i x).pending = s.pending :=
  by and_intros <;> rfl

/-- What reads as before after `setSer`. -/
@[simp] theorem State.setSer_reads (i : Nat) (x : SerSt) :
    (∀ a, (s.setSer i x).reg a = s.reg a) ∧ (∀ a, (s.setSer i x).fld a = s.fld a) ∧
    (∀ a, (s.setSer i x).flag a = s.flag a) ∧ (∀ a, (s.setSer i x).dword a = s.dword a) ∧
    (s.setSer i x).tick = s.tick ∧ (s.setSer i x).now = s.now ∧ (s.setSer i x).mode = s.mode ∧
    (∀ a, (s.setSer i x).dom a = s.dom a) ∧ (s.setSer i x).coreMode = s.coreMode ∧
    (∀ a, (s.setSer i x).task a = s.task a) ∧ (∀ a, (s.setSer i x).cls a = s.cls a) ∧
    (∀ a, (s.setSer i x).core a = s.core a) ∧ (∀ a, (s.setSer i x).master a = s.master a) ∧
    (∀ a, (s.setSer i x).axis a = s.axis a) ∧ (∀ a, (s.setSer i x).sess a = s.sess a) ∧
    (∀ a, (s.setSer i x).ring a = s.ring a) ∧ (∀ a, (s.setSer i x).chan a = s.chan a) ∧
    (∀ a, (s.setSer i x).region a = s.region a) ∧ (∀ a, (s.setSer i x).anaCh a = s.anaCh a) ∧
    (∀ a, (s.setSer i x).modem a = s.modem a) ∧ (∀ a, (s.setSer i x).grp a = s.grp a) ∧
    (∀ a, (s.setSer i x).canBus a = s.canBus a) ∧ (∀ a, (s.setSer i x).inSlot a = s.inSlot a) ∧
    (∀ a, (s.setSer i x).outSlot a = s.outSlot a) ∧ (∀ a, (s.setSer i x).isBad a = s.isBad a) ∧
    (s.setSer i x).holds = s.holds ∧ (s.setSer i x).running = s.running ∧ (s.setSer i x).epoch = s.epoch ∧
    (s.setSer i x).ticking = s.ticking :=
  by and_intros <;> first | rfl | exact fun _ => rfl

/-- `setIn` leaves every field but inImg. -/
@[simp] theorem State.setIn_fields (i : Nat) (x : Slot) :
    (s.setIn i x).regs = s.regs ∧ (s.setIn i x).latches = s.latches ∧ (s.setIn i x).mem = s.mem ∧
    (s.setIn i x).bad = s.bad ∧ (s.setIn i x).outImg = s.outImg ∧ (s.setIn i x).localOwn = s.localOwn ∧
    (s.setIn i x).committed = s.committed ∧ (s.setIn i x).committedPrev = s.committedPrev ∧
    (s.setIn i x).tasks = s.tasks ∧ (s.setIn i x).classes = s.classes ∧ (s.setIn i x).cores = s.cores ∧
    (s.setIn i x).check = s.check ∧ (s.setIn i x).masters = s.masters ∧ (s.setIn i x).axes = s.axes ∧
    (s.setIn i x).image = s.image ∧ (s.setIn i x).loader = s.loader ∧ (s.setIn i x).bank0 = s.bank0 ∧
    (s.setIn i x).bank1 = s.bank1 ∧ (s.setIn i x).activeRec = s.activeRec ∧ (s.setIn i x).opnum = s.opnum ∧
    (s.setIn i x).recorder = s.recorder ∧ (s.setIn i x).journal = s.journal ∧ (s.setIn i x).sessCtr = s.sessCtr ∧
    (s.setIn i x).sessions = s.sessions ∧ (s.setIn i x).probeAt = s.probeAt ∧ (s.setIn i x).nacks = s.nacks ∧
    (s.setIn i x).svcFrames = s.svcFrames ∧ (s.setIn i x).pair = s.pair ∧ (s.setIn i x).resync = s.resync ∧
    (s.setIn i x).time = s.time ∧ (s.setIn i x).rings = s.rings ∧ (s.setIn i x).guards = s.guards ∧
    (s.setIn i x).guardDue = s.guardDue ∧ (s.setIn i x).xfer = s.xfer ∧ (s.setIn i x).ana = s.ana ∧
    (s.setIn i x).modems = s.modems ∧ (s.setIn i x).conv = s.conv ∧ (s.setIn i x).trim = s.trim ∧
    (s.setIn i x).dio = s.dio ∧ (s.setIn i x).can = s.can ∧ (s.setIn i x).ser = s.ser ∧
    (s.setIn i x).retained = s.retained ∧ (s.setIn i x).retDirty = s.retDirty ∧ (s.setIn i x).footA = s.footA ∧
    (s.setIn i x).footB = s.footB ∧ (s.setIn i x).retSnap = s.retSnap ∧ (s.setIn i x).acts = s.acts ∧
    (s.setIn i x).actNext = s.actNext ∧ (s.setIn i x).power = s.power ∧ (s.setIn i x).skerry = s.skerry ∧
    (s.setIn i x).panel = s.panel ∧ (s.setIn i x).outbox = s.outbox ∧ (s.setIn i x).pending = s.pending :=
  by and_intros <;> rfl

/-- What reads as before after `setIn`. -/
@[simp] theorem State.setIn_reads (i : Nat) (x : Slot) :
    (∀ a, (s.setIn i x).reg a = s.reg a) ∧ (∀ a, (s.setIn i x).fld a = s.fld a) ∧
    (∀ a, (s.setIn i x).flag a = s.flag a) ∧ (∀ a, (s.setIn i x).dword a = s.dword a) ∧ (s.setIn i x).tick = s.tick ∧
    (s.setIn i x).now = s.now ∧ (s.setIn i x).mode = s.mode ∧ (∀ a, (s.setIn i x).dom a = s.dom a) ∧
    (s.setIn i x).coreMode = s.coreMode ∧ (∀ a, (s.setIn i x).task a = s.task a) ∧
    (∀ a, (s.setIn i x).cls a = s.cls a) ∧ (∀ a, (s.setIn i x).core a = s.core a) ∧
    (∀ a, (s.setIn i x).master a = s.master a) ∧ (∀ a, (s.setIn i x).axis a = s.axis a) ∧
    (∀ a, (s.setIn i x).sess a = s.sess a) ∧ (∀ a, (s.setIn i x).ring a = s.ring a) ∧
    (∀ a, (s.setIn i x).chan a = s.chan a) ∧ (∀ a, (s.setIn i x).region a = s.region a) ∧
    (∀ a, (s.setIn i x).anaCh a = s.anaCh a) ∧ (∀ a, (s.setIn i x).modem a = s.modem a) ∧
    (∀ a, (s.setIn i x).grp a = s.grp a) ∧ (∀ a, (s.setIn i x).canBus a = s.canBus a) ∧
    (∀ a, (s.setIn i x).serLine a = s.serLine a) ∧ (∀ a, (s.setIn i x).outSlot a = s.outSlot a) ∧
    (∀ a, (s.setIn i x).isBad a = s.isBad a) ∧ (s.setIn i x).holds = s.holds ∧ (s.setIn i x).running = s.running ∧
    (s.setIn i x).epoch = s.epoch ∧ (s.setIn i x).ticking = s.ticking :=
  by and_intros <;> first | rfl | exact fun _ => rfl

/-- `setOut` leaves every field but outImg. -/
@[simp] theorem State.setOut_fields (i : Nat) (x : Slot) :
    (s.setOut i x).regs = s.regs ∧ (s.setOut i x).latches = s.latches ∧ (s.setOut i x).mem = s.mem ∧
    (s.setOut i x).bad = s.bad ∧ (s.setOut i x).inImg = s.inImg ∧ (s.setOut i x).localOwn = s.localOwn ∧
    (s.setOut i x).committed = s.committed ∧ (s.setOut i x).committedPrev = s.committedPrev ∧
    (s.setOut i x).tasks = s.tasks ∧ (s.setOut i x).classes = s.classes ∧ (s.setOut i x).cores = s.cores ∧
    (s.setOut i x).check = s.check ∧ (s.setOut i x).masters = s.masters ∧ (s.setOut i x).axes = s.axes ∧
    (s.setOut i x).image = s.image ∧ (s.setOut i x).loader = s.loader ∧ (s.setOut i x).bank0 = s.bank0 ∧
    (s.setOut i x).bank1 = s.bank1 ∧ (s.setOut i x).activeRec = s.activeRec ∧ (s.setOut i x).opnum = s.opnum ∧
    (s.setOut i x).recorder = s.recorder ∧ (s.setOut i x).journal = s.journal ∧ (s.setOut i x).sessCtr = s.sessCtr ∧
    (s.setOut i x).sessions = s.sessions ∧ (s.setOut i x).probeAt = s.probeAt ∧ (s.setOut i x).nacks = s.nacks ∧
    (s.setOut i x).svcFrames = s.svcFrames ∧ (s.setOut i x).pair = s.pair ∧ (s.setOut i x).resync = s.resync ∧
    (s.setOut i x).time = s.time ∧ (s.setOut i x).rings = s.rings ∧ (s.setOut i x).guards = s.guards ∧
    (s.setOut i x).guardDue = s.guardDue ∧ (s.setOut i x).xfer = s.xfer ∧ (s.setOut i x).ana = s.ana ∧
    (s.setOut i x).modems = s.modems ∧ (s.setOut i x).conv = s.conv ∧ (s.setOut i x).trim = s.trim ∧
    (s.setOut i x).dio = s.dio ∧ (s.setOut i x).can = s.can ∧ (s.setOut i x).ser = s.ser ∧
    (s.setOut i x).retained = s.retained ∧ (s.setOut i x).retDirty = s.retDirty ∧ (s.setOut i x).footA = s.footA ∧
    (s.setOut i x).footB = s.footB ∧ (s.setOut i x).retSnap = s.retSnap ∧ (s.setOut i x).acts = s.acts ∧
    (s.setOut i x).actNext = s.actNext ∧ (s.setOut i x).power = s.power ∧ (s.setOut i x).skerry = s.skerry ∧
    (s.setOut i x).panel = s.panel ∧ (s.setOut i x).outbox = s.outbox ∧ (s.setOut i x).pending = s.pending :=
  by and_intros <;> rfl

/-- What reads as before after `setOut`. -/
@[simp] theorem State.setOut_reads (i : Nat) (x : Slot) :
    (∀ a, (s.setOut i x).reg a = s.reg a) ∧ (∀ a, (s.setOut i x).fld a = s.fld a) ∧
    (∀ a, (s.setOut i x).flag a = s.flag a) ∧ (∀ a, (s.setOut i x).dword a = s.dword a) ∧
    (s.setOut i x).tick = s.tick ∧ (s.setOut i x).now = s.now ∧ (s.setOut i x).mode = s.mode ∧
    (∀ a, (s.setOut i x).dom a = s.dom a) ∧ (s.setOut i x).coreMode = s.coreMode ∧
    (∀ a, (s.setOut i x).task a = s.task a) ∧ (∀ a, (s.setOut i x).cls a = s.cls a) ∧
    (∀ a, (s.setOut i x).core a = s.core a) ∧ (∀ a, (s.setOut i x).master a = s.master a) ∧
    (∀ a, (s.setOut i x).axis a = s.axis a) ∧ (∀ a, (s.setOut i x).sess a = s.sess a) ∧
    (∀ a, (s.setOut i x).ring a = s.ring a) ∧ (∀ a, (s.setOut i x).chan a = s.chan a) ∧
    (∀ a, (s.setOut i x).region a = s.region a) ∧ (∀ a, (s.setOut i x).anaCh a = s.anaCh a) ∧
    (∀ a, (s.setOut i x).modem a = s.modem a) ∧ (∀ a, (s.setOut i x).grp a = s.grp a) ∧
    (∀ a, (s.setOut i x).canBus a = s.canBus a) ∧ (∀ a, (s.setOut i x).serLine a = s.serLine a) ∧
    (∀ a, (s.setOut i x).inSlot a = s.inSlot a) ∧ (∀ a, (s.setOut i x).isBad a = s.isBad a) ∧
    (s.setOut i x).holds = s.holds ∧ (s.setOut i x).running = s.running ∧ (s.setOut i x).epoch = s.epoch ∧
    (s.setOut i x).ticking = s.ticking :=
  by and_intros <;> first | rfl | exact fun _ => rfl

@[simp] theorem State.task_setTask (i a : Nat) (x : TaskSt) : (s.setTask i x).task a = if a = i then x else s.task a :=
  Sparse.get_set _ i a x _

@[simp] theorem State.cls_setCls (i a : Nat) (x : ClassSt) : (s.setCls i x).cls a = if a = i then x else s.cls a :=
  Sparse.get_set _ i a x _

@[simp] theorem State.core_setCore (i a : Nat) (x : CoreSt) : (s.setCore i x).core a = if a = i then x else s.core a :=
  Sparse.get_set _ i a x _

@[simp] theorem State.master_setMaster (i a : Nat) (x : MasterSt) : (s.setMaster i x).master a = if a = i then x else s.master a :=
  Sparse.get_set _ i a x _

@[simp] theorem State.axis_setAxis (i a : Nat) (x : AxisSt) : (s.setAxis i x).axis a = if a = i then x else s.axis a :=
  Sparse.get_set _ i a x _

@[simp] theorem State.sess_setSess (i a : Nat) (x : Session) : (s.setSess i x).sess a = if a = i then x else s.sess a :=
  Sparse.get_set _ i a x _

@[simp] theorem State.ring_setRing (i a : Nat) (x : RingSt) : (s.setRing i x).ring a = if a = i then x else s.ring a :=
  Sparse.get_set _ i a x _

@[simp] theorem State.chan_setChan (i a : Nat) (x : XferCh) : (s.setChan i x).chan a = if a = i then x else s.chan a :=
  Sparse.get_set _ i a x _

@[simp] theorem State.region_setRegion (i a : Nat) (x : Region) : (s.setRegion i x).region a = if a = i then x else s.region a :=
  Sparse.get_set _ i a x _

@[simp] theorem State.anaCh_setAna (i a : Nat) (x : AnaSt) : (s.setAna i x).anaCh a = if a = i then x else s.anaCh a :=
  Sparse.get_set _ i a x _

@[simp] theorem State.modem_setModem (i a : Nat) (x : Modem) : (s.setModem i x).modem a = if a = i then x else s.modem a :=
  Sparse.get_set _ i a x _

@[simp] theorem State.grp_setGrp (i a : Nat) (x : ConvGrp) : (s.setGrp i x).grp a = if a = i then x else s.grp a :=
  Sparse.get_set _ i a x _

@[simp] theorem State.canBus_setCan (i a : Nat) (x : CanSt) : (s.setCan i x).canBus a = if a = i then x else s.canBus a :=
  Sparse.get_set _ i a x _

@[simp] theorem State.serLine_setSer (i a : Nat) (x : SerSt) : (s.setSer i x).serLine a = if a = i then x else s.serLine a :=
  Sparse.get_set _ i a x _

@[simp] theorem State.inSlot_setIn (i a : Nat) (x : Slot) : (s.setIn i x).inSlot a = if a = i then x else s.inSlot a :=
  Sparse.get_set _ i a x _

@[simp] theorem State.outSlot_setOut (i a : Nat) (x : Slot) : (s.setOut i x).outSlot a = if a = i then x else s.outSlot a :=
  Sparse.get_set _ i a x _

/-- A register read after a register write. -/
theorem State.reg_setReg (k a : Nat) (v : Word) : (s.setReg k v).reg a = if a = k then v else s.reg a :=
  Sparse.get_set _ k a v _

@[simp] theorem State.reg_setReg_same (k : Nat) (v : Word) : (s.setReg k v).reg k = v := by
  simp [State.reg_setReg]

theorem State.reg_setReg_other {k a : Nat} (v : Word) (h : a ≠ k) : (s.setReg k v).reg a = s.reg a := by
  simp [State.reg_setReg, h]

/-- Setting a field leaves every other register. -/
theorem State.reg_setFld_other {f : Fld} {a : Nat} (v : Nat) (h : a ≠ f.reg) : (s.setFld f v).reg a = s.reg a :=
  State.reg_setReg_other s _ h

end Sys2Proof.Machine
end

