-- ==== Sys2Proof/Laws/Bits.lean ====
section
/-! SUPPORT. Laws of bit fields (R2): a field read after it is set, and the other fields of its register. -/

namespace Sys2Proof.Machine

open Sys2Proof

/-- Bit `i` of a mask is set between the ends of the field. -/
theorem fieldMask_bit (hi lo i : Nat) :
    (fieldMask hi lo).getLsbD i = (decide (i < 32) && decide (lo ≤ i) && decide (i < hi + 1)) := by
  unfold fieldMask
  rw [BitVec.getLsbD_ofNat, Nat.testBit_shiftLeft, Nat.testBit_two_pow_sub_one]
  by_cases h : lo ≤ i
  · have : (i - lo < hi + 1 - lo) ↔ (i < hi + 1) := by omega
    simp [h, this]
  · simp [h]

/-- Bit `i` of a field. -/
theorem getBits_bit (w : Word) (hi lo i : Nat) :
    (getBits w hi lo).testBit i = (decide (i < hi + 1 - lo) && w.getLsbD (lo + i)) := by
  unfold getBits
  rw [Nat.testBit_mod_two_pow, Nat.testBit_shiftRight]
  rfl

/-- Bit `i` of a word with a field replaced. -/
theorem setBits_bit (w : Word) (hi lo v i : Nat) :
    (setBits w hi lo v).getLsbD i =
      if decide (i < 32) && decide (lo ≤ i) && decide (i < hi + 1) then v.testBit (i - lo) else w.getLsbD i := by
  unfold setBits
  rw [BitVec.getLsbD_or, BitVec.getLsbD_and, BitVec.getLsbD_and, BitVec.getLsbD_not, fieldMask_bit,
    BitVec.getLsbD_ofNat, Nat.testBit_shiftLeft]
  by_cases h32 : i < 32
  · by_cases hlo : lo ≤ i <;> by_cases hhi : i < hi + 1 <;> simp [h32, hlo, hhi]
  · simp [h32, BitVec.getLsbD_of_ge w i (by omega)]

/-- A field reads the value set, cut to its width. -/
theorem getBits_setBits (w : Word) {hi lo : Nat} (v : Nat) (h : hi < 32) :
    getBits (setBits w hi lo v) hi lo = v % 2 ^ (hi + 1 - lo) := by
  apply Nat.eq_of_testBit_eq
  intro i
  rw [getBits_bit, setBits_bit, Nat.testBit_mod_two_pow]
  by_cases hi' : i < hi + 1 - lo
  · have h1 : lo + i < 32 := by omega
    have h2 : lo + i < hi + 1 := by omega
    simp [hi', h1, h2]
  · simp [hi']

/-- Setting a field leaves a field that shares no bit with it. -/
theorem getBits_setBits_other (w : Word) {hi lo hi' lo' : Nat} (v : Nat) (h : hi' < lo ∨ hi < lo') :
    getBits (setBits w hi lo v) hi' lo' = getBits w hi' lo' := by
  apply Nat.eq_of_testBit_eq
  intro i
  rw [getBits_bit, setBits_bit, getBits_bit]
  by_cases hi2 : i < hi' + 1 - lo'
  · have : ¬ (lo ≤ lo' + i ∧ lo' + i < hi + 1) := by omega
    by_cases ha : lo ≤ lo' + i
    · have hb : ¬ lo' + i < hi + 1 := fun hc => this ⟨ha, hc⟩
      simp [hi2, ha, hb]
    · simp [hi2, ha]
  · simp [hi2]

/-- A field of the state reads the value set, cut to its width. -/
theorem State.fld_setFld_same (s : State) (f : Fld) (v : Nat) (h : f.hi < 32) :
    (s.setFld f v).fld f = v % 2 ^ (f.hi + 1 - f.lo) := by
  unfold State.fld State.setFld
  rw [State.reg_setReg_same, getBits_setBits _ _ h]

/-- Setting a field leaves a field of another register, or one that shares no bit with it. -/
theorem State.fld_setFld_other (s : State) (f g : Fld) (v : Nat)
    (h : g.reg ≠ f.reg ∨ g.hi < f.lo ∨ f.hi < g.lo) : (s.setFld f v).fld g = s.fld g := by
  unfold State.fld State.setFld
  by_cases hr : g.reg = f.reg
  · rw [hr, State.reg_setReg_same]
    exact getBits_setBits_other _ _ (h.resolve_left (fun hn => hn hr))
  · rw [State.reg_setReg_other _ _ hr]

/-- A flag reads the value set. -/
theorem State.flag_setFlag_same (s : State) (f : Fld) (b : Bool) (h : f.hi < 32) (hl : f.lo ≤ f.hi) :
    (s.setFlag f b).flag f = b := by
  unfold State.flag State.setFlag
  rw [State.fld_setFld_same s f _ h]
  have h2 : 1 < 2 ^ (f.hi + 1 - f.lo) := Nat.one_lt_two_pow (by omega)
  cases b
  · simp [b2n]
  · simp [b2n, Nat.mod_eq_of_lt h2]

/-- An event bit is set once noted. -/
theorem State.flag_note_same (s : State) (f : Fld) (h : f.hi < 32) (hl : f.lo ≤ f.hi) : (s.note f).flag f = true := by
  have := State.flag_setFlag_same s f true h hl
  exact this

/-- A 64-bit pair reads the value set. -/
theorem State.dword_setDword_same (s : State) (a : Nat) (v : DWord) : (s.setDword a v).dword a = v := by
  unfold State.dword State.setDword
  rw [State.reg_setReg_same, State.reg_setReg_other _ _ (by omega : a ≠ a + 4), State.reg_setReg_same]
  apply BitVec.eq_of_getLsbD_eq
  intro i hi
  rw [BitVec.getLsbD_append]
  by_cases h : i < 32
  · simp [h]
  · have h2 : i - 32 < 32 := by omega
    have h3 : 32 + (i - 32) = i := by omega
    simp [h, h2, h3]

/-- The tick number after it is set. -/
theorem State.tick_setDword (s : State) (v : DWord) : (s.setDword A.SYS_TICK_LO v).tick = v :=
  State.dword_setDword_same s _ v

end Sys2Proof.Machine
end

