-- ==== Sys2Proof/Laws/Aidon.lean ====
section
/-! SUPPORT. What an Aidon instruction does beside its own effect: the charge, the frame of an instruction that
completes and of one that faults. -/

namespace Sys2Proof.Machine

open Sys2Proof

/-- The charge changes the contexts of tasks, the cores' places, registers and raised events alone. -/
theorem chargeTask_frame (s : State) (j : Nat) (k : TaskRec) (c : Nat) :
    chargeTask s j k c = { s with
      tasks := (chargeTask s j k c).tasks, cores := (chargeTask s j k c).cores,
      regs := (chargeTask s j k c).regs, recorder := (chargeTask s j k c).recorder } := by
  unfold chargeTask
  dsimp only
  repeat' split
  all_goals rfl

/-- The charge leaves every register but TICK_OVR. -/
theorem chargeTask_reg (s : State) (j : Nat) (k : TaskRec) (c a : Nat) (h : a ≠ A.TICK_OVR) :
    (chargeTask s j k c).reg a = s.reg a := by
  unfold chargeTask
  dsimp only
  repeat' split
  all_goals simp [State.note, State.setFld, State.reg_setReg, h]

/-- The charge changes the charge, the cycle count and the report of the task charged, nothing else of it. -/
theorem chargeTask_task (s : State) (j : Nat) (k : TaskRec) (c : Nat) :
    ∃ n b, (chargeTask s j k c).task k.task =
        { s.task k.task with charged := n, cycles := (s.task k.task).cycles + c, boundHit := b } ∧
      ((s.task k.task).retry = false → n = (s.task k.task).charged + c) := by
  unfold chargeTask
  dsimp only
  generalize hs : (if (s.core j).sliced.contains k.cls then s
    else s.setCore j ⟨(s.core j).cur, (s.core j).sliced, (s.core j).used + c, (s.core j).inWindow⟩) = s1
  have ht : s1.task k.task = s.task k.task := by subst hs; split <;> rfl
  have hw : taskW s1 k.task = taskW s k.task := by subst hs; split <;> rfl
  generalize hn : (if (s.task k.task).retry = true then max (s.task k.task).charged ((s.task k.task).cycles + c)
    else (s.task k.task).charged + c) = n
  have hr : (s.task k.task).retry = false → n = (s.task k.task).charged + c := by
    intro h; rw [← hn, h]; rfl
  rw [hw]
  split
  · exact ⟨n, true, by simp, hr⟩
  · exact ⟨n, (s.task k.task).boundHit, by simp, hr⟩

/-- The charge leaves the contexts of other tasks. -/
theorem chargeTask_other (s : State) (j : Nat) (k : TaskRec) (c n : Nat) (h : n ≠ k.task) :
    (chargeTask s j k c).task n = s.task n := by
  unfold chargeTask
  dsimp only
  repeat' split
  all_goals simp [h]

/-- The registers of the task charged stay. -/
@[simp] theorem chargeTask_regs (s : State) (j : Nat) (k : TaskRec) (c : Nat) :
    ((chargeTask s j k c).task k.task).regs = (s.task k.task).regs := by
  obtain ⟨n, b, h, -⟩ := chargeTask_task s j k c
  rw [h]

/-- What upsets have done to the members' signatures stays. -/
@[simp] theorem chargeTask_syn (s : State) (j : Nat) (k : TaskRec) (c : Nat) :
    ((chargeTask s j k c).task k.task).syn = (s.task k.task).syn := by
  obtain ⟨n, b, h, -⟩ := chargeTask_task s j k c
  rw [h]

/-- The charge leaves which members are compared. -/
@[simp] theorem chargeTask_members (s : State) (j : Nat) (k : TaskRec) (c : Nat) :
    members (chargeTask s j k c) j = members s j := by
  have hc : (chargeTask s j k c).check = s.check := by rw [chargeTask_frame]
  have hr : ∀ a, a ≠ A.TICK_OVR → (chargeTask s j k c).reg a = s.reg a := fun a => chargeTask_reg s j k c a
  have h1 : (chargeTask s j k c).coreMode = s.coreMode := by unfold State.coreMode State.fld; rw [hr]; decide
  have h2 : (chargeTask s j k c).flag F.CHK_STATUS.SPLIT_BUSY = s.flag F.CHK_STATUS.SPLIT_BUSY := by
    unfold State.flag State.fld; rw [hr]; decide
  have h3 : (chargeTask s j k c).fld F.CHK_SPLIT_STATUS.LCORE = s.fld F.CHK_SPLIT_STATUS.LCORE := by
    unfold State.fld; rw [hr]; decide
  unfold members
  rw [h1, h2, h3, hc, hr A.CHK_ODD (by decide)]

/-- Members that agree agree after the charge. -/
theorem membersAgree_charge {s : State} {j : Nat} {k : TaskRec} {up : Upset} (h : MembersAgree s j k up) (c : Nat) :
    MembersAgree (chargeTask s j k c) j k up := by
  unfold MembersAgree
  rw [chargeTask_members, chargeTask_syn]
  exact h

/-- Where the members agree the comparison lets the instruction go on (R73, R88). -/
theorem compareMembers_agree {s : State} {j : Nat} {k : TaskRec} {up : Upset} {go : State → State}
    (h : MembersAgree s j k up) : compareMembers s j k up go = go s := by
  have view : ∀ a ∈ members s j, ∀ b ∈ members s j,
      memberView (s.task k.task) up a = memberView (s.task k.task) up b := by
    intro a ha b hb
    have e := h a ha b hb
    have fa := (h a ha a ha).2
    have fb := (h b hb b hb).2
    have eq := congrArg Prod.fst e.1
    dsimp only at fa fb eq
    unfold memberView
    rw [fa, fb, BitVec.xor_assoc, BitVec.xor_assoc, eq]
    rfl
  unfold compareMembers
  dsimp only
  split
  · next a b c hm =>
    have hab := view a (by simp [hm]) b (by simp [hm])
    have hbc := view b (by simp [hm]) c (by simp [hm])
    have : oddMember (memberView (s.task k.task) up a) (memberView (s.task k.task) up b)
        (memberView (s.task k.task) up c) = some none := by unfold oddMember; rw [if_pos ⟨hab, hbc⟩]
    rw [this]
  · next a b hm => rw [if_pos (view a (by simp [hm]) b (by simp [hm]))]
  · rfl

/-- Where an upset made a member fault alone the instruction is compared; without one it completes and its effect stands:
the cycles are charged and the task's context is the effect's, with what the upset did to a signature. -/
theorem runInstr_ok {s s' : State} {t' : TaskSt} {j : Nat} {up : Upset} {i : Instr} {k : TaskRec} {cost : TaskSt → Nat}
    {fx : AEffect} (h : CoreRuns s j k i) (hu : up.odd = [])
    (hf : fx (chargeTask s j k (cost (s.task k.task))) k
      { (chargeTask s j k (cost (s.task k.task))).task k.task with
        regs := { aidonRegs s k with pc := aidonPc s k (codeOf i).length } } = .ok (s', t')) :
    runInstr j up i cost fx s = s'.setTask k.task (struckTask t' up) := by
  unfold runInstr
  rw [h.1]
  dsimp only
  rw [if_pos h.2.2, h.2.1]
  unfold aidonRegs aidonPc aidonRegs at hf
  dsimp only [chargeTask_regs]
  simp only [chargeTask_regs, hf, hu]
  rfl

/-- An instruction that can be fetched and faults where the members agree: the cycles are charged and the fault is taken at
it (R69, R71). -/
theorem runInstr_error {s : State} {f : AFault} {j : Nat} {up : Upset} {i : Instr} {k : TaskRec} {cost : TaskSt → Nat}
    {fx : AEffect} (h : CoreRuns s j k i) (ha : MembersAgree s j k up)
    (hf : fx (chargeTask s j k (cost (s.task k.task))) k
      { (chargeTask s j k (cost (s.task k.task))).task k.task with
        regs := { aidonRegs s k with pc := aidonPc s k (codeOf i).length } } = .error f) :
    runInstr j up i cost fx s =
      taskFault (chargeTask s j k (cost (s.task k.task))) j k (aidonRegs s k).pc.toNat f := by
  unfold runInstr
  rw [h.1]
  dsimp only
  rw [if_pos h.2.2, h.2.1]
  unfold aidonRegs aidonPc aidonRegs at hf
  dsimp only [chargeTask_regs]
  simp only [chargeTask_regs, hf]
  rw [if_neg (by simp [Except.toBool]), compareMembers_agree (membersAgree_charge ha _)]
  simp only [chargeTask_regs, hf]
  rfl

/-- An instruction that cannot be fetched where the members agree: one cycle is charged and the fault is taken (R68). -/
theorem runInstr_fetch {s : State} {f : AFault} {j : Nat} {up : Upset} {i : Instr} {k : TaskRec} {cost : TaskSt → Nat}
    {fx : AEffect} (hc : currentTask s j = some k) (hw : spells s j (s.task k.task).regs.pc.toNat (codeOf i) = true)
    (ha : MembersAgree s j k up)
    (hf : fetchFault s j (s.task k.task).regs.pc.toNat (codeOf i).length = some f) :
    runInstr j up i cost fx s = taskFault (chargeTask s j k 1) j k (s.task k.task).regs.pc.toNat f := by
  unfold runInstr
  rw [hc]
  dsimp only
  rw [if_pos hw, hf]
  dsimp only
  rw [compareMembers_agree (membersAgree_charge ha _)]

/-- An instruction whose effect is on the context of its task alone. -/
theorem runInstr_task {s : State} {j : Nat} {up : Upset} {i : Instr} {k : TaskRec} {cost : TaskSt → Nat} {fx : AEffect}
    (g : TaskSt → TaskSt) (h : CoreRuns s j k i) (hu : up.odd = [])
    (hf : ∀ t : TaskSt, t.regs = { aidonRegs s k with pc := aidonPc s k (codeOf i).length } →
      fx (chargeTask s j k (cost (s.task k.task))) k t = .ok (chargeTask s j k (cost (s.task k.task)), g t)) :
    runInstr j up i cost fx s = aidonTask s j k up (codeOf i).length (cost (s.task k.task)) g := by
  rw [runInstr_ok h hu (hf _ rfl)]
  unfold aidonTask aidonPc aidonRegs
  dsimp only
  simp only [chargeTask_regs]

/-- An instruction of one word on registers alone that does not touch PC. -/
theorem regInstr_next {s : State} {j cost : Nat} {up : Upset} {i : Instr} {k : TaskRec} {f : TaskRegs → TaskRegs}
    (h : CoreRuns s j k i) (hl : (codeOf i).length = 1) (hu : up.odd = [])
    (hf : ∀ r p, f { r with pc := p } = { f r with pc := p }) :
    regInstr j up i cost f s = aidonNext s j k up 1 cost (f (aidonRegs s k)) := by
  unfold regInstr
  rw [runInstr_task (fun t => { t with regs := f t.regs }) h hu (fun _ _ => rfl), hl]
  unfold aidonNext aidonTask aidonRegs
  dsimp only
  simp only [chargeTask_regs]
  rw [hf (s.task k.task).regs]

end Sys2Proof.Machine
end

