-- ==== Sys2Proof/Laws/Wire.lean ====
section
/-! SUPPORT. What is sent reads back: numbers as bytes (R3), cells on a ring link (R124, R125), Strait messages (R149), the
encipherment of Pletin (R196), which undoes itself; and a signature that is made verifies (R199). -/

namespace Sys2Proof.Machine

open Sys2Proof

/-! ## Numbers as bytes -/

@[simp] theorem leBytes_length (n v : Nat) : (leBytes n v).length = n := by
  induction n generalizing v with
  | zero => rfl
  | succ n ih => simp [leBytes, ih]

@[simp] theorem beBytes_length (n v : Nat) : (beBytes n v).length = n := by simp [beBytes]

/-- The bytes of a number give it back, cut to their width. -/
theorem leVal_leBytes (n v : Nat) : leVal (leBytes n v) = v % 256 ^ n := by
  induction n generalizing v with
  | zero => simp [leBytes, leVal, Nat.mod_one]
  | succ n ih =>
    simp only [leBytes, leVal, ih, BitVec.toNat_ofNat]
    rw [show 256 ^ (n + 1) = 256 * 256 ^ n from pow_succ' 256 n, Nat.mod_mul]

/-- The number read at the place where its bytes stand. -/
theorem beAt_beBytes (pre post : List Byte) (n v : Nat) :
    beAt (pre ++ (beBytes n v ++ post)) pre.length n = v % 256 ^ n := by
  unfold beAt beVal
  rw [List.drop_left, List.take_append_of_le_length (by simp), List.take_of_length_le (by simp)]
  simp [beBytes, leVal_leBytes]

/-- The same with the place as a number. -/
theorem beAt_of_eq {bs pre post : List Byte} {o n v : Nat} (h : bs = pre ++ (beBytes n v ++ post)) (ho : pre.length = o) :
    beAt bs o n = v % 256 ^ n := by subst h; subst ho; exact beAt_beBytes pre post n v

/-- One byte read at the place where it stands. -/
theorem u8At_of_eq {bs pre post : List Byte} {o v : Nat} (h : bs = pre ++ (beBytes 1 v ++ post)) (ho : pre.length = o) :
    u8At bs o = v % 256 := by
  subst h; subst ho
  unfold u8At
  rw [List.drop_left]
  simp [beBytes, leBytes]

/-! ## Cells -/

@[simp] theorem scramblerKey_length (n : Nat) (r : BitVec 23) : (scramblerKey n r).length = n := by
  induction n generalizing r with
  | zero => rfl
  | succ n ih => simp [scramblerKey, ih]

@[simp] theorem scramble_length (bs : List Byte) : (scramble bs).length = bs.length := by simp [scramble]

/-- The scrambler undoes itself (R124). -/
@[simp] theorem scramble_scramble (bs : List Byte) : scramble (scramble bs) = bs := by
  apply List.ext_getElem
  · simp
  · intro i h1 h2
    simp [scramble]

/-- A cell that is sent is received with good checks and its fields, the body filled with zeros (R125). -/
theorem readCell_cellBytes (num type : Nat) (dir origin : Bool) (owner : Nat) (body : List Byte) :
    readCell (cellBytes num type dir origin owner body) =
      { missed := false, bad := false, num := num % 256, type := type % 256, dir := dir, origin := origin,
        owner := owner % 256, body := (body ++ List.replicate 236 0).take 236 } := by
  unfold readCell cellBytes
  dsimp only
  generalize hh : beBytes 1 num ++ beBytes 1 type ++ beBytes 1 (b2n dir + 2 * b2n origin) ++ beBytes 1 owner = head
  generalize hb : (body ++ List.replicate 236 (0 : Byte)).take 236 = bd
  have hbl : bd.length = 236 := by
    subst hb; simp only [List.length_take, List.length_append, List.length_replicate]; omega
  have hhl : head.length = 4 := by subst hh; simp
  rw [List.drop_left' (by simp), scramble_scramble]
  have h1 : beAt (beBytes 4 fsp ++ scramble (head ++ beBytes 2 (crc16 head).toNat ++ bd ++
      beBytes 4 (crc32 (head ++ beBytes 2 (crc16 head).toNat ++ bd)).toNat)) 0 4 = fsp :=
    beAt_of_eq (pre := []) rfl rfl
  have h2 : ∀ x : List Byte, beAt (head ++ beBytes 2 (crc16 head).toNat ++ bd ++ x) 4 2 = (crc16 head).toNat := by
    intro x
    rw [beAt_of_eq (pre := head) (n := 2) (v := (crc16 head).toNat) (post := bd ++ x) (by simp) hhl]
    exact Nat.mod_eq_of_lt (crc16 head).isLt
  have h3 : ∀ x : List Byte, x.length = 242 → beAt (x ++ beBytes 4 (crc32 x).toNat) 242 4 = (crc32 x).toNat := by
    intro x hx
    rw [beAt_of_eq (pre := x) (n := 4) (v := (crc32 x).toNat) (post := []) (by simp) hx]
    exact Nat.mod_eq_of_lt (crc32 x).isLt
  have hm : (head ++ beBytes 2 (crc16 head).toNat ++ bd).length = 242 := by simp [hhl, hbl]
  rw [h1, h2, h3 _ hm]
  have t4 : (head ++ beBytes 2 (crc16 head).toNat ++ bd ++
      beBytes 4 (crc32 (head ++ beBytes 2 (crc16 head).toNat ++ bd)).toNat).take 4 = head := by
    simp [List.append_assoc, hhl]
  have t242 : (head ++ beBytes 2 (crc16 head).toNat ++ bd ++
      beBytes 4 (crc32 (head ++ beBytes 2 (crc16 head).toNat ++ bd)).toNat).take 242 =
        head ++ beBytes 2 (crc16 head).toNat ++ bd := List.take_left' hm
  have body236 : ((head ++ beBytes 2 (crc16 head).toNat ++ bd ++
      beBytes 4 (crc32 (head ++ beBytes 2 (crc16 head).toNat ++ bd)).toNat).drop 6).take 236 = bd := by
    rw [List.append_assoc, List.drop_left' (by simp [hhl]), List.take_left' hbl]
  rw [t4, t242, body236]
  have u0 : ∀ x : List Byte, u8At (head ++ x) 0 = num % 256 := fun x => by
    subst hh
    exact u8At_of_eq (pre := []) (post := beBytes 1 type ++ (beBytes 1 (b2n dir + 2 * b2n origin) ++
      (beBytes 1 owner ++ x))) (by simp) rfl
  have u1 : ∀ x : List Byte, u8At (head ++ x) 1 = type % 256 := fun x => by
    subst hh
    exact u8At_of_eq (pre := beBytes 1 num) (post := beBytes 1 (b2n dir + 2 * b2n origin) ++
      (beBytes 1 owner ++ x)) (by simp) (by simp)
  have u2 : ∀ x : List Byte, u8At (head ++ x) 2 = (b2n dir + 2 * b2n origin) % 256 := fun x => by
    subst hh
    exact u8At_of_eq (pre := beBytes 1 num ++ beBytes 1 type) (post := beBytes 1 owner ++ x) (by simp) (by simp)
  have u3 : ∀ x : List Byte, u8At (head ++ x) 3 = owner % 256 := fun x => by
    subst hh
    exact u8At_of_eq (pre := beBytes 1 num ++ beBytes 1 type ++ beBytes 1 (b2n dir + 2 * b2n origin)) (post := x)
      (by simp) (by simp)
  simp only [List.append_assoc, u0, u1, u2, u3]
  cases dir <;> cases origin <;> simp [b2n]

/-- A cell has 250 bytes (R125). -/
theorem cellBytes_length (num type : Nat) (dir origin : Bool) (owner : Nat) (body : List Byte) :
    (cellBytes num type dir origin owner body).length = 250 := by
  simp only [cellBytes, List.length_append, beBytes_length, scramble_length, List.length_take, List.length_replicate]
  omega

/-! ## Strait messages -/

/-- A message that is sent is taken: its check and its LEN agree (R149). -/
theorem straitIntact_straitMessage {type sub seq : Nat} {crown : Word} {tick : DWord} {payload : List Byte}
    (ht : 1 ≤ type ∧ type ≤ 10) (hl : payload.length ≤ 4096) :
    straitIntact (straitMessage type sub crown tick seq payload) = true := by
  have hh : (straitHeader type sub payload.length crown tick seq).length = 20 := by simp [straitHeader]
  have len : (straitMessage type sub crown tick seq payload).length = payload.length + 24 := by
    simp [straitMessage, withCrc32, hh]; omega
  have hlen : beAt (straitMessage type sub crown tick seq payload) 2 2 = payload.length := by
    rw [beAt_of_eq (pre := beBytes 1 type ++ beBytes 1 sub) (n := 2) (v := payload.length)
      (post := beBytes 4 crown.toNat ++ (beBytes 8 tick.toNat ++ (beBytes 2 seq ++ ([0, 0] ++ (payload ++
        beBytes 4 (crc32 (straitHeader type sub payload.length crown tick seq ++ payload)).toNat)))))
      (by simp [straitMessage, withCrc32, straitHeader]) (by simp)]
    exact Nat.mod_eq_of_lt (by omega)
  have htype : u8At (straitMessage type sub crown tick seq payload) 0 = type := by
    rw [u8At_of_eq (o := 0) (pre := []) (v := type)
      (post := beBytes 1 sub ++ (beBytes 2 payload.length ++ (beBytes 4 crown.toNat ++ (beBytes 8 tick.toNat ++
        (beBytes 2 seq ++ ([0, 0] ++ (payload ++
        beBytes 4 (crc32 (straitHeader type sub payload.length crown tick seq ++ payload)).toNat)))))))
      (by simp [straitMessage, withCrc32, straitHeader]) rfl]
    exact Nat.mod_eq_of_lt (by omega)
  unfold straitIntact
  rw [hlen, htype, len]
  have hc : withCrc32 ((straitMessage type sub crown tick seq payload).take (payload.length + 24 - 4)) =
      straitMessage type sub crown tick seq payload := by
    unfold straitMessage
    rw [show (withCrc32 (straitHeader type sub payload.length crown tick seq ++ payload)).take (payload.length + 24 - 4) =
      straitHeader type sub payload.length crown tick seq ++ payload from
        List.take_left' (by simp [hh]; omega)]
  rw [hc]
  simp [ht.1, ht.2, hl]

/-! ## Pletin -/

@[simp] theorem gcmMask_length (key nonce bs : List Byte) : (gcmMask key nonce bs).length = bs.length := by
  simp [gcmMask]

/-- Deciphering gives back what was enciphered (R196). -/
@[simp] theorem gcmMask_gcmMask (key nonce bs : List Byte) : gcmMask key nonce (gcmMask key nonce bs) = bs := by
  apply List.ext_getElem
  · simp
  · intro i h1 h2
    simp [gcmMask]

/-! ## Signatures -/

/-- Byte `i` of a number, least significant first. -/
theorem leBytes_getElem? (n v i : Nat) (h : i < n) : (leBytes n v)[i]? = some (BitVec.ofNat 8 (v / 256 ^ i)) := by
  induction n generalizing v i with
  | zero => omega
  | succ n ih =>
    cases i with
    | zero => simp [leBytes]
    | succ i => simp [leBytes, ih (v / 256) i (by omega), Nat.div_div_eq_div_mul, pow_succ']

/-- A number whose bit `8 i` is 1 has a byte that is not 0 there. -/
theorem leBytes_odd {n v i : Nat} (h : i < n) (hb : v.testBit (8 * i) = true) :
    ∃ b, (leBytes n v)[i]? = some b ∧ b ≠ 0 := by
  refine ⟨_, leBytes_getElem? n v i h, fun hz => ?_⟩
  have := congrArg (fun b : Byte => b.getLsbD 0) hz
  simp only [BitVec.getLsbD_ofNat] at this
  rw [show (256 : Nat) ^ i = 2 ^ (8 * i) by rw [pow_mul]; rfl, Nat.testBit_div_two_pow] at this
  simp [hb] at this

/-- A signature has 96 bytes. -/
@[simp] theorem ecdsaBytes_length (key digest : List Byte) : (ecdsaBytes key digest).length = 96 := beBytes_length _ _

/-- A string with a byte that is not 0 is not all zeros. -/
theorem allZero_of_get {xs : List Byte} {j : Nat} {b : Byte} (h : xs[j]? = some b) (hb : b ≠ 0) : allZero xs = false := by
  rw [allZero, List.all_eq_false]
  exact ⟨b, List.mem_of_getElem? h, by simpa using hb⟩

/-- The signature that Config names verifies, whatever it is (R199). -/
theorem ecdsaOk_ecdsaBytes (key digest : List Byte) :
    ecdsaOk key digest ((ecdsaBytes key digest).take 48) ((ecdsaBytes key digest).drop 48) = true := by
  have nz : ∀ v : Nat, v.testBit 0 = true → v.testBit 384 = true →
      allZero ((beBytes 96 v).take 48) = false ∧ allZero ((beBytes 96 v).drop 48) = false := by
    intro v h0 h1
    obtain ⟨b1, g1, n1⟩ := leBytes_odd (n := 96) (i := 48) (by omega) h1
    obtain ⟨b0, g0, n0⟩ := leBytes_odd (n := 96) (i := 0) (by omega) h0
    refine ⟨allZero_of_get (j := 47) ?_ n1, allZero_of_get (j := 47) ?_ n0⟩
    · rw [beBytes, List.getElem?_take_of_lt (by omega), List.getElem?_reverse (by simp)]; simpa using g1
    · rw [beBytes, List.getElem?_drop, List.getElem?_reverse (by simp)]; simpa using g0
  have bits : ∀ i, i = 0 ∨ i = 384 →
      (Config.ecdsaSign key digest ||| (1 ||| (1 <<< 384))).toNat.testBit i = true := by
    intro i hi
    rw [BitVec.toNat_or, Nat.testBit_or, Bool.or_eq_true]
    rcases hi with rfl | rfl <;> exact .inr (by decide +kernel)
  obtain ⟨hr, hs⟩ := nz _ (bits 0 (.inl rfl)) (bits 384 (.inr rfl))
  simp only [ecdsaOk, ecdsaBytes, hr, hs]
  rw [List.take_append_drop, beq_self_eq_true]
  rfl

end Sys2Proof.Machine
end

