-- ==== Sys2Proof/Laws/Memory.lean ====
section
/-! SUPPORT. Laws of the byte memories: a read after a write, what a write leaves, and the canonical form that every
operation on memory keeps. -/

namespace Sys2Proof.Machine

open Sys2Proof

/-- A byte after a byte is written. -/
theorem byteAt_putByte (m : Bytes) (a x : Nat) (b : Byte) :
    byteAt (putByte m a b) x = if x = a then b else byteAt m x :=
  Sparse.get_set zeroByte a x b m

/-- A byte after bytes are written upward from `a`: the one written there, else the one before. -/
theorem byteAt_putBytes (bs : List Byte) : ∀ (m : Bytes) (a x : Nat),
    byteAt (putBytes m a bs) x = if a ≤ x ∧ x < a + bs.length then bs.getD (x - a) 0 else byteAt m x := by
  induction bs with
  | nil =>
    intro m a x
    simp [putBytes]
  | cons b bs ih =>
    intro m a x
    rw [putBytes, ih, byteAt_putByte, List.length_cons]
    by_cases h : x = a
    · subst h
      simp
    · by_cases h2 : a + 1 ≤ x ∧ x < a + 1 + bs.length
      · have h3 : a ≤ x ∧ x < a + (bs.length + 1) := by omega
        rw [if_pos h2, if_pos h3, show x - a = (x - (a + 1)) + 1 by omega, List.getD_cons_succ]
      · have h3 : ¬ (a ≤ x ∧ x < a + (bs.length + 1)) := by omega
        rw [if_neg h2, if_neg h3, if_neg h]

/-- A write leaves every byte outside it. -/
theorem byteAt_putBytes_other {m : Bytes} {a x : Nat} {bs : List Byte} (h : x < a ∨ a + bs.length ≤ x) :
    byteAt (putBytes m a bs) x = byteAt m x := by
  rw [byteAt_putBytes, if_neg (by omega)]

/-- Bytes written are read back. -/
theorem bytesAt_putBytes (m : Bytes) (a : Nat) (bs : List Byte) : bytesAt (putBytes m a bs) a bs.length = bs := by
  unfold bytesAt
  apply List.ext_getElem
  · simp
  · intro i h1 h2
    have : a ≤ a + i ∧ a + i < a + bs.length := by omega
    simp [byteAt_putBytes, List.getD_eq_getElem?_getD, h2]

/-- A 64-bit value written is read back (R3). -/
theorem dwordAt_putDword (m : Bytes) (a : Nat) (v : DWord) : dwordAt (putDword m a v) a = v := by
  have h := bytesAt_putBytes m a (leBytes 8 v.toNat)
  rw [leBytes_length] at h
  unfold dwordAt putDword
  rw [h, leVal_leBytes, Nat.mod_eq_of_lt (by simpa using v.isLt)]
  simp

/-- A byte write keeps the canonical form. -/
theorem putByte_wf {m : Bytes} (a : Nat) (b : Byte) (h : Memory.wf m = true) : Memory.wf (putByte m a b) = true :=
  Sparse.wf_set zeroByte m a b h

/-- A write of bytes keeps the canonical form. -/
theorem putBytes_wf (bs : List Byte) : ∀ {m : Bytes} (a : Nat), Memory.wf m = true → Memory.wf (putBytes m a bs) = true := by
  induction bs with
  | nil => exact fun _ h => h
  | cons b bs ih => exact fun a h => ih (a + 1) (putByte_wf a b h)

/-- A write of a 64-bit value keeps the canonical form. -/
theorem putDword_wf {m : Bytes} (a : Nat) (v : DWord) (h : Memory.wf m = true) : Memory.wf (putDword m a v) = true :=
  putBytes_wf _ a h

/-- The memory after bytes are stored. -/
@[simp] theorem State.storeMem_mem (s : State) (a : Nat) (bs : List Byte) : (s.storeMem a bs).mem = putBytes s.mem a bs := by
  unfold State.storeMem
  dsimp only
  split <;> rfl

/-- Storing bytes keeps the canonical form. -/
theorem storeMem_wf {s : State} (a : Nat) (bs : List Byte) (h : Memory.wf s.mem = true) :
    Memory.wf (s.storeMem a bs).mem = true := by
  rw [State.storeMem_mem]
  exact putBytes_wf bs a h

/-- Marking pages writes no memory. -/
@[simp] theorem State.touch_mem (s : State) (ps : List MemPlace) : (s.touch ps).mem = s.mem := by
  unfold State.touch State.markPages
  split <;> rfl

/-- Storing bytes where MRAM may be write-protected keeps the canonical form. -/
theorem storeBytes_wf {s : State} (a : Nat) (bs : List Byte) (h : Memory.wf s.mem = true) :
    Memory.wf (storeBytes s a bs).mem = true := by
  unfold storeBytes
  split
  · exact h
  · exact storeMem_wf a bs h

/-- Writing back one word of an undo log keeps the canonical form. -/
theorem undoOne_wf {s : State} (i : Nat) (e : UndoEntry) (h : Memory.wf s.mem = true) :
    Memory.wf (undoOne i s e).mem = true := by
  unfold undoOne
  split
  · exact h
  · exact h
  · rw [State.touch_mem]
    exact putDword_wf _ _ h

/-- Writing back an undo log keeps the canonical form. -/
theorem undoAll_wf {s : State} (i : Nat) (h : Memory.wf s.mem = true) : Memory.wf (undoAll s i).mem = true := by
  unfold undoAll
  generalize (s.task i).undo = l
  induction l generalizing s with
  | nil => exact h
  | cons e l ih => exact ih (undoOne_wf i e h)

/-- What a reset keeps of memory is in canonical form (R324). -/
theorem resetModule_wf {s : State} (kind : Nat) (h : Memory.wf s.mem = true) :
    Memory.wf (resetModule s kind).mem = true := by
  have : (resetModule s kind).mem =
      s.mem.filter (fun e => decide (mramBase ≤ e.1) && decide (e.1 < mramBase + 0x1000000)) := by
    unfold resetModule
    dsimp only
    repeat' split
    all_goals rfl
  rw [this]
  exact Sparse.wf_filter zeroByte _ s.mem h

/-- The memory of a module after reset is in canonical form. -/
theorem reset_mem_wf : Memory.wf State.reset.mem = true := rfl

/-- A register write keeps the canonical form of the register file. -/
theorem setReg_wf {s : State} (k : Nat) (v : Word) (h : Registers.wf s.regs = true) :
    Registers.wf (s.setReg k v).regs = true :=
  Sparse.wf_set resetValue s.regs k v h

end Sys2Proof.Machine
end

