-- ==== Sys2Proof/Laws/Keeps.lean ====
section
/-! SUPPORT. What every operation of the model and every command's effect keeps, said once for each: the queue of the
commands that wait, the canonical forms of registers and memory, the recorder's flash (records are only added), the bounds of the recorder and the command
queues, the
active guard regions (or all of them off, after a reset), and, for whatever stores nothing, memory itself. A proof about
a command cites the lemma of its effect (`execNop_keeps` and so on) and unfolds nothing. -/

namespace Sys2Proof.Machine

open Sys2Proof

/-- What the step from `s` to `t` keeps. With `b` memory is unchanged, with `g` the guard regions are those of before or
all off. -/
structure Keeps (b g : Bool) (s t : State) : Prop where
  pending : t.pending = s.pending
  regs : Registers.wf s.regs = true → Registers.wf t.regs = true
  mem : Memory.wf s.mem = true → Memory.wf t.mem = true
  halfA : ∃ xs, t.recorder.halfA = xs ++ s.recorder.halfA
  halfB : ∃ xs, t.recorder.halfB = xs ++ s.recorder.halfB
  guards : g = true → t.guards = s.guards ∨ t.guards = []
  same : b = true → t.mem = s.mem
  queue : s.recorder.queue.length ≤ 64 → t.recorder.queue.length ≤ 64
  sess : SessionsFit s → SessionsFit t

/-- A state keeps itself. -/
theorem Keeps.refl (b g : Bool) (s : State) : Keeps b g s s :=
  ⟨rfl, id, id, ⟨[], rfl⟩, ⟨[], rfl⟩, fun _ => .inl rfl, fun _ => rfl, id, id⟩

/-- A state keeps itself. -/
theorem Keeps.rfl {b g : Bool} {s : State} : Keeps b g s s := Keeps.refl b g s

/-- One step after another. -/
theorem Keeps.after {b g : Bool} {s t u : State} (k : Keeps b g t u) (h : Keeps b g s t) : Keeps b g s u := by
  refine ⟨k.pending.trans h.pending, k.regs ∘ h.regs, k.mem ∘ h.mem, ?_, ?_, ?_, fun e => (k.same e).trans (h.same e),
    k.queue ∘ h.queue, k.sess ∘ h.sess⟩
  · obtain ⟨x, hx⟩ := k.halfA; obtain ⟨y, hy⟩ := h.halfA; exact ⟨x ++ y, by rw [hx, hy, List.append_assoc]⟩
  · obtain ⟨x, hx⟩ := k.halfB; obtain ⟨y, hy⟩ := h.halfB; exact ⟨x ++ y, by rw [hx, hy, List.append_assoc]⟩
  · intro hg
    rcases k.guards hg with e | e
    · rw [e]; exact h.guards hg
    · exact .inr e

/-- Either branch of a condition. -/
theorem Keeps.ite {b g : Bool} {s t u : State} {c : Prop} [Decidable c] (ht : Keeps b g s t) (hu : Keeps b g s u) :
    Keeps b g s (if c then t else u) := by split <;> assumption

/-- A step for each element of a list. -/
theorem Keeps.fold {b g : Bool} {α : Type} {s t : State} {xs : List α} {f : State → α → State}
    (hf : ∀ s x, Keeps b g s (f s x)) (h : Keeps b g s t) : Keeps b g s (xs.foldl f t) := by
  induction xs generalizing t with
  | nil => exact h
  | cons x xs ih => exact ih ((hf t x).after h)

/-- The same where each step is judged from the state before all of them. -/
theorem Keeps.fold' {b g : Bool} {α : Type} {s t : State} {xs : List α} {f : State → α → State}
    (hf : ∀ x a, Keeps b g s x → Keeps b g s (f x a)) (h : Keeps b g s t) : Keeps b g s (xs.foldl f t) := by
  induction xs generalizing t with
  | nil => exact h
  | cons x xs ih => exact ih (hf t x h)

/-- A fold over a pair whose second part is the state. -/
theorem Keeps.foldSnd {b g : Bool} {α β : Type} {s : State} {p : β × State} {xs : List α} {f : β × State → α → β × State}
    (hf : ∀ x a, Keeps b g x.2 (f x a).2) (h : Keeps b g s p.2) : Keeps b g s (xs.foldl f p).2 := by
  induction xs generalizing p with
  | nil => exact h
  | cons x xs ih => exact ih ((hf p x).after h)

/-- A fold over a pair whose first part is the state. -/
theorem Keeps.foldFst {b g : Bool} {α β : Type} {s : State} {p : State × β} {xs : List α} {f : State × β → α → State × β}
    (hf : ∀ x a, Keeps b g x.1 (f x a).1) (h : Keeps b g s p.1) : Keeps b g s (xs.foldl f p).1 := by
  induction xs generalizing p with
  | nil => exact h
  | cons x xs ih => exact ih ((hf p x).after h)

/-- The state of a pair. -/
theorem Keeps.mk1 {b g : Bool} {α : Type} {s t : State} {x : α} (h : Keeps b g s t) : Keeps b g s (t, x).1 := h

/-- The state of a pair. -/
theorem Keeps.mk2 {b g : Bool} {α : Type} {s t : State} {x : α} (h : Keeps b g s t) : Keeps b g s (x, t).2 := h

/-- The state that a pair was taken apart into. -/
theorem Keeps.fst {b g : Bool} {α : Type} {s t : State} {x : α} {p : State × α} (e : p = (t, x)) (h : Keeps b g s p.1) :
    Keeps b g s t := by rw [e] at h; exact h

/-- The state that a pair was taken apart into. -/
theorem Keeps.snd {b g : Bool} {α : Type} {s t : State} {x : α} {p : α × State} (e : p = (x, t)) (h : Keeps b g s p.2) :
    Keeps b g s t := by rw [e] at h; exact h

/-- Setting any fields but registers, memory, recorder, guards, sessions and the queue. -/
theorem Keeps.upd {b g : Bool} {s t : State}
    {z1 : List (Requester × Nat × Word)} {z3 : List MemPlace} {z4 : SlotMap} {z5 : SlotMap} {z6 : SlotMap}
    {z7 : SlotMap} {z8 : SlotMap} {z9 : List (Nat × TaskSt)} {z10 : List (Nat × ClassSt)}
    {z11 : List (Nat × CoreSt)} {z12 : CheckSt} {z13 : List (Nat × MasterSt)} {z14 : List (Nat × AxisSt)}
    {z15 : Option Image} {z16 : Loader} {z17 : Bank} {z18 : Bank} {z19 : List Byte} {z20 : Word} {z22 : List JRec}
    {z23 : Word} {z25 : List (Nat × DWord)} {z26 : List (Nat × Nat × Nat)} {z27 : Nat × Nat} {z28 : Pair}
    {z29 : Resync} {z30 : TimeSt} {z31 : List (Nat × RingSt)} {z33 : List (Nat × DWord)}
    {z34 : List (Nat × XferCh)} {z35 : List (Nat × AnaSt)} {z36 : List (Nat × Modem)} {z37 : List (Nat × ConvGrp)}
    {z38 : Option TrimSt} {z39 : DioSt} {z40 : List (Nat × CanSt)} {z41 : List (Nat × SerSt)} {z42 : Bytes}
    {z43 : List Nat} {z44 : List Byte} {z45 : List Byte} {z46 : Option (List (Nat × List Byte) × Word)}
    {z47 : List Activity} {z48 : Nat} {z49 : PowerSt} {z50 : SkerrySt} {z51 : PanelSt} {z52 : List Out}
    (h : Keeps b g s t) : Keeps b g s ⟨
      t.regs, z1, t.mem, z3, z4, z5, z6, z7, z8, z9, z10, z11, z12, z13, z14, z15, z16, z17, z18, z19, z20,
      t.recorder, z22, z23, t.sessions, z25, z26, z27, z28, z29, z30, z31, t.guards, z33, z34, z35, z36, z37, z38,
      z39, z40, z41, z42, z43, z44, z45, z46, z47, z48, z49, z50, z51, z52, t.pending⟩ :=
  ⟨h.pending, h.regs, h.mem, h.halfA, h.halfB, h.guards, h.same, h.queue, h.sess⟩

/-- The same of what an outcome holds: every next state is kept to. -/
def KeepsO (b g : Bool) (s : State) (o : Host.Outcome State Fault Refusal) : Prop := ∀ t, o = .next t → Keeps b g s t

/-- An outcome that is a next state. -/
theorem KeepsO.next {b g : Bool} {s t : State} (h : Keeps b g s t) : KeepsO b g s (.next t) := by
  rintro _ ⟨⟩; exact h

/-- An outcome after a step. -/
theorem KeepsO.after {b g : Bool} {s t : State} {o : Host.Outcome State Fault Refusal} (k : KeepsO b g t o)
    (h : Keeps b g s t) : KeepsO b g s o := fun u e => (k u e).after h

/-- Either branch of a condition. -/
theorem KeepsO.ite {b g : Bool} {s : State} {t u : Host.Outcome State Fault Refusal} {c : Prop} [Decidable c]
    (ht : KeepsO b g s t) (hu : KeepsO b g s u) : KeepsO b g s (if c then t else u) := by split <;> assumption

theorem State.setReg_keeps {b g : Bool} (s : State) (key : Nat) (v : Word) : Keeps b g s (s.setReg key v) :=
  ⟨rfl, setReg_wf key v, id, ⟨[], rfl⟩, ⟨[], rfl⟩, fun _ => .inl rfl, fun _ => rfl, id, id⟩

theorem State.setFld_keeps {b g : Bool} (s : State) (f : Fld) (v : Nat) :
    Keeps b g s (State.setFld s f v) := by
  unfold State.setFld
  exact State.setReg_keeps _ _ _

theorem State.adoptEpoch_keeps {b g : Bool} (s : State) (e : Nat) :
    Keeps b g s (State.adoptEpoch s e) := by
  unfold State.adoptEpoch
  exact .ite (State.setFld_keeps _ _ _) .rfl

theorem State.setDword_keeps {b g : Bool} (s : State) (a : Nat) (v : DWord) :
    Keeps b g s (State.setDword s a v) := by
  unfold State.setDword
  exact (State.setReg_keeps _ _ _).after (State.setReg_keeps _ _ _)

theorem State.setNow_keeps {b g : Bool} (s : State) (ns : DWord) (frac : Nat) :
    Keeps b g s (State.setNow s ns frac) := by
  unfold State.setNow
  exact (State.setFld_keeps _ _ _).after (State.setDword_keeps _ _ _)

theorem State.at_keeps {b g : Bool} (s : State) (off : Nat) :
    Keeps b g s (State.at s off) := by
  unfold State.at
  exact State.setNow_keeps _ _ _

theorem State.note_keeps {b g : Bool} (s : State) (f : Fld) :
    Keeps b g s (State.note s f) := by
  unfold State.note
  exact State.setFld_keeps _ _ _

theorem State.setFlag_keeps {b g : Bool} (s : State) (f : Fld) (b' : Bool) :
    Keeps b g s (State.setFlag s f b') := by
  unfold State.setFlag
  exact State.setFld_keeps _ _ _

theorem State.raiseAt_keeps {b g : Bool} (s : State) (tick : DWord) (cls code src : Nat) (det : List Byte) :
    Keeps b g s (s.raiseAt tick cls code src det) :=
  ⟨rfl, id, id, ⟨[], rfl⟩, ⟨[], rfl⟩, fun _ => .inl rfl, fun _ => rfl, id, id⟩

theorem State.raise_keeps {b g : Bool} (s : State) (cls : Nat) (code : Nat) (src : Nat) (det : List Byte) :
    Keeps b g s (State.raise s cls code src det) := by
  unfold State.raise
  exact State.raiseAt_keeps _ _ _ _ _ _

theorem State.become_keeps {b g : Bool} (s : State) (new : Nat) (cause : Nat) :
    Keeps b g s (State.become s new cause) := by
  unfold State.become
  extract_lets -underBinder -merge -useContext +onlyGivenNames x1 x2 x3 x4
  have hx2 : Keeps b g s x2 := (State.note_keeps _ _).after ((State.setFld_keeps _ _ _).after (State.setFld_keeps _ _ _))
  have hx3 : Keeps b g s x3 := (State.setFlag_keeps _ _ _).after (hx2)
  have hx4 : Keeps b g s x4 := (State.setFlag_keeps _ _ _).after (hx3)
  exact (State.raise_keeps _ _ _ _ _).after (hx4)

theorem State.checkpointRecord_keeps {b g : Bool} (s : State) :
    Keeps b g s (State.checkpointRecord s) := by
  unfold State.checkpointRecord
  exact State.raise_keeps _ _ _ _ _

theorem State.count_keeps {b g : Bool} (s : State) (f : Fld) (n : Nat) :
    Keeps b g s (State.count s f n) := by
  unfold State.count
  exact State.setFld_keeps _ _ _

theorem State.emit_keeps {b g : Bool} (s : State) (o : Out) :
    Keeps b g s (State.emit s o) := by
  unfold State.emit
  exact .upd .rfl

theorem State.latch_keeps {b g : Bool} (s : State) (who : Requester) (a : Nat) (v : Word) :
    Keeps b g s (State.latch s who a v) := by
  unfold State.latch
  exact .upd .rfl

theorem State.markPages_keeps {b g : Bool} (s : State) (pages : List Nat) :
    Keeps b g s (State.markPages s pages) := by
  unfold State.markPages
  exact .ite (.upd .rfl) .rfl

theorem State.memError_keeps {b g : Bool} (s : State) (p : MemPlace) :
    Keeps b g s (State.memError s p) := by
  unfold State.memError
  extract_lets -underBinder -merge -useContext +onlyGivenNames x1 x2
  exact (State.raise_keeps _ _ _ _ _).after ((State.note_keeps _ _).after ((State.setDword_keeps _ _ _).after (State.count_keeps _ _ _)))

theorem State.raiseEpoch_keeps {b g : Bool} (s : State) (cause : Nat) :
    Keeps b g s (State.raiseEpoch s cause) := by
  unfold State.raiseEpoch
  exact .ite ((State.raise_keeps _ _ _ _ _).after (State.note_keeps _ _)) (State.setFld_keeps _ _ _)

theorem State.raiseEpochFrom_keeps {b g : Bool} (s : State) (e : Nat) (cause : Nat) :
    Keeps b g s (State.raiseEpochFrom s e cause) := by
  unfold State.raiseEpochFrom
  exact .ite ((State.raise_keeps _ _ _ _ _).after (State.note_keeps _ _)) (State.setFld_keeps _ _ _)

theorem State.sendNet_keeps {b g : Bool} (s : State) (port : Nat) (o : Out) :
    Keeps b g s (State.sendNet s port o) := by
  unfold State.sendNet
  exact (State.emit_keeps _ _).after (State.count_keeps _ _ _)

theorem State.setAna_keeps {b g : Bool} (s : State) (c : Nat) (a : AnaSt) :
    Keeps b g s (State.setAna s c a) := by
  unfold State.setAna
  exact .upd .rfl

theorem State.setAxis_keeps {b g : Bool} (s : State) (i : Nat) (a : AxisSt) :
    Keeps b g s (State.setAxis s i a) := by
  unfold State.setAxis
  exact .upd .rfl

theorem State.setBank_keeps {b g : Bool} (s : State) (b' : Nat) (x : Bank) :
    Keeps b g s (State.setBank s b' x) := by
  unfold State.setBank
  exact .ite (.upd .rfl) (.upd .rfl)

theorem State.setCan_keeps {b g : Bool} (s : State) (b' : Nat) (c : CanSt) :
    Keeps b g s (State.setCan s b' c) := by
  unfold State.setCan
  exact .upd .rfl

theorem State.setChan_keeps {b g : Bool} (s : State) (c : Nat) (x : XferCh) :
    Keeps b g s (State.setChan s c x) := by
  unfold State.setChan
  exact .upd .rfl

theorem State.setCls_keeps {b g : Bool} (s : State) (i : Nat) (c : ClassSt) :
    Keeps b g s (State.setCls s i c) := by
  unfold State.setCls
  exact .upd .rfl

theorem State.setCore_keeps {b g : Bool} (s : State) (i : Nat) (c : CoreSt) :
    Keeps b g s (State.setCore s i c) := by
  unfold State.setCore
  exact .upd .rfl

theorem State.setDom_keeps {b g : Bool} (s : State) (d : Nat) (v : Nat) :
    Keeps b g s (State.setDom s d v) := by
  unfold State.setDom
  exact State.setFld_keeps _ _ _

theorem State.setGrp_keeps {b g : Bool} (s : State) (g' : Nat) (c : ConvGrp) :
    Keeps b g s (State.setGrp s g' c) := by
  unfold State.setGrp
  exact .upd .rfl

theorem State.setIn_keeps {b g : Bool} (s : State) (i : Nat) (x : Slot) :
    Keeps b g s (State.setIn s i x) := by
  unfold State.setIn
  exact .upd .rfl

theorem State.setMaster_keeps {b g : Bool} (s : State) (i : Nat) (m : MasterSt) :
    Keeps b g s (State.setMaster s i m) := by
  unfold State.setMaster
  exact .upd .rfl

theorem State.setModem_keeps {b g : Bool} (s : State) (g' : Nat) (m : Modem) :
    Keeps b g s (State.setModem s g' m) := by
  unfold State.setModem
  exact .upd .rfl

theorem State.setOut_keeps {b g : Bool} (s : State) (i : Nat) (x : Slot) :
    Keeps b g s (State.setOut s i x) := by
  unfold State.setOut
  exact .upd .rfl

theorem State.setRegion_keeps {b : Bool} (s : State) (i : Nat) (r : Region) : Keeps b false s (s.setRegion i r) :=
  ⟨rfl, id, id, ⟨[], rfl⟩, ⟨[], rfl⟩, nofun, fun _ => rfl, id, id⟩

theorem State.setRing_keeps {b g : Bool} (s : State) (k : Nat) (r : RingSt) :
    Keeps b g s (State.setRing s k r) := by
  unfold State.setRing
  exact .upd .rfl

theorem State.setSer_keeps {b g : Bool} (s : State) (l : Nat) (x : SerSt) :
    Keeps b g s (State.setSer s l x) := by
  unfold State.setSer
  exact .upd .rfl

theorem State.setSess_keeps {b g : Bool} (s : State) (i : Nat) (x : Session)
    (hx : SessionsFit s → x.queue.length ≤ 8 := by
      intro h; first | exact h _ | exact Nat.zero_le _ | exact Nat.le_of_ble_eq_true rfl) :
    Keeps b g s (State.setSess s i x) := by
  refine ⟨rfl, id, id, ⟨[], rfl⟩, ⟨[], rfl⟩, fun _ => .inl rfl, fun _ => rfl, id, fun h k => ?_⟩
  simp only [State.sess, State.setSess, Sparse.get_set]
  split
  · exact hx h
  · exact h k


theorem State.setTask_keeps {b g : Bool} (s : State) (i : Nat) (t : TaskSt) :
    Keeps b g s (State.setTask s i t) := by
  unfold State.setTask
  exact .upd .rfl

theorem State.storeMem_keeps {g : Bool} (s : State) (a : Nat) (bs : List Byte) : Keeps false g s (s.storeMem a bs) := by
  refine ⟨?_, ?_, storeMem_wf a bs, ?_, ?_, ?_, nofun, ?_, ?_⟩
  all_goals unfold State.storeMem; dsimp only
  · split <;> rfl
  · split <;> exact id
  · split <;> exact ⟨[], rfl⟩
  · split <;> exact ⟨[], rfl⟩
  · split <;> exact fun _ => .inl rfl
  · split <;> exact id
  · split <;> exact id


theorem State.straitFor_keeps {b g : Bool} (s : State) (n : DWord) (l : Nat) (type : Nat) (sub : Nat) (vals : List Nat) (bytes : List Byte) :
    Keeps b g s (State.straitFor s n l type sub vals bytes) := by
  unfold State.straitFor
  refine .ite ?_ .rfl
  extract_lets -underBinder -merge -useContext +onlyGivenNames x1
  have hx1 : Keeps b g s x1 := State.emit_keeps _ _
  exact .upd (hx1)

theorem State.straitOn_keeps {b g : Bool} (s : State) (l : Nat) (type : Nat) (sub : Nat) (vals : List Nat) (bytes : List Byte) :
    Keeps b g s (State.straitOn s l type sub vals bytes) := by
  unfold State.straitOn
  exact State.straitFor_keeps _ _ _ _ _ _ _

theorem State.strait_keeps {b g : Bool} (s : State) (type : Nat) (sub : Nat) (vals : List Nat) :
    Keeps b g s (State.strait s type sub vals) := by
  unfold State.strait
  exact State.straitOn_keeps _ _ _ _ _ _

theorem State.straitReply_keeps {b g : Bool} (s : State) (type : Nat) (seq : Nat) (code : Nat) :
    Keeps b g s (State.straitReply s type seq code) := by
  unfold State.straitReply
  exact State.strait_keeps _ _ _ _

theorem State.touch_keeps {b g : Bool} (s : State) (ps : List MemPlace) :
    Keeps b g s (State.touch s ps) := by
  unfold State.touch
  exact State.markPages_keeps _ _

theorem State.unclean_keeps {b g : Bool} (s : State) :
    Keeps b g s (State.unclean s) := by
  unfold State.unclean
  exact State.note_keeps _ _

theorem State.window_keeps {b g : Bool} (s : State) (w : Nat) :
    Keeps b g s (State.window s w) := by
  unfold State.window
  exact State.setFld_keeps _ _ _

theorem State.withCheck_keeps {b g : Bool} (s : State) (f : CheckSt → CheckSt) :
    Keeps b g s (State.withCheck s f) := by
  unfold State.withCheck
  exact .upd .rfl

theorem State.withDio_keeps {b g : Bool} (s : State) (f : DioSt → DioSt) :
    Keeps b g s (State.withDio s f) := by
  unfold State.withDio
  exact .upd .rfl

theorem State.withLoader_keeps {b g : Bool} (s : State) (f : Loader → Loader) :
    Keeps b g s (State.withLoader s f) := by
  unfold State.withLoader
  exact .upd .rfl

theorem State.withPair_keeps {b g : Bool} (s : State) (f : Pair → Pair) :
    Keeps b g s (State.withPair s f) := by
  unfold State.withPair
  exact .upd .rfl

theorem State.withPanel_keeps {b g : Bool} (s : State) (f : PanelSt → PanelSt) :
    Keeps b g s (State.withPanel s f) := by
  unfold State.withPanel
  exact .upd .rfl

theorem State.withPower_keeps {b g : Bool} (s : State) (f : PowerSt → PowerSt) :
    Keeps b g s (State.withPower s f) := by
  unfold State.withPower
  exact .upd .rfl

theorem State.withRecorder_keeps {b g : Bool} {s t : State} {f : Recorder → Recorder}
    (hA : ∃ xs, (f t.recorder).halfA = xs ++ t.recorder.halfA) (hB : ∃ xs, (f t.recorder).halfB = xs ++ t.recorder.halfB)
    (h : Keeps b g s t) (hQ : t.recorder.queue.length ≤ 64 → (f t.recorder).queue.length ≤ 64 := by exact id) :
    Keeps b g s (t.withRecorder f) :=
  have k : Keeps b g t (t.withRecorder f) := ⟨rfl, id, id, hA, hB, fun _ => .inl rfl, fun _ => rfl, hQ, id⟩
  k.after h


theorem State.withResync_keeps {b g : Bool} (s : State) (f : Resync → Resync) :
    Keeps b g s (State.withResync s f) := by
  unfold State.withResync
  exact .upd .rfl

theorem State.withSkerry_keeps {b g : Bool} (s : State) (f : SkerrySt → SkerrySt) :
    Keeps b g s (State.withSkerry s f) := by
  unfold State.withSkerry
  exact .upd .rfl

theorem State.withTime_keeps {b g : Bool} (s : State) (f : TimeSt → TimeSt) :
    Keeps b g s (State.withTime s f) := by
  unfold State.withTime
  exact .upd .rfl

theorem setChState_keeps {b g : Bool} (s : State) (c : Nat) (v : Nat) :
    Keeps b g s (setChState s c v) := by
  unfold setChState
  exact State.setFld_keeps _ _ _

theorem journalUpdate_keeps {b g : Bool} (s : State) (j : DWord) (f : JRec → JRec) :
    Keeps b g s (journalUpdate s j f) := by
  unfold journalUpdate
  exact .ite .rfl (.upd .rfl)

theorem setSessQueue_keeps {b g : Bool} {s t : State} {k : Nat} {q : List QCmd} (h : Keeps b g s t)
    (hq : SessionsFit s → q.length ≤ 8) : Keeps b g s (setSessQueue t k q) :=
  have k' : Keeps b g s (t.setSess k { t.sess k with queue := q }) := by
    have e := State.setSess_keeps (b := b) (g := g) t k { t.sess k with queue := [] }
    refine ⟨(e.after h).pending, (e.after h).regs, (e.after h).mem, (e.after h).halfA, (e.after h).halfB,
      (e.after h).guards, (e.after h).same, (e.after h).queue, fun hs j => ?_⟩
    simp only [State.sess, State.setSess, Sparse.get_set]
    split
    · exact hq hs
    · exact h.sess hs j
  (State.setFld_keeps _ _ _).after k'


theorem countAnswer_keeps {b g : Bool} (s : State) (code : Nat) :
    Keeps b g s (countAnswer s code) := by
  unfold countAnswer
  exact .ite (State.count_keeps _ _ _) (.ite (State.count_keeps _ _ _) .rfl)

theorem finishCommand_keeps {b g : Bool} (s : State) (k : Nat) (code : Nat) (data : List Byte) :
    Keeps b g s (finishCommand s k code data) := by
  unfold finishCommand
  split
  · exact .rfl
  · rename_i q rest e
    extract_lets -underBinder -merge -useContext +onlyGivenNames x1
    have hx1 : Keeps b g s x1 := by
      unfold x1
      split
      · exact .rfl
      · exact journalUpdate_keeps _ _ _
    refine .ite ((State.setSess_keeps _ _ _).after (hx1)) (setSessQueue_keeps ((State.sendNet_keeps _ _ _).after ((countAnswer_keeps _ _).after (hx1))) fun h => ?_)
    have := h k
    rw [e] at this
    exact Nat.le_of_succ_le this


theorem finishMem_keeps {b g : Bool} (s : State) (k : Nat) (code : Nat) (data : List Byte) :
    Keeps b g s (finishMem s k code data) := by
  unfold finishMem
  split
  · exact .rfl
  · exact .ite (finishCommand_keeps _ _ _ _) .rfl

theorem channelError_keeps {b g : Bool} (s : State) (c : Nat) (e : Nat) :
    Keeps b g s (channelError s c e) := by
  unfold channelError
  extract_lets -underBinder -merge -useContext +onlyGivenNames x1 x2 x3 x4 x5
  have hx1 : Keeps b g s x1 := (setChState_keeps _ _ _).after (State.setFld_keeps _ _ _)
  have hx2 : Keeps b g s x2 := (State.setReg_keeps _ _ _).after (hx1)
  have hx3 : Keeps b g s x3 := (State.raise_keeps _ _ _ _ _).after (hx2)
  have hx5 : Keeps b g s x5 := (State.setChan_keeps _ _ _).after (hx3)
  try clear_value x1
  try clear_value x2
  try clear_value x3
  try clear_value x4
  try clear_value x5
  split
  · exact hx5
  · exact (finishMem_keeps _ _ _ _).after (hx5)

theorem abortChannel_keeps {b g : Bool} (s : State) (c : Nat) :
    Keeps b g s (abortChannel s c) := by
  unfold abortChannel
  exact .ite (State.setChan_keeps _ _ _) (channelError_keeps _ _ _)

theorem acceptArm_keeps {b g : Bool} (s : State) (im : Image) (forward : Bool) :
    Keeps b g s (acceptArm s im forward) := by
  unfold acceptArm
  extract_lets -underBinder -merge -useContext +onlyGivenNames x1 x2 x3
  have hx2 : Keeps b g s x2 := State.withLoader_keeps _ _
  exact .ite ((State.straitOn_keeps _ _ _ _ _ _).after (hx2)) (hx2)

theorem showSessions_keeps {b g : Bool} (s : State) :
    Keeps b g s (showSessions s) := by
  unfold showSessions
  extract_lets -underBinder -merge -useContext +onlyGivenNames x1
  exact (State.setFlag_keeps _ _ _).after ((State.setFld_keeps _ _ _).after (State.setFld_keeps _ _ _))

theorem acceptOpen_keeps {b g : Bool} (s : State) (port : Nat) (k : Nat) (o : OpenMsg) :
    Keeps b g s (acceptOpen s port k o) := by
  unfold acceptOpen
  extract_lets -underBinder -merge -useContext +onlyGivenNames x1 x2 x3 x4 x5 x6 x7
  have hx3 : Keeps b g s x3 := .upd .rfl
  have hx5 : Keeps b g s x5 := (State.setReg_keeps _ _ _).after ((State.setSess_keeps _ _ _).after (hx3))
  have hx6 : Keeps b g s x6 := (State.setFld_keeps _ _ _).after ((State.setFld_keeps _ _ _).after ((State.setReg_keeps _ _ _).after (hx5)))
  have hx7 : Keeps b g s x7 := (State.setReg_keeps _ _ _).after ((State.setFld_keeps _ _ _).after (hx6))
  exact (State.sendNet_keeps _ _ _).after ((showSessions_keeps _).after (hx7))

theorem ownerStop_keeps {b g : Bool} (s : State) (c : Nat) :
    Keeps b g s (ownerStop s c) := by
  unfold ownerStop
  exact .ite (setChState_keeps _ _ _) .rfl

theorem beginSegment_keeps {b g : Bool} (s : State) :
    Keeps b g s (beginSegment s) := by
  unfold beginSegment
  exact (State.setFld_keeps _ _ _).after ((State.setFlag_keeps _ _ _).after (State.setFlag_keeps _ _ _))

theorem runActivity_keeps {b g : Bool} (s : State) (code : Nat) (target : Nat) :
    Keeps b g s (runActivity s code target) := by
  unfold runActivity
  exact .upd .rfl

theorem startQueuedSegment_keeps {b g : Bool} (s : State) :
    Keeps b g s (startQueuedSegment s) := by
  unfold startQueuedSegment
  exact .ite ((beginSegment_keeps _).after (runActivity_keeps _ _ _)) .rfl

theorem copyEnds_keeps {b g : Bool} (s : State) :
    Keeps b g s (copyEnds s) := by
  unfold copyEnds
  extract_lets -underBinder -merge -useContext +onlyGivenNames x1 x2 x3 x4
  have hx1 : Keeps b g s x1 := (ownerStop_keeps _ _).after (ownerStop_keeps _ _)
  have hx2 : Keeps b g s x2 := (State.setFld_keeps _ _ _).after (hx1)
  have hx3 : Keeps b g s x3 := .upd (hx2)
  have hx4 : Keeps b g s x4 := (State.withPair_keeps _ _).after (hx3)
  exact (startQueuedSegment_keeps _).after (hx4)

theorem restoreOutputs_keeps {b g : Bool} (s : State) :
    Keeps b g s (restoreOutputs s) := by
  unfold restoreOutputs
  split
  · exact .rfl
  · exact .upd .rfl

theorem resyncFail_keeps {b g : Bool} (s : State) (code : Nat) :
    Keeps b g s (resyncFail s code) := by
  unfold resyncFail
  extract_lets -underBinder -merge -useContext +onlyGivenNames x1 x2
  try clear_value x1
  try clear_value x2
  refine .ite .rfl ?_
  extract_lets -underBinder -merge -useContext +onlyGivenNames x3 x4 x5
  have hx3 : Keeps b g s x3 := (State.raise_keeps _ _ _ _ _).after (State.count_keeps _ _ _)
  have hx4 : Keeps b g s x4 := .ite ((State.strait_keeps _ _ _ _).after ((State.straitReply_keeps _ _ _ _).after (hx3))) (hx3)
  have hx5 : Keeps b g s x5 := (copyEnds_keeps _).after ((restoreOutputs_keeps _).after (hx4))
  exact .ite ((State.withResync_keeps _ _).after (hx5)) (hx5)

theorem queueCopy_keeps {b g : Bool} (s : State) (pages : List Nat) :
    Keeps b g s (queueCopy s pages) := by
  unfold queueCopy
  exact State.withResync_keeps _ _

theorem ownerStart_keeps {b g : Bool} (s : State) (c : Nat) :
    Keeps b g s (ownerStart s c) := by
  unfold ownerStart
  exact (State.setChan_keeps _ _ _).after ((setChState_keeps _ _ _).after (State.setFld_keeps _ _ _))

theorem acceptResync_keeps {b g : Bool} (s : State) (h : StraitHdr) :
    Keeps b g s (acceptResync s h) := by
  unfold acceptResync
  extract_lets -underBinder -merge -useContext +onlyGivenNames x1 x2 x3 x4
  have hx1 : Keeps b g s x1 := (State.strait_keeps _ _ _ _).after (State.strait_keeps _ _ _ _)
  have hx2 : Keeps b g s x2 := (State.setFld_keeps _ _ _).after ((State.setFld_keeps _ _ _).after (hx1))
  have hx4 : Keeps b g s x4 := .upd (hx2)
  exact .ite ((resyncFail_keeps _ _).after (hx4)) ((queueCopy_keeps _ _).after ((ownerStart_keeps _ _).after (hx4)))

theorem acquire_keeps {b g : Bool} (s : State) (src : Nat) (port : Nat) :
    Keeps b g s (acquire s src port) := by
  unfold acquire
  extract_lets -underBinder -merge -useContext +onlyGivenNames x1 x2
  have hx1 : Keeps b g s x1 := (State.setFld_keeps _ _ _).after ((State.setFld_keeps _ _ _).after (State.setFlag_keeps _ _ _))
  have hx2 : Keeps b g s x2 := (State.raise_keeps _ _ _ _ _).after ((State.setFlag_keeps _ _ _).after (hx1))
  exact (State.withTime_keeps _ _).after (hx2)

theorem acquireSample_keeps {b g : Bool} (s : State) (off : Int) (port : Nat) (refNs : DWord) (refFrac : Nat) :
    Keeps b g s (acquireSample s off port refNs refFrac) := by
  unfold acquireSample
  extract_lets -underBinder -merge -useContext +onlyGivenNames x1
  exact .ite ((acquire_keeps _ _ _).after (State.setNow_keeps _ _ _)) (State.withTime_keeps _ _)

theorem activateBank_keeps {b g : Bool} (s : State) (b' : Nat) (seq : Word) (digest : List Byte) :
    Keeps b g s (activateBank s b' seq digest) := by
  unfold activateBank
  exact (State.withLoader_keeps _ _).after (.upd .rfl)

theorem resultNow_keeps {b g : Bool} (s : State) (k : Nat) (m : CmdMsg) (replay : Bool) (code : Nat) (data : List Byte) :
    Keeps b g s (resultNow s k m replay code data) := by
  unfold resultNow
  exact (State.sendNet_keeps _ _ _).after (countAnswer_keeps _ _)

theorem replayed_keeps {b g : Bool} (s : State) (k : Nat) (m : CmdMsg) :
    Keeps b g s (replayed s k m) := by
  unfold replayed
  split
  · exact resultNow_keeps _ _ _ _ _ _
  · refine .ite ?_ .rfl
    extract_lets -underBinder -merge -useContext +onlyGivenNames x1
    exact (resultNow_keeps _ _ _ _ _ _).after (journalUpdate_keeps _ _ _)

theorem journalAppend_keeps {b g : Bool} (s : State) (r : JRec) :
    Keeps b g s (journalAppend s r) := by
  unfold journalAppend
  refine .ite .rfl ?_
  extract_lets -underBinder -merge -useContext +onlyGivenNames x1 x2 x3
  have hx2 : Keeps b g s x2 := State.setDword_keeps _ _ _
  have hx3 : Keeps b g s x3 := .upd (hx2)
  exact (State.setFld_keeps _ _ _).after (hx3)

theorem admitCommand_keeps {b g : Bool} (s : State) (k : Nat) (m : CmdMsg) :
    Keeps b g s (admitCommand s k m) := by
  have ja : ∀ (t : State) r, (journalAppend t r).sess k = t.sess k := by
    intro t r; unfold journalAppend; split <;> rfl
  have sr : ∀ (t : State) a v, (t.setReg a v).sess k = t.sess k := fun _ _ _ => rfl
  unfold admitCommand
  extract_lets -underBinder -merge -useContext +onlyGivenNames x1
  try clear_value x1
  refine .ite (replayed_keeps _ _ _) ?_
  split
  · exact resultNow_keeps _ _ _ _ _ _
  · rename_i hn
    extract_lets -underBinder -merge -useContext +onlyGivenNames x2
    have hx2 : Keeps b g s x2 := .ite (State.setReg_keeps _ _ _) .rfl
    have sx2 : x2.sess k = s.sess k := by unfold x2; split <;> rfl
    try clear_value x2
    split
    · exact (resultNow_keeps _ _ _ _ _ _).after (.ite ((journalAppend_keeps _ _).after (hx2)) (hx2))
    · extract_lets -underBinder -merge -useContext +onlyGivenNames x3 x4
      have hx4 : Keeps b g s x4 := .ite ((journalAppend_keeps _ _).after (hx2)) (hx2)
      have sx4 : x4.sess k = s.sess k := by unfold x4; split; exacts [(ja _ _).trans sx2, sx2]
      refine setSessQueue_keeps hx4 fun _ => ?_
      rw [sx4, List.length_append]
      simp only [List.length_cons, List.length_nil]
      omega


theorem eventTo_keeps {b g : Bool} (bytes : List Byte) (s : State) (slot : Nat) :
    Keeps b g s (eventTo bytes s slot) := by
  unfold eventTo
  extract_lets -underBinder -merge -useContext +onlyGivenNames x1 x2 x3
  exact .ite (State.setSess_keeps _ _ _) ((State.sendNet_keeps _ _ _).after (State.setSess_keeps _ _ _))

theorem eventOut_keeps {b g : Bool} (s : State) (e : RawEvent) (bytes : List Byte) :
    Keeps b g s (eventOut s e bytes) := by
  unfold eventOut
  exact .fold (fun _ _ => eventTo_keeps _ _ _) .rfl

theorem suppressEvents_keeps {b g : Bool} (s : State) (n : Nat) :
    Keeps b g s (suppressEvents s n) := by
  unfold suppressEvents
  exact State.withRecorder_keeps ⟨[], rfl⟩ ⟨[], rfl⟩ (State.count_keeps _ _ _)

theorem numberQueue_length (q : List EvRecord) : ∀ i c, (numberQueue i c q).length = q.length := by
  induction q with
  | nil => intro i c; rfl
  | cons r rs ih => intro i c; simp [numberQueue, ih]

theorem insertRecord_length (r : EvRecord) (q : List EvRecord) : (insertRecord r q).length = q.length + 1 := by
  induction q with
  | nil => rfl
  | cons x xs ih => unfold insertRecord; split <;> simp [ih]

theorem setQueue_keeps {b g : Bool} {s t : State} {q : List EvRecord} (h : Keeps b g s t)
    (hq : s.recorder.queue.length ≤ 64 → q.length ≤ 64) : Keeps b g s (setQueue t q) := by
  unfold setQueue
  refine (State.setFld_keeps _ _ _).after ?_
  have k : Keeps b g s (t.withRecorder id) := State.withRecorder_keeps ⟨[], rfl⟩ ⟨[], rfl⟩ h
  exact ⟨k.pending, k.regs, k.mem, k.halfA, k.halfB, k.guards, k.same,
    fun e => by simpa [State.withRecorder, numberQueue_length] using hq e, k.sess⟩


theorem judgeRecord_keeps {b g : Bool} (s : State) (e : RawEvent) (coalesced : Bool) (rep : Nat) (n : Nat) :
    Keeps b g s (judgeRecord s e coalesced rep n).1 := by
  unfold judgeRecord
  extract_lets -underBinder -merge -useContext +onlyGivenNames x1
  try clear_value x1
  split
  · extract_lets -underBinder -merge -useContext +onlyGivenNames x2 x3
    exact .mk1 ((eventOut_keeps _ _ _).after (State.count_keeps _ _ _))
  · extract_lets -underBinder -merge -useContext +onlyGivenNames x4
    try clear_value x4
    split
    · exact .mk1 (suppressEvents_keeps _ _)
    · rename_i hn
      extract_lets -underBinder -merge -useContext +onlyGivenNames x5 x6
      have hx5 : Keeps b g s x5 := State.withRecorder_keeps ⟨[], rfl⟩ ⟨[], rfl⟩ (State.setFld_keeps _ _ _)
      have q5 : x5.recorder.queue = s.recorder.queue := rfl
      have hx6 : Keeps b g s x6 := setQueue_keeps hx5 fun _ => by
        rw [insertRecord_length, q5]; omega
      try clear_value x5
      try clear_value x6
      split
      · exact .mk1 (hx6)
      · exact .mk1 ((eventOut_keeps _ _ _).after (hx6))


theorem admitFront_keeps {b g : Bool} (s : State) :
    Keeps b g s (admitFront s) := by
  unfold admitFront
  split
  · exact .rfl
  · extract_lets -underBinder -merge -useContext +onlyGivenNames x1
    have hx1 : Keeps b g s x1 := State.withRecorder_keeps ⟨[], rfl⟩ ⟨[], rfl⟩ .rfl
    try clear_value x1
    refine .ite (State.withRecorder_keeps ⟨[], rfl⟩ ⟨[], rfl⟩ (hx1)) ?_
    split
    rename_i p3 p4 hq2
    have hp3 : Keeps b g s p3 := .fst hq2 ((judgeRecord_keeps _ _ _ _ _).after (hx1))
    exact .ite (State.withRecorder_keeps ⟨[], rfl⟩ ⟨[], rfl⟩ (hp3)) (hp3)

theorem takeLocalCard_keeps {b g : Bool} (s : State) (mask : DWord) (gs : List SignalRec) (bs : List Byte) :
    Keeps b g s (takeLocalCard s mask gs bs) := by
  induction gs generalizing s bs with
  | nil => exact Keeps.refl _ _ _
  | cons x gs ih =>
    unfold takeLocalCard
    refine Keeps.ite ?_ (ih _ _)
    exact (ih _ _).after (State.setIn_keeps _ _ _)

theorem stationPresent_keeps {b g : Bool} (s : State) (x : StationRec) (block : List Byte) :
    Keeps b g s (stationPresent s x block) := by
  unfold stationPresent
  extract_lets -underBinder -merge -useContext +onlyGivenNames x1 x2 x3
  have hx2 : Keeps b g s x2 := (State.setFld_keeps _ _ _).after ((State.setFld_keeps _ _ _).after (State.setFld_keeps _ _ _))
  have hx3 : Keeps b g s x3 := (State.setFld_keeps _ _ _).after (hx2)
  exact (State.setRing_keeps _ _ _).after (hx3)

theorem takeBlock_keeps {b g : Bool} (s : State) (x : StationRec) (block : List Byte) :
    Keeps b g s (takeBlock s x block) := by
  unfold takeBlock
  extract_lets -underBinder -merge -useContext +onlyGivenNames x1
  exact (State.touch_keeps _ _).after (.fold (fun _ _ => State.setIn_keeps _ _ _) .rfl)

theorem substituteStation_keeps {b g : Bool} (s : State) (ring : Nat) (station : Nat) :
    Keeps b g s (substituteStation s ring station) := by
  unfold substituteStation
  extract_lets -underBinder -merge -useContext +onlyGivenNames x1
  exact (State.touch_keeps _ _).after (.fold (fun _ _ => State.setIn_keeps _ _ _) .rfl)

theorem staleStation_keeps {b g : Bool} (s : State) (ring : Nat) (station : Nat) :
    Keeps b g s (staleStation s ring station) := by
  unfold staleStation
  extract_lets -underBinder -merge -useContext +onlyGivenNames x1
  try clear_value x1
  refine (State.touch_keeps _ _).after ?_
  refine .fold ?_ .rfl
  intro s2 a3
  extract_lets -underBinder -merge -useContext +onlyGivenNames x4
  exact State.setIn_keeps _ _ _

theorem stationAbsent_keeps {b g : Bool} (s : State) (x : StationRec) (missing : Bool) :
    Keeps b g s (stationAbsent s x missing) := by
  unfold stationAbsent
  extract_lets -underBinder -merge -useContext +onlyGivenNames x1 x2 x3
  have hx2 : Keeps b g s x2 := State.setFld_keeps _ _ _
  have hx3 : Keeps b g s x3 := (State.count_keeps _ _ _).after (hx2)
  exact .ite ((substituteStation_keeps _ _ _).after (hx3)) ((staleStation_keeps _ _ _).after (hx3))

theorem judgeRing_keeps {b g : Bool} (s : State) (k : Nat) (blocks : List (Nat × List Byte)) (place : Bool) :
    Keeps b g s (judgeRing s k blocks place) := by
  unfold judgeRing
  refine .fold ?_ .rfl
  intro s1 a2
  split
  · extract_lets -underBinder -merge -useContext +onlyGivenNames x3
    have hx3 : Keeps b g s1 x3 := stationPresent_keeps _ _ _
    exact .ite ((takeBlock_keeps _ _ _).after (hx3)) (hx3)
  · exact stationAbsent_keeps _ _ _

theorem adoptCard_keeps {b g : Bool} (s : State) (k : Nat) (mask : DWord) (bytes : List Byte) :
    Keeps b g s (adoptCard s k mask bytes) := by
  unfold adoptCard
  refine .ite ((State.withPair_keeps _ _).after (takeLocalCard_keeps _ _ _ _)) ?_
  extract_lets -underBinder -merge -useContext +onlyGivenNames x1
  have hx1 : Keeps b g s x1 := judgeRing_keeps _ _ _ _
  exact (State.setRing_keeps _ _ _).after (hx1)

theorem adoptResult_keeps {b g : Bool} (s : State) (edge : DWord) (c : Nat) :
    Keeps b g s (adoptResult s edge c) := by
  unfold adoptResult
  extract_lets -underBinder -merge -useContext +onlyGivenNames x1
  try clear_value x1
  split
  · exact .rfl
  · exact .ite (State.setAna_keeps _ _ _) .rfl

theorem convIdle_keeps {b g : Bool} (s : State) (g' : Nat) :
    Keeps b g s (convIdle s g') := by
  unfold convIdle
  extract_lets -underBinder -merge -useContext +onlyGivenNames x1 x2
  have hx2 : Keeps b g s x2 := State.setGrp_keeps _ _ _
  exact (State.setFlag_keeps _ _ _).after ((State.setFld_keeps _ _ _).after ((State.setFld_keeps _ _ _).after (hx2)))

theorem convPush_keeps {b g : Bool} (s : State) (g' : Nat) (bs : List Byte) :
    Keeps b g s (convPush s g' bs) := by
  unfold convPush
  extract_lets -underBinder -merge -useContext +onlyGivenNames x1
  exact State.setGrp_keeps _ _ _

theorem convBegin_keeps {b g : Bool} (s : State) (g' : Nat) (e : FastEntry) (t : DWord) :
    Keeps b g s (convBegin s g' e t) := by
  unfold convBegin
  extract_lets -underBinder -merge -useContext +onlyGivenNames x1 x2 x3
  have hx2 : Keeps b g s x2 := State.setGrp_keeps _ _ _
  have hx3 : Keeps b g s x3 := (State.setFlag_keeps _ _ _).after ((State.setFld_keeps _ _ _).after (hx2))
  exact (convPush_keeps _ _ _).after (hx3)

theorem convEntry_keeps {b g : Bool} (s : State) (g' : Nat) (n : Nat) (rep : Bool) (t : DWord) :
    Keeps b g s (convEntry s g' n rep t) := by
  unfold convEntry
  extract_lets -underBinder -merge -useContext +onlyGivenNames x1
  exact (convBegin_keeps _ _ _ _).after (State.setFld_keeps _ _ _)

theorem afterEntry_keeps {b g : Bool} (s : State) (g' : Nat) (t : DWord) :
    Keeps b g s (afterEntry s g' t) := by
  unfold afterEntry
  extract_lets -underBinder -merge -useContext +onlyGivenNames x1
  exact .ite (convIdle_keeps _ _) (.ite (convEntry_keeps _ _ _ _ _) (.ite (convEntry_keeps _ _ _ _ _) (convIdle_keeps _ _)))

theorem answerStopped_keeps {b g : Bool} (s : State) (c : Nat) :
    Keeps b g s (answerStopped s c) := by
  unfold answerStopped
  split
  · exact .rfl
  · exact (finishMem_keeps _ _ _ _).after (State.setChan_keeps _ _ _)

theorem stopChannel_keeps {b g : Bool} (s : State) (c : Nat) :
    Keeps b g s (stopChannel s c) := by
  unfold stopChannel
  refine .ite .rfl ?_
  extract_lets -underBinder -merge -useContext +onlyGivenNames x1
  exact (answerStopped_keeps _ _).after ((State.setFld_keeps _ _ _).after ((setChState_keeps _ _ _).after (State.setChan_keeps _ _ _)))

theorem busStop_keeps {b g : Bool} (s : State) (a : Nat) :
    Keeps b g s (busStop s a) := by
  unfold busStop
  extract_lets -underBinder -merge -useContext +onlyGivenNames x1 x4
  have hx1 : Keeps b g s x1 := .fold (fun _ _ => stopChannel_keeps _ _) .rfl
  have hx4 : Keeps b g s x4 := (State.setDword_keeps _ _ _).after ((State.setFlag_keeps _ _ _).after (hx1))
  exact (State.raise_keeps _ _ _ _ _).after (hx4)

theorem busFailed_keeps {b g : Bool} (s : State) (a : Nat) :
    Keeps b g s (busFailed s a) := by
  unfold busFailed
  extract_lets -underBinder -merge -useContext +onlyGivenNames x1
  have hx1 : Keeps b g s x1 := busStop_keeps _ _
  exact .ite ((resyncFail_keeps _ _).after (hx1)) (hx1)

theorem channelDone_keeps {b g : Bool} (s : State) (c : Nat) :
    Keeps b g s (channelDone s c) := by
  unfold channelDone
  extract_lets -underBinder -merge -useContext +onlyGivenNames x1 x2
  have hx1 : Keeps b g s x1 := (setChState_keeps _ _ _).after (State.setFld_keeps _ _ _)
  have hx2 : Keeps b g s x2 := (State.setReg_keeps _ _ _).after (hx1)
  exact (State.setChan_keeps _ _ _).after (hx2)

theorem chainDone_keeps {b g : Bool} (s : State) (c : Nat) :
    Keeps b g s (chainDone s c) := by
  unfold chainDone
  extract_lets -underBinder -merge -useContext +onlyGivenNames x1 x2
  have hx2 : Keeps b g s x2 := channelDone_keeps _ _
  try clear_value x1
  try clear_value x2
  split
  · exact hx2
  · exact (finishMem_keeps _ _ _ _).after ((State.setChan_keeps _ _ _).after (hx2))

theorem descrDone_keeps {b g : Bool} (s : State) (c : Nat) (d : Descr) :
    Keeps b g s (descrDone s c d) := by
  unfold descrDone
  extract_lets -underBinder -merge -useContext +onlyGivenNames x1
  have hx1 : Keeps b g s x1 := .ite (State.note_keeps _ _) .rfl
  try clear_value x1
  refine .ite ((chainDone_keeps _ _).after (hx1)) ?_
  extract_lets -underBinder -merge -useContext +onlyGivenNames x2
  have hx2 : Keeps b g s x2 := (State.setDword_keeps _ _ _).after (hx1)
  exact (setChState_keeps _ _ _).after ((State.setChan_keeps _ _ _).after (hx2))

theorem awaitLine_keeps {b g : Bool} (s : State) (c : Nat) (l : Nat) :
    Keeps b g s (awaitLine s c l) := by
  unfold awaitLine
  extract_lets -underBinder -merge -useContext +onlyGivenNames x1
  exact (setChState_keeps _ _ _).after (State.setChan_keeps _ _ _)

theorem afterUnit_keeps {b g : Bool} (s : State) (c : Nat) (d : Descr) (y4 : UnitEnd) :
    Keeps b g s (afterUnit s c d y4) := by
  unfold afterUnit
  split
  · exact (channelError_keeps _ _ _).after (State.memError_keeps _ _)
  · exact busFailed_keeps _ _
  · exact .ite (channelError_keeps _ _ _) (.ite (descrDone_keeps _ _ _) (.ite (setChState_keeps _ _ _) (awaitLine_keeps _ _ _)))

theorem stampUnit_keeps {b g : Bool} (s : State) (cap : Nat) (ns : DWord) (frac : Nat) :
    Keeps b g s (stampUnit s cap ns frac) := by
  unfold stampUnit
  extract_lets -underBinder -merge -useContext +onlyGivenNames x1 x2
  have hx1 : Keeps b g s x1 := .ite ((State.note_keeps _ _).after (State.note_keeps _ _)) .rfl
  have hx2 : Keeps b g s x2 := (State.setFld_keeps _ _ _).after ((State.setDword_keeps _ _ _).after (hx1))
  exact (State.note_keeps _ _).after (hx2)

theorem stampStart_keeps {b g : Bool} (s : State) (source : Nat) (ns : DWord) :
    Keeps b g s (stampStart s source ns) := by
  unfold stampStart
  exact .fold (fun _ _ => .ite (stampUnit_keeps _ _ _ _) .rfl) .rfl

theorem sequenceBegins_keeps {b g : Bool} (s : State) (g' : Nat) (t : DWord) :
    Keeps b g s (sequenceBegins s g' t) := by
  unfold sequenceBegins
  exact (stampStart_keeps _ _ _).after (convEntry_keeps _ _ _ _ _)

theorem afterUrgent_keeps {b g : Bool} (s : State) (g' : Nat) (t : DWord) :
    Keeps b g s (afterUrgent s g' t) := by
  unfold afterUrgent
  extract_lets -underBinder -merge -useContext +onlyGivenNames x1
  try clear_value x1
  split
  · exact (convBegin_keeps _ _ _ _).after ((State.setFld_keeps _ _ _).after (State.setGrp_keeps _ _ _))
  · extract_lets -underBinder -merge -useContext +onlyGivenNames x2
    have hx2 : Keeps b g s x2 := State.setFld_keeps _ _ _
    exact .ite ((convEntry_keeps _ _ _ _ _).after ((State.setGrp_keeps _ _ _).after (hx2))) (.ite ((sequenceBegins_keeps _ _ _).after ((State.setFlag_keeps _ _ _).after ((State.setGrp_keeps _ _ _).after (hx2)))) ((convIdle_keeps _ _).after (hx2)))

theorem anaStart_keeps {b g : Bool} (s : State) (c : Nat) (t : DWord) :
    Keeps b g s (anaStart s c t) := by
  unfold anaStart
  extract_lets -underBinder -merge -useContext +onlyGivenNames x1
  exact .ite .rfl (.ite ((State.setAna_keeps _ _ _).after (State.note_keeps _ _)) (.ite (State.note_keeps _ _) ((stampStart_keeps _ _ _).after (State.setAna_keeps _ _ _))))

theorem announceRaise_keeps {b g : Bool} (s : State) :
    Keeps b g s (announceRaise s) := by
  unfold announceRaise
  exact State.strait_keeps _ _ _ _

theorem finishWaiting_keeps {b g : Bool} (s : State) (k : Nat) (opcode : Nat) (code : Nat) (data : List Byte) :
    Keeps b g s (finishWaiting s k opcode code data) := by
  unfold finishWaiting
  split
  · exact .rfl
  · exact .ite (finishCommand_keeps _ _ _ _) .rfl

theorem answerWait_keeps {b g : Bool} (s : State) (opcode : Nat) (code : Nat) (data : List Byte) :
    Keeps b g s (answerWait s opcode code data) := by
  unfold answerWait
  split
  · exact .rfl
  · exact (finishWaiting_keeps _ _ _ _ _).after (State.withLoader_keeps _ _)

theorem appendMarker_keeps {b g : Bool} (s : State) (b' : Nat) (m : Marker) (step : Nat) (ok : Bool) :
    Keeps b g s (appendMarker s b' m step ok) := by
  unfold appendMarker
  extract_lets -underBinder -merge -useContext +onlyGivenNames x1
  exact .ite (State.setBank_keeps _ _ _) (.ite (State.setBank_keeps _ _ _) .rfl)

theorem applyGuardSet_keeps {b : Bool} (s : State) (req : Nat) :
    Keeps b false s (applyGuardSet s req) := by
  unfold applyGuardSet
  extract_lets -underBinder -merge -useContext +onlyGivenNames x1
  exact .ite (State.note_keeps _ _) (.fold (fun _ _ => State.setRegion_keeps _ _ _) .rfl)

theorem driveTerminal_keeps {b g : Bool} (s : State) (c : Nat) (v : DWord) :
    Keeps b g s (driveTerminal s c v) := by
  unfold driveTerminal
  exact State.emit_keeps _ _

theorem showDrive_keeps {b g : Bool} (s : State) (c : Nat) (clamped : Bool) (warn : Bool) :
    Keeps b g s (showDrive s c clamped warn) := by
  unfold showDrive
  exact (State.setFlag_keeps _ _ _).after (State.setFlag_keeps _ _ _)

theorem driveFail_keeps {b g : Bool} (s : State) (c : Nat) :
    Keeps b g s (driveFail s c) := by
  unfold driveFail
  exact (driveTerminal_keeps _ _ _).after (showDrive_keeps _ _ _ _)

theorem applyOutput.applyItem_keeps {b g : Bool} (s : State) (c : Nat) (a : AnaSt) :
    Keeps b g s (applyOutput.applyItem s c a) := by
  unfold applyOutput.applyItem
  split
  · exact .rfl
  · split
    · exact .ite (driveFail_keeps _ _) ((State.setAna_keeps _ _ _).after (State.setFlag_keeps _ _ _))
    · split
      extract_lets -underBinder -merge -useContext +onlyGivenNames x1
      have hx1 : Keeps b g s x1 := showDrive_keeps _ _ _ _
      exact (driveTerminal_keeps _ _ _).after ((State.setAna_keeps _ _ _).after (hx1))

theorem applyOutput_keeps {b g : Bool} (held : List Nat) (s : State) (c : Nat) :
    Keeps b g s (applyOutput held s c) := by
  unfold applyOutput
  extract_lets -underBinder -merge -useContext +onlyGivenNames x1 x2
  try clear_value x1
  try clear_value x2
  refine .ite .rfl ?_
  refine .ite (driveFail_keeps _ _) ?_
  split
  · refine .ite ?_ (applyOutput.applyItem_keeps _ _ _)
    split
    · exact .rfl
    · exact (driveTerminal_keeps _ _ _).after (showDrive_keeps _ _ _ _)
  · exact applyOutput.applyItem_keeps _ _ _

theorem setTrigNext_keeps {b g : Bool} (s : State) (i : Nat) (t : Option DWord) :
    Keeps b g s (setTrigNext s i t) := by
  unfold setTrigNext
  exact State.withTime_keeps _ _

theorem trigState_keeps {b g : Bool} (s : State) (i : Nat) (v : Nat) :
    Keeps b g s (trigState s i v) := by
  unfold trigState
  exact (State.setFld_keeps _ _ _).after (State.setFld_keeps _ _ _)

theorem armTrigger_keeps {b g : Bool} (s : State) (i : Nat) :
    Keeps b g s (armTrigger s i) := by
  unfold armTrigger
  extract_lets -underBinder -merge -useContext +onlyGivenNames x1 x2 x3
  try clear_value x1
  try clear_value x2
  try clear_value x3
  refine .ite .rfl ?_
  split
  · exact .ite ((State.note_keeps _ _).after (trigState_keeps _ _ _)) ((setTrigNext_keeps _ _ _).after (trigState_keeps _ _ _))
  · exact .ite .rfl ((setTrigNext_keeps _ _ _).after (trigState_keeps _ _ _))
  · refine .ite .rfl ?_
    extract_lets -underBinder -merge -useContext +onlyGivenNames x4 x5
    exact (setTrigNext_keeps _ _ _).after (trigState_keeps _ _ _)
  · exact .rfl

theorem writeTrigCtrl_keeps {b g : Bool} (s : State) (i : Nat) (v : Word) :
    Keeps b g s (writeTrigCtrl s i v) := by
  unfold writeTrigCtrl
  extract_lets -underBinder -merge -useContext +onlyGivenNames x1 x2 x3 x4
  have hx1 : Keeps b g s x1 := State.setFld_keeps _ _ _
  have hx2 : Keeps b g s x2 := (State.setFld_keeps _ _ _).after (hx1)
  have hx3 : Keeps b g s x3 := (State.setFld_keeps _ _ _).after (hx2)
  have hx4 : Keeps b g s x4 := (setTrigNext_keeps _ _ _).after ((trigState_keeps _ _ _).after (hx3))
  exact .ite ((armTrigger_keeps _ _).after (hx4)) (hx4)

theorem storeFields_keeps {b g : Bool} (s : State) (key : Nat) (r : RegDesc) (v : Word) :
    Keeps b g s (storeFields s key r v) := by
  unfold storeFields
  exact State.setReg_keeps _ _ _

theorem writeRingCtrl_keeps {b g : Bool} (s : State) (k : Nat) (v : Word) :
    Keeps b g s (writeRingCtrl s k v) := by
  unfold writeRingCtrl
  exact (State.setFld_keeps _ _ _).after (State.setFld_keeps _ _ _)

theorem canBlocked_keeps {b g : Bool} (s : State) (b' : Nat) :
    Keeps b g s (canBlocked s b') := by
  unfold canBlocked
  exact State.note_keeps _ _

theorem setCanState_keeps {b g : Bool} (s : State) (b' : Nat) (i : Nat) (v : Nat) :
    Keeps b g s (setCanState s b' i v) := by
  unfold setCanState
  exact State.setFld_keeps _ _ _

theorem writeHead_keeps {b g : Bool} (s : State) (b' : Nat) (i : Nat) (v : Word) :
    Keeps b g s (writeHead s b' i v) := by
  unfold writeHead
  extract_lets -underBinder -merge -useContext +onlyGivenNames x1
  try clear_value x1
  refine .ite (canBlocked_keeps _ _) ?_
  extract_lets -underBinder -merge -useContext +onlyGivenNames x2
  have hx2 : Keeps b g s x2 := .fold (fun _ _ => State.setFld_keeps _ _ _) .rfl
  exact .ite (hx2) ((setCanState_keeps _ _ _ _).after (hx2))

theorem writeCanWord_keeps {b g : Bool} (s : State) (b' : Nat) (i : Nat) (w : Nat) (v : Word) :
    Keeps b g s (writeCanWord s b' i w v) := by
  unfold writeCanWord
  extract_lets -underBinder -merge -useContext +onlyGivenNames x1 x2
  try clear_value x1
  try clear_value x2
  refine .ite (canBlocked_keeps _ _) ?_
  split
  · exact writeHead_keeps _ _ _ _
  · exact .ite (canBlocked_keeps _ _) (State.setReg_keeps _ _ _)
  · exact .ite (canBlocked_keeps _ _) (State.setReg_keeps _ _ _)
  · exact .ite (canBlocked_keeps _ _) (State.setReg_keeps _ _ _)
  · exact .ite (State.setReg_keeps _ _ _) .rfl

theorem requestSafe_keeps {b g : Bool} (s : State) (cause : Nat) :
    Keeps b g s (requestSafe s cause) := by
  unfold requestSafe
  exact .ite (State.withPair_keeps _ _) .rfl

theorem writeSafeReq_keeps {b g : Bool} (s : State) (v : Word) :
    Keeps b g s (writeSafeReq s v) := by
  unfold writeSafeReq
  exact .ite (requestSafe_keeps _ _) .rfl

theorem applyTaskEn_keeps {b g : Bool} (s : State) (i : Nat) (v : Word) :
    Keeps b g s (applyTaskEn s i v) := by
  unfold applyTaskEn
  split
  · exact .rfl
  · refine .ite ?_ .rfl
    extract_lets -underBinder -merge -useContext +onlyGivenNames x1 x2 x3 x4
    have hx1 : Keeps b g s x1 := (State.setFld_keeps _ _ _).after (State.setFlag_keeps _ _ _)
    have hx4 : Keeps b g s x4 := (State.setTask_keeps _ _ _).after (hx1)
    exact (State.raise_keeps _ _ _ _ _).after (hx4)

theorem newActivity_keeps {b g : Bool} (s : State) (group : Nat) (code : Nat) (target : Nat) (st : Nat) :
    Keeps b g s (newActivity s group code target st) := by
  unfold newActivity
  exact .upd .rfl

theorem showSplitRequest_keeps {b g : Bool} (s : State) (wait : Bool) :
    Keeps b g s (showSplitRequest s wait) := by
  unfold showSplitRequest
  extract_lets -underBinder -merge -useContext +onlyGivenNames x1
  have hx1 : Keeps b g s x1 := State.setFld_keeps _ _ _
  exact .ite ((State.setFld_keeps _ _ _).after (hx1)) (hx1)

theorem askSplit_keeps {b g : Bool} (s : State) (core : Nat) (half : Nat) :
    Keeps b g s (askSplit s core half) := by
  unfold askSplit
  split
  · exact State.setFld_keeps _ _ _
  · exact (newActivity_keeps _ _ _ _ _).after (showSplitRequest_keeps _ _)

theorem requestSplit_keeps {b g : Bool} (s : State) (core : Nat) (half : Nat) :
    Keeps b g s (requestSplit s core half) := by
  unfold requestSplit
  exact .ite (askSplit_keeps _ _ _) (State.setFld_keeps _ _ _)

theorem writeSplit_keeps {b g : Bool} (s : State) (v : Word) :
    Keeps b g s (writeSplit s v) := by
  unfold writeSplit
  exact .ite (requestSplit_keeps _ _ _) .rfl

theorem sendSwapReq_keeps {b g : Bool} (s : State) (slot : Option Nat) :
    Keeps b g s (sendSwapReq s slot) := by
  unfold sendSwapReq
  exact (State.withPair_keeps _ _).after (State.strait_keeps _ _ _ _)

theorem writeSwapReq_keeps {b g : Bool} (s : State) (v : Word) :
    Keeps b g s (writeSwapReq s v) := by
  unfold writeSwapReq
  exact .ite (sendSwapReq_keeps _ _) .rfl

theorem guardApplyEffect_keeps {b g : Bool} (s : State) (req : Nat) (v : Word) :
    Keeps b g s (guardApplyEffect s req v) := by
  unfold guardApplyEffect
  exact .ite (.upd .rfl) .rfl

theorem limitRate_keeps {b g : Bool} (s : State) :
    Keeps b g s (limitRate s) := by
  unfold limitRate
  split
  exact .ite ((State.note_keeps _ _).after (State.setReg_keeps _ _ _)) .rfl

theorem busAbortAll_keeps {b g : Bool} (s : State) :
    Keeps b g s (busAbortAll s) := by
  unfold busAbortAll
  extract_lets -underBinder -merge -useContext +onlyGivenNames x1
  have hx1 : Keeps b g s x1 := .fold (fun _ _ => .ite (channelError_keeps _ _ _) .rfl) .rfl
  exact (State.setFlag_keeps _ _ _).after (hx1)

theorem resumeChannel_keeps {b g : Bool} (s : State) (c : Nat) :
    Keeps b g s (resumeChannel s c) := by
  unfold resumeChannel
  exact .ite ((State.setFld_keeps _ _ _).after (setChState_keeps _ _ _)) .rfl

theorem busResume_keeps {b g : Bool} (s : State) :
    Keeps b g s (busResume s) := by
  unfold busResume
  exact (State.setFlag_keeps _ _ _).after (.fold (fun _ _ => resumeChannel_keeps _ _) .rfl)

theorem writeXferCmd_keeps {b g : Bool} (s : State) (v : Word) :
    Keeps b g s (writeXferCmd s v) := by
  unfold writeXferCmd
  exact .ite .rfl (.ite (busAbortAll_keeps _) (.ite (busResume_keeps _) .rfl))

theorem channelStart_keeps {b g : Bool} (s : State) (c : Nat) :
    Keeps b g s (channelStart s c) := by
  unfold channelStart
  extract_lets -underBinder -merge -useContext +onlyGivenNames x1 x2
  have hx1 : Keeps b g s x1 := (setChState_keeps _ _ _).after ((State.setFld_keeps _ _ _).after (State.setFld_keeps _ _ _))
  have hx2 : Keeps b g s x2 := (State.setReg_keeps _ _ _).after ((State.setFld_keeps _ _ _).after (hx1))
  exact (State.setChan_keeps _ _ _).after (hx2)

theorem writeChCtrl_keeps {b g : Bool} (s : State) (v : Word) :
    Keeps b g s (writeChCtrl s v) := by
  unfold writeChCtrl
  extract_lets -underBinder -merge -useContext +onlyGivenNames x1 x2 x3
  have hx2 : Keeps b g s x2 := .ite (State.setFlag_keeps _ _ _) .rfl
  have hx3 : Keeps b g s x3 := .ite ((abortChannel_keeps _ _).after (hx2)) (hx2)
  exact .ite ((channelStart_keeps _ _).after (hx3)) (hx3)

theorem trimResult_keeps {b g : Bool} (s : State) (code : Nat) :
    Keeps b g s (trimResult s code) := by
  unfold trimResult
  exact State.setFld_keeps _ _ _

theorem driveTrim_keeps {b g : Bool} (s : State) (c : Nat) :
    Keeps b g s (driveTrim s c) := by
  unfold driveTrim
  exact .ite (driveTerminal_keeps _ _ _) .rfl

theorem trimPoint_keeps {b g : Bool} (s : State) (t : TrimSt) (high : Bool) :
    Keeps b g s (trimPoint s t high) := by
  unfold trimPoint
  extract_lets -underBinder -merge -useContext +onlyGivenNames x1
  try clear_value x1
  extract_lets -underBinder -merge -useContext +onlyGivenNames x2
  subst x2
  beta_reduce
  extract_lets -underBinder -merge -useContext +onlyGivenNames x3
  subst x3
  beta_reduce
  refine .ite ((trimResult_keeps _ _).after ((State.setFld_keeps _ _ _).after ((driveTrim_keeps _ _).after (.upd .rfl)))) ?_
  split
  · exact trimResult_keeps _ _
  · exact (trimResult_keeps _ _).after ((State.setFld_keeps _ _ _).after ((State.setReg_keeps _ _ _).after (.upd .rfl)))

theorem trimEnd_keeps {b g : Bool} (s : State) (code : Nat) :
    Keeps b g s (trimEnd s code) := by
  unfold trimEnd
  exact (trimResult_keeps _ _).after ((State.setFld_keeps _ _ _).after (.upd .rfl))

theorem retainedPut_keeps {b g : Bool} (s : State) (a : Nat) (bs : List Byte) :
    Keeps b g s (retainedPut s a bs) := by
  unfold retainedPut
  extract_lets -underBinder -merge -useContext +onlyGivenNames x1
  exact (State.markPages_keeps _ _).after (.upd .rfl)

theorem setTrim_keeps {b g : Bool} (s : State) (c : Nat) (z : Int) (g' : Int) :
    Keeps b g s (setTrim s c z g') := by
  unfold setTrim
  extract_lets -underBinder -merge -useContext +onlyGivenNames x1 x2 x3
  have hx3 : Keeps b g s x3 := (State.setReg_keeps _ _ _).after (State.setReg_keeps _ _ _)
  exact (retainedPut_keeps _ _ _).after (hx3)

theorem trimCommit_keeps {b g : Bool} (s : State) (t : TrimSt) :
    Keeps b g s (trimCommit s t) := by
  unfold trimCommit
  split
  · exact trimResult_keeps _ _
  · exact .ite (trimResult_keeps _ _) ((trimEnd_keeps _ _).after (setTrim_keeps _ _ _ _))

theorem trimStepOn_keeps {b g : Bool} (s : State) (t : TrimSt) (st : Nat) (step : Nat) :
    Keeps b g s (trimStepOn s t st step) := by
  unfold trimStepOn
  extract_lets -underBinder -merge -useContext +onlyGivenNames x1
  try clear_value x1
  split
  · exact trimResult_keeps _ _
  · exact .ite (trimPoint_keeps _ _ _) (trimResult_keeps _ _)
  · exact .ite (trimPoint_keeps _ _ _) (trimResult_keeps _ _)
  · exact .ite (trimCommit_keeps _ _) (trimResult_keeps _ _)
  · exact trimEnd_keeps _ _
  · exact (trimResult_keeps _ _).after (setTrim_keeps _ _ _ _)
  · exact .rfl

theorem trimStep_keeps {b g : Bool} (s : State) (step : Nat) (ch : Nat) :
    Keeps b g s (trimStep s step ch) := by
  unfold trimStep
  split
  · exact trimStepOn_keeps _ _ _ _
  · refine .ite ?_ (.ite (trimResult_keeps _ _) .rfl)
    extract_lets -underBinder -merge -useContext +onlyGivenNames x1
    have hx1 : Keeps b g s x1 := .upd .rfl
    exact (trimResult_keeps _ _).after ((State.setFld_keeps _ _ _).after ((State.setFld_keeps _ _ _).after (hx1)))

theorem writeTrim_keeps {b g : Bool} (s : State) (v : Word) :
    Keeps b g s (writeTrim s v) := by
  unfold writeTrim
  exact .ite (trimStep_keeps _ _ _) .rfl

theorem sendPassThrough_keeps {b g : Bool} (s : State) (g' : Nat) :
    Keeps b g s (sendPassThrough s g') := by
  unfold sendPassThrough
  exact State.emit_keeps _ _

theorem writeHartPt_keeps {b g : Bool} (s : State) (v : Word) :
    Keeps b g s (writeHartPt s v) := by
  unfold writeHartPt
  extract_lets -underBinder -merge -useContext +onlyGivenNames x1 x2 x3
  try clear_value x1
  try clear_value x2
  try clear_value x3
  refine .ite (State.setFld_keeps _ _ _) ?_
  extract_lets -underBinder -merge -useContext +onlyGivenNames x4 x5
  have hx4 : Keeps b g s x4 := State.setFld_keeps _ _ _
  have hx5 : Keeps b g s x5 := (State.setFld_keeps _ _ _).after ((State.setFld_keeps _ _ _).after (hx4))
  try clear_value x4
  try clear_value x5
  refine .ite ?_ (hx5)
  extract_lets -underBinder -merge -useContext +onlyGivenNames x6 x7
  have hx7 : Keeps b g s x7 := (State.setFlag_keeps _ _ _).after (hx5)
  exact .ite ((sendPassThrough_keeps _ _).after ((State.setModem_keeps _ _ _).after (hx7))) ((State.setModem_keeps _ _ _).after (hx7))

theorem discardIntegrations_keeps {b g : Bool} (s : State) :
    Keeps b g s (discardIntegrations s) := by
  unfold discardIntegrations
  refine .fold ?_ .rfl
  intro s1 a2
  extract_lets -underBinder -merge -useContext +onlyGivenNames x3
  exact .ite (State.setAna_keeps _ _ _) .rfl

theorem setReference_keeps {b g : Bool} (s : State) (on : Bool) :
    Keeps b g s (setReference s on) := by
  unfold setReference
  extract_lets -underBinder -merge -useContext +onlyGivenNames x1 x2
  have hx2 : Keeps b g s x2 := State.setFlag_keeps _ _ _
  exact .ite (hx2) (.ite ((State.setFld_keeps _ _ _).after (hx2)) ((discardIntegrations_keeps _).after ((State.setFld_keeps _ _ _).after ((State.setFlag_keeps _ _ _).after (hx2)))))

theorem convLost_keeps {b g : Bool} (s : State) (g' : Nat) :
    Keeps b g s (convLost s g') := by
  unfold convLost
  exact (State.count_keeps _ _ _).after (State.note_keeps _ _)

theorem startSequence_keeps {b g : Bool} (s : State) (g' : Nat) (t : DWord) :
    Keeps b g s (startSequence s g' t) := by
  unfold startSequence
  extract_lets -underBinder -merge -useContext +onlyGivenNames x1
  try clear_value x1
  refine .ite .rfl ?_
  split
  · exact sequenceBegins_keeps _ _ _
  · exact .ite (State.setFlag_keeps _ _ _) (convLost_keeps _ _)

theorem writeGrpCtrl_keeps {b g : Bool} (s : State) (v : Word) :
    Keeps b g s (writeGrpCtrl s v) := by
  unfold writeGrpCtrl
  extract_lets -underBinder -merge -useContext +onlyGivenNames x1 x2 x3 x4
  have hx2 : Keeps b g s x2 := (State.setFlag_keeps _ _ _).after ((State.setFld_keeps _ _ _).after (State.setFld_keeps _ _ _))
  have hx4 : Keeps b g s x4 := .ite ((State.setGrp_keeps _ _ _).after (hx2)) (hx2)
  exact .ite ((startSequence_keeps _ _ _).after (hx4)) (hx4)

theorem convTrailer_keeps {b g : Bool} (s : State) (g' : Nat) (aborted : Bool) :
    Keeps b g s (convTrailer s g' aborted) := by
  unfold convTrailer
  extract_lets -underBinder -merge -useContext +onlyGivenNames x1 x2 x3
  have hx3 : Keeps b g s x3 := State.setGrp_keeps _ _ _
  exact (convPush_keeps _ _ _).after (hx3)

theorem convSample_keeps {b g : Bool} (g' : Nat) (s : State) (v : Int) :
    Keeps b g s (convSample g' s v) := by
  unfold convSample
  extract_lets -underBinder -merge -useContext +onlyGivenNames x1 x2 x3
  exact .ite (State.setGrp_keeps _ _ _) ((State.note_keeps _ _).after ((State.count_keeps _ _ _).after (State.setGrp_keeps _ _ _)))

theorem convSamples_keeps {b g : Bool} (s : State) (g' : Nat) (vs : List Int) :
    Keeps b g s (convSamples s g' vs) := by
  unfold convSamples
  split
  · exact .rfl
  · exact .fold (fun _ _ => convSample_keeps _ _ _) .rfl

theorem writeUrgent_keeps {b g : Bool} (s : State) (v : Word) (samples : List Int) (t : DWord) :
    Keeps b g s (writeUrgent s v samples t) := by
  unfold writeUrgent
  extract_lets -underBinder -merge -useContext +onlyGivenNames x1 x2 x3
  try clear_value x1
  try clear_value x2
  try clear_value x3
  refine .ite .rfl ?_
  split
  · exact (convBegin_keeps _ _ _ _).after (State.setFld_keeps _ _ _)
  · refine .ite ?_ ?_
    · split
      · exact (State.setFld_keeps _ _ _).after (State.setGrp_keeps _ _ _)
      · exact .rfl
    · extract_lets -underBinder -merge -useContext +onlyGivenNames x4 x5 x6
      have hx4 : Keeps b g s x4 := (convTrailer_keeps _ _ _).after (convSamples_keeps _ _ _)
      have hx6 : Keeps b g s x6 := (State.setGrp_keeps _ _ _).after (hx4)
      exact (convBegin_keeps _ _ _ _).after ((State.setFld_keeps _ _ _).after (hx6))

theorem txEnd_keeps {b g : Bool} (s : State) (b' : Nat) (i : Nat) (st : Nat) :
    Keeps b g s (txEnd s b' i st) := by
  unfold txEnd
  exact (State.setFld_keeps _ _ _).after ((State.setFld_keeps _ _ _).after (setCanState_keeps _ _ _ _))

theorem txBroken_keeps {b g : Bool} (s : State) (b' : Nat) (i : Nat) :
    Keeps b g s (txBroken s b' i) := by
  unfold txBroken
  exact .ite (txEnd_keeps _ _ _ _) (.ite (txEnd_keeps _ _ _ _) (setCanState_keeps _ _ _ _))

theorem txRequest_keeps {b g : Bool} (s : State) (b' : Nat) (i : Nat) :
    Keeps b g s (txRequest s b' i) := by
  unfold txRequest
  exact .ite (.ite (txEnd_keeps _ _ _ _) ((State.setFld_keeps _ _ _).after (setCanState_keeps _ _ _ _))) .rfl

theorem mapData_keeps {b g : Bool} (s : State) (b' : Nat) (i : Nat) (v : DWord) :
    Keeps b g s (mapData s b' i v) := by
  unfold mapData
  exact State.setDword_keeps _ _ _

theorem txAgain_keeps {b g : Bool} (s : State) (b' : Nat) (i : Nat) :
    Keeps b g s (txAgain s b' i) := by
  unfold txAgain
  split
  · exact .rfl
  · exact .ite .rfl ((txRequest_keeps _ _ _).after ((mapData_keeps _ _ _ _).after (State.setCan_keeps _ _ _)))

theorem noActive_keeps {b g : Bool} (s : State) (b' : Nat) :
    Keeps b g s (noActive s b') := by
  unfold noActive
  extract_lets -underBinder -merge -useContext +onlyGivenNames x1 x2 x3
  have hx3 : Keeps b g s x3 := State.setCan_keeps _ _ _
  try clear_value x1
  try clear_value x2
  try clear_value x3
  split
  · exact hx3
  · exact (txAgain_keeps _ _ _).after (hx3)

theorem writeCanCtrl_keeps {b g : Bool} (s : State) (v : Word) :
    Keeps b g s (writeCanCtrl s v) := by
  unfold writeCanCtrl
  extract_lets -underBinder -merge -useContext +onlyGivenNames x1 x2 x3 x4 x5 x6 x7 x8 x9
  have hx4 : Keeps b g s x4 := (State.setFlag_keeps _ _ _).after ((State.setFld_keeps _ _ _).after ((State.setFlag_keeps _ _ _).after (State.setFlag_keeps _ _ _)))
  have hx6 : Keeps b g s x6 := (State.setCan_keeps _ _ _).after (hx4)
  have hx7 : Keeps b g s x7 := by
    unfold x7
    try clear_value x1
    try clear_value x2
    try clear_value x3
    try clear_value x4
    try clear_value x5
    try clear_value x6
    split
    · exact (txBroken_keeps _ _ _).after (hx6)
    · exact hx6
  have hx9 : Keeps b g s x9 := .ite ((State.setFld_keeps _ _ _).after ((noActive_keeps _ _).after (hx7))) (.ite (.ite ((State.setFld_keeps _ _ _).after ((State.setCan_keeps _ _ _).after (hx4))) ((State.setFld_keeps _ _ _).after ((State.setFld_keeps _ _ _).after ((State.setFld_keeps _ _ _).after (hx4))))) (hx4))
  exact .ite ((State.setFld_keeps _ _ _).after (hx9)) (hx9)

theorem eachBuffer_keeps {b g : Bool} {s t : State} {n : Nat} {hi : Bool} {v : Word} {f : State → Nat → Nat → State}
    (h : Keeps b g s t) (hf : ∀ x i j, Keeps b g s x → Keeps b g s (f x i j)) : Keeps b g s (eachBuffer t n hi v f) := by
  unfold eachBuffer
  refine Keeps.fold' ?_ h
  intro x k hx
  dsimp only
  refine Keeps.ite ?_ hx
  exact hf _ _ _ hx

theorem writeTxReq_keeps {b g : Bool} (s : State) (hi : Bool) (v : Word) :
    Keeps b g s (writeTxReq s hi v) := by
  unfold writeTxReq
  extract_lets -underBinder -merge -useContext +onlyGivenNames x1
  exact .ite (eachBuffer_keeps .rfl (fun u2 u3 u4 hu2 => (txRequest_keeps _ _ _).after (hu2))) .rfl

theorem txAbortOne_keeps {b g : Bool} (s : State) (b' : Nat) (i : Nat) :
    Keeps b g s (txAbortOne s b' i) := by
  unfold txAbortOne
  exact .ite (txEnd_keeps _ _ _ _) (.ite ((State.setFld_keeps _ _ _).after (State.setCan_keeps _ _ _)) .rfl)

theorem writeTxAbort_keeps {b g : Bool} (s : State) (hi : Bool) (v : Word) :
    Keeps b g s (writeTxAbort s hi v) := by
  unfold writeTxAbort
  extract_lets -underBinder -merge -useContext +onlyGivenNames x1
  exact .ite (eachBuffer_keeps .rfl (fun u2 u3 u4 hu2 => (txAbortOne_keeps _ _ _).after (hu2))) .rfl

theorem showFill_keeps {b g : Bool} (s : State) (l : Nat) :
    Keeps b g s (showFill s l) := by
  unfold showFill
  exact (State.setFld_keeps _ _ _).after (State.setFld_keeps _ _ _)

theorem putSer_keeps {b g : Bool} (s : State) (l : Nat) (x : SerSt) :
    Keeps b g s (putSer s l x) := by
  unfold putSer
  exact (showFill_keeps _ _).after (State.setSer_keeps _ _ _)

theorem serFlush_keeps {b g : Bool} (s : State) (l : Nat) :
    Keeps b g s (serFlush s l) := by
  unfold serFlush
  exact putSer_keeps _ _ _

theorem driveIfDue_keeps {b g : Bool} (s : State) (l : Nat) :
    Keeps b g s (driveIfDue s l) := by
  unfold driveIfDue
  exact .ite (State.setFlag_keeps _ _ _) .rfl

theorem writeSerCtrl_keeps {b g : Bool} (s : State) (v : Word) :
    Keeps b g s (writeSerCtrl s v) := by
  unfold writeSerCtrl
  extract_lets -underBinder -merge -useContext +onlyGivenNames x1 x2
  have hx2 : Keeps b g s x2 := .ite (serFlush_keeps _ _) .rfl
  exact (driveIfDue_keeps _ _).after ((State.setFlag_keeps _ _ _).after ((State.setFlag_keeps _ _ _).after (hx2)))

theorem requestOn_keeps {b g : Bool} (s : State) (d : Nat) :
    Keeps b g s (requestOn s d) := by
  unfold requestOn
  split
  · exact State.setDom_keeps _ _ _
  · exact State.setDom_keeps _ _ _
  · exact .rfl

theorem drainAnalogue_keeps {b g : Bool} (s : State) (g' : Nat) :
    Keeps b g s (drainAnalogue s g') := by
  unfold drainAnalogue
  extract_lets -underBinder -merge -useContext +onlyGivenNames x1
  have hx1 : Keeps b g s x1 := by
    unfold x1
    refine .fold ?_ .rfl
    intro s2 a3
    extract_lets -underBinder -merge -useContext +onlyGivenNames x4 x5
    have hx5 : Keeps b g s2 x5 := .ite (driveTerminal_keeps _ _ _) .rfl
    exact (State.setAna_keeps _ _ _).after (hx5)
  exact (convIdle_keeps _ _).after ((State.setGrp_keeps _ _ _).after (hx1))

theorem drainCan_keeps {b g : Bool} (s : State) (b' : Nat) :
    Keeps b g s (drainCan s b') := by
  unfold drainCan
  extract_lets -underBinder -merge -useContext +onlyGivenNames x1 x2
  have hx2 : Keeps b g s x2 := State.setCan_keeps _ _ _
  exact .fold (fun _ _ => .ite (txEnd_keeps _ _ _ _) .rfl) (hx2)

theorem drainSerial_keeps {b g : Bool} (s : State) (l : Nat) :
    Keeps b g s (drainSerial s l) := by
  unfold drainSerial
  extract_lets -underBinder -merge -useContext +onlyGivenNames x1 x2 x3 x4 x5
  have hx3 : Keeps b g s x3 := serFlush_keeps _ _
  have hx5 : Keeps b g s x5 := (putSer_keeps _ _ _).after (hx3)
  exact (State.setFlag_keeps _ _ _).after (hx5)

theorem forgetSession_keeps {b g : Bool} (s : State) (k : Nat) (heir : Option Nat) :
    Keeps b g s (forgetSession s k heir) := by
  unfold forgetSession
  extract_lets -underBinder -merge -useContext +onlyGivenNames x1 x2 x3
  have hx3 : Keeps b g s x3 := .upd .rfl
  exact (State.setChan_keeps _ _ _).after (hx3)

theorem bequeath_keeps {b g : Bool} (s : State) (k : Nat) :
    Keeps b g s (bequeath s k) := by
  unfold bequeath
  split
  · exact forgetSession_keeps _ _ _
  · exact (State.setSess_keeps _ _ _).after (forgetSession_keeps _ _ _)

theorem closeSession_keeps {b g : Bool} (s : State) (k : Nat) :
    Keeps b g s (closeSession s k) := by
  unfold closeSession
  extract_lets -underBinder -merge -useContext +onlyGivenNames x1 x2
  have hx1 : Keeps b g s x1 := (State.setReg_keeps _ _ _).after ((State.setReg_keeps _ _ _).after (State.setReg_keeps _ _ _))
  have hx2 : Keeps b g s x2 := (State.setSess_keeps _ _ _).after ((bequeath_keeps _ _).after (hx1))
  exact (showSessions_keeps _).after (.upd (hx2))

theorem closePort_keeps {b g : Bool} (s : State) (port : Nat) :
    Keeps b g s (closePort s port) := by
  unfold closePort
  exact .fold (fun _ _ => .ite (closeSession_keeps _ _) .rfl) .rfl

theorem drainUnit_keeps {b g : Bool} (s : State) (d : Nat) :
    Keeps b g s (drainUnit s d) := by
  unfold drainUnit
  exact .ite .rfl (.ite (drainAnalogue_keeps _ _) (.ite .rfl (.ite (drainCan_keeps _ _) (.ite (drainSerial_keeps _ _) (.ite (closePort_keeps _ _) .rfl)))))

theorem startDrain_keeps {b g : Bool} (s : State) (d : Nat) :
    Keeps b g s (startDrain s d) := by
  unfold startDrain
  exact (drainUnit_keeps _ _).after (State.setDom_keeps _ _ _)

theorem requestOff_keeps {b g : Bool} (s : State) (d : Nat) :
    Keeps b g s (requestOff s d) := by
  unfold requestOff
  split
  · exact State.withPower_keeps _ _
  · exact startDrain_keeps _ _
  · exact State.setDom_keeps _ _ _
  · exact .rfl

theorem askOff_keeps {b g : Bool} (s : State) (d : Nat) :
    Keeps b g s (askOff s d) := by
  unfold askOff
  exact .ite (State.note_keeps _ _) (requestOff_keeps _ _)

theorem writeDomReq_keeps {b g : Bool} (s : State) (v : Word) :
    Keeps b g s (writeDomReq s v) := by
  unfold writeDomReq
  extract_lets -underBinder -merge -useContext +onlyGivenNames x1
  exact .ite .rfl (.ite (requestOn_keeps _ _) (.ite (askOff_keeps _ _) .rfl))

theorem resetBase_keeps {g : Bool} (s : State) (kind : Nat) : Keeps false g s (resetBase s kind) :=
  ⟨rfl, Sparse.wf_filter _ _ _, Sparse.wf_filter _ _ _, ⟨[], rfl⟩, ⟨[], rfl⟩, fun _ => .inr rfl, nofun, id, fun _ _ => Nat.zero_le _⟩

theorem resetModule_keeps {g : Bool} (s : State) (kind : Nat) :
    Keeps false g s (resetModule s kind) := by
  unfold resetModule
  extract_lets -underBinder -merge -useContext +onlyGivenNames x1 x2 x3 x4 x5 x6 x7 x8 x9 x10
  have hx4 : Keeps false g s x4 := resetBase_keeps _ _
  have hx5 : Keeps false g s x5 := (State.setFld_keeps _ _ _).after ((State.setFlag_keeps _ _ _).after (hx4))
  have hx6 : Keeps false g s x6 := (State.setFlag_keeps _ _ _).after (hx5)
  have hx7 : Keeps false g s x7 := (State.setFlag_keeps _ _ _).after ((State.setFlag_keeps _ _ _).after (hx6))
  have hx8 : Keeps false g s x8 := (State.setFlag_keeps _ _ _).after ((State.setFld_keeps _ _ _).after (hx7))
  have hx9 : Keeps false g s x9 := .ite ((State.setFld_keeps _ _ _).after (hx8)) (hx8)
  have hx10 : Keeps false g s x10 := (State.raise_keeps _ _ _ _ _).after (hx9)
  exact .ite (hx10) ((State.raise_keeps _ _ _ _ _).after ((State.note_keeps _ _).after (hx10)))

theorem commandReset_keeps {g : Bool} (s : State) :
    Keeps false g s (commandReset s) := by
  unfold commandReset
  exact .ite .rfl (.ite (State.withPower_keeps _ _) (resetModule_keeps _ _))

theorem writePwrReset_keeps {g : Bool} (s : State) (v : Word) :
    Keeps false g s (writePwrReset s v) := by
  unfold writePwrReset
  exact .ite (commandReset_keeps _) .rfl

theorem applyWrite_keeps {g : Bool} (s : State) (a : Nat) (item : Nat) (v : Word) :
    Keeps false g s (applyWrite s a item v) := by
  unfold applyWrite
  split
  · exact .rfl
  · extract_lets -underBinder -merge -useContext +onlyGivenNames x1
    have hx1 : Keeps false g s x1 := storeFields_keeps _ _ _ _
    try clear_value x1
    refine .ite (writeRingCtrl_keeps _ _ _) ?_
    refine .ite ?_ (.ite (writeSafeReq_keeps _ _) (.ite (applyTaskEn_keeps _ _ _) (.ite (writeSplit_keeps _ _) (.ite (writeSwapReq_keeps _ _) (.ite (guardApplyEffect_keeps _ _ _) (.ite (.ite (hx1) .rfl) (.ite (writeTrigCtrl_keeps _ _ _) (.ite ((limitRate_keeps _).after (hx1)) (.ite (.ite .rfl (hx1)) (.ite (.ite .rfl (hx1)) (.ite (writeXferCmd_keeps _ _) (.ite (writeChCtrl_keeps _ _) (.ite (.ite (hx1) .rfl) (.ite (writeTrim_keeps _ _) (.ite (writeHartPt_keeps _ _) (.ite (setReference_keeps _ _) (.ite (writeGrpCtrl_keeps _ _) (.ite (writeUrgent_keeps _ _ _ _) (.ite (writeCanCtrl_keeps _ _) (.ite (.ite (hx1) .rfl) (.ite (writeTxReq_keeps _ _ _) (.ite (writeTxReq_keeps _ _ _) (.ite (writeTxAbort_keeps _ _ _) (.ite (writeTxAbort_keeps _ _ _) (.ite (writeSerCtrl_keeps _ _) (.ite (.ite .rfl (hx1)) (.ite (writeDomReq_keeps _ _) (.ite (writePwrReset_keeps _ _) (hx1)))))))))))))))))))))))))))))
    extract_lets -underBinder -merge -useContext +onlyGivenNames x2
    exact writeCanWord_keeps _ _ _ _ _

theorem regInitOne_keeps {g : Bool} (s : State) (x : RegInitRec) :
    Keeps false g s (regInitOne s x) := by
  unfold regInitOne
  extract_lets -underBinder -merge -useContext +onlyGivenNames x1
  try clear_value x1
  split
  · exact .rfl
  · extract_lets -underBinder -merge -useContext +onlyGivenNames x2
    exact .ite (writeTrigCtrl_keeps _ _ _) (.ite (State.setReg_keeps _ _ _) (applyWrite_keeps _ _ _ _))

theorem applyRegInit_keeps {g : Bool} (s : State) (im : Image) :
    Keeps false g s (applyRegInit s im) := by
  unfold applyRegInit
  exact .fold (fun _ _ => regInitOne_keeps _ _) .rfl

theorem applySafe_keeps {b g : Bool} (s : State) :
    Keeps b g s (applySafe s) := by
  unfold applySafe
  extract_lets -underBinder -merge -useContext +onlyGivenNames x1 x2 x3
  have hx2 : Keeps b g s x2 := State.withDio_keeps _ _
  have hx3 : Keeps b g s x3 := .fold (fun _ _ => .ite .rfl (State.setFlag_keeps _ _ _)) (hx2)
  exact (State.setFlag_keeps _ _ _).after (hx3)

theorem armImageTriggers_keeps {b g : Bool} (s : State) : Keeps b g s (armImageTriggers s) := by
  unfold armImageTriggers
  split
  · exact Keeps.refl _ _ _
  refine Keeps.foldSnd ?_ (Keeps.refl _ _ _)
  intro x r
  dsimp only
  split
  · exact Keeps.refl _ _ _
  split
  · exact writeTrigCtrl_keeps _ _ _
  · exact Keeps.refl _ _ _

theorem holdCommand_keeps {b g : Bool} (s : State) (k : Nat) :
    Keeps b g s (holdCommand s k) := by
  unfold holdCommand
  split
  · exact .rfl
  · rename_i q rest e
    refine State.setSess_keeps _ _ _ fun h => ?_
    have := h k
    rw [e] at this
    exact this


theorem armStaged_keeps {b g : Bool} (s : State) (slot : Nat) (im : Image) :
    Keeps b g s (armStaged s slot im) := by
  unfold armStaged
  refine .ite ((State.withLoader_keeps _ _).after ((State.strait_keeps _ _ _ _).after (holdCommand_keeps _ _))) ?_
  refine .ite ((acceptArm_keeps _ _ _).after ((State.withLoader_keeps _ _).after (holdCommand_keeps _ _))) ?_
  refine .ite ?_ (finishCommand_keeps _ _ _ _)
  extract_lets -underBinder -merge -useContext +onlyGivenNames x1
  have hx1 : Keeps b g s x1 := (State.withLoader_keeps _ _).after ((activateBank_keeps _ _ _ _).after (holdCommand_keeps _ _))
  exact (State.setDword_keeps _ _ _).after ((State.setFld_keeps _ _ _).after ((State.setFld_keeps _ _ _).after (hx1)))

theorem armTimeout_keeps {b g : Bool} (s : State) :
    Keeps b g s (armTimeout s) := by
  unfold armTimeout
  split
  · exact .rfl
  · exact .ite ((State.withLoader_keeps _ _).after (answerWait_keeps _ _ _ _)) .rfl

theorem beginCalibration_keeps {b g : Bool} (s : State) (g' : Nat) :
    Keeps b g s (beginCalibration s g') := by
  unfold beginCalibration
  exact State.setGrp_keeps _ _ _

theorem startCalibration_keeps {b g : Bool} (s : State) (g' : Nat) :
    Keeps b g s (startCalibration s g') := by
  unfold startCalibration
  exact .ite .rfl (.ite (newActivity_keeps _ _ _ _ _) ((beginCalibration_keeps _ _).after (newActivity_keeps _ _ _ _ _)))

theorem beginProof_keeps {b g : Bool} (s : State) :
    Keeps b g s (beginProof s) := by
  unfold beginProof
  exact (State.setFlag_keeps _ _ _).after (State.setFlag_keeps _ _ _)

theorem startProof_keeps {b g : Bool} (s : State) :
    Keeps b g s (startProof s) := by
  unfold startProof
  exact .ite .rfl (.ite ((newActivity_keeps _ _ _ _ _).after (State.setFlag_keeps _ _ _)) ((beginProof_keeps _).after (newActivity_keeps _ _ _ _ _)))

theorem beginVerdict_keeps {b g : Bool} (s : State) (trigger : Nat) :
    Keeps b g s (beginVerdict s trigger) := by
  unfold beginVerdict
  extract_lets -underBinder -merge -useContext +onlyGivenNames x1 x2 x3
  have hx1 : Keeps b g s x1 := (State.raise_keeps _ _ _ _ _).after (State.setFlag_keeps _ _ _)
  have hx3 : Keeps b g s x3 := .upd (hx1)
  exact (State.strait_keeps _ _ _ _).after (hx3)

theorem startVerdict_keeps {b g : Bool} (s : State) (trigger : Nat) :
    Keeps b g s (startVerdict s trigger) := by
  unfold startVerdict
  refine .ite .rfl ?_
  refine .ite ?_ ((beginVerdict_keeps _ _).after (newActivity_keeps _ _ _ _ _))
  refine (newActivity_keeps _ _ _ _ _).after ?_
  extract_lets -underBinder -merge -useContext +onlyGivenNames x1
  have hx1 : Keeps b g s x1 := State.setFlag_keeps _ _ _
  exact .upd (hx1)

theorem startSegment_keeps {b g : Bool} (s : State) :
    Keeps b g s (startSegment s) := by
  unfold startSegment
  exact .ite .rfl (.ite ((newActivity_keeps _ _ _ _ _).after (State.setFlag_keeps _ _ _)) ((beginSegment_keeps _).after (newActivity_keeps _ _ _ _ _)))

theorem startCableTest_keeps {b g : Bool} (s : State) (k : Nat) :
    Keeps b g s (startCableTest s k) := by
  unfold startCableTest
  exact State.setRing_keeps _ _ _

theorem beginRingActivity_keeps {b g : Bool} (s : State) (code : Nat) (k : Nat) :
    Keeps b g s (beginRingActivity s code k) := by
  unfold beginRingActivity
  exact .ite (startCableTest_keeps _ _) ((State.setFld_keeps _ _ _).after (State.setFld_keeps _ _ _))

theorem askRingActivity_keeps {b g : Bool} (s : State) (g' : Nat) (code : Nat) (k : Nat) :
    Keeps b g s (askRingActivity s g' code k) := by
  unfold askRingActivity
  exact .ite (newActivity_keeps _ _ _ _ _) ((beginRingActivity_keeps _ _ _).after (newActivity_keeps _ _ _ _ _))

theorem askActivity_keeps {b g : Bool} (s : State) (g' : Nat) (code : Nat) (target : Nat) :
    Keeps b g s (askActivity s g' code target) := by
  unfold askActivity
  split
  · exact startCalibration_keeps _ _
  · exact startProof_keeps _
  · exact askSplit_keeps _ _ _
  · exact startVerdict_keeps _ _
  · exact startSegment_keeps _
  · exact askRingActivity_keeps _ _ _ _

theorem requestAs_keeps {b g : Bool} (s : State) (staged : Bool) (seq : Word) (digest : List Byte) :
    Keeps b g s (requestAs s staged seq digest) := by
  unfold requestAs
  refine .ite ?_ ?_
  · extract_lets -underBinder -merge -useContext +onlyGivenNames x1
    have hx1 : Keeps b g s x1 := State.setFld_keeps _ _ _
    exact .upd (hx1)
  · extract_lets -underBinder -merge -useContext +onlyGivenNames x2 x3 x4
    have hx3 : Keeps b g s x3 := State.straitOn_keeps _ _ _ _ _ _
    have hx4 : Keeps b g s x4 := (State.setFld_keeps _ _ _).after (hx3)
    exact .upd (hx4)

theorem requestResync_keeps {b g : Bool} (s : State) :
    Keeps b g s (requestResync s) := by
  unfold requestResync
  exact requestAs_keeps _ _ _ _

theorem joinRequest_keeps {b g : Bool} (s : State) :
    Keeps b g s (joinRequest s) := by
  unfold joinRequest
  split
  · exact requestResync_keeps _
  · exact .ite (requestAs_keeps _ _ _ _) (requestResync_keeps _)

theorem askAgain_keeps {b g : Bool} (s : State) (p : StatusPayload) :
    Keeps b g s (askAgain s p) := by
  unfold askAgain
  exact .ite (joinRequest_keeps _) .rfl

theorem askStation_keeps {b g : Bool} (s : State) (ring : Nat) (svc : Nat) (station : Nat) (data : List Byte) (owner : AcycOwner) :
    Keeps b g s (askStation s ring svc station data owner) := by
  unfold askStation
  extract_lets -underBinder -merge -useContext +onlyGivenNames x1
  exact State.setRing_keeps _ _ _

theorem askCounts_keeps {b g : Bool} (s : State) (k : Nat) :
    Keeps b g s (askCounts s k) := by
  unfold askCounts
  exact .fold (fun _ _ => askStation_keeps _ _ _ _ _ _) .rfl

theorem askLoad_keeps {b g : Bool} (s : State) (x : StationRec) :
    Keeps b g s (askLoad s x) := by
  unfold askLoad
  extract_lets -underBinder -merge -useContext +onlyGivenNames x1
  exact .fold (fun _ _ => askStation_keeps _ _ _ _ _ _) .rfl

theorem axisFaults_keeps {b g : Bool} (s : State) (i : Nat) (ferr : Int) :
    Keeps b g s (axisFaults s i ferr) := by
  unfold axisFaults
  exact (State.raise_keeps _ _ _ _ _).after (State.note_keeps _ _)

theorem handleOut_keeps {b g : Bool} (s : State) (handle : Nat) (x : Slot) :
    Keeps b g s (handleOut s handle x) := by
  unfold handleOut
  split
  · exact .rfl
  · exact State.setOut_keeps _ _ _

theorem writeAxis_keeps {b g : Bool} (s : State) (i : Nat) (a : AxisRec) (x : AxisSt) (q : Quality) :
    Keeps b g s (writeAxis s i a x q) := by
  unfold writeAxis
  extract_lets -underBinder -merge -useContext +onlyGivenNames x1 x2 x3 x4 x5
  have hx1 : Keeps b g s x1 := handleOut_keeps _ _ _
  have hx2 : Keeps b g s x2 := .ite ((handleOut_keeps _ _ _).after (hx1)) (hx1)
  have hx3 : Keeps b g s x3 := (State.setAxis_keeps _ _ _).after (hx2)
  have hx4 : Keeps b g s x4 := (State.setFld_keeps _ _ _).after ((State.setFld_keeps _ _ _).after (hx3))
  have hx5 : Keeps b g s x5 := (State.setFld_keeps _ _ _).after (hx4)
  exact (State.setDword_keeps _ _ _).after ((State.setDword_keeps _ _ _).after (hx5))

theorem laneMismatch_keeps {b g : Bool} (s : State) (src : Nat) :
    Keeps b g s (laneMismatch s src) := by
  unfold laneMismatch
  exact (startVerdict_keeps _ _).after ((State.unclean_keeps _).after ((State.raise_keeps _ _ _ _ _).after (State.note_keeps _ _)))

theorem markPass_keeps {b g : Bool} (s : State) (i : Nat) (a : AxisRec) (x : AxisSt) :
    Keeps b g s (markPass s i a x).1 := by
  unfold markPass
  split
  · exact .mk1 .rfl
  · extract_lets -underBinder -merge -useContext +onlyGivenNames x1 x2 x3 x4 x5
    try clear_value x1
    try clear_value x2
    try clear_value x3
    try clear_value x4
    try clear_value x5
    split
    · exact .mk1 .rfl
    · extract_lets -underBinder -merge -useContext +onlyGivenNames x6
      have hx6 : Keeps b g s x6 := State.count_keeps _ _ _
      try clear_value x6
      split
      · exact .mk1 ((State.note_keeps _ _).after ((State.count_keeps _ _ _).after (hx6)))
      · exact .mk1 ((State.count_keeps _ _ _).after (hx6))

theorem engagedPass_keeps {b g : Bool} (s : State) (i : Nat) (a : AxisRec) (x : AxisSt) (mode : AxisMode) (dm : Int) :
    Keeps b g s (engagedPass s i a x mode dm).1 := by
  unfold engagedPass
  extract_lets -underBinder -merge -useContext +onlyGivenNames x1
  try clear_value x1
  split
  · split
    rename_i p3 p4 hq2
    have hp3 : Keeps b g s p3 := .fst hq2 (markPass_keeps _ _ _ _)
    exact .mk1 (hp3)
  · extract_lets -underBinder -merge -useContext +onlyGivenNames x5 x6
    try clear_value x5
    try clear_value x6
    split
    rename_i p8 p9 hq7
    have hp8 : Keeps b g s p8 := .fst hq7 (markPass_keeps _ _ _ _)
    exact .mk1 (hp8)

theorem axisPass_keeps {b g : Bool} (faults : LaneFaults) (dms : List Int) (s : State) (e : Nat × AxisRec) :
    Keeps b g s (axisPass faults dms s e) := by
  unfold axisPass
  split
  extract_lets -underBinder -merge -useContext +onlyGivenNames x1
  try clear_value x1
  refine .ite ((writeAxis_keeps _ _ _ _ _).after (laneMismatch_keeps _ _)) ?_
  extract_lets -underBinder -merge -useContext +onlyGivenNames x2 x3 x4 x5 x6 x7 x8 x9 x10
  have hx5 : Keeps b g s x5 := by
    unfold x5
    try clear_value x2
    try clear_value x3
    try clear_value x4
    split
    · exact .rfl
    · exact State.setReg_keeps _ _ _
  have hx7 : Keeps b g s x7 := .ite ((axisFaults_keeps _ _ _).after (hx5)) (.ite ((State.note_keeps _ _).after (hx5)) (hx5))
  try clear_value x2
  try clear_value x3
  try clear_value x4
  try clear_value x5
  try clear_value x6
  try clear_value x7
  try clear_value x8
  try clear_value x9
  try clear_value x10
  split
  rename_i p12 p13 hq11
  have hp12 : Keeps b g s p12 := .fst hq11 (by
    split
    · exact (engagedPass_keeps _ _ _ _ _ _).after (hx7)
    · split
      rename_i p15 p16 hq14
      have hp15 : Keeps b g s p15 := .fst hq14 ((markPass_keeps _ _ _ _).after (hx7))
      exact .mk1 (hp15))
  exact (writeAxis_keeps _ _ _ _ _).after (hp12)

theorem setActivity_keeps {b g : Bool} (s : State) (num : Nat) (st : Nat) :
    Keeps b g s (setActivity s num st) := by
  unfold setActivity
  exact .upd .rfl

theorem beginSplit_keeps {b g : Bool} (s : State) (a : Activity) :
    Keeps b g s (beginSplit s a) := by
  unfold beginSplit
  extract_lets -underBinder -merge -useContext +onlyGivenNames x1 x2 x3
  have hx1 : Keeps b g s x1 := (State.setFld_keeps _ _ _).after ((State.setFld_keeps _ _ _).after (State.setFlag_keeps _ _ _))
  have hx2 : Keeps b g s x2 := (State.setFld_keeps _ _ _).after ((State.setFld_keeps _ _ _).after (hx1))
  have hx3 : Keeps b g s x3 := (State.withCheck_keeps _ _).after ((setActivity_keeps _ _ _).after (hx2))
  exact (State.strait_keeps _ _ _ _).after (hx3)

theorem setFields_keeps {b g : Bool} (s : State) (fs : List (Fld × Nat)) :
    Keeps b g s (setFields s fs) := by
  unfold setFields
  exact .fold (fun _ _ => State.setFld_keeps _ _ _) .rfl

theorem showBank_keeps {b g : Bool} (s : State) (b' : Nat) :
    Keeps b g s (showBank s b') := by
  unfold showBank
  extract_lets -underBinder -merge -useContext +onlyGivenNames x1 x2 x3 x4
  have hx4 : Keeps b g s x4 := setFields_keeps _ _
  exact (State.setReg_keeps _ _ _).after (hx4)

theorem storeStep_keeps {b g : Bool} (s : State) (n : Nat) :
    Keeps b g s (storeStep s n) := by
  unfold storeStep
  extract_lets -underBinder -merge -useContext +onlyGivenNames x1
  have hx1 : Keeps b g s x1 := (State.setFld_keeps _ _ _).after (State.setFld_keeps _ _ _)
  exact .ite ((ownerStart_keeps _ _).after (hx1)) (hx1)

theorem beginStore_keeps {b g : Bool} (s : State) (o : StoreOp) :
    Keeps b g s (beginStore s o) := by
  unfold beginStore
  extract_lets -underBinder -merge -useContext +onlyGivenNames x1 x2 x3
  have hx3 : Keeps b g s x3 := (State.withLoader_keeps _ _).after (.upd .rfl)
  exact (showBank_keeps _ _).after ((State.setFld_keeps _ _ _).after ((storeStep_keeps _ _).after (hx3)))

theorem busOffBuffers_keeps {b g : Bool} (s : State) (b' : Nat) :
    Keeps b g s (busOffBuffers s b') := by
  unfold busOffBuffers
  exact .fold (fun _ _ => .ite (txBroken_keeps _ _ _) .rfl) .rfl

theorem sliceSwap_keeps {b g : Bool} (s : State) (g' : Nat) :
    Keeps b g s (sliceSwap s g') := by
  unfold sliceSwap
  extract_lets -underBinder -merge -useContext +onlyGivenNames x1
  try clear_value x1
  split
  · exact .rfl
  · extract_lets -underBinder -merge -useContext +onlyGivenNames x2
    exact (State.setFld_keeps _ _ _).after (State.setGrp_keeps _ _ _)

theorem showDegraded_keeps {b g : Bool} (s : State) (g' : Nat) :
    Keeps b g s (showDegraded s g') := by
  unfold showDegraded
  exact .fold (fun _ _ => State.setFlag_keeps _ _ _) .rfl

theorem retireSlice_keeps {b g : Bool} (s : State) (g' : Nat) :
    Keeps b g s (retireSlice s g') := by
  unfold retireSlice
  extract_lets -underBinder -merge -useContext +onlyGivenNames x1 x2 x3 x4 x5
  have hx3 : Keeps b g s x3 := (State.setFld_keeps _ _ _).after (State.setGrp_keeps _ _ _)
  have hx4 : Keeps b g s x4 := (State.raise_keeps _ _ _ _ _).after ((State.note_keeps _ _).after (hx3))
  try clear_value x1
  try clear_value x2
  try clear_value x3
  try clear_value x4
  try clear_value x5
  refine .ite ((showDegraded_keeps _ _).after (hx4)) ?_
  extract_lets -underBinder -merge -useContext +onlyGivenNames x6
  have hx6 : Keeps b g s x6 := (convIdle_keeps _ _).after ((State.setFlag_keeps _ _ _).after (hx4))
  exact .fold (fun _ _ => State.setAna_keeps _ _ _) (hx6)

theorem calibrationEnd_keeps {b g : Bool} (s : State) (g' : Nat) (pass : Bool) :
    Keeps b g s (calibrationEnd s g' pass) := by
  unfold calibrationEnd
  extract_lets -underBinder -merge -useContext +onlyGivenNames x1 x2
  try clear_value x1
  try clear_value x2
  refine .ite ?_ ?_
  · extract_lets -underBinder -merge -useContext +onlyGivenNames x3
    have hx3 : Keeps b g s x3 := State.setGrp_keeps _ _ _
    exact .ite ((sliceSwap_keeps _ _).after (hx3)) (hx3)
  · extract_lets -underBinder -merge -useContext +onlyGivenNames x4 x5
    have hx4 : Keeps b g s x4 := (State.note_keeps _ _).after (State.setGrp_keeps _ _ _)
    have hx5 : Keeps b g s x5 := (State.count_keeps _ _ _).after (hx4)
    exact .ite ((retireSlice_keeps _ _).after (hx5)) (hx5)

theorem canLost_keeps {b g : Bool} (s : State) (b' : Nat) (i : Nat) :
    Keeps b g s (canLost s b' i) := by
  unfold canLost
  exact State.count_keeps _ _ _

theorem canStore_keeps {b g : Bool} (s : State) (b' : Nat) (i : Nat) (f : CanFrame) :
    Keeps b g s (canStore s b' i f) := by
  unfold canStore
  extract_lets -underBinder -merge -useContext +onlyGivenNames x1 x2 x3 x4 x7
  have hx2 : Keeps b g s x2 := (State.setFld_keeps _ _ _).after ((State.setFld_keeps _ _ _).after ((State.setFld_keeps _ _ _).after (State.setFld_keeps _ _ _)))
  have hx3 : Keeps b g s x3 := (State.setDword_keeps _ _ _).after (hx2)
  have hx4 : Keeps b g s x4 := .fold (fun _ _ => State.setReg_keeps _ _ _) (hx3)
  have hx7 : Keeps b g s x7 := (State.setReg_keeps _ _ _).after (hx4)
  exact (setCanState_keeps _ _ _ _).after (hx7)

theorem canDeliver_keeps {b g : Bool} (s : State) (b' : Nat) (i : Nat) (f : CanFrame) :
    Keeps b g s (canDeliver s b' i f) := by
  unfold canDeliver
  extract_lets -underBinder -merge -useContext +onlyGivenNames x1 x2 x3 x4
  have hx3 : Keeps b g s x3 := .ite (State.setCan_keeps _ _ _) .rfl
  try clear_value x1
  try clear_value x2
  try clear_value x3
  try clear_value x4
  refine .ite ?_ ?_
  · extract_lets -underBinder -merge -useContext +onlyGivenNames x5
    have hx5 : Keeps b g s x5 := .ite ((canLost_keeps _ _ _).after (hx3)) (hx3)
    exact (State.setCan_keeps _ _ _).after (hx5)
  · extract_lets -underBinder -merge -useContext +onlyGivenNames x6
    have hx6 : Keeps b g s x6 := .ite ((canLost_keeps _ _ _).after (hx3)) (hx3)
    exact (canStore_keeps _ _ _ _).after (hx6)

theorem canFresh_keeps {b g : Bool} (s : State) :
    Keeps b g s (canFresh s) := by
  unfold canFresh
  exact .fold (fun _ _ => State.setCan_keeps _ _ _) .rfl

theorem canOff_keeps {b g : Bool} (s : State) (b' : Nat) :
    Keeps b g s (canOff s b') := by
  unfold canOff
  split
  · exact .rfl
  · exact (noActive_keeps _ _).after (txEnd_keeps _ _ _ _)

theorem canRelease_keeps {b g : Bool} (s : State) (b' : Nat) (readOut : Bool) :
    Keeps b g s (canRelease s b' readOut) := by
  unfold canRelease
  extract_lets -underBinder -merge -useContext +onlyGivenNames x1
  try clear_value x1
  split
  · exact .rfl
  · extract_lets -underBinder -merge -useContext +onlyGivenNames x2
    have hx2 : Keeps b g s x2 := State.setCan_keeps _ _ _
    try clear_value x2
    split
    · exact (canStore_keeps _ _ _ _).after (hx2)
    · exact .ite ((setCanState_keeps _ _ _ _).after (hx2)) (hx2)

theorem headLock_keeps {b g : Bool} (s : State) (b' : Nat) (i : Nat) :
    Keeps b g s (headLock s b' i) := by
  unfold headLock
  extract_lets -underBinder -merge -useContext +onlyGivenNames x1
  have hx1 : Keeps b g s x1 := by
    unfold x1
    split
    · exact .ite .rfl ((State.note_keeps _ _).after (canRelease_keeps _ _ _))
    · exact .rfl
  exact (State.setCan_keeps _ _ _).after (hx1)

theorem tailRead_keeps {b g : Bool} (s : State) (b' : Nat) (i : Nat) :
    Keeps b g s (tailRead s b' i) := by
  unfold tailRead
  exact .ite (canRelease_keeps _ _ _) .rfl

theorem canRead_keeps {b g : Bool} (s : State) (a : Nat) :
    Keeps b g s (canRead s a) := by
  unfold canRead
  extract_lets -underBinder -merge -useContext +onlyGivenNames x1
  try clear_value x1
  refine .ite ?_ .rfl
  extract_lets -underBinder -merge -useContext +onlyGivenNames x2 x3
  exact .ite (headLock_keeps _ _ _) (.ite (tailRead_keeps _ _ _) .rfl)

theorem stampReached_keeps {b g : Bool} (s : State) (b' : Nat) (stamp : DWord) :
    Keeps b g s (stampReached s b' stamp) := by
  unfold stampReached
  extract_lets -underBinder -merge -useContext +onlyGivenNames x1
  exact .ite (State.setDword_keeps _ _ _) .rfl

theorem showErrorState_keeps {b g : Bool} (s : State) (b' : Nat) :
    Keeps b g s (showErrorState s b') := by
  unfold showErrorState
  exact .ite (State.setFld_keeps _ _ _) .rfl

theorem canReceive_keeps {b g : Bool} (s : State) (b' : Nat) (f : CanFrame) :
    Keeps b g s (canReceive s b' f) := by
  unfold canReceive
  extract_lets -underBinder -merge -useContext +onlyGivenNames x1 x2 x3
  have hx3 : Keeps b g s x3 := (stampReached_keeps _ _ _).after ((showErrorState_keeps _ _).after (State.setFld_keeps _ _ _))
  try clear_value x1
  try clear_value x2
  try clear_value x3
  refine .ite (hx3) ?_
  refine .ite ((State.count_keeps _ _ _).after (hx3)) ?_
  split
  · exact (State.count_keeps _ _ _).after (hx3)
  · exact (canDeliver_keeps _ _ _ _).after (hx3)

theorem cancelStore_keeps {b g : Bool} (s : State) :
    Keeps b g s (cancelStore s) := by
  unfold cancelStore
  exact State.withLoader_keeps _ _

theorem refuseSample_keeps {b g : Bool} (s : State) (port : Nat) (off : Int) :
    Keeps b g s (refuseSample s port off) := by
  unfold refuseSample
  extract_lets -underBinder -merge -useContext +onlyGivenNames x1 x2
  have hx1 : Keeps b g s x1 := State.note_keeps _ _
  exact .ite (hx1) ((State.withTime_keeps _ _).after ((State.raise_keeps _ _ _ _ _).after (hx1)))

theorem clearPending_keeps {b g : Bool} (s : State) :
    Keeps b g s (clearPending s) := by
  unfold clearPending
  extract_lets -underBinder -merge -useContext +onlyGivenNames x1
  have hx1 : Keeps b g s x1 := (State.setFld_keeps _ _ _).after (State.setFld_keeps _ _ _)
  exact (State.withTime_keeps _ _).after (hx1)

theorem makePending_keeps {b g : Bool} (s : State) (p : Nat) :
    Keeps b g s (makePending s p) := by
  unfold makePending
  extract_lets -underBinder -merge -useContext +onlyGivenNames x1
  have hx1 : Keeps b g s x1 := (State.setFld_keeps _ _ _).after (State.setFld_keeps _ _ _)
  exact (State.withTime_keeps _ _).after (hx1)

theorem resumeRef_keeps {b g : Bool} (s : State) (p : Nat) :
    Keeps b g s (resumeRef s p) := by
  unfold resumeRef
  extract_lets -underBinder -merge -useContext +onlyGivenNames x1
  have hx1 : Keeps b g s x1 := (State.setFld_keeps _ _ _).after (clearPending_keeps _)
  exact (State.withTime_keeps _ _).after ((State.setFlag_keeps _ _ _).after (hx1))

theorem reselect_keeps {b g : Bool} (s : State) :
    Keeps b g s (reselect s) := by
  unfold reselect
  refine .ite .rfl ?_
  split
  · exact .rfl
  · extract_lets -underBinder -merge -useContext +onlyGivenNames x1 x2 x3
    try clear_value x1
    try clear_value x2
    try clear_value x3
    split
    · exact .ite (makePending_keeps _ _) (.ite .rfl (.ite ((State.setFld_keeps _ _ _).after (State.setFld_keeps _ _ _)) (makePending_keeps _ _)))
    · refine .ite .rfl ?_
      extract_lets -underBinder -merge -useContext +onlyGivenNames x4
      have hx4 : Keeps b g s x4 := State.note_keeps _ _
      exact .ite ((resumeRef_keeps _ _).after (hx4)) ((makePending_keeps _ _).after (hx4))
    · exact .ite (clearPending_keeps _) (.ite (State.setFld_keeps _ _ _) .rfl)

theorem candidateSample_keeps {b g : Bool} (s : State) (port : Nat) (off : Int) :
    Keeps b g s (candidateSample s port off) := by
  unfold candidateSample
  extract_lets -underBinder -merge -useContext +onlyGivenNames x1
  try clear_value x1
  refine .ite (.ite (State.withTime_keeps _ _) .rfl) ?_
  extract_lets -underBinder -merge -useContext +onlyGivenNames x2 x3
  have hx2 : Keeps b g s x2 := (State.withTime_keeps _ _).after (refuseSample_keeps _ _ _)
  have hx3 : Keeps b g s x3 := .ite ((clearPending_keeps _).after (hx2)) (hx2)
  exact (reselect_keeps _).after (hx3)

theorem captureLowRead_keeps {b g : Bool} (s : State) (who : Requester) :
    Keeps b g s (captureLowRead s who) := by
  unfold captureLowRead
  extract_lets -underBinder -merge -useContext +onlyGivenNames x1 x2
  have hx2 : Keeps b g s x2 := (State.latch_keeps _ _ _ _).after (State.latch_keeps _ _ _ _)
  exact (State.setFlag_keeps _ _ _).after (hx2)

theorem takeLocalOwn_keeps {b g : Bool} (s : State) :
    Keeps b g s (takeLocalOwn s) := by
  unfold takeLocalOwn
  extract_lets -underBinder -merge -useContext +onlyGivenNames x1
  exact (State.touch_keeps _ _).after (.fold (fun _ _ => State.setIn_keeps _ _ _) .rfl)

theorem cardLocal_keeps {b g : Bool} (s : State) :
    Keeps b g s (cardLocal s) := by
  unfold cardLocal
  refine .ite ?_ .rfl
  extract_lets -underBinder -merge -useContext +onlyGivenNames x1
  have hx1 : Keeps b g s x1 := takeLocalOwn_keeps _
  try clear_value x1
  refine .ite ?_ (hx1)
  extract_lets -underBinder -merge -useContext +onlyGivenNames x2 x3
  exact (State.straitOn_keeps _ _ _ _ _ _).after (hx1)

theorem cardingOwn_keeps {b g : Bool} (s : State) :
    Keeps b g s (cardingOwn s) := by
  unfold cardingOwn
  extract_lets -underBinder -merge -useContext +onlyGivenNames x1 x2 x3 x6 x7
  have hx3 : Keeps b g s x3 := .fold (fun _ _ => judgeRing_keeps _ _ _ _) .rfl
  have hx6 : Keeps b g s x6 := .ite ((takeLocalOwn_keeps _).after (hx3)) (hx3)
  try clear_value x1
  try clear_value x2
  try clear_value x3
  try clear_value x6
  try clear_value x7
  refine .ite ?_ (hx6)
  extract_lets -underBinder -merge -useContext +onlyGivenNames x8
  have hx8 : Keeps b g s x8 := (State.note_keeps _ _).after (hx6)
  exact (State.withPair_keeps _ _).after (hx8)

theorem countCopied_keeps {b g : Bool} (s : State) :
    Keeps b g s (countCopied s) := by
  unfold countCopied
  exact State.count_keeps _ _ _

theorem carryEdges_keeps {b g : Bool} (prev : State) (old : Image) (s : State) (k : TaskRec) :
    Keeps b g s (carryEdges prev old s k) := by
  unfold carryEdges
  split
  · exact .rfl
  · exact .ite ((countCopied_keeps _).after (State.setTask_keeps _ _ _)) .rfl

theorem carryItemRegs_keeps {b g : Bool} (prev : State) (lo : Nat) (hi : Nat) (i : Nat) (j : Nat) (s : State) :
    Keeps b g s (carryItemRegs prev lo hi i j s) := by
  unfold carryItemRegs
  exact .fold (fun _ _ => State.setReg_keeps _ _ _) .rfl

theorem showShaft_keeps {b g : Bool} (s : State) (im : Image) :
    Keeps b g s (showShaft s im) := by
  unfold showShaft
  extract_lets -underBinder -merge -useContext +onlyGivenNames x1
  have hx1 : Keeps b g s x1 := .fold (fun _ _ => setFields_keeps _ _) .rfl
  exact .fold (fun _ _ => setFields_keeps _ _) (hx1)

theorem carryShaft_keeps {b g : Bool} (prev : State) (old : Image) (new : Image) (s : State) :
    Keeps b g s (carryShaft prev old new s) := by
  unfold carryShaft
  extract_lets -underBinder -merge -useContext +onlyGivenNames x1 x2 x3 x6
  have hx3 : Keeps b g s x3 := by
    unfold x3
    try clear_value x1
    try clear_value x2
    refine .fold ?_ .rfl
    intro s4 a5
    split
    · exact .rfl
    · exact (countCopied_keeps _).after ((carryItemRegs_keeps _ _ _ _ _ _).after (State.setMaster_keeps _ _ _))
  have hx6 : Keeps b g s x6 := by
    unfold x6
    try clear_value x1
    try clear_value x2
    try clear_value x3
    refine .fold ?_ (hx3)
    intro s7 a8
    split
    · exact .rfl
    · exact (countCopied_keeps _).after ((carryItemRegs_keeps _ _ _ _ _ _).after (State.setAxis_keeps _ _ _))
  exact (showShaft_keeps _ _).after (hx6)

theorem placeRetained_keeps {b g : Bool} (s : State) (r : RetainedRec) (bs : List Byte) :
    Keeps b g s (placeRetained s r bs) := by
  unfold placeRetained
  exact .ite (.upd .rfl) (State.setTask_keeps _ _ _)

theorem carryVariable_keeps {b g : Bool} (prev : State) (old : Image) (s : State) (r : RetainedRec) :
    Keeps b g s (carryVariable prev old s r) := by
  unfold carryVariable
  refine .ite .rfl ?_
  split
  · exact .rfl
  · exact .ite ((countCopied_keeps _).after (placeRetained_keeps _ _ _)) ((State.raise_keeps _ _ _ _ _).after (State.count_keeps _ _ _))

theorem changeKey_keeps {b g : Bool} (s : State) (slot : Nat) (sub : Nat) (k : Nat) (perm : Nat) (x : Option KeySlot) :
    Keeps b g s (changeKey s slot sub k perm x) := by
  unfold changeKey
  extract_lets -underBinder -merge -useContext +onlyGivenNames x1 x2 x3 x4 x5
  have hx2 : Keeps b g s x2 := .upd .rfl
  have hx3 : Keeps b g s x3 := (State.setReg_keeps _ _ _).after (hx2)
  have hx4 : Keeps b g s x4 := (State.raise_keeps _ _ _ _ _).after (hx3)
  have hx5 : Keeps b g s x5 := (finishCommand_keeps _ _ _ _).after ((State.checkpointRecord_keeps _).after (hx4))
  exact .fold (fun _ _ => .ite (closeSession_keeps _ _) .rfl) (hx5)

theorem preemptor_keeps {b g : Bool} (s : State) (preempt : Option (Nat × Nat)) :
    Keeps b g s (preemptor s preempt) := by
  unfold preemptor
  split
  · exact .rfl
  · exact (setChState_keeps _ _ _).after (State.setChan_keeps _ _ _)

theorem portBurst_keeps {b g : Bool} {s t : State} {c n : Nat} {preempt : Option (Nat × Nat)} {f : State → State}
    (ht : Keeps b g s t) (hf : ∀ x, Keeps b g s x → Keeps b g s (f x)) :
    Keeps b g s (portBurst t c n preempt f) := by
  unfold portBurst
  dsimp only
  have hx : Keeps b g s (f (setChState (t.setChan c { t.chan c with burst := 0 }) c chActive)) :=
    hf _ ((setChState_keeps _ _ _).after ((State.setChan_keeps _ _ _).after ht))
  exact .ite ((preemptor_keeps _ _).after ((setChState_keeps _ _ _).after ((State.setChan_keeps _ _ _).after ht)))
    (.ite ((channelError_keeps _ _ _).after hx) hx)


theorem storeRecord_keeps {b g : Bool} (s : State) (r : EvRecord) : Keeps b g s (storeRecord s r) :=
  (State.setReg_keeps _ _ _).after ((State.setDword_keeps _ _ _).after
    (State.withRecorder_keeps ⟨[r], rfl⟩ ⟨[r], rfl⟩ (Keeps.refl _ _ _)))


theorem saturate_keeps {b g : Bool} (s : State) :
    Keeps b g s (saturate s) := by
  unfold saturate
  extract_lets -underBinder -merge -useContext +onlyGivenNames x1 x2 x3 x4 x5 x6 x7 x8
  have hx7 : Keeps b g s x7 := State.withRecorder_keeps ⟨[], rfl⟩ ⟨[], rfl⟩ (State.count_keeps _ _ _)
  have hx8 : Keeps b g s x8 := (State.setFlag_keeps _ _ _).after ((storeRecord_keeps _ _).after (hx7))
  exact (eventOut_keeps _ _ _).after (setQueue_keeps hx8 fun _ => Nat.zero_le _)


theorem writeFront_keeps {b g : Bool} (s : State) :
    Keeps b g s (writeFront s) := by
  unfold writeFront
  split
  · exact .rfl
  · rename_i r rs e
    exact .ite (saturate_keeps _) (setQueue_keeps (storeRecord_keeps _ _) fun h => by
      rw [e] at h; exact Nat.le_of_succ_le h)


theorem ownerDone_keeps {b g : Bool} (s : State) (c : Nat) :
    Keeps b g s (ownerDone s c) := by
  unfold ownerDone
  exact .ite (channelDone_keeps _ _) .rfl

theorem recorderUnit_keeps {b g : Bool} (s : State) (preempt : Option (Nat × Nat)) :
    Keeps b g s (recorderUnit s preempt) := by
  unfold recorderUnit
  extract_lets -underBinder -merge -useContext +onlyGivenNames x1
  have hx1 : Keeps b g s x1 := .ite .rfl (ownerStart_keeps _ _)
  try clear_value x1
  refine portBurst_keeps (hx1) ?_
  intro u2 hu2
  extract_lets -underBinder -merge -useContext +onlyGivenNames x3
  have hx3 : Keeps b g s x3 := (writeFront_keeps _).after (hu2)
  exact .ite ((ownerDone_keeps _ _).after (hx3)) (hx3)

theorem flashBurst_keeps {b g : Bool} (s : State) (o : StoreOp) (n : Nat) :
    Keeps b g s (flashBurst s o n) := by
  unfold flashBurst
  extract_lets -underBinder -merge -useContext +onlyGivenNames x1 x2 x3 x4 x5 x6 x7
  have hx5 : Keeps b g s x5 := .ite (State.setBank_keeps _ _ _) .rfl
  have hx7 : Keeps b g s x7 := (State.setChan_keeps _ _ _).after ((State.setReg_keeps _ _ _).after (hx5))
  exact (State.setFld_keeps _ _ _).after ((State.setReg_keeps _ _ _).after (hx7))

theorem flashUnit_keeps {b g : Bool} (s : State) (preempt : Option (Nat × Nat)) :
    Keeps b g s (flashUnit s preempt) := by
  unfold flashUnit
  split
  · exact .rfl
  · exact portBurst_keeps .rfl (fun u1 hu1 => (flashBurst_keeps _ _ _).after (hu1))

theorem layOut_keeps {g : Bool} (s : State) (im : Image) :
    Keeps false g s (layOut s im) := by
  unfold layOut
  exact .ite .rfl (State.storeMem_keeps _ _ _)

theorem layoutUnit_keeps {g : Bool} (s : State) :
    Keeps false g s (layoutUnit s) := by
  unfold layoutUnit
  split
  · exact ownerStop_keeps _ _
  · exact (ownerDone_keeps _ _).after (layOut_keeps _ _)

theorem sendPiece_keeps {b g : Bool} (s : State) (q : Nat) :
    Keeps b g s (sendPiece s q) := by
  unfold sendPiece
  exact State.straitOn_keeps _ _ _ _ _ _

theorem copyUnit_keeps {b g : Bool} (s : State) :
    Keeps b g s (copyUnit s) := by
  unfold copyUnit
  refine .ite .rfl ?_
  split
  · extract_lets -underBinder -merge -useContext +onlyGivenNames x1
    have hx1 : Keeps b g s x1 := State.withResync_keeps _ _
    exact .ite ((State.emit_keeps _ _).after (hx1)) (hx1)
  · split
    · exact (resyncFail_keeps _ _).after ((channelError_keeps _ _ _).after (State.memError_keeps _ _))
    · exact (State.withResync_keeps _ _).after (sendPiece_keeps _ _)

theorem guardRefuse_keeps {b g : Bool} (s : State) (req : Nat) (a : Nat) (write : Bool) (cause : Nat) :
    Keeps b g s (guardRefuse s req a write cause) := by
  unfold guardRefuse
  exact (State.setDword_keeps _ _ _).after ((State.note_keeps _ _).after ((State.setFld_keeps _ _ _).after ((State.setFlag_keeps _ _ _).after (State.setFld_keeps _ _ _))))

theorem noteRead_keeps {b g : Bool} (s : State) (c : Nat) (d : Descr) (bs : List Byte) :
    Keeps b g s (noteRead s c d bs) := by
  unfold noteRead
  extract_lets -underBinder -merge -useContext +onlyGivenNames x1
  exact .ite (State.setReg_keeps _ _ _) .rfl

theorem noteWritten_keeps {b g : Bool} (s : State) (c : Nat) (d : Descr) (n : Nat) :
    Keeps b g s (noteWritten s c d n) := by
  unfold noteWritten
  extract_lets -underBinder -merge -useContext +onlyGivenNames x1 x2
  have hx2 : Keeps b g s x2 := State.setChan_keeps _ _ _
  exact (State.setReg_keeps _ _ _).after (hx2)

theorem healWritten_keeps {b g : Bool} (s : State) (c : Nat) (d : Descr) (x : XSide) :
    Keeps b g s (healWritten s c d x) := by
  unfold healWritten
  split
  · extract_lets -underBinder -merge -useContext +onlyGivenNames x1 x2 x3
    exact .upd .rfl
  · exact .rfl

theorem storeBytes_keeps {g : Bool} (s : State) (a : Nat) (bs : List Byte) :
    Keeps false g s (storeBytes s a bs) := by
  unfold storeBytes
  exact .ite .rfl (State.storeMem_keeps _ _ _)

theorem forwardWrite_keeps {g : Bool} (s : State) (a : Nat) (item : Nat) (v : Word) (slot : Option Nat) :
    Keeps false g s (forwardWrite s a item v slot) := by
  unfold forwardWrite
  refine .ite ?_ (applyWrite_keeps _ _ _ _)
  extract_lets -underBinder -merge -useContext +onlyGivenNames x1 x2 x3
  have hx3 : Keeps false g s x3 := State.straitOn_keeps _ _ _ _ _ _
  exact (State.withPair_keeps _ _).after (hx3)

theorem writeReg_keeps {g : Bool} (s : State) (a : Nat) (v : Word) (slot : Option Nat) :
    Keeps false g s (writeReg s a v slot) := by
  unfold writeReg
  split
  · exact .rfl
  · extract_lets -underBinder -merge -useContext +onlyGivenNames x1
    exact .ite (forwardWrite_keeps _ _ _ _ _) (applyWrite_keeps _ _ _ _)

theorem serPut_keeps {b g : Bool} (l : Nat) (s : State) (b' : Byte) :
    Keeps b g s (serPut l s b') := by
  unfold serPut
  extract_lets -underBinder -merge -useContext +onlyGivenNames x1
  exact .ite (State.count_keeps _ _ _) (.ite .rfl ((driveIfDue_keeps _ _).after (putSer_keeps _ _ _)))

theorem sideWrite_keeps {g : Bool} (s : State) (c : Nat) (off : Nat) (bs : List Byte) (y5 : XSide) :
    Keeps false g s (sideWrite s c off bs y5) := by
  unfold sideWrite
  split
  · exact storeBytes_keeps _ _ _
  · exact writeReg_keeps _ _ _ _
  · exact .fold (fun _ _ => serPut_keeps _ _ _) .rfl
  · exact State.setChan_keeps _ _ _

theorem lowRead_keeps {b g : Bool} (s : State) (who : Requester) (a : Nat) :
    Keeps b g s (lowRead s who a) := by
  unfold lowRead
  refine .ite (captureLowRead_keeps _ _) ?_
  extract_lets -underBinder -merge -useContext +onlyGivenNames x1
  have hx1 : Keeps b g s x1 := State.latch_keeps _ _ _ _
  exact .ite ((State.latch_keeps _ _ _ _).after (hx1)) (hx1)

theorem clearRead_keeps {b g : Bool} (s : State) (a : Nat) (r : RegDesc) (lo : Nat) (n : Nat) :
    Keeps b g s (clearRead s a r lo n) := by
  unfold clearRead
  extract_lets -underBinder -merge -useContext +onlyGivenNames x1
  exact .fold (fun _ _ => .ite (State.setReg_keeps _ _ _) .rfl) .rfl

theorem readReg_keeps {b g : Bool} (s : State) (who : Requester) (a : Nat) (lo : Nat) (n : Nat) :
    Keeps b g s (readReg s who a lo n).2 := by
  unfold readReg
  split
  · exact .mk2 .rfl
  · extract_lets -underBinder -merge -useContext +onlyGivenNames x1 x2 x3
    have hx3 : Keeps b g s x3 := .ite (lowRead_keeps _ _ _) .rfl
    exact .mk2 ((canRead_keeps _ _).after ((clearRead_keeps _ _ _ _ _).after (hx3)))

theorem linePull_keeps {b g : Bool} (s : State) (l : Nat) (n : Nat) :
    Keeps b g s (linePull s l n).2 := by
  unfold linePull
  split
  · exact .mk2 .rfl
  · split
    · extract_lets -underBinder -merge -useContext +onlyGivenNames x1 x2 x3
      exact .mk2 (State.setGrp_keeps _ _ _)
    · extract_lets -underBinder -merge -useContext +onlyGivenNames x4 x5 x6
      exact .mk2 (putSer_keeps _ _ _)

theorem sideRead_keeps {b g : Bool} (s : State) (c : Nat) (off : Nat) (n : Nat) (y5 : XSide) :
    Keeps b g s (sideRead s c off n y5).2 := by
  unfold sideRead
  split
  · exact .mk2 .rfl
  · split
    rename_i p2 p3 hq1
    have hp3 : Keeps b g s p3 := .snd hq1 (readReg_keeps _ _ _ _ _)
    exact .mk2 (hp3)
  · exact linePull_keeps _ _ _
  · exact .mk2 .rfl

theorem moveWords_keeps {g : Bool} (c : Nat) (d : Descr) (n : Nat) (s : State) :
    Keeps false g s (moveWords c d n s).1 := by
  induction n generalizing s with
  | zero => exact Keeps.refl _ _ _
  | succ n ih =>
    unfold moveWords
    dsimp only
    split
    · exact Keeps.refl _ _ _
    · exact Keeps.refl _ _ _
    split
    · exact Keeps.refl _ _ _
    · exact Keeps.refl _ _ _
    exact (ih _).after ((healWritten_keeps _ _ _ _).after ((noteWritten_keeps _ _ _ _).after
      ((noteRead_keeps _ _ _ _).after ((sideWrite_keeps _ _ _ _ _).after (sideRead_keeps _ _ _ _ _)))))


theorem moveBytes_keeps {g : Bool} (s : State) (c : Nat) (d : Descr) (n : Nat) (b' : Option Nat) :
    Keeps false g s (moveBytes s c d n b').1 := by
  unfold moveBytes
  extract_lets -underBinder -merge -useContext +onlyGivenNames x1 x2 x3 x4 x5
  try clear_value x1
  try clear_value x2
  try clear_value x3
  try clear_value x4
  try clear_value x5
  split
  extract_lets -underBinder -merge -useContext +onlyGivenNames x6 x7
  try clear_value x6
  try clear_value x7
  split
  split
  rename_i p9 p10 hq8
  have hp10 : Keeps false g s p10 := .snd hq8 (by
    split
    · exact .mk2 .rfl
    · split
      rename_i p12 p13 hq11
      have hp13 : Keeps false g s p13 := .snd hq11 (sideRead_keeps _ _ _ _ _)
      exact .mk2 ((noteRead_keeps _ _ _ _).after (hp13)))
  extract_lets -underBinder -merge -useContext +onlyGivenNames x14 x15 x16 x17 x18
  have hx16 : Keeps false g s x16 := .ite (hp10) ((noteWritten_keeps _ _ _ _).after ((sideWrite_keeps _ _ _ _ _).after (hp10)))
  have hx18 : Keeps false g s x18 := (State.setChan_keeps _ _ _).after (hx16)
  exact .mk1 (hx18)

theorem setBurst_keeps {b g : Bool} (s : State) (c : Nat) (m : Nat) (n : Nat) :
    Keeps b g s (setBurst s c m n) := by
  unfold setBurst
  exact State.setChan_keeps _ _ _

theorem runUnit_keeps {g : Bool} (s : State) (c : Nat) (d : Descr) (up : UnitUpset) (preempt : Option (Nat × Nat)) :
    Keeps false g s (runUnit s c d up preempt) := by
  unfold runUnit
  extract_lets -underBinder -merge -useContext +onlyGivenNames x1
  try clear_value x1
  split
  · exact (channelError_keeps _ _ _).after (guardRefuse_keeps _ _ _ _ _)
  · exact (channelError_keeps _ _ _).after (guardRefuse_keeps _ _ _ _ _)
  · refine .ite (channelError_keeps _ _ _) ?_
    split
    · exact afterUnit_keeps _ _ _ _
    · split
      · exact afterUnit_keeps _ _ _ _
      · extract_lets -underBinder -merge -useContext +onlyGivenNames x2 x3 x4 x5
        have hx5 : Keeps false g s x5 := State.setChan_keeps _ _ _
        try clear_value x2
        try clear_value x3
        try clear_value x4
        try clear_value x5
        split
        rename_i p7 p8 hq6
        have hp7 : Keeps false g s p7 := .fst hq6 (by
          split
          · exact (moveWords_keeps _ _ _ _).after (hx5)
          · exact (moveBytes_keeps _ _ _ _ _).after (hx5))
        extract_lets -underBinder -merge -useContext +onlyGivenNames x9
        have hx9 : Keeps false g s x9 := (setBurst_keeps _ _ _ _).after (hp7)
        exact .ite ((preemptor_keeps _ _).after ((setChState_keeps _ _ _).after (hx9))) ((afterUnit_keeps _ _ _ _).after (hx9))

theorem fetchDescr_keeps {b g : Bool} (s : State) (c : Nat) :
    (∀ t, fetchDescr s c = .error t → Keeps b g s t) ∧ ∀ t d, fetchDescr s c = .ok (t, d) → Keeps b g s t := by
  constructor
  · intro t h
    unfold fetchDescr at h
    dsimp only at h
    repeat' split at h
    all_goals cases h
    · exact channelError_keeps _ _ _
    · exact (channelError_keeps _ _ _).after (guardRefuse_keeps _ _ _ _ _)
    · exact channelError_keeps _ _ _
    · exact (channelError_keeps _ _ _).after (guardRefuse_keeps _ _ _ _ _)
    · exact (channelError_keeps _ _ _).after (State.memError_keeps _ _)
    · exact (channelError_keeps _ _ _).after (State.setReg_keeps _ _ _)
  · intro t d h
    unfold fetchDescr at h
    dsimp only at h
    repeat' split at h
    all_goals cases h
    all_goals refine (State.setChan_keeps _ _ _).after ?_
    · exact (State.setReg_keeps _ _ _).after ((State.setFlag_keeps _ _ _).after (State.setFld_keeps _ _ _))
    · exact (State.setReg_keeps _ _ _).after ((State.setReg_keeps _ _ _).after
        ((State.setFlag_keeps _ _ _).after (State.setFld_keeps _ _ _)))

theorem channelTurn_keeps {g : Bool} (s : State) (c : Nat) (up : UnitUpset) (preempt : Option (Nat × Nat)) :
    Keeps false g s (channelTurn s c up preempt) := by
  unfold channelTurn
  refine Keeps.ite (recorderUnit_keeps _ _) (Keeps.ite (flashUnit_keeps _ _) (Keeps.ite (layoutUnit_keeps _)
    (Keeps.ite (copyUnit_keeps _) ?_)))
  split
  · exact runUnit_keeps _ _ _ _ _
  split
  next h => exact (fetchDescr_keeps s c).1 _ h
  next h =>
    have hs := (fetchDescr_keeps (b := false) (g := g) s c).2 _ _ h
    exact Keeps.ite ((runUnit_keeps _ _ _ _ _).after hs) ((awaitLine_keeps _ _ _).after hs)


theorem chargeTask_keeps {b g : Bool} (s : State) (j : Nat) (k : TaskRec) (cost : Nat) :
    Keeps b g s (chargeTask s j k cost) := by
  unfold chargeTask
  extract_lets -underBinder -merge -useContext +onlyGivenNames x1 x2 x3 x4 x5 x6
  have hx3 : Keeps b g s x3 := .ite .rfl (State.setCore_keeps _ _ _)
  exact .ite ((State.raiseAt_keeps _ _ _ _ _ _).after ((State.note_keeps _ _).after ((State.setTask_keeps _ _ _).after (hx3)))) ((State.setTask_keeps _ _ _).after (hx3))

theorem chooseBank_keeps {b g : Bool} (x : StartIn) (s : State) (bs : List Nat) : Keeps b g s (chooseBank x s bs).1 := by
  induction bs generalizing s with
  | nil => exact Keeps.refl _ _ _
  | cons n bs ih =>
    unfold chooseBank
    split
    · exact ih _
    split
    · exact Keeps.refl _ _ _
    · exact (ih _).after ((State.raise_keeps _ _ _ _ _).after (State.count_keeps _ _ _))

theorem setOvr_keeps {b g : Bool} (s : State) (b' : Nat) :
    Keeps b g s (setOvr s b') := by
  unfold setOvr
  exact State.setReg_keeps _ _ _

theorem skipCycle_keeps {b g : Bool} (s : State) (k : Nat) :
    Keeps b g s (skipCycle s k) := by
  unfold skipCycle
  extract_lets -underBinder -merge -useContext +onlyGivenNames x1 x2 x3
  have hx2 : Keeps b g s x2 := State.count_keeps _ _ _
  exact .ite ((State.raiseAt_keeps _ _ _ _ _ _).after ((setOvr_keeps _ _).after (hx2))) (hx2)

theorem taskStarts_keeps {b g : Bool} (s : State) (x : TaskRec) :
    Keeps b g s (taskStarts s x) := by
  unfold taskStarts
  extract_lets -underBinder -merge -useContext +onlyGivenNames x1
  exact State.setTask_keeps _ _ _

theorem startCycle_keeps {b g : Bool} (s : State) (k : Nat) :
    Keeps b g s (startCycle s k) := by
  unfold startCycle
  extract_lets -underBinder -merge -useContext +onlyGivenNames x1 x2
  have hx2 : Keeps b g s x2 := State.setCls_keeps _ _ _
  exact .fold (fun _ _ => taskStarts_keeps _ _) (hx2)

theorem classEdge_keeps {b g : Bool} (s : State) :
    Keeps b g s (classEdge s) := by
  unfold classEdge
  exact .fold (fun _ _ => .ite (.ite (skipCycle_keeps _ _) (startCycle_keeps _ _)) .rfl) .rfl

theorem showBand_keeps {b g : Bool} (s : State) (c : Nat) (b' : Nat) :
    Keeps b g s (showBand s c b') := by
  unfold showBand
  exact .fold (fun _ _ => State.setFlag_keeps _ _ _) .rfl

theorem clearChannel_keeps {b g : Bool} (s : State) (c : Nat) :
    Keeps b g s (clearChannel s c) := by
  unfold clearChannel
  exact .fold (fun _ _ => State.setFlag_keeps _ _ _) (showBand_keeps _ _ _)

theorem clearSkips_keeps {b g : Bool} (s : State) :
    Keeps b g s (clearSkips s) := by
  unfold clearSkips
  exact .fold (fun _ _ => State.setFld_keeps _ _ _) .rfl

theorem clearTick_keeps {b g : Bool} (s : State) :
    Keeps b g s (clearTick s) := by
  unfold clearTick
  extract_lets -underBinder -merge -useContext +onlyGivenNames x1 x2 x3 x6
  have hx1 : Keeps b g s x1 := (State.setReg_keeps _ _ _).after (State.setFld_keeps _ _ _)
  have hx2 : Keeps b g s x2 := (State.withPair_keeps _ _).after (hx1)
  have hx3 : Keeps b g s x3 := .fold (fun _ _ => State.setRing_keeps _ _ _) (hx2)
  have hx6 : Keeps b g s x6 := (State.setFlag_keeps _ _ _).after (hx3)
  exact (State.withCheck_keeps _ _).after (hx6)

theorem closeAll_keeps {b g : Bool} (s : State) :
    Keeps b g s (closeAll s) := by
  unfold closeAll
  exact .fold (fun _ _ => closeSession_keeps _ _) .rfl

theorem publishClass_keeps {b g : Bool} (s : State) (k : Nat) :
    Keeps b g s (publishClass s k) := by
  unfold publishClass
  extract_lets -underBinder -merge -useContext +onlyGivenNames x1 x2
  have hx2 : Keeps b g s x2 := (State.touch_keeps _ _).after (.fold (fun _ _ => State.setOut_keeps _ _ _) .rfl)
  exact (State.setFld_keeps _ _ _).after ((State.setCls_keeps _ _ _).after (hx2))

theorem overrunClass_keeps {b g : Bool} (s : State) (k : Nat) :
    Keeps b g s (overrunClass s k) := by
  unfold overrunClass
  extract_lets -underBinder -merge -useContext +onlyGivenNames x1
  try clear_value x1
  refine .ite .rfl ?_
  extract_lets -underBinder -merge -useContext +onlyGivenNames x2 x3
  have hx2 : Keeps b g s x2 := (State.count_keeps _ _ _).after (setOvr_keeps _ _)
  have hx3 : Keeps b g s x3 := (State.setFld_keeps _ _ _).after (hx2)
  exact (State.raiseAt_keeps _ _ _ _ _ _).after ((State.setCls_keeps _ _ _).after (hx3))

theorem commitClasses_keeps {b g : Bool} (s : State) (mask : BitVec 8) :
    Keeps b g s (commitClasses s mask) := by
  unfold commitClasses
  exact .fold (fun _ _ => .ite (.ite (publishClass_keeps _ _) (overrunClass_keeps _ _)) .rfl) .rfl

theorem commitSwitch_keeps {b g : Bool} (s : State) :
    Keeps b g s (commitSwitch s) := by
  unfold commitSwitch
  extract_lets -underBinder -merge -useContext +onlyGivenNames x1 x2 x3 x4 x5 x6 x7 x8 x9
  have hx6 : Keeps b g s x6 := (State.note_keeps _ _).after ((State.setFlag_keeps _ _ _).after (State.setFld_keeps _ _ _))
  have hx7 : Keeps b g s x7 := (clearPending_keeps _).after (hx6)
  have hx8 : Keeps b g s x8 := (State.withTime_keeps _ _).after (hx7)
  have hx9 : Keeps b g s x9 := .ite ((State.raise_keeps _ _ _ _ _).after ((State.note_keeps _ _).after (hx8))) ((State.raise_keeps _ _ _ _ _).after (hx8))
  exact (reselect_keeps _).after (hx9)

theorem undoOne_keeps {g : Bool} (i : Nat) (s : State) (e : UndoEntry) : Keeps false g s (undoOne i s e) := by
  unfold undoOne
  split
  · exact State.setTask_keeps _ _ _
  · exact State.setTask_keeps _ _ _
  · exact (State.touch_keeps _ _).after ⟨rfl, id, putDword_wf _ _, ⟨[], rfl⟩, ⟨[], rfl⟩, fun _ => .inl rfl, nofun, id, id⟩


theorem undoAll_keeps {g : Bool} (s : State) (i : Nat) :
    Keeps false g s (undoAll s i) := by
  unfold undoAll
  exact .fold (fun _ _ => undoOne_keeps _ _ _) .rfl

theorem mismatchInfo_keeps {b g : Bool} (s : State) (j : Nat) (k : TaskRec) (kind : Nat) (member : Nat) :
    Keeps b g s (mismatchInfo s j k kind member) := by
  unfold mismatchInfo
  exact (State.setFld_keeps _ _ _).after ((State.setFld_keeps _ _ _).after ((State.setFld_keeps _ _ _).after ((State.setFld_keeps _ _ _).after (State.setFld_keeps _ _ _))))

theorem dispatchCore_keeps {b g : Bool} (s : State) (j : Nat) :
    Keeps b g s (dispatchCore s j) := by
  unfold dispatchCore
  refine .ite ?_ (State.setCore_keeps _ _ _)
  split
  · exact State.setCore_keeps _ _ _
  · extract_lets -underBinder -merge -useContext +onlyGivenNames x1 x2
    have hx2 : Keeps b g s x2 := .ite .rfl (State.setTask_keeps _ _ _)
    exact (State.setCore_keeps _ _ _).after (hx2)

theorem mismatchUnresolved_keeps {g : Bool} (s : State) (j : Nat) (k : TaskRec) (kind : Nat) :
    Keeps false g s (mismatchUnresolved s j k kind) := by
  unfold mismatchUnresolved
  extract_lets -underBinder -merge -useContext +onlyGivenNames x1 x2 x3 x4 x5 x6
  have hx1 : Keeps false g s x1 := undoAll_keeps _ _
  have hx3 : Keeps false g s x3 := (State.setTask_keeps _ _ _).after (hx1)
  have hx4 : Keeps false g s x4 := (State.setReg_keeps _ _ _).after (hx3)
  have hx5 : Keeps false g s x5 := (State.unclean_keeps _).after ((mismatchInfo_keeps _ _ _ _ _).after (hx4))
  have hx6 : Keeps false g s x6 := (State.raiseAt_keeps _ _ _ _ _ _).after (hx5)
  exact (dispatchCore_keeps _ _).after ((startVerdict_keeps _ _).after (hx6))

theorem forgetMember_keeps {b g : Bool} (s : State) (j : Nat) (i : Nat) :
    Keeps b g s (forgetMember s j i) := by
  unfold forgetMember
  exact .fold (fun _ _ => State.setTask_keeps _ _ _) .rfl

theorem mismatchResolved_keeps {b g : Bool} (s : State) (j : Nat) (k : TaskRec) (kind : Nat) (member : Nat) :
    Keeps b g s (mismatchResolved s j k kind member) := by
  unfold mismatchResolved
  extract_lets -underBinder -merge -useContext +onlyGivenNames x1
  have hx1 : Keeps b g s x1 := State.setReg_keeps _ _ _
  exact (State.raiseAt_keeps _ _ _ _ _ _).after ((mismatchInfo_keeps _ _ _ _ _).after (hx1))

theorem memberOdd_keeps {b g : Bool} (s : State) (j : Nat) (k : TaskRec) (i : Nat) :
    Keeps b g s (memberOdd s j k i) := by
  unfold memberOdd
  extract_lets -underBinder -merge -useContext +onlyGivenNames x1 x2 x3 x4 x5 x6
  have hx4 : Keeps b g s x4 := .upd .rfl
  have hx5 : Keeps b g s x5 := (forgetMember_keeps _ _ _).after (hx4)
  have hx6 : Keeps b g s x6 := (mismatchResolved_keeps _ _ _ _ _).after (hx5)
  exact .ite ((State.raise_keeps _ _ _ _ _).after ((State.setReg_keeps _ _ _).after (hx6))) (hx6)

theorem pairMismatch_keeps {g : Bool} (s : State) (j : Nat) (k : TaskRec) (oneHalf : Bool) :
    Keeps false g s (pairMismatch s j k oneHalf) := by
  unfold pairMismatch
  extract_lets -underBinder -merge -useContext +onlyGivenNames x1
  try clear_value x1
  refine .ite (mismatchUnresolved_keeps _ _ _ _) ?_
  refine .ite (mismatchUnresolved_keeps _ _ _ _) ?_
  extract_lets -underBinder -merge -useContext +onlyGivenNames x2 x3
  have hx2 : Keeps false g s x2 := undoAll_keeps _ _
  exact (State.setTask_keeps _ _ _).after (hx2)

theorem compareMembers_keeps {g : Bool} (s : State) (j : Nat) (k : TaskRec) (up : Upset) {go : State → State}
    (h : ∀ s, Keeps false g s (go s)) : Keeps false g s (compareMembers s j k up go) := by
  unfold compareMembers
  dsimp only
  repeat' split
  all_goals first
    | exact h _
    | exact mismatchUnresolved_keeps _ _ _ _
    | exact (h _).after (memberOdd_keeps _ _ _ _)
    | exact pairMismatch_keeps _ _ _ _

theorem startConvNext_keeps {b g : Bool} (s : State) :
    Keeps b g s (startConvNext s) := by
  unfold startConvNext
  split
  · exact .rfl
  · exact .ite .rfl (.ite ((beginProof_keeps _).after (setActivity_keeps _ _ _)) (.ite (setActivity_keeps _ _ _) (.ite .rfl ((beginCalibration_keeps _ _).after (setActivity_keeps _ _ _)))))

theorem convFollows_keeps {b g : Bool} (s : State) :
    Keeps b g s (convFollows s) := by
  unfold convFollows
  exact .ite .rfl (startConvNext_keeps _)

theorem convSwitch_keeps {b g : Bool} (s : State) :
    Keeps b g s (convSwitch s) := by
  unfold convSwitch
  refine .fold ?_ .rfl
  intro s1 a2
  split
  · exact .rfl
  · exact State.setGrp_keeps _ _ _

theorem copyTamper_keeps {b g : Bool} (s : State) (e : TamperEv) :
    Keeps b g s (copyTamper s e) := by
  unfold copyTamper
  extract_lets -underBinder -merge -useContext +onlyGivenNames x1
  exact State.withRecorder_keeps ⟨[], rfl⟩ ⟨[], rfl⟩ .rfl

theorem copyTampers_keeps {b g : Bool} (s : State) :
    Keeps b g s (copyTampers s) := by
  unfold copyTampers
  extract_lets -underBinder -merge -useContext +onlyGivenNames x1
  have hx1 : Keeps b g s x1 := .fold (fun _ _ => copyTamper_keeps _ _) .rfl
  exact (State.withSkerry_keeps _ _).after (hx1)

theorem coreDomains_keeps {b g : Bool} (s : State) :
    Keeps b g s (coreDomains s) := by
  unfold coreDomains
  exact .fold (fun _ _ => requestOn_keeps _ _) .rfl

theorem countCommit_keeps {b g : Bool} (s : State) :
    Keeps b g s (countCommit s) := by
  unfold countCommit
  exact State.withPower_keeps _ _

theorem triggerCycle_keeps {b g : Bool} (s : State) (cls : Nat) :
    Keeps b g s (triggerCycle s cls) := by
  unfold triggerCycle
  exact .fold (fun _ _ => .ite (setTrigNext_keeps _ _ _) .rfl) .rfl

theorem cycleStarts_keeps {b g : Bool} (s : State) (k : Nat) :
    Keeps b g s (cycleStarts s k) := by
  unfold cycleStarts
  extract_lets -underBinder -merge -useContext +onlyGivenNames x1
  have hx1 : Keeps b g s x1 := triggerCycle_keeps _ _
  exact .fold (fun _ _ => .ite (anaStart_keeps _ _ _) .rfl) (hx1)

theorem decideStart_keeps {b g : Bool} (s : State) (state : Nat) (epoch : Nat) :
    Keeps b g s (decideStart s state epoch) := by
  unfold decideStart
  exact (State.setFld_keeps _ _ _).after (State.withPower_keeps _ _)

theorem loaderIdle_keeps {b g : Bool} (s : State) :
    Keeps b g s (loaderIdle s) := by
  unfold loaderIdle
  extract_lets -underBinder -merge -useContext +onlyGivenNames x1 x2
  have hx1 : Keeps b g s x1 := (State.setReg_keeps _ _ _).after (State.setFld_keeps _ _ _)
  have hx2 : Keeps b g s x2 := (State.setFlag_keeps _ _ _).after ((State.setDword_keeps _ _ _).after (hx1))
  exact (State.withLoader_keeps _ _).after (hx2)

theorem loaderFail_keeps {b g : Bool} (s : State) (cause : Nat) :
    Keeps b g s (loaderFail s cause) := by
  unfold loaderFail
  exact (State.setFld_keeps _ _ _).after (loaderIdle_keeps _)

theorem deferSwitch_keeps {b g : Bool} (s : State) :
    Keeps b g s (deferSwitch s) := by
  unfold deferSwitch
  extract_lets -underBinder -merge -useContext +onlyGivenNames x1 x2 x3 x4
  have hx1 : Keeps b g s x1 := .ite (State.setFlag_keeps _ _ _) .rfl
  have hx3 : Keeps b g s x3 := (State.setDword_keeps _ _ _).after ((State.setFld_keeps _ _ _).after (hx1))
  have hx4 : Keeps b g s x4 := (State.withLoader_keeps _ _).after (hx3)
  exact .ite ((loaderFail_keeps _ _).after ((State.raise_keeps _ _ _ _ _).after (hx4))) (hx4)

theorem endLoad_keeps {b g : Bool} (s : State) (ring : Nat) (station : Nat) (ok : Bool) :
    Keeps b g s (endLoad s ring station ok) := by
  unfold endLoad
  extract_lets -underBinder -merge -useContext +onlyGivenNames x1 x2
  have hx2 : Keeps b g s x2 := State.withLoader_keeps _ _
  exact .ite ((State.setFld_keeps _ _ _).after (hx2)) ((State.raise_keeps _ _ _ _ _).after (hx2))

theorem showTags_keeps {b g : Bool} (s : State) (k : Nat) :
    Keeps b g s (showTags s k) := by
  unfold showTags
  exact State.setFld_keeps _ _ _

theorem setReqs_keeps {b g : Bool} (s : State) (k : Nat) (qs : List AcycReq) :
    Keeps b g s (setReqs s k qs) := by
  unfold setReqs
  exact (showTags_keeps _ _).after (State.setRing_keeps _ _ _)

theorem dropLoads_keeps {b g : Bool} (s : State) (ring : Nat) (station : Nat) :
    Keeps b g s (dropLoads s ring station) := by
  unfold dropLoads
  exact setReqs_keeps _ _ _

theorem shadowReply_keeps {b g : Bool} (s : State) (ring : Nat) (station : Nat) (confirm : Bool) (status : Nat) (data : List Byte) :
    Keeps b g s (shadowReply s ring station confirm status data) := by
  unfold shadowReply
  split
  · exact .rfl
  · refine .ite ((endLoad_keeps _ _ _ _).after (dropLoads_keeps _ _ _)) ?_
    refine .ite (endLoad_keeps _ _ _ _) ?_
    refine .ite .rfl ?_
    extract_lets -underBinder -merge -useContext +onlyGivenNames x1
    have hx1 : Keeps b g s x1 := State.withLoader_keeps _ _
    exact (askStation_keeps _ _ _ _ _ _).after (hx1)

theorem deliverReply_keeps {b g : Bool} (s : State) (ring : Nat) (q : AcycReq) (f : AcycView) :
    Keeps b g s (deliverReply s ring q f) := by
  unfold deliverReply
  split
  · extract_lets -underBinder -merge -useContext +onlyGivenNames x1
    exact .ite (.ite (finishWaiting_keeps _ _ _ _ _) (finishWaiting_keeps _ _ _ _ _)) (finishWaiting_keeps _ _ _ _ _)
  · exact shadowReply_keeps _ _ _ _ _ _
  · exact .ite (State.withTime_keeps _ _) .rfl
  · refine .ite ?_ .rfl
    extract_lets -underBinder -merge -useContext +onlyGivenNames x2
    exact State.setRing_keeps _ _ _
  · exact .rfl
  · exact .rfl

theorem pulseTrigger_keeps {b g : Bool} (s : State) (c : Nat) :
    Keeps b g s (pulseTrigger s c) := by
  unfold pulseTrigger
  exact .ite .rfl (.ite (State.count_keeps _ _ _) (State.withDio_keeps _ _))

theorem deliverStart_keeps {b g : Bool} (s : State) (i : Nat) (target : Nat) (t : DWord) :
    Keeps b g s (deliverStart s i target t) := by
  unfold deliverStart
  extract_lets -underBinder -merge -useContext +onlyGivenNames x1
  have hx1 : Keeps b g s x1 := State.emit_keeps _ _
  try clear_value x1
  refine .ite ((startSequence_keeps _ _ _).after (hx1)) ?_
  refine .ite ?_ (.ite ((pulseTrigger_keeps _ _).after (hx1)) ((State.raise_keeps _ _ _ _ _).after (hx1)))
  extract_lets -underBinder -merge -useContext +onlyGivenNames x2
  exact .ite ((anaStart_keeps _ _ _).after (hx1)) (hx1)

theorem shadowTimeout_keeps {b g : Bool} (s : State) (ring : Nat) (station : Nat) :
    Keeps b g s (shadowTimeout s ring station) := by
  unfold shadowTimeout
  split
  · extract_lets -underBinder -merge -useContext +onlyGivenNames x1
    have hx1 : Keeps b g s x1 := dropLoads_keeps _ _ _
    try clear_value x1
    refine .ite ?_ ((endLoad_keeps _ _ _ _).after (hx1))
    extract_lets -underBinder -merge -useContext +onlyGivenNames x2
    have hx2 : Keeps b g s x2 := (State.withLoader_keeps _ _).after (hx1)
    exact (askLoad_keeps _ _).after (hx2)
  · exact .rfl

theorem deliverTimeout_keeps {b g : Bool} (s : State) (ring : Nat) (q : AcycReq) :
    Keeps b g s (deliverTimeout s ring q) := by
  unfold deliverTimeout
  split
  · exact finishWaiting_keeps _ _ _ _ _
  · exact shadowTimeout_keeps _ _ _
  · exact .rfl
  · exact .rfl
  · exact .rfl
  · exact State.withTime_keeps _ _

theorem pulseSafe_keeps {b g : Bool} (s : State) (c : Nat) :
    Keeps b g s (pulseSafe s c) := by
  unfold pulseSafe
  extract_lets -underBinder -merge -useContext +onlyGivenNames x1
  exact State.withDio_keeps _ _

theorem dioCommandOne_keeps {b g : Bool} (s : State) (c : Nat) :
    Keeps b g s (dioCommandOne s c) := by
  unfold dioCommandOne
  extract_lets -underBinder -merge -useContext +onlyGivenNames x1
  try clear_value x1
  extract_lets -underBinder -merge -useContext +onlyGivenNames x2
  subst x2
  beta_reduce
  extract_lets -underBinder -merge -useContext +onlyGivenNames x3
  try clear_value x3
  refine .ite .rfl ?_
  split
  · exact .rfl
  · split
    · refine .ite ?_ ?_
      · refine .ite ?_ ?_
        · refine (pulseSafe_keeps _ _).after ?_
          extract_lets -underBinder -merge -useContext +onlyGivenNames x4 x5 x6
          have hx6 : Keeps b g s x6 := State.withDio_keeps _ _
          exact (State.setFlag_keeps _ _ _).after ((State.setFlag_keeps _ _ _).after (hx6))
        · extract_lets -underBinder -merge -useContext +onlyGivenNames x7 x8 x9
          have hx9 : Keeps b g s x9 := State.withDio_keeps _ _
          exact (State.setFlag_keeps _ _ _).after ((State.setFlag_keeps _ _ _).after (hx9))
      · extract_lets -underBinder -merge -useContext +onlyGivenNames x10 x11 x12
        have hx12 : Keeps b g s x12 := (State.withDio_keeps _ _).after (State.withDio_keeps _ _)
        exact (State.setFlag_keeps _ _ _).after ((State.setFlag_keeps _ _ _).after (hx12))
    · extract_lets -underBinder -merge -useContext +onlyGivenNames x13 x14 x15
      have hx15 : Keeps b g s x15 := (State.withDio_keeps _ _).after (State.withDio_keeps _ _)
      exact (State.setFlag_keeps _ _ _).after ((State.setFlag_keeps _ _ _).after (hx15))

theorem showUp_keeps {b g : Bool} (s : State) (t : DWord) :
    Keeps b g s (showUp s t) := by
  unfold showUp
  exact State.setFlag_keeps _ _ _

theorem dioEdge_keeps {b g : Bool} (s : State) :
    Keeps b g s (dioEdge s) := by
  unfold dioEdge
  extract_lets -underBinder -merge -useContext +onlyGivenNames x1 x2 x3
  have hx1 : Keeps b g s x1 := showUp_keeps _ _
  have hx2 : Keeps b g s x2 := (State.withDio_keeps _ _).after (hx1)
  have hx3 : Keeps b g s x3 := by
    unfold x3
    try clear_value x1
    try clear_value x2
    refine .ite ((State.withDio_keeps _ _).after (hx2)) ?_
    split
    · exact hx2
    · exact (State.withDio_keeps _ _).after (hx2)
  exact .ite (.fold (fun _ _ => dioCommandOne_keeps _ _) (hx3)) (hx3)

theorem dropOutput_keeps {b g : Bool} (prev : State) (s : State) (c : Nat) :
    Keeps b g s (dropOutput prev s c) := by
  unfold dropOutput
  extract_lets -underBinder -merge -useContext +onlyGivenNames x1 x2
  try clear_value x1
  try clear_value x2
  refine .ite .rfl ?_
  extract_lets -underBinder -merge -useContext +onlyGivenNames x3
  exact State.withDio_keeps _ _

theorem dioFresh_keeps {b g : Bool} (prev : State) (s : State) :
    Keeps b g s (dioFresh prev s) := by
  unfold dioFresh
  extract_lets -underBinder -merge -useContext +onlyGivenNames x1
  have hx1 : Keeps b g s x1 := .fold (fun _ _ => dropOutput_keeps _ _ _) .rfl
  exact (State.withDio_keeps _ _).after (hx1)

theorem drainCopy_keeps {b g : Bool} (s : State) :
    Keeps b g s (drainCopy s) := by
  unfold drainCopy
  exact .fold (fun _ _ => copyUnit_keeps _) .rfl

theorem drainUnused_keeps {b g : Bool} (s : State) (old : Image) (new : Image) :
    Keeps b g s (drainUnused s old new) := by
  unfold drainUnused
  exact .fold (fun _ _ => requestOff_keeps _ _) .rfl

theorem dropArm_keeps {b g : Bool} (s : State) (code : Nat) :
    Keeps b g s (dropArm s code) := by
  unfold dropArm
  refine .ite ?_ .rfl
  extract_lets -underBinder -merge -useContext +onlyGivenNames x1 x2 x3
  have hx3 : Keeps b g s x3 := .upd .rfl
  try clear_value x1
  try clear_value x2
  try clear_value x3
  split
  · exact hx3
  · exact (finishWaiting_keeps _ _ _ _ _).after (hx3)

theorem dropRegs_keeps {b g : Bool} (s : State) (p : Nat → Bool) : Keeps b g s (dropRegs s p) :=
  ⟨rfl, Sparse.wf_filter _ _ _, id, ⟨[], rfl⟩, ⟨[], rfl⟩, fun _ => .inl rfl, fun _ => rfl, id, id⟩

theorem dualHold_keeps {b g : Bool} (s : State) (crown : Word) :
    Keeps b g s (dualHold s crown) := by
  unfold dualHold
  extract_lets -underBinder -merge -useContext +onlyGivenNames x1
  have hx1 : Keeps b g s x1 := .ite .rfl ((State.raise_keeps _ _ _ _ _).after (State.note_keeps _ _))
  exact .ite ((requestSafe_keeps _ _).after (hx1)) (hx1)

theorem endActivity_keeps {b g : Bool} (s : State) (code : Nat) (ok : Bool) :
    Keeps b g s (endActivity s code ok) := by
  unfold endActivity
  exact .upd .rfl

theorem endPairing_keeps {b g : Bool} (s : State) :
    Keeps b g s (endPairing s) := by
  unfold endPairing
  extract_lets -underBinder -merge -useContext +onlyGivenNames x1 x2 x3
  have hx1 : Keeps b g s x1 := State.withPair_keeps _ _
  have hx2 : Keeps b g s x2 := (State.setFld_keeps _ _ _).after (hx1)
  have hx3 : Keeps b g s x3 := .upd (hx2)
  exact (startQueuedSegment_keeps _).after (hx3)

theorem showSplitIdle_keeps {b g : Bool} (s : State) :
    Keeps b g s (showSplitIdle s) := by
  unfold showSplitIdle
  exact State.setFld_keeps _ _ _

theorem startQueuedVerdict_keeps {b g : Bool} (s : State) :
    Keeps b g s (startQueuedVerdict s) := by
  unfold startQueuedVerdict
  split
  · exact .rfl
  · exact (beginVerdict_keeps _ _).after ((runActivity_keeps _ _ _).after ((State.withCheck_keeps _ _).after (State.setFlag_keeps _ _ _)))

theorem endSplit_keeps {b g : Bool} (s : State) (pass : Bool) :
    Keeps b g s (endSplit s pass) := by
  unfold endSplit
  extract_lets -underBinder -merge -useContext +onlyGivenNames x1 x2 x3 x4 x5 x6
  have hx3 : Keeps b g s x3 := (State.setFlag_keeps _ _ _).after ((State.setFld_keeps _ _ _).after (State.setFlag_keeps _ _ _))
  have hx4 : Keeps b g s x4 := (showSplitIdle_keeps _).after ((endActivity_keeps _ _ _).after (hx3))
  have hx5 : Keeps b g s x5 := (State.withCheck_keeps _ _).after (hx4)
  have hx6 : Keeps b g s x6 := .ite ((forgetMember_keeps _ _ _).after ((forgetMember_keeps _ _ _).after (hx5))) ((State.setFlag_keeps _ _ _).after (hx5))
  exact (startQueuedVerdict_keeps _).after ((State.strait_keeps _ _ _ _).after ((State.raise_keeps _ _ _ _ _).after (hx6)))

theorem startStore_keeps {b g : Bool} (s : State) :
    Keeps b g s (startStore s) := by
  unfold startStore
  exact .ite .rfl (beginStore_keeps _ _)

theorem endStore_keeps {b g : Bool} (s : State) (b' : Nat) :
    Keeps b g s (endStore s b') := by
  unfold endStore
  extract_lets -underBinder -merge -useContext +onlyGivenNames x1
  have hx1 : Keeps b g s x1 := (showBank_keeps _ _).after ((State.withLoader_keeps _ _).after (storeStep_keeps _ _))
  exact .ite ((startStore_keeps _).after (hx1)) (hx1)

theorem prepareLayout_keeps {g : Bool} (s : State) (im : Image) :
    Keeps false g s (prepareLayout s im) := by
  unfold prepareLayout
  extract_lets -underBinder -merge -useContext +onlyGivenNames x1
  have hx1 : Keeps false g s x1 := ownerStart_keeps _ _
  exact .ite ((stopChannel_keeps _ _).after (hx1)) ((ownerDone_keeps _ _).after ((layOut_keeps _ _).after (hx1)))

theorem startLoad_keeps {b g : Bool} (s : State) (x : StationRec) :
    Keeps b g s (startLoad s x) := by
  unfold startLoad
  exact (askLoad_keeps _ _).after (State.withLoader_keeps _ _)

theorem loadRingShadows_keeps {b g : Bool} (s : State) (k : Nat) :
    Keeps b g s (loadRingShadows s k) := by
  unfold loadRingShadows
  split
  · exact .rfl
  · exact .ite (.fold (fun _ _ => .ite .rfl (startLoad_keeps _ _)) .rfl) .rfl

theorem enterArmed_keeps {g : Bool} (s : State) (planned : DWord) :
    Keeps false g s (enterArmed s planned) := by
  unfold enterArmed
  split
  · exact .rfl
  · extract_lets -underBinder -merge -useContext +onlyGivenNames x1 x2 x3 x6 x7
    have hx1 : Keeps false g s x1 := (State.setDword_keeps _ _ _).after ((State.setFld_keeps _ _ _).after (State.setFld_keeps _ _ _))
    have hx2 : Keeps false g s x2 := (State.withLoader_keeps _ _).after (hx1)
    have hx3 : Keeps false g s x3 := .fold (fun _ _ => State.setFld_keeps _ _ _) (hx2)
    have hx6 : Keeps false g s x6 := .ite ((setReference_keeps _ _).after (hx3)) (hx3)
    have hx7 : Keeps false g s x7 := (prepareLayout_keeps _ _).after (.fold (fun _ _ => requestOn_keeps _ _) (hx6))
    exact .fold (fun _ _ => .ite (loadRingShadows_keeps _ _) .rfl) (hx7)

theorem enterHoldover_keeps {b g : Bool} (s : State) :
    Keeps b g s (enterHoldover s) := by
  unfold enterHoldover
  split
  · exact .rfl
  · extract_lets -underBinder -merge -useContext +onlyGivenNames x1 x2
    have hx1 : Keeps b g s x1 := (State.note_keeps _ _).after (State.setFlag_keeps _ _ _)
    have hx2 : Keeps b g s x2 := (State.raise_keeps _ _ _ _ _).after (hx1)
    exact (State.withTime_keeps _ _).after ((State.setFld_keeps _ _ _).after (hx2))

theorem voidSwap_keeps {b g : Bool} (s : State) :
    Keeps b g s (voidSwap s) := by
  unfold voidSwap
  extract_lets -underBinder -merge -useContext +onlyGivenNames x1 x2
  have hx2 : Keeps b g s x2 := State.withPair_keeps _ _
  try clear_value x1
  try clear_value x2
  split
  · exact hx2
  · extract_lets -underBinder -merge -useContext +onlyGivenNames x3
    exact (finishWaiting_keeps _ _ _ _ _).after (hx2)

theorem enterSafe_keeps {b g : Bool} (s : State) (cause : Nat) :
    Keeps b g s (enterSafe s cause) := by
  unfold enterSafe
  extract_lets -underBinder -merge -useContext +onlyGivenNames x1
  have hx1 : Keeps b g s x1 := (State.withPair_keeps _ _).after ((endPairing_keeps _).after ((voidSwap_keeps _).after (dropArm_keeps _ _)))
  exact (State.become_keeps _ _ _).after ((State.setFlag_keeps _ _ _).after (.upd (hx1)))

theorem entryResult_keeps {b g : Bool} (s : State) (e : FastEntry) (got : List Int) (t : DWord) :
    Keeps b g s (entryResult s e got t) := by
  unfold entryResult
  extract_lets -underBinder -merge -useContext +onlyGivenNames x1 x2
  try clear_value x1
  try clear_value x2
  refine .ite .rfl ?_
  extract_lets -underBinder -merge -useContext +onlyGivenNames x3
  subst x3
  beta_reduce
  extract_lets -underBinder -merge -useContext +onlyGivenNames x4
  subst x4
  beta_reduce
  extract_lets -underBinder -merge -useContext +onlyGivenNames x5 x6 x7 x8 x9 x10 x11 x12 x13 x14 x15 x16 x17
  have hx16 : Keeps b g s x16 := State.setAna_keeps _ _ _
  have hx17 : Keeps b g s x17 := (State.setFlag_keeps _ _ _).after (hx16)
  exact .ite ((showBand_keeps _ _ _).after (hx17)) (hx17)

theorem putSettings_keeps {b g : Bool} (s : State) (c : Nat) (x : Word × Word × Word) :
    Keeps b g s (putSettings s c x) := by
  unfold putSettings
  exact (State.setReg_keeps _ _ _).after ((State.setReg_keeps _ _ _).after (State.setReg_keeps _ _ _))

theorem entryResultAcross_keeps {b g : Bool} (s : State) (g' : Nat) (e : FastEntry) (got : List Int) (t : DWord) :
    Keeps b g s (entryResultAcross s g' e got t) := by
  unfold entryResultAcross
  split
  · exact entryResult_keeps _ _ _ _
  · extract_lets -underBinder -merge -useContext +onlyGivenNames x1 x2
    have hx2 : Keeps b g s x2 := putSettings_keeps _ _ _
    exact .ite ((putSettings_keeps _ _ _).after ((entryResult_keeps _ _ _ _).after (hx2))) .rfl

theorem epochRefuse_keeps {b g : Bool} (s : State) (h : StraitHdr) (type : Nat) (request : Bool) :
    Keeps b g s (epochRefuse s h type request) := by
  unfold epochRefuse
  extract_lets -underBinder -merge -useContext +onlyGivenNames x1
  have hx1 : Keeps b g s x1 := State.count_keeps _ _ _
  try clear_value x1
  refine .ite ?_ (hx1)
  extract_lets -underBinder -merge -useContext +onlyGivenNames x2
  have hx2 : Keeps b g s x2 := (State.note_keeps _ _).after (hx1)
  exact .ite ((State.straitReply_keeps _ _ _ _).after (hx2)) (hx2)

theorem sendStatus_keeps {b g : Bool} (s : State) (n : DWord) :
    Keeps b g s (sendStatus s n) := by
  unfold sendStatus
  refine .ite .rfl ?_
  refine .fold ?_ .rfl
  intro s1 a2
  refine .ite ?_ .rfl
  extract_lets -underBinder -merge -useContext +onlyGivenNames x3
  have hx3 : Keeps b g s1 x3 := State.emit_keeps _ _
  exact .upd (hx3)

theorem sampleLines_keeps {b g : Bool} (s : State) (e : EdgeIn) :
    Keeps b g s (sampleLines s e) := by
  unfold sampleLines
  extract_lets -underBinder -merge -useContext +onlyGivenNames x1 x2 x3
  have hx1 : Keeps b g s x1 := State.setFlag_keeps _ _ _
  have hx2 : Keeps b g s x2 := (State.setFlag_keeps _ _ _).after ((State.setFlag_keeps _ _ _).after (hx1))
  exact (State.emit_keeps _ _).after ((State.withPair_keeps _ _).after (hx2))

theorem verdictTick_keeps {b g : Bool} (s : State) :
    Keeps b g s (verdictTick s) := by
  unfold verdictTick
  split
  · exact .rfl
  · extract_lets -underBinder -merge -useContext +onlyGivenNames x1
    exact .ite (State.withCheck_keeps _ _) (.ite (State.withCheck_keeps _ _) .rfl)

theorem splitTick_keeps {b g : Bool} (s : State) :
    Keeps b g s (splitTick s) := by
  unfold splitTick
  split
  · exact .rfl
  · extract_lets -underBinder -merge -useContext +onlyGivenNames x1
    exact (State.setFld_keeps _ _ _).after (State.setFld_keeps _ _ _)

theorem sendIdle_keeps {b g : Bool} (s : State) (k : Nat) (first : Nat) (last : Nat) :
    Keeps b g s (sendIdle s k first last) := by
  unfold sendIdle
  exact .fold (fun _ _ => State.emit_keeps _ _) .rfl

theorem sendTrain_keeps {b g : Bool} (s : State) (k : Nat) :
    Keeps b g s (sendTrain s k) := by
  unfold sendTrain
  refine .ite ?_ .rfl
  extract_lets -underBinder -merge -useContext +onlyGivenNames x1 x2
  have hx2 : Keeps b g s x2 := sendIdle_keeps _ _ _ _
  exact .ite (.fold (fun _ _ => State.emit_keeps _ _) (hx2)) (hx2)

theorem sendFrames_keeps {b g : Bool} (s : State) (im : Image) (r : RingRec) :
    Keeps b g s (sendFrames s im r) := by
  unfold sendFrames
  extract_lets -underBinder -merge -useContext +onlyGivenNames x1
  try clear_value x1
  refine .ite ?_ .rfl
  extract_lets -underBinder -merge -useContext +onlyGivenNames x2 x3
  try clear_value x2
  try clear_value x3
  extract_lets -underBinder -merge -useContext +onlyGivenNames x4
  subst x4
  exact .fold (fun _ _ => State.emit_keeps _ _) .rfl

theorem sendTrains_keeps {b g : Bool} (s : State) :
    Keeps b g s (sendTrains s) := by
  unfold sendTrains
  extract_lets -underBinder -merge -useContext +onlyGivenNames x1
  have hx1 : Keeps b g s x1 := .fold (fun _ _ => sendTrain_keeps _ _) .rfl
  try clear_value x1
  split
  · exact hx1
  · exact .fold (fun _ _ => sendFrames_keeps _ _ _) (hx1)

theorem readStraps_keeps {b g : Bool} (s : State) (codes : List Nat) :
    Keeps b g s (readStraps s codes) := by
  unfold readStraps
  refine .fold ?_ .rfl
  intro s1 a2
  extract_lets -underBinder -merge -useContext +onlyGivenNames x3 x4 x5
  have hx5 : Keeps b g s1 x5 := State.setReg_keeps _ _ _
  try clear_value x3
  try clear_value x4
  try clear_value x5
  refine .ite ?_ (hx5)
  extract_lets -underBinder -merge -useContext +onlyGivenNames x6 x7 x8 x9
  have hx8 : Keeps b g s1 x8 := (State.setFlag_keeps _ _ _).after (hx5)
  have hx9 : Keeps b g s1 x9 := (State.setFlag_keeps _ _ _).after (hx8)
  exact .ite ((State.raise_keeps _ _ _ _ _).after (hx9)) (hx9)

theorem mappedOne_keeps {b g : Bool} (s : State) (b' : Nat) (i : Nat) :
    Keeps b g s (mappedOne s b' i) := by
  unfold mappedOne
  extract_lets -underBinder -merge -useContext +onlyGivenNames x1
  try clear_value x1
  refine .ite ?_ .rfl
  split
  · exact .rfl
  · exact .ite .rfl (.ite (State.setCan_keeps _ _ _) (.ite ((mapData_keeps _ _ _ _).after (State.setCan_keeps _ _ _)) ((txRequest_keeps _ _ _).after (mapData_keeps _ _ _ _))))

theorem mappedRequests_keeps {b g : Bool} (s : State) :
    Keeps b g s (mappedRequests s) := by
  unfold mappedRequests
  exact .ite (.fold (fun _ _ => .ite (.fold (fun _ _ => mappedOne_keeps _ _ _) .rfl) .rfl) .rfl) .rfl

theorem latchStamps_keeps {b g : Bool} (s : State) (counts : List DWord) :
    Keeps b g s (latchStamps s counts) := by
  unfold latchStamps
  exact .fold (fun _ _ => .ite ((State.setDword_keeps _ _ _).after (State.setDword_keeps _ _ _)) .rfl) .rfl

theorem sampleLocal_keeps {b g : Bool} (s : State) (station : Nat → Bool) :
    Keeps b g s (sampleLocal s station) := by
  unfold sampleLocal
  extract_lets -underBinder -merge -useContext +onlyGivenNames x1
  exact .upd .rfl

theorem unitsEdge_keeps {b g : Bool} (s : State) (e : EdgeIn) :
    Keeps b g s (unitsEdge s e) := by
  unfold unitsEdge
  extract_lets -underBinder -merge -useContext +onlyGivenNames x1 x4 x5 x6 x9 x10 x11
  have hx1 : Keeps b g s x1 := .fold (fun _ _ => adoptResult_keeps _ _ _) .rfl
  have hx5 : Keeps b g s x5 := .ite ((readStraps_keeps _ _).after (hx1)) (hx1)
  have hx6 : Keeps b g s x6 := (dioEdge_keeps _).after (.fold (fun _ _ => applyOutput_keeps _ _ _) (hx5))
  have hx9 : Keeps b g s x9 := (mappedRequests_keeps _).after ((latchStamps_keeps _ _).after (hx6))
  have hx10 : Keeps b g s x10 := (State.setFld_keeps _ _ _).after (hx9)
  have hx11 : Keeps b g s x11 := .fold (fun _ _ => cycleStarts_keeps _ _) (hx10)
  exact (sampleLocal_keeps _ _).after (hx11)

theorem queueStampReads_keeps {b g : Bool} (s : State) :
    Keeps b g s (queueStampReads s) := by
  unfold queueStampReads
  split
  · exact .rfl
  · extract_lets -underBinder -merge -useContext +onlyGivenNames x1 x2
    have hx2 : Keeps b g s x2 := State.withTime_keeps _ _
    exact .fold (fun _ _ => askStation_keeps _ _ _ _ _ _) (hx2)

theorem newHolder_keeps {b g : Bool} (s : State) (before : Word) :
    Keeps b g s (newHolder s before) := by
  unfold newHolder
  exact .ite (.fold (fun _ _ => .ite (loadRingShadows_keeps _ _) .rfl) .rfl) .rfl

theorem expireRequests_keeps {b g : Bool} (s : State) (k : Nat) :
    Keeps b g s (expireRequests s k) := by
  unfold expireRequests
  extract_lets -underBinder -merge -useContext +onlyGivenNames x1
  exact .ite .rfl (.fold (fun _ _ => deliverTimeout_keeps _ _ _) (setReqs_keeps _ _ _))

theorem runEdge_keeps {b g : Bool} (s : State) (e : EdgeIn) (n : DWord) :
    Keeps b g s (runEdge s e n) := by
  unfold runEdge
  extract_lets -underBinder -merge -useContext +onlyGivenNames x1 x2 x3 x4 x5 x6 x7 x8 x9 x10
  have hx2 : Keeps b g s x2 := (State.window_keeps _ _).after ((State.setNow_keeps _ _ _).after (State.setDword_keeps _ _ _))
  have hx3 : Keeps b g s x3 := (State.setReg_keeps _ _ _).after ((clearTick_keeps _).after ((countCommit_keeps _).after (hx2)))
  have hx4 : Keeps b g s x4 := (sendStatus_keeps _ _).after ((sampleLines_keeps _ _).after (hx3))
  have hx5 : Keeps b g s x5 := (verdictTick_keeps _).after ((splitTick_keeps _).after (hx4))
  have hx6 : Keeps b g s x6 := .ite ((classEdge_keeps _).after (hx5)) (hx5)
  have hx7 : Keeps b g s x7 := (sendTrains_keeps _).after (hx6)
  have hx8 : Keeps b g s x8 := (unitsEdge_keeps _ _).after (hx7)
  have hx9 : Keeps b g s x9 := .ite (hx8) (.upd (hx8))
  have hx10 : Keeps b g s x10 := .ite ((queueStampReads_keeps _).after (hx9)) (hx9)
  exact (newHolder_keeps _ _).after ((armTimeout_keeps _).after (.fold (fun _ _ => expireRequests_keeps _ _) (hx10)))

theorem flushCopy_keeps {g : Bool} (s : State) (copyB : Bool) (units : List (Nat × List Byte)) (tick : Word) :
    Keeps false g s (flushCopy s copyB units tick) := by
  unfold flushCopy
  exact .fold (fun _ _ => State.storeMem_keeps _ _ _) .rfl

theorem flushFirst_keeps {g : Bool} (s : State) :
    Keeps false g s (flushFirst s) := by
  unfold flushFirst
  split
  · exact .rfl
  · refine .ite ?_ .rfl
    extract_lets -underBinder -merge -useContext +onlyGivenNames x1
    have hx1 : Keeps false g s x1 := flushCopy_keeps _ _ _ _
    exact .upd (hx1)

theorem idleEdge_keeps {b g : Bool} (s : State) (e : EdgeIn) (n : DWord) :
    Keeps b g s (idleEdge s e n) := by
  unfold idleEdge
  extract_lets -underBinder -merge -useContext +onlyGivenNames x1 x2 x3
  have hx1 : Keeps b g s x1 := (State.setReg_keeps _ _ _).after (State.setFld_keeps _ _ _)
  have hx2 : Keeps b g s x2 := (State.setNow_keeps _ _ _).after ((State.setReg_keeps _ _ _).after (hx1))
  have hx3 : Keeps b g s x3 := (latchStamps_keeps _ _).after (.fold (fun _ _ => sendTrain_keeps _ _) ((sendStatus_keeps _ _).after ((sampleLines_keeps _ _).after (hx2))))
  exact .ite (hx3) (.fold (fun _ _ => applyOutput_keeps _ _ _) (hx3))

theorem execTickEdge_keeps {g : Bool} (e : EdgeIn) (s : State) :
    KeepsO false g s (execTickEdge e s) := by
  unfold execTickEdge
  exact .next (.ite .rfl (.ite (resetModule_keeps _ _) (.ite ((runEdge_keeps _ _ _).after (flushFirst_keeps _)) (.ite ((runEdge_keeps _ _ _).after ((armImageTriggers_keeps _).after ((State.setNow_keeps _ _ _).after (State.setFlag_keeps _ _ _)))) (idleEdge_keeps _ _ _)))))

theorem forwardCells_keeps {b g : Bool} (s : State) (k : Nat) (odd : Bool) (cells : List (Option (List Byte))) :
    Keeps b g s (forwardCells s k odd cells) := by
  unfold forwardCells
  split
  · exact .rfl
  · exact State.emit_keeps _ _

theorem loseLock_keeps {b g : Bool} (s : State) (ring : Nat) (port : Nat) :
    Keeps b g s (loseLock s ring port) := by
  unfold loseLock
  exact (State.raise_keeps _ _ _ _ _).after ((State.count_keeps _ _ _).after (State.setFld_keeps _ _ _))

theorem receiveCells_keeps {b g : Bool} (s : State) (k : Nat) (odd : Bool) (missed : Nat) (bad : Nat) (lockLost : Bool) :
    Keeps b g s (receiveCells s k odd missed bad lockLost) := by
  unfold receiveCells
  extract_lets -underBinder -merge -useContext +onlyGivenNames x1
  have hx1 : Keeps b g s x1 := (State.count_keeps _ _ _).after (State.count_keeps _ _ _)
  exact .ite ((loseLock_keeps _ _ _).after (hx1)) (hx1)

theorem showReturn_keeps {b g : Bool} (s : State) (k : Nat) (retNs : Nat) (f : FrameView) :
    Keeps b g s (showReturn s k retNs f) := by
  unfold showReturn
  extract_lets -underBinder -merge -useContext +onlyGivenNames x1 x2 x3 x4 x5 x6 x7 x8 x9
  have hx4 : Keeps b g s x4 := State.setFld_keeps _ _ _
  have hx5 : Keeps b g s x5 := (State.setFld_keeps _ _ _).after (hx4)
  have hx6 : Keeps b g s x6 := (State.setFlag_keeps _ _ _).after ((State.setFld_keeps _ _ _).after (hx5))
  have hx7 : Keeps b g s x7 := (State.setFlag_keeps _ _ _).after (hx6)
  have hx8 : Keeps b g s x8 := (State.setFld_keeps _ _ _).after (hx7)
  have hx9 : Keeps b g s x9 := .ite ((State.raise_keeps _ _ _ _ _).after (hx8)) (hx8)
  exact (State.setRing_keeps _ _ _).after (hx9)

theorem sendCard_keeps {b g : Bool} (s : State) (k : Nat) :
    Keeps b g s (sendCard s k) := by
  unfold sendCard
  refine .ite ?_ .rfl
  extract_lets -underBinder -merge -useContext +onlyGivenNames x1 x2 x3 x4 x5
  have hx5 : Keeps b g s x5 := State.straitOn_keeps _ _ _ _ _ _
  exact (State.setRing_keeps _ _ _).after (hx5)

theorem takeFrame_keeps {b g : Bool} (s : State) (k : Nat) (own : Bool) (blocks : List (Nat × List Byte)) :
    Keeps b g s (takeFrame s k own blocks) := by
  unfold takeFrame
  extract_lets -underBinder -merge -useContext +onlyGivenNames x1 x2
  have hx2 : Keeps b g s x2 := State.setRing_keeps _ _ _
  try clear_value x1
  try clear_value x2
  refine .ite ?_ (hx2)
  extract_lets -underBinder -merge -useContext +onlyGivenNames x3
  have hx3 : Keeps b g s x3 := by
    unfold x3
    refine .fold ?_ (hx2)
    intro s4 a5
    split
    · exact takeBlock_keeps _ _ _
    · exact .rfl
  exact .ite ((sendCard_keeps _ _).after (hx3)) (hx3)

theorem useFrame_keeps {b g : Bool} (s : State) (k : Nat) (odd : Bool) (retNs : Nat) (parityBad : List Nat) (f : FrameView) :
    Keeps b g s (useFrame s k odd retNs parityBad f) := by
  unfold useFrame
  refine .ite .rfl ?_
  split
  · exact (State.raise_keeps _ _ _ _ _).after (State.setFld_keeps _ _ _)
  · exact .rfl
  · refine .ite .rfl ?_
    extract_lets -underBinder -merge -useContext +onlyGivenNames x1
    have hx1 : Keeps b g s x1 := showReturn_keeps _ _ _ _
    exact .ite ((takeFrame_keeps _ _ _ _).after (hx1)) (hx1)
  · exact .ite (takeFrame_keeps _ _ _ _) .rfl

theorem execCyclicFrame_keeps {b g : Bool} (ring : Nat) (f : CyclicFrame) (s : State) :
    KeepsO b g s (execCyclicFrame ring f s) := by
  unfold execCyclicFrame
  refine .next ?_
  refine .ite ?_ .rfl
  extract_lets -underBinder -merge -useContext +onlyGivenNames x1 x2 x3
  have hx2 : Keeps b g s x2 := forwardCells_keeps _ _ _ _
  have hx3 : Keeps b g s x3 := (receiveCells_keeps _ _ _ _ _ _).after (hx2)
  exact .ite ((useFrame_keeps _ _ _ _ _ _).after (hx3)) (hx3)

theorem execLock_keeps {b g : Bool} (ring : Nat) (port : Nat) (s : State) :
    KeepsO b g s (execLock ring port s) := by
  unfold execLock
  exact .next (.ite .rfl (State.setFld_keeps _ _ _))

theorem execLockLoss_keeps {b g : Bool} (ring : Nat) (port : Nat) (s : State) :
    KeepsO b g s (execLockLoss ring port s) := by
  unfold execLockLoss
  exact .next (.ite ((loseLock_keeps _ _ _).after (State.count_keeps _ _ _)) .rfl)

theorem sendFinal_keeps {b g : Bool} (s : State) :
    Keeps b g s (sendFinal s) := by
  unfold sendFinal
  refine .ite ?_ .rfl
  extract_lets -underBinder -merge -useContext +onlyGivenNames x1
  have hx1 : Keeps b g s x1 := .ite ((drainCopy_keeps _).after (queueCopy_keeps _ _)) (resyncFail_keeps _ _)
  exact .ite ((State.withResync_keeps _ _).after ((State.straitFor_keeps _ _ _ _ _ _ _).after (hx1))) (hx1)

theorem ringLate_keeps {b g : Bool} (s : State) (k : Nat) :
    Keeps b g s (ringLate s k) := by
  unfold ringLate
  extract_lets -underBinder -merge -useContext +onlyGivenNames x1
  try clear_value x1
  refine .ite .rfl ?_
  extract_lets -underBinder -merge -useContext +onlyGivenNames x2 x3
  have hx2 : Keeps b g s x2 := .ite .rfl (State.setFld_keeps _ _ _)
  exact (State.raise_keeps _ _ _ _ _).after ((State.note_keeps _ _).after ((State.setFld_keeps _ _ _).after (hx2)))

theorem ringDeadline_keeps {b g : Bool} (s : State) (k : Nat) :
    Keeps b g s (ringDeadline s k) := by
  unfold ringDeadline
  extract_lets -underBinder -merge -useContext +onlyGivenNames x1
  have hx1 : Keeps b g s x1 := ringLate_keeps _ _
  exact .ite ((judgeRing_keeps _ _ _ _).after ((sendCard_keeps _ _).after (hx1))) (hx1)

theorem execRingDeadline_keeps {b g : Bool} (s : State) :
    KeepsO b g s (execRingDeadline s) := by
  unfold execRingDeadline
  refine .ite ?_ (.next .rfl)
  extract_lets -underBinder -merge -useContext +onlyGivenNames x1
  have hx1 : Keeps b g s x1 := (sendFinal_keeps _).after ((State.window_keeps _ _).after (State.at_keeps _ _))
  exact .ite (.next ((cardLocal_keeps _).after ((sampleLocal_keeps _ _).after (.fold (fun _ _ => ringDeadline_keeps _ _) (hx1))))) (.next (.fold (fun _ _ => .ite (ringLate_keeps _ _) .rfl) (hx1)))

theorem noteGap_keeps {b g : Bool} (s : State) (h : StraitHdr) :
    Keeps b g s (noteGap s h) := by
  unfold noteGap
  exact .ite (State.withResync_keeps _ _) .rfl

theorem onMsg_keeps {b g : Bool} {s t : State} {h : StraitHdr} {type : Nat} {k : MsgKind} {request : Bool}
    {f : State → State} (ht : Keeps b g s t) (hf : ∀ x, Keeps b g s x → Keeps b g s (f x)) :
    Keeps b g s (onMsg t h type k request f) := by
  unfold onMsg
  extract_lets y x
  have hx : Keeps b g s x := (State.withPair_keeps _ _).after ((noteGap_keeps _ _).after ht)
  clear_value x
  exact Keeps.ite (hf _ hx) ((epochRefuse_keeps _ _ _ _).after hx)

theorem execCard_keeps {b g : Bool} (h : StraitHdr) (ring : Nat) (mask : DWord) (bytes : List Byte) (s : State) :
    KeepsO b g s (execCard h ring mask bytes s) := by
  unfold execCard
  exact .next (onMsg_keeps .rfl (fun u1 hu1 => .ite ((adoptCard_keeps _ _ _ _).after (hu1)) (hu1)))

theorem refreshInputs_keeps {b g : Bool} (s : State) :
    Keeps b g s (refreshInputs s) := by
  unfold refreshInputs
  refine .fold ?_ .rfl
  intro s1 a2
  extract_lets -underBinder -merge -useContext +onlyGivenNames x3
  exact (State.touch_keeps _ _).after (State.setCls_keeps _ _ _)

theorem execCarding_keeps {b g : Bool} (s : State) :
    KeepsO b g s (execCarding s) := by
  unfold execCarding
  refine .ite ?_ (.next .rfl)
  extract_lets -underBinder -merge -useContext +onlyGivenNames x1 x2 x3
  have hx1 : Keeps b g s x1 := State.at_keeps _ _
  have hx2 : Keeps b g s x2 := .ite ((cardingOwn_keeps _).after (hx1)) (hx1)
  have hx3 : Keeps b g s x3 := (State.withPair_keeps _ _).after (hx2)
  exact .next (.ite ((refreshInputs_keeps _).after (hx3)) (hx3))

theorem execComputeWindow_keeps {b g : Bool} (s : State) :
    KeepsO b g s (execComputeWindow s) := by
  unfold execComputeWindow
  refine .ite ?_ (.next .rfl)
  extract_lets -underBinder -merge -useContext +onlyGivenNames x1
  have hx1 : Keeps b g s x1 := (State.window_keeps _ _).after (State.at_keeps _ _)
  exact .ite (.next (.fold (fun _ _ => (dispatchCore_keeps _ _).after (State.setCore_keeps _ _ _)) (hx1))) (.next (hx1))

theorem execSliceEnd_keeps {b g : Bool} (core : Nat) (s : State) :
    KeepsO b g s (execSliceEnd core s) := by
  unfold execSliceEnd
  split
  · exact .next .rfl
  · extract_lets -underBinder -merge -useContext +onlyGivenNames x1
    exact .ite (.next .rfl) (.next ((dispatchCore_keeps _ _).after (State.setCore_keeps _ _ _)))

theorem showMaster_keeps {b g : Bool} (s : State) (i : Nat) :
    Keeps b g s (showMaster s i) := by
  unfold showMaster
  extract_lets -underBinder -merge -useContext +onlyGivenNames x1 x2
  have hx2 : Keeps b g s x2 := (State.setFlag_keeps _ _ _).after (State.setFld_keeps _ _ _)
  exact (State.setDword_keeps _ _ _).after ((State.setDword_keeps _ _ _).after (hx2))

theorem masterPass_keeps {b g : Bool} (faults : LaneFaults) (s : State) (e : Nat × MasterRec) :
    Keeps b g s (masterPass faults s e) := by
  unfold masterPass
  split
  refine .ite ((showMaster_keeps _ _).after ((State.setMaster_keeps _ _ _).after (laneMismatch_keeps _ _))) ?_
  extract_lets -underBinder -merge -useContext +onlyGivenNames x1 x2 x3
  have hx3 : Keeps b g s x3 := by
    unfold x3
    try clear_value x1
    try clear_value x2
    split
    · exact .rfl
    · exact (State.raise_keeps _ _ _ _ _).after (State.note_keeps _ _)
  exact (showMaster_keeps _ _).after ((State.setMaster_keeps _ _ _).after (hx3))

theorem groupStop_keeps {b g : Bool} (s : State) (i : Nat) (a : AxisRec) :
    Keeps b g s (groupStop s i a) := by
  unfold groupStop
  split
  · exact .rfl
  · split
    · exact .rfl
    · refine .ite ?_ (State.setMaster_keeps _ _ _)
      extract_lets -underBinder -merge -useContext +onlyGivenNames x1 x2
      have hx2 : Keeps b g s x2 := .ite .rfl (State.raise_keeps _ _ _ _ _)
      exact .fold (fun _ _ => State.setAxis_keeps _ _ _) (hx2)

theorem shaftPass_keeps {b g : Bool} (s : State) (im : Image) (faults : LaneFaults) :
    Keeps b g s (shaftPass s im faults) := by
  unfold shaftPass
  extract_lets -underBinder -merge -useContext +onlyGivenNames x1 x2 x5 x6
  have hx2 : Keeps b g s x2 := .fold (fun _ _ => masterPass_keeps _ _ _) .rfl
  have hx6 : Keeps b g s x6 := .fold (fun _ _ => axisPass_keeps _ _ _ _) (hx2)
  exact (State.markPages_keeps _ _).after (.fold (fun _ _ => groupStop_keeps _ _ _) (hx6))

theorem execEnginePass_keeps {b g : Bool} (laneFaults : LaneFaults) (s : State) :
    KeepsO b g s (execEnginePass laneFaults s) := by
  unfold execEnginePass
  refine .ite ?_ (.next .rfl)
  extract_lets -underBinder -merge -useContext +onlyGivenNames x1 x2 x3 x4
  have hx1 : Keeps b g s x1 := State.at_keeps _ _
  have hx3 : Keeps b g s x3 := .ite ((State.note_keeps _ _).after (hx1)) (hx1)
  have hx4 : Keeps b g s x4 := (State.withPair_keeps _ _).after (hx3)
  try clear_value x1
  try clear_value x2
  try clear_value x3
  try clear_value x4
  split
  · exact .next (hx4)
  · exact .next ((shaftPass_keeps _ _ _).after (hx4))

theorem stopCore_keeps {b g : Bool} (s : State) (j : Nat) :
    Keeps b g s (stopCore s j) := by
  unfold stopCore
  extract_lets -underBinder -merge -useContext +onlyGivenNames x1 x2
  exact (State.setCore_keeps _ _ _).after (State.setFld_keeps _ _ _)

theorem execComputeStop_keeps {b g : Bool} (s : State) :
    KeepsO b g s (execComputeStop s) := by
  unfold execComputeStop
  refine .ite ?_ (.next .rfl)
  extract_lets -underBinder -merge -useContext +onlyGivenNames x1
  have hx1 : Keeps b g s x1 := (State.window_keeps _ _).after (State.at_keeps _ _)
  try clear_value x1
  refine .ite ?_ (.next (hx1))
  extract_lets -underBinder -merge -useContext +onlyGivenNames x2 x5 x6 x7 x8
  have hx2 : Keeps b g s x2 := .fold (fun _ _ => stopCore_keeps _ _) (hx1)
  have hx8 : Keeps b g s x8 := (State.withPair_keeps _ _).after (hx2)
  exact .next ((State.strait_keeps _ _ _ _).after (hx8))

theorem retainedSnapshot_keeps {b g : Bool} (s : State) :
    Keeps b g s (retainedSnapshot s) := by
  unfold retainedSnapshot
  refine .ite .rfl ?_
  extract_lets -underBinder -merge -useContext +onlyGivenNames x1 x2
  have hx2 : Keeps b g s x2 := State.setFlag_keeps _ _ _
  exact .upd (hx2)

theorem freeze_keeps {b g : Bool} (s : State) :
    Keeps b g s (freeze s) := by
  unfold freeze
  split
  extract_lets -underBinder -merge -useContext +onlyGivenNames x1 x2 x3 x4 x5 x6
  have hx1 : Keeps b g s x1 := commitClasses_keeps _ _
  have hx2 : Keeps b g s x2 := .upd (hx1)
  have hx4 : Keeps b g s x4 := (State.withPair_keeps _ _).after (hx2)
  have hx6 : Keeps b g s x6 := (State.strait_keeps _ _ _ _).after ((State.setDword_keeps _ _ _).after (hx4))
  exact (retainedSnapshot_keeps _).after (hx6)

theorem execOutputImageFreeze_keeps {b g : Bool} (s : State) :
    KeepsO b g s (execOutputImageFreeze s) := by
  unfold execOutputImageFreeze
  refine .ite ?_ (.next .rfl)
  extract_lets -underBinder -merge -useContext +onlyGivenNames x1 x2
  have hx1 : Keeps b g s x1 := State.at_keeps _ _
  have hx2 : Keeps b g s x2 := .ite ((freeze_keeps _).after (hx1)) (hx1)
  exact .next ((State.withPower_keeps _ _).after (hx2))

theorem flushDone_keeps {g : Bool} (s : State) :
    Keeps false g s (flushDone s) := by
  unfold flushDone
  split
  · exact .rfl
  · extract_lets -underBinder -merge -useContext +onlyGivenNames x1 x2 x3
    have hx1 : Keeps false g s x1 := (flushCopy_keeps _ _ _ _).after (flushFirst_keeps _)
    have hx2 : Keeps false g s x2 := .upd (hx1)
    have hx3 : Keeps false g s x3 := (State.setFlag_keeps _ _ _).after (hx2)
    exact .upd (hx3)

theorem execRetainedFlushDone_keeps {g : Bool} (s : State) :
    KeepsO false g s (execRetainedFlushDone s) := by
  unfold execRetainedFlushDone
  exact .next (flushDone_keeps _)

theorem judgeSwitch_keeps {b g : Bool} (s : State) :
    Keeps b g s (judgeSwitch s) := by
  unfold judgeSwitch
  split
  · exact .rfl
  · extract_lets -underBinder -merge -useContext +onlyGivenNames x1 x2
    have hx2 : Keeps b g s x2 := .ite (State.setFlag_keeps _ _ _) .rfl
    exact (State.withLoader_keeps _ _).after (hx2)

theorem execSwitchJudgement_keeps {b g : Bool} (s : State) :
    KeepsO b g s (execSwitchJudgement s) := by
  unfold execSwitchJudgement
  refine .ite ?_ (.next .rfl)
  extract_lets -underBinder -merge -useContext +onlyGivenNames x1
  have hx1 : Keeps b g s x1 := (judgeSwitch_keeps _).after (State.at_keeps _ _)
  exact .next (.ite ((State.strait_keeps _ _ _ _).after (hx1)) (hx1))

theorem startNext_keeps {b g : Bool} (s : State) (group : Nat) :
    Keeps b g s (startNext s group) := by
  unfold startNext
  refine .ite (startConvNext_keeps _) ?_
  refine .ite (startQueuedSegment_keeps _) ?_
  refine .ite .rfl ?_
  split
  · exact .rfl
  · exact .ite .rfl (.ite (startQueuedVerdict_keeps _) ((beginRingActivity_keeps _ _ _).after (setActivity_keeps _ _ _)))

theorem startWaiting_keeps {b g : Bool} (s : State) :
    Keeps b g s (startWaiting s) := by
  unfold startWaiting
  exact .fold (fun _ _ => startNext_keeps _ _) .rfl

theorem silentStrait_keeps {b g : Bool} (s : State) :
    Keeps b g s (silentStrait s) := by
  unfold silentStrait
  exact .ite ((State.withPair_keeps _ _).after (State.setFlag_keeps _ _ _)) .rfl

theorem suspendCompare_keeps {b g : Bool} (s : State) :
    Keeps b g s (suspendCompare s) := by
  unfold suspendCompare
  exact (State.withPair_keeps _ _).after (State.setFlag_keeps _ _ _)

theorem judgeDigest_keeps {b g : Bool} (s : State) (d : DWord) (clean : Bool) (miss : Bool) :
    Keeps b g s (judgeDigest s d clean miss) := by
  unfold judgeDigest
  exact .ite (suspendCompare_keeps _) (.ite .rfl (.ite .rfl ((startVerdict_keeps _ _).after ((suspendCompare_keeps _).after (State.note_keeps _ _)))))

theorem execDigestCompare_keeps {b g : Bool} (s : State) :
    KeepsO b g s (execDigestCompare s) := by
  unfold execDigestCompare
  refine .ite ?_ (.next .rfl)
  extract_lets -underBinder -merge -useContext +onlyGivenNames x1 x2
  have hx1 : Keeps b g s x1 := (State.window_keeps _ _).after (State.at_keeps _ _)
  have hx2 : Keeps b g s x2 := (State.setDword_keeps _ _ _).after ((startWaiting_keeps _).after (hx1))
  try clear_value x1
  try clear_value x2
  refine .ite ?_ (.next (hx2))
  split
  · extract_lets -underBinder -merge -useContext +onlyGivenNames x3
    have hx3 : Keeps b g s x3 := (silentStrait_keeps _).after ((State.count_keeps _ _ _).after (hx2))
    exact .next (.ite (hx3) ((suspendCompare_keeps _).after (hx3)))
  · exact .next ((judgeDigest_keeps _ _ _ _).after (hx2))

theorem execPartnerLossCheck_keeps {b g : Bool} (s : State) :
    KeepsO b g s (execPartnerLossCheck s) := by
  unfold execPartnerLossCheck
  refine .ite ?_ (.next .rfl)
  extract_lets -underBinder -merge -useContext +onlyGivenNames x1 x2
  have hx1 : Keeps b g s x1 := (State.setFlag_keeps _ _ _).after (State.at_keeps _ _)
  have hx2 : Keeps b g s x2 := .ite ((State.note_keeps _ _).after (hx1)) (hx1)
  exact .next ((State.withPair_keeps _ _).after (hx2))

theorem recheckArm_keeps {b g : Bool} (s : State) :
    Keeps b g s (recheckArm s) := by
  unfold recheckArm
  split
  · exact .rfl
  · exact .ite .rfl (dropArm_keeps _ _)

theorem takeover_keeps {b g : Bool} (s : State) :
    Keeps b g s (takeover s) := by
  unfold takeover
  extract_lets -underBinder -merge -useContext +onlyGivenNames x1 x2 x3 x4 x5
  have hx2 : Keeps b g s x2 := .ite (State.note_keeps _ _) .rfl
  have hx4 : Keeps b g s x4 := (voidSwap_keeps _).after ((State.raiseEpoch_keeps _ _).after (hx2))
  have hx5 : Keeps b g s x5 := (State.note_keeps _ _).after ((State.become_keeps _ _ _).after ((endPairing_keeps _).after (hx4)))
  exact (announceRaise_keeps _).after ((State.raise_keeps _ _ _ _ _).after (hx5))

theorem standbyLost_keeps {b g : Bool} (s : State) :
    Keeps b g s (standbyLost s) := by
  unfold standbyLost
  exact (State.become_keeps _ _ _).after ((endPairing_keeps _).after (voidSwap_keeps _))

theorem raiseForJoin_keeps {b g : Bool} (s : State) :
    Keeps b g s (raiseForJoin s) := by
  unfold raiseForJoin
  split
  · exact .rfl
  · refine .ite .rfl ?_
    extract_lets -underBinder -merge -useContext +onlyGivenNames x1
    have hx1 : Keeps b g s x1 := State.withPair_keeps _ _
    exact .ite ((announceRaise_keeps _).after ((State.raiseEpochFrom_keeps _ _ _).after (hx1))) (hx1)

theorem roleChange_keeps {b g : Bool} (s : State) (slot : Option Nat) (yielding : Bool) :
    Keeps b g s (roleChange s slot yielding) := by
  unfold roleChange
  extract_lets -underBinder -merge -useContext +onlyGivenNames x1 x2 x3 x4 x5 x6
  have hx2 : Keeps b g s x2 := State.withPair_keeps _ _
  have hx3 : Keeps b g s x3 := (State.become_keeps _ _ _).after ((State.raiseEpoch_keeps _ _).after (hx2))
  have hx4 : Keeps b g s x4 := (State.note_keeps _ _).after (hx3)
  have hx5 : Keeps b g s x5 := (State.setFlag_keeps _ _ _).after (hx4)
  have hx6 : Keeps b g s x6 := (State.raise_keeps _ _ _ _ _).after (hx5)
  try clear_value x1
  try clear_value x2
  try clear_value x3
  try clear_value x4
  try clear_value x5
  try clear_value x6
  split
  · exact hx6
  · exact (finishWaiting_keeps _ _ _ _ _).after (hx6)

theorem swapDue_keeps {b g : Bool} (s : State) :
    Keeps b g s (swapDue s) := by
  unfold swapDue
  split
  · exact .ite (.ite (voidSwap_keeps _) (.ite (roleChange_keeps _ _ _) (voidSwap_keeps _))) .rfl
  · exact .ite .rfl (voidSwap_keeps _)
  · exact .rfl

theorem goOutOfStep_keeps {b g : Bool} (s : State) :
    Keeps b g s (goOutOfStep s) := by
  unfold goOutOfStep
  refine .ite ?_ .rfl
  extract_lets -underBinder -merge -useContext +onlyGivenNames x1 x2
  have hx1 : Keeps b g s x1 := State.withPair_keeps _ _
  have hx2 : Keeps b g s x2 := .upd (hx1)
  exact (requestResync_keeps _).after ((State.setFlag_keeps _ _ _).after ((State.setFlag_keeps _ _ _).after (hx2)))

theorem execCrownChange_keeps {b g : Bool} (s : State) :
    KeepsO b g s (execCrownChange s) := by
  unfold execCrownChange
  refine .ite ?_ (.next .rfl)
  extract_lets -underBinder -merge -useContext +onlyGivenNames x1
  have hx1 : Keeps b g s x1 := State.at_keeps _ _
  try clear_value x1
  refine .next ?_
  refine (recheckArm_keeps _).after ?_
  refine .ite ((takeover_keeps _).after (hx1)) ?_
  refine .ite ((standbyLost_keeps _).after (hx1)) ?_
  extract_lets -underBinder -merge -useContext +onlyGivenNames x2
  have hx2 : Keeps b g s x2 := (raiseForJoin_keeps _).after ((swapDue_keeps _).after (hx1))
  exact .ite ((goOutOfStep_keeps _).after ((State.withPair_keeps _ _).after (hx2))) (hx2)

theorem showRing_keeps {b g : Bool} (im : Image) (s : State) (k : Nat) :
    Keeps b g s (showRing im s k) := by
  unfold showRing
  split
  · exact State.setReg_keeps _ _ _
  · exact setFields_keeps _ _

theorem showPort_keeps {b g : Bool} (im : Image) (s : State) (p : Nat) :
    Keeps b g s (showPort im s p) := by
  unfold showPort
  extract_lets -underBinder -merge -useContext +onlyGivenNames x1
  exact setFields_keeps _ _

theorem showBound_keeps {b g : Bool} (im : Image) (s : State) (j : Nat) :
    Keeps b g s (showBound im s j) := by
  unfold showBound
  extract_lets -underBinder -merge -useContext +onlyGivenNames x1
  exact State.setFld_keeps _ _ _

theorem showImage_keeps {b g : Bool} (s : State) (im : Image) :
    Keeps b g s (showImage s im) := by
  unfold showImage
  extract_lets -underBinder -merge -useContext +onlyGivenNames x1 x2 x3 x4 x7 x10 x13 x16 x19 x20
  have hx1 : Keeps b g s x1 := (dropRegs_keeps _ _).after (clearSkips_keeps _)
  have hx2 : Keeps b g s x2 := (State.setDword_keeps _ _ _).after ((State.setReg_keeps _ _ _).after (hx1))
  have hx3 : Keeps b g s x3 := (setFields_keeps _ _).after (hx2)
  have hx4 : Keeps b g s x4 := .fold (fun _ _ => showRing_keeps _ _ _) (hx3)
  have hx7 : Keeps b g s x7 := .fold (fun _ _ => showPort_keeps _ _ _) (hx4)
  have hx10 : Keeps b g s x10 := .fold (fun _ _ => showBound_keeps _ _ _) (hx7)
  have hx13 : Keeps b g s x13 := .fold (fun _ _ => State.setFld_keeps _ _ _) (hx10)
  have hx16 : Keeps b g s x16 := .fold (fun _ _ => setFields_keeps _ _) (hx13)
  have hx19 : Keeps b g s x19 := (showShaft_keeps _ _).after (hx16)
  have hx20 : Keeps b g s x20 := .fold (fun _ _ => State.setFlag_keeps _ _ _) (hx19)
  exact .fold (fun _ _ => State.setFlag_keeps _ _ _) (hx20)

theorem freshChannel_keeps {b g : Bool} (prev : State) (atSwitch : Bool) (s : State) (c : Nat) :
    Keeps b g s (freshChannel prev atSwitch s c) := by
  unfold freshChannel
  exact .ite (.ite (showBand_keeps _ _ _) .rfl) ((State.setAna_keeps _ _ _).after (clearChannel_keeps _ _))

theorem sendPoll_keeps {b g : Bool} (s : State) (g' : Nat) :
    Keeps b g s (sendPoll s g') := by
  unfold sendPoll
  split
  · exact .rfl
  · exact .ite (State.emit_keeps _ _) .rfl

theorem startRounds_keeps {b g : Bool} (s : State) :
    Keeps b g s (startRounds s) := by
  unfold startRounds
  extract_lets -underBinder -merge -useContext +onlyGivenNames x1
  have hx1 : Keeps b g s x1 := .fold (fun _ _ => State.setAna_keeps _ _ _) .rfl
  try clear_value x1
  refine .fold ?_ (hx1)
  intro s4 a5
  extract_lets -underBinder -merge -useContext +onlyGivenNames x6 x7
  have hx7 : Keeps b g s4 x7 := State.setModem_keeps _ _ _
  exact .ite (hx7) ((sendPoll_keeps _ _).after (hx7))

theorem freeRunStarts_keeps {b g : Bool} (s : State) :
    Keeps b g s (freeRunStarts s) := by
  unfold freeRunStarts
  exact .fold (fun _ _ => .ite (anaStart_keeps _ _ _) .rfl) .rfl

theorem freshUnits_keeps {b g : Bool} (prev : State) (s : State) (atSwitch : Bool) :
    Keeps b g s (freshUnits prev s atSwitch) := by
  unfold freshUnits
  extract_lets -underBinder -merge -useContext +onlyGivenNames x1 x4 x7
  have hx1 : Keeps b g s x1 := .fold (fun _ _ => State.setRing_keeps _ _ _) .rfl
  have hx4 : Keeps b g s x4 := .fold (fun _ _ => freshChannel_keeps _ _ _ _) (hx1)
  have hx7 : Keeps b g s x7 := (startRounds_keeps _).after (.fold (fun _ _ => showDegraded_keeps _ _) ((canFresh_keeps _).after ((dioFresh_keeps _ _).after (hx4))))
  exact .ite ((freeRunStarts_keeps _).after (hx7)) (hx7)

theorem runCarried_keeps {g : Bool} (s : State) (old : Image) (new : Image) :
    Keeps false g s (runCarried s old new) := by
  unfold runCarried
  extract_lets -underBinder -merge -useContext +onlyGivenNames x1 x2 x3 x4 x5 x6 x9 x12
  have hx1 : Keeps false g s x1 := .rfl
  have hx2 : Keeps false g s x2 := convSwitch_keeps _
  have hx3 : Keeps false g s x3 := hx2
  have hx4 : Keeps false g s x4 := (showImage_keeps _ _).after ((State.setReg_keeps _ _ _).after (hx2))
  have hx5 : Keeps false g s x5 := .upd (hx4)
  have hx6 : Keeps false g s x6 := .fold (fun _ _ => carryVariable_keeps _ _ _ _) (hx5)
  have hx9 : Keeps false g s x9 := .fold (fun _ _ => carryEdges_keeps _ _ _ _) (hx6)
  have hx12 : Keeps false g s x12 := (applyRegInit_keeps _ _).after ((carryShaft_keeps _ _ _ _).after (hx9))
  exact (freshUnits_keeps _ _ _).after (.upd (hx12))

theorem hoodSwitch_keeps {g : Bool} (s : State) (im : Image) :
    Keeps false g s (hoodSwitch s im) := by
  unfold hoodSwitch
  extract_lets -underBinder -merge -useContext +onlyGivenNames x1 x2 x3 x4 x5 x6 x7
  have hx4 : Keeps false g s x4 := (activateBank_keeps _ _ _ _).after (runCarried_keeps _ _ _)
  have hx5 : Keeps false g s x5 := (State.setFlag_keeps _ _ _).after ((State.setFld_keeps _ _ _).after (hx4))
  have hx6 : Keeps false g s x6 := (State.withLoader_keeps _ _).after (hx5)
  have hx7 : Keeps false g s x7 := (State.raise_keeps _ _ _ _ _).after (hx6)
  exact (loaderIdle_keeps _).after ((drainUnused_keeps _ _ _).after (hx7))

theorem takeSwitch_keeps {g : Bool} (s : State) :
    Keeps false g s (takeSwitch s) := by
  unfold takeSwitch
  extract_lets -underBinder -merge -useContext +onlyGivenNames x1
  have hx1 : Keeps false g s x1 := .ite (judgeSwitch_keeps _) .rfl
  try clear_value x1
  split
  · exact (hoodSwitch_keeps _ _).after (hx1)
  · exact (deferSwitch_keeps _).after (hx1)
  · exact (State.setDword_keeps _ _ _).after (hx1)

theorem execHoodSwitch_keeps {g : Bool} (s : State) :
    KeepsO false g s (execHoodSwitch s) := by
  unfold execHoodSwitch
  refine .ite ?_ (.next .rfl)
  extract_lets -underBinder -merge -useContext +onlyGivenNames x1 x2
  have hx1 : Keeps false g s x1 := State.at_keeps _ _
  have hx2 : Keeps false g s x2 := .ite ((takeSwitch_keeps _).after (hx1)) (hx1)
  try clear_value x1
  try clear_value x2
  refine .next ?_
  split
  · exact hx2
  · exact (answerWait_keeps _ _ _ _).after ((enterArmed_keeps _ _).after (hx2))

theorem safeArmDone_keeps {b g : Bool} (s : State) :
    Keeps b g s (safeArmDone s) := by
  unfold safeArmDone
  exact .ite ((State.withLoader_keeps _ _).after (answerWait_keeps _ _ _ _)) .rfl

theorem execActivateAppend_keeps {b g : Bool} (ok : Bool) (s : State) :
    KeepsO b g s (execActivateAppend ok s) := by
  unfold execActivateAppend
  split
  · exact .next .rfl
  · extract_lets -underBinder -merge -useContext +onlyGivenNames x1
    have hx1 : Keeps b g s x1 := State.withLoader_keeps _ _
    try clear_value x1
    refine .next ?_
    refine (safeArmDone_keeps _).after ?_
    split
    · exact hx1
    · exact .ite ((showBank_keeps _ _).after ((State.setBank_keeps _ _ _).after (hx1))) ((State.raise_keeps _ _ _ _ _).after ((State.count_keeps _ _ _).after (hx1)))

theorem startTrain_keeps {b g : Bool} (s : State) (k : Nat) :
    Keeps b g s (startTrain s k) := by
  unfold startTrain
  exact sendIdle_keeps _ _ _ _

theorem setCauseway_keeps {b g : Bool} (s : State) (k : Nat) :
    Keeps b g s (setCauseway s k) := by
  unfold setCauseway
  extract_lets -underBinder -merge -useContext +onlyGivenNames x1 x2 x3
  have hx3 : Keeps b g s x3 := State.setFlag_keeps _ _ _
  exact .ite ((State.setFld_keeps _ _ _).after ((State.setFld_keeps _ _ _).after (hx3))) (.ite ((startTrain_keeps _ _).after (hx3)) (hx3))

theorem execCausewaySwitch_keeps {b g : Bool} (ring : Nat) (s : State) :
    KeepsO b g s (execCausewaySwitch ring s) := by
  unfold execCausewaySwitch
  exact .next ((setCauseway_keeps _ _).after (.ite (State.at_keeps _ _) .rfl))

theorem execGuardSetApply_keeps {b : Bool} (s : State) :
    KeepsO b false s (execGuardSetApply s) := by
  unfold execGuardSetApply
  refine .ite (.next .rfl) ?_
  extract_lets -underBinder -merge -useContext +onlyGivenNames x1 x2
  have hx1 : Keeps b false s x1 := State.at_keeps _ _
  exact .next (.fold (fun _ _ => applyGuardSet_keeps _ _) (.upd (hx1)))

theorem execTimeReferenceSwitchCommit_keeps {b g : Bool} (s : State) :
    KeepsO b g s (execTimeReferenceSwitchCommit s) := by
  unfold execTimeReferenceSwitchCommit
  refine .ite ?_ (.next .rfl)
  extract_lets -underBinder -merge -useContext +onlyGivenNames x1
  have hx1 : Keeps b g s x1 := (enterHoldover_keeps _).after (State.at_keeps _ _)
  exact .next (.ite ((commitSwitch_keeps _).after (hx1)) (hx1))

theorem execSafeEntry_keeps {b g : Bool} (s : State) :
    KeepsO b g s (execSafeEntry s) := by
  unfold execSafeEntry
  split
  · exact .next .rfl
  · exact .next (.ite ((enterSafe_keeps _ _).after (State.at_keeps _ _)) .rfl)

theorem execLaneMove_keeps {b g : Bool} (s : State) :
    KeepsO b g s (execLaneMove s) := by
  unfold execLaneMove
  exact .next (.ite (State.withPair_keeps _ _) .rfl)

theorem updateLanes_keeps {b g : Bool} (s : State) :
    Keeps b g s (updateLanes s) := by
  unfold updateLanes
  extract_lets -underBinder -merge -useContext +onlyGivenNames x1 x2
  try clear_value x1
  try clear_value x2
  refine .ite .rfl ?_
  extract_lets -underBinder -merge -useContext +onlyGivenNames x3
  have hx3 : Keeps b g s x3 := (State.setFlag_keeps _ _ _).after (State.setFld_keeps _ _ _)
  exact (State.withPair_keeps _ _).after ((State.raise_keeps _ _ _ _ _).after (hx3))

theorem execLaneUp_keeps {b g : Bool} (lane : Nat) (s : State) :
    KeepsO b g s (execLaneUp lane s) := by
  unfold execLaneUp
  exact .next ((updateLanes_keeps _).after (State.withPair_keeps _ _))

theorem resyncAfterVerdict_keeps {b g : Bool} (s : State) (p : StatusPayload) :
    Keeps b g s (resyncAfterVerdict s p) := by
  unfold resyncAfterVerdict
  exact .ite (goOutOfStep_keeps _) .rfl

theorem judgeSuspended_keeps {b g : Bool} (s : State) (p : StatusPayload) :
    Keeps b g s (judgeSuspended s p) := by
  unfold judgeSuspended
  exact .ite (.ite (.ite ((State.withPair_keeps _ _).after (State.setFlag_keeps _ _ _)) .rfl) ((State.withPair_keeps _ _).after (State.setFlag_keeps _ _ _))) .rfl

theorem yieldIfDue_keeps {b g : Bool} (s : State) :
    Keeps b g s (yieldIfDue s) := by
  unfold yieldIfDue
  refine .ite ?_ .rfl
  refine .ite ?_ (State.setFlag_keeps _ _ _)
  extract_lets -underBinder -merge -useContext +onlyGivenNames x1
  exact (State.withPair_keeps _ _).after (State.strait_keeps _ _ _ _)

theorem takeStatus_keeps {b g : Bool} (s : State) (h : StraitHdr) (p : StatusPayload) :
    Keeps b g s (takeStatus s h p) := by
  unfold takeStatus
  extract_lets -underBinder -merge -useContext +onlyGivenNames x1 x2 x3 x4 x5 x6
  have hx3 : Keeps b g s x3 := State.withPair_keeps _ _
  have hx4 : Keeps b g s x4 := (State.setReg_keeps _ _ _).after ((State.setFld_keeps _ _ _).after (hx3))
  have hx5 : Keeps b g s x5 := .ite ((State.adoptEpoch_keeps _ _).after (hx4)) (hx4)
  have hx6 : Keeps b g s x6 := .ite ((dualHold_keeps _ _).after (hx5)) (hx5)
  exact (askAgain_keeps _ _).after ((resyncAfterVerdict_keeps _ _).after ((judgeSuspended_keeps _ _).after ((yieldIfDue_keeps _).after (hx6))))

theorem receiveStatus_keeps {b g : Bool} (s : State) (h : StraitHdr) (p : StatusPayload) :
    Keeps b g s (receiveStatus s h p) := by
  unfold receiveStatus
  extract_lets -underBinder -merge -useContext +onlyGivenNames x1 x2
  have hx2 : Keeps b g s x2 := (updateLanes_keeps _).after (State.withPair_keeps _ _)
  exact .ite ((takeStatus_keeps _ _ _).after (hx2)) (hx2)

theorem execStatusMsg_keeps {b g : Bool} (h : StraitHdr) (p : StatusPayload) (s : State) :
    KeepsO b g s (execStatusMsg h p s) := by
  unfold execStatusMsg
  exact .next (onMsg_keeps .rfl (fun u1 hu1 => (receiveStatus_keeps _ _ _).after (hu1)))

theorem execCommitMsg_keeps {b g : Bool} (h : StraitHdr) (p : CommitPayload) (s : State) :
    KeepsO b g s (execCommitMsg h p s) := by
  unfold execCommitMsg
  refine .next ?_
  refine onMsg_keeps .rfl ?_
  intro u1 hu1
  refine .ite (hu1) ?_
  split <;> exact (State.withPair_keeps _ _).after (hu1)

theorem takeSwapReq_keeps {b g : Bool} (s : State) (h : StraitHdr) :
    Keeps b g s (takeSwapReq s h) := by
  unfold takeSwapReq
  exact .ite ((State.withPair_keeps _ _).after (State.strait_keeps _ _ _ _)) (State.straitReply_keeps _ _ _ _)

theorem execSwapReq_keeps {b g : Bool} (h : StraitHdr) (s : State) :
    KeepsO b g s (execSwapReq h s) := by
  unfold execSwapReq
  exact .next (onMsg_keeps .rfl (fun u1 hu1 => (takeSwapReq_keeps _ _).after (hu1)))

theorem execSwapAck_keeps {b g : Bool} (h : StraitHdr) (s : State) :
    KeepsO b g s (execSwapAck h s) := by
  unfold execSwapAck
  refine .next ?_
  refine onMsg_keeps .rfl ?_
  intro u1 hu1
  split
  · exact (State.withPair_keeps _ _).after (hu1)
  · exact hu1

theorem execYieldMsg_keeps {b g : Bool} (h : StraitHdr) (s : State) :
    KeepsO b g s (execYieldMsg h s) := by
  unfold execYieldMsg
  exact .next (onMsg_keeps .rfl (fun u1 hu1 => .ite ((State.withPair_keeps _ _).after (hu1)) ((State.straitReply_keeps _ _ _ _).after (hu1))))

theorem execRaiseMsg_keeps {b g : Bool} (h : StraitHdr) (crown : Word) (s : State) :
    KeepsO b g s (execRaiseMsg h crown s) := by
  unfold execRaiseMsg
  exact .next (onMsg_keeps .rfl (fun u1 hu1 => .ite ((State.adoptEpoch_keeps _ _).after (hu1)) (hu1)))

theorem journalForwarded_keeps {b g : Bool} (s : State) (origin : Option FwdOrigin) (code : Nat) (data : List Byte) :
    Keeps b g s (journalForwarded s origin code data) := by
  unfold journalForwarded
  split
  · exact .rfl
  · exact journalAppend_keeps _ _

theorem takeForward_keeps {b g : Bool} (s : State) (h : StraitHdr) (key : Nat) (v : Word) (tick : DWord) (origin : Option FwdOrigin) :
    Keeps b g s (takeForward s h key v tick origin) := by
  unfold takeForward
  refine .ite ?_ (State.straitReply_keeps _ _ _ _)
  extract_lets -underBinder -merge -useContext +onlyGivenNames x1 x2
  have hx2 : Keeps b g s x2 := State.withPair_keeps _ _
  exact (State.straitReply_keeps _ _ _ _).after ((journalForwarded_keeps _ _ _ _).after (hx2))

theorem execFwdWrite_keeps {b g : Bool} (h : StraitHdr) (block : Nat) (off : Nat) (item : Nat) (value : Word) (tick : DWord) (origin : Option FwdOrigin) (s : State) :
    KeepsO b g s (execFwdWrite h block off item value tick origin s) := by
  unfold execFwdWrite
  exact .next (onMsg_keeps .rfl (fun u1 hu1 => (takeForward_keeps _ _ _ _ _ _).after (hu1)))

theorem finishForward_keeps {b g : Bool} (s : State) (slot : Option Nat) (code : Nat) :
    Keeps b g s (finishForward s slot code) := by
  unfold finishForward
  split
  · exact .rfl
  · exact (finishWaiting_keeps _ _ _ _ _).after (finishWaiting_keeps _ _ _ _ _)

theorem forwardEffect_keeps {g : Bool} (s : State) (w : FwdWrite) :
    Keeps false g s (forwardEffect s w) := by
  unfold forwardEffect
  extract_lets -underBinder -merge -useContext +onlyGivenNames x1
  have hx1 : Keeps false g s x1 := applyWrite_keeps _ _ _ _
  exact .ite ((finishForward_keeps _ _ _).after (hx1)) (hx1)

theorem forwardedEffects_keeps {g : Bool} (s : State) :
    Keeps false g s (forwardedEffects s) := by
  unfold forwardedEffects
  extract_lets -underBinder -merge -useContext +onlyGivenNames x1 x2 x3 x4
  have hx4 : Keeps false g s x4 := State.withPair_keeps _ _
  exact .fold (fun _ _ => forwardEffect_keeps _ _) (hx4)

theorem execForwardedWriteEffect_keeps {g : Bool} (s : State) :
    KeepsO false g s (execForwardedWriteEffect s) := by
  unfold execForwardedWriteEffect
  exact .next (forwardedEffects_keeps _)

theorem execLoaderQuery_keeps {b g : Bool} (h : StraitHdr) (s : State) :
    KeepsO b g s (execLoaderQuery h s) := by
  unfold execLoaderQuery
  exact .next (onMsg_keeps .rfl (fun u1 hu1 => (State.straitOn_keeps _ _ _ _ _ _).after (hu1)))

theorem execLoaderReply_keeps {b g : Bool} (h : StraitHdr) (state : Nat) (digest : List Byte) (s : State) :
    KeepsO b g s (execLoaderReply h state digest s) := by
  unfold execLoaderReply
  refine .next ?_
  refine onMsg_keeps .rfl ?_
  intro u1 hu1
  split
  · exact .ite ((acceptArm_keeps _ _ _).after (hu1)) ((State.withLoader_keeps _ _).after ((answerWait_keeps _ _ _ _).after (hu1)))
  · exact hu1

theorem execLoaderArm_keeps {b g : Bool} (h : StraitHdr) (tick : DWord) (origin : Option FwdOrigin) (s : State) :
    KeepsO b g s (execLoaderArm h tick origin s) := by
  unfold execLoaderArm
  refine .next ?_
  refine onMsg_keeps .rfl ?_
  intro u1 hu1
  refine .ite ?_ ((State.straitReply_keeps _ _ _ _).after (hu1))
  extract_lets -underBinder -merge -useContext +onlyGivenNames x2
  have hx2 : Keeps b g s x2 := (State.withLoader_keeps _ _).after (hu1)
  exact (State.straitReply_keeps _ _ _ _).after ((journalForwarded_keeps _ _ _ _).after (hx2))

theorem execSwitchDecision_keeps {b g : Bool} (h : StraitHdr) (go : Bool) (s : State) :
    KeepsO b g s (execSwitchDecision h go s) := by
  unfold execSwitchDecision
  exact .next (onMsg_keeps .rfl (fun u1 hu1 => .ite ((State.withLoader_keeps _ _).after (hu1)) (hu1)))

theorem execNoSwitchDecision_keeps {b g : Bool} (s : State) :
    KeepsO b g s (execNoSwitchDecision s) := by
  unfold execNoSwitchDecision
  exact .ite (.next ((goOutOfStep_keeps _).after (State.at_keeps _ _))) (.next .rfl)

theorem execMaintMsg_keeps {b g : Bool} (h : StraitHdr) (what : MaintKind) (begins : Bool) (s : State) :
    KeepsO b g s (execMaintMsg h what begins s) := by
  unfold execMaintMsg
  refine .next ?_
  refine onMsg_keeps .rfl ?_
  intro u1 hu1
  extract_lets -underBinder -merge -useContext +onlyGivenNames x2
  have hx2 : Keeps b g s x2 := (State.withPair_keeps _ _).after (hu1)
  exact (State.straitReply_keeps _ _ _ _).after (hx2)

theorem judgeRequest_keeps {b g : Bool} (s : State) (h : StraitHdr) (seq : Word) (digest : List Byte) (mode : Nat) :
    Keeps b g s (judgeRequest s h seq digest mode) := by
  unfold judgeRequest
  refine .ite (State.straitReply_keeps _ _ _ _) ?_
  refine .ite ?_ (acceptResync_keeps _ _)
  extract_lets -underBinder -merge -useContext +onlyGivenNames x1
  have hx1 : Keeps b g s x1 := (State.setFld_keeps _ _ _).after (State.straitReply_keeps _ _ _ _)
  exact .upd (hx1)

theorem execResyncRequest_keeps {b g : Bool} (h : StraitHdr) (seq : Word) (digest : List Byte) (mode : Nat) (s : State) :
    KeepsO b g s (execResyncRequest h seq digest mode s) := by
  unfold execResyncRequest
  exact .next (onMsg_keeps .rfl (fun u1 hu1 => (judgeRequest_keeps _ _ _ _ _).after (hu1)))

theorem powerNeeded_keeps {b g : Bool} (s : State) (im : Image) :
    Keeps b g s (powerNeeded s im) := by
  unfold powerNeeded
  exact .fold (fun _ _ => requestOn_keeps _ _) .rfl

theorem installImage_keeps {g : Bool} (s : State) (im : Image) :
    Keeps false g s (installImage s im) := by
  unfold installImage
  extract_lets -underBinder -merge -useContext +onlyGivenNames x1
  have hx1 : Keeps false g s x1 := (layOut_keeps _ _).after (showImage_keeps _ _)
  exact .upd (hx1)

theorem runFresh_keeps {g : Bool} (s : State) (im : Image) :
    Keeps false g s (runFresh s im) := by
  unfold runFresh
  extract_lets -underBinder -merge -useContext +onlyGivenNames x1 x2
  have hx1 : Keeps false g s x1 := .rfl
  have hx2 : Keeps false g s x2 := installImage_keeps _ _
  exact (freshUnits_keeps _ _ _).after ((applyRegInit_keeps _ _).after (.upd (hx2)))

theorem runStaged_keeps {g : Bool} (s : State) :
    Keeps false g s (runStaged s) := by
  unfold runStaged
  split
  · exact .rfl
  · extract_lets -underBinder -merge -useContext +onlyGivenNames x1 x2 x3 x4
    have hx2 : Keeps false g s x2 := (powerNeeded_keeps _ _).after ((activateBank_keeps _ _ _ _).after (runFresh_keeps _ _))
    have hx3 : Keeps false g s x3 := by
      unfold x3
      try clear_value x1
      try clear_value x2
      split
      · exact hx2
      · exact (drainUnused_keeps _ _ _).after (hx2)
    have hx4 : Keeps false g s x4 := (State.withLoader_keeps _ _).after (hx3)
    exact (loaderIdle_keeps _).after ((State.setFlag_keeps _ _ _).after ((State.setFld_keeps _ _ _).after (hx4)))

theorem joinAccepted_keeps {g : Bool} (s : State) :
    Keeps false g s (joinAccepted s) := by
  unfold joinAccepted
  refine .ite (resyncFail_keeps _ _) ?_
  extract_lets -underBinder -merge -useContext +onlyGivenNames x1 x2
  have hx1 : Keeps false g s x1 := .ite (runStaged_keeps _) .rfl
  have hx2 : Keeps false g s x2 := (State.setFld_keeps _ _ _).after ((ownerStart_keeps _ _).after (hx1))
  exact .upd (hx2)

theorem execResyncAccept_keeps {g : Bool} (h : StraitHdr) (s : State) :
    KeepsO false g s (execResyncAccept h s) := by
  unfold execResyncAccept
  exact .next (onMsg_keeps .rfl (fun u1 hu1 => .ite ((joinAccepted_keeps _).after (hu1)) (hu1)))

theorem startFinal_keeps {b g : Bool} (s : State) :
    Keeps b g s (startFinal s) := by
  unfold startFinal
  extract_lets -underBinder -merge -useContext +onlyGivenNames x1
  have hx1 : Keeps b g s x1 := (queueCopy_keeps _ _).after ((State.withResync_keeps _ _).after (State.setFld_keeps _ _ _))
  exact (State.withPair_keeps _ _).after ((State.withResync_keeps _ _).after (hx1))

theorem resyncRound_keeps {b g : Bool} (s : State) :
    Keeps b g s (resyncRound s) := by
  unfold resyncRound
  extract_lets -underBinder -merge -useContext +onlyGivenNames x1 x2 x3
  have hx3 : Keeps b g s x3 := State.setFld_keeps _ _ _
  exact .ite ((resyncFail_keeps _ _).after (hx3)) (.ite (hx3) (.ite ((startFinal_keeps _).after (hx3)) (.ite ((resyncFail_keeps _ _).after (hx3)) ((State.withResync_keeps _ _).after ((queueCopy_keeps _ _).after ((State.setFld_keeps _ _ _).after ((State.setFld_keeps _ _ _).after (hx3))))))))

theorem execResyncRound_keeps {b g : Bool} (s : State) :
    KeepsO b g s (execResyncRound s) := by
  unfold execResyncRound
  extract_lets -underBinder -merge -useContext +onlyGivenNames x1
  exact .next (.ite (resyncRound_keeps _) .rfl)

theorem loadSnapshot_keeps {b g : Bool} (s : State) (x : Snapshot) :
    Keeps b g s (loadSnapshot s x) := by
  unfold loadSnapshot
  extract_lets -underBinder -merge -useContext +onlyGivenNames x1 x2 x3
  have hx1 : Keeps b g s x1 := clearSkips_keeps _
  have hx2 : Keeps b g s x2 := .ite ((State.withResync_keeps _ _).after (hx1)) (hx1)
  have hx3 : Keeps b g s x3 := (State.withLoader_keeps _ _).after (hx2)
  exact .upd (hx3)

theorem execResyncFinal_keeps {b g : Bool} (h : StraitHdr) (snap : Snapshot) (s : State) :
    KeepsO b g s (execResyncFinal h snap s) := by
  unfold execResyncFinal
  refine .next ?_
  refine onMsg_keeps .rfl ?_
  intro u1 hu1
  refine .ite ?_ (hu1)
  refine .ite ((resyncFail_keeps _ _).after (hu1)) ?_
  extract_lets -underBinder -merge -useContext +onlyGivenNames x2 x3
  have hx2 : Keeps b g s x2 := (State.setFld_keeps _ _ _).after ((loadSnapshot_keeps _ _).after (hu1))
  have hx3 : Keeps b g s x3 := .fold (fun _ _ => setReqs_keeps _ _ _) (hx2)
  exact (State.withResync_keeps _ _).after (hx3)

theorem joinEpoch_keeps {b g : Bool} (s : State) :
    Keeps b g s (joinEpoch s) := by
  unfold joinEpoch
  extract_lets -underBinder -merge -useContext +onlyGivenNames x1
  exact .ite (State.adoptEpoch_keeps _ _) (State.raiseEpochFrom_keeps _ _ _)

theorem unwrapKeys_keeps {b g : Bool} (s : State) :
    Keeps b g s (unwrapKeys s) := by
  unfold unwrapKeys
  exact .ite (State.setFld_keeps _ _ _) .rfl

theorem leaveStart_keeps {b g : Bool} (s : State) :
    Keeps b g s (leaveStart s) := by
  unfold leaveStart
  exact (State.setFld_keeps _ _ _).after (unwrapKeys_keeps _)

theorem joinDone_keeps {b g : Bool} (s : State) :
    Keeps b g s (joinDone s) := by
  unfold joinDone
  extract_lets -underBinder -merge -useContext +onlyGivenNames x1 x2 x3 x4
  have hx2 : Keeps b g s x2 := (joinEpoch_keeps _).after (ownerDone_keeps _ _)
  have hx3 : Keeps b g s x3 := (State.withPair_keeps _ _).after ((copyEnds_keeps _).after ((State.setFlag_keeps _ _ _).after (hx2)))
  have hx4 : Keeps b g s x4 := .ite ((State.become_keeps _ _ _).after ((leaveStart_keeps _).after (hx3))) ((State.setFlag_keeps _ _ _).after (hx3))
  exact (State.raise_keeps _ _ _ _ _).after (hx4)

theorem holderDone_keeps {b g : Bool} (s : State) :
    Keeps b g s (holderDone s) := by
  unfold holderDone
  extract_lets -underBinder -merge -useContext +onlyGivenNames x1 x2 x3 x4 x5
  have hx2 : Keeps b g s x2 := (State.strait_keeps _ _ _ _).after ((State.setFlag_keeps _ _ _).after ((copyEnds_keeps _).after ((raiseForJoin_keeps _).after (ownerDone_keeps _ _))))
  have hx3 : Keeps b g s x3 := (State.withPair_keeps _ _).after (hx2)
  have hx4 : Keeps b g s x4 := (State.strait_keeps _ _ _ _).after (hx3)
  have hx5 : Keeps b g s x5 := .ite ((State.become_keeps _ _ _).after (hx4)) ((State.setFlag_keeps _ _ _).after (hx4))
  exact (State.raise_keeps _ _ _ _ _).after (hx5)

theorem execResyncDone_keeps {b g : Bool} (s : State) :
    KeepsO b g s (execResyncDone s) := by
  unfold execResyncDone
  split
  · exact .next .rfl
  · refine .ite (.next .rfl) ?_
    extract_lets -underBinder -merge -useContext +onlyGivenNames x1
    have hx1 : Keeps b g s x1 := State.at_keeps _ _
    try clear_value x1
    refine .next ?_
    split
    · exact (resyncFail_keeps _ _).after (hx1)
    · exact .ite ((resyncFail_keeps _ _).after (hx1)) (.ite (.ite ((joinDone_keeps _).after (hx1)) ((resyncFail_keeps _ _).after (hx1))) ((holderDone_keeps _).after (hx1)))

theorem execResyncRetry_keeps {b g : Bool} (s : State) :
    KeepsO b g s (execResyncRetry s) := by
  unfold execResyncRetry
  refine .ite (.next (resyncFail_keeps _ _)) ?_
  split
  · exact .next .rfl
  · exact .next (.ite (joinRequest_keeps _) .rfl)

theorem writeMem_keeps {g : Bool} {s t : State} {a : Nat} {bs : List Byte} (h : writeMem s a bs = .ok t) :
    Keeps false g s t := by
  unfold writeMem at h
  dsimp only at h
  repeat' split at h
  all_goals cases h
  · exact Keeps.refl _ _ _
  · exact storeBytes_keeps _ _ _

theorem takeCopy_keeps {g : Bool} (s : State) (a : Nat) (bs : List Byte) : Keeps false g s (takeCopy s a bs) := by
  unfold takeCopy
  extract_lets x
  have hx : Keeps false g s x := State.setFld_keeps _ _ _
  clear_value x
  refine Keeps.ite ((resyncFail_keeps _ _).after hx) ?_
  split
  · exact (resyncFail_keeps _ _).after ((channelError_keeps _ _ _).after ((guardRefuse_keeps _ _ _ _ _).after hx))
  split
  · exact (resyncFail_keeps _ _).after ((channelError_keeps _ _ _).after ((State.memError_keeps _ _).after hx))
  next h => exact (writeMem_keeps h).after hx


theorem execCopy_keeps {g : Bool} (h : StraitHdr) (addr : DWord) (data : List Byte) (s : State) :
    KeepsO false g s (execCopy h addr data s) := by
  unfold execCopy
  exact .next (onMsg_keeps .rfl (fun u1 hu1 => .ite (.ite ((resyncFail_keeps _ _).after (hu1)) ((takeCopy_keeps _ _ _).after (hu1))) (hu1)))

theorem replyForward_keeps {b g : Bool} (s : State) (seq : Nat) (code : Nat) :
    Keeps b g s (replyForward s seq code) := by
  unfold replyForward
  extract_lets -underBinder -merge -useContext +onlyGivenNames x1
  try clear_value x1
  split
  · exact .rfl
  · extract_lets -underBinder -merge -useContext +onlyGivenNames x2
    have hx2 : Keeps b g s x2 := State.withPair_keeps _ _
    exact (finishForward_keeps _ _ _).after (hx2)

theorem replySwap_keeps {b g : Bool} (s : State) (code : Nat) :
    Keeps b g s (replySwap s code) := by
  unfold replySwap
  split
  · extract_lets -underBinder -merge -useContext +onlyGivenNames x1
    have hx1 : Keeps b g s x1 := State.withPair_keeps _ _
    try clear_value x1
    split
    · exact hx1
    · exact (finishWaiting_keeps _ _ _ _ _).after (hx1)
  · exact .rfl

theorem replyLoader_keeps {b g : Bool} (s : State) (code : Nat) :
    Keeps b g s (replyLoader s code) := by
  unfold replyLoader
  exact .ite ((State.withLoader_keeps _ _).after (answerWait_keeps _ _ _ _)) .rfl

theorem modeConflict_keeps {b g : Bool} (s : State) (partnerMode : Nat) :
    Keeps b g s (modeConflict s partnerMode) := by
  unfold modeConflict
  exact .ite .rfl ((State.raise_keeps _ _ _ _ _).after (State.note_keeps _ _))

theorem replyResync_keeps {b g : Bool} (s : State) (code : Nat) :
    Keeps b g s (replyResync s code) := by
  unfold replyResync
  refine .ite .rfl ?_
  refine .ite (State.setFld_keeps _ _ _) ?_
  refine .ite (resyncFail_keeps _ _) ?_
  extract_lets -underBinder -merge -useContext +onlyGivenNames x1 x2
  have hx1 : Keeps b g s x1 := .ite (modeConflict_keeps _ _) .rfl
  have hx2 : Keeps b g s x2 := (State.setFld_keeps _ _ _).after (hx1)
  exact (startQueuedSegment_keeps _).after (.upd (hx2))

theorem execReply_keeps {b g : Bool} (h : StraitHdr) (type : Nat) (seq : Nat) (code : Nat) (s : State) :
    KeepsO b g s (execReply h type seq code s) := by
  unfold execReply
  exact .next (onMsg_keeps .rfl (fun u1 hu1 => .ite ((replyForward_keeps _ _ _).after (hu1)) (.ite ((replySwap_keeps _ _).after (hu1)) (.ite ((replyLoader_keeps _ _).after (hu1)) (.ite ((replyResync_keeps _ _).after (hu1)) (hu1))))))

theorem faultNotes_keeps {b g : Bool} (s : State) (j : Nat) (f : AFault) :
    Keeps b g s (faultNotes s j f) := by
  unfold faultNotes
  split
  · exact guardRefuse_keeps _ _ _ _ _
  · exact State.memError_keeps _ _
  · exact .rfl

theorem taskFault_keeps {b g : Bool} (s : State) (j : Nat) (k : TaskRec) (pc : Nat) (f : AFault) :
    Keeps b g s (taskFault s j k pc f) := by
  unfold taskFault
  extract_lets -underBinder -merge -useContext +onlyGivenNames x1 x2 x3 x4 x5 x6 x7 x8 x9 x10 x11
  have hx2 : Keeps b g s x2 := faultNotes_keeps _ _ _
  have hx3 : Keeps b g s x3 := (State.setTask_keeps _ _ _).after (hx2)
  have hx4 : Keeps b g s x4 := (State.setReg_keeps _ _ _).after (hx3)
  have hx5 : Keeps b g s x5 := (State.setFld_keeps _ _ _).after ((State.setFld_keeps _ _ _).after ((State.setFld_keeps _ _ _).after (hx4)))
  have hx6 : Keeps b g s x6 := (State.setDword_keeps _ _ _).after ((State.setFld_keeps _ _ _).after (hx5))
  have hx7 : Keeps b g s x7 := (State.count_keeps _ _ _).after (hx6)
  have hx8 : Keeps b g s x8 := (State.count_keeps _ _ _).after (hx7)
  have hx10 : Keeps b g s x10 := (State.raiseAt_keeps _ _ _ _ _ _).after (hx8)
  have hx11 : Keeps b g s x11 := .ite ((State.raiseAt_keeps _ _ _ _ _ _).after ((State.setFlag_keeps _ _ _).after (hx10))) (hx10)
  exact (dispatchCore_keeps _ _).after (hx11)

theorem runInstr_keeps {g : Bool} {j : Nat} {up : Upset} {i : Instr} {cost : TaskSt → Nat} {fx : AEffect}
    (h : ∀ s k t s' t', fx s k t = .ok (s', t') → Keeps false g s s') (s : State) :
    Keeps false g s (runInstr j up i cost fx s) := by
  unfold runInstr
  split
  · exact Keeps.refl _ _ _
  rename_i k _
  dsimp only
  refine Keeps.ite ?_ (Keeps.refl _ _ _)
  split
  · exact (compareMembers_keeps _ _ _ _ (fun _ => taskFault_keeps _ _ _ _ _)).after (chargeTask_keeps _ _ _ _)
  have act : ∀ (up : Upset) (x : State), Keeps false g x
      (match fx x k { x.task k.task with
          regs := { (x.task k.task).regs with pc := pcAt ((s.task k.task).regs.pc.toNat + (codeOf i).length) } } with
        | .error f => taskFault x j k (s.task k.task).regs.pc.toNat f
        | .ok (s', t') => s'.setTask k.task (struckTask t' up)) := by
    intro up x
    split
    · exact taskFault_keeps _ _ _ _ _
    · next e => exact (State.setTask_keeps _ _ _).after (h _ _ _ _ _ e)
  exact Keeps.ite ((act _ _).after (chargeTask_keeps _ _ _ _))
    ((compareMembers_keeps _ _ _ _ (fun _ => act _ _)).after (chargeTask_keeps _ _ _ _))

theorem regInstr_keeps {g : Bool} (j : Nat) (up : Upset) (i : Instr) (cost : Nat) (f : TaskRegs → TaskRegs) (s : State) :
    Keeps false g s (regInstr j up i cost f s) :=
  runInstr_keeps (by rintro s k t _ _ ⟨⟩; exact Keeps.refl _ _ _) s

theorem execNop_keeps {g : Bool} (core : Nat) (up : Upset) (s : State) :
    KeepsO false g s (execNop core up s) := by
  unfold execNop
  exact .next (regInstr_keeps _ _ _ _ _ _)

theorem touchSegment_keeps {b g : Bool} (s : State) (k : TaskRec) (t : TaskSt) :
    Keeps b g s (touchSegment s k t) := by
  unfold touchSegment
  extract_lets -underBinder -merge -useContext +onlyGivenNames x1 x2
  exact (State.markPages_keeps _ _).after (State.touch_keeps _ _)

theorem handOn_keeps {b g : Bool} (s : State) (k : TaskRec) (xs : List (Nat × Slot)) :
    Keeps b g s (handOn s k xs) := by
  unfold handOn
  refine .ite ((State.touch_keeps _ _).after (.fold (fun _ _ => State.setOut_keeps _ _ _) .rfl)) ?_
  extract_lets -underBinder -merge -useContext +onlyGivenNames x3
  exact (State.touch_keeps _ _).after (State.setCls_keeps _ _ _)

theorem passCheckpoint_keeps {b g : Bool} (s : State) (j : Nat) (k : TaskRec) (isEnd : Bool) :
    Keeps b g s (passCheckpoint s j k isEnd) := by
  unfold passCheckpoint
  extract_lets -underBinder -merge -useContext +onlyGivenNames x1 x2 x3 x4
  have hx2 : Keeps b g s x2 := (touchSegment_keeps _ _ _).after (handOn_keeps _ _ _)
  have hx3 : Keeps b g s x3 := .ite ((mismatchResolved_keeps _ _ _ _ _).after (hx2)) (hx2)
  try clear_value x1
  try clear_value x2
  try clear_value x3
  try clear_value x4
  refine .ite ?_ ((State.setTask_keeps _ _ _).after (hx3))
  extract_lets -underBinder -merge -useContext +onlyGivenNames x5
  have hx5 : Keeps b g s x5 := (State.setTask_keeps _ _ _).after (hx3)
  exact (dispatchCore_keeps _ _).after ((State.setFld_keeps _ _ _).after (hx5))

theorem runCheckpoint_keeps {g : Bool} (j : Nat) (up : Upset) (i : Instr) (isEnd : Bool) (s : State) :
    Keeps false g s (runCheckpoint j up i isEnd s) := by
  unfold runCheckpoint
  split
  · exact Keeps.refl _ _ _
  dsimp only
  refine Keeps.ite ?_ (Keeps.refl _ _ _)
  split
  · exact (compareMembers_keeps _ _ _ _ (fun _ => taskFault_keeps _ _ _ _ _)).after (chargeTask_keeps _ _ _ _)
  refine (compareMembers_keeps _ _ _ _ (fun x => ?_)).after
    ((State.setTask_keeps _ _ _).after (chargeTask_keeps _ _ _ _))
  split
  · exact taskFault_keeps _ _ _ _ _
  · exact passCheckpoint_keeps _ _ _ _

theorem execEndTask_keeps {g : Bool} (core : Nat) (up : Upset) (s : State) :
    KeepsO false g s (execEndTask core up s) := by
  unfold execEndTask
  exact .next (runCheckpoint_keeps _ _ _ _ _)

theorem execChkp_keeps {g : Bool} (core : Nat) (up : Upset) (s : State) :
    KeepsO false g s (execChkp core up s) := by
  unfold execChkp
  exact .next (runCheckpoint_keeps _ _ _ _ _)

theorem oneWord_keeps {g : Bool} {j cost : Nat} {up : Upset} {i : Instr} {fx : AEffect}
    (h : ∀ s k t s' t', fx s k t = .ok (s', t') → Keeps false g s s') (s : State) :
    Keeps false g s (oneWord j up i cost fx s) :=
  runInstr_keeps h s

theorem execJmp_keeps {g : Bool} (core : Nat) (up : Upset) (off : BitVec 24) (s : State) :
    KeepsO false g s (execJmp core up off s) := by
  unfold execJmp
  refine .next ?_
  refine oneWord_keeps ?_ _
  intro s1 k1 t1 s2 t2 e1
  simp only [jumpIf, jumpTo] at e1
  repeat' split at e1
  all_goals (cases e1 <;> exact Keeps.refl _ _ _)

theorem execJt_keeps {g : Bool} (core : Nat) (up : Upset) (off : BitVec 24) (s : State) :
    KeepsO false g s (execJt core up off s) := by
  unfold execJt
  refine .next ?_
  refine oneWord_keeps ?_ _
  intro s1 k1 t1 s2 t2 e1
  simp only [jumpIf, jumpTo] at e1
  repeat' split at e1
  all_goals (cases e1 <;> exact Keeps.refl _ _ _)

theorem execJf_keeps {g : Bool} (core : Nat) (up : Upset) (off : BitVec 24) (s : State) :
    KeepsO false g s (execJf core up off s) := by
  unfold execJf
  refine .next ?_
  refine oneWord_keeps ?_ _
  intro s1 k1 t1 s2 t2 e1
  simp only [jumpIf, jumpTo] at e1
  repeat' split at e1
  all_goals (cases e1 <;> exact Keeps.refl _ _ _)

theorem execCall_keeps {g : Bool} (core : Nat) (up : Upset) (off : BitVec 24) (s : State) :
    KeepsO false g s (execCall core up off s) := by
  unfold execCall
  refine .next ?_
  refine oneWord_keeps ?_ _
  intro s1 k1 t1 s2 t2 e1
  (try dsimp only at e1)
  repeat' split at e1
  all_goals (cases e1 <;> exact Keeps.refl _ _ _)

theorem execRet_keeps {g : Bool} (core : Nat) (up : Upset) (s : State) :
    KeepsO false g s (execRet core up s) := by
  unfold execRet
  refine .next ?_
  refine oneWord_keeps ?_ _
  intro s1 k1 t1 s2 t2 e1
  (try dsimp only at e1)
  repeat' split at e1
  all_goals (cases e1 <;> exact Keeps.refl _ _ _)

theorem execLpb_keeps {g : Bool} (core : Nat) (up : Upset) (count : Nat) (s : State) :
    KeepsO false g s (execLpb core up count s) := by
  unfold execLpb
  refine .next ?_
  refine oneWord_keeps ?_ _
  intro s1 k1 t1 s2 t2 e1
  (try dsimp only at e1)
  repeat' split at e1
  all_goals (cases e1 <;> exact Keeps.refl _ _ _)

theorem execLpe_keeps {g : Bool} (core : Nat) (up : Upset) (s : State) :
    KeepsO false g s (execLpe core up s) := by
  unfold execLpe
  refine .next ?_
  refine oneWord_keeps ?_ _
  intro s1 k1 t1 s2 t2 e1
  (try dsimp only at e1)
  repeat' split at e1
  all_goals (cases e1 <;> exact Keeps.refl _ _ _)

theorem execLpx_keeps {g : Bool} (core : Nat) (up : Upset) (off : BitVec 24) (s : State) :
    KeepsO false g s (execLpx core up off s) := by
  unfold execLpx
  refine .next ?_
  refine oneWord_keeps ?_ _
  intro s1 k1 t1 s2 t2 e1
  simp only [jumpIf, jumpTo] at e1
  repeat' split at e1
  all_goals (cases e1 <;> exact Keeps.refl _ _ _)

theorem execLd_keeps {g : Bool} (core : Nat) (up : Upset) (space : Nat) (idx : Nat) (s : State) :
    KeepsO false g s (execLd core up space idx s) := by
  unfold execLd
  refine .next ?_
  refine oneWord_keeps ?_ _
  intro s1 k1 t1 s2 t2 e1
  simp only [loadBit, bitOperand, slotOperand] at e1
  repeat' split at e1
  all_goals (cases e1 <;> exact Keeps.refl _ _ _)

theorem execLdn_keeps {g : Bool} (core : Nat) (up : Upset) (space : Nat) (idx : Nat) (s : State) :
    KeepsO false g s (execLdn core up space idx s) := by
  unfold execLdn
  refine .next ?_
  refine oneWord_keeps ?_ _
  intro s1 k1 t1 s2 t2 e1
  simp only [loadBit, bitOperand, slotOperand] at e1
  repeat' split at e1
  all_goals (cases e1 <;> exact Keeps.refl _ _ _)

theorem execAndB_keeps {g : Bool} (core : Nat) (up : Upset) (space : Nat) (idx : Nat) (s : State) :
    KeepsO false g s (execAndB core up space idx s) := by
  unfold execAndB
  refine .next ?_
  refine oneWord_keeps ?_ _
  intro s1 k1 t1 s2 t2 e1
  simp only [opBit, bitOperand, slotOperand] at e1
  repeat' split at e1
  all_goals (cases e1 <;> exact Keeps.refl _ _ _)

theorem execAndn_keeps {g : Bool} (core : Nat) (up : Upset) (space : Nat) (idx : Nat) (s : State) :
    KeepsO false g s (execAndn core up space idx s) := by
  unfold execAndn
  refine .next ?_
  refine oneWord_keeps ?_ _
  intro s1 k1 t1 s2 t2 e1
  simp only [opBit, bitOperand, slotOperand] at e1
  repeat' split at e1
  all_goals (cases e1 <;> exact Keeps.refl _ _ _)

theorem execOrB_keeps {g : Bool} (core : Nat) (up : Upset) (space : Nat) (idx : Nat) (s : State) :
    KeepsO false g s (execOrB core up space idx s) := by
  unfold execOrB
  refine .next ?_
  refine oneWord_keeps ?_ _
  intro s1 k1 t1 s2 t2 e1
  simp only [opBit, bitOperand, slotOperand] at e1
  repeat' split at e1
  all_goals (cases e1 <;> exact Keeps.refl _ _ _)

theorem execOrn_keeps {g : Bool} (core : Nat) (up : Upset) (space : Nat) (idx : Nat) (s : State) :
    KeepsO false g s (execOrn core up space idx s) := by
  unfold execOrn
  refine .next ?_
  refine oneWord_keeps ?_ _
  intro s1 k1 t1 s2 t2 e1
  simp only [opBit, bitOperand, slotOperand] at e1
  repeat' split at e1
  all_goals (cases e1 <;> exact Keeps.refl _ _ _)

theorem execXorB_keeps {g : Bool} (core : Nat) (up : Upset) (space : Nat) (idx : Nat) (s : State) :
    KeepsO false g s (execXorB core up space idx s) := by
  unfold execXorB
  refine .next ?_
  refine oneWord_keeps ?_ _
  intro s1 k1 t1 s2 t2 e1
  simp only [opBit, bitOperand, slotOperand] at e1
  repeat' split at e1
  all_goals (cases e1 <;> exact Keeps.refl _ _ _)

theorem execXorn_keeps {g : Bool} (core : Nat) (up : Upset) (space : Nat) (idx : Nat) (s : State) :
    KeepsO false g s (execXorn core up space idx s) := by
  unfold execXorn
  refine .next ?_
  refine oneWord_keeps ?_ _
  intro s1 k1 t1 s2 t2 e1
  simp only [opBit, bitOperand, slotOperand] at e1
  repeat' split at e1
  all_goals (cases e1 <;> exact Keeps.refl _ _ _)

theorem execSt_keeps {g : Bool} (core : Nat) (up : Upset) (space : Nat) (idx : Nat) (s : State) :
    KeepsO false g s (execSt core up space idx s) := by
  unfold execSt
  refine .next ?_
  refine oneWord_keeps ?_ _
  intro s1 k1 t1 s2 t2 e1
  simp only [storeBit, storeCheck, stageSlot] at e1
  repeat' split at e1
  all_goals (cases e1 <;> exact Keeps.refl _ _ _)

theorem execStn_keeps {g : Bool} (core : Nat) (up : Upset) (space : Nat) (idx : Nat) (s : State) :
    KeepsO false g s (execStn core up space idx s) := by
  unfold execStn
  refine .next ?_
  refine oneWord_keeps ?_ _
  intro s1 k1 t1 s2 t2 e1
  simp only [storeBit, storeCheck, stageSlot] at e1
  repeat' split at e1
  all_goals (cases e1 <;> exact Keeps.refl _ _ _)

theorem execSetB_keeps {g : Bool} (core : Nat) (up : Upset) (space : Nat) (idx : Nat) (s : State) :
    KeepsO false g s (execSetB core up space idx s) := by
  unfold execSetB
  refine .next ?_
  refine oneWord_keeps ?_ _
  intro s1 k1 t1 s2 t2 e1
  simp only [setBitIf, storeBit, storeCheck, stageSlot] at e1
  repeat' split at e1
  all_goals (cases e1 <;> exact Keeps.refl _ _ _)

theorem execRst_keeps {g : Bool} (core : Nat) (up : Upset) (space : Nat) (idx : Nat) (s : State) :
    KeepsO false g s (execRst core up space idx s) := by
  unfold execRst
  refine .next ?_
  refine oneWord_keeps ?_ _
  intro s1 k1 t1 s2 t2 e1
  simp only [setBitIf, storeBit, storeCheck, stageSlot] at e1
  repeat' split at e1
  all_goals (cases e1 <;> exact Keeps.refl _ _ _)

theorem execNotB_keeps {g : Bool} (core : Nat) (up : Upset) (s : State) :
    KeepsO false g s (execNotB core up s) := by
  unfold execNotB
  exact .next (regInstr_keeps _ _ _ _ _ _)

theorem execSet1_keeps {g : Bool} (core : Nat) (up : Upset) (s : State) :
    KeepsO false g s (execSet1 core up s) := by
  unfold execSet1
  exact .next (regInstr_keeps _ _ _ _ _ _)

theorem execSet0_keeps {g : Bool} (core : Nat) (up : Upset) (s : State) :
    KeepsO false g s (execSet0 core up s) := by
  unfold execSet0
  exact .next (regInstr_keeps _ _ _ _ _ _)

theorem execAp_keeps {g : Bool} (core : Nat) (up : Upset) (s : State) :
    KeepsO false g s (execAp core up s) := by
  unfold execAp
  refine .next ?_
  refine oneWord_keeps ?_ _
  intro s1 k1 t1 s2 t2 e1
  simp only [nestPush] at e1
  repeat' split at e1
  all_goals (cases e1 <;> exact Keeps.refl _ _ _)

theorem execAnp_keeps {g : Bool} (core : Nat) (up : Upset) (s : State) :
    KeepsO false g s (execAnp core up s) := by
  unfold execAnp
  refine .next ?_
  refine oneWord_keeps ?_ _
  intro s1 k1 t1 s2 t2 e1
  simp only [nestPush] at e1
  repeat' split at e1
  all_goals (cases e1 <;> exact Keeps.refl _ _ _)

theorem execOpB_keeps {g : Bool} (core : Nat) (up : Upset) (s : State) :
    KeepsO false g s (execOpB core up s) := by
  unfold execOpB
  refine .next ?_
  refine oneWord_keeps ?_ _
  intro s1 k1 t1 s2 t2 e1
  simp only [nestPush] at e1
  repeat' split at e1
  all_goals (cases e1 <;> exact Keeps.refl _ _ _)

theorem execOnp_keeps {g : Bool} (core : Nat) (up : Upset) (s : State) :
    KeepsO false g s (execOnp core up s) := by
  unfold execOnp
  refine .next ?_
  refine oneWord_keeps ?_ _
  intro s1 k1 t1 s2 t2 e1
  simp only [nestPush] at e1
  repeat' split at e1
  all_goals (cases e1 <;> exact Keeps.refl _ _ _)

theorem execXp_keeps {g : Bool} (core : Nat) (up : Upset) (s : State) :
    KeepsO false g s (execXp core up s) := by
  unfold execXp
  refine .next ?_
  refine oneWord_keeps ?_ _
  intro s1 k1 t1 s2 t2 e1
  simp only [nestPush] at e1
  repeat' split at e1
  all_goals (cases e1 <;> exact Keeps.refl _ _ _)

theorem execPop_keeps {g : Bool} (core : Nat) (up : Upset) (s : State) :
    KeepsO false g s (execPop core up s) := by
  unfold execPop
  refine .next ?_
  refine oneWord_keeps ?_ _
  intro s1 k1 t1 s2 t2 e1
  (try dsimp only at e1)
  repeat' split at e1
  all_goals (cases e1 <;> exact Keeps.refl _ _ _)

theorem execRedge_keeps {g : Bool} (core : Nat) (up : Upset) (edge : Nat) (s : State) :
    KeepsO false g s (execRedge core up edge s) := by
  unfold execRedge
  refine .next ?_
  refine oneWord_keeps ?_ _
  intro s1 k1 t1 s2 t2 e1
  simp only [edgeInstr, edgeUpdate] at e1
  repeat' split at e1
  all_goals (cases e1 <;> exact Keeps.refl _ _ _)

theorem execFedge_keeps {g : Bool} (core : Nat) (up : Upset) (edge : Nat) (s : State) :
    KeepsO false g s (execFedge core up edge s) := by
  unfold execFedge
  refine .next ?_
  refine oneWord_keeps ?_ _
  intro s1 k1 t1 s2 t2 e1
  simp only [edgeInstr, edgeUpdate] at e1
  repeat' split at e1
  all_goals (cases e1 <;> exact Keeps.refl _ _ _)

theorem execTon_keeps {g : Bool} (core : Nat) (up : Upset) (idx : Nat) (s : State) :
    KeepsO false g s (execTon core up idx s) := by
  unfold execTon
  refine .next ?_
  refine oneWord_keeps ?_ _
  intro s1 k1 t1 s2 t2 e1
  simp only [timerInstr, recordAddr] at e1
  repeat' split at e1
  all_goals (cases e1 <;> exact Keeps.refl _ _ _)

theorem execTof_keeps {g : Bool} (core : Nat) (up : Upset) (idx : Nat) (s : State) :
    KeepsO false g s (execTof core up idx s) := by
  unfold execTof
  refine .next ?_
  refine oneWord_keeps ?_ _
  intro s1 k1 t1 s2 t2 e1
  simp only [timerInstr, recordAddr] at e1
  repeat' split at e1
  all_goals (cases e1 <;> exact Keeps.refl _ _ _)

theorem execTp_keeps {g : Bool} (core : Nat) (up : Upset) (idx : Nat) (s : State) :
    KeepsO false g s (execTp core up idx s) := by
  unfold execTp
  refine .next ?_
  refine oneWord_keeps ?_ _
  intro s1 k1 t1 s2 t2 e1
  simp only [timerInstr, recordAddr] at e1
  repeat' split at e1
  all_goals (cases e1 <;> exact Keeps.refl _ _ _)

theorem execCtu_keeps {g : Bool} (core : Nat) (up : Upset) (idx : Nat) (s : State) :
    KeepsO false g s (execCtu core up idx s) := by
  unfold execCtu
  refine .next ?_
  refine oneWord_keeps ?_ _
  intro s1 k1 t1 s2 t2 e1
  simp only [countInstr, recordAddr] at e1
  repeat' split at e1
  all_goals (cases e1 <;> exact Keeps.refl _ _ _)

theorem execCtd_keeps {g : Bool} (core : Nat) (up : Upset) (idx : Nat) (s : State) :
    KeepsO false g s (execCtd core up idx s) := by
  unfold execCtd
  refine .next ?_
  refine oneWord_keeps ?_ _
  intro s1 k1 t1 s2 t2 e1
  simp only [countInstr, recordAddr] at e1
  repeat' split at e1
  all_goals (cases e1 <;> exact Keeps.refl _ _ _)

theorem execCrst_keeps {g : Bool} (core : Nat) (up : Upset) (idx : Nat) (s : State) :
    KeepsO false g s (execCrst core up idx s) := by
  unfold execCrst
  refine .next ?_
  refine oneWord_keeps ?_ _
  intro s1 k1 t1 s2 t2 e1
  simp only [countLoad, recordAddr] at e1
  repeat' split at e1
  all_goals (cases e1 <;> exact Keeps.refl _ _ _)

theorem execCld_keeps {g : Bool} (core : Nat) (up : Upset) (idx : Nat) (s : State) :
    KeepsO false g s (execCld core up idx s) := by
  unfold execCld
  refine .next ?_
  refine oneWord_keeps ?_ _
  intro s1 k1 t1 s2 t2 e1
  simp only [countLoad, recordAddr] at e1
  repeat' split at e1
  all_goals (cases e1 <;> exact Keeps.refl _ _ _)

theorem execLdw_keeps {g : Bool} (core : Nat) (up : Upset) (space : Nat) (idx : Nat) (s : State) :
    KeepsO false g s (execLdw core up space idx s) := by
  unfold execLdw
  refine .next ?_
  refine oneWord_keeps ?_ _
  intro s1 k1 t1 s2 t2 e1
  simp only [loadWord, wordOperand, slotOperand] at e1
  repeat' split at e1
  all_goals (cases e1 <;> exact Keeps.refl _ _ _)

theorem healData_keeps {b g : Bool} (s : State) (k : TaskRec) (a : Nat) :
    Keeps b g s (healData s k a) := by
  unfold healData
  exact .upd .rfl

theorem execStw_keeps {g : Bool} (core : Nat) (up : Upset) (space : Nat) (idx : Nat) (s : State) :
    KeepsO false g s (execStw core up space idx s) := by
  unfold execStw
  refine .next ?_
  refine oneWord_keeps ?_ _
  intro s1 k1 t1 s2 t2 e1
  simp only [storeWord, storeCheck, stageSlot] at e1
  repeat' split at e1
  all_goals (cases e1 <;> first | exact Keeps.refl _ _ _ | exact healData_keeps _ _ _)

theorem execLdk_keeps {g : Bool} (core : Nat) (up : Upset) (imm : BitVec 24) (s : State) :
    KeepsO false g s (execLdk core up imm s) := by
  unfold execLdk
  exact .next (regInstr_keeps _ _ _ _ _ _)

theorem execLdkx_keeps {g : Bool} (core : Nat) (up : Upset) (lo : Word) (hi : Word) (s : State) :
    KeepsO false g s (execLdkx core up lo hi s) := by
  unfold execLdkx
  refine .next ?_
  refine runInstr_keeps ?_ _
  intro s1 k1 t1 s2 t2 e1
  cases e1
  exact Keeps.refl _ _ _

theorem execLdwx_keeps {g : Bool} (core : Nat) (up : Upset) (space : Nat) (idx : Nat) (ext : Word) (s : State) :
    KeepsO false g s (execLdwx core up space idx ext s) := by
  unfold execLdwx
  refine .next ?_
  refine runInstr_keeps ?_ _
  intro s1 k1 t1 s2 t2 e1
  simp only [indexCheck, loadWord, wordOperand, slotOperand] at e1
  repeat' split at e1
  all_goals (cases e1 <;> exact Keeps.refl _ _ _)

theorem execStwx_keeps {g : Bool} (core : Nat) (up : Upset) (space : Nat) (idx : Nat) (ext : Word) (s : State) :
    KeepsO false g s (execStwx core up space idx ext s) := by
  unfold execStwx
  refine .next ?_
  refine runInstr_keeps ?_ _
  intro s1 k1 t1 s2 t2 e1
  simp only [indexCheck, storeWord, storeCheck, stageSlot] at e1
  repeat' split at e1
  all_goals (cases e1 <;> first | exact Keeps.refl _ _ _ | exact healData_keeps _ _ _)

theorem execTix_keeps {g : Bool} (core : Nat) (up : Upset) (s : State) :
    KeepsO false g s (execTix core up s) := by
  unfold execTix
  exact .next (regInstr_keeps _ _ _ _ _ _)

theorem execLdd_keeps {g : Bool} (core : Nat) (up : Upset) (s : State) :
    KeepsO false g s (execLdd core up s) := by
  unfold execLdd
  refine .next ?_
  refine oneWord_keeps ?_ _
  intro s1 k1 t1 s2 t2 e1
  (try dsimp only at e1)
  repeat' split at e1
  all_goals (cases e1 <;> exact Keeps.refl _ _ _)

theorem storeDram_keeps {g : Bool} (s : State) (k : TaskRec) (t : TaskSt) (a : Nat) (v : DWord) :
    Keeps false g s (storeDram s k t a v).1 := by
  unfold storeDram
  extract_lets -underBinder -merge -useContext +onlyGivenNames x1 x2 x3 x4
  exact .mk1 (State.storeMem_keeps _ _ _)

theorem execStd_keeps {g : Bool} (core : Nat) (up : Upset) (s : State) : KeepsO false g s (execStd core up s) := by
  unfold execStd
  refine KeepsO.next (oneWord_keeps ?_ _)
  intro s1 k1 t1 s2 t2 e1
  dsimp only [storeDram] at e1
  repeat' split at e1
  all_goals (cases e1 <;> exact State.storeMem_keeps _ _ _)


theorem execSwap_keeps {g : Bool} (core : Nat) (up : Upset) (s : State) :
    KeepsO false g s (execSwap core up s) := by
  unfold execSwap
  exact .next (regInstr_keeps _ _ _ _ _ _)

theorem execBtw_keeps {g : Bool} (core : Nat) (up : Upset) (s : State) :
    KeepsO false g s (execBtw core up s) := by
  unfold execBtw
  exact .next (regInstr_keeps _ _ _ _ _ _)

theorem execWtb_keeps {g : Bool} (core : Nat) (up : Upset) (s : State) :
    KeepsO false g s (execWtb core up s) := by
  unfold execWtb
  exact .next (regInstr_keeps _ _ _ _ _ _)

theorem execQtw_keeps {g : Bool} (core : Nat) (up : Upset) (s : State) :
    KeepsO false g s (execQtw core up s) := by
  unfold execQtw
  exact .next (regInstr_keeps _ _ _ _ _ _)

theorem execSetq_keeps {g : Bool} (core : Nat) (up : Upset) (q : Quality) (s : State) :
    KeepsO false g s (execSetq core up q s) := by
  unfold execSetq
  exact .next (regInstr_keeps _ _ _ _ _ _)

theorem execSetbq_keeps {g : Bool} (core : Nat) (up : Upset) (q : Quality) (s : State) :
    KeepsO false g s (execSetbq core up q s) := by
  unfold execSetbq
  exact .next (regInstr_keeps _ _ _ _ _ _)

theorem execAdd_keeps {g : Bool} (core : Nat) (up : Upset) (s : State) :
    KeepsO false g s (execAdd core up s) := by
  unfold execAdd
  exact .next (regInstr_keeps _ _ _ _ _ _)

theorem execSub_keeps {g : Bool} (core : Nat) (up : Upset) (s : State) :
    KeepsO false g s (execSub core up s) := by
  unfold execSub
  exact .next (regInstr_keeps _ _ _ _ _ _)

theorem execMul_keeps {g : Bool} (core : Nat) (up : Upset) (s : State) :
    KeepsO false g s (execMul core up s) := by
  unfold execMul
  exact .next (regInstr_keeps _ _ _ _ _ _)

theorem execDiv_keeps {g : Bool} (core : Nat) (up : Upset) (s : State) :
    KeepsO false g s (execDiv core up s) := by
  unfold execDiv
  exact .next (regInstr_keeps _ _ _ _ _ _)

theorem execMod_keeps {g : Bool} (core : Nat) (up : Upset) (s : State) :
    KeepsO false g s (execMod core up s) := by
  unfold execMod
  exact .next (regInstr_keeps _ _ _ _ _ _)

theorem execWand_keeps {g : Bool} (core : Nat) (up : Upset) (s : State) :
    KeepsO false g s (execWand core up s) := by
  unfold execWand
  exact .next (regInstr_keeps _ _ _ _ _ _)

theorem execWor_keeps {g : Bool} (core : Nat) (up : Upset) (s : State) :
    KeepsO false g s (execWor core up s) := by
  unfold execWor
  exact .next (regInstr_keeps _ _ _ _ _ _)

theorem execWxor_keeps {g : Bool} (core : Nat) (up : Upset) (s : State) :
    KeepsO false g s (execWxor core up s) := by
  unfold execWxor
  exact .next (regInstr_keeps _ _ _ _ _ _)

theorem execWnot_keeps {g : Bool} (core : Nat) (up : Upset) (s : State) :
    KeepsO false g s (execWnot core up s) := by
  unfold execWnot
  exact .next (regInstr_keeps _ _ _ _ _ _)

theorem execNeg_keeps {g : Bool} (core : Nat) (up : Upset) (s : State) :
    KeepsO false g s (execNeg core up s) := by
  unfold execNeg
  exact .next (regInstr_keeps _ _ _ _ _ _)

theorem execShl_keeps {g : Bool} (core : Nat) (up : Upset) (amount : Nat) (s : State) :
    KeepsO false g s (execShl core up amount s) := by
  unfold execShl
  exact .next (regInstr_keeps _ _ _ _ _ _)

theorem execShr_keeps {g : Bool} (core : Nat) (up : Upset) (amount : Nat) (s : State) :
    KeepsO false g s (execShr core up amount s) := by
  unfold execShr
  exact .next (regInstr_keeps _ _ _ _ _ _)

theorem execSar_keeps {g : Bool} (core : Nat) (up : Upset) (amount : Nat) (s : State) :
    KeepsO false g s (execSar core up amount s) := by
  unfold execSar
  exact .next (regInstr_keeps _ _ _ _ _ _)

theorem execAddk_keeps {g : Bool} (core : Nat) (up : Upset) (imm : BitVec 24) (s : State) :
    KeepsO false g s (execAddk core up imm s) := by
  unfold execAddk
  exact .next (regInstr_keeps _ _ _ _ _ _)

theorem execAbs_keeps {g : Bool} (core : Nat) (up : Upset) (s : State) :
    KeepsO false g s (execAbs core up s) := by
  unfold execAbs
  exact .next (regInstr_keeps _ _ _ _ _ _)

theorem execEq_keeps {g : Bool} (core : Nat) (up : Upset) (s : State) :
    KeepsO false g s (execEq core up s) := by
  unfold execEq
  exact .next (regInstr_keeps _ _ _ _ _ _)

theorem execNe_keeps {g : Bool} (core : Nat) (up : Upset) (s : State) :
    KeepsO false g s (execNe core up s) := by
  unfold execNe
  exact .next (regInstr_keeps _ _ _ _ _ _)

theorem execLt_keeps {g : Bool} (core : Nat) (up : Upset) (s : State) :
    KeepsO false g s (execLt core up s) := by
  unfold execLt
  exact .next (regInstr_keeps _ _ _ _ _ _)

theorem execLe_keeps {g : Bool} (core : Nat) (up : Upset) (s : State) :
    KeepsO false g s (execLe core up s) := by
  unfold execLe
  exact .next (regInstr_keeps _ _ _ _ _ _)

theorem execGt_keeps {g : Bool} (core : Nat) (up : Upset) (s : State) :
    KeepsO false g s (execGt core up s) := by
  unfold execGt
  exact .next (regInstr_keeps _ _ _ _ _ _)

theorem execGe_keeps {g : Bool} (core : Nat) (up : Upset) (s : State) :
    KeepsO false g s (execGe core up s) := by
  unfold execGe
  exact .next (regInstr_keeps _ _ _ _ _ _)

theorem execLtu_keeps {g : Bool} (core : Nat) (up : Upset) (s : State) :
    KeepsO false g s (execLtu core up s) := by
  unfold execLtu
  exact .next (regInstr_keeps _ _ _ _ _ _)

theorem execGeu_keeps {g : Bool} (core : Nat) (up : Upset) (s : State) :
    KeepsO false g s (execGeu core up s) := by
  unfold execGeu
  exact .next (regInstr_keeps _ _ _ _ _ _)

theorem execFadd_keeps {g : Bool} (core : Nat) (up : Upset) (s : State) :
    KeepsO false g s (execFadd core up s) := by
  unfold execFadd
  exact .next (regInstr_keeps _ _ _ _ _ _)

theorem execFsub_keeps {g : Bool} (core : Nat) (up : Upset) (s : State) :
    KeepsO false g s (execFsub core up s) := by
  unfold execFsub
  exact .next (regInstr_keeps _ _ _ _ _ _)

theorem execFmul_keeps {g : Bool} (core : Nat) (up : Upset) (s : State) :
    KeepsO false g s (execFmul core up s) := by
  unfold execFmul
  exact .next (regInstr_keeps _ _ _ _ _ _)

theorem execFdiv_keeps {g : Bool} (core : Nat) (up : Upset) (s : State) :
    KeepsO false g s (execFdiv core up s) := by
  unfold execFdiv
  exact .next (regInstr_keeps _ _ _ _ _ _)

theorem execFsqrt_keeps {g : Bool} (core : Nat) (up : Upset) (s : State) :
    KeepsO false g s (execFsqrt core up s) := by
  unfold execFsqrt
  exact .next (regInstr_keeps _ _ _ _ _ _)

theorem execFneg_keeps {g : Bool} (core : Nat) (up : Upset) (s : State) :
    KeepsO false g s (execFneg core up s) := by
  unfold execFneg
  exact .next (regInstr_keeps _ _ _ _ _ _)

theorem execFabs_keeps {g : Bool} (core : Nat) (up : Upset) (s : State) :
    KeepsO false g s (execFabs core up s) := by
  unfold execFabs
  exact .next (regInstr_keeps _ _ _ _ _ _)

theorem execItf_keeps {g : Bool} (core : Nat) (up : Upset) (s : State) :
    KeepsO false g s (execItf core up s) := by
  unfold execItf
  exact .next (regInstr_keeps _ _ _ _ _ _)

theorem execFti_keeps {g : Bool} (core : Nat) (up : Upset) (s : State) :
    KeepsO false g s (execFti core up s) := by
  unfold execFti
  exact .next (regInstr_keeps _ _ _ _ _ _)

theorem execFeq_keeps {g : Bool} (core : Nat) (up : Upset) (s : State) :
    KeepsO false g s (execFeq core up s) := by
  unfold execFeq
  exact .next (regInstr_keeps _ _ _ _ _ _)

theorem execFlt_keeps {g : Bool} (core : Nat) (up : Upset) (s : State) :
    KeepsO false g s (execFlt core up s) := by
  unfold execFlt
  exact .next (regInstr_keeps _ _ _ _ _ _)

theorem execFle_keeps {g : Bool} (core : Nat) (up : Upset) (s : State) :
    KeepsO false g s (execFle core up s) := by
  unfold execFle
  exact .next (regInstr_keeps _ _ _ _ _ _)

theorem execFmin_keeps {g : Bool} (core : Nat) (up : Upset) (s : State) :
    KeepsO false g s (execFmin core up s) := by
  unfold execFmin
  exact .next (regInstr_keeps _ _ _ _ _ _)

theorem execFmax_keeps {g : Bool} (core : Nat) (up : Upset) (s : State) :
    KeepsO false g s (execFmax core up s) := by
  unfold execFmax
  exact .next (regInstr_keeps _ _ _ _ _ _)

theorem execRds_keeps {g : Bool} (core : Nat) (up : Upset) (num : Nat) (s : State) :
    KeepsO false g s (execRds core up num s) := by
  unfold execRds
  refine .next ?_
  refine oneWord_keeps ?_ _
  intro s1 k1 t1 s2 t2 e1
  repeat' split at e1
  all_goals (cases e1 <;> exact Keeps.refl _ _ _)

theorem execWrs_keeps {g : Bool} (core : Nat) (up : Upset) (num : Nat) (s : State) :
    KeepsO false g s (execWrs core up num s) := by
  unfold execWrs
  refine .next ?_
  refine oneWord_keeps ?_ _
  intro s1 k1 t1 s2 t2 e1
  (try dsimp only at e1)
  repeat' split at e1
  all_goals (cases e1 <;> exact Keeps.refl _ _ _)

theorem execUndefinedOpcode_keeps {g : Bool} (core : Nat) (up : Upset) (word : Word) (s : State) :
    KeepsO false g s (execUndefinedOpcode core up word s) := by
  unfold execUndefinedOpcode
  refine .next ?_
  refine .ite ?_ .rfl
  refine runInstr_keeps ?_ _
  intro s1 k1 t1 s2 t2 e1
  cases e1

theorem verdictEnd_keeps {b g : Bool} (s : State) (part : Nat) :
    Keeps b g s (verdictEnd s part) := by
  unfold verdictEnd
  extract_lets -underBinder -merge -useContext +onlyGivenNames x1 x2 x3 x4 x5 x6
  have hx3 : Keeps b g s x3 := (State.setFld_keeps _ _ _).after ((State.setFld_keeps _ _ _).after (State.setFld_keeps _ _ _))
  have hx4 : Keeps b g s x4 := (State.setFlag_keeps _ _ _).after ((State.count_keeps _ _ _).after (hx3))
  have hx5 : Keeps b g s x5 := (State.raise_keeps _ _ _ _ _).after ((State.withCheck_keeps _ _).after ((endActivity_keeps _ _ _).after (hx4)))
  have hx6 : Keeps b g s x6 := (State.strait_keeps _ _ _ _).after (hx5)
  exact .ite (hx6) ((requestSafe_keeps _ _).after (hx6))

theorem execVerdict_keeps {b g : Bool} (memOk : Bool) (imageOk : Bool) (coreOk : Bool) (s : State) :
    KeepsO b g s (execVerdict memOk imageOk coreOk s) := by
  unfold execVerdict
  split
  · exact .next .rfl
  · exact .next (.ite ((verdictEnd_keeps _ _).after (State.at_keeps _ _)) .rfl)

theorem execSplitStart_keeps {b g : Bool} (s : State) :
    KeepsO b g s (execSplitStart s) := by
  unfold execSplitStart
  split
  · exact .next .rfl
  · exact .ite (.next .rfl) (.ite (.next ((beginSplit_keeps _ _).after (State.at_keeps _ _))) (.next ((showSplitIdle_keeps _).after (setActivity_keeps _ _ _))))

theorem execSplitRejoin_keeps {b g : Bool} (pass : Bool) (s : State) :
    KeepsO b g s (execSplitRejoin pass s) := by
  unfold execSplitRejoin
  split
  · exact .next .rfl
  · exact .next (.ite ((endSplit_keeps _ _).after (State.at_keeps _ _)) .rfl)

theorem execSafeReq_keeps {b g : Bool} (v : Word) (s : State) :
    KeepsO b g s (execSafeReq v s) := by
  unfold execSafeReq
  exact .next (writeSafeReq_keeps _ _)

theorem execTaskReEnable_keeps {g : Bool} (v : Word) (s : State) :
    KeepsO false g s (execTaskReEnable v s) := by
  unfold execTaskReEnable
  exact .next (writeReg_keeps _ _ _ _)

theorem execSplitRequest_keeps {b g : Bool} (v : Word) (s : State) :
    KeepsO b g s (execSplitRequest v s) := by
  unfold execSplitRequest
  exact .next (writeSplit_keeps _ _)

theorem execCrownSwapReq_keeps {b g : Bool} (v : Word) (s : State) :
    KeepsO b g s (execCrownSwapReq v s) := by
  unfold execCrownSwapReq
  exact .next (writeSwapReq_keeps _ _)

theorem execGuardApply_keeps {g : Bool} (v : Word) (s : State) :
    KeepsO false g s (execGuardApply v s) := by
  unfold execGuardApply
  exact .next (writeReg_keeps _ _ _ _)

theorem execCausewayReq_keeps {b g : Bool} (ring : Nat) (v : Word) (s : State) :
    KeepsO b g s (execCausewayReq ring v s) := by
  unfold execCausewayReq
  exact .next (writeRingCtrl_keeps _ _ _)

theorem execTriggerArm_keeps {b g : Bool} (trig : Nat) (v : Word) (s : State) :
    KeepsO b g s (execTriggerArm trig v s) := by
  unfold execTriggerArm
  exact .next (writeTrigCtrl_keeps _ _ _)

theorem execTriggerFire_keeps {b g : Bool} (trig : Nat) (s : State) :
    KeepsO b g s (execTriggerFire trig s) := by
  unfold execTriggerFire
  split
  · exact .next .rfl
  · refine .ite (.next .rfl) ?_
    extract_lets -underBinder -merge -useContext +onlyGivenNames x1
    have hx1 : Keeps b g s x1 := (deliverStart_keeps _ _ _ _).after (State.setNow_keeps _ _ _)
    try clear_value x1
    refine .next ?_
    split
    · exact (setTrigNext_keeps _ _ _).after ((trigState_keeps _ _ _).after (hx1))
    · exact (setTrigNext_keeps _ _ _).after (hx1)
    · exact (setTrigNext_keeps _ _ _).after (hx1)

theorem execCapture_keeps {b g : Bool} (cap : Nat) (ns : DWord) (frac : Nat) (rising : Bool) (s : State) :
    KeepsO b g s (execCapture cap ns frac rising s) := by
  unfold execCapture
  extract_lets -underBinder -merge -useContext +onlyGivenNames x1
  exact .next (.ite (stampUnit_keeps _ _ _ _) .rfl)

theorem execCaptureRead_keeps {b g : Bool} (who : Requester) (s : State) :
    KeepsO b g s (execCaptureRead who s) := by
  unfold execCaptureRead
  exact .next (captureLowRead_keeps _ _)

theorem execDeclaredPairLowRead_keeps {b g : Bool} (who : Requester) (addr : Nat) (s : State) :
    KeepsO b g s (execDeclaredPairLowRead who addr s) := by
  unfold execDeclaredPairLowRead
  split
  · exact .next .rfl
  · exact .next (.ite (readReg_keeps _ _ _ _ _) .rfl)

theorem regRefused_keeps {b g : Bool} (s : State) (who : Requester) (a : Nat) (write : Bool) (why : Nat × Nat) :
    Keeps b g s (regRefused s who a write why) := by
  unfold regRefused
  split
  · exact .rfl
  · exact .ite (guardRefuse_keeps _ _ _ _ _) .rfl

theorem registerWrite_keeps {g : Bool} (s : State) (who : Requester) (a : Nat) (v : Word) :
    Keeps false g s (registerWrite s who a v) := by
  unfold registerWrite
  split
  · exact regRefused_keeps _ _ _ _ _
  · exact .ite (writeReg_keeps _ _ _ _) .rfl

theorem execRegisterWrite_keeps {g : Bool} (who : Requester) (addr : Nat) (v : Word) (s : State) :
    KeepsO false g s (execRegisterWrite who addr v s) := by
  unfold execRegisterWrite
  exact .next (registerWrite_keeps _ _ _ _)

theorem outsidePtp_keeps {b g : Bool} (s : State) (port : Nat) :
    Keeps b g s (outsidePtp s port) := by
  unfold outsidePtp
  exact .ite (State.count_keeps _ _ _) .rfl

theorem servo_keeps {b g : Bool} (s : State) (off : Int) (local_ : DWord) :
    Keeps b g s (servo s off local_) := by
  unfold servo
  extract_lets -underBinder -merge -useContext +onlyGivenNames x1 x2 x3 x4 x5 x6
  try clear_value x1
  try clear_value x2
  try clear_value x3
  try clear_value x4
  try clear_value x5
  try clear_value x6
  split
  split
  extract_lets -underBinder -merge -useContext +onlyGivenNames x7
  try clear_value x7
  split
  split
  extract_lets -underBinder -merge -useContext +onlyGivenNames x8 x9
  have hx8 : Keeps b g s x8 := State.setReg_keeps _ _ _
  have hx9 : Keeps b g s x9 := .ite ((State.note_keeps _ _).after (hx8)) (hx8)
  exact (State.withTime_keeps _ _).after (hx9)

theorem loseReference_keeps {b g : Bool} (s : State) (port : Nat) (cause : Nat) :
    Keeps b g s (loseReference s port cause) := by
  unfold loseReference
  extract_lets -underBinder -merge -useContext +onlyGivenNames x1
  have hx1 : Keeps b g s x1 := State.withTime_keeps _ _
  try clear_value x1
  refine .ite (hx1) ?_
  extract_lets -underBinder -merge -useContext +onlyGivenNames x2 x3
  have hx2 : Keeps b g s x2 := .ite ((State.withTime_keeps _ _).after (hx1)) (hx1)
  have hx3 : Keeps b g s x3 := .ite ((clearPending_keeps _).after (hx2)) (hx2)
  exact (reselect_keeps _).after (hx3)

theorem selectedSample_keeps {b g : Bool} (s : State) (port : Nat) (off : Int) (local_ : DWord) :
    Keeps b g s (selectedSample s port off local_) := by
  unfold selectedSample
  extract_lets -underBinder -merge -useContext +onlyGivenNames x1
  have hx1 : Keeps b g s x1 := State.setReg_keeps _ _ _
  try clear_value x1
  refine .ite ((servo_keeps _ _ _).after ((State.withTime_keeps _ _).after (hx1))) ?_
  extract_lets -underBinder -merge -useContext +onlyGivenNames x2
  have hx2 : Keeps b g s x2 := (State.withTime_keeps _ _).after ((refuseSample_keeps _ _ _).after (hx1))
  exact .ite ((loseReference_keeps _ _ _).after ((State.withTime_keeps _ _).after (hx2))) (hx2)

theorem execOffsetSample_keeps {b g : Bool} (port : Nat) (raw : Int) (refNs : DWord) (refFrac : Nat) (s : State) :
    KeepsO b g s (execOffsetSample port raw refNs refFrac s) := by
  unfold execOffsetSample
  extract_lets -underBinder -merge -useContext +onlyGivenNames x1
  exact .ite (.next (outsidePtp_keeps _ _)) (.ite (.next .rfl) (.ite (.next (.ite (acquireSample_keeps _ _ _ _ _) .rfl)) (.ite (.next (selectedSample_keeps _ _ _ _)) (.next (candidateSample_keeps _ _ _)))))

theorem execFreeStart_keeps {b g : Bool} (s : State) :
    KeepsO b g s (execFreeStart s) := by
  unfold execFreeStart
  extract_lets -underBinder -merge -useContext +onlyGivenNames x1
  exact .ite (.next ((reselect_keeps _).after (acquire_keeps _ _ _))) (.next .rfl)

theorem execReferenceLost_keeps {b g : Bool} (port : Nat) (cause : Nat) (s : State) :
    KeepsO b g s (execReferenceLost port cause s) := by
  unfold execReferenceLost
  exact .next (.ite (loseReference_keeps _ _ _) .rfl)

theorem execHoldoffExpiry_keeps {b g : Bool} (s : State) :
    KeepsO b g s (execHoldoffExpiry s) := by
  unfold execHoldoffExpiry
  exact .ite (.next ((State.withTime_keeps _ _).after (makePending_keeps _ _))) (.next .rfl)

theorem execSkerryClockSet_keeps {b g : Bool} (s : State) :
    KeepsO b g s (execSkerryClockSet s) := by
  unfold execSkerryClockSet
  exact .ite (.next (.upd .rfl)) (.next .rfl)

theorem execPtpEventMessage_keeps {b g : Bool} (m : PtpEvent) (s : State) :
    KeepsO b g s (execPtpEventMessage m s) := by
  unfold execPtpEventMessage
  refine .ite (.next (State.count_keeps _ _ _)) ?_
  refine .ite ?_ (.next .rfl)
  extract_lets -underBinder -merge -useContext +onlyGivenNames x1 x2 x3 x4 x5 x6
  have hx6 : Keeps b g s x6 := State.sendNet_keeps _ _ _
  exact .next (.ite ((State.sendNet_keeps _ _ _).after (hx6)) (hx6))

theorem putDelay_keeps {b g : Bool} (ring : Nat) (ccw : Bool) (s : State) (e : Nat × Int) :
    Keeps b g s (putDelay ring ccw s e) := by
  unfold putDelay
  extract_lets -underBinder -merge -useContext +onlyGivenNames x1 x2 x3 x4
  try clear_value x1
  try clear_value x2
  try clear_value x3
  try clear_value x4
  refine .ite ?_ .rfl
  extract_lets -underBinder -merge -useContext +onlyGivenNames x5
  have hx5 : Keeps b g s x5 := State.withTime_keeps _ _
  exact (askStation_keeps _ _ _ _ _ _).after (hx5)

theorem execRingDelayUpdate_keeps {b g : Bool} (ring : Nat) (stamps : List StationStamps) (s : State) :
    KeepsO b g s (execRingDelayUpdate ring stamps s) := by
  unfold execRingDelayUpdate
  refine .ite ?_ (.next .rfl)
  extract_lets -underBinder -merge -useContext +onlyGivenNames x1 x2 x3 x4 x5 x6 x7 x8 x9 x12 x15
  have hx9 : Keeps b g s x9 := .ite (.fold (fun _ _ => putDelay_keeps _ _ _ _) .rfl) .rfl
  have hx12 : Keeps b g s x12 := .ite (.fold (fun _ _ => putDelay_keeps _ _ _ _) (hx9)) (hx9)
  have hx15 : Keeps b g s x15 := .ite ((State.note_keeps _ _).after (hx12)) (hx12)
  exact .next ((State.withTime_keeps _ _).after (hx15))

theorem execLinkDown_keeps {b g : Bool} (port : Nat) (s : State) :
    KeepsO b g s (execLinkDown port s) := by
  unfold execLinkDown
  extract_lets -underBinder -merge -useContext +onlyGivenNames x1
  have hx1 : Keeps b g s x1 := (State.setFld_keeps _ _ _).after (State.setFlag_keeps _ _ _)
  exact .next ((loseReference_keeps _ _ _).after ((closePort_keeps _ _).after (hx1)))

theorem receiveReply_keeps {b g : Bool} (s : State) (k : Nat) (f : AcycView) :
    Keeps b g s (receiveReply s k f) := by
  unfold receiveReply
  extract_lets -underBinder -merge -useContext +onlyGivenNames x1
  try clear_value x1
  split
  · exact State.count_keeps _ _ _
  · exact .ite (State.count_keeps _ _ _) ((deliverReply_keeps _ _ _ _).after (setReqs_keeps _ _ _))

theorem receiveAcyclic_keeps {b g : Bool} (s : State) (k : Nat) (rx : AcycFrame) (first : Cell) :
    Keeps b g s (receiveAcyclic s k rx first) := by
  unfold receiveAcyclic
  refine .ite (.ite (State.count_keeps _ _ _) .rfl) ?_
  split
  · exact .rfl
  · exact receiveReply_keeps _ _ _

theorem execAcyclicFrame_keeps {b g : Bool} (ring : Nat) (f : AcycFrame) (s : State) :
    KeepsO b g s (execAcyclicFrame ring f s) := by
  unfold execAcyclicFrame
  refine .next ?_
  refine .ite ?_ .rfl
  extract_lets -underBinder -merge -useContext +onlyGivenNames x1 x2 x3
  have hx2 : Keeps b g s x2 := forwardCells_keeps _ _ _ _
  have hx3 : Keeps b g s x3 := (receiveCells_keeps _ _ _ _ _ _).after (hx2)
  try clear_value x1
  try clear_value x2
  try clear_value x3
  split
  · exact .ite ((receiveAcyclic_keeps _ _ _ _).after (hx3)) (hx3)
  · exact hx3

theorem sendRequest_keeps {b g : Bool} (s : State) (k : Nat) :
    Keeps b g s (sendRequest s k) := by
  unfold sendRequest
  extract_lets -underBinder -merge -useContext +onlyGivenNames x1 x2
  try clear_value x1
  try clear_value x2
  split
  · extract_lets -underBinder -merge -useContext +onlyGivenNames x3
    try clear_value x3
    refine .ite .rfl ?_
    extract_lets -underBinder -merge -useContext +onlyGivenNames x4 x5
    have hx5 : Keeps b g s x5 := (setReqs_keeps _ _ _).after (State.setRing_keeps _ _ _)
    exact (State.emit_keeps _ _).after (hx5)
  · exact .rfl

theorem execAcyclicRequestSend_keeps {b g : Bool} (ring : Nat) (s : State) :
    KeepsO b g s (execAcyclicRequestSend ring s) := by
  unfold execAcyclicRequestSend
  exact .next (.ite (sendRequest_keeps _ _) .rfl)

theorem execAcyclicTimeout_keeps {b g : Bool} (ring : Nat) (tag : Nat) (s : State) :
    KeepsO b g s (execAcyclicTimeout ring tag s) := by
  unfold execAcyclicTimeout
  extract_lets -underBinder -merge -useContext +onlyGivenNames x1
  try clear_value x1
  split
  · exact .next .rfl
  · refine .ite (.next .rfl) ?_
    extract_lets -underBinder -merge -useContext +onlyGivenNames x2 x3
    have hx2 : Keeps b g s x2 := State.setRing_keeps _ _ _
    have hx3 : Keeps b g s x3 := (setReqs_keeps _ _ _).after (hx2)
    exact .next ((deliverTimeout_keeps _ _ _).after ((State.count_keeps _ _ _).after (hx3)))

theorem portReceived_keeps {b g : Bool} (s : State) (p : Nat) (ns : DWord) :
    Keeps b g s (portReceived s p ns) := by
  unfold portReceived
  extract_lets -underBinder -merge -useContext +onlyGivenNames x1
  have hx1 : Keeps b g s x1 := .ite (.upd .rfl) .rfl
  exact (State.count_keeps _ _ _).after (hx1)

theorem onFrame_keeps {b g : Bool} {s t : State} {p : Nat} {ns : DWord} {f : State → State} (ht : Keeps b g s t)
    (hf : ∀ x, Keeps b g s x → Keeps b g s (f x)) : Keeps b g s (onFrame t p ns f) := by
  unfold onFrame
  exact .ite ht (.ite ((State.count_keeps _ _ _).after ht) (hf _ ((portReceived_keeps _ _ _).after ht)))


theorem execProbe_keeps {b g : Bool} (port : Nat) (ns : DWord) (s : State) :
    KeepsO b g s (execProbe port ns s) := by
  unfold execProbe
  refine .next ?_
  refine onFrame_keeps .rfl ?_
  intro u1 hu1
  extract_lets -underBinder -merge -useContext +onlyGivenNames x2 x3
  have hx3 : Keeps b g s x3 := .upd (hu1)
  exact .ite (hx3) ((State.sendNet_keeps _ _ _).after (hx3))

theorem refuseOpen_keeps {b g : Bool} (s : State) (port : Nat) (code : Nat) (ns : DWord) :
    Keeps b g s (refuseOpen s port code ns) := by
  unfold refuseOpen
  exact State.sendNet_keeps _ _ _

theorem execOpenSession_keeps {b g : Bool} (port : Nat) (o : OpenMsg) (s : State) :
    KeepsO b g s (execOpenSession port o s) := by
  unfold execOpenSession
  refine .next ?_
  refine onFrame_keeps .rfl ?_
  intro u1 hu1
  refine .ite ((refuseOpen_keeps _ _ _ _).after (hu1)) ?_
  refine .ite ((refuseOpen_keeps _ _ _ _).after ((State.count_keeps _ _ _).after (hu1))) ?_
  split
  · exact (refuseOpen_keeps _ _ _ _).after ((State.count_keeps _ _ _).after (hu1))
  · exact (acceptOpen_keeps _ _ _ _).after (hu1)

theorem sendNack_keeps {b g : Bool} (s : State) (port : Nat) (m : CmdMsg) :
    Keeps b g s (sendNack s port m) := by
  unfold sendNack
  extract_lets -underBinder -merge -useContext +onlyGivenNames x1 x2 x3
  have hx1 : Keeps b g s x1 := State.count_keeps _ _ _
  try clear_value x1
  try clear_value x2
  try clear_value x3
  refine .ite (hx1) ?_
  extract_lets -underBinder -merge -useContext +onlyGivenNames x4
  have hx4 : Keeps b g s x4 := .upd (hx1)
  exact (State.sendNet_keeps _ _ _).after (hx4)

theorem judgeCommand_keeps {b g : Bool} (s : State) (k : Nat) (m : CmdMsg) :
    Keeps b g s (judgeCommand s k m) := by
  unfold judgeCommand
  extract_lets -underBinder -merge -useContext +onlyGivenNames x1 x2
  have hx2 : Keeps b g s x2 := (showSessions_keeps _).after ((State.setFld_keeps _ _ _).after (State.setSess_keeps _ _ _))
  try clear_value x1
  try clear_value x2
  refine .ite ((resultNow_keeps _ _ _ _ _ _).after (hx2)) ?_
  split
  · exact (resultNow_keeps _ _ _ _ _ _).after (hx2)
  · exact .ite ((resultNow_keeps _ _ _ _ _ _).after (hx2)) (.ite ((resultNow_keeps _ _ _ _ _ _).after (hx2)) ((admitCommand_keeps _ _ _).after (hx2)))

theorem execCommand_keeps {b g : Bool} (port : Nat) (m : CmdMsg) (s : State) :
    KeepsO b g s (execCommand port m s) := by
  unfold execCommand
  refine .next ?_
  refine onFrame_keeps .rfl ?_
  intro u1 hu1
  split
  · exact (sendNack_keeps _ _ _).after (hu1)
  · exact .ite ((judgeCommand_keeps _ _ _).after (hu1)) ((sendNack_keeps _ _ _).after (hu1))

theorem execHalfOpenTimeout_keeps {b g : Bool} (slot : Nat) (s : State) :
    KeepsO b g s (execHalfOpenTimeout slot s) := by
  unfold execHalfOpenTimeout
  exact .next (.ite (closeSession_keeps _ _) .rfl)

theorem execSessionIdleTimeout_keeps {b g : Bool} (slot : Nat) (s : State) :
    KeepsO b g s (execSessionIdleTimeout slot s) := by
  unfold execSessionIdleTimeout
  exact .next (.ite (closeSession_keeps _ _) .rfl)

theorem onCommand_keeps {b g : Bool} {s t : State} {k opcode : Nat} {f : QCmd → State} (h : Keeps b g s t)
    (hf : ∀ q, Keeps b g s (f q)) : Keeps b g s (onCommand t k opcode f) := by
  unfold onCommand
  split
  · exact h
  · exact Keeps.ite (hf _) h

theorem execStatusCmd_keeps {b g : Bool} (slot : Nat) (s : State) :
    KeepsO b g s (execStatusCmd slot s) := by
  unfold execStatusCmd
  exact .next (onCommand_keeps .rfl (fun u1 => finishCommand_keeps _ _ _ _))

theorem execSessionClose_keeps {b g : Bool} (slot : Nat) (s : State) :
    KeepsO b g s (execSessionClose slot s) := by
  unfold execSessionClose
  refine .next ?_
  refine onCommand_keeps .rfl ?_
  intro u1
  extract_lets -underBinder -merge -useContext +onlyGivenNames x2
  try clear_value x2
  refine .ite ((closeSession_keeps _ _).after (finishCommand_keeps _ _ _ _)) ?_
  split
  · exact finishCommand_keeps _ _ _ _
  · exact .ite ((finishCommand_keeps _ _ _ _).after (closeSession_keeps _ _)) (finishCommand_keeps _ _ _ _)

theorem execEventSubscribe_keeps {b g : Bool} (slot : Nat) (s : State) :
    KeepsO b g s (execEventSubscribe slot s) := by
  unfold execEventSubscribe
  exact .next (onCommand_keeps .rfl (fun u1 => (finishCommand_keeps _ _ _ _).after (State.setSess_keeps _ _ _)))

theorem hostRegCheck_keeps {b g : Bool} {s t : State} {slot a n code : Nat} {write : Bool}
    (h : hostRegCheck s slot a n write = some (t, code)) : Keeps b g s t := by
  unfold hostRegCheck at h
  repeat' split at h
  all_goals cases h
  · exact Keeps.refl _ _ _
  · exact guardRefuse_keeps _ _ _ _ _
  · exact regRefused_keeps _ _ _ _ _
  · exact Keeps.refl _ _ _

theorem readBytes_keeps {b g : Bool} (s : State) (who : Requester) (a : Nat) (n : Nat) :
    Keeps b g s (readBytes s who a n).2 := by
  unfold readBytes
  split
  · split
    · exact .mk2 .rfl
    · extract_lets -underBinder -merge -useContext +onlyGivenNames x1
      try clear_value x1
      split
      rename_i p3 p4 hq2
      have hp4 : Keeps b g s p4 := .snd hq2 (readReg_keeps _ _ _ _ _)
      exact .mk2 (hp4)
  · extract_lets -underBinder -merge -useContext +onlyGivenNames x5
    try clear_value x5
    split
    rename_i p7 p8 hq6
    have hp8 : Keeps b g s p8 := .snd hq6 (readReg_keeps _ _ _ _ _)
    exact .mk2 (hp8)

theorem execRegRead_keeps {b g : Bool} (slot : Nat) (s : State) : KeepsO b g s (execRegRead slot s) := by
  unfold execRegRead
  refine KeepsO.next (onCommand_keeps (Keeps.refl _ _ _) ?_)
  intro q
  dsimp only
  split
  next h => exact (finishCommand_keeps _ _ _ _).after (hostRegCheck_keeps h)
  · exact (finishCommand_keeps _ _ _ _).after (readBytes_keeps _ _ _ _)

theorem writeBytes_keeps {g : Bool} (s : State) (a : Nat) (n : Nat) (v : Nat) (slot : Option Nat) :
    Keeps false g s (writeBytes s a n v slot) := by
  unfold writeBytes
  exact .ite .rfl (.ite ((writeReg_keeps _ _ _ _).after (writeReg_keeps _ _ _ _)) (writeReg_keeps _ _ _ _))

theorem execRegWrite_keeps {g : Bool} (slot : Nat) (s : State) : KeepsO false g s (execRegWrite slot s) := by
  unfold execRegWrite
  refine KeepsO.next (onCommand_keeps (Keeps.refl _ _ _) ?_)
  intro q
  dsimp only
  split
  next h => exact (finishCommand_keeps _ _ _ _).after (hostRegCheck_keeps h)
  split
  · exact (writeBytes_keeps _ _ _ _ _).after (holdCommand_keeps _ _)
  · exact (finishCommand_keeps _ _ _ _).after (writeBytes_keeps _ _ _ _ _)

theorem startMemCommand_keeps {b g : Bool} (s : State) (k : Nat) (a : Nat) (n : Nat) (write : Bool) (data : List Byte) :
    Keeps b g s (startMemCommand s k a n write data) := by
  unfold startMemCommand
  extract_lets -underBinder -merge -useContext +onlyGivenNames x1 x2 x3 x4 x5
  have hx2 : Keeps b g s x2 := channelStart_keeps _ _
  have hx3 : Keeps b g s x3 := (State.setReg_keeps _ _ _).after ((State.setReg_keeps _ _ _).after ((State.setFld_keeps _ _ _).after (hx2)))
  have hx5 : Keeps b g s x5 := (State.setChan_keeps _ _ _).after (hx3)
  exact .ite ((channelError_keeps _ _ _).after (hx5)) (hx5)

theorem memCommand_keeps {b g : Bool} (s : State) (slot : Nat) (q : QCmd) (write : Bool) :
    Keeps b g s (memCommand s slot q write) := by
  unfold memCommand
  extract_lets -underBinder -merge -useContext +onlyGivenNames x1 x2
  exact .ite (finishCommand_keeps _ _ _ _) (.ite ((startMemCommand_keeps _ _ _ _ _ _).after (holdCommand_keeps _ _)) .rfl)

theorem execMemRead_keeps {b g : Bool} (slot : Nat) (s : State) :
    KeepsO b g s (execMemRead slot s) := by
  unfold execMemRead
  exact .next (onCommand_keeps .rfl (fun u1 => memCommand_keeps _ _ _ _))

theorem execMemWrite_keeps {b g : Bool} (slot : Nat) (s : State) :
    KeepsO b g s (execMemWrite slot s) := by
  unfold execMemWrite
  exact .next (onCommand_keeps .rfl (fun u1 => memCommand_keeps _ _ _ _))

theorem execImageBegin_keeps {b g : Bool} (slot : Nat) (s : State) :
    KeepsO b g s (execImageBegin slot s) := by
  unfold execImageBegin
  refine .next ?_
  refine onCommand_keeps .rfl ?_
  intro u1
  extract_lets -underBinder -merge -useContext +onlyGivenNames x2 x3
  try clear_value x2
  try clear_value x3
  refine .ite (finishCommand_keeps _ _ _ _) ?_
  refine .ite (finishCommand_keeps _ _ _ _) ?_
  extract_lets -underBinder -merge -useContext +onlyGivenNames x4
  have hx4 : Keeps b g s x4 := State.withLoader_keeps _ _
  exact (finishCommand_keeps _ _ _ _).after ((State.setFld_keeps _ _ _).after (hx4))

theorem execImageData_keeps {b g : Bool} (slot : Nat) (s : State) :
    KeepsO b g s (execImageData slot s) := by
  unfold execImageData
  refine .next ?_
  refine onCommand_keeps .rfl ?_
  intro u1
  extract_lets -underBinder -merge -useContext +onlyGivenNames x2 x3 x4
  try clear_value x2
  try clear_value x3
  try clear_value x4
  refine .ite (finishCommand_keeps _ _ _ _) ?_
  refine .ite (finishCommand_keeps _ _ _ _) ?_
  refine .ite (finishCommand_keeps _ _ _ _) ?_
  refine .ite .rfl ?_
  extract_lets -underBinder -merge -useContext +onlyGivenNames x5
  have hx5 : Keeps b g s x5 := (ownerDone_keeps _ _).after (ownerStart_keeps _ _)
  exact (finishCommand_keeps _ _ _ _).after ((State.withLoader_keeps _ _).after (hx5))

theorem execImageEnd_keeps {b g : Bool} (slot : Nat) (s : State) :
    KeepsO b g s (execImageEnd slot s) := by
  unfold execImageEnd
  refine .next ?_
  refine onCommand_keeps .rfl ?_
  intro u1
  refine .ite (finishCommand_keeps _ _ _ _) ?_
  extract_lets -underBinder -merge -useContext +onlyGivenNames x2
  have hx2 : Keeps b g s x2 := (State.withLoader_keeps _ _).after (holdCommand_keeps _ _)
  exact (State.setReg_keeps _ _ _).after ((State.setFld_keeps _ _ _).after (hx2))

theorem refuseStaged_keeps {b g : Bool} (s : State) (n : Nat) :
    Keeps b g s (refuseStaged s n) := by
  unfold refuseStaged
  extract_lets -underBinder -merge -useContext +onlyGivenNames x1
  have hx1 : Keeps b g s x1 := State.raise_keeps _ _ _ _ _
  exact (loaderFail_keeps _ _).after ((answerWait_keeps _ _ _ _).after (hx1))

theorem execVerifyingDone_keeps {b g : Bool} (s : State) :
    KeepsO b g s (execVerifyingDone s) := by
  unfold execVerifyingDone
  refine .ite ?_ (.next .rfl)
  extract_lets -underBinder -merge -useContext +onlyGivenNames x1 x2
  try clear_value x1
  try clear_value x2
  split
  · exact .next (refuseStaged_keeps _ _)
  · extract_lets -underBinder -merge -useContext +onlyGivenNames x3 x4
    have hx4 : Keeps b g s x4 := (State.setFld_keeps _ _ _).after (answerWait_keeps _ _ _ _)
    exact .next ((startStore_keeps _).after ((State.withLoader_keeps _ _).after (hx4)))

theorem nextStep_keeps {b g : Bool} (s : State) (n : Nat) :
    Keeps b g s (nextStep s n) := by
  unfold nextStep
  exact .ite (State.withLoader_keeps _ _) (storeStep_keeps _ _)

theorem failStore_keeps {b g : Bool} (s : State) (o : StoreOp) (step : Nat) (f : Fld) :
    Keeps b g s (failStore s o step f) := by
  unfold failStore
  extract_lets -underBinder -merge -useContext +onlyGivenNames x1
  have hx1 : Keeps b g s x1 := (State.raise_keeps _ _ _ _ _).after (State.count_keeps _ _ _)
  exact (endStore_keeps _ _).after (.ite ((loaderFail_keeps _ _).after (hx1)) (hx1))

theorem storeDone_keeps {b g : Bool} (s : State) (o : StoreOp) :
    Keeps b g s (storeDone s o) := by
  unfold storeDone
  exact .ite ((endStore_keeps _ _).after (State.setFld_keeps _ _ _)) (endStore_keeps _ _)

theorem storeStepDone_keeps {b g : Bool} (s : State) (o : StoreOp) (ok : Bool) :
    Keeps b g s (storeStepDone s o ok) := by
  unfold storeStepDone
  extract_lets -underBinder -merge -useContext +onlyGivenNames x1 x2
  try clear_value x1
  try clear_value x2
  split
  · exact .ite ((nextStep_keeps _ _).after (State.setBank_keeps _ _ _)) (failStore_keeps _ _ _ _)
  · extract_lets -underBinder -merge -useContext +onlyGivenNames x3
    have hx3 : Keeps b g s x3 := appendMarker_keeps _ _ _ _ _
    exact .ite ((nextStep_keeps _ _).after (hx3)) ((failStore_keeps _ _ _ _).after (hx3))
  · exact .ite ((nextStep_keeps _ _).after (State.setBank_keeps _ _ _)) (failStore_keeps _ _ _ _)
  · extract_lets -underBinder -merge -useContext +onlyGivenNames x4
    have hx4 : Keeps b g s x4 := appendMarker_keeps _ _ _ _ _
    exact .ite ((failStore_keeps _ _ _ _).after (hx4)) (.ite ((endStore_keeps _ _).after (hx4)) ((nextStep_keeps _ _).after (hx4)))
  · extract_lets -underBinder -merge -useContext +onlyGivenNames x5
    have hx5 : Keeps b g s x5 := .ite (ownerDone_keeps _ _) (ownerStop_keeps _ _)
    exact .ite ((endStore_keeps _ _).after (hx5)) (.ite ((State.setFld_keeps _ _ _).after ((nextStep_keeps _ _).after ((State.setBank_keeps _ _ _).after (hx5)))) ((failStore_keeps _ _ _ _).after (hx5)))
  · extract_lets -underBinder -merge -useContext +onlyGivenNames x6
    have hx6 : Keeps b g s x6 := .ite (ownerDone_keeps _ _) (ownerStop_keeps _ _)
    exact .ite ((endStore_keeps _ _).after (hx6)) (.ite ((State.setFld_keeps _ _ _).after ((nextStep_keeps _ _).after (hx6))) ((failStore_keeps _ _ _ _).after (hx6)))
  · refine .ite (endStore_keeps _ _) ?_
    extract_lets -underBinder -merge -useContext +onlyGivenNames x7
    have hx7 : Keeps b g s x7 := appendMarker_keeps _ _ _ _ _
    exact .ite ((storeDone_keeps _ _).after (hx7)) ((failStore_keeps _ _ _ _).after (hx7))
  · exact .rfl

theorem execStoreStepDone_keeps {b g : Bool} (ok : Bool) (s : State) :
    KeepsO b g s (execStoreStepDone ok s) := by
  unfold execStoreStepDone
  split
  · exact .next .rfl
  · extract_lets -underBinder -merge -useContext +onlyGivenNames x1 x2
    exact .next (.ite .rfl (storeStepDone_keeps _ _ _))

theorem execImageCancel_keeps {b g : Bool} (slot : Nat) (s : State) :
    KeepsO b g s (execImageCancel slot s) := by
  unfold execImageCancel
  refine .next ?_
  refine onCommand_keeps .rfl ?_
  intro u1
  refine .ite (finishCommand_keeps _ _ _ _) ?_
  extract_lets -underBinder -merge -useContext +onlyGivenNames x2
  have hx2 : Keeps b g s x2 := answerWait_keeps _ _ _ _
  exact (finishCommand_keeps _ _ _ _).after ((cancelStore_keeps _).after ((loaderFail_keeps _ _).after (hx2)))

theorem execImageArm_keeps {b g : Bool} (slot : Nat) (s : State) :
    KeepsO b g s (execImageArm slot s) := by
  unfold execImageArm
  refine .next ?_
  refine onCommand_keeps .rfl ?_
  intro u1
  split
  · exact finishCommand_keeps _ _ _ _
  · exact .ite (finishCommand_keeps _ _ _ _) (armStaged_keeps _ _ _)

theorem execSafeArmReset_keeps {g : Bool} (s : State) :
    KeepsO false g s (execSafeArmReset s) := by
  unfold execSafeArmReset
  exact .next (.ite (resetModule_keeps _ _) .rfl)

theorem execRoleSwap_keeps {b g : Bool} (slot : Nat) (s : State) :
    KeepsO b g s (execRoleSwap slot s) := by
  unfold execRoleSwap
  exact .next (onCommand_keeps .rfl (fun u1 => .ite ((sendSwapReq_keeps _ _).after (holdCommand_keeps _ _)) (finishCommand_keeps _ _ _ _)))

theorem execSafeRequest_keeps {b g : Bool} (slot : Nat) (s : State) :
    KeepsO b g s (execSafeRequest slot s) := by
  unfold execSafeRequest
  exact .next (onCommand_keeps .rfl (fun u1 => (finishCommand_keeps _ _ _ _).after (requestSafe_keeps _ _)))

theorem execTaskEnable_keeps {g : Bool} (slot : Nat) (s : State) :
    KeepsO false g s (execTaskEnable slot s) := by
  unfold execTaskEnable
  refine .next ?_
  refine onCommand_keeps .rfl ?_
  intro u1
  extract_lets -underBinder -merge -useContext +onlyGivenNames x2
  exact .ite (finishCommand_keeps _ _ _ _) (.ite ((forwardWrite_keeps _ _ _ _ _).after (holdCommand_keeps _ _)) ((finishCommand_keeps _ _ _ _).after (forwardWrite_keeps _ _ _ _ _)))

theorem showRefused_keeps {b g : Bool} (s : State) (code : Nat) :
    Keeps b g s (showRefused s code) := by
  unfold showRefused
  exact .ite (State.setFld_keeps _ _ _) .rfl

theorem maintStart_keeps {b g : Bool} (s : State) (code : Nat) (target : Nat) :
    Keeps b g s (maintStart s code target).1 := by
  unfold maintStart
  split
  · exact .mk1 .rfl
  · split
    · exact .mk1 .rfl
    · split
      · exact .mk1 .rfl
      · split
        · exact .mk1 (showRefused_keeps _ _)
        · extract_lets -underBinder -merge -useContext +onlyGivenNames x1
          have hx1 : Keeps b g s x1 := askActivity_keeps _ _ _ _
          exact .mk1 (hx1)

theorem execMaintStart_keeps {b g : Bool} (slot : Nat) (s : State) :
    KeepsO b g s (execMaintStart slot s) := by
  unfold execMaintStart
  refine .next ?_
  refine onCommand_keeps .rfl ?_
  intro u1
  split
  rename_i p3 p4 p5 hq2
  have hp3 : Keeps b g s p3 := .fst hq2 (maintStart_keeps _ _ _)
  exact (finishCommand_keeps _ _ _ _).after (hp3)

theorem execMaintStatus_keeps {b g : Bool} (slot : Nat) (s : State) :
    KeepsO b g s (execMaintStatus slot s) := by
  unfold execMaintStatus
  refine .next ?_
  refine onCommand_keeps .rfl ?_
  intro u1
  extract_lets -underBinder -merge -useContext +onlyGivenNames x2
  try clear_value x2
  split <;> exact finishCommand_keeps _ _ _ _

theorem execActivityEnd_keeps {b g : Bool} (group : Nat) (ok : Bool) (s : State) :
    KeepsO b g s (execActivityEnd group ok s) := by
  unfold execActivityEnd
  split
  · exact .next .rfl
  · extract_lets -underBinder -merge -useContext +onlyGivenNames x1 x2
    have hx1 : Keeps b g s x1 := setActivity_keeps _ _ _
    have hx2 : Keeps b g s x2 := .ite ((askCounts_keeps _ _).after (hx1)) (hx1)
    exact .next (.ite (hx2) ((startNext_keeps _ _).after (hx2)))

theorem stationCommand_keeps {b g : Bool} (s : State) (slot : Nat) (q : QCmd) (write : Bool) :
    Keeps b g s (stationCommand s slot q write) := by
  unfold stationCommand
  extract_lets -underBinder -merge -useContext +onlyGivenNames x1 x2 x3
  exact .ite (finishCommand_keeps _ _ _ _) (.ite (finishCommand_keeps _ _ _ _) (.ite (finishCommand_keeps _ _ _ _) ((askStation_keeps _ _ _ _ _ _).after (holdCommand_keeps _ _))))

theorem execStnRead_keeps {b g : Bool} (slot : Nat) (s : State) :
    KeepsO b g s (execStnRead slot s) := by
  unfold execStnRead
  exact .next (onCommand_keeps .rfl (fun u1 => stationCommand_keeps _ _ _ _))

theorem execStnWrite_keeps {b g : Bool} (slot : Nat) (s : State) :
    KeepsO b g s (execStnWrite slot s) := by
  unfold execStnWrite
  exact .next (onCommand_keeps .rfl (fun u1 => stationCommand_keeps _ _ _ _))

theorem readRecord_keeps {b g : Bool} (s : State) (i : Nat) :
    Keeps b g s (readRecord s i).2 := by
  unfold readRecord
  split
  · exact .mk2 .rfl
  · split
    · exact .mk2 .rfl
    · split
      · exact .mk2 .rfl
      · exact .mk2 (State.count_keeps _ _ _)

theorem readRecords_keeps {b g : Bool} (s : State) (first n : Nat) : Keeps b g s (readRecords s first n).2 := by
  unfold readRecords
  refine Keeps.foldSnd ?_ (Keeps.refl _ _ _)
  intro x k
  dsimp only
  exact readRecord_keeps _ _

theorem execEvrRead_keeps {b g : Bool} (slot : Nat) (s : State) :
    KeepsO b g s (execEvrRead slot s) := by
  unfold execEvrRead
  refine .next ?_
  refine onCommand_keeps .rfl ?_
  intro u1
  extract_lets -underBinder -merge -useContext +onlyGivenNames x2 x3
  try clear_value x2
  try clear_value x3
  refine .ite (finishCommand_keeps _ _ _ _) ?_
  split
  rename_i p5 p6 hq4
  have hp6 : Keeps b g s p6 := .snd hq4 (readRecords_keeps _ _ _)
  exact (finishCommand_keeps _ _ _ _).after (hp6)

theorem execJnlQuery_keeps {b g : Bool} (slot : Nat) (s : State) :
    KeepsO b g s (execJnlQuery slot s) := by
  unfold execJnlQuery
  exact .next (onCommand_keeps .rfl (fun u1 => finishCommand_keeps _ _ _ _))

theorem execJnlRead_keeps {b g : Bool} (slot : Nat) (s : State) :
    KeepsO b g s (execJnlRead slot s) := by
  unfold execJnlRead
  refine .next ?_
  refine onCommand_keeps .rfl ?_
  intro u1
  extract_lets -underBinder -merge -useContext +onlyGivenNames x2 x3
  try clear_value x2
  try clear_value x3
  refine .ite (finishCommand_keeps _ _ _ _) ?_
  refine .ite (finishCommand_keeps _ _ _ _) ?_
  split <;> exact finishCommand_keeps _ _ _ _

theorem execKeyAdmin_keeps {b g : Bool} (slot : Nat) (s : State) :
    KeepsO b g s (execKeyAdmin slot s) := by
  unfold execKeyAdmin
  refine .next ?_
  refine onCommand_keeps .rfl ?_
  intro u1
  extract_lets -underBinder -merge -useContext +onlyGivenNames x2 x3 x4 x5 x6
  exact .ite (finishCommand_keeps _ _ _ _) (.ite (finishCommand_keeps _ _ _ _) (.ite (finishCommand_keeps _ _ _ _) (.ite (finishCommand_keeps _ _ _ _) (changeKey_keeps _ _ _ _ _ _))))

theorem execUnitOfWork_keeps {g : Bool} (upset : UnitUpset) (preempt : Option (Nat × Nat)) (s : State) :
    KeepsO false g s (execUnitOfWork upset preempt s) := by
  unfold execUnitOfWork
  refine .ite (.next .rfl) ?_
  split
  · exact .next .rfl
  · exact .next ((channelTurn_keeps _ _ _ _).after (State.setFld_keeps _ _ _))

theorem raiseLine_keeps {b g : Bool} (s : State) (line : Nat) :
    Keeps b g s (raiseLine s line) := by
  unfold raiseLine
  refine .fold ?_ .rfl
  intro s1 a2
  split
  · exact .rfl
  · exact .ite ((State.setFld_keeps _ _ _).after (State.setChan_keeps _ _ _)) .rfl

theorem execPeripheralRequest_keeps {b g : Bool} (line : Nat) (samples : List Int) (s : State) :
    KeepsO b g s (execPeripheralRequest line samples s) := by
  unfold execPeripheralRequest
  extract_lets -underBinder -merge -useContext +onlyGivenNames x1
  have hx1 : Keeps b g s x1 := .ite (convSamples_keeps _ _ _) .rfl
  exact .next (.ite ((raiseLine_keeps _ _).after (hx1)) (hx1))

theorem execBusTimeout_keeps {b g : Bool} (addr : DWord) (s : State) :
    KeepsO b g s (execBusTimeout addr s) := by
  unfold execBusTimeout
  exact .ite (.next .rfl) (.next (busFailed_keeps _ _))

theorem execXferStart_keeps {b g : Bool} (v : Word) (s : State) :
    KeepsO b g s (execXferStart v s) := by
  unfold execXferStart
  exact .next (writeChCtrl_keeps _ _)

theorem execXferAbort_keeps {b g : Bool} (v : Word) (s : State) :
    KeepsO b g s (execXferAbort v s) := by
  unfold execXferAbort
  exact .next (writeChCtrl_keeps _ _)

theorem execXferResume_keeps {b g : Bool} (v : Word) (s : State) :
    KeepsO b g s (execXferResume v s) := by
  unfold execXferResume
  exact .next (writeXferCmd_keeps _ _)

theorem execXferAbortAll_keeps {b g : Bool} (v : Word) (s : State) :
    KeepsO b g s (execXferAbortAll v s) := by
  unfold execXferAbortAll
  exact .next (writeXferCmd_keeps _ _)

theorem takeResult_keeps {b g : Bool} (s : State) (c : Nat) (r : Integration) :
    Keeps b g s (takeResult s c r) := by
  unfold takeResult
  extract_lets -underBinder -merge -useContext +onlyGivenNames x1 x2 x3
  try clear_value x1
  try clear_value x2
  try clear_value x3
  split
  extract_lets -underBinder -merge -useContext +onlyGivenNames x4 x5 x6 x7 x8
  have hx6 : Keeps b g s x6 := State.setAna_keeps _ _ _
  have hx7 : Keeps b g s x7 := (State.setFlag_keeps _ _ _).after (hx6)
  have hx8 : Keeps b g s x8 := .ite ((showBand_keeps _ _ _).after (hx7)) (.ite ((State.setFlag_keeps _ _ _).after (hx7)) (hx7))
  exact .ite ((State.setFlag_keeps _ _ _).after (hx8)) (hx8)

theorem execIntegrationEnd_keeps {b g : Bool} (ch : Nat) (r : Integration) (s : State) :
    KeepsO b g s (execIntegrationEnd ch r s) := by
  unfold execIntegrationEnd
  refine .ite ?_ (.next .rfl)
  extract_lets -underBinder -merge -useContext +onlyGivenNames x1 x2
  have hx1 : Keeps b g s x1 := takeResult_keeps _ _ _
  exact .next (.ite ((anaStart_keeps _ _ _).after (hx1)) (hx1))

theorem execReferenceBufferEn_keeps {b g : Bool} (v : Word) (s : State) :
    KeepsO b g s (execReferenceBufferEn v s) := by
  unfold execReferenceBufferEn
  exact .next (setReference_keeps _ _)

theorem execWarmUpEnd_keeps {b g : Bool} (s : State) :
    KeepsO b g s (execWarmUpEnd s) := by
  unfold execWarmUpEnd
  exact .ite (.next ((freeRunStarts_keeps _).after ((State.setFlag_keeps _ _ _).after (State.setFld_keeps _ _ _)))) (.next .rfl)

theorem swapIfDue_keeps {b g : Bool} (s : State) (g' : Nat) :
    Keeps b g s (swapIfDue s g') := by
  unfold swapIfDue
  exact .ite (sliceSwap_keeps _ _) .rfl

theorem execEntryEnd_keeps {b g : Bool} (g' : Nat) (samples : List Int) (ns : DWord) (s : State) :
    KeepsO b g s (execEntryEnd g' samples ns s) := by
  unfold execEntryEnd
  split
  · exact .next .rfl
  · extract_lets -underBinder -merge -useContext +onlyGivenNames x1 x2 x3 x4
    have hx1 : Keeps b g s x1 := convSamples_keeps _ _ _
    have hx3 : Keeps b g s x3 := (entryResultAcross_keeps _ _ _ _ _).after ((convTrailer_keeps _ _ _).after (hx1))
    have hx4 : Keeps b g s x4 := (swapIfDue_keeps _ _).after (hx3)
    exact .next (.ite ((afterUrgent_keeps _ _ _).after (hx4)) ((afterEntry_keeps _ _ _).after (hx4)))

theorem execConvGo_keeps {b g : Bool} (v : Word) (s : State) :
    KeepsO b g s (execConvGo v s) := by
  unfold execConvGo
  exact .next (writeGrpCtrl_keeps _ _)

theorem execConvStop_keeps {b g : Bool} (v : Word) (s : State) :
    KeepsO b g s (execConvStop v s) := by
  unfold execConvStop
  exact .next (writeGrpCtrl_keeps _ _)

theorem execUrgentEntry_keeps {b g : Bool} (v : Word) (samples : List Int) (ns : DWord) (s : State) :
    KeepsO b g s (execUrgentEntry v samples ns s) := by
  unfold execUrgentEntry
  exact .next (writeUrgent_keeps _ _ _ _)

theorem execCalibration_keeps {b g : Bool} (g' : Nat) (s : State) :
    KeepsO b g s (execCalibration g' s) := by
  unfold execCalibration
  exact .next (startCalibration_keeps _ _)

theorem execCalibrationDone_keeps {b g : Bool} (g' : Nat) (result : CalResult) (s : State) :
    KeepsO b g s (execCalibrationDone g' result s) := by
  unfold execCalibrationDone
  extract_lets -underBinder -merge -useContext +onlyGivenNames x1
  exact .ite (.next ((convFollows_keeps _).after ((endActivity_keeps _ _ _).after (calibrationEnd_keeps _ _ _)))) (.next .rfl)

theorem execProofTest_keeps {b g : Bool} (s : State) :
    KeepsO b g s (execProofTest s) := by
  unfold execProofTest
  exact .next (.ite .rfl (startProof_keeps _))

theorem proofEnd_keeps {b g : Bool} (s : State) (dev : Int) :
    Keeps b g s (proofEnd s dev) := by
  unfold proofEnd
  extract_lets -underBinder -merge -useContext +onlyGivenNames x1
  have hx1 : Keeps b g s x1 := (State.setReg_keeps _ _ _).after (State.setFlag_keeps _ _ _)
  exact .ite ((State.raise_keeps _ _ _ _ _).after ((State.note_keeps _ _).after ((State.setFlag_keeps _ _ _).after (hx1)))) ((State.setFlag_keeps _ _ _).after (hx1))

theorem execProofTestDone_keeps {b g : Bool} (dev : Int) (s : State) :
    KeepsO b g s (execProofTestDone dev s) := by
  unfold execProofTestDone
  exact .next (.ite ((convFollows_keeps _).after ((endActivity_keeps _ _ _).after (proofEnd_keeps _ _))) .rfl)

theorem hartNext_keeps {b g : Bool} (s : State) (g' : Nat) (advance : Bool) :
    Keeps b g s (hartNext s g' advance) := by
  unfold hartNext
  extract_lets -underBinder -merge -useContext +onlyGivenNames x1 x2 x3 x4
  exact .ite ((sendPassThrough_keeps _ _).after (State.setModem_keeps _ _ _)) ((sendPoll_keeps _ _).after (State.setModem_keeps _ _ _))

theorem passThroughEnd_keeps {b g : Bool} (s : State) (g' : Nat) (code : Nat) :
    Keeps b g s (passThroughEnd s g' code) := by
  unfold passThroughEnd
  exact (hartNext_keeps _ _ _).after ((State.setFlag_keeps _ _ _).after (State.setFld_keeps _ _ _))

theorem setHartBuf_keeps {b g : Bool} (s : State) (g' : Nat) (bs : List Byte) :
    Keeps b g s (setHartBuf s g' bs) := by
  unfold setHartBuf
  exact .fold (fun _ _ => State.setReg_keeps _ _ _) (State.setFld_keeps _ _ _)

theorem hartErr_keeps {b g : Bool} (s : State) (c : Nat) :
    Keeps b g s (hartErr s c) := by
  unfold hartErr
  exact State.setFlag_keeps _ _ _

theorem hartGood_keeps {b g : Bool} (s : State) (c : Nat) (d : Nat) (r : HartReply) :
    Keeps b g s (hartGood s c d r) := by
  unfold hartGood
  extract_lets -underBinder -merge -useContext +onlyGivenNames x1 x2 x3 x4 x5
  exact (hartErr_keeps _ _).after (State.setAna_keeps _ _ _)

theorem hartFailed_keeps {b g : Bool} (s : State) (c : Nat) (d : Nat) :
    Keeps b g s (hartFailed s c d) := by
  unfold hartFailed
  extract_lets -underBinder -merge -useContext +onlyGivenNames x1 x2 x3 x4 x5
  exact (hartErr_keeps _ _).after (State.setAna_keeps _ _ _)

theorem hartAttemptFailed_keeps {b g : Bool} (s : State) (g' : Nat) :
    Keeps b g s (hartAttemptFailed s g') := by
  unfold hartAttemptFailed
  extract_lets -underBinder -merge -useContext +onlyGivenNames x1
  try clear_value x1
  split
  · exact .rfl
  · exact .ite ((sendPoll_keeps _ _).after (State.setModem_keeps _ _ _)) ((hartNext_keeps _ _ _).after (hartFailed_keeps _ _ _))

theorem execHartReply_keeps {b g : Bool} (g' : Nat) (r : HartReply) (s : State) :
    KeepsO b g s (execHartReply g' r s) := by
  unfold execHartReply
  extract_lets -underBinder -merge -useContext +onlyGivenNames x1
  try clear_value x1
  refine .ite (.next (.ite ((passThroughEnd_keeps _ _ _).after (setHartBuf_keeps _ _ _)) (passThroughEnd_keeps _ _ _))) ?_
  refine .ite ?_ (.next (hartAttemptFailed_keeps _ _))
  split
  · exact .next .rfl
  · exact .next ((hartNext_keeps _ _ _).after (hartGood_keeps _ _ _ _))

theorem execHartPollTimeout_keeps {b g : Bool} (g' : Nat) (s : State) :
    KeepsO b g s (execHartPollTimeout g' s) := by
  unfold execHartPollTimeout
  exact .ite (.next .rfl) (.next (hartAttemptFailed_keeps _ _))

theorem execPassThrough_keeps {b g : Bool} (v : Word) (s : State) :
    KeepsO b g s (execPassThrough v s) := by
  unfold execPassThrough
  exact .next (writeHartPt_keeps _ _)

theorem execPassThroughTimeout_keeps {b g : Bool} (g' : Nat) (s : State) :
    KeepsO b g s (execPassThroughTimeout g' s) := by
  unfold execPassThroughTimeout
  exact .ite (.next (passThroughEnd_keeps _ _ _)) (.next .rfl)

theorem execTrimBegin_keeps {b g : Bool} (v : Word) (s : State) :
    KeepsO b g s (execTrimBegin v s) := by
  unfold execTrimBegin
  exact .next (writeTrim_keeps _ _)

theorem execTrimLow_keeps {b g : Bool} (v : Word) (s : State) :
    KeepsO b g s (execTrimLow v s) := by
  unfold execTrimLow
  exact .next (writeTrim_keeps _ _)

theorem execTrimHigh_keeps {b g : Bool} (v : Word) (s : State) :
    KeepsO b g s (execTrimHigh v s) := by
  unfold execTrimHigh
  exact .next (writeTrim_keeps _ _)

theorem execTrimCommit_keeps {b g : Bool} (v : Word) (s : State) :
    KeepsO b g s (execTrimCommit v s) := by
  unfold execTrimCommit
  exact .next (writeTrim_keeps _ _)

theorem execTrimAbandon_keeps {b g : Bool} (v : Word) (s : State) :
    KeepsO b g s (execTrimAbandon v s) := by
  unfold execTrimAbandon
  exact .next (writeTrim_keeps _ _)

theorem execTrimClear_keeps {b g : Bool} (v : Word) (s : State) :
    KeepsO b g s (execTrimClear v s) := by
  unfold execTrimClear
  exact .next (writeTrim_keeps _ _)

theorem execTrimTimeout_keeps {b g : Bool} (s : State) :
    KeepsO b g s (execTrimTimeout s) := by
  unfold execTrimTimeout
  exact .next (.ite (trimEnd_keeps _ _) .rfl)

theorem takeUplink_keeps {b g : Bool} (s : State) (f : UplinkFrame) :
    Keeps b g s (takeUplink s f) := by
  unfold takeUplink
  extract_lets -underBinder -merge -useContext +onlyGivenNames x1 x2 x3 x4
  have hx2 : Keeps b g s x2 := State.withDio_keeps _ _
  have hx3 : Keeps b g s x3 := (State.setFlag_keeps _ _ _).after ((State.setFld_keeps _ _ _).after (hx2))
  have hx4 : Keeps b g s x4 := .ite ((State.withDio_keeps _ _).after (hx3)) (hx3)
  try clear_value x1
  try clear_value x2
  try clear_value x3
  try clear_value x4
  refine .fold ?_ (hx4)
  intro s5 a6
  extract_lets -underBinder -merge -useContext +onlyGivenNames x7 x8
  have hx7 : Keeps b g s5 x7 := (State.setFlag_keeps _ _ _).after (State.setFlag_keeps _ _ _)
  exact .ite ((State.setFlag_keeps _ _ _).after ((State.setFlag_keeps _ _ _).after (hx7))) (hx7)

theorem execUplinkFrame_keeps {b g : Bool} (f : UplinkFrame) (s : State) :
    KeepsO b g s (execUplinkFrame f s) := by
  unfold execUplinkFrame
  exact .ite (.next .rfl) (.ite (.next (takeUplink_keeps _ _)) (.next (State.count_keeps _ _ _)))

theorem loadSafeTable_keeps {b g : Bool} (s : State) :
    Keeps b g s (loadSafeTable s) := by
  unfold loadSafeTable
  extract_lets -underBinder -merge -useContext +onlyGivenNames x1
  have hx1 : Keeps b g s x1 := State.withDio_keeps _ _
  exact .ite ((applySafe_keeps _).after (hx1)) (hx1)

theorem fieldSafe_keeps {b g : Bool} (s : State) :
    Keeps b g s (fieldSafe s) := by
  unfold fieldSafe
  extract_lets -underBinder -merge -useContext +onlyGivenNames x1
  have hx1 : Keeps b g s x1 := (State.withDio_keeps _ _).after (applySafe_keeps _)
  exact .ite (hx1) ((State.raise_keeps _ _ _ _ _).after (hx1))

theorem takeDownlink_keeps {b g : Bool} (s : State) (f : Downlink) :
    Keeps b g s (takeDownlink s f) := by
  unfold takeDownlink
  extract_lets -underBinder -merge -useContext +onlyGivenNames x1
  have hx1 : Keeps b g s x1 := .ite (loadSafeTable_keeps _) .rfl
  try clear_value x1
  refine .ite ((fieldSafe_keeps _).after (hx1)) ?_
  refine .ite ?_ ((State.withDio_keeps _ _).after (hx1))
  extract_lets -underBinder -merge -useContext +onlyGivenNames x2
  try clear_value x2
  refine .ite ?_ ((State.withDio_keeps _ _).after (hx1))
  extract_lets -underBinder -merge -useContext +onlyGivenNames x3 x4
  have hx3 : Keeps b g s x3 := (State.withDio_keeps _ _).after (hx1)
  have hx4 : Keeps b g s x4 := (State.setFlag_keeps _ _ _).after (hx3)
  exact .fold (fun _ _ => State.setFlag_keeps _ _ _) (hx4)

theorem execDownlinkFrame_keeps {b g : Bool} (noise : List Byte) (s : State) :
    KeepsO b g s (execDownlinkFrame noise s) := by
  unfold execDownlinkFrame
  refine .ite (.next .rfl) ?_
  extract_lets -underBinder -merge -useContext +onlyGivenNames x1 x2
  have hx2 : Keeps b g s x2 := State.emit_keeps _ _
  try clear_value x1
  try clear_value x2
  split
  · exact .next ((takeDownlink_keeps _ _).after (hx2))
  · exact .next ((State.withDio_keeps _ _).after ((State.count_keeps _ _ _).after (hx2)))

theorem execLinkTimeout_keeps {b g : Bool} (s : State) :
    KeepsO b g s (execLinkTimeout s) := by
  unfold execLinkTimeout
  exact .ite (.next .rfl) (.next ((fieldSafe_keeps _).after (State.count_keeps _ _ _)))

theorem execOverload_keeps {b g : Bool} (ch : Nat) (s : State) :
    KeepsO b g s (execOverload ch s) := by
  unfold execOverload
  exact .next (.ite (State.withDio_keeps _ _) .rfl)

theorem execOverloadRetry_keeps {b g : Bool} (ch : Nat) (s : State) :
    KeepsO b g s (execOverloadRetry ch s) := by
  unfold execOverloadRetry
  exact .next (.ite (State.withDio_keeps _ _) .rfl)

theorem execPulseEnd_keeps {b g : Bool} (ch : Nat) (s : State) :
    KeepsO b g s (execPulseEnd ch s) := by
  unfold execPulseEnd
  exact .next (State.withDio_keeps _ _)

theorem execReceivedFrame_keeps {b g : Bool} (bus : Nat) (f : CanFrame) (s : State) :
    KeepsO b g s (execReceivedFrame bus f s) := by
  unfold execReceivedFrame
  exact .next (.ite (canReceive_keeps _ _ _) .rfl)

theorem txSuccess_keeps {b g : Bool} (s : State) (b' : Nat) (i : Nat) (stamp : DWord) :
    Keeps b g s (txSuccess s b' i stamp) := by
  unfold txSuccess
  extract_lets -underBinder -merge -useContext +onlyGivenNames x1 x2 x3 x4
  have hx2 : Keeps b g s x2 := txEnd_keeps _ _ _ _
  have hx3 : Keeps b g s x3 := (State.setReg_keeps _ _ _).after (hx2)
  have hx4 : Keeps b g s x4 := (showErrorState_keeps _ _).after ((State.setFld_keeps _ _ _).after (hx3))
  exact .ite ((canReceive_keeps _ _ _).after (hx4)) ((State.emit_keeps _ _).after (hx4))

theorem txOutcome_keeps {b g : Bool} (s : State) (b' : Nat) (i : Nat) (r : TxResult) (stamp : DWord) (aborted : Bool) :
    Keeps b g s (txOutcome s b' i r stamp aborted) := by
  unfold txOutcome
  split
  · exact txSuccess_keeps _ _ _ _
  · exact .ite (txEnd_keeps _ _ _ _) (.ite (txEnd_keeps _ _ _ _) (setCanState_keeps _ _ _ _))
  · extract_lets -underBinder -merge -useContext +onlyGivenNames x1
    have hx1 : Keeps b g s x1 := (showErrorState_keeps _ _).after (State.setFld_keeps _ _ _)
    exact .ite ((txEnd_keeps _ _ _ _).after (hx1)) (.ite ((txEnd_keeps _ _ _ _).after (hx1)) ((setCanState_keeps _ _ _ _).after (hx1)))

theorem execTransmitEnd_keeps {b g : Bool} (bus : Nat) (r : TxResult) (stamp : DWord) (s : State) :
    KeepsO b g s (execTransmitEnd bus r stamp s) := by
  unfold execTransmitEnd
  extract_lets -underBinder -merge -useContext +onlyGivenNames x1
  try clear_value x1
  split
  · exact .next .rfl
  · extract_lets -underBinder -merge -useContext +onlyGivenNames x2 x3
    have hx2 : Keeps b g s x2 := State.setCan_keeps _ _ _
    have hx3 : Keeps b g s x3 := (stampReached_keeps _ _ _).after ((State.setDword_keeps _ _ _).after (hx2))
    exact .next ((txAgain_keeps _ _ _).after ((txOutcome_keeps _ _ _ _ _ _).after (hx3)))

theorem execBusOff_keeps {b g : Bool} (bus : Nat) (s : State) :
    KeepsO b g s (execBusOff bus s) := by
  unfold execBusOff
  refine .ite ?_ (.next .rfl)
  extract_lets -underBinder -merge -useContext +onlyGivenNames x1 x2
  have hx1 : Keeps b g s x1 := busOffBuffers_keeps _ _
  have hx2 : Keeps b g s x2 := (State.setFld_keeps _ _ _).after ((State.setFld_keeps _ _ _).after (hx1))
  exact .next ((State.note_keeps _ _).after ((noActive_keeps _ _).after (hx2)))

theorem execBusOffRecovery_keeps {b g : Bool} (bus : Nat) (s : State) :
    KeepsO b g s (execBusOffRecovery bus s) := by
  unfold execBusOffRecovery
  exact .ite (.next ((State.setFld_keeps _ _ _).after ((State.setFld_keeps _ _ _).after (State.setFld_keeps _ _ _)))) (.next .rfl)

theorem execRecover_keeps {b g : Bool} (v : Word) (s : State) :
    KeepsO b g s (execRecover v s) := by
  unfold execRecover
  exact .next (.ite (writeCanCtrl_keeps _ _) .rfl)

theorem headRead_keeps {b g : Bool} (s : State) (b' : Nat) (i : Nat) :
    Keeps b g s (headRead s b' i) := by
  unfold headRead
  exact (State.setFld_keeps _ _ _).after (headLock_keeps _ _ _)

theorem execHeadRead_keeps {b g : Bool} (bus : Nat) (buf : Nat) (s : State) :
    KeepsO b g s (execHeadRead bus buf s) := by
  unfold execHeadRead
  exact .next (.ite (headRead_keeps _ _ _) .rfl)

theorem execTailRead_keeps {b g : Bool} (bus : Nat) (buf : Nat) (s : State) :
    KeepsO b g s (execTailRead bus buf s) := by
  unfold execTailRead
  exact .next (.ite (tailRead_keeps _ _ _) .rfl)

theorem execLockTimeout_keeps {b g : Bool} (bus : Nat) (s : State) :
    KeepsO b g s (execLockTimeout bus s) := by
  unfold execLockTimeout
  exact .ite (.next ((State.note_keeps _ _).after (canRelease_keeps _ _ _))) (.next .rfl)

theorem execTxReq_keeps {b g : Bool} (hi : Bool) (v : Word) (s : State) :
    KeepsO b g s (execTxReq hi v s) := by
  unfold execTxReq
  exact .next (writeTxReq_keeps _ _ _)

theorem execTxAbort_keeps {b g : Bool} (hi : Bool) (v : Word) (s : State) :
    KeepsO b g s (execTxAbort hi v s) := by
  unfold execTxAbort
  exact .next (writeTxAbort_keeps _ _ _)

theorem serReceive_keeps {b g : Bool} (s : State) (l : Nat) (x : RxChar) :
    Keeps b g s (serReceive s l x) := by
  unfold serReceive
  extract_lets -underBinder -merge -useContext +onlyGivenNames x1 x2 x3
  have hx1 : Keeps b g s x1 := .ite (State.count_keeps _ _ _) .rfl
  have hx2 : Keeps b g s x2 := .ite ((State.setFlag_keeps _ _ _).after (hx1)) (hx1)
  exact .ite ((State.count_keeps _ _ _).after ((State.setSer_keeps _ _ _).after (hx2))) ((putSer_keeps _ _ _).after (hx2))

theorem execReceivedCharacter_keeps {b g : Bool} (line : Nat) (x : RxChar) (s : State) :
    KeepsO b g s (execReceivedCharacter line x s) := by
  unfold execReceivedCharacter
  exact .ite (.next .rfl) (.ite (.next (State.count_keeps _ _ _)) (.next (serReceive_keeps _ _ _)))

theorem execIdleRequest_keeps {b g : Bool} (line : Nat) (s : State) :
    KeepsO b g s (execIdleRequest line s) := by
  unfold execIdleRequest
  exact .ite (.next ((raiseLine_keeps _ _).after (State.setSer_keeps _ _ _))) (.next .rfl)

theorem execDriverRelease_keeps {b g : Bool} (line : Nat) (s : State) :
    KeepsO b g s (execDriverRelease line s) := by
  unfold execDriverRelease
  exact .ite (.next (State.setFlag_keeps _ _ _)) (.next .rfl)

theorem execFlush_keeps {b g : Bool} (v : Word) (s : State) :
    KeepsO b g s (execFlush v s) := by
  unfold execFlush
  exact .next (.ite (writeSerCtrl_keeps _ _) .rfl)

theorem execRecordAdmission_keeps {b g : Bool} (s : State) :
    KeepsO b g s (execRecordAdmission s) := by
  unfold execRecordAdmission
  exact .next (admitFront_keeps _)

theorem execTokenGain_keeps {b g : Bool} (s : State) :
    KeepsO b g s (execTokenGain s) := by
  unfold execTokenGain
  refine .ite (.next .rfl) ?_
  extract_lets -underBinder -merge -useContext +onlyGivenNames x1
  have hx1 : Keeps b g s x1 := State.setDword_keeps _ _ _
  exact .next ((State.setFld_keeps _ _ _).after (hx1))

theorem windowEnd_keeps {b g : Bool} (s : State) (i : Nat) :
    Keeps b g s (windowEnd s i) := by
  unfold windowEnd
  split
  · exact .rfl
  · extract_lets -underBinder -merge -useContext +onlyGivenNames x1
    try clear_value x1
    refine .ite (State.withRecorder_keeps ⟨[], rfl⟩ ⟨[], rfl⟩ .rfl) ?_
    split
    rename_i p3 p4 hq2
    have hp3 : Keeps b g s p3 := .fst hq2 (judgeRecord_keeps _ _ _ _ _)
    exact State.withRecorder_keeps ⟨[], rfl⟩ ⟨[], rfl⟩ (hp3)

theorem execCoalesceWindowEnd_keeps {b g : Bool} (key : Nat) (s : State) :
    KeepsO b g s (execCoalesceWindowEnd key s) := by
  unfold execCoalesceWindowEnd
  exact .next (windowEnd_keeps _ _)

theorem execCheckpointRecord_keeps {b g : Bool} (s : State) :
    KeepsO b g s (execCheckpointRecord s) := by
  unfold execCheckpointRecord
  exact .next (State.checkpointRecord_keeps _)

theorem execScrubSegment_keeps {b g : Bool} (s : State) :
    KeepsO b g s (execScrubSegment s) := by
  unfold execScrubSegment
  exact .next (startSegment_keeps _)

theorem execScrubSegmentDone_keeps {b g : Bool} (s : State) :
    KeepsO b g s (execScrubSegmentDone s) := by
  unfold execScrubSegmentDone
  refine .ite ?_ (.next .rfl)
  extract_lets -underBinder -merge -useContext +onlyGivenNames x1
  have hx1 : Keeps b g s x1 := (endActivity_keeps _ _ _).after (State.setFlag_keeps _ _ _)
  try clear_value x1
  split
  · exact .next (.ite ((joinRequest_keeps _).after (hx1)) (hx1))
  · exact .next (.ite ((acceptResync_keeps _ _).after (hx1)) (hx1))

theorem execOnRequest_keeps {b g : Bool} (v : Word) (s : State) :
    KeepsO b g s (execOnRequest v s) := by
  unfold execOnRequest
  exact .next (writeDomReq_keeps _ _)

theorem execOffRequest_keeps {b g : Bool} (v : Word) (s : State) :
    KeepsO b g s (execOffRequest v s) := by
  unfold execOffRequest
  exact .next (writeDomReq_keeps _ _)

theorem powerUnit_keeps {b g : Bool} (s : State) (d : Nat) :
    Keeps b g s (powerUnit s d) := by
  unfold powerUnit
  exact .ite (loadRingShadows_keeps _ _) (.ite (freeRunStarts_keeps _) .rfl)

theorem execRampComplete_keeps {b g : Bool} (dom : Nat) (s : State) :
    KeepsO b g s (execRampComplete dom s) := by
  unfold execRampComplete
  refine .ite ?_ (.next .rfl)
  extract_lets -underBinder -merge -useContext +onlyGivenNames x1 x2
  have hx2 : Keeps b g s x2 := State.setDom_keeps _ _ _
  exact .ite (.next ((startDrain_keeps _ _).after ((State.withPower_keeps _ _).after (hx2)))) (.next ((powerUnit_keeps _ _).after (hx2)))

theorem serialOff_keeps {b g : Bool} (s : State) (l : Nat) :
    Keeps b g s (serialOff s l) := by
  unfold serialOff
  exact (serFlush_keeps _ _).after (State.setFlag_keeps _ _ _)

theorem unitOff_keeps {b g : Bool} (s : State) (d : Nat) :
    Keeps b g s (unitOff s d) := by
  unfold unitOff
  exact .ite (canOff_keeps _ _) (.ite (serialOff_keeps _ _) .rfl)

theorem execDrainComplete_keeps {b g : Bool} (dom : Nat) (s : State) :
    KeepsO b g s (execDrainComplete dom s) := by
  unfold execDrainComplete
  split
  · exact .next ((unitOff_keeps _ _).after (State.setDom_keeps _ _ _))
  · exact .next ((unitOff_keeps _ _).after (State.setDom_keeps _ _ _))
  · exact .next .rfl

theorem execDomFault_keeps {b g : Bool} (dom : Nat) (s : State) :
    KeepsO b g s (execDomFault dom s) := by
  unfold execDomFault
  extract_lets -underBinder -merge -useContext +onlyGivenNames x1
  try clear_value x1
  refine .ite ?_ (.next .rfl)
  extract_lets -underBinder -merge -useContext +onlyGivenNames x2
  have hx2 : Keeps b g s x2 := (unitOff_keeps _ _).after ((State.withPower_keeps _ _).after (State.setDom_keeps _ _ _))
  exact .next ((State.raise_keeps _ _ _ _ _).after ((State.note_keeps _ _).after (hx2)))

theorem showFeed_keeps {b g : Bool} (s : State) (feedB : Bool) (cv : Nat) :
    Keeps b g s (showFeed s feedB cv) := by
  unfold showFeed
  exact .ite ((State.setFlag_keeps _ _ _).after (State.setFld_keeps _ _ _)) ((State.setFlag_keeps _ _ _).after (State.setFld_keeps _ _ _))

theorem execFeedLost_keeps {b g : Bool} (feedB : Bool) (cv : Nat) (s : State) :
    KeepsO b g s (execFeedLost feedB cv s) := by
  unfold execFeedLost
  exact .ite (.next ((State.raise_keeps _ _ _ _ _).after ((State.note_keeps _ _).after (showFeed_keeps _ _ _)))) (.next .rfl)

theorem writeQueue_keeps {b g : Bool} (s : State) :
    Keeps b g s (writeQueue s) := by
  unfold writeQueue
  exact .fold (fun _ _ => writeFront_keeps _) .rfl

theorem execSupplyFailWarning_keeps {g : Bool} (s : State) :
    KeepsO false g s (execSupplyFailWarning s) := by
  unfold execSupplyFailWarning
  refine .ite (.next .rfl) ?_
  extract_lets -underBinder -merge -useContext +onlyGivenNames x1 x2
  have hx1 : Keeps false g s x1 := (State.setFlag_keeps _ _ _).after ((State.setFlag_keeps _ _ _).after (State.setFlag_keeps _ _ _))
  have hx2 : Keeps false g s x2 := (State.withPower_keeps _ _).after (hx1)
  exact .next ((writeQueue_keeps _).after ((flushDone_keeps _).after (hx2)))

theorem execReset_keeps {g : Bool} (kind : Nat) (s : State) :
    KeepsO false g s (execReset kind s) := by
  unfold execReset
  exact .ite (.next .rfl) (.next (resetModule_keeps _ _))

theorem execFeedReturn_keeps {b g : Bool} (feedB : Bool) (cv : Nat) (s : State) :
    KeepsO b g s (execFeedReturn feedB cv s) := by
  unfold execFeedReturn
  extract_lets -underBinder -merge -useContext +onlyGivenNames x1
  have hx1 : Keeps b g s x1 := showFeed_keeps _ _ _
  exact .next (.ite ((State.withPower_keeps _ _).after (hx1)) (hx1))

theorem execPwrReset_keeps {g : Bool} (v : Word) (s : State) :
    KeepsO false g s (execPwrReset v s) := by
  unfold execPwrReset
  exact .next (writePwrReset_keeps _ _)

theorem execTickWatchdog_keeps {g : Bool} (s : State) :
    KeepsO false g s (execTickWatchdog s) := by
  unfold execTickWatchdog
  exact .next (.ite (resetModule_keeps _ _) .rfl)

theorem execStartWatchdog_keeps {g : Bool} (s : State) :
    KeepsO false g s (execStartWatchdog s) := by
  unfold execStartWatchdog
  exact .ite (.ite (.next (State.setFlag_keeps _ _ _)) (.next (resetModule_keeps _ _))) (.next .rfl)

theorem zeroise_keeps {b g : Bool} (s : State) :
    Keeps b g s (zeroise s) := by
  unfold zeroise
  extract_lets -underBinder -merge -useContext +onlyGivenNames x1
  have hx1 : Keeps b g s x1 := (State.setDword_keeps _ _ _).after (State.setFld_keeps _ _ _)
  exact (closeAll_keeps _).after ((State.withSkerry_keeps _ _).after (hx1))

theorem skerryLost_keeps {b g : Bool} (s : State) :
    Keeps b g s (skerryLost s) := by
  unfold skerryLost
  extract_lets -underBinder -merge -useContext +onlyGivenNames x1 x2
  have hx1 : Keeps b g s x1 := (State.withSkerry_keeps _ _).after (zeroise_keeps _)
  have hx2 : Keeps b g s x2 := (State.setReg_keeps _ _ _).after ((State.setReg_keeps _ _ _).after ((State.setFld_keeps _ _ _).after (hx1)))
  exact .upd (hx2)

theorem skerryError_keeps {b g : Bool} (s : State) (a : DWord) :
    Keeps b g s (skerryError s a) := by
  unfold skerryError
  exact (State.raise_keeps _ _ _ _ _).after ((State.note_keeps _ _).after (State.count_keeps _ _ _))

theorem loaderTamper_keeps {b g : Bool} (s : State) :
    Keeps b g s (loaderTamper s) := by
  unfold loaderTamper
  exact .ite .rfl (loaderFail_keeps _ _)

theorem tamperHold_keeps {b g : Bool} (s : State) :
    Keeps b g s (tamperHold s) := by
  unfold tamperHold
  exact (State.become_keeps _ _ _).after ((State.setFld_keeps _ _ _).after ((endPairing_keeps _).after ((loaderTamper_keeps _).after (coreDomains_keeps _))))

theorem tamperRunning_keeps {b g : Bool} (s : State) :
    Keeps b g s (tamperRunning s) := by
  unfold tamperRunning
  exact (yieldIfDue_keeps _).after ((showSessions_keeps _).after ((loaderTamper_keeps _).after (State.setFlag_keeps _ _ _)))

theorem tamperOutcome_keeps {b g : Bool} (s : State) :
    Keeps b g s (tamperOutcome s) := by
  unfold tamperOutcome
  exact .ite ((showSessions_keeps _).after (tamperHold_keeps _)) (tamperRunning_keeps _)

theorem liveAtStart_keeps {b g : Bool} (s : State) :
    Keeps b g s (liveAtStart s) := by
  unfold liveAtStart
  extract_lets -underBinder -merge -useContext +onlyGivenNames x1 x2
  have hx2 : Keeps b g s x2 := (State.setFld_keeps _ _ _).after (State.setFld_keeps _ _ _)
  exact (tamperOutcome_keeps _).after ((zeroise_keeps _).after ((State.raise_keeps _ _ _ _ _).after (hx2)))

theorem startStep1_keeps {b g : Bool} (s : State) (x : StartIn) :
    Keeps b g s (startStep1 s x) := by
  unfold startStep1
  extract_lets -underBinder -merge -useContext +onlyGivenNames x1 x2 x3 x4
  have hx1 : Keeps b g s x1 := .ite (State.setReg_keeps _ _ _) .rfl
  have hx2 : Keeps b g s x2 := (State.setFlag_keeps _ _ _).after ((State.setFlag_keeps _ _ _).after (hx1))
  have hx3 : Keeps b g s x3 := .ite ((skerryLost_keeps _).after ((skerryError_keeps _ _).after (hx2))) (hx2)
  have hx4 : Keeps b g s x4 := (copyTampers_keeps _).after ((State.withSkerry_keeps _ _).after (hx3))
  try clear_value x1
  try clear_value x2
  try clear_value x3
  try clear_value x4
  refine .ite ((liveAtStart_keeps _).after (hx4)) ?_
  extract_lets -underBinder -merge -useContext +onlyGivenNames x5
  have hx5 : Keeps b g s x5 := .ite ((showSessions_keeps _).after ((State.setFlag_keeps _ _ _).after (hx4))) (hx4)
  exact (State.setFld_keeps _ _ _).after (hx5)

theorem startStep2_keeps {b g : Bool} (s : State) (x : StartIn) :
    Keeps b g s (startStep2 s x) := by
  unfold startStep2
  extract_lets -underBinder -merge -useContext +onlyGivenNames x1
  have hx1 : Keeps b g s x1 := (State.setFlag_keeps _ _ _).after (State.setFld_keeps _ _ _)
  exact .ite ((coreDomains_keeps _).after ((State.setFld_keeps _ _ _).after (hx1))) (hx1)

theorem startStep3_keeps {b g : Bool} (s : State) (x : StartIn) :
    Keeps b g s (startStep3 s x) := by
  unfold startStep3
  refine .ite ?_ .rfl
  extract_lets -underBinder -merge -useContext +onlyGivenNames x1
  have hx1 : Keeps b g s x1 := State.withSkerry_keeps _ _
  exact (State.setFld_keeps _ _ _).after ((State.setNow_keeps _ _ _).after (hx1))

theorem readJournal_keeps {b g : Bool} (s : State) :
    Keeps b g s (readJournal s) := by
  unfold readJournal
  extract_lets -underBinder -merge -useContext +onlyGivenNames x1 x2 x3 x4 x5 x6 x7
  have hx4 : Keeps b g s x4 := State.setDword_keeps _ _ _
  have hx5 : Keeps b g s x5 := .upd (hx4)
  have hx6 : Keeps b g s x6 := (State.setFld_keeps _ _ _).after (hx5)
  have hx7 : Keeps b g s x7 := (State.setFld_keeps _ _ _).after (hx6)
  exact .ite (hx7) ((State.raise_keeps _ _ _ _ _).after (hx7))

theorem lineErrors_keeps {b g : Bool} (copyB : Bool) (us : List Nat) (s : State) :
    Keeps b g s (lineErrors copyB us s) := by
  unfold lineErrors
  exact .fold (fun _ _ => State.memError_keeps _ _) .rfl

theorem retainedLoad_keeps {b g : Bool} (s : State) (first n : Nat) :
    Keeps b g s (retainedLoad s first n).1 := by
  unfold retainedLoad
  extract_lets us fresh whole take src inA inB s1 s2 s3
  have h1 : Keeps b g s s1 := Keeps.ite (lineErrors_keeps _ _ _) (Keeps.refl _ _ _)
  have h2 : Keeps b g s s2 := Keeps.ite ((lineErrors_keeps _ _ _).after h1) h1
  have h3 : Keeps b g s s3 := Keeps.upd h2
  clear_value s3
  have ht : ∀ x v u, Keeps b g x (take x v u) := fun _ _ _ => Keeps.upd (Keeps.refl _ _ _)
  have hs : ∀ x v, Keeps b g x (src x v) := fun _ _ => State.setFld_keeps _ _ _
  clear_value take src
  split
  · exact (hs _ _).after ((Keeps.fold (fun _ _ => ht _ _ _) h3))
  split
  · exact (hs _ _).after ((Keeps.fold (fun _ _ => ht _ _ _) h3))
  refine Keeps.foldFst ?_ ((hs _ _).after h3)
  rintro ⟨x, l⟩ u
  dsimp only
  split
  all_goals first | exact ht _ _ _ | exact Keeps.refl _ _ _

theorem loadTrims_keeps {b g : Bool} (s : State) :
    Keeps b g s (loadTrims s) := by
  unfold loadTrims
  exact .fold (fun _ _ => (State.setReg_keeps _ _ _).after (State.setReg_keeps _ _ _)) .rfl

theorem takeTrims_keeps {b g : Bool} (s : State) (lost : List Nat) :
    Keeps b g s (takeTrims s lost) := by
  unfold takeTrims
  extract_lets -underBinder -merge -useContext +onlyGivenNames x1
  have hx1 : Keeps b g s x1 := .ite ((State.note_keeps _ _).after (retainedPut_keeps _ _ _)) .rfl
  exact (loadTrims_keeps _).after (hx1)

theorem readTrims_keeps {b g : Bool} (s : State) :
    Keeps b g s (readTrims s) := by
  unfold readTrims
  split
  rename_i p2 p3 hq1
  have hp2 : Keeps b g s p2 := .fst hq1 (retainedLoad_keeps _ _ _)
  exact (takeTrims_keeps _ _).after (hp2)

theorem rebuildCounts_keeps {b g : Bool} (s : State) :
    Keeps b g s (rebuildCounts s) := by
  unfold rebuildCounts
  split
  · exact (State.setReg_keeps _ _ _).after ((State.setReg_keeps _ _ _).after ((State.setReg_keeps _ _ _).after (State.setReg_keeps _ _ _)))
  · extract_lets -underBinder -merge -useContext +onlyGivenNames x1 x2
    have hx2 : Keeps b g s x2 := (State.setReg_keeps _ _ _).after (State.setReg_keeps _ _ _)
    exact (State.raise_keeps _ _ _ _ _).after ((State.setDword_keeps _ _ _).after (hx2))

theorem startStep4_keeps {b g : Bool} (s : State) (x : StartIn) :
    Keeps b g s (startStep4 s x) := by
  unfold startStep4
  extract_lets -underBinder -merge -useContext +onlyGivenNames x1 x2 x3 x4
  have hx1 : Keeps b g s x1 := State.setFlag_keeps _ _ _
  have hx2 : Keeps b g s x2 := .ite (hx1) ((State.raise_keeps _ _ _ _ _).after ((State.setFld_keeps _ _ _).after (hx1)))
  have hx3 : Keeps b g s x3 := (readJournal_keeps _).after ((readTrims_keeps _).after (hx2))
  have hx4 : Keeps b g s x4 := .ite ((rebuildCounts_keeps _).after (hx3)) (hx3)
  exact (State.setFld_keeps _ _ _).after ((State.checkpointRecord_keeps _).after (hx4))

theorem showBanks_keeps {b g : Bool} (s : State) :
    Keeps b g s (showBanks s) := by
  unfold showBanks
  exact (showBank_keeps _ _).after (showBank_keeps _ _)

theorem startSafe_keeps {b g : Bool} (s : State) :
    Keeps b g s (startSafe s) := by
  unfold startSafe
  exact (State.become_keeps _ _ _).after (leaveStart_keeps _)

theorem loadRetained_keeps {b g : Bool} (s : State) (im : Image) :
    Keeps b g s (loadRetained s im) := by
  unfold loadRetained
  extract_lets -underBinder -merge -useContext +onlyGivenNames x1
  try clear_value x1
  split
  rename_i p3 p4 hq2
  have hp3 : Keeps b g s p3 := .fst hq2 (retainedLoad_keeps _ _ _)
  extract_lets -underBinder -merge -useContext +onlyGivenNames x5 x8 x9 x10 x13
  have hx5 : Keeps b g s x5 := .fold (fun _ _ => retainedPut_keeps _ _ _) (hp3)
  have hx10 : Keeps b g s x10 := .fold (fun _ _ => retainedPut_keeps _ _ _) (hx5)
  have hx13 : Keeps b g s x13 := .ite (hx10) ((State.raise_keeps _ _ _ _ _).after ((State.note_keeps _ _).after (hx10)))
  exact (takeTrims_keeps _ _).after (hx13)

theorem showMode_keeps {b g : Bool} (s : State) (mode : Nat) :
    Keeps b g s (showMode s mode) := by
  unfold showMode
  exact setFields_keeps _ _

theorem loadBank_keeps {g : Bool} (s : State) (x : StartIn) (b' : Nat) :
    Keeps false g s (loadBank s x b') := by
  unfold loadBank
  extract_lets -underBinder -merge -useContext +onlyGivenNames x1 x2 x3 x4 x5 x6
  have hx2 : Keeps false g s x2 := (loadRetained_keeps _ _).after ((installImage_keeps _ _).after (showMode_keeps _ _))
  have hx3 : Keeps false g s x3 := (State.setFlag_keeps _ _ _).after ((State.setFld_keeps _ _ _).after (hx2))
  have hx4 : Keeps false g s x4 := (State.setFlag_keeps _ _ _).after (hx3)
  have hx5 : Keeps false g s x5 := .ite (hx3) (.upd (hx4))
  have hx6 : Keeps false g s x6 := .ite (hx5) ((State.withLoader_keeps _ _).after (hx5))
  exact (State.setFld_keeps _ _ _).after ((powerNeeded_keeps _ _).after (hx6))

theorem startStep5_keeps {g : Bool} (s : State) (x : StartIn) : Keeps false g s (startStep5 s x) := by
  unfold startStep5
  extract_lets s1 s2
  have h1 : Keeps false g s s1 := showBanks_keeps _
  have h2 : Keeps false g s s2 := Keeps.ite h1 ((State.setFlag_keeps _ _ _).after ((State.raise_keeps _ _ _ _ _).after h1))
  clear_value s2
  have h3 := (chooseBank_keeps (b := false) (g := g) x s2 (bankOrder s2 x)).after h2
  split
  next h => rw [h] at h3; exact (startSafe_keeps _).after h3
  next h => rw [h] at h3; exact (loadBank_keeps _ _ _).after h3

theorem initUnits_keeps {g : Bool} (s : State) (im : Image) :
    Keeps false g s (initUnits s im) := by
  unfold initUnits
  exact (freshUnits_keeps _ _ _).after (applyRegInit_keeps _ _)

theorem startStep6_keeps {g : Bool} (s : State) (x : StartIn) :
    Keeps false g s (startStep6 s x) := by
  unfold startStep6
  split
  · exact .rfl
  · exact .ite .rfl ((State.setFld_keeps _ _ _).after ((readStraps_keeps _ _).after (initUnits_keeps _ _)))

theorem startStep7_keeps {b g : Bool} (s : State) :
    Keeps b g s (startStep7 s) := by
  unfold startStep7
  exact .ite (State.setFld_keeps _ _ _) .rfl

theorem startStep8_keeps {b g : Bool} (s : State) (x : StartIn) :
    Keeps b g s (startStep8 s x) := by
  unfold startStep8
  extract_lets -underBinder -merge -useContext +onlyGivenNames x1
  have hx1 : Keeps b g s x1 := State.withPower_keeps _ _
  try clear_value x1
  refine .ite ((decideStart_keeps _ _ _).after (hx1)) ?_
  refine .ite (hx1) ?_
  split
  · exact hx1
  · exact .ite (.ite (hx1) (.ite ((modeConflict_keeps _ _).after (hx1)) ((decideStart_keeps _ _ _).after (hx1)))) (.ite (.ite ((joinRequest_keeps _).after (hx1)) (hx1)) (hx1))

theorem startStep9_keeps {b g : Bool} (s : State) :
    Keeps b g s (startStep9 s) := by
  unfold startStep9
  split
  · exact .rfl
  · extract_lets -underBinder -merge -useContext +onlyGivenNames x1 x2
    have hx2 : Keeps b g s x2 := (leaveStart_keeps _).after (State.withPower_keeps _ _)
    exact .ite ((State.become_keeps _ _ _).after ((State.raiseEpoch_keeps _ _).after (hx2))) ((State.become_keeps _ _ _).after ((State.raiseEpochFrom_keeps _ _ _).after (hx2)))

theorem startStep_keeps {g : Bool} (s : State) (x : StartIn) :
    Keeps false g s (startStep s x) := by
  unfold startStep
  refine .ite .rfl ?_
  split
  · exact startStep1_keeps _ _
  · exact startStep2_keeps _ _
  · exact startStep3_keeps _ _
  · exact startStep4_keeps _ _
  · exact startStep5_keeps _ _
  · exact startStep6_keeps _ _
  · exact startStep7_keeps _
  · exact startStep8_keeps _ _
  · exact startStep9_keeps _
  · exact .rfl

theorem execStartStep_keeps {g : Bool} (x : StartIn) (s : State) :
    KeepsO false g s (execStartStep x s) := by
  unfold execStartStep
  exact .next (startStep_keeps _ _)

theorem logTamper_keeps {b g : Bool} (s : State) (sensor : Nat) (moment : Nat) (clock : DWord) :
    Keeps b g s (logTamper s sensor moment clock) := by
  unfold logTamper
  extract_lets -underBinder -merge -useContext +onlyGivenNames x1 x2 x3
  have hx1 : Keeps b g s x1 := State.setFld_keeps _ _ _
  have hx2 : Keeps b g s x2 := (State.setFld_keeps _ _ _).after (hx1)
  have hx3 : Keeps b g s x3 := (State.setFld_keeps _ _ _).after (hx2)
  exact (State.withSkerry_keeps _ _).after (hx3)

theorem execTamper_keeps {b g : Bool} (sensor : Nat) (clock : DWord) (s : State) :
    KeepsO b g s (execTamper sensor clock s) := by
  unfold execTamper
  extract_lets -underBinder -merge -useContext +onlyGivenNames x1 x2
  have hx2 : Keeps b g s x2 := logTamper_keeps _ _ _ _
  exact .ite (.next ((zeroise_keeps _).after (hx2))) (.next ((tamperOutcome_keeps _).after ((zeroise_keeps _).after ((State.raise_keeps _ _ _ _ _).after (hx2)))))

theorem execReKey_keeps {b g : Bool} (s : State) :
    KeepsO b g s (execReKey s) := by
  unfold execReKey
  exact .next (.ite .rfl ((State.withPanel_keeps _ _).after (State.withSkerry_keeps _ _)))

theorem execReKeyingDone_keeps {b g : Bool} (key : List Byte) (s : State) :
    KeepsO b g s (execReKeyingDone key s) := by
  unfold execReKeyingDone
  refine .ite ?_ (.next .rfl)
  extract_lets -underBinder -merge -useContext +onlyGivenNames x1 x2 x3 x4
  have hx2 : Keeps b g s x2 := State.withSkerry_keeps _ _
  have hx3 : Keeps b g s x3 := (State.setDword_keeps _ _ _).after ((State.setFld_keeps _ _ _).after (hx2))
  have hx4 : Keeps b g s x4 := (State.setFlag_keeps _ _ _).after ((State.setFlag_keeps _ _ _).after (hx3))
  exact .next ((State.raise_keeps _ _ _ _ _).after ((showSessions_keeps _).after (hx4)))

theorem showMenu_keeps {b g : Bool} (s : State) (m : PanelMenu) :
    Keeps b g s (showMenu s m) := by
  unfold showMenu
  exact State.withPanel_keeps _ _

theorem panelNotice_keeps {b g : Bool} (s : State) (n : PanelNotice) :
    Keeps b g s (panelNotice s n) := by
  unfold panelNotice
  exact State.withPanel_keeps _ _

theorem openMenu_keeps {b g : Bool} (s : State) (i : Nat) :
    Keeps b g s (openMenu s i) := by
  unfold openMenu
  exact .ite (panelNotice_keeps _ _) (showMenu_keeps _ _)

theorem listKey_keeps {b g : Bool} (s : State) (i : Nat) (k : Nat) :
    Keeps b g s (listKey s i k) := by
  unfold listKey
  split
  · exact showMenu_keeps _ _
  · exact showMenu_keeps _ _
  · exact openMenu_keeps _ _
  · exact openMenu_keeps _ _
  · exact showMenu_keeps _ _
  · exact .rfl

theorem panelTrimStep_keeps {b g : Bool} (s : State) (n : Nat) :
    Keeps b g s (panelTrimStep s n) := by
  unfold panelTrimStep
  extract_lets -underBinder -merge -useContext +onlyGivenNames x1
  have hx1 : Keeps b g s x1 := trimStep_keeps _ _ _
  exact .ite ((showMenu_keeps _ _).after (hx1)) (.ite ((panelNotice_keeps _ _).after (hx1)) (hx1))

theorem trimKey_keeps {b g : Bool} (s : State) (n : Nat) (k : Nat) :
    Keeps b g s (trimKey s n k) := by
  unfold trimKey
  refine .ite (panelNotice_keeps _ _) ?_
  split
  · exact State.setReg_keeps _ _ _
  · exact State.setReg_keeps _ _ _
  · exact .ite (State.withPanel_keeps _ _) .rfl
  · exact .ite (State.withPanel_keeps _ _) .rfl
  · exact .ite (panelTrimStep_keeps _ _) .rfl

theorem pressKey_keeps {b g : Bool} (s : State) (k : Nat) :
    Keeps b g s (pressKey s k) := by
  unfold pressKey
  split
  · exact .ite .rfl (showMenu_keeps _ _)
  · exact listKey_keeps _ _ _
  · exact .ite (showMenu_keeps _ _) (trimKey_keeps _ _ _)
  · exact .ite (showMenu_keeps _ _) .rfl

theorem holdAction_keeps {g : Bool} (s : State) :
    Keeps false g s (holdAction s) := by
  unfold holdAction
  split
  · refine .ite (panelNotice_keeps _ _) ?_
    extract_lets -underBinder -merge -useContext +onlyGivenNames x1
    have hx1 : Keeps false g s x1 := trimStep_keeps _ _ _
    exact (panelNotice_keeps _ _).after (hx1)
  · exact commandReset_keeps _
  · exact .rfl

theorem keyScan_keeps {g : Bool} (s : State) (counts : List Nat) :
    Keeps false g s (keyScan s counts) := by
  unfold keyScan
  extract_lets -underBinder -merge -useContext +onlyGivenNames x1 x2 x3 x4 x5 x6 x7 x8 x9 x10
  have hx8 : Keeps false g s x8 := (State.setFld_keeps _ _ _).after (State.setFld_keeps _ _ _)
  have hx9 : Keeps false g s x9 := (State.withPanel_keeps _ _).after (hx8)
  have hx10 : Keeps false g s x10 := .fold (fun _ _ => pressKey_keeps _ _) (hx9)
  exact .ite ((holdAction_keeps _).after (hx10)) (hx10)

theorem execKeyScan_keeps {g : Bool} (counts : List Nat) (s : State) :
    KeepsO false g s (execKeyScan counts s) := by
  unfold execKeyScan
  exact .next (keyScan_keeps _ _)

theorem execMenuTimeout_keeps {b g : Bool} (s : State) :
    KeepsO b g s (execMenuTimeout s) := by
  unfold execMenuTimeout
  exact .next (showMenu_keeps _ _)

theorem execService_keeps {b g : Bool} (a : SvcAddr) (s : State) :
    KeepsO b g s (execService a s) := by
  unfold execService
  exact .next (.ite .rfl (.ite (panelNotice_keeps _ _) (State.withPanel_keeps _ _)))

theorem execServiceAddressApply_keeps {b g : Bool} (s : State) :
    KeepsO b g s (execServiceAddressApply s) := by
  unfold execServiceAddressApply
  split
  · exact .next .rfl
  · extract_lets -underBinder -merge -useContext +onlyGivenNames x1 x2
    have hx1 : Keeps b g s x1 := (State.setFld_keeps _ _ _).after (State.setReg_keeps _ _ _)
    have hx2 : Keeps b g s x2 := (State.withPanel_keeps _ _).after ((State.setFld_keeps _ _ _).after (hx1))
    exact .next ((closePort_keeps _ _).after (hx2))

theorem execLaneDown_keeps {b g : Bool} (lane : Nat) (s : State) :
    KeepsO b g s (execLaneDown lane s) := by
  unfold execLaneDown
  exact .next ((updateLanes_keeps _).after (State.withPair_keeps _ _))

theorem execAnnounceMessage_keeps {b g : Bool} (port : Nat) (ds : PtpDataset) (s : State) :
    KeepsO b g s (execAnnounceMessage port ds s) := by
  unfold execAnnounceMessage
  refine .ite ?_ (.next (outsidePtp_keeps _ _))
  extract_lets -underBinder -merge -useContext +onlyGivenNames x1 x2 x3
  have hx2 : Keeps b g s x2 := State.withTime_keeps _ _
  have hx3 : Keeps b g s x3 := .ite (hx2) ((State.withTime_keeps _ _).after (hx2))
  exact .next ((reselect_keeps _).after (hx3))

theorem execLinkUp_keeps {b g : Bool} (port : Nat) (speed : Nat) (s : State) :
    KeepsO b g s (execLinkUp port speed s) := by
  unfold execLinkUp
  exact .next ((State.setFld_keeps _ _ _).after (State.setFlag_keeps _ _ _))

theorem execTransmissionStart_keeps {b g : Bool} (bus : Nat) (s : State) :
    KeepsO b g s (execTransmissionStart bus s) := by
  unfold execTransmissionStart
  extract_lets -underBinder -merge -useContext +onlyGivenNames x1
  try clear_value x1
  refine .ite ?_ (.next .rfl)
  split
  · exact .next .rfl
  · exact .next ((setCanState_keeps _ _ _ _).after (State.setCan_keeps _ _ _))

theorem execCharacterTransmitted_keeps {b g : Bool} (line : Nat) (s : State) :
    KeepsO b g s (execCharacterTransmitted line s) := by
  unfold execCharacterTransmitted
  refine .ite ?_ (.next .rfl)
  split
  · exact .next .rfl
  · extract_lets -underBinder -merge -useContext +onlyGivenNames x1
    have hx1 : Keeps b g s x1 := State.setFlag_keeps _ _ _
    exact .next ((State.emit_keeps _ _).after ((putSer_keeps _ _ _).after (hx1)))

theorem execBreakEnd_keeps {b g : Bool} (line : Nat) (s : State) :
    KeepsO b g s (execBreakEnd line s) := by
  unfold execBreakEnd
  exact .next (State.setFlag_keeps _ _ _)

theorem execTamperSensorCleared_keeps {b g : Bool} (sensor : Nat) (s : State) :
    KeepsO b g s (execTamperSensorCleared sensor s) := by
  unfold execTamperSensorCleared
  extract_lets -underBinder -merge -useContext +onlyGivenNames x1
  exact .next (.ite (State.setFld_keeps _ _ _) .rfl)

theorem scrubReport_keeps {b g : Bool} (s : State) (f : ScrubFindings) :
    Keeps b g s (scrubReport s f) := by
  unfold scrubReport
  extract_lets -underBinder -merge -useContext +onlyGivenNames x1 x2
  have hx1 : Keeps b g s x1 := (State.count_keeps _ _ _).after ((State.count_keeps _ _ _).after (State.count_keeps _ _ _))
  have hx2 : Keeps b g s x2 := .fold (fun _ _ => (State.memError_keeps _ _).after (.ite .rfl (.upd .rfl))) (hx1)
  exact .fold (fun _ _ => skerryError_keeps _ _) (hx2)

theorem execScrubPass_keeps {b g : Bool} (found : ScrubFindings) (s : State) :
    KeepsO b g s (execScrubPass found s) := by
  unfold execScrubPass
  exact .next (scrubReport_keeps _ _)

theorem execStraitMessageDiscard_keeps {b g : Bool} (message : List Byte) (s : State) :
    KeepsO b g s (execStraitMessageDiscard message s) := by
  unfold execStraitMessageDiscard
  exact .next (.ite .rfl (State.count_keeps _ _ _))

theorem execMalformedDatagram_keeps {b g : Bool} (datagram : List Byte) (s : State) :
    KeepsO b g s (execMalformedDatagram datagram s) := by
  unfold execMalformedDatagram
  exact .next (.ite .rfl (State.count_keeps _ _ _))

theorem execDiscardedFrame_keeps {b g : Bool} (port : Nat) (ptp : Bool) (s : State) :
    KeepsO b g s (execDiscardedFrame port ptp s) := by
  unfold execDiscardedFrame
  exact .next (State.count_keeps _ _ _)

end Sys2Proof.Machine
end

