-- ==== Sys2Proof/Laws/Store.lean ====
section
/-! SUPPORT. A marker entry that is programmed reads back (R223, R226), and a sector with one entry holds that entry. -/

namespace Sys2Proof.Machine

open Sys2Proof

/-- The first 76 bytes of an entry, under its CRC (R223). -/
theorem entryBytes_head (m : Marker) : ∃ h : List Byte, h.length = 76 ∧ entryBytes m = withCrc32 h ∧
    h = beBytes 2 (kindCode m.kind) ++ ([0, 0] ++ (beBytes 4 m.opnum.toNat ++ (beBytes 4 m.seq.toNat ++ ([0, 0, 0, 0] ++
      (beBytes 8 m.length ++ ((m.digest ++ List.replicate 48 0).take 48 ++ [0, 0, 0, 0])))))) := by
  refine ⟨_, ?_, ?_, rfl⟩
  · simp
  · simp [entryBytes]

/-- An entry has 80 bytes. -/
@[simp] theorem entryBytes_length (m : Marker) : (entryBytes m).length = 80 := by
  obtain ⟨h, hl, he, -⟩ := entryBytes_head m
  simp [he, withCrc32, hl]

/-- An entry reads back with its kind, OPNUM, SEQ and LENGTH; a COMMIT also with its DIGEST, filled with zeros to 48 bytes. -/
theorem readEntry_entryBytes (m : Marker) (hl : m.length < 2 ^ 64) : readEntry (entryBytes m) =
    some ⟨m.kind, m.opnum, m.seq, m.length, if m.kind = .commit then (m.digest ++ List.replicate 48 0).take 48 else []⟩ := by
  obtain ⟨h, hh, he, hf⟩ := entryBytes_head m
  have ht : (entryBytes m).take 76 = h := by rw [he]; exact List.take_left' hh
  have full : entryBytes m = h ++ beBytes 4 (crc32 h).toNat := he
  have k0 : beAt (entryBytes m) 0 2 = kindCode m.kind := by
    rw [beAt_of_eq (bs := entryBytes m) (o := 0) (pre := []) (n := 2) (v := kindCode m.kind) (by rw [full, hf]; simp; rfl) rfl]
    cases m.kind <;> rfl
  have k4 : beAt (entryBytes m) 4 4 = m.opnum.toNat := by
    rw [beAt_of_eq (pre := beBytes 2 (kindCode m.kind) ++ [0, 0]) (n := 4) (v := m.opnum.toNat)
      (by rw [full, hf]; simp; rfl) (by simp)]
    exact Nat.mod_eq_of_lt m.opnum.isLt
  have k8 : beAt (entryBytes m) 8 4 = m.seq.toNat := by
    rw [beAt_of_eq (pre := beBytes 2 (kindCode m.kind) ++ [0, 0] ++ beBytes 4 m.opnum.toNat) (n := 4) (v := m.seq.toNat)
      (by rw [full, hf]; simp; rfl) (by simp)]
    exact Nat.mod_eq_of_lt m.seq.isLt
  have k16 : beAt (entryBytes m) 16 8 = m.length := by
    rw [beAt_of_eq (pre := beBytes 2 (kindCode m.kind) ++ [0, 0] ++ beBytes 4 m.opnum.toNat ++ beBytes 4 m.seq.toNat ++
      [0, 0, 0, 0]) (n := 8) (v := m.length) (by rw [full, hf]; simp; rfl) (by simp)]
    exact Nat.mod_eq_of_lt (by simpa using hl)
  have kd : ((entryBytes m).drop 24).take 48 = (m.digest ++ List.replicate 48 0).take 48 := by
    have : entryBytes m = (beBytes 2 (kindCode m.kind) ++ [0, 0] ++ beBytes 4 m.opnum.toNat ++ beBytes 4 m.seq.toNat ++
        [0, 0, 0, 0] ++ beBytes 8 m.length) ++ ((m.digest ++ List.replicate 48 0).take 48 ++ ([0, 0, 0, 0] ++
        beBytes 4 (crc32 h).toNat)) := by rw [full]; nth_rewrite 1 [hf]; simp
    rw [this, List.drop_left' (by simp), List.take_left' (by simp)]
  unfold readEntry
  rw [if_pos ⟨entryBytes_length m, by rw [ht, he]⟩, k0, k4, k8, k16, kd]
  cases m with
  | mk kind opnum seq length digest => cases kind <;> simp [kindCode]

/-- A sector that holds one entry. -/
theorem markerLog_entryBytes (m : Marker) (d : Bytes) : markerLog ⟨entryBytes m, d⟩ = [entryBytes m] := by
  have take : (entryBytes m).take 80 = entryBytes m := List.take_of_length_le (by simp)
  have drop : (entryBytes m).drop 80 = [] := List.drop_of_length_le (by simp)
  have zero : (entryBytes m)[2]? = some 0 := by
    obtain ⟨h, hh, he, hf⟩ := entryBytes_head m
    rw [he, withCrc32, List.getElem?_append_left (by omega), hf, List.getElem?_append_right (by simp)]
    simp
  have blank : (entryBytes m).all (fun b => b == 0xFF) = false := by
    rw [List.all_eq_false]
    exact ⟨0, List.mem_of_getElem? zero, by decide⟩
  have none : entriesFrom (817 + 1) [] = [] := by rw [entriesFrom]; rfl
  show entriesFrom (818 + 1) (entryBytes m) = _
  rw [entriesFrom]
  rw [take, blank, drop, none]
  simp

/-- The state of a bank whose sector holds one entry rests on it (R226). -/
theorem goodMarkers_entryBytes (m : Marker) (d : Bytes) (hl : m.length < 2 ^ 64) : goodMarkers ⟨entryBytes m, d⟩ =
    [⟨m.kind, m.opnum, m.seq, m.length, if m.kind = .commit then (m.digest ++ List.replicate 48 0).take 48 else []⟩] := by
  simp [goodMarkers, markerLog_entryBytes, readEntry_entryBytes m hl]

end Sys2Proof.Machine
end

