-- ==== Sys2Proof/Tests/Slice0.lean ====
section
/-! SUPPORT. Tests: an ill-formed command for each check of WellFormed, small checks of single commands against values
worked out from the spec's tables, and states and operands that meet the hypotheses of the statements. -/

namespace Sys2Proof.Tests

open Sys2Proof Sys2Proof.Machine

set_option Elab.async false

/-! ## Operands and states -/

def hdr0 : StraitHdr := ⟨0, 0, 0, 0⟩
def up0 : Upset := ⟨[], []⟩
def edge0 : EdgeIn := ⟨0, false, false, false, false, [], []⟩
def frame0 : CyclicFrame := ⟨false, 0, [], []⟩
def stat0 : StatusPayload := ⟨0, false, true, true, false, false, false, 0, 0, 0, 0⟩
def snap0 : Snapshot := ⟨[], [], [], [], [], [], [], false⟩
def ptp0 : PtpEvent := ⟨.sync, 1, 2, 0, false, 0, 0, 0, 0, 0⟩
def acyc0 : AcycFrame := ⟨false, 0, []⟩
def open0 : OpenMsg := ⟨0, 1, 0, 0, [1], [2], [3]⟩
def cmd0 : CmdMsg := ⟨0, 7, 1, 0, 0, 1, [], []⟩
def integ0 : Integration := ⟨0, 0, false⟩
def hart0 : HartReply := ⟨true, 0, 0, 0, [], []⟩
def cal0 : CalResult := ⟨0, 0, 0⟩
def up1 : UplinkFrame := ⟨0, 0, 0, 0, 0, 0⟩
def can0 : CanFrame := ⟨0, false, 0, false, false, false, false, 0, [], 0⟩
def rx0 : RxChar := ⟨false, 0x41, false, false, false⟩
def start0 : StartIn := ⟨2, true, false, false, 0, 0, true, true, 0, []⟩
def svc0 : SvcAddr := ⟨0, 24, 0, 64⟩
def scrub0 : ScrubFindings := ⟨0, 0, 0, [], []⟩

/-- A state with fields set. -/
def sets (s : State) (xs : List (Fld × Nat)) : State := xs.foldl (fun s e => s.setFld e.1 e.2) s

/-- A module whose ticks run, in a module state, before the deadline of its rings. -/
def ticks (m : Nat) : State :=
  sets State.reset [(F.TICK_STATUS.RUNNING, 1), (F.TICK_STATUS.WINDOW, 0), (F.SYS_STATE.STATE, m)]

/-- Task 5: class 0, logical core 0, 64 bytes of data. -/
def task5 : TaskRec := ⟨5, 0, 0, 1, 0, 64, [], false⟩

def budget0 : Budget := ⟨0, 1, 1, [], [⟨5, 0, 0, 100⟩], true⟩

/-- An image with one task, one input and four output slots. -/
def image0 : Image :=
  { seq := 1, coreMode := 0, splitPermitted := true, freeStart := true, acqWait := 0, ptpProfile := 0, ptpDomain := 0,
    prio1 := 128, prio2 := 128, majors := [1], code := [(0, List.replicate 8 0)], tasks := [task5], constAddr := 0,
    constBytes := [], data := [], budget := budget0, signals := [⟨0, 0, false, 0, false, 0, 0, 0⟩,
      ⟨1, 3, true, 0, false, 0, 0, 0⟩], classmap := [], rings := [], stations := [], masters := [], axes := [],
    cams := [], retained := [], reginit := [], power := [], net := [], digest := [9], held := [] }

/-- The registers of a running activation: BA 1, WA 6, WB −7, an open loop, a call, an open nesting entry. -/
def regs5 : TaskRegs :=
  { TaskRegs.fresh with ba := true, wa := 6, wb := 0xFFFFFFFFFFFFFFF9#64, qb := .stale, nest := [⟨true, .good, .and⟩],
                        loops := [⟨1, 1⟩], calls := [2] }

/-- Core 0 runs task 5 with given registers, before a command's own code words (none for a command of another kind). -/
def runs (c : Instr) (r : TaskRegs) : State :=
  let s : State := { ticks stSolo with image := some { image0 with code := [(0, codeOf c ++ List.replicate 8 0)] } }
  let s := s.setCore 0 { CoreSt.idle with cur := some 5, inWindow := true }
  s.setTask 5 { TaskSt.idle with active := true, ended := false, regs := r }

/-- The state that a step gives; reset where it gives none. -/
def after (o : Host.Outcome State Fault Refusal) : State :=
  match o with
  | .next t => t
  | _ => State.reset

/-- The invariant, where no session has anything waiting. -/
theorem inv_of {s : State} (h : Registers.wf s.regs = true ∧ Memory.wf s.mem = true ∧ s.recorder.queue.length ≤ 64 ∧
    s.sessions = []) : Inv s := by
  refine ⟨h.1, h.2.1, h.2.2.1, fun k => ?_⟩
  simp [State.sess, h.2.2.2, Sparse.get, Session.free]

/-! ## Ill-formed commands are refused -/

theorem test_illFormed_refused_1 : (([
    .cyclicFrame 48 frame0, .lock 48 0, .lock 0 2, .lockLoss 48 0, .lockLoss 0 2, .card hdr0 64 0 [], .sliceEnd 16,
     .causewaySwitch 48, .laneUp 8, .fwdWrite hdr0 74 0 0 0 0 none, .fwdWrite hdr0 0 65536 0 0 0 none,
     .fwdWrite hdr0 0 0 1024 0 0 none, .loaderReply hdr0 8 [], .resyncRequest hdr0 0 [] 4, .reply hdr0 256 0 0,
     .reply hdr0 0 65536 0, .reply hdr0 0 0 16, .nop 16 up0, .endTask 16 up0, .chkp 16 up0, .jmp 16 up0 0,
     .jt 16 up0 0, .jf 16 up0 0, .call 16 up0 0, .ret 16 up0, .lpb 16 up0 0, .lpb 0 up0 65536, .lpe 16 up0,
     .lpx 16 up0 0, .ld 16 up0 0 0, .ld 0 up0 4 0, .ld 0 up0 0 4194304, .ldn 16 up0 0 0, .ldn 0 up0 4 0,
     .ldn 0 up0 0 4194304, .andB 16 up0 0 0, .andB 0 up0 4 0, .andB 0 up0 0 4194304, .andn 16 up0 0 0,
     .andn 0 up0 4 0, .andn 0 up0 0 4194304, .orB 16 up0 0 0, .orB 0 up0 4 0, .orB 0 up0 0 4194304, .orn 16 up0 0 0,
     .orn 0 up0 4 0, .orn 0 up0 0 4194304, .xorB 16 up0 0 0, .xorB 0 up0 4 0, .xorB 0 up0 0 4194304] : List Instr).all (fun c => !c.wellFormed)) = true := by decide

theorem test_illFormed_refused_2 : (([
    .xorn 16 up0 0 0, .xorn 0 up0 4 0, .xorn 0 up0 0 4194304, .st 16 up0 0 0, .st 0 up0 4 0, .st 0 up0 0 4194304,
     .stn 16 up0 0 0, .stn 0 up0 4 0, .stn 0 up0 0 4194304, .setB 16 up0 0 0, .setB 0 up0 4 0, .setB 0 up0 0 4194304,
     .rst 16 up0 0 0, .rst 0 up0 4 0, .rst 0 up0 0 4194304, .notB 16 up0, .set1 16 up0, .set0 16 up0, .ap 16 up0,
     .anp 16 up0, .opB 16 up0, .onp 16 up0, .xp 16 up0, .pop 16 up0, .redge 16 up0 0, .redge 0 up0 65536,
     .fedge 16 up0 0, .fedge 0 up0 65536, .ton 16 up0 0, .ton 0 up0 4194304, .tof 16 up0 0, .tof 0 up0 4194304,
     .tp 16 up0 0, .tp 0 up0 4194304, .ctu 16 up0 0, .ctu 0 up0 4194304, .ctd 16 up0 0, .ctd 0 up0 4194304,
     .crst 16 up0 0, .crst 0 up0 4194304, .cld 16 up0 0, .cld 0 up0 4194304, .ldw 16 up0 0 0, .ldw 0 up0 4 0,
     .ldw 0 up0 0 4194304, .stw 16 up0 0 0, .stw 0 up0 4 0, .stw 0 up0 0 4194304, .ldk 16 up0 0, .ldkx 16 up0 0 0] : List Instr).all (fun c => !c.wellFormed)) = true := by decide

theorem test_illFormed_refused_3 : (([
    .ldwx 16 up0 0 0 0, .ldwx 0 up0 4 0 0, .ldwx 0 up0 0 4194304 0, .stwx 16 up0 0 0 0, .stwx 0 up0 4 0 0,
     .stwx 0 up0 0 4194304 0, .tix 16 up0, .ldd 16 up0, .std 16 up0, .swap 16 up0, .btw 16 up0, .wtb 16 up0,
     .qtw 16 up0, .setq 16 up0 .good, .setbq 16 up0 .good, .add 16 up0, .sub 16 up0, .mul 16 up0, .div 16 up0,
     .mod 16 up0, .wand 16 up0, .wor 16 up0, .wxor 16 up0, .wnot 16 up0, .neg 16 up0, .shl 16 up0 0, .shl 0 up0 64,
     .shr 16 up0 0, .shr 0 up0 64, .sar 16 up0 0, .sar 0 up0 64, .addk 16 up0 0, .abs 16 up0, .eq 16 up0, .ne 16 up0,
     .lt 16 up0, .le 16 up0, .gt 16 up0, .ge 16 up0, .ltu 16 up0, .geu 16 up0, .fadd 16 up0, .fsub 16 up0,
     .fmul 16 up0, .fdiv 16 up0, .fsqrt 16 up0, .fneg 16 up0, .fabs 16 up0, .itf 16 up0, .fti 16 up0] : List Instr).all (fun c => !c.wellFormed)) = true := by decide

theorem test_illFormed_refused_4 : (([
    .feq 16 up0, .flt 16 up0, .fle 16 up0, .fmin 16 up0, .fmax 16 up0, .rds 16 up0 0, .rds 0 up0 256, .wrs 16 up0 0,
     .wrs 0 up0 256, .undefinedOpcode 16 up0 0, .causewayReq 48 0, .triggerArm 64 0, .triggerFire 64,
     .capture 32 0 0 true, .capture 0 0 256 true, .declaredPairLowRead (.unit) 16777216,
     .registerWrite (.unit) 16777216 0, .offsetSample 16 0 0 0, .offsetSample 0 0 0 256, .referenceLost 16 0,
     .referenceLost 0 4, .ringDelayUpdate 48 [], .linkDown 16, .acyclicFrame 48 acyc0, .acyclicRequestSend 48,
     .acyclicTimeout 48 0, .acyclicTimeout 0 256, .probe 16 0, .openSession 16 open0, .command 16 cmd0,
     .halfOpenTimeout 16, .sessionIdleTimeout 16, .statusCmd 16, .sessionClose 16, .eventSubscribe 16, .regRead 16,
     .regWrite 16, .memRead 16, .memWrite 16, .imageBegin 16, .imageData 16, .imageEnd 16, .imageCancel 16,
     .imageArm 16, .roleSwap 16, .safeRequest 16, .taskEnable 16, .maintStart 16, .maintStatus 16,
     .activityEnd 64 true] : List Instr).all (fun c => !c.wellFormed)) = true := by decide

theorem test_illFormed_refused_5 : (([
    .stnRead 16, .stnWrite 16, .evrRead 16, .jnlQuery 16, .jnlRead 16, .keyAdmin 16, .peripheralRequest 256 [],
     .integrationEnd 32 integ0, .entryEnd 4 [] 0, .calibration 4, .calibrationDone 4 cal0, .hartReply 4 hart0,
     .hartPollTimeout 4, .passThroughTimeout 4, .overload 32, .overloadRetry 32, .pulseEnd 32, .receivedFrame 4 can0,
     .transmitEnd 4 .success 0, .busOff 4, .busOffRecovery 4, .headRead 4 0, .headRead 0 64, .tailRead 4 0,
     .tailRead 0 64, .lockTimeout 4, .receivedCharacter 4 rx0, .idleRequest 4, .driverRelease 4,
     .coalesceWindowEnd 256, .rampComplete 96, .drainComplete 96, .domFault 96, .feedLost true 65536, .reset 4,
     .feedReturn true 65536, .tamper 6 0, .keyScan [0, 0, 0, 0, 0], .service { svc0 with pfx4 := 33 },
     .service { svc0 with pfx6 := 129 }, .laneDown 8, .announceMessage 16 ⟨0⟩, .linkUp 16 0, .linkUp 0 4,
     .transmissionStart 4, .characterTransmitted 4, .breakEnd 4, .tamperSensorCleared 6, .discardedFrame 16 true] : List Instr).all (fun c => !c.wellFormed)) = true := by decide

/-! ## Aidon -/

/-- The instructions that the statements speak of, at operands that some clause covers, each where core 0 stands at its own
code words (R55). -/
theorem test_witness_coreRuns :
    ∀ c ∈ ([.add 0 up0, .sub 0 up0, .mul 0 up0, .neg 0 up0, .abs 0 up0, .addk 0 up0 5, .div 0 up0, .mod 0 up0,
      .wand 0 up0, .wor 0 up0, .wxor 0 up0, .wnot 0 up0, .shl 0 up0 63, .shr 0 up0 1, .sar 0 up0 1, .eq 0 up0, .ne 0 up0,
      .lt 0 up0, .le 0 up0, .gt 0 up0, .ge 0 up0, .ltu 0 up0, .geu 0 up0, .feq 0 up0, .flt 0 up0, .fle 0 up0, .fneg 0 up0,
      .fabs 0 up0, .fmin 0 up0, .fmax 0 up0, .fadd 0 up0, .fsub 0 up0, .fmul 0 up0, .fdiv 0 up0, .fsqrt 0 up0, .itf 0 up0,
      .fti 0 up0, .nop 0 up0, .ldk 0 up0 0xFFFFFF, .tix 0 up0, .swap 0 up0, .btw 0 up0, .wtb 0 up0, .qtw 0 up0,
      .setq 0 up0 .bad, .setbq 0 up0 .bad, .notB 0 up0, .set1 0 up0, .set0 0 up0, .ldkx 0 up0 1 2,
      .rds 0 up0 0x0A, .wrs 0 up0 0x06, .wrs 0 up0 0x0B] : List Instr), CoreRuns (runs c regs5) 0 task5 c := by
  unfold CoreRuns; decide +kernel

theorem test_witness_coreRunsControl :
    ∀ c ∈ ([.ld 0 up0 1 3, .ldn 0 up0 1 3, .andB 0 up0 2 511, .andn 0 up0 2 511, .orB 0 up0 2 511, .orn 0 up0 2 511,
      .xorB 0 up0 2 511, .xorn 0 up0 2 511, .ap 0 up0, .anp 0 up0, .opB 0 up0, .onp 0 up0, .xp 0 up0, .pop 0 up0,
      .jmp 0 up0 0x7FFFFF, .jt 0 up0 5, .jf 0 up0 5, .lpx 0 up0 5, .call 0 up0 3, .ret 0 up0, .lpb 0 up0 65535, .lpe 0 up0,
      .ldw 0 up0 2 7, .ldwx 0 up0 2 7 8, .st 0 up0 1 3, .stn 0 up0 1 3, .stw 0 up0 1 3, .setB 0 up0 1 3, .rst 0 up0 1 3,
      .stwx 0 up0 1 3 8, .stw 0 up0 2 7, .stwx 0 up0 2 7 8, .st 0 up0 2 511, .stn 0 up0 2 511, .setB 0 up0 2 511,
      .rst 0 up0 2 511, .redge 0 up0 65535, .fedge 0 up0 65535, .ton 0 up0 6, .tof 0 up0 6, .tp 0 up0 6, .ctu 0 up0 6,
      .ctd 0 up0 6, .crst 0 up0 6, .cld 0 up0 6, .jmp 0 up0 0x800000, .stw 0 up0 0 0, .stw 0 up0 3 0, .ldw 0 up0 3 0,
      .stw 0 up0 1 4, .ldw 0 up0 1 4, .stw 0 up0 2 8, .ldw 0 up0 2 8, .ton 0 up0 1, .ctu 0 up0 1, .rds 0 up0 0x0C,
      .wrs 0 up0 0x0C, .lpb 0 up0 0, .undefinedOpcode 0 up0 0xFF000000, .endTask 0 up0, .chkp 0 up0] : List Instr),
      CoreRuns (runs c regs5) 0 task5 c := by
  unfold CoreRuns; decide +kernel

/-- Both halves of core 0 agree where no upset struck; a signature that differs, and a fault of one half, are no
agreement. -/
theorem test_witness_membersAgree : MembersAgree (runs (.nop 0 up0) regs5) 0 task5 up0 ∧
    ¬ MembersAgree (runs (.nop 0 up0) regs5) 0 task5 ⟨[1, 2], []⟩ ∧
    ¬ MembersAgree (runs (.nop 0 up0) regs5) 0 task5 ⟨[], [1]⟩ := by unfold MembersAgree; decide +kernel

theorem test_witness_bitLogicAndNesting :
    bitOperand (runs (.ld 0 up0 1 3) regs5) task5 ((runs (.ld 0 up0 1 3) regs5).task 5) 1 3 = .ok (false, .bad) ∧
    bitOperand (runs (.andB 0 up0 2 511) regs5) task5 ((runs (.andB 0 up0 2 511) regs5).task 5) 2 511 =
      .ok (false, .good) ∧
    regs5.nest.length < 8 ∧ ∃ e es, regs5.nest = e :: es := by
  refine ⟨rfl, rfl, by decide, _, _, rfl⟩

theorem test_witness_control : (0 : Int) ≤ (0x7FFFFF#24).toInt ∧ (0x800000#24).toInt < 0 ∧
    (∃ l ls, regs5.loops = l :: ls) ∧ (∃ a as, regs5.calls = a :: as) ∧ regs5.calls.length < 16 ∧
    regs5.loops.length < 4 ∧ (65535 : Nat) ≠ 0 := by
  refine ⟨by decide, by decide, ⟨_, _, rfl⟩, ⟨_, _, rfl⟩, by decide, by decide, by decide⟩

theorem test_witness_wordLoads :
    wordOperand (runs (.ldw 0 up0 2 7) regs5) task5 ((runs (.ldw 0 up0 2 7) regs5).task 5) 2 7 = .ok (0, .good) ∧
    (2 : Nat) < 3 ∧ ((8 : Word).toNat ≤ 4194304 ∧ regs5.ix.toNat < (8 : Word).toNat) ∧
    wordOperand (runs (.ldwx 0 up0 2 7 8) regs5) task5 ((runs (.ldwx 0 up0 2 7 8) regs5).task 5) 2 (7 + regs5.ix.toNat) =
      .ok (0, .good) := by
  refine ⟨rfl, by decide, by decide, rfl⟩

/-- Address WA in the first DRAM word, inside an enabled region of core 0. -/
def runsDram (c : Instr) : State :=
  ((runs c { regs5 with wa := 0x100000000 }).setFld (F.PWR_DOM_STATE.STATE.item 93) 2).setRegion 0
    ⟨0x100000000, 12, true, true, true⟩

theorem test_witness_dram : (∀ c ∈ ([.ldd 0 up0, .std 0 up0] : List Instr), CoreRuns (runsDram c) 0 task5 c) ∧
    (runsDram (.std 0 up0)).domOn 93 = true ∧
    (∀ w, w = 0x100000000 → addrBad (runsDram (.std 0 up0)) w 8 = none ∧ dramJudge (runsDram (.std 0 up0)) 0 w false = none ∧
      dramJudge (runsDram (.std 0 up0)) 0 w true = none) := by
  refine ⟨?_, ?_, ?_⟩
  · unfold CoreRuns; decide +kernel
  · decide +kernel
  · intro w h; subst h; decide +kernel

theorem test_witness_stores :
    (3 : Nat) < spaceSize (runs (.st 0 up0 1 3) regs5) task5 1 ∧
    ((runs (.st 0 up0 1 3) regs5).task 5).staging.length < 256 ∧ regs5.ba = true ∧
    ({ regs5 with ba := false } : TaskRegs).ba = false ∧
    (getAt 3 [((3 : Nat), (⟨1, .good⟩ : Slot))]).isSome ∧ 7 * 8 + 8 ≤ task5.dataSize ∧ 511 / 8 < task5.dataSize ∧
    (7 + regs5.ix.toNat) * 8 + 8 ≤ task5.dataSize ∧
    (runs (.st 0 up0 2 511) regs5).isBad (.data 5 (511 / 8 / 8)) = false := by
  decide +kernel

theorem test_witness_edgesTimersCounters : (runs (.redge 0 up0 65535) regs5).isBad (.edge 5 (65535 / 64)) = false ∧
    recordAddr (runs (.ton 0 up0 6) regs5) task5 6 = .ok (6 * 8) := by
  refine ⟨by decide +kernel, rfl⟩

/-- A task with eight open nesting entries, sixteen calls and four loops. -/
def regsFull : TaskRegs :=
  { regs5 with nest := List.replicate 8 ⟨true, .good, .and⟩, calls := List.replicate 16 1, loops := List.replicate 4 ⟨1, 2⟩ }

theorem test_witness_faults :
    (∀ c ∈ ([.ap 0 up0, .call 0 up0 3, .lpb 0 up0 1] : List Instr), CoreRuns (runs c regsFull) 0 task5 c) ∧
    (∀ c ∈ ([.pop 0 up0, .ret 0 up0, .lpe 0 up0, .lpx 0 up0 5] : List Instr), CoreRuns (runs c TaskRegs.fresh) 0 task5 c) ∧
    8 ≤ regsFull.nest.length ∧ 16 ≤ regsFull.calls.length ∧ 4 ≤ regsFull.loops.length ∧ TaskRegs.fresh.nest = [] ∧
    TaskRegs.fresh.calls = [] ∧ TaskRegs.fresh.loops = [] ∧ spaceSize (runs (.stw 0 up0 1 4) regs5) task5 1 ≤ 4 ∧
    task5.dataSize < 8 * 8 + 8 ∧ 1 % 2 = 1 ∧ 0x0B < 0x0C ∧ task5.cls < 8 ∧ task5.task < 1024 ∧
    undefinedWord 0xFF000000 = true := by
  unfold CoreRuns; decide +kernel

/-- The faults of the other members of each family: backward jumps, the nesting instructions, bit stores to the input area,
and END with nesting, a loop or a call left open. -/
theorem test_witness_faultFamilies :
    (∀ c ∈ ([.jt 0 up0 0x800000, .lpx 0 up0 0x800000, .endTask 0 up0] : List Instr), CoreRuns (runs c regs5) 0 task5 c) ∧
    (∀ c ∈ ([.jf 0 up0 0x800000, .jt 0 up0 0x800000] : List Instr), CoreRuns (runs c { regs5 with ba := false }) 0 task5 c) ∧
    CoreRuns (runs (.jf 0 up0 0x800000) regs5) 0 task5 (.jf 0 up0 0x800000) ∧
    (∀ c ∈ ([.anp 0 up0, .opB 0 up0, .onp 0 up0, .xp 0 up0] : List Instr), CoreRuns (runs c regsFull) 0 task5 c) ∧
    (∀ c ∈ ([.st 0 up0 0 0, .stn 0 up0 0 0, .setB 0 up0 0 0, .rst 0 up0 0 0, .stwx 0 up0 0 0 1] : List Instr),
      CoreRuns (runs c regs5) 0 task5 c) ∧
    CoreRuns (runs (.endTask 0 up0) { regs5 with nest := [] }) 0 task5 (.endTask 0 up0) ∧
    CoreRuns (runs (.endTask 0 up0) { regs5 with nest := [], loops := [] }) 0 task5 (.endTask 0 up0) ∧
    regs5.nest ≠ [] ∧ regs5.loops ≠ [] ∧ regs5.calls ≠ [] := by
  unfold CoreRuns; decide +kernel

theorem test_witness_faultIndex :
    CoreRuns (runs (.ldwx 0 up0 2 7 8) { regs5 with ix := 8 }) 0 task5 (.ldwx 0 up0 2 7 8) ∧
    (8 : Word).toNat ≤ ({ regs5 with ix := 8 } : TaskRegs).ix.toNat ∧ 0 < (8 : Word).toNat ∧ (8 : Word).toNat ≤ 4194304 := by
  unfold CoreRuns; decide +kernel

/-- A task with nothing open that has staged slot 3 and logged a word. -/
def runsStaged (c : Instr) (retry : Bool) : State :=
  let s := runs c TaskRegs.fresh
  s.setTask 5 { s.task 5 with staging := [(3, ⟨1, .good⟩)], undo := [⟨.data 0, 4⟩], retry := retry }

/-- Task 6, of class 1, at the same place. -/
def task6 : TaskRec := ⟨6, 1, 0, 1, 0, 64, [], false⟩

/-- Core 0 runs task 6 with a staged slot. -/
def runsClassStaged (c : Instr) : State :=
  let s : State := { ticks stSolo with image := some { image0 with
    code := [(0, codeOf c ++ List.replicate 8 0)], tasks := [task6] } }
  let s := s.setCore 0 { CoreSt.idle with cur := some 6, inWindow := true }
  s.setTask 6 { TaskSt.idle with active := true, ended := false, staging := [(3, ⟨1, .good⟩)] }

theorem test_witness_classCheckpoint :
    (∀ c ∈ ([.chkp 0 up0, .endTask 0 up0] : List Instr), CoreRuns (runsClassStaged c) 0 task6 c ∧
      MembersAgree (runsClassStaged c) 0 task6 up0) ∧ task6.cls ≠ 0 := by
  unfold CoreRuns MembersAgree; decide +kernel

/-- One half's signature differs. -/
def odd1 : Upset := ⟨[1, 2], []⟩

theorem test_witness_checkpoints : CoreRuns (runsStaged (.chkp 0 up0) false) 0 task5 (.chkp 0 up0) ∧
    CoreRuns (runsStaged (.endTask 0 up0) false) 0 task5 (.endTask 0 up0) ∧
    MembersAgree (runsStaged (.chkp 0 up0) false) 0 task5 up0 ∧
    MembersAgree (runsStaged (.endTask 0 up0) false) 0 task5 up0 ∧
    task5.cls = 0 ∧ ((runsStaged (.chkp 0 up0) false).task 5).retry = false ∧
    (((runsStaged (.chkp 0 up0) false).task 5).staging.map Prod.fst).Nodup ∧
    ((runsStaged (.endTask 0 up0) false).task 5).regs.nest = [] ∧
    ((runsStaged (.endTask 0 up0) false).task 5).regs.loops = [] ∧
    ((runsStaged (.endTask 0 up0) false).task 5).regs.calls = [] := by unfold CoreRuns MembersAgree; decide +kernel

theorem test_witness_mismatch : CoreRuns (runsStaged (.chkp 0 odd1) false) 0 task5 (.chkp 0 odd1) ∧
    CoreRuns (runsStaged (.chkp 0 odd1) true) 0 task5 (.chkp 0 odd1) ∧
    ¬ MembersAgree (runsStaged (.chkp 0 odd1) false) 0 task5 odd1 ∧ ¬ MembersAgree (runsStaged (.chkp 0 odd1) true) 0 task5 odd1 ∧
    ((runsStaged (.chkp 0 odd1) true).task 5).retry = true ∧ ((runsStaged (.chkp 0 odd1) false).task 5).retry = false ∧
    ((runsStaged (.chkp 0 odd1) false).task 5).undoFull = false ∧
    members (runsStaged (.chkp 0 odd1) false) 0 = [0, 1] ∧ members (runsStaged (.chkp 0 odd1) true) 0 = [0, 1] ∧
    (1 : DWord) ≠ 2 := by unfold CoreRuns MembersAgree; decide +kernel

/-- A segment whose undo log holds one word of each memory, with room for more or full. -/
def runsLogged (c : Instr) (retry full : Bool) : State :=
  let s := runs c TaskRegs.fresh
  s.setTask 5 { s.task 5 with
    undo := [⟨.data 8, 4⟩, ⟨.edge 0, 1⟩, ⟨.dram 0x100000000, 2⟩], retry := retry, undoFull := full }

theorem test_witness_undo :
    (∀ c ∈ ([.chkp 0 odd1, .endTask 0 odd1] : List Instr), ∀ x ∈ [(false, false), (true, false), (false, true)],
      CoreRuns (runsLogged c x.1 x.2) 0 task5 c ∧ ¬ MembersAgree (runsLogged c x.1 x.2) 0 task5 odd1 ∧
      members (runsLogged c x.1 x.2) 0 = [0, 1] ∧
      (((runsLogged c x.1 x.2).task 5).undo.map (fun e => e.place)).Nodup) ∧
    ((runsLogged (.chkp 0 odd1) false false).task 5).undo =
      [⟨.data (8 * 1), 4⟩, ⟨.edge (8 * 0), 1⟩, ⟨.dram (8 * 0x20000000), 2⟩] := by
  unfold CoreRuns MembersAgree; decide +kernel

/-- A mismatch gives the logged words their old values back (R75, R76). -/
theorem test_undo : ∀ c : Instr, c = .chkp 0 odd1 →
    dwordAt ((after (exec c (runsLogged c false false))).task 5).data 8 = 4 ∧
    ((after (exec c (runsLogged c false true))).fld F.CHK_MISMATCH_INFO.KIND) = 3 ∧
    dwordAt (after (exec c (runsLogged c true false))).mem 0x100000000 = 2 := by
  intro c h; subst h; decide +kernel

/-- A triplet on core 0 whose members have given different signatures (R88). -/
def runsTriplet (c : Instr) : State := (runsStaged c false).setFld F.CHK_STATUS.MODE 2

theorem test_witness_triplet : ∀ up ∈ [(⟨[0, 7, 0], []⟩ : Upset), ⟨[1, 2, 3], []⟩],
    CoreRuns (runsTriplet (.chkp 0 up)) 0 task5 (.chkp 0 up) ∧ members (runsTriplet (.chkp 0 up)) 0 = [0, 1, 2] ∧
    up.odd = [] ∧ ((runsTriplet (.chkp 0 up)).task 5).retry = false := by
  unfold CoreRuns; decide +kernel

/-- The odd member is halted and named with KIND 5; no majority is KIND 6 (R88). -/
theorem test_triplet :
    (after (exec (.chkp 0 ⟨[0, 7, 0], []⟩) (runsTriplet (.chkp 0 ⟨[0, 7, 0], []⟩)))).fld F.CHK_MISMATCH_INFO.KIND = 5 ∧
    (after (exec (.chkp 0 ⟨[0, 7, 0], []⟩) (runsTriplet (.chkp 0 ⟨[0, 7, 0], []⟩)))).check.halted = [1] ∧
    (after (exec (.chkp 0 ⟨[1, 2, 3], []⟩) (runsTriplet (.chkp 0 ⟨[1, 2, 3], []⟩)))).fld F.CHK_MISMATCH_INFO.KIND = 6 := by
  decide +kernel

/-- A task that stands `n` cycles into its activation. -/
def runsCharged (n : Nat) : State := let s := runs (.nop 0 up0) regs5; s.setTask 5 { s.task 5 with charged := n }

theorem test_witness_charges : CoreRuns (runsCharged 99) 0 task5 (.nop 0 up0) ∧
    CoreRuns (runsCharged 100) 0 task5 (.nop 0 up0) ∧
    aidonRegisterOnly (.nop 0 up0) = some (0, up0, 1) ∧ ((runsCharged 99).task 5).retry = false ∧
    ((runsCharged 99).task 5).charged + 1 ≤ taskW (runsCharged 99) 5 ∧
    taskW (runsCharged 100) 5 < ((runsCharged 100).task 5).charged + 1 ∧ ((runsCharged 100).task 5).boundHit = false := by
  unfold CoreRuns; decide +kernel

theorem test_witness_frame : aidonStoresNothing (.add 0 up0) = some (0, up0) ∧
    (∀ k, currentTask (runs (.add 0 up0) regs5) 0 = some k → MembersAgree (runs (.add 0 up0) regs5) 0 k up0) ∧
    ∃ t, exec (.add 0 up0) (runs (.add 0 up0) regs5) = .next t := by
  refine ⟨rfl, fun k h => ?_, _, rfl⟩
  cases (show some task5 = some k from h)
  unfold MembersAgree; decide +kernel

/-- Words written out from R55 and R57: opcode in [31:24], SPACE in [23:22], index below. ADD is 0x50, LD 0x10, JMP 0x03,
LPB 0x08, LDKX 0x43 with two words behind it; 0x4A, and NOP with an operand bit set, spell nothing. -/
theorem test_decodeCode : codeOf (.add 0 up0) = [0x50000000] ∧ decodeCode 0 up0 0x50000000 0 0 = some (.add 0 up0) ∧
    decodeCode 0 up0 0x10400003 0 0 = some (.ld 0 up0 1 3) ∧ decodeCode 0 up0 0x03FFFFFF 0 0 = some (.jmp 0 up0 0xFFFFFF) ∧
    decodeCode 0 up0 0x0800FFFF 0 0 = some (.lpb 0 up0 65535) ∧ decodeCode 0 up0 0x43000000 1 2 = some (.ldkx 0 up0 1 2) ∧
    decodeCode 0 up0 0x38800006 0 0 = some (.ctu 0 up0 6) ∧ undefinedWord 0x4A000000 = true ∧ undefinedWord 1 = true := by
  decide

theorem test_witness_codeWords : (Instr.ldkx 0 up0 1 2).wellFormed = true ∧
    codeOf (.ldkx 0 up0 1 2) = 0x43000000 :: [1, 2] := by decide

/-- The registers of task 5 after a command on core 0. -/
def regsAfter (c : Instr) (r : TaskRegs := regs5) : TaskRegs := ((after (exec c (runs c r))).task 5).regs

/-- −7 + 6, −7 · 6, −7 / 6 and −7 mod 6 by R57 and R60 (worked out by hand). -/
theorem test_integer : (regsAfter (.add 0 up0)).wa.toInt = -1 ∧ (regsAfter (.mul 0 up0)).wa.toInt = -42 ∧
    (regsAfter (.div 0 up0)).wa.toInt = -1 ∧ (regsAfter (.mod 0 up0)).wa.toInt = -1 ∧
    (regsAfter (.sub 0 up0)).wa.toInt = -13 ∧ (regsAfter (.addk 0 up0 0xFFFFFF)).wa = 5 ∧
    (regsAfter (.add 0 up0)).qa = .stale := by decide +kernel

/-- The most negative number over −1 wraps and sets OV; a zero divisor gives 0, DZ and BAD (R60). -/
theorem test_divisionCorners :
    (∀ x, x = regsAfter (.div 0 up0) { regs5 with wb := 0x8000000000000000#64, wa := 0xFFFFFFFFFFFFFFFF#64 } →
      x.wa = 0x8000000000000000#64 ∧ x.flags.ov = true) ∧
    (∀ x, x = regsAfter (.mod 0 up0) { regs5 with wa := 0 } → x.wa = 0 ∧ x.flags.dz = true ∧ x.qa = .bad) := by
  refine ⟨?_, ?_⟩ <;> (intro r h; subst h; decide +kernel)

/-- LT is signed, LTU unsigned (R57): −7 against 6. -/
theorem test_compares : (regsAfter (.lt 0 up0)).ba = true ∧ (regsAfter (.ltu 0 up0)).ba = false ∧
    (regsAfter (.ge 0 up0)).ba = false ∧ (regsAfter (.geu 0 up0)).ba = true ∧ (regsAfter (.ne 0 up0)).ba = true := by
  decide +kernel

/-- Shifts of −7 by 1 after SWAP: arithmetic −4, logical the top bit cleared (R57). -/
theorem test_shifts : ∀ r : TaskRegs, r = { regs5 with wa := 0xFFFFFFFFFFFFFFF9#64 } →
    (regsAfter (.sar 0 up0 1) r).wa.toInt = -4 ∧ (regsAfter (.shr 0 up0 1) r).wa = 0x7FFFFFFFFFFFFFFC#64 ∧
    (regsAfter (.shl 0 up0 63) r).wa = 0x8000000000000000#64 := by
  intro r h; subst h; decide +kernel

/-- 1.5 + 0.25 = 1.75, 1.5 · 0.25 = 0.375, 1.5 / 0.25 = 6 and √2.25 = 1.5 in binary64 (worked out by hand). -/
theorem test_floating : ∀ r : TaskRegs, r = { regs5 with wb := 0x3FF8000000000000#64, wa := 0x3FD0000000000000#64 } →
    (regsAfter (.fadd 0 up0) r).wa = 0x3FFC000000000000#64 ∧ (regsAfter (.fmul 0 up0) r).wa = 0x3FD8000000000000#64 ∧
    (regsAfter (.fdiv 0 up0) r).wa = 0x4018000000000000#64 ∧
    (fSqrt 0x4002000000000000#64).val = 0x3FF8000000000000#64 ∧ (fToInt 0x4018000000000000#64).val = 6 ∧
    (fOfInt (-3)).val = 0xC008000000000000#64 := by
  intro r h; subst h; decide +kernel

/-- Operands of each kind that the floating statements speak of: both signs, zeros, infinities, NaN, and the first number
beyond FTI's range. -/
theorem test_witness_floats : fIsNaN 0x3FF0000000000000#64 = false ∧ fSign 0x3FF0000000000000#64 = false ∧
    fSign 0xBFF0000000000000#64 = true ∧ fIsNaN 0xBFF0000000000000#64 = false ∧ fIsZero 0#64 = true ∧
    fIsZero 0x8000000000000000#64 = true ∧ fIsZero 0x3FF0000000000000#64 = false ∧ fIsInf 0x3FF0000000000000#64 = false ∧
    fIsInf 0x7FF0000000000000#64 = true ∧ fIsInf 0xFFF0000000000000#64 = true ∧ fIsNaN 0x7FF8000000000001#64 = true ∧
    1086 ≤ fExp 0x43E0000000000000#64 ∧ fIsNaN 0x43E0000000000000#64 = false ∧
    fKey 0xBFF0000000000000#64 < fKey 0x3FF0000000000000#64 := by decide +kernel

/-- JMP by 5 from word 0 stands at 6; LPE after its last turn leaves the loop; RET returns to 2 (R57, R58). -/
theorem test_control : (regsAfter (.jmp 0 up0 5)).pc = 6 ∧ (regsAfter (.lpe 0 up0)).loops = [] ∧
    (regsAfter (.lpe 0 up0)).pc = 1 ∧ (regsAfter (.ret 0 up0)).pc = 2 ∧ (regsAfter (.call 0 up0 3)).calls = [1, 2] ∧
    (regsAfter (.jf 0 up0 5)).pc = 1 := by decide +kernel

/-- LDKX puts its second word high; BTW pushes BA; POP of an AND entry (R57). -/
theorem test_moves : (regsAfter (.ldkx 0 up0 1 2)).wa = 0x0000000200000001#64 ∧ (regsAfter (.ldkx 0 up0 1 2)).wb = 6 ∧
    (regsAfter (.btw 0 up0)).wa = 1 ∧ (regsAfter (.pop 0 up0)).nest = [] ∧ (regsAfter (.tix 0 up0)).ix = 6 ∧
    (regsAfter (.ldk 0 up0 0xFFFFFF)).wa.toInt = -1 := by decide +kernel

/-- A word stored to task data is little-endian (R51); one stored to a slot is staged (R53). -/
theorem test_stores : ∀ c d : Instr, c = .stw 0 up0 2 1 → d = .stw 0 up0 1 3 →
    byteAt ((after (exec c (runs c regs5))).task 5).data 8 = 6 ∧
    ((after (exec d (runs d regs5))).task 5).staging = [(3, ⟨6, .good⟩)] ∧
    (after (exec d (runs d regs5))).outSlot 3 = ⟨0, .bad⟩ := by
  intro c d h1 h2; subst h1; subst h2; decide +kernel

/-- The ninth nesting entry is NEST, kind 3 of R68; the undefined opcode is ILLEGAL, kind 1; a code word that is another
instruction's runs nothing. -/
theorem test_faults : ∀ c d : Instr, c = .ap 0 up0 → d = .undefinedOpcode 0 up0 0xFF000000 →
    (after (exec c (runs c regsFull))).fld (F.CORE_FAULT_INFO.KIND.item 0) = 3 ∧
    (after (exec d (runs d regs5))).fld (F.CORE_FAULT_INFO.KIND.item 0) = 1 ∧
    ((after (exec c (runs c regsFull))).task 5).active = false ∧
    ((after (exec c (runs d regsFull))).task 5).active = true := by
  intro c d h1 h2; subst h1; subst h2; decide +kernel

/-- END publishes a T1 task's staged slot (R53); a second difference of a pair stops the task (R76). -/
theorem test_checkpoints : ∀ c d : Instr, c = .endTask 0 up0 → d = .chkp 0 odd1 →
    (after (exec c (runsStaged c false))).outSlot 3 = ⟨1, .good⟩ ∧
    ((after (exec d (runsStaged d false))).task 5).retry = true ∧
    ((after (exec d (runsStaged d true))).task 5).active = false ∧
    (after (exec d (runsStaged d true))).outSlot 3 = ⟨0, .bad⟩ := by
  intro c d h1 h2; subst h1; subst h2; decide +kernel
/-! ## Ticks, windows, rings -/

/-- A module whose time unit has made its step at the instant 0 and whose ticks do not run. -/
def waiting : State := sets State.reset [(F.TIME_STATUS.ACQUIRED, 1), (F.SYS_STATE.STATE, stSolo)]

theorem test_witness_ticks : waiting.power.held = false ∧ waiting.power.resetDue = false ∧ waiting.ticking = false ∧
    waiting.flag F.TIME_STATUS.ACQUIRED = true ∧ 62500 * 256 + (waiting.time.acqFrac : Int) ≤ ((1 : DWord) * 62500 - waiting.time.acqAt).toInt * 256 ∧
    (ticks stSolo).ticking = true ∧ (ticks stSolo).power.held = false ∧ (ticks stSolo).power.resetDue = false := by
  decide +kernel

/-- The first tick is the edge a tick length after the step, and the next one follows it (R11, R35). -/
theorem test_ticks : (after (exec (.tickEdge { edge0 with tickBefore := 1 }) waiting)).ticking = true ∧
    (after (exec (.tickEdge { edge0 with tickBefore := 1 }) waiting)).tick = 1 ∧
    (after (exec (.tickEdge edge0) waiting)).ticking = false ∧
    (after (exec (.tickEdge { edge0 with clh := true }) (ticks stSolo))).tick = 1 := by decide +kernel

/-- Core 0 runs task 6, of class 1. -/
def runsClass : State :=
  let s : State := { ticks stSolo with image := some { image0 with tasks := [task6] } }
  let s := s.setCore 0 { CoreSt.idle with cur := some 6, inWindow := true }
  (s.setTask 6 { TaskSt.idle with active := true, ended := false }).setCls 1 { ClassSt.idle with running := true }

theorem test_witness_windows : (ticks stSolo).ticking = true ∧ (ticks stSolo).computes = true ∧
    (ticks stSolo).active = true ∧ 7 < (ticks stSolo).fld F.TICK_PROOF.LCORES ∧ currentTask runsClass 0 = some task6 ∧
    task6.cls ≠ 0 ∧ task6.cls ∉ (runsClass.core 0).sliced := by decide +kernel

/-- The slice's end keeps the task; the stop takes it off its core (R41). -/
theorem test_windows : ((after (exec (.sliceEnd 0) runsClass)).core 0).sliced = [1] ∧
    ((after (exec .computeStop runsClass)).core 0).cur = none ∧
    ((after (exec .computeWindow runsClass)).core 0).inWindow = true ∧
    (after (exec .outputImageFreeze runsClass)).power.committed = true := by decide +kernel

theorem test_witness_carding : runsClass.holds = true ∧ runsClass.resync.role ≠ .joiner ∧ (runsClass.cls 1).running = true ∧
    (runsClass.cls 1).cycle = runsClass.tick ∧ (ticks stStandby).ticking = true ∧ (ticks stStandby).mode = stStandby ∧
    (ticks stStandby).pair.localCarded = false := by decide +kernel

/-- Ring 0 is in use with its domain ON and lock on both receivers. -/
def ringState (m : Nat) : State :=
  (sets (ticks m) [(F.PWR_DOM_STATE.STATE.item 0, 2), (F.RING_STATUS.LOCK_EVEN.ring 0, 1),
    (F.RING_STATUS.LOCK_ODD.ring 0, 1), (F.PWR_DOM_STATE.STATE.item 47, 2),
    (F.RING_STATUS.LOCK_ODD.ring 47, 1), (F.RING_STATUS.CAUSEWAY.ring 0, 0), (F.RING_STATUS.CAUSEWAY.ring 47, 0)]).setDword A.FAB_RING_EN_LO 0x800000000001

theorem test_witness_cards : (ringState stStandby).mode = stStandby ∧
    crownEpoch hdr0.crown = (ringState stStandby).epoch ∧ hdr0.tick = (ringState stStandby).tick ∧ 0 ≠ 63 ∧
    (ringState stStandby).pair.cardingOver = false ∧
    ({ ringState stStandby with pair := { (ringState stStandby).pair with cardingOver := true } } : State).pair.cardingOver =
      true ∧
    ringUsed (ringState stStandby) 0 = true ∧ ringUsed (ringState stStandby) 47 = true := by decide +kernel

/-- Tables of stations 1 and 2 of ring 47, a 16-bit point each, and two local inputs of group 0. -/
def cardPoint : TablePoint := ⟨0, 3, true, 0, 0⟩
def cardStation (n : Nat) : StationRec := ⟨47, n, 0, 0, 0, 5 * (n - 1), 5, 0, 0, [], 0, 0, [], [cardPoint], []⟩
def cardSignal (n slot : Nat) : SignalRec := ⟨47 * 67108864 + n * 1048576, slot, false, 3, true, 0, 0, 0⟩
def localSignal (slot : Nat) : SignalRec := ⟨63 * 67108864 + slot * 128, slot, false, 8, true, 0, 0, 0⟩
def cardState : State :=
  { ringState stStandby with image := some { image0 with
      stations := [cardStation 1, cardStation 2],
      signals := [cardSignal 1 4, cardSignal 2 5, localSignal 6, localSignal 7] } }

/-- Two blocks: 0x0102 GOOD and 0x0304 SUBSTITUTE, in the order of the table's bytes. -/
def cardBytes : List Byte := [0x80, 0, 1, 2, 0, 0x80, 0, 3, 4, 1]

theorem test_witness_cardBlocks : cardState.mode = stStandby ∧ crownEpoch hdr0.crown = cardState.epoch ∧
    hdr0.tick = cardState.tick ∧ cardState.pair.cardingOver = false ∧ ringUsed cardState 47 = true ∧
    ringStations cardState 47 = [cardStation 1] ++ cardStation 2 :: [] ∧ cardSignal 2 5 ∈ inputSignals cardState 47 2 ∧
    (∀ y ∈ [cardStation 1] ++ ([] : List StationRec), y.station ≠ (cardStation 2).station) ∧
    (∀ y ∈ ringStations cardState 47, ∀ g ∈ inputSignals cardState 47 y.station, g.slot = 5 → g = cardSignal 2 5) ∧
    (6 : DWord).getLsbD 2 = true ∧ (2 : DWord).getLsbD 2 = false ∧ (1 : DWord).getLsbD (hStation (localSignal 7).handle) = true ∧
    localInputs cardState = [localSignal 6] ++ localSignal 7 :: [] ∧
    (∀ g ∈ [localSignal 6] ++ ([] : List SignalRec), g.slot ≠ (localSignal 7).slot) := by decide +kernel

/-- The standby's inputs come from the CARD's bytes, station by station (R153). -/
theorem test_cardBlocks :
    (after (exec (.card hdr0 47 6 cardBytes) cardState)).inSlot 4 = ⟨0x0102, .good⟩ ∧
    (after (exec (.card hdr0 47 6 cardBytes) cardState)).inSlot 5 = ⟨0x0304, .substitute⟩ ∧
    (after (exec (.card hdr0 47 4 cardBytes) cardState)).inSlot 5 = ⟨0x0102, .good⟩ ∧
    (after (exec (.card hdr0 47 2 cardBytes) cardState)).inSlot 5 = ⟨0, .bad⟩ ∧
    (after (exec (.card hdr0 63 1 ([0, 0, 0, 0, 0, 0, 0, 9, 0] ++ [0, 0, 0, 0, 0, 0, 0, 8, 1])) cardState)).inSlot 7 =
      ⟨8, .substitute⟩ := by decide +kernel

/-- Class 1 runs at the last tick of its cycle with a finished buffer; `m` is the module's own completion mask. -/
def publishes (m : BitVec 8) (again : Bool) : State :=
  let s := (ticks stSolo).setDword A.SYS_TICK_LO 1
  let s := { s with pair := { s.pair with own1 := some (m, true, false) } }
  (s.setCls 1 { ClassSt.idle with running := true, buffer := [(3, ⟨1, .good⟩)], overrun := again }).setFld (consecFld 1) 2

theorem test_witness_publication : ∀ x ∈ [((2 : BitVec 8), false), (0, false), (0, true)],
    (publishes x.1 x.2).ticking = true ∧ (publishes x.1 x.2).computes = true ∧ (publishes x.1 x.2).active = true ∧
    (publishes x.1 x.2).pair.own1 = some (x.1, true, false) ∧ (publishes x.1 x.2).pair.part1 = none ∧
    ((publishes x.1 x.2).cls 1).running = true ∧ ((publishes x.1 x.2).tick + 1).toNat % classTicks 1 = 0 ∧
    (((publishes x.1 x.2).cls 1).buffer.map Prod.fst).Nodup ∧ ((publishes x.1 x.2).cls 1).overrun = x.2 ∧
    (∀ n < 8, n ≠ 1 → getAt 3 ((publishes x.1 x.2).cls n).buffer = none) ∧
    (publishes x.1 x.2).power.held = false ∧ (publishes x.1 x.2).power.resetDue = false := by decide +kernel

/-- A finished class publishes and keeps its skips; an unfinished one overruns and keeps its buffer (R38, R46, R47). -/
theorem test_publication : (after (exec .outputImageFreeze (publishes 2 false))).outSlot 3 = ⟨1, .good⟩ ∧
    ((after (exec .outputImageFreeze (publishes 2 false))).cls 1).skipped = 2 ∧
    (after (exec .outputImageFreeze (publishes 2 false))).fld (consecFld 1) = 0 ∧
    (after (exec .outputImageFreeze (publishes 0 false))).outSlot 3 = ⟨0, .bad⟩ ∧
    ((after (exec .outputImageFreeze (publishes 0 false))).cls 1).buffer = [(3, ⟨1, .good⟩)] ∧
    (after (exec .outputImageFreeze (publishes 0 false))).fld (F.TICK_CLS_OVR0.COUNT.nth 1) = 1 ∧
    (after (exec .outputImageFreeze (publishes 0 true))).fld (F.TICK_CLS_OVR0.COUNT.nth 1) = 0 ∧
    (after (exec (.tickEdge edge0) (publishes 0 true))).fld (consecFld 1) = 3 ∧
    ((after (exec (.tickEdge edge0) ((publishes 0 true).setCls 1 ClassSt.idle))).cls 1).running = true := by
  decide +kernel

/-- At tick 0 every class has a cycle start; SKIP_LIMIT 3 is reached by the third skip. -/
theorem test_witness_skips : ∀ x ∈ [true, false], ∀ s : State,
    s = (((ticks stSolo).setCls 1 { ClassSt.idle with running := x }).setFld (consecFld 1) 2).setFld
      F.TICK_CTRL.SKIP_LIMIT 3 →
    s.tick.toNat % classTicks 1 = 0 ∧ (s.cls 1).running = x ∧ s.fld (consecFld 1) + 1 = s.fld F.TICK_CTRL.SKIP_LIMIT ∧
    s.fld (consecFld 1) < (consecFld 1).top ∧ (x = true → bit ((classEdge s).reg A.TICK_OVR) 9 = true) ∧
    ((classEdge s).cls 1).running = true := by
  intro x hx s hs; subst hs
  fin_cases hx <;> decide +kernel

/-- A crown holder whose digest of this tick is 1, with a clean running partner that sent digest `d`. -/
def compares (d : DWord) : State :=
  let s := (ticks stPrimary).setDword A.STRAIT_DIGEST_LO 1
  { s with pair := { s.pair with part2 := some (d, true, false), status := some { stat0 with state := 2 } } }

theorem test_witness_digests : (compares 2).ticking = true ∧ (compares 2).paired = true ∧
    (compares 2).pair.part2 = some (2, true, false) ∧ (compares 2).pair.cleanLast = true ∧
    (compares 2).flag F.STRAIT_STATUS.CMP_SUSPENDED = false ∧ (compares 2).pair.missNow = false ∧
    (compares 2).pair.diverged = false ∧ (∀ p ∈ (compares 2).pair.status, p.imageSeq = runningSeq (compares 2)) ∧
    (compares 2).pair.status.isSome ∧ (compares 2).acts = [] ∧ (2 : DWord) ≠ (compares 2).dword A.STRAIT_DIGEST_LO ∧
    (compares 1).dword A.STRAIT_DIGEST_LO = 1 ∧ (ticks stPrimary).ticking = true ∧ (ticks stPrimary).paired = true ∧
    (ticks stPrimary).pair.part2 = none ∧ (ticks stPrimary).acts = [] ∧
    ({ ticks stPrimary with pair := { (ticks stPrimary).pair with cleanLast := false } } : State).pair.cleanLast = false := by
  decide +kernel

/-- Different digests of clean modules begin a verdict self-test; equal ones do not (R78, R155). -/
theorem test_digests : (after (exec .digestCompare (compares 2))).flag F.SYS_EVENT.DIGEST_MISMATCH = true ∧
    (after (exec .digestCompare (compares 2))).flag F.CHK_STATUS.VERDICT_BUSY = true ∧
    (after (exec .digestCompare (compares 1))).flag F.SYS_EVENT.DIGEST_MISMATCH = false := by decide +kernel

/-- The module's own frame of one cell, module A in SOLO, on port P(2k+1) of ring 47 with no wrap (R130). -/
def ownFrame : CyclicFrame :=
  { frame0 with oddPort := true, retNs := 24000,
                cells := (frameCells 1 false false (frameHeader 0 0 47 3 0 0xFF false 0 0)).map some }

/-- A cell on the line: the frame-start pattern in clear, 250 bytes (R125). -/
theorem test_cells : (cellBytes 5 1 true false 0x40 [7]).take 4 = [0x3C, 0x5A, 0x96, 0xE1] ∧
    (cellBytes 5 1 true false 0x40 [7]).length = 250 := ⟨rfl, cellBytes_length _ _ _ _ _ _⟩

/-- The body of the own frame's cell. -/
def ownBody : List Byte :=
  ((frameHeader 0 0 47 3 0 0xFF false 0 0).take 236 ++ List.replicate 236 0).take 236

/-- What the own frame reads as: header and payload as they were sent, every cell there by 24 µs. -/
theorem ownFrame_reads : readFrame ownFrame =
    ⟨false, false, 0, 0, 47, 3, 0, 255, false, 0, true, [], [], [], false, []⟩ := by
  have h : ownFrame.cells.map (fun l => l.map readCell) =
      [some ⟨false, false, 0, 1, false, false, 255, ownBody⟩] := by
    unfold ownFrame frameCells
    simp only [List.range_succ, List.range_zero, List.nil_append, List.map_cons, List.map_nil, Option.map_some,
      readCell_cellBytes]
    rfl
  unfold readFrame
  rw [h]
  decide +kernel

theorem test_witness_rings :
    (ringState stSolo).fld (F.RING_STATUS.CAUSEWAY.ring 47) = 0 ∧ (ringState stSolo).dom 47 = 2 ∧
    (ringState stSolo).fld (lockFld 47 1) = 1 ∧ (ringState stSolo).active = true ∧ ringUsed (ringState stSolo) 47 = true ∧
    receiverOn (ringState stSolo) 47 ownFrame.oddPort = true ∧
    frameUse (ringState stSolo) 47 ownFrame.oddPort (readFrame ownFrame) = .own ∧ (ringState stSolo).ticking = true ∧
    (ringState stSolo).fld F.TICK_STATUS.WINDOW = 0 ∧ (ringState stSolo).fld (lockFld 47 1) = 1 ∧
    (readFrame ownFrame).headOk = true ∧ (readFrame ownFrame).tick = (ringState stSolo).tick ∧
    ownFrame.retNs ≤ 24000 ∧ (readFrame ownFrame).lost = [] ∧ (readFrame ownFrame).missed = [] ∧ 47 ∈ usedRings (ringState stStandby) ∧ ((ringState stStandby).ring 47).back = none ∧
    ((ringState stStandby).ring 47).ret = none := by
  rw [ownFrame_reads]
  decide +kernel

theorem lockedCells_single (l : Option (List Byte)) : lockedCells [l] = [l] := by
  unfold lockedCells
  cases h : lineMissed l <;> simp [missRun, h]

/-- The own frame is no part of the partner's train. -/
theorem ownFrame_passes : passedCells 0 ownFrame.cells = [] := by
  unfold ownFrame frameCells passedCells
  simp only [List.range_succ, List.range_zero, List.nil_append, List.map_cons, List.map_nil, lockedCells_single,
    List.filterMap_cons, List.filterMap_nil, readCell_cellBytes]
  rfl

/-- A frame of the module's own that returns whole at 24 µs (R28, R130). -/
theorem test_ownFrame :
    (after (exec (.cyclicFrame 47 ownFrame) (ringState stSolo))).fld (F.RING_RETURN.LAST.ring 47) = 24000 ∧
    ((after (exec (.cyclicFrame 47 ownFrame) (ringState stSolo))).ring 47).back = some (3, true) := by
  show (after (execCyclicFrame 47 ownFrame (ringState stSolo))).fld _ = _ ∧
    ((after (execCyclicFrame 47 ownFrame (ringState stSolo))).ring 47).back = _
  unfold execCyclicFrame forwardCells
  rw [ownFrame_reads, show (ringState stSolo).parity = 0 by decide +kernel, ownFrame_passes]
  decide +kernel

/-- Lock, a late ring, the Causeway (R28, R127, R128, R142). -/
theorem test_rings : (after (exec (.lockLoss 47 1) (ringState stSolo))).fld (F.RING_ERR.LOCK_LOSS.ring 47) = 1 ∧
    (after (exec .ringDeadline (ringState stStandby))).flag F.SYS_EVENT.RING_LATE = true ∧
    (after (exec (.causewayReq 47 0x0001) (ringState stSolo))).fld (F.RING_CTRL.ACYC_TIMEOUT.ring 47) = 1 ∧
    (after (exec (.causewaySwitch 46) (ringState stSolo))).flag (F.RING_STATUS.CAUSEWAY.ring 46) = true := by
  decide +kernel
/-! ## The pair and the Strait -/

/-- A trained Strait with every lane routed, at epoch 5. -/
def linked (m : Nat) : State :=
  let s := sets (ticks m) [(F.STRAIT_STATUS.TRAINED, 1), (F.STRAIT_STATUS.LANES_UP, 0xFF), (F.CROWN_STORED.EPOCH, 5),
    (F.STRAIT_STATUS.IN_STEP, 1)]
  { s with pair := { s.pair with rxLanes := 0xFF, partnerLanes := 0xFF, blockLock := 0xFF, statusOn := 0xFF, routing := 0xFF } }

/-- A header with an epoch, for tick 0 on lane 6. -/
def hdrE (e : Nat) : StraitHdr := ⟨6, BitVec.ofNat 32 (e * 256), 0, 9⟩

/-- A PRIMARY with a healthy standby. -/
def holder : State :=
  let s := (linked stPrimary).setFld F.STRAIT_STATUS.PARTNER_STATE stStandby
  { s with pair := { s.pair with status := some { stat0 with state := 2 } } }

theorem test_witness_strait :
    { linked stSolo with pair := { (linked stSolo).pair with laneDirty := true } }.pair.laneDirty = true ∧
    (hdrE 5).lane = laneOf (linked stSolo).pair.routing 6 ∧ stat0.state < 8 ∧
    crownEpoch (hdrE 5).crown = (linked stSolo).epoch ∧ (hdrE 5).tick = (linked stSolo).tick ∧
    (linked stSolo).trained = true ∧ crownEpoch (hdrE 4).crown < (linked stSolo).epoch ∧ (linked stSolo).mode ≠ stStandby ∧
    (linked stSolo).resync.role ≠ .joiner ∧ straitIntact [] = false := by decide +kernel

theorem test_witness_straitIntact : straitIntact (straitMessage 10 0 0 0 0 [0, 5, 0, 1, 0]) = true :=
  straitIntact_straitMessage (by decide) (by decide)

/-- A lane that goes down leaves the set at once and the routing in the guard window; a STATUS of a lower epoch is
shown; a message that is not well formed is counted (R148, R150, R149). -/
theorem test_strait : (after (exec (.laneDown 7) (linked stSolo))).fld F.STRAIT_STATUS.LANES_UP = 0x7F ∧
    (after (exec (.laneDown 7) (linked stSolo))).pair.routing = 0xFF ∧
    (after (exec .laneMove (after (exec (.laneDown 7) (linked stSolo))))).pair.routing = 0x7F ∧
    (after (exec (.laneUp 0) (linked stSolo))).pair.rxLanes = 0xFF ∧
    (after (exec (.laneUp 0) State.reset)).fld F.STRAIT_STATUS.LANES_UP = 0 ∧
    (after (exec (.statusMsg (hdrE 4) { stat0 with state := 2, inStep := true }) (linked stPrimary))).fld F.STRAIT_STATUS.PARTNER_STATE = 2 ∧
    partnerHealthy (after (exec (.statusMsg (hdrE 4) { stat0 with state := 2, inStep := true }) (linked stPrimary))) = false ∧
    partnerHealthy (after (exec (.statusMsg (hdrE 5) { stat0 with state := 2, inStep := true }) (linked stPrimary))) = true ∧
    (after (exec (.straitMessageDiscard [1, 2]) (linked stSolo))).fld F.STRAIT_ERR.MSG_CRC = 1 ∧
    (after (exec (.commitMsg (hdrE 5) (.digest 7 true false)) (linked stSolo))).pair.part2 = some (7, true, false) ∧
    (after (exec (.maintMsg (hdrE 5) .split true) (linked stSolo))).pair.partSplit = true := by decide +kernel

theorem test_witness_roles : getBits (0x69C30001 : Word) 31 16 = 0x69C3 ∧ swapAllowed holder = true ∧
    selfHealthy (linked stStandby) = true ∧ crownEpoch (hdrE 5).crown = (linked stStandby).epoch ∧
    (linked stStandby).mode = stStandby ∧ (linked stStandby).pair.outOfStep = false ∧
    { holder with pair := { holder.pair with swap := .asked 0 none } }.pair.swap = .asked 0 none ∧
    (linked stStandby).epoch < crownEpoch (hdrE 6).crown := by decide +kernel

/-- The swap is asked for and agreed for the next tick; the key must match; a raise lifts the standby's epoch (R165,
R167). -/
theorem test_roles : (after (exec (.crownSwapReq 0x69C30001) holder)).pair.swap = .asked 0 none ∧
    (after (exec (.crownSwapReq 0x69C20001) holder)).pair.swap = .none ∧
    (after (exec (.swapReq (hdrE 5)) (linked stStandby))).pair.swap = .agreed 1 none false ∧
    (after (exec (.swapAck (hdrE 5)) { holder with pair := { holder.pair with swap := .asked 0 none } })).pair.swap =
      .agreed 1 none false ∧
    (after (exec (.yieldMsg (hdrE 5)) (linked stStandby))).pair.swap = .agreed 0 none true ∧
    (after (exec (.raiseMsg (hdrE 6) 0x600) (linked stStandby))).epoch = 6 ∧
    (after (exec (.swapReq (hdrE 4)) (linked stStandby))).flag F.CROWN_EVENT.STALE_EPOCH = true := by decide +kernel

/-- A module that judges its partner lost. -/
def alone (m : Nat) : State := { linked m with pair := { (linked m).pair with lost := true } }

/-- A running module with a safe request of CAUSE 15, at the top of its range. -/
def safeDue : State := { linked stSolo with pair := { (linked stSolo).pair with safeDue := some 15 } }

theorem test_witness_safe : (alone stStandby).ticking = true ∧ (alone stStandby).mode = stStandby ∧
    (alone stStandby).pair.lost = true ∧ (alone stStandby).epoch < 0xFFFFFF ∧ (alone stStandby).pair.swap = .none ∧
    (alone stPrimary).mode = stPrimary ∧ (alone stPrimary).running = true ∧ (alone stPrimary).ticking = true ∧
    ({ alone stPrimary with pair := { (alone stPrimary).pair with heard := true } } : State).pair.heard = true ∧
    (alone stPrimary).flag F.CROWN_STATUS.CLA_TOGGLED = false ∧ (alone stPrimary).pair.presLine = false ∧
    getBits (0xA5C30001 : Word) 31 16 = 0xA5C3 ∧ (linked stSolo).running = true ∧ (linked stSolo).pair.safeDue = none ∧
    safeDue.pair.safeDue = some 15 ∧ safeDue.running = true ∧ safeDue.pair.swap = .none := by decide +kernel

/-- A takeover raises the epoch by one, a lost standby does not; SAFE presents rank 0 (R164, R32). -/
theorem test_safe : (after (exec .crownChange (alone stStandby))).mode = stSolo ∧
    (after (exec .crownChange (alone stStandby))).epoch = 6 ∧ (after (exec .crownChange (alone stPrimary))).epoch = 5 ∧
    (after (exec .safeEntry safeDue)).fld F.SYS_STATE.CAUSE = 15 ∧ (after (exec .safeEntry safeDue)).rank = 0 ∧
    (after (exec (.safeReq 0xA5C30001) (linked stSolo))).pair.safeDue = some 8 ∧
    (after (exec (.safeReq 0xA5C20001) (linked stSolo))).pair.safeDue = none ∧
    (after (exec .partnerLossCheck (linked stSolo))).pair.lost = true ∧
    (after (exec .partnerLossCheck { linked stSolo with pair := { (linked stSolo).pair with
      heard := true, presLine := true, status := some { stat0 with state := 2 } } })).flag F.CROWN_STATUS.LINE_FAULT = true := by
  decide +kernel

/-- A forwarded write of the partner, of the period of trigger 7, in tick `t`. -/
def fwd7 (t : DWord) : State :=
  { linked stSolo with pair := { (linked stSolo).pair with
    fwd := [⟨itemKey A.TIME_TRIG_PERIOD 7, 5, t, false, 1, true, none⟩] } }

/-- An own forwarded write that waits for its REPLY. -/
def fwdOwn : State :=
  { linked stSolo with pair := { (linked stSolo).pair with
    fwd := [⟨itemKey A.TIME_TRIG_PERIOD 7, 5, 1, true, 1, false, none⟩] } }

/-- A forwarded write due in this tick; an own one that the partner left unanswered, with a waiting MEM_WRITE. -/
def fwdDue (key : Nat) (v : Word) : State :=
  { linked stSolo with pair := { (linked stSolo).pair with fwd := [⟨key, v, 0, false, 1, true, none⟩] } }
def fwdSilent (key : Nat) (v : Word) : State :=
  let s : State := { linked stSolo with pair := { (linked stSolo).pair with fwd := [⟨key, v, 0, true, 1, false, some 15⟩] } }
  s.setSess 15 { s.sess 15 with queue := [⟨7, 0x11, [], none, 5, true⟩] }

theorem test_witness_forward : crownEpoch (hdrE 5).crown = (linked stSolo).epoch ∧ 0 < ((1 : DWord) - (linked stSolo).tick).toInt ∧
    ((0 : DWord) - (linked stSolo).tick).toInt ≤ 0 ∧ (linked stSolo).trained = true ∧
    (∀ w ∈ (fwd7 1).pair.fwd, w.tick ≠ (fwd7 1).tick) ∧
    (∀ key ∈ [A.CORE_CTRL, A.CHK_CTRL, A.HOOD_CTRL, itemKey A.TIME_TRIG_PERIOD 7],
      (fwdDue key 5).pair.fwd = [⟨key, 5, 0, false, 1, true, none⟩] ∧
      (fwdDue key 5).fld (F.TIME_TRIG_CTRL.STATE.item 7) ≠ 1 ∧ (fwdDue key 5).tick = 0 ∧
      (fwdSilent key 5).pair.fwd = [⟨key, 5, 0, true, 1, false, some 15⟩] ∧
      (fwdSilent key 5).fld (F.TIME_TRIG_CTRL.STATE.item 7) ≠ 1 ∧ (fwdSilent key 5).tick = 0 ∧
      ((fwdSilent key 5).sess 15).queue = [⟨7, 0x11, [], none, 5, true⟩]) ∧
    (∀ w ∈ fwdOwn.pair.fwd, w.own = true ∧ w.replied = false ∧ w.slot = none) ∧ fwdOwn.pair.fwd.length = 1 := by
  decide +kernel

/-- A forwarded write waits for its tick, values below a range rise to it, and one that nobody answered ends its command
(R172). -/
theorem test_forward : (after (exec .forwardedWriteEffect (fwd7 0))).reg (itemKey A.TIME_TRIG_PERIOD 7) = 5 ∧
    (after (exec .forwardedWriteEffect (fwd7 1))).pair.fwd.length = 1 ∧
    (after (exec .forwardedWriteEffect (fwdDue A.HOOD_CTRL 5))).fld F.HOOD_CTRL.LEAD = 1024 ∧
    (after (exec .forwardedWriteEffect (fwdDue A.CORE_CTRL 0))).fld F.CORE_CTRL.FAULT_LIMIT = 1 ∧
    (after (exec .forwardedWriteEffect (fwdDue A.CHK_CTRL 9))).fld F.CHK_CTRL.ODD_LIMIT = 9 ∧
    ((after (exec .forwardedWriteEffect (fwdSilent A.CHK_CTRL 9))).sess 15).queue = [] ∧
    (after (exec .forwardedWriteEffect (fwdSilent A.CHK_CTRL 9))).outbox.length = 1 ∧
    (after (exec .forwardedWriteEffect (fwdSilent A.CHK_CTRL 9))).fld F.STRAIT_ERR.COMMIT_MISS = 0 ∧
    (after (exec (.reply (hdrE 5) 5 1 rcOk) fwdOwn)).pair.fwd.map (fun w => w.replied) = [true] ∧
    (after (exec (.reply (hdrE 5) 5 1 rcState) fwdOwn)).pair.fwd = [] ∧
    (after (exec (.fwdWrite (hdrE 5) 0 4 0 1 0 none) (linked stSolo))).pair.fwd = [] := by decide +kernel

/-- A verdict self-test that began in tick 0, seen in tick `t`. -/
def testing (t : Nat) : State :=
  let s := sets (linked stSolo) [(F.SYS_TICK_LO.TICK, t), (F.CHK_STATUS.VERDICT_BUSY, 1)]
  { s with check := { s.check with verdictAt := some 0 } }

/-- A running split pair from tick 0, seen in tick 160. -/
def splitting : State :=
  let s := sets (linked stSolo) [(F.SYS_TICK_LO.TICK, 160), (F.CHK_STATUS.SPLIT_BUSY, 1), (F.CHK_STATUS.SPLIT_ALLOWED, 1)]
  { s with image := some image0, check := { s.check with splitAt := some 0 } }

/-- A module whose image permits a split of core 0, with one accepted of its half 1; with one of core `c` queued. -/
def splits : State :=
  { (linked stSolo).setFld F.CHK_STATUS.SPLIT_ALLOWED 1 with image := some image0, acts := [⟨0, 1, 0x0201, 1, 1⟩] }
def splitsQueued (c : Nat) : State := { splits with acts := [⟨0, 1, 0x0201, 2 * c, 0⟩] }

theorem test_witness_verdict : (testing 32).check.verdictAt = some 0 ∧ (testing 32).tick = 0 + 32 ∧
    (testing 12).check.verdictAt = some 0 ∧ ((testing 12).tick - 0).toNat = 12 ∧ ((testing 24).tick - 0).toNat = 24 ∧
    (testing 24).check.verdictAt = some 0 ∧
    getBits (0x3C960001 : Word) 31 16 = 0x3C96 ∧ splitPermitted splits 0 = true ∧ splitPermitted splits 15 = false ∧
    liveActivity splits 0x0201 1 = some ⟨0, 1, 0x0201, 1, 1⟩ ∧ liveActivity splits 0x0201 0 = none ∧
    nextSplit splits = some ⟨0, 1, 0x0201, 1, 1⟩ ∧ nextSplit (splitsQueued 3) = some ⟨0, 1, 0x0201, 6, 0⟩ ∧
    nextSplit (splitsQueued 4) = some ⟨0, 1, 0x0201, 8, 0⟩ ∧ splitPermitted (splitsQueued 3) 3 = true ∧
    splitPermitted (splitsQueued 4) 4 = false ∧ splitMustWait { splits with acts := [] } = false ∧
    (∀ s ∈ [splits, splitsQueued 3, splitsQueued 4], s.flag F.CHK_STATUS.VERDICT_BUSY = false ∧ s.pair.partSplit = false ∧
      s.flag F.CHK_STATUS.SPLIT_BUSY = false) ∧ splitting.check.splitAt = some 0 ∧
    splitting.tick = 0 + 160 ∧ ({ splitting with check := { splitting.check with queuedTrigger := some 1 } } :
      State).check.queuedTrigger.isSome ∧ (testing 32).running = true ∧ (testing 32).pair.safeDue = none := by
  decide +kernel

/-- The verdict names the first failed part and asks for SAFE; a split runs for 160 ticks; a bad word met by an earlier tick
fails the memory part (R79, R80, R84). -/
theorem test_verdict : (after (exec (.verdict true false false) (testing 32))).fld F.CHK_VERDICT.PART = 2 ∧
    (after (exec (.verdict true false false) (testing 32))).pair.safeDue = some 7 ∧
    (after (exec (.verdict true true true) (testing 32))).fld F.CHK_VERDICT.RESULT = 1 ∧
    (after (exec (.verdict true true true) { testing 32 with check := { (testing 32).check with memBad := true } })).fld
      F.CHK_VERDICT.PART = 1 ∧
    (after (exec .splitStart splits)).fld F.CHK_SPLIT_STATUS.REMAIN = 160 ∧
    (after (exec .splitStart splits)).fld F.CHK_SPLIT_STATUS.HALF = 1 ∧
    (after (exec .splitStart (splitsQueued 4))).acts.map (fun a => a.state) = [3] ∧
    (after (exec (.splitRejoin false) splitting)).flag F.CHK_STATUS.DEGRADED = true ∧
    (after (exec (.splitRequest 0x3C96003D) splits)).fld F.CHK_SPLIT_STATUS.LAST_REQ = 2 ∧
    (after (exec (.splitRequest 0x3C960001) splits)).fld F.CHK_SPLIT_STATUS.LAST_REQ = 1 ∧
    (after (exec (.splitRequest 0x3C960001) { splits with acts := [] })).fld F.CHK_SPLIT_STATUS.LAST_REQ = 0 := by
  decide +kernel
/-! ## Ports, sessions, host commands -/

/-- Port `p` is up; session 15 on it has the number 16, key slot 7 (permission E) and a queue. -/
def host (p : Nat) (qs : List QCmd) : State :=
  let s := sets (ticks stSolo) [(F.PWR_DOM_STATE.STATE.item (portDomain p), 2), (F.CMD_SESS_STATE.STATE.item 15, 2),
    (F.CMD_SESS_STATE.PORT.item 15, p), (F.CMD_SESS_STATE.KEY_SLOT.item 15, 7)]
  let s := (s.setReg (itemKey A.CMD_SESS_ID 15) 16).setSess 15 { Session.free with queue := qs }
  { s with skerry := { s.skerry with slots := List.replicate 7 (some ⟨[], 0⟩) ++ [some ⟨[], 2⟩] } }

/-- A command of session 15 with a sequence number, an opcode and a payload, sealed under the session's key. -/
def msg (seq : Word) (op : Nat) (xs : List Byte) : CmdMsg :=
  let h := pletinHeader 4 16 seq 0 0 op xs.length
  let c := gcmMask [] (gcmNonce h) xs
  ⟨1, 16, seq, 0, 0, op, c, gcmTag [] h c⟩

theorem msg_header (seq : Word) (op : Nat) (xs : List Byte) :
    cmdHeader (msg seq op xs) = pletinHeader 4 16 seq 0 0 op xs.length := by simp [cmdHeader, msg]

/-- The module reads what the host wrote, and its tag verifies (R196, R202). -/
theorem msg_opens {s : State} {k : Nat} (hk : (s.sess k).key = []) (seq : Word) (op : Nat) (xs : List Byte) :
    tagOk s k (msg seq op xs) = true ∧ deciphered s k (msg seq op xs) = { msg seq op xs with payload := xs } := by
  simp only [tagOk, deciphered, msg_header, hk]
  simp [msg]

/-- A command of session 15 before its judgement. -/
theorem exec_msg {s : State} (hp : portTakes s 15 = true) (hf : svcFull s 15 1 = false)
    (ho : sessOf (portReceived s 15 1) 16 = some 15) (hk : ((portReceived s 15 1).sess 15).key = []) (seq : Word) (op : Nat)
    (xs : List Byte) :
    exec (.command 15 (msg seq op xs)) s =
      .next (judgeCommand (portReceived s 15 1) 15 { msg seq op xs with payload := xs }) := by
  obtain ⟨ht, hd⟩ := msg_opens hk seq op xs
  show Host.Outcome.next (onFrame s 15 (msg seq op xs).ns _) = _
  simp only [onFrame, hp, show (msg seq op xs).ns = 1 from rfl, hf, show (msg seq op xs).session = 16 from rfl, ho, ht, hd]
  rfl

/-- The RESULT of a command of session 15 on port `p`. -/
def res (p : Nat) (op code : Nat) (data : List Byte) : Out :=
  .sealed p [] (pletinHeader 5 16 7 0 0 op (4 + data.length)) (d1 code ++ [0, 0, 0] ++ data)

/-- The bytes of a datagram after its header. -/
def payloadOf : Out → List Byte
  | .datagram _ bs => bs.drop 20
  | _ => []

/-- What an OPEN with a signature by the key of slot 0 is signed over. -/
def signedOver : List Byte :=
  let o := { open0 with signature := List.replicate 96 0 }
  openHeader o ++ openBody o

/-- That OPEN. -/
def signed : OpenMsg := { open0 with signature := ecdsaBytes [] (sha384 signedOver) }

theorem signed_ok {s : State} (h : keySlotOf s 0 = some ⟨[], 0⟩) : openSigOk s signed = true := by
  unfold openSigOk
  rw [show signed.keySlot = 0 from rfl, h]
  have e : openHeader signed ++ openBody signed = signedOver := by simp [openHeader, openBody, signed, signedOver]
  dsimp only
  rw [e, show signed.signature = ecdsaBytes [] (sha384 signedOver) from rfl]
  exact ecdsaOk_ecdsaBytes [] (sha384 signedOver)

/-- A queued command. -/
def queued (op : Nat) (xs : List Byte) : QCmd := ⟨7, op, xs, none, 0, false⟩

/-- A session half open. -/
def halfOpen : State := (host 15 []).setFld (F.CMD_SESS_STATE.STATE.item 15) 1

/-- Every slot taken. -/
def full : State := (List.range 16).foldl (fun s k => s.setFld (F.CMD_SESS_STATE.STATE.item k) 2) (host 15 [])

/-- A module that its tamper input holds. -/
def sealBroken : State := (host 15 []).setFld F.SYS_STATE.STATE stTamperHold

theorem test_witness_ports : (3 : Nat) < 4 ∧ sessState halfOpen 15 = 1 ∧ sessState (host 15 []) 15 = 2 ∧
    portTakes (host 15 []) 15 = true ∧ portTakes (host 0 []) 0 = true ∧ sealBroken.tamperRefuse = true ∧
    getAt 15 (host 15 []).probeAt = none ∧
    getAt 15 { host 15 [] with probeAt := [(15, 1)] }.probeAt = some 1 ∧ ((1000000 : DWord) - 1).toInt < 1000000 ∧
    (host 15 []).tamperRefuse = false ∧ (keySlotOf (host 15 []) 0).isSome = true ∧ openSigOk (host 15 []) open0 = false ∧
    pletinIntact [] = false ∧ pletinIntact (pletinHeader 0 0 0 0 0 0 0) = true ∧
    nonceUsed (host 15 []) 0 open0.nonce = false ∧ sessState (host 15 []) 0 = 0 ∧
    (∀ j, j < 16 → sessState full j ≠ 0) := by decide +kernel

/-- An OPEN whose signature verifies is accepted in slot 0. -/
theorem test_witness_open : openSigOk (host 15 []) signed = true ∧ openSigOk full signed = true ∧
    nonceUsed (host 15 []) signed.keySlot signed.nonce = false ∧ nonceUsed full signed.keySlot signed.nonce = false ∧
    exec (.openSession 15 signed) (host 15 []) = .next (acceptOpen (portReceived (host 15 []) 15 0) 15 0 signed) := by
  have h : openSigOk (portReceived (host 15 []) 15 0) signed = true := signed_ok (by decide +kernel)
  refine ⟨signed_ok (by decide +kernel), signed_ok (by decide +kernel), by decide +kernel, by decide +kernel, ?_⟩
  show Host.Outcome.next (onFrame (host 15 []) 15 signed.ns _) = _
  simp only [onFrame, show signed.ns = 0 from rfl, h]
  rw [show portTakes (host 15 []) 15 = true by decide +kernel, show svcFull (host 15 []) 15 0 = false by decide +kernel,
    show (portReceived (host 15 []) 15 0).tamperRefuse = false by decide +kernel,
    show nonceUsed (portReceived (host 15 []) 15 0) signed.keySlot signed.nonce = false by decide +kernel,
    show openSlot (portReceived (host 15 []) 15 0) 15 = some 0 by decide +kernel]
  rfl

/-- Four sessions on N00, and a second in which N00 has accepted its 2,000 frames. -/
def svcFour : State := [11, 12, 13, 14].foldl (fun s k => sets s [(F.CMD_SESS_STATE.STATE.item k, 2),
  (F.CMD_SESS_STATE.PORT.item k, 0)]) (host 15 [])
def svcBusy : State := { host 0 [] with svcFrames := (0, 2000) }

theorem test_witness_service : portTakes svcBusy 0 = true ∧ 2000 ≤ svcCount svcBusy 0 ∧ 2000 ≤ svcCount svcBusy open0.ns ∧
    svcCount svcBusy 1000000000 < 2000 ∧ svcCount (host 0 []) 0 < 2000 ∧
    4 ≤ ((List.range 16).filter (fun j => sessState svcFour j != 0 && sessPort svcFour j == 0)).length ∧
    ((List.range 16).filter (fun j => sessState (host 0 []) j != 0 && sessPort (host 0 []) j == 0)).length < 4 := by
  decide +kernel

/-- The 2,001st frame of a second on N00 is discarded and counted; a fifth session there finds no slot (R336). -/
theorem test_service : (after (exec (.probe 0 0) svcBusy)).outbox = [] ∧
    (after (exec (.probe 0 0) svcBusy)).fld (F.NET_PORT_DISC.OTHER.item 0) = 1 ∧
    (after (exec (.probe 0 1000000000) svcBusy)).outbox.length = 1 ∧
    openSlot svcFour 0 = none ∧ openSlot svcFour 1 = some 0 := by decide +kernel

/-- Links close the sessions of their port; an OPEN takes the lowest free slot; a PROBE within 1 ms gets no answer (R198,
R201). -/
theorem test_ports : sessState (after (exec (.linkDown 15) (host 15 []))) 15 = 0 ∧
    sessState (after (exec (.linkDown 14) (host 15 []))) 15 = 2 ∧
    (after (exec (.linkUp 15 3) (host 15 []))).fld (F.NET_PORT_STATUS.SPEED.item 15) = 3 ∧
    sessState (acceptOpen (portReceived (host 15 []) 15 0) 15 0 signed) 0 = 1 ∧
    (after (exec (.openSession 15 open0) sealBroken)).outbox.map payloadOf = [[11, 0, 0, 0]] ∧
    (after (exec (.openSession 15 open0) full)).outbox.map payloadOf = [[5, 0, 0, 0]] ∧
    (after (exec (.probe 15 1000000) { host 15 [] with probeAt := [(15, 1)] })).outbox = [] ∧
    (after (exec (.probe 15 1000001) { host 15 [] with probeAt := [(15, 1)] })).outbox.length = 1 ∧
    sessState (after (exec (.halfOpenTimeout 15) halfOpen)) 15 = 0 ∧
    (after (exec (.discardedFrame 16 true) State.reset)).fld (F.NET_PORT_DISC.PTP_OPT.item 16) = 1 := by decide +kernel

/-- Sixteen NACKs have left through port 15 in second 0. -/
def nacked : State := { host 15 [] with nacks := [(15, 0, 16)] }

theorem test_witness_nack : portTakes nacked 15 = true ∧ sessOf nacked 0x10 = some 15 ∧ sessOf nacked 0x11 = none ∧
    ((nacked.nacks.find? (fun e => e.1 == 15 && e.2.1 == cmd0.ns.toNat / 1000000000)).map (fun e => e.2.2)).getD 0 = 16 ∧
    tagOk (host 15 []) 15 { cmd0 with session := 16 } = false := by decide +kernel

/-- The sixteenth NACK is the last of its second; the next second has its own (R202). -/
theorem test_nack : (after (exec (.command 15 cmd0) nacked)).outbox = [] ∧
    (after (exec (.command 15 cmd0) nacked)).fld F.CMD_ERR.AUTH = 1 ∧
    (after (exec (.command 15 { cmd0 with ns := 1000000000 }) nacked)).outbox = [.datagram 15 (pletinHeader 7 7 1 0 0 0 1 ++ [5])] ∧
    (after (exec (.command 15 { cmd0 with session := 16 }) (host 15 []))).outbox =
      [.datagram 15 (pletinHeader 7 16 1 0 0 0 1 ++ [5])] := by
  decide +kernel

/-- A command as its session's queue takes it. -/
def clear (op : Nat) (xs : List Byte) : CmdMsg := ⟨1, 16, 7, 0, 0, op, xs, []⟩

theorem test_witness_msg : tagOk (host 15 []) 15 (msg 7 0x31 []) = true ∧ tagOk sealBroken 15 (msg 7 0x31 []) = true ∧
    (deciphered (host 15 []) 15 (msg 7 0x10 (List.replicate 9 0))).payload = List.replicate 9 0 ∧
    exec (.command 15 (msg 7 0x31 [])) (host 15 []) =
      .next (judgeCommand (portReceived (host 15 []) 15 1) 15 { msg 7 0x31 [] with payload := [] }) :=
  ⟨(msg_opens (by decide +kernel) _ _ _).1, (msg_opens (by decide +kernel) _ _ _).1,
    congrArg CmdMsg.payload (msg_opens (s := host 15 []) (k := 15) (by decide +kernel) _ _ _).2,
    exec_msg (by decide +kernel) (by decide +kernel) (by decide +kernel) (by decide +kernel) _ _ _⟩

theorem test_witness_admission : sessOf (host 15 []) 16 = some 15 ∧
    (sessOf sealBroken 16 = some 15 ∧ sealBroken.tamperRefuse = true ∧ portTakes sealBroken 15 = true) ∧
    cmdRow 0x10 = some (0, false, false, 9, 9) ∧ cmdRow 0x31 = some (1, true, false, 0, 0) ∧
    1 ≤ sessPerm (host 15 []) 15 ∧ roleBound (host 15 []) (clear 0x31 []) = false ∧
    roleBound (host 15 []) (clear 0x10 (List.replicate 9 0)) = false ∧
    (host 15 []).reg (itemKey A.CMD_SESS_H 15) < 7 ∧
    sessPort (host 0 []) 15 = 0 ∧ (host 0 []).tamperRefuse = false ∧ sessOf (host 0 []) 16 = some 15 ∧
    1036 < (List.replicate 1037 (0 : Byte)).length ∧ 9 ≤ argLimit 15 0x10 9 ∧
    8 ≤ ((host 15 (List.replicate 8 (queued 1 []))).sess 15).queue.length ∧ portTakes (host 15 []) 15 = true := by
  decide +kernel

/-- A journalled command raises H and enters the journal; the ninth of a queue is BUSY; its length is checked (R203,
R204, R210). -/
theorem test_admission : (judgeCommand (host 15 []) 15 (clear 0x31 [])).reg (itemKey A.CMD_SESS_H 15) = 7 ∧
    (judgeCommand (host 15 []) 15 (clear 0x31 [])).journal.map (fun e => e.seq) = [7] ∧
    ((judgeCommand (host 15 []) 15 (clear 0x01 [])).sess 15).queue.length = 1 ∧
    (judgeCommand (host 15 []) 15 (clear 0x01 [])).journal = [] ∧
    (judgeCommand (host 15 (List.replicate 8 (queued 1 []))) 15 (clear 0x01 [])).outbox = [res 15 1 rcBusy []] ∧
    (judgeCommand sealBroken 15 (clear 0x31 [])).outbox = [res 15 0x31 rcTamperHold []] ∧
    (judgeCommand (host 15 []) 15 (clear 0x32 [0])).outbox = [res 15 0x32 rcSize []] ∧
    (judgeCommand (host 0 []) 15 (clear 0x13 (List.replicate 1037 0))).outbox = [res 0 0x13 rcSize []] ∧
    (judgeCommand (host 15 []) 15 (clear 0x13 (List.replicate 1037 0))).journal.length = 1 := by
  decide +kernel

/-- The payload of a register or memory command: an address, a length. -/
def addrLen (a n : Nat) : List Byte := beBytes 8 a ++ beBytes 4 n

/-- A session whose host may access every register and byte of the open regions, with one command at the front. -/
def fronting (op : Nat) (xs : List Byte) : State :=
  let s := host 15 [queued op xs]
  { s with guards := [(63 * 32, ⟨0, 40, true, true, true⟩)] }

/-- A journal with one record, of session 16. -/
def journalled1 (op : Nat) (xs : List Byte) : State :=
  journalAppend (fronting op xs) (newRecord (fronting op xs) 15 { clear 0x31 [] with seq := 5 } true 0)

theorem test_witness_reading :
    Fronts (fronting 0x01 []) 15 0x01 (queued 0x01 []) [] ∧
    Fronts (fronting 0x02 [0, 0, 0, 0]) 15 0x02 (queued 0x02 [0, 0, 0, 0]) [] ∧ beAt [0, 0, 0, 0] 0 4 = 0 ∧
    Fronts (fronting 0x10 (beBytes 8 regBase ++ [4])) 15 0x10 (queued 0x10 (beBytes 8 regBase ++ [4])) [] ∧
    hostRegCheck (fronting 0x10 (beBytes 8 regBase ++ [4])) 15 regBase 4 false = none ∧
    chAtRest (fronting 0x12 (addrLen regBase 4096)) 31 = true ∧ beAt (addrLen regBase 4096) 0 8 = regBase ∧
    beAt (addrLen regBase 4096) 8 4 = 4096 ∧ 4096 ≤ memLimit (fronting 0x12 (addrLen regBase 4096)) 15 ∧
    64 ≤ countLimit (fronting 0x60 []) 15 ∧ 0 < ((fronting 0x60 []).setReg A.EVR_NEXT_LO 1).nextIndex ∧
    (journalRead (journalled1 0x62 []) 0 0 1).length = 1 ∧ (journalRead (journalled1 0x62 []) 1 (16 * 2 ^ 32 + 5) 1).length = 1 := by
  decide +kernel

/-- A read at the register base answers MODULE_ID; a memory read waits for channel 31; the own session closes after its
result (R207, R238). -/
theorem test_reading :
    (after (exec (.statusCmd 15) (fronting 0x01 []))).outbox.length = 1 ∧
    sessState (after (exec (.sessionClose 15) (fronting 0x02 [0, 0, 0, 0]))) 15 = 0 ∧
    ((after (exec (.eventSubscribe 15) (fronting 0x03 [0, 0, 0, 9]))).sess 15).mask = 9 ∧
    chState (after (exec (.memRead 15) (fronting 0x12 (addrLen regBase 4096)))) 31 = chReady ∧
    (after (exec (.memRead 15) (fronting 0x12 (addrLen regBase 4097)))).outbox =
      [res 15 0x12 rcSize []] ∧
    (after (exec (.evrRead 15) (fronting 0x60 (beBytes 8 0 ++ [1])))).outbox =
      [res 15 0x60 rcSize []] := by
  decide +kernel

/-- In a pair: a host that writes a forwarded register. -/
def fwdHost (op : Nat) (xs : List Byte) : State :=
  let s := (fronting op xs).setFld F.SYS_STATE.STATE stPrimary
  { s with image := some image0 }

/-- The payload of a REG_WRITE of 4 bytes. -/
def regWr (a v : Nat) : List Byte := beBytes 8 (regBase + a) ++ [4, 0, 0, 0, 0, 0, 0, 0] ++ beBytes 8 v

/-- A key change on port 0 by key slot 7. -/
def keyChange : List Byte := [1, 6, 0, 0] ++ List.replicate 97 9 ++ [2] ++ List.replicate 96 0

/-- An image with station 63 on ring 47. -/
def stnHost (w : Bool) (st : Nat) : State :=
  let s := fronting (if w then 0x51 else 0x50) [47, BitVec.ofNat 8 st, 0, 1]
  { s with image := some { image0 with stations := [⟨47, 63, 0, 0, 4, 0, 4, 0, 1, [], 0, 0, [], [], []⟩] } }

theorem test_witness_writing :
    hostRegCheck (fronting 0x11 (regWr A.CORE_TASK_SEL 1023)) 15 (regBase + A.CORE_TASK_SEL) 4 true = none ∧
    beAt (regWr A.CORE_TASK_SEL 1023) 0 8 = regBase + A.CORE_TASK_SEL ∧ u8At (regWr A.CORE_TASK_SEL 1023) 8 = 4 ∧
    hostRegCheck (fwdHost 0x11 (regWr A.TIME_TRIG_PERIOD 5)) 15 (regBase + A.TIME_TRIG_PERIOD) 4 true = none ∧
    (regAt A.TIME_TRIG_PERIOD).isSome = true ∧ regForwarded A.TIME_TRIG_PERIOD = true ∧
    (fwdHost 0x11 (regWr A.TIME_TRIG_PERIOD 5)).ticking = true ∧ (fwdHost 0x11 (regWr A.TIME_TRIG_PERIOD 5)).paired = true ∧
    chAtRest (fronting 0x13 (addrLen 0x1000 1 ++ [7])) 31 = true ∧ 1 ≤ memLimit (fronting 0x13 []) 15 ∧
    inRegs 0x1000 = false ∧ swapAllowed { holder with sessions := (host 15 [queued 0x30 []]).sessions } = true ∧
    Fronts { holder with sessions := (host 15 [queued 0x30 []]).sessions } 15 0x30 (queued 0x30 []) [] ∧
    (fronting 0x31 []).running = true ∧ (fronting 0x31 []).pair.safeDue = none ∧
    (taskRec { fronting 0x32 [0, 5] with image := some image0 } 5).isSome = true ∧ (fronting 0x32 [0, 5]).paired = false ∧
    (ringStations (stnHost true 63) 47).any (fun x => x.station == 63) = true := by decide +kernel

theorem test_witness_keys : u8At keyChange 1 = 6 ∧ u8At keyChange 0 = 1 ∧ u8At keyChange 101 = 2 ∧
    allZero (slice keyChange 2 2) = true ∧ sessPort (host 0 [queued 0x70 keyChange]) 15 = 0 ∧
    sessKey (host 0 [queued 0x70 keyChange]) 15 ≠ 6 ∧
    someEngineer ((host 0 []).skerry.slots.set 6 (some ⟨slice keyChange 4 97, 2⟩)) = true ∧
    Fronts (host 0 [queued 0x70 keyChange]) 15 0x70 (queued 0x70 keyChange) [] := by decide +kernel

/-- Register, memory and station writes, and a key change (R172, R207, R333). -/
theorem test_writing :
    (after (exec (.regWrite 15) (fronting 0x11 (regWr A.CORE_TASK_SEL 0x7FF)))).fld F.CORE_TASK_SEL.TASK = 0x3FF ∧
    (after (exec (.regWrite 15) (fwdHost 0x11 (regWr A.TIME_TRIG_PERIOD 5)))).pair.fwd.map (fun w => w.tick) = [2] ∧
    ((after (exec (.memWrite 15) (fronting 0x13 (addrLen 0x1000 1 ++ [7])))).chan 31).got = [7] ∧
    (after (exec (.safeRequest 15) (fronting 0x31 []))).pair.safeDue = some 8 ∧
    (after (exec (.taskEnable 15) (fronting 0x32 [0, 5]))).outbox =
      [res 15 0x32 rcNoImage []] ∧
    (after (exec (.stnWrite 15) (stnHost true 64))).outbox =
      [res 15 0x51 rcUntracked []] ∧
    ((after (exec (.stnWrite 15) (stnHost true 63))).ring 47).reqs.map (fun r => r.station) = [63] ∧
    (after (exec (.roleSwap 15) (fronting 0x30 []))).outbox =
      [res 15 0x30 rcState []] ∧
    (after (exec (.keyAdmin 15) (host 0 [queued 0x70 keyChange]))).outbox = [res 0 0x70 rcAuth []] := by
  decide +kernel

/-- The key change with its root signature. -/
def keySigned : List Byte :=
  let s := host 0 []
  keyChange.take 102 ++ ecdsaBytes s.skerry.rootKey (sha384 (keyChange.take 102 ++
    beBytes 4 (s.reg A.SKERRY_KEYCNT + 1).toNat ++ beBytes 8 (s.dword A.SKERRY_FP_LO).toNat))

theorem test_witness_keySigned : keyAdminSigned (host 0 [queued 0x70 keySigned]) keySigned = true := by
  have h : (keyChange.take 102).length = 102 := by decide +kernel
  have e : keySigned.take 102 = keyChange.take 102 := List.take_left' h
  have d : keySigned.drop 102 = ecdsaBytes (host 0 []).skerry.rootKey (sha384 (keyChange.take 102 ++
      beBytes 4 ((host 0 []).reg A.SKERRY_KEYCNT + 1).toNat ++ beBytes 8 ((host 0 []).dword A.SKERRY_FP_LO).toNat)) :=
    List.drop_left' h
  have d2 : slice keySigned 150 48 = (keySigned.drop 102).drop 48 := by
    rw [slice, List.drop_drop, List.take_of_length_le]
    simp [keySigned, h]
  unfold keyAdminSigned
  rw [d2, e, slice, d]
  exact ecdsaOk_ecdsaBytes _ _

/-- The same change judged by the same rules from its signature on, by `changeKey`. -/
theorem test_keyChange : (changeKey (host 0 [queued 0x70 keyChange]) 15 1 6 2 (some ⟨slice keyChange 4 97, 2⟩)).reg
    A.SKERRY_KEYCNT = 1 := by decide +kernel

/-- A MAINT_START of a code and a target. -/
def maint (code target : Nat) : State := fronting 0x40 (beBytes 2 code ++ beBytes 4 target)

/-- A module with activity 0, a cable test of ring 47, running. -/
def active0 (op : Nat) (xs : List Byte) : State :=
  { fronting op xs with acts := [⟨0, 49, 0x0301, 47, 1⟩], image := (stnHost true 63).image }

/-- The same while no group runs anything, at a module that may calibrate group 3, that must not, or that has split core 0. -/
def maintCal (spare : Nat) (fail : Bool) : State :=
  sets (maint 0x0101 3) [(F.CONV_GRP_STATUS.SPARE.item 3, spare), (F.CONV_REF_STATUS.FAIL, b2n fail)]

theorem test_witness_maintenance : Fronts (maint 0x0301 47) 15 0x40 (queued 0x40 (beBytes 2 0x0301 ++ beBytes 4 47)) [] ∧
    beAt (beBytes 2 0x0301 ++ beBytes 4 47) 0 2 = 0x0301 ∧ beAt (beBytes 2 0x0301 ++ beBytes 4 47) 2 4 = 47 ∧
    splitPermitted (maint 0x0201 31) 15 = false ∧ convAble (maint 0x0101 3) 3 = false ∧
    (maintCal 7 false).fld (F.CONV_GRP_STATUS.SPARE.item 3) = 7 ∧ (maintCal 0 true).flag F.CONV_REF_STATUS.FAIL = true ∧
    (∀ a ∈ (maint 0x0301 47).acts, 2 ≤ a.state) ∧
    (∃ a ∈ (active0 0x40 []).acts, a.group = 2 + 47 ∧ a.state ≤ 1) ∧
    (∀ a ∈ (active0 0x40 []).acts, a.code = 0x0302 → a.target = 47 → 2 ≤ a.state) ∧
    liveActivity (active0 0x40 []) 0x0301 47 = some ⟨0, 49, 0x0301, 47, 1⟩ ∧ (activityGroup 0x0301 47).isSome = true ∧
    (active0 0x41 [0, 0, 0, 0]).acts.find? (fun a => a.num == 0) = some ⟨0, 49, 0x0301, 47, 1⟩ ∧
    (active0 0x41 [0, 0, 0, 0]).actNext ≤ 0 + 256 ∧ 0 + 256 < { fronting 0x41 [0, 0, 0, 0] with actNext := 257 }.actNext ∧
    (active0 0 []).acts.find? (fun a => a.group == 49 && a.state == 1) = some ⟨0, 49, 0x0301, 47, 1⟩ ∧
    (active0 0 []).ticking = true := by decide +kernel

/-- A cable test under way in a pair. -/
def cableTest : State := { ringState stPrimary with acts := [⟨0, 49, 0x0301, 47, 1⟩] }

theorem test_witness_cableTest : cableTest.domOn 47 = true ∧ causewayClosed cableTest 47 = false ∧ cableTest.mode ≠ stSolo ∧
    ∃ a ∈ cableTest.acts, a.code = 0x0301 ∧ a.target = 47 ∧ a.state = 1 := by decide +kernel

/-- What the table excludes fails with STATE; the numbers of activities; the end, with its request for counts (R146, R327,
R328). -/
theorem test_maintenance : (after (exec (.maintStart 15) (maint 0x0402 0))).outbox =
      [res 15 0x40 rcState []] ∧
    (after (exec (.maintStart 15) (maint 0x0301 47))).outbox.head? = some (res 15 0x40 rcOk [0, 0, 0, 1]) ∧
    (after (exec (.maintStart 15) (maint 0x0301 48))).outbox =
      [res 15 0x40 rcCheck []] ∧
    (after (exec (.maintStart 15) (maintCal 0 true))).outbox = [res 15 0x40 rcState []] ∧
    (after (exec (.maintStatus 15) (active0 0x41 [0, 0, 0, 0]))).outbox =
      [res 15 0x41 rcOk [1, 0, 0, 0]] ∧
    (after (exec (.maintStatus 15) { fronting 0x41 [0, 0, 0, 0] with actNext := 257 })).outbox =
      [res 15 0x41 rcNoImage []] ∧
    (after (exec (.activityEnd 49 false) (active0 0 []))).acts.map (fun a => a.state) = [3] ∧
    (((after (exec (.activityEnd 49 true) (active0 0 []))).ring 47).reqs.map (fun r => r.svc)) = [5] ∧
    (sendTrain cableTest 47).outbox.head? = some (.cableTest 47 false false 16 48) := by decide +kernel
/-! ## Images -/

/-- A byte string with numbers put at offsets: offset, length, value. -/
def layout (n : Nat) (xs : List (Nat × Nat × Nat)) : List Byte :=
  xs.foldl (fun bs e => bs.take e.1 ++ beBytes e.2.1 e.2.2 ++ bs.drop (e.1 + e.2.1)) (List.replicate n 0)

/-- The budget proof of no tasks in core mode 2 (R219); its CHECK was worked out by hand from R354. -/
def budgetBytes : List Byte := layout 336 [(0, 1, 2), (1, 1, 5), (2, 1, 1), (12, 4, 0x895A9460)]

/-- The smallest image without its signature block (R212 to R217): sequence number 1, core mode 2, a TASK section without
records and BUDGET. -/
def imageBody : List Byte :=
  layout 256 [(0, 4, 0x484F4F44), (4, 2, 1), (8, 4, 1), (12, 4, 2), (16, 8, 912), (24, 8, 784), (32, 1, 2), (34, 2, 1),
    (40, 1, 1), (41, 1, 1), (252, 4, 0x93A7ABBB)] ++ layout 32 [(0, 2, 2), (8, 8, 448)] ++ sha384 [] ++
    layout 32 [(0, 2, 5), (8, 8, 448), (16, 8, 336)] ++ sha384 budgetBytes ++ List.replicate 32 0 ++ budgetBytes

/-- Its signature under the root public key (R216). -/
def imageSig : List Byte := ecdsaBytes State.reset.skerry.rootKey (sha384 imageBody)

/-- The image. -/
def imageBytes : List Byte := imageBody ++ layout 16 [(0, 4, 1)] ++ imageSig ++ List.replicate 16 0

/-- The CRC-32 with each step worked out before the next, so that the kernel can run it over a long string. -/
def crcSteps : Word → List Byte → Word
  | r, [] => r
  | r, b :: bs => match (crcByte crc32Poly r b).toNat with
    | 0 => crcSteps 0 bs
    | n + 1 => crcSteps (BitVec.ofNat 32 (n + 1)) bs

theorem crcSteps_eq (bs : List Byte) : ∀ r, crcSteps r bs = crcFrom crc32Poly r bs := by
  induction bs with
  | nil => intro r; rfl
  | cons b bs ih =>
    intro r
    have e : crcFrom crc32Poly r (b :: bs) = crcFrom crc32Poly (crcByte crc32Poly r b) bs := rfl
    have f : crcByte crc32Poly r b = BitVec.ofNat 32 (crcByte crc32Poly r b).toNat := by simp
    rw [e, crcSteps]
    generalize crcByte crc32Poly r b = v at f ⊢
    split <;> rename_i h <;> rw [ih, f, h]; rfl

/-- HCRC of the header (R213, R354). -/
theorem test_image_hcrc : crc32 (imageBytes.take 252) = 0x93A7ABBB := by
  rw [crc32, ← crcSteps_eq]; decide +kernel

/-- CHECK of the budget proof (R219, R354). -/
theorem test_image_check : crc32 (budgetBytes.take 12 ++ [0, 0, 0, 0] ++ budgetBytes.drop 16) = 0x895A9460 := by
  rw [crc32, ← crcSteps_eq]; decide +kernel

theorem test_image_budget : (readImage imageBytes).budget =
    ⟨2, 5, 1, List.replicate 5 ⟨0, 0, List.replicate 7 0, List.replicate 7 0⟩, [], true⟩ := by
  have h : sectionOf imageBytes 5 0 = budgetBytes := by decide +kernel
  show readBudget (sectionOf imageBytes 5 0) = _
  rw [h, readBudget, test_image_check]; decide +kernel

set_option maxRecDepth 100000 in
theorem test_image_sections : sectionsOf imageBytes =
    [⟨2, 0, 0, 448, 0, 0, sha384 [], [0, 0, 0, 0, 0, 0]⟩,
      ⟨5, 0, 0, 448, 336, 0, sha384 budgetBytes, [0, 0, 0, 0, 0, 0]⟩] := by rfl

theorem test_image_digests : (sectionsOf imageBytes).all (fun x => x.digest == sha384 (secBytes imageBytes x)) = true := by
  have h2 : slice imageBytes 448 0 = [] := by decide +kernel
  have h5 : slice imageBytes 448 336 = budgetBytes := by decide +kernel
  rw [test_image_sections]
  simp only [List.all_cons, List.all_nil, secBytes, h2, h5, beq_self_eq_true, Bool.and_self]

/-- A list with its positions, read back by position. -/
theorem getAt_positions (bs : List Byte) : ∀ n i, i < bs.length →
    getAt (n + i) ((List.range' n bs.length).zip bs) = bs[i]? := by
  induction bs with
  | nil => intro n i h; simp at h
  | cons b bs ih =>
    intro n i h
    simp only [List.length_cons, List.range'_succ, List.zip_cons_cons, getAt]
    cases i with
    | zero => simp
    | succ i =>
      rw [if_neg (by omega), show n + (i + 1) = n + 1 + i by omega]
      simpa using ih (n + 1) i (by simpa using h)

/-- The loader in SAFE with the smallest image received, session 15 waiting for IMAGE_END. -/
def verifying (bs : List Byte) : State :=
  let s := sets (fronting 0x22 []) [(F.SYS_STATE.STATE, stSafe), (F.HOOD_STATUS.STATE, ldVerifying)]
  { s.setSess 15 { s.sess 15 with queue := [{ queued 0x22 [] with waiting := true }] } with
    loader := { Loader.idle with staging := (List.range' 0 bs.length).zip bs, total := bs.length, seq := 1,
                                 waitSlot := some 15 } }

theorem test_staged : stagedBytes (verifying imageBytes).loader = imageBytes := by
  have h : ∀ bs, stagedBytes (verifying bs).loader =
      (List.range bs.length).map (fun i => (getAt i ((List.range' 0 bs.length).zip bs)).getD 0) := fun _ => rfl
  rw [h]
  refine List.ext_getElem (by simp) ?_
  intro i h1 h2
  have := getAt_positions imageBytes 0 i h2
  rw [Nat.zero_add] at this
  simp only [List.getElem_map, List.getElem_range, this, List.getElem?_eq_getElem h2, Option.getD_some]

/-- Its signature verifies. -/
theorem test_image_signature : signatureOk (verifying imageBytes) imageBytes = true := by
  have hb : imageBody.length = 784 := by decide +kernel
  have h16 : (layout 16 [(0, 4, 1)]).length = 16 := by decide +kernel
  have hl : imageBytes.length = 912 := by
    simp only [imageBytes, imageSig, List.length_append, ecdsaBytes_length, List.length_replicate, hb, h16]
  have ho : sigOff imageBytes = 784 := by
    have e : sigOff imageBytes = imageBytes.length - 128 := rfl
    omega
  have head : imageBytes.take 784 = imageBody := by
    rw [imageBytes, List.append_assoc, List.append_assoc, ← hb, List.take_left]
  have sig : ∀ o, slice imageBytes (784 + 16 + o) 48 = ((imageSig ++ List.replicate 16 0).drop o).take 48 := by
    intro o
    rw [slice, Nat.add_assoc, ← List.drop_drop, ← List.drop_drop]
    rw [show imageBytes.drop 784 = layout 16 [(0, 4, 1)] ++ (imageSig ++ List.replicate 16 0) by
      rw [imageBytes, List.append_assoc, List.append_assoc]; exact List.drop_left' hb]
    rw [List.drop_left' (by decide +kernel)]
  have r : slice imageBytes (784 + 16) 48 = imageSig.take 48 := by
    rw [show 784 + 16 = 784 + 16 + 0 from rfl, sig, List.drop_zero, List.take_append_of_le_length (by simp [imageSig])]
  have s : slice imageBytes (784 + 64) 48 = imageSig.drop 48 := by
    rw [show 784 + 64 = 784 + 16 + 48 from rfl, sig, List.drop_append_of_le_length (by simp [imageSig]),
      List.take_left' (by simp [imageSig])]
  have f : beAt imageBytes 784 4 = 1 := by
    rw [beAt_of_eq (bs := imageBytes) (o := 784) (pre := imageBody) (n := 4) (v := 1)
      (post := List.replicate 12 0 ++ (imageSig ++ List.replicate 16 0)) (by
        rw [imageBytes, show layout 16 [(0, 4, 1)] = beBytes 4 1 ++ List.replicate 12 0 by decide +kernel]
        simp only [List.append_assoc]) hb]
    rfl
  simp only [signatureOk, ho, f, r, s, containerDigest, head]
  exact ecdsaOk_ecdsaBytes _ (sha384 imageBody)

/-- The image passes every check of R91. -/
theorem test_image_passes : failedCheck (verifying imageBytes) imageBytes 912 912 1 none 2 = none := by
  have h5 : check5 imageBytes = true := by
    rw [check5, test_image_digests]; decide +kernel
  have h1 : check1 imageBytes 912 912 1 = true := by
    rw [check1, headerOk, test_image_hcrc]; decide +kernel
  have h6 : budgetOk (verifying imageBytes) (readImage imageBytes) 2 = true := by
    rw [budgetOk, test_image_budget]; decide +kernel
  unfold failedCheck; dsimp only; rw [h5, h1, h6, test_image_signature]; decide +kernel

theorem test_witness_verified : loaderState (verifying imageBytes) = ldVerifying ∧
    (verifying imageBytes).loader.waitSlot = some 15 ∧
    ((verifying imageBytes).sess 15).queue = [{ queued 0x22 [] with waiting := true }] ∧
    (verifying imageBytes).loader.store = none ∧
    failedCheck (verifying imageBytes) (stagedBytes (verifying imageBytes).loader)
      (verifying imageBytes).loader.staging.length (verifying imageBytes).loader.total (verifying imageBytes).loader.seq
      (sequenceFloor (verifying imageBytes))
      (budgetMode (verifying imageBytes) (stagedBytes (verifying imageBytes).loader)) = none ∧
    failedCheck (verifying []) (stagedBytes (verifying []).loader) 0 0 1 none 0 = some 1 := by
  rw [test_staged]
  have e : (verifying imageBytes).loader.staging.length = 912 ∧ (verifying imageBytes).loader.total = 912 ∧
      (verifying imageBytes).loader.seq = 1 ∧ sequenceFloor (verifying imageBytes) = none ∧
      budgetMode (verifying imageBytes) imageBytes = 2 := by decide +kernel
  rw [e.1, e.2.1, e.2.2.1, e.2.2.2.1, e.2.2.2.2, test_image_passes]
  decide +kernel

/-- A loader state, with an image, before a command of session 15. -/
def loading (st op : Nat) (xs : List Byte) : State :=
  let s := (fronting op xs).setFld F.HOOD_STATUS.STATE st
  { s with loader := { Loader.idle with img := if ldStoring < st then some image0 else none, total := 1024, seq := 3 } }

/-- IMAGE_ARM on a module in a state. -/
def arming (m : Nat) : State := (loading ldStaged 0x24 []).setFld F.SYS_STATE.STATE m

theorem test_witness_staging : loaderState (loading ldIdle 0x20 (addrLen 512 1)) = ldIdle ∧
    Fronts (loading ldIdle 0x20 (addrLen 512 1)) 15 0x20 (queued 0x20 (addrLen 512 1)) [] ∧
    beAt (addrLen 512 1) 0 8 = 512 ∧ beAt (addrLen 512 1) 8 4 ≠ 0 ∧
    loaderState (loading ldReceiving 0x21 (addrLen 1023 1 ++ [7])) = ldReceiving ∧
    beAt (addrLen 1023 1 ++ [7]) 0 8 + 1 ≤ (loading ldReceiving 0x21 []).loader.total ∧
    (addrLen 1023 1 ++ [7]).drop 12 = [7] ∧ switchGuard (loading ldArmed 0x23 []) = false ∧
    loaderState (loading ldArmed 0x23 []) ≠ ldIdle ∧ loaderState (arming stSolo) = ldStaged ∧
    (arming stSolo).loader.img = some image0 ∧ (arming stSolo).loader.asking = none ∧
    busStopped (loading ldReceiving 0x21 []) = false ∧
    busStopped ((loading ldReceiving 0x21 []).setFld F.XFER_STATUS.BUS_STOP 1) = true ∧
    (arming stSolo).loader.armDue = none ∧ (arming stSafe).mode = stSafe ∧ (arming stPrimary).mode = stPrimary := by
  decide +kernel

/-- Staging and arming (R90, R93, R94, R101). -/
theorem test_staging : loaderState (after (exec (.imageBegin 15) (loading ldIdle 0x20 (addrLen 512 1)))) = ldReceiving ∧
    (after (exec (.imageBegin 15) (loading ldIdle 0x20 (addrLen 511 1)))).outbox = [res 15 0x20 rcSize []] ∧
    (after (exec (.imageData 15) (loading ldReceiving 0x21 (addrLen 1023 1 ++ [7])))).loader.staging = [(1023, 7)] ∧
    (after (exec (.imageData 15) (loading ldReceiving 0x21 (addrLen 1024 1 ++ [7])))).loader.staging = [] ∧
    loaderState (after (exec (.imageEnd 15) (loading ldReceiving 0x22 []))) = ldVerifying ∧
    (after (exec (.imageCancel 15) (loading ldArmed 0x23 []))).fld F.HOOD_ERROR.CAUSE = 8 ∧
    (after (exec (.imageArm 15) (arming stSolo))).loader.armDue = some (0, 3071, 0) ∧
    plannedTick ((arming stSolo).setFld F.SYS_TICK_LO.TICK 5000100) image0 = 5002239 ∧
    loaderState (after (exec (.imageArm 15) (arming stSafe))) = ldArmed ∧
    (after (exec (.imageArm 15) (arming stStandby))).outbox = [res 15 0x24 rcState []] := by decide +kernel

/-- A store of four bytes into bank 1, in a step. -/
def storing (step : Nat) : State :=
  let s := sets (ticks stSolo) [(F.CFG_STATUS.STEP, step), (F.HOOD_STATUS.STATE, ldStoring)]
  { s with opnum := 4, loader := { Loader.idle with store := some ⟨1, [1, 2, 3, 4], 9, [], false⟩ } }

/-- Bank 1 holds a COMMIT and its ACTIVATE is due. -/
def activating : State :=
  { State.reset with bank1 := ⟨entryBytes ⟨.commit, 4, 9, 4, []⟩, []⟩, loader := { Loader.idle with activate := some 1 } }

theorem test_witness_store : (storing 2).loader.store = some ⟨1, [1, 2, 3, 4], 9, [], false⟩ ∧
    (storing 2).power.warned = false ∧ (storing 7).fld F.CFG_STATUS.STEP = 7 ∧ (storing 2).fld F.CFG_STATUS.STEP = 2 ∧
    loaderState (storing 7) = ldStoring ∧ (storing 7).loader.digest = [] ∧ activating.loader.activate = some 1 ∧
    busStopped (storing 6) = false ∧ chState (storing 6) 26 ≠ chError ∧ chState (storing 6) 26 ≠ chStopped ∧
    (after (exec (.storeStepDone true) (storing 5))).loader.store = (storing 6).loader.store ∧
    (after (exec (.storeStepDone true) (storing 5))).fld F.CFG_STATUS.STEP = 6 ∧
    bankBytes ((after (exec (.storeStepDone true) (storing 5))).bank 1) 4 = [1, 2, 3, 4] := by decide +kernel

/-- The same after a supply-fail warning. -/
def storingWarned (step : Nat) : State := { storing step with power := { (storing step).power with warned := true } }

/-- No step begins after the warning; one that runs ends the store (R322). -/
theorem test_witness_storeWarned : ∀ n ∈ [1, 2, 3], (storingWarned n).power.warned = true ∧
    (storingWarned n).fld F.CFG_STATUS.STEP = n ∧
    (storingWarned n).loader.store = some ⟨1, [1, 2, 3, 4], 9, [], false⟩ ∧
    (n ≠ 2 → after (exec (.storeStepDone true) (storingWarned n)) = storingWarned n) ∧
    (n = 2 → (after (exec (.storeStepDone true) (storingWarned n))).loader.store = none) := by decide +kernel

theorem test_witness_activate : commitMarker (activating.bank 1) = some ⟨.commit, 4, 9, 4, List.replicate 48 0⟩ := by
  show commitMarker ⟨entryBytes ⟨.commit, 4, 9, 4, []⟩, []⟩ = _
  rw [commitMarker, goodMarkers_entryBytes _ _ (by decide)]
  rfl

/-- The steps of a store (R223, R224). -/
theorem test_store : ((after (exec (.storeStepDone true) (storing 2))).bank 1).markers.length = 80 ∧
    bankBytes ((after (exec (.storeStepDone true) (storing 5))).bank 1) 5 = [1, 2, 3, 4, 0xFF] ∧
    (after (exec (.storeStepDone false) (storing 3))).fld F.HOOD_ERROR.CAUSE = 9 ∧
    loaderState (after (exec .verifyingDone (verifying []))) = ldIdle := by decide +kernel

/-- A switch planned for tick 1023, seen in that tick at epoch 5. -/
def switching (m : Nat) (d : Option Bool) : State :=
  let s := sets (linked m) [(F.HOOD_STATUS.STATE, ldArmed), (F.SYS_TICK_LO.TICK, 1023)]
  { s.setDword A.HOOD_SWITCH_LO 1023 with loader := { Loader.idle with img := some image0, decision := d } }

/-- The crown holder asks the partner for its loader state. -/
def askingLoader : State :=
  let s := sets (fronting 0x24 []) [(F.SYS_STATE.STATE, stPrimary), (F.HOOD_STATUS.STATE, ldStaged)]
  { s.setSess 15 { s.sess 15 with queue := [{ queued 0x24 [] with waiting := true }] } with
    loader := { Loader.idle with img := some image0, asking := some 0, waitSlot := some 15 } }

theorem test_witness_switch : switchDue (switching stStandby none) = true ∧ crownEpoch hdr0.crown = askingLoader.epoch ∧
    crownEpoch (hdrE 5).crown = (switching stStandby none).epoch ∧ (switching stStandby none).mode = stStandby ∧
    askingLoader.loader.asking = some 0 ∧ askingLoader.mode = stPrimary ∧ loaderState askingLoader = ldStaged ∧
    (askingLoader.sess 15).queue = [{ queued 0x24 [] with waiting := true }] ∧ (switching stSolo none).holds = true ∧
    (switching stSolo (some true)).ticking = true ∧ (switching stSolo (some true)).running = true ∧
    (switching stSolo (some false)).loader.armDue = none ∧ (switching stSolo none).loader.img = some image0 ∧
    (switching stSolo (some false)).fld F.HOOD_STATUS.DEFERRALS + 1 < (switching stSolo none).fld F.HOOD_CTRL.DEFER_LIMIT ∧
    switchDue { arming stSolo with loader := { Loader.idle with armDue := some (0, 1023, 0), img := some image0 } } = false ∧
    (switching stStandby none).pair.outOfStep = false ∧
    { arming stSafe with loader := { Loader.idle with safeReset := true } }.mode = stSafe ∧
    (linked stSolo).trained = true := by decide +kernel

/-- A go switches, a no-go postpones by 1,024 ticks, no decision ends the step (R96 to R98). -/
theorem test_switch : (after (exec .switchJudgement (switching stSolo none))).loader.decision = some true ∧
    (after (exec (.switchDecision (hdrE 5) false) (switching stStandby none))).loader.decision = some false ∧
    runningSeq (after (exec .hoodSwitch (switching stSolo (some true)))) = 1 ∧
    switchTick (after (exec .hoodSwitch (switching stSolo (some false)))) = 2047 ∧
    (after (exec .noSwitchDecision (switching stStandby none))).pair.outOfStep = true ∧
    (after (exec (.loaderReply hdr0 ldStaged []) askingLoader)).loader.armDue = some (0, 3071, 0) ∧
    (after (exec .safeArmReset { arming stSafe with loader := { Loader.idle with safeReset := true } })).mode = stStart ∧
    (after (exec (.loaderQuery hdr0) askingLoader)).loader = askingLoader.loader := by decide +kernel

/-- A module in a state and at epoch 5 whose IMAGE_ARM of session 15 waits, with an arm accepted at an epoch. -/
def armWaits (m e : Nat) : State :=
  let s := sets (arming m) [(F.CROWN_STORED.EPOCH, 5)]
  { s.setSess 15 { s.sess 15 with queue := [{ queued 0x24 [] with waiting := true }] } with
    loader := { s.loader with waitSlot := some 15, armDue := some (0, 1023, e) } }

theorem test_witness_arm : Waits askingLoader 15 0x24 { queued 0x24 [] with waiting := true } [] ∧
    Waits (verifying []) 15 0x22 { queued 0x22 [] with waiting := true } [] ∧
    Waits (armWaits stSolo 4) 15 0x24 { queued 0x24 [] with waiting := true } [] ∧ (armWaits stSolo 4).ticking = true ∧
    (armWaits stSolo 4).mode = stSolo ∧ (armWaits stSolo 4).running = true ∧ (armWaits stSolo 4).pair.lost = false ∧
    (armWaits stSolo 4).pair.swap = .none ∧ (armWaits stSolo 4).pair.joinDue = none ∧
    (armWaits stSolo 4).pair.oosDue = false ∧ (armWaits stSolo 4).epoch ≠ 4 ∧ switchDue (armWaits stSolo 5) = false ∧
    (armWaits stSafe 5).mode = stSafe ∧
    loaderState ((armWaits stSafe 5).setFld F.HOOD_STATUS.STATE ldArmed) = ldArmed ∧
    (switching stStandby none).flag F.MEM_STATUS.SCRUB_BUSY = false ∧
    loaderState ((linked stStandby).setFld F.HOOD_STATUS.STATE ldStaged) = ldStaged := by decide +kernel

/-- An arm whose epoch has changed is abandoned; any other enters ARMED (R206, R93). -/
theorem test_arm : (after (exec .crownChange (armWaits stSolo 4))).loader.armDue = none ∧
    (after (exec .crownChange (armWaits stSolo 4))).outbox = [res 15 0x24 rcRoleChanged []] ∧
    (after (exec .hoodSwitch (armWaits stSolo 5))).outbox = [res 15 0x24 rcOk (beBytes 8 1023)] ∧
    switchTick (after (exec .hoodSwitch (armWaits stSolo 5))) = 1023 := by decide +kernel

/-! ## Resynchronisation, memory, guard sets, registers -/

/-- A copy under way in a module state with a role, at epoch 5; `c` is STRAIT_STATUS.COPY, the tick 1023. -/
def copying (m c : Nat) (r : ResyncRole) : State :=
  let s := sets (linked m) [(F.STRAIT_STATUS.COPY, c), (F.SYS_TICK_LO.TICK, 1023)]
  { s with image := some image0, resync := { Resync.initial with role := r },
           pair := { s.pair with rxSeq := some 65535 } }

/-- The same with pages written since the last round. -/
def dirty (n round : Nat) : State :=
  let s := sets (copying stSolo 3 .holder) [(F.STRAIT_COPY.ROUND, round), (F.XFER_CH_STATUS.STATE.item 28, chActive)]
  { s with resync := { s.resync with dirty := List.range n } }

/-- A piece of 2 KiB is still to send. -/
def sending : State := { dirty 0 3 with resync := { (dirty 0 3).resync with toSend := [7] } }

/-- The tick after a final tick, with the digest of the partner. -/
def joining (m : Nat) (r : ResyncRole) (d : DWord) : State :=
  let s := copying m 4 r
  { s with resync := { s.resync with finalTick := some 1022, loaded := true },
           pair := { s.pair with part2 := some (d, true, false), lastCrown := 0x700 } }

theorem test_witness_holder : crownEpoch (hdrE 5).crown = (copying stSolo 0 .idle).epoch ∧ (copying stSolo 0 .idle).holds = true ∧
    runningSeq (copying stSolo 0 .idle) = 1 ∧ imageDigest (copying stSolo 0 .idle) = [9] ∧
    (copying stSolo 0 .idle).coreMode = 0 ∧ (copying stStandby 0 .idle).holds = false ∧
    ((copying stSolo 5 .holder).setFlag F.MEM_STATUS.SCRUB_BUSY true).flag F.MEM_STATUS.SCRUB_BUSY = true ∧
    (copying stSolo 5 .holder).fld F.STRAIT_STATUS.COPY = 5 ∧ ((dirty 16 3).tick.toNat + 1) % 1024 = 0 ∧
    (dirty 16 3).resync.role = .holder ∧ (dirty 16 3).resync.dirty.length ≤ 16 ∧
    (∀ k, k < 8 → ((dirty 16 3).cls k).overrun = false) ∧ 16 < (dirty 17 63).resync.dirty.length ∧
    (dirty 17 63).fld F.STRAIT_COPY.ROUND < 64 ∧ 64 ≤ (dirty 17 64).fld F.STRAIT_COPY.ROUND ∧
    (joining stSolo .holder 0).tick = 1022 + 1 ∧ (joining stSolo .holder 0).mode = stSolo ∧
    busStopped (dirty 16 3) = false ∧ ownerRuns (dirty 16 3) 28 = true ∧ copyWaits (dirty 16 3) = false ∧
    copyWaits (dirty 17 64) = false ∧ copyWaits sending = true ∧ sending.fld F.STRAIT_STATUS.COPY = 3 ∧
    (sending.tick.toNat + 1) % 1024 = 0 ∧ nextChannel sending = some 28 ∧ sending.resync.toSend = 7 :: [] ∧
    addrBad sending (2048 * 7) 2048 = none ∧ sending.trained = true ∧ busStopped (copying stSolo 0 .idle) = false ∧
    (copying stSolo 0 .idle).resync.role ≠ .joiner ∧
    (0 : DWord) = (joining stSolo .holder 0).dword A.STRAIT_DIGEST_LO ∧ (joining stSolo .holder 0).resync.role = .holder := by
  decide +kernel

/-- The holder accepts, queues behind a scrub, goes round, ends (R158, R170, R171, R237). -/
theorem test_holder :
    (after (exec (.resyncRequest (hdrE 5) 1 [9] 0) (copying stSolo 0 .idle))).fld F.STRAIT_STATUS.COPY = 2 ∧
    (after (exec (.resyncRequest (hdrE 5) 2 [9] 0) (copying stSolo 0 .idle))).fld F.STRAIT_STATUS.COPY = 0 ∧
    (after (exec .resyncRound (dirty 16 3))).fld F.STRAIT_STATUS.COPY = 4 ∧
    (after (exec .resyncRound (dirty 17 63))).fld F.STRAIT_COPY.ROUND = 64 ∧
    (after (exec .resyncRound (dirty 17 64))).fld F.STRAIT_COPY.FAILS = 1 ∧
    (after (exec .resyncDone (joining stSolo .holder 0))).mode = stPrimary ∧
    (after (exec .resyncDone (joining stSolo .holder 1))).mode = stSolo ∧
    (after (exec .scrubSegmentDone { (copying stSolo 5 .holder).setFlag F.MEM_STATUS.SCRUB_BUSY true with
      resync := { Resync.initial with role := .holder, queued := some hdr0 } })).fld F.STRAIT_STATUS.COPY = 2 ∧
    (after (exec (.unitOfWork ⟨false, false⟩ none) sending)).resync.toSend = [] ∧
    (after (exec (.unitOfWork ⟨false, false⟩ none) sending)).outbox.length = 1 ∧
    (after (exec .resyncRound sending)).resync.toSend = [7] := by
  decide +kernel

/-- A joiner whose host region is the whole memory, with SEQ 65535 last. -/
def copyTarget : State :=
  { (copying stStandby 2 .joiner).setFld (F.XFER_CH_STATUS.STATE.item 29) chActive with guards := [(61 * 32, ⟨0, 40, true, true, true⟩)] }

/-- The same out of step, with its outputs held or not; one that has asked with its staged image. -/
def copyHeld (h : Option SlotMap) : State :=
  { copyTarget with pair := { copyTarget.pair with outOfStep := true }, resync := { copyTarget.resync with held := h } }
def copyStaged : State :=
  let s := (copying stStart 1 .joiner).setFld F.HOOD_STATUS.STATE ldStaged
  { s with resync := { s.resync with staged := true }, loader := { Loader.idle with img := some { image0 with seq := 2 } } }

/-- A joiner that asks again. -/
def asksAgain : State := { copying stStart 0 .idle with resync := { Resync.initial with retryAt := some 1023 } }

theorem test_witness_joiner : asksAgain.resync.retryAt = some 1023 ∧ ((1023 : DWord) - asksAgain.tick).toInt ≤ 0 ∧
    asksAgain.pair.status = none ∧ copyTarget.resync.role = .joiner ∧ copyRuns copyTarget = true ∧
    copyTarget.pair.rxSeq = some 65535 ∧ (⟨6, 0x500, 0, 0⟩ : StraitHdr).seq = (65535 + 1) % 65536 ∧
    (hdrE 5).seq ≠ (65535 + 1) % 65536 ∧ busStopped copyTarget = false ∧ copyTarget.bad = [] ∧
    copyTarget.resync.gap = false ∧ ownerRuns copyTarget 29 = true ∧ copyTarget.mramProtected = false ∧
    copyTarget.flag F.MEM_STATUS.SCRUB_BUSY = false ∧ copyTarget.resync.staged = false ∧ copyStaged.resync.role = .joiner ∧
    copyStaged.resync.staged = true ∧ copyStaged.flag F.MEM_STATUS.SCRUB_BUSY = false ∧ copyStaged.loader.img.isSome = true ∧
    crownEpoch (hdrE 5).crown = copyStaged.epoch ∧ (copyHeld none).pair.outOfStep = true ∧
    (copyHeld (some [])).resync.held = some [] ∧ (copyHeld (some [])).pair.rxSeq = some 65535 ∧ asksAgain.resync.role ≠ .joiner ∧
    asksAgain.flag F.MEM_STATUS.SCRUB_BUSY = false ∧ memJudge copyTarget 61 0x3FFFFFF 1 true = none ∧ crownEpoch (hdrE 5).crown = copyTarget.epoch ∧
    (joining stStart .joiner 0).mode = stStart ∧ (joining stStart .joiner 0).resync.finalTick = some 1022 ∧
    (joining stStart .joiner 0).resync.loaded = true ∧
    (joining stStart .joiner 0).pair.part2 = some ((joining stStart .joiner 0).dword A.STRAIT_DIGEST_LO, true, false) ∧
    (joining stStart .joiner 0).epoch ≤ crownEpoch (joining stStart .joiner 0).pair.lastCrown := by decide +kernel

/-- The joiner asks, copies, fails on a gap, joins with the higher epoch (R158, R169 to R171). -/
theorem test_joiner : (after (exec .resyncRetry asksAgain)).fld F.STRAIT_STATUS.COPY = 1 ∧
    byteAt (after (exec (.copy ⟨6, 0x500, 0, 0⟩ 0x3FFFFFF [7]) copyTarget)).mem 0x3FFFFFF = 7 ∧
    (after (exec (.copy (hdrE 5) 0x3FFFFFF [7]) copyTarget)).resync.retryAt = some 17407 ∧
    (after (exec (.resyncFinal ⟨6, 0x500, 0, 0⟩ snap0) copyTarget)).fld F.STRAIT_STATUS.COPY = 4 ∧
    (after (exec (.resyncAccept (hdrE 5)) copyTarget)).resync.role = .joiner ∧
    runningSeq (after (exec (.resyncAccept (hdrE 5)) copyStaged)) = 2 ∧
    (after (exec (.copy (hdrE 5) 0 [7]) (copyHeld (some [(3, ⟨1, .good⟩)])))).committed = [(3, ⟨1, .good⟩)] ∧
    (after (exec (.resyncFinal ⟨6, 0x500, 0, 0⟩ snap0) (copyHeld none))).resync.held = some [] ∧
    (after (exec .resyncDone (joining stStart .joiner 0))).mode = stStandby ∧
    (after (exec .resyncDone (joining stStart .joiner 0))).epoch = 7 := by decide +kernel

/-- A flush of the last unit. -/
def flushing : State := { State.reset with retSnap := some ([(81919, [1])], 5) }

theorem test_witness_memory : State.reset.flag F.MEM_STATUS.SCRUB_BUSY = false ∧ State.reset.acts = [] ∧
    flushing.mramProtected = false ∧ copyRuns (copying stSolo 3 .holder) = true ∧
    (liveActivity { State.reset with acts := [⟨0, 50, 0x0401, 0, 0⟩] } 0x0401 0).isSome = true ∧ State.reset.isBad (.addr 0) = false ∧
    ({ State.reset with bad := [.addr 1] }).isBad (.addr 1) = true ∧ flushing.retSnap = some ([(81919, [1])], 5) ∧
    64 * 81919 + 64 ≤ 0x500000 ∧ flushing.footA = [] ∧ { flushing with footA := [0] }.footA ≠ [] := by decide +kernel

/-- A segment, a pass, the footers (R231, R234, R237). -/
theorem test_memory : (after (exec .scrubSegment State.reset)).flag F.MEM_STATUS.SCRUB_BUSY = true ∧
    (after (exec .scrubSegment (copying stSolo 3 .holder))).flag F.MEM_STATUS.SEGMENT_QUEUED = true ∧
    (after (exec .scrubSegment (copying stStart 1 .joiner))).flag F.MEM_STATUS.SCRUB_BUSY = false ∧
    ((after (exec (.scrubPass { scrub0 with skerryParity := [0x1234] }) State.reset)).recorder.raised.map
      (fun e => (e.source, e.detail.take 8))) = [(3, [0x34, 0x12, 0, 0, 0, 0, 0, 0])] ∧
    (after (exec (.scrubPass { scrub0 with correctedSram := 300, uncorrectable := [.addr 5] }) State.reset)).fld F.MEM_ECC_CE.SRAM = 255 ∧
    (after (exec (.scrubPass { scrub0 with uncorrectable := [.addr 5] }) State.reset)).isBad (.addr 5) = true ∧
    (after (exec .retainedFlushDone flushing)).footB.length = 8 := by decide +kernel

/-- The applies of channel 23's and core 0's guard set fall due in tick 0. -/
def applying (base : Nat) : State :=
  let s := ((ticks stSolo).setReg (itemKey A.GUARD_ATTR (55 * 32 + 31)) 0x710).setReg (itemKey A.GUARD_BASE_LO (55 * 32 + 31)) (BitVec.ofNat 32 base)
  { s with guardDue := [(55, 0)] }

/-- A disabled task, before the first tick. -/
def disabled5 : State :=
  let s := sets State.reset [(F.CORE_TASK_SEL.TASK, 5), (F.CORE_TASK_STATE.DISABLED.item 5, 1), (F.GUARD_SEL.REQ, 15)]
  { s with image := some image0 }

theorem test_witness_registers : (applying 0x10000).guardDue = [(55, (applying 0x10000).tick)] ∧
    (∀ r, r < 32 → (shadowRegion (applying 0x10000) 55 r).en = true →
      (shadowRegion (applying 0x10000) 55 r).base % 2 ^ (shadowRegion (applying 0x10000) 55 r).size = 0) ∧
    (shadowRegion (applying 0x8000) 55 31).en = true ∧
    (shadowRegion (applying 0x8000) 55 31).base % 2 ^ (shadowRegion (applying 0x8000) 55 31).size ≠ 0 ∧
    (ticks stSolo).ticking = true ∧ disabled5.ticking = false ∧ guardOwnable (disabled5.fld F.GUARD_SEL.REQ) = true ∧
    (taskRec disabled5 (disabled5.fld F.CORE_TASK_SEL.TASK)).isSome = true ∧
    disabled5.flag (F.CORE_TASK_STATE.DISABLED.item 5) = true ∧
    regJudge (fronting 0 []) (.session 15) A.CORE_TASK_SEL 4 true = none ∧
    ((regAt A.SYS_TICK_LO).map (fun r => r.low)) = some true ∧ regJudge (fronting 0 []) (.session 15) A.SYS_TICK_LO 4 false = none ∧
    unitAnswers (fronting 0 []) A.SYS_TICK_LO = true := by decide +kernel

/-- Guard sets, forwarded writes, pairs, captures (R5, R172, R242, R357). -/
theorem test_registers : ((after (exec .guardSetApply (applying 0x10000))).region (55 * 32 + 31)).base = 0x10000 ∧
    (after (exec .guardSetApply (applying 0x8000))).flag F.GUARD_STATUS.APPLY_ERR = true ∧
    (after (exec (.guardApply 0x4B960001) (ticks stSolo))).pair.fwd.map (fun w => w.tick) = [2] ∧
    (after (exec (.guardApply 0x4B960001) disabled5)).guardDue = [(15, 0)] ∧
    (after (exec (.taskReEnable 0x5A3C0001) disabled5)).flag (F.CORE_TASK_STATE.DISABLED.item 5) = false ∧
    (after (exec (.taskReEnable 0x5A3C0000) disabled5)).flag (F.CORE_TASK_STATE.DISABLED.item 5) = true ∧
    (after (exec (.registerWrite (.session 15) A.CORE_TASK_SEL 0xFFFFFFFF) (fronting 0 []))).reg A.CORE_TASK_SEL = 0x3FF ∧
    (after (exec (.declaredPairLowRead (.session 15) A.SYS_TICK_LO)
      ((fronting 0 []).setReg A.SYS_TICK_HI 6))).latched (.session 15) A.SYS_TICK_HI 0 = 6 ∧
    (after (exec (.captureRead .unit) (sets State.reset [(F.TIME_CAP_CTRL.NEW.item 0, 1)]))).flag (F.TIME_CAP_CTRL.NEW.item 0) = false := by
  decide +kernel

/-! ## Transfers, acyclic transactions, the shaft engine -/

/-- A module whose selected channel `c` is in a state. -/
def chans (c st : Nat) : State := sets (ticks stSolo) [(F.XFER_CH_SEL.CH, c), (F.XFER_CH_STATUS.STATE.item c, st)]

/-- A bus stop that stopped channel 31 in READY. -/
def stopped : State :=
  let s := (chans 31 chStopped).setFlag F.XFER_STATUS.BUS_STOP true
  s.setChan 31 { XferCh.idle with before := chReady }

/-- A paced channel within a burst, and channel 31 under a session's MEM_READ. -/
def bursting : State :=
  (chans 5 chActive).setChan 5 { XferCh.idle with desc := some ⟨0, 0, 64, 0x08000000, 0⟩, moved := 16, burst := 16 }
def hosted31 : State :=
  let s := sets (fronting 0x12 []) [(F.XFER_CH_STATUS.STATE.item 31, chReady)]
  (s.setSess 15 { s.sess 15 with queue := [{ queued 0x12 [] with waiting := true }] }).setChan 31
    { XferCh.idle with desc := some ⟨0, 0, 8, 0, 0⟩, slot := some 15 }

/-- Of all channels only 31 serves a command. -/
theorem test_witness_slots (c : Nat) (h : c ≠ 31) : (hosted31.chan c).slot = none := by
  have e : hosted31.chan c = XferCh.idle := by
    have : hosted31.xfer = [(31, { XferCh.idle with desc := some ⟨0, 0, 8, 0, 0⟩, slot := some 15 })] := rfl
    simp only [State.chan, this, Sparse.get]
    split <;> (try split) <;> first | rfl | omega
  rw [e]; rfl

/-- Channel 0 waits for the converter results' line. -/
def waits8 : State := (chans 0 chWait).setChan 0 { XferCh.idle with desc := some ⟨0, 0, 8, 0x08000000, 0⟩ }

theorem test_witness_channels : (23 : Nat) = (chans 23 chError).fld F.XFER_CH_SEL.CH ∧ chAtRest (chans 23 chError) 23 = true ∧
    (1 : Word).getLsbD 0 = true ∧ (1 : Word).getLsbD 1 = false ∧ chAtRest (chans 31 chWait) 31 = false ∧
    ((chans 31 chWait).chan 31).slot = none ∧ chState (chans 31 chWait) 31 ≠ chStopped ∧ copyRuns (chans 31 chWait) = false ∧
    getBits (0xC35A0001 : Word) 31 16 = 0xC35A ∧ busStopped stopped = true ∧ (∀ c, c < 32 → (stopped.chan c).before < 8) ∧
    (waits8.chan 0).desc = some ⟨0, 0, 8, 0x08000000, 0⟩ ∧ (⟨0, 0, 8, 0x08000000, 0⟩ : Descr).req = 8 ∧
    chState waits8 0 = chWait ∧ midBurst (chans 31 chWait) 31 = false ∧ midBurst bursting 5 = true ∧
    chAtRest bursting 5 = false ∧ bursting.fld F.XFER_CH_SEL.CH = 5 ∧ chAtRest hosted31 31 = false ∧
    chState hosted31 31 ≠ chStopped ∧ copyRuns hosted31 = false ∧ (hosted31.chan 31).slot = some 15 ∧
    Waits hosted31 15 0x12 { queued 0x12 [] with waiting := true } [] := by decide +kernel

/-- The premise of RESUME over every channel number: a channel that nothing names is idle. -/
theorem test_witness_before (c : Nat) : (stopped.chan c).before < 8 ∧ (stopped.chan c).beforeEnd < 8 := by
  by_cases h : c = 31
  · subst h; decide +kernel
  · have e : stopped.chan c = XferCh.idle := by
      have : stopped.xfer = [(31, { XferCh.idle with before := chReady })] := rfl
      simp only [State.chan, this, Sparse.get]
      split <;> (try split) <;> first | rfl | omega
    rw [e]; decide

/-- START, ABORT, a bus stop and its two ends, a request (R250, R256 to R258). -/
theorem test_channels : chState (after (exec (.xferStart 1) (chans 23 chError))) 23 = chReady ∧
    chState (after (exec (.xferStart 1) (chans 24 chError))) 24 = chError ∧
    (after (exec (.xferAbort 2) (chans 31 chWait))).reg A.XFER_ERR = 0x80000000 ∧
    chState (after (exec (.xferAbort 2) bursting)) 5 = chActive ∧ ((after (exec (.xferAbort 2) bursting)).chan 5).abort = true ∧
    chState (after (exec (.busTimeout 5) (chans 31 chWait))) 31 = chStopped ∧
    (after (exec (.busTimeout 5) (chans 31 chWait))).fld (F.XFER_CH_STATUS.END.item 31) = endBus ∧
    (after (exec (.busTimeout 5) hosted31)).outbox = [res 15 0x12 rcTimeout []] ∧
    chState (after (exec (.xferResume 0xC35A0001) stopped)) 31 = chReady ∧
    chState (after (exec (.xferAbortAll 0xC35A0002) stopped)) 31 = chError ∧
    chState (after (exec (.peripheralRequest 8 []) waits8)) 0 = chReady := by decide +kernel

/-- Channel 30 is READY with a descriptor that moves `n` bytes from 0 to 0x1000; its guard set is open. -/
def moves (n : Nat) : State :=
  let s := (chans 30 chReady).setChan 30 { XferCh.idle with desc := some ⟨0, 0x1000, n, 0, 0⟩ }
  { s with guards := [(62 * 32, ⟨0, 40, true, true, true⟩)], mem := [(1, 7)] }

/-- The same in RECOVERY mode with the high-priority channel 0 waiting; channel 30 pre-empted. -/
def preempts : State := sets (moves 2048) [(F.XFER_CTRL.TEST, 1), (F.XFER_CH_CTRL.PRIO.item 0, 1),
  (F.XFER_CH_STATUS.STATE.item 0, chWait)]
def preempted : State := (moves 2048).setFld (F.XFER_CH_STATUS.STATE.item 30) chPreempted

theorem test_witness_preempt : recoveryMode preempts = true ∧ chanHigh preempts 30 = false ∧ chanHigh preempts 0 = true ∧
    chState preempts 0 = chWait ∧ nextChannel preempts = some 30 ∧ (preempts.chan 30).burst = 0 ∧
    (preempts.chan 30).buf = [] ∧ (preempts.chan 30).abort = false ∧ preempts.mramProtected = false ∧
    8 * 255 < 2048 ∧ 0x1000 % 8 = 0 ∧ 0 + 2048 ≤ 0x1000 ∧ chState preempted 30 = chPreempted ∧
    (∀ j, j < 32 → j ≠ 30 → chState preempted j ≠ chPreempted) ∧ busStopped ((moves 1).setFlag F.XFER_STATUS.BUS_STOP true) = true ∧
    memJudge preempts 62 0 2048 false = none ∧ memJudge preempts 62 0x1000 2048 true = none := by decide +kernel

theorem test_witness_allNormal : ∀ s : State,
    s = (List.range 32).foldl (fun s c => s.setFld (F.XFER_CH_CTRL.PRIO.item c) 0) preempted →
    (∀ j, j < 32 → chanHigh s j = false) ∧ chState s 30 = chPreempted ∧ nextChannel s = some 30 := by
  intro s h; subst h; decide +kernel

/-- A pre-emption keeps what has been moved; the channel goes on with the rest (R252). -/
theorem test_preempt :
    ((after (exec (.unitOfWork ⟨false, false⟩ (some (255, 0))) preempts)).chan 30).moved = 2040 ∧
    chState (after (exec (.unitOfWork ⟨false, false⟩ (some (255, 0))) preempts)) 30 = chPreempted ∧
    chState (after (exec (.unitOfWork ⟨false, false⟩ (some (255, 0))) preempts)) 0 = chReady ∧
    (after (exec (.unitOfWork ⟨false, false⟩ (some (255, 0))) preempts)).reg (itemKey A.XFER_CH_REMAIN 30) = 8 ∧
    chState (after (exec (.unitOfWork ⟨false, false⟩ none) preempted)) 30 = chDone := by decide +kernel

theorem test_witness_unit : busStopped (moves 2048) = false ∧ nextChannel (moves 2048) = some 30 ∧
    ((moves 2048).chan 30).desc = some ⟨0, 0x1000, 2048, 0, 0⟩ ∧ ((moves 2048).chan 30).moved = 0 ∧
    ((moves 2048).chan 30).slot = none ∧ inRegs 0 = false ∧ inRegs 0x1000 = false ∧ (moves 2048).bad = [] ∧
    memJudge (moves 2048) 62 0 2048 false = none ∧ memJudge (moves 2048) 62 0x1000 2048 true = none := by decide +kernel

/-- One unit moves a short descriptor (R251, R254). -/
theorem test_unit : byteAt (after (exec (.unitOfWork ⟨false, false⟩ none) (moves 2))).mem 0x1001 = 7 ∧
    chState (after (exec (.unitOfWork ⟨false, false⟩ none) (moves 2))) 30 = chDone ∧
    chState (after (exec (.unitOfWork ⟨true, false⟩ none) (moves 2))) 30 = chError := by decide +kernel

/-- Ring 47 of an image with station 63 in acyclic slot 1000, with a session's request, tagged or waiting. -/
def acyclic (tag : Option Nat) (w : Bool) : State :=
  let s := sets (stnHost w 63) [(F.PWR_DOM_STATE.STATE.item 47, 2), (F.RING_STATUS.CAUSEWAY.ring 47, 0),
    (F.SYS_TICK_LO.TICK, 4), (lockFld 47 0, 1)]
  let s := s.setSess 15 { s.sess 15 with queue := [{ queued (if w then 0x51 else 0x50) [] with waiting := true }] }
  { s.setRing 47 { RingSt.idle with reqs := [⟨tag, b2n w, 63, [0, 1], .host 15 w, 0⟩] } with
    image := some { image0 with stations := [⟨47, 63, 0, 0, 4, 0, 4, 1000, 1, [], 0, 0, [], [], []⟩] } }

/-- What a reply of station 63 under a tag says: one byte of data, 5. -/
def view63 (tag : Nat) (gen : Bool) : AcycView := ⟨false, 63, tag, gen, 0, 63, 0, [5]⟩

/-- That reply in one cell, its stamp in 1/256 ns. -/
def reply63 (tag : Nat) (gen : Bool) (stamp : Nat) : AcycFrame :=
  ⟨false, stamp, [some (cellBytes 0 2 false false 63 (acyclicContent tag gen 1 0 63 [5]))]⟩

/-- The cells of a reply give what it says (R144). -/
theorem reply63_reads : readAcyclic (reply63 255 false 192000) = some (view63 255 false) ∧
    readAcyclic (reply63 255 true 0) = some (view63 255 true) := by
  unfold readAcyclic reply63
  simp only [List.filterMap_cons, List.filterMap_nil, Option.map_some, readCell_cellBytes]
  decide +kernel

/-- The first cell of a reply of station 63; a request that is ready after the window's last cell has begun. -/
def cell63 : Cell := readCell (cellBytes 0 2 false false 63 (acyclicContent 255 false 1 0 63 [5]))
def lateRequest : State := (acyclic none false).setDword A.TIME_NOW_LO (4 * 62500 + 20000)

theorem cell63_reads : cell63.missed = false ∧ cell63.type = 2 ∧ cell63.origin = false ∧ cell63.owner = 63 := by
  unfold cell63
  simp only [readCell_cellBytes]
  decide +kernel

theorem test_witness_late : receiverOn (acyclic (some 255) false) 47 (reply63 255 false 191999).oddPort = true ∧
    b2n false = (acyclic (some 255) false).parity ∧
    250 * 256 < (slotError (acyclic (some 255) false) 47 63 (reply63 255 false 191999)).natAbs ∧
    48 < max (16 + (lateRequest.ring 47).window) (cellsBegun lateRequest) + 1 ∧
    max (16 + ((acyclic none false).ring 47).window) (cellsBegun (acyclic none false)) + 1 ≤ 48 := by decide +kernel

theorem test_witness_acyclic : (acyclic none false).domOn 47 = true ∧ causewayClosed (acyclic none false) 47 = false ∧
    ((acyclic none false).ring 47).reqs.find? (fun q => q.tag.isNone) = some ⟨none, 0, 63, [0, 1], .host 15 false, 0⟩ ∧
    tagsInUse ((acyclic none false).ring 47) = [] ∧ acyclicCells 2 = 1 ∧ ((acyclic none false).ring 47).window + 1 ≤ 32 ∧
    32 < (({ acyclic none false with rings := [] }.setRing 47 { (acyclic none false).ring 47 with window := 32 }).ring 47).window + 1 ∧
    slotStart (acyclic (some 255) false) 47 63 = 1000 ∧ receiverOn (acyclic (some 255) false) 47 false = true ∧
    b2n (view63 255 false).origin = (acyclic (some 255) false).parity ∧
    (slotError (acyclic (some 255) false) 47 63 (reply63 255 false 192000)).natAbs ≤ 250 * 256 ∧
    ((acyclic (some 255) false).ring 47).reqs.find? (fun q => q.tag == some 255) = some ⟨some 255, 0, 63, [0, 1], .host 15 false, 0⟩ ∧
    (view63 255 false).gen = ((acyclic (some 255) false).ring 47).gens.contains 255 ∧
    Waits (acyclic (some 255) false) 15 0x50 { queued 0x50 [] with waiting := true } [] ∧
    Waits (acyclic (some 0) true) 15 0x51 { queued 0x51 [] with waiting := true } [] ∧
    ((acyclic (some 0) true).setFld (F.RING_CTRL.ACYC_TIMEOUT.ring 47) 4).fld (F.RING_CTRL.ACYC_TIMEOUT.ring 47) ≤
      ((acyclic (some 0) true).tick - 0).toNat := by
  decide +kernel

/-- A request, its reply, its timeout (R143, R145, R146). -/
theorem test_acyclic : tagsInUse ((after (exec (.acyclicRequestSend 47) (acyclic none false))).ring 47) = [0] ∧
    (receiveReply (acyclic (some 255) false) 47 (view63 255 false)).outbox =
      [res 15 0x50 rcOk [5]] ∧
    (receiveReply (acyclic (some 255) false) 47 (view63 255 true)).outbox = [] ∧
    (receiveAcyclic (acyclic (some 255) false) 47 (reply63 255 false 191999) cell63).fld (stnFld F.RING_STN_LATE.LATE 47 63) =
      1 ∧ (after (exec (.acyclicRequestSend 47) lateRequest)).ring 47 = lateRequest.ring 47 ∧
    (after (exec (.acyclicTimeout 47 0) ((acyclic (some 0) true).setFld (F.RING_CTRL.ACYC_TIMEOUT.ring 47) 4))).outbox =
      [res 15 0x51 rcTimeout []] ∧
    (after (exec (.acyclicTimeout 47 0) ((acyclic (some 0) true).setFld (F.RING_CTRL.ACYC_TIMEOUT.ring 47) 5))).outbox = [] := by
  decide +kernel

/-- Signals, masters and axes of a running image. -/
def shafts (ms : List MasterRec) (xs : List AxisRec) : State :=
  { ticks stSolo with
    image := some { image0 with masters := ms, axes := xs, signals := [⟨128, 2, true, 0, false, 0, 0, 0⟩,
      ⟨256, 3, false, 0, false, 0, 0, 0⟩] }, outImg := [(7, ⟨5, .good⟩)], inImg := [(3, ⟨9, .good⟩)] }

/-- A virtual master commanded by slot 7, and an axis with setpoint 128 and actual position 256. -/
def master7 : MasterRec := ⟨false, 0, 7, 0, 1, 5, 5⟩
def axis0 : AxisRec := ⟨0, false, false, false, 1, 128, 0, 256, 8, 1, 0, 0, 0, 0, 0, 0, 0, 1, 0, 0⟩

theorem test_witness_shafts : (shafts [master7] []).ticking = true ∧ (shafts [master7] []).computes = true ∧
    ((shafts [master7] []).outSlot 7) = ⟨5, .good⟩ ∧ ((shafts [master7] []).master 0).emerg = false ∧
    ((shafts [master7] []).master 0).stopReq = false ∧
    ((5 : DWord) - ((shafts [master7] []).master 0).v).toInt.natAbs ≤ master7.acc ∧
    handleSlot (shafts [] [axis0]) axis0.spHandle true = some 2 ∧ ((shafts [] [axis0]).axis 0).mode = .disengaged ∧
    ((shafts [] [axis0]).outSlot axis0.cmdBase).val = 0 := by decide +kernel

/-- An axis with marks and limits: trim 3 a tick, following error 4 for 2 ticks. -/
def axisOn : AxisRec :=
  { axis0 with markEn := true, ferrTicks := 2, markCnt := 384, markTime := 512, markGain := 65536, trimRate := 3,
               ferrLimit := 4, markRepeat := 1000, markWindow := 100, markStep := 50 }

/-- Axis `a` in a state, with its five commands, its master's command `v`, and MARK_CNT, MARK_TIME and the actual position. -/
def axisAt (a : AxisRec) (x : AxisSt) (cmds : List DWord) (v cnt : DWord) : State :=
  let s := shafts [master7] [a]
  ({ s with
    image := some { image0 with
      masters := [{ master7 with acc := 2 ^ 40 }], axes := [a],
      cams := [⟨3, 1, false, 0x100, [(10, 0), (30, 0)]⟩, ⟨4, 1, true, 0x200, [(10, 20), (30, 20)]⟩],
      signals := [⟨128, 2, true, 0, false, 0, 0, 0⟩, ⟨256, 3, false, 0, false, 0, 0, 0⟩, ⟨384, 4, false, 0, false, 0, 0, 0⟩,
        ⟨512, 5, false, 0, false, 0, 0, 0⟩] },
    outImg := (7, ⟨v, .good⟩) :: (List.range 5).map (fun i => (8 + i, ⟨cmds.getD i 0, .good⟩)),
    inImg := [(3, ⟨9, .good⟩), (4, ⟨cnt, .good⟩), (5, ⟨0, .good⟩)] }).setAxis 0 x

/-- An engaged axis: G 100, R 1 of 3, with the setpoints of edges 0 and 1. -/
def engaged (m : AxisMode) : AxisSt :=
  { AxisSt.idle with mode := m, g := 100, r := 1, n := 2, d := 3, trim := 10, offset := 7, cam := 3, s := 50, ff := 5,
                     hist := [(1, 12), (0, 12)], markSeen := true, markCnt := 1 }
def gearCmds (m : DWord) : List DWord := [m, 20, 2, 3, 4]

theorem test_witness_axes :
    (∀ s ∈ [axisAt axisOn (engaged .geared) (gearCmds 1) 5 1, axisAt axisOn (engaged .cammed) (gearCmds 2) 5 2,
        axisAt axis0 { engaged .disengaged with hist := [] } (gearCmds 1) 5 1],
      s.ticking = true ∧ s.computes = true ∧ s.image.isSome = true ∧ handleSlot s axisOn.spHandle true = some 2 ∧
      (s.axis 0).groupStop = false ∧ gearOf s axisOn = (2, 3)) ∧
    axisOn.master < (shafts [master7] []).image.elim 0 (fun im => im.masters.length) ∧ axisOn.ffEn = false ∧
    0 < axisOn.ferrTicks ∧ axis0.markEn = false ∧
    followError (axisAt axisOn (engaged .geared) (gearCmds 1) 5 1) (engaged .geared) ⟨9, .good⟩ = some 3 ∧
    (∀ s : State, s = axisAt axisOn { engaged .geared with hist := [(0, 14)], ferrCnt := 1 } (gearCmds 1) 5 1 →
      followError s (s.axis 0) ⟨9, .good⟩ = some 5 ∧ axisOn.ferrLimit < (5 : Int).natAbs ∧
      axisOn.ferrTicks ≤ min 255 ((s.axis 0).ferrCnt + 1)) ∧
    markAccepted (axisAt axisOn (engaged .cammed) (gearCmds 2) 5 2) axisOn (engaged .cammed) ⟨2, .good⟩ ⟨0, .good⟩ = some 12 ∧
    markAccepted (axisAt axisOn { engaged .geared with hist := [] } (gearCmds 1) 5 2) axisOn
      { engaged .geared with hist := [] } ⟨2, .good⟩ ⟨0, .good⟩ = none := by
  refine ⟨?_, by decide +kernel, by decide, by decide, by decide, by decide +kernel, ?_, by decide +kernel, by decide +kernel⟩
  · decide +kernel
  · intro s h; subst h; decide +kernel

/-- The gear ratio 2:3 with remainder 1 over 5 gives 3 and remainder 2; TRIM 10 moves by 3; a mark of error 12 takes 12 off;
the re-base keeps the setpoint; a crossing brings table 4 in (R109 to R119; worked out by hand). -/
theorem test_axes : ∀ g c b f : State,
    g = after (exec (.enginePass ⟨[], []⟩) (axisAt axisOn (engaged .geared) (gearCmds 1) 5 2)) →
    c = after (exec (.enginePass ⟨[], []⟩) (axisAt axisOn (engaged .cammed) (gearCmds 2) 0x180000000 1)) →
    b = after (exec (.enginePass ⟨[], []⟩) (axisAt axis0 { engaged .disengaged with hist := [] } (gearCmds 2) 5 1)) →
    f = after (exec (.enginePass ⟨[], [0]⟩) (axisAt axisOn (engaged .geared) (gearCmds 1) 5 2)) →
    (g.axis 0).g = 103 ∧ (g.axis 0).r = 2 ∧ (g.axis 0).trim = 13 ∧ (g.axis 0).markTrim.toInt = -12 ∧
    (g.axis 0).s = 7 + 103 + 13 - 12 ∧ (g.axis 0).ff = 7 + 103 + 13 - 12 - 50 ∧
    g.fld (F.SHAFT_AXIS_MARK.ACCEPTED.item 0) = 1 ∧ (c.axis 0).cam = 4 ∧ (c.axis 0).base = 0x100 ∧
    (c.axis 0).g = 0x100000064 ∧ (b.axis 0).mode = .cammed ∧ (b.axis 0).s = 50 ∧ (b.outSlot 2).val = 50 ∧
    (f.axis 0).s = 55 ∧ (f.axis 0).g = 100 ∧ (f.axis 0).trim = 10 := by
  intro g c b f h1 h2 h3 h4; subst h1; subst h2; subst h3; subst h4; decide +kernel

/-- A table of two points, 10 and 30, behind them 10 raised by 0x100; halfway from the second lies 148 (R112, R113). -/
theorem test_cams : camTabValue ⟨3, 1, false, 0x100, [(10, 0), (30, 0)]⟩ 0x80000000 = 30 ∧
    camTabValue ⟨3, 1, false, 0x100, [(10, 0), (30, 0)]⟩ 0x40000000 = 20 ∧
    camTabValue ⟨3, 1, false, 0x100, [(10, 0), (30, 0)]⟩ 0xC0000000 = 148 ∧
    camTabValue ⟨3, 1, true, 40, [(10, 20), (30, 20)]⟩ 0xC0000000 = 40 := by decide +kernel

theorem test_witness_cams : ∀ b ≤ 12, ∃ t : CamTab, t.b = b ∧ t.points.length = 2 ^ t.b ∧ 2 ^ t.b - 1 < 2 ^ t.b ∧
    2 ^ (32 - t.b) - 1 < 2 ^ (32 - t.b) := fun b _ =>
  ⟨⟨0, b, true, 0, List.replicate (2 ^ b) (0, 0)⟩, rfl, by simp, Nat.sub_lt (Nat.two_pow_pos _) Nat.one_pos,
    Nat.sub_lt (Nat.two_pow_pos _) Nat.one_pos⟩

theorem test_witness_camSlopes : ∀ t : CamTab, t = ⟨3, 1, true, 40, [(10, 20), (30, 20)]⟩ → t.cubic = true ∧
    (camPoint t 1).2 = (t.points.getD 0 (0, 0)).1 + t.rise - (t.points.getD 1 (0, 0)).1 ∧ (camPoint t 2).2 = 20 := by
  intro t h; subst h; decide +kernel

/-- The master moves by its command; the disengaged axis follows the actual position (R106, R109). -/
theorem test_shafts : ((after (exec (.enginePass ⟨[], []⟩) (shafts [master7] []))).master 0).m = 5 ∧
    ((after (exec (.enginePass ⟨[0], []⟩) (shafts [master7] []))).master 0).m = 0 ∧
    ((after (exec (.enginePass ⟨[], []⟩) (shafts [{ master7 with acc := 4 }] []))).master 0).v = 4 ∧
    ((after (exec (.enginePass ⟨[], []⟩) (shafts [] [axis0]))).outSlot 2).val = 9 := by decide +kernel

/-! ## Analogue channels, HART, converter groups, trim -/

/-- Channel 31 in a mode with an integration start code; its group is powered; the reference is enabled or ready. -/
def channel31 (m istart : Nat) (en ready : Bool) : State :=
  let s := sets (ticks stSolo) [(F.PWR_DOM_STATE.STATE.item 51, 2), (F.ANA_CH_CFG.MODE.item 31, m),
    (F.ANA_CH_CFG.ISTART.item 31, istart), (F.ANA_CH_CFG.CONV.item 31, 0)]
  (s.setFlag F.CONV_REF_CTRL.EN en).setFlag F.CONV_REF_STATUS.READY ready

/-- The same with an integration under way. -/
def integrates (m istart : Nat) : State :=
  (channel31 m istart true true).setAna 31 { AnaSt.idle with integrating := true }

/-- Capture unit 31 takes channel 31's converter starts (source 0x3F). -/
def captures31 : State := sets (integrates 3 0) [(F.TIME_CAP_CTRL.SOURCE.item 31, 0x3F), (F.TIME_CAP_CTRL.EDGE.item 31, 1)]

theorem test_witness_startCapture : captures31.fld (F.TIME_CAP_CTRL.SOURCE.item 31) = 0x20 + 31 ∧
    captures31.fld (F.TIME_CAP_CTRL.EDGE.item 31) % 2 = 1 ∧ (captures31.anaCh 31).integrating = true ∧
    captures31.fld (F.ANA_CH_CFG.ISTART.item 31) = 0 ∧ anaMode captures31 31 ≠ 0 ∧ anaFast captures31 31 = false ∧
    anaOn captures31 31 = true ∧ captures31.flag F.CONV_REF_STATUS.READY = true ∧
    (after (exec (.integrationEnd 31 integ0) captures31)).dword (itemKey A.TIME_CAP_T_LO 31) =
      BitVec.ofNat 64 (halfTime captures31 31 + 20000) ∧
    (after (exec (.integrationEnd 31 integ0) captures31)).flag (F.TIME_CAP_CTRL.NEW.item 31) = true := by decide +kernel

theorem test_witness_precision : ((integrates 3 0).anaCh 31).integrating = true ∧ anaMode (integrates 3 0) 31 = 3 ∧
    isOutput 3 = false ∧ (integrates 3 0).fld (F.ANA_CH_CFG.ISTART.item 31) = 0 ∧
    (integrates 3 1).fld (F.ANA_CH_CFG.ISTART.item 31) ≠ 0 ∧ anaFast (integrates 3 0) 31 = false ∧
    anaOn (integrates 3 0) 31 = true ∧ (integrates 3 0).flag F.CONV_REF_STATUS.READY = true ∧
    (channel31 3 0 false false).flag F.CONV_REF_CTRL.EN = false ∧ (channel31 3 0 true false).flag F.CONV_REF_CTRL.EN = true ∧
    (channel31 3 0 true false).flag F.CONV_REF_STATUS.READY = false := by decide +kernel

/-- 24.1 mA is over the range and in the SHORT band; the converter runs on; the warm-up starts it (R261, R262, R264,
R276). -/
theorem test_precision : (after (exec (.integrationEnd 31 ⟨24100000000, 5, false⟩) (integrates 3 0))).flag (F.ANA_CH_STATUS.OVERRANGE.item 31) = true ∧
    (after (exec (.integrationEnd 31 ⟨24100000000, 5, false⟩) (integrates 3 0))).flag (F.ANA_CH_STATUS.SHORT.item 31) = true ∧
    ((after (exec (.integrationEnd 31 integ0) (integrates 3 0))).anaCh 31).integrating = true ∧
    ((after (exec (.integrationEnd 31 integ0) (integrates 3 1))).anaCh 31).integrating = false ∧
    ((after (exec (.integrationEnd 31 ⟨12000000000, 5, false⟩) (integrates 3 0))).anaCh 31).next.map (fun r => r.value) =
      some 0x3F889374BC6A7EFA#64 ∧
    (after (exec (.referenceBufferEn 1) (channel31 3 0 false false))).fld F.CONV_REF_STATUS.WARM = 48000 ∧
    ((after (exec .warmUpEnd (channel31 3 0 true false))).anaCh 31).integrating = true ∧
    ((after (exec (.referenceBufferEn 0) (integrates 3 0))).anaCh 31).integrating = false := by decide +kernel

/-- Modem 3 polls device 7 of channel 31. -/
def hartPolls (tries : Nat) : State :=
  let s := (channel31 3 0 true true).setFlag (F.ANA_CH_CFG.HART.item 31) true
  let s := { s with image := some { image0 with
    signals := [⟨63 * 2 ^ 26 + 0 * 2 ^ 20 + (64 * 31 + 43) * 128, 0, false, 0, false, 0, 0, 0⟩] } }
  (s.setModem 3 { Modem.idle with tries := tries }).setAna 31 { AnaSt.idle with hartIdent := [7] }

/-- Modem 3 runs a pass-through. -/
def passes : State :=
  ((channel31 3 0 true true).setFlag (F.ANA_HART_PT.BUSY.item 3) true).setModem 3 { Modem.idle with ptRunning := true }

theorem test_witness_hart : hartRound (hartPolls 2) 3 = [(31, 7)] ∧ ((hartPolls 2).modem 3).pos = 0 ∧
    ((hartPolls 2).modem 3).ptRunning = false ∧ ((hartPolls 2).modem 3).ptPending = false ∧
    7 ∈ ((hartPolls 2).anaCh 31).hartIdent ∧ ((hartPolls 1).modem 3).tries < 2 ∧ 2 ≤ ((hartPolls 2).modem 3).tries ∧
    (3 : Nat) = getBits (0x0000000D : Word) 3 2 ∧ (0x0000000D : Word).getLsbD 0 = true ∧
    (hartPolls 0).flag (F.ANA_HART_PT.BUSY.item 3) = false ∧ passes.flag (F.ANA_HART_PT.BUSY.item 3) = true ∧
    (hartPolls 2).domOn (48 + 3) = true ∧ hartOk hart0 = true ∧ hartOk { hart0 with checkOk := false } = false ∧
    hartOk { hart0 with response := 0x80 } = false ∧ hartMalfunction { hart0 with deviceStatus := 0x80 } = true ∧
    7 ∉ (((hartPolls 2).setAna 31 AnaSt.idle).anaCh 31).hartIdent ∧ hartRound (hartPolls 0) 3 ≠ [] ∧
    hartRound (channel31 3 0 true true) 3 = [] ∧ (passes.modem 3).ptRunning = true ∧
    (passes.modem 3).ptPending = false := by decide +kernel

/-- A reply with 1.5 as its fourth value. -/
def hartFour : HartReply := { hart0 with values := [0, 0, 0, 0x3FC00000] }

/-- Polls and pass-through (R281 to R283); 0x8102 is 33,026. -/
theorem test_hart : getAt 38 ((after (exec (.hartReply 3 hartFour) (hartPolls 2))).anaCh 31).hart =
      some ⟨0x3FF8000000000000, .good⟩ ∧
    getAt 39 ((after (exec (.hartReply 3 { hartFour with deviceStatus := 0x81, extendedStatus := 2 }) (hartPolls 2))).anaCh 31).hart =
      some ⟨0x40E0204000000000, .bad⟩ ∧
    (after (exec (.hartReply 3 hartFour) (hartPolls 2))).outbox = [.hartPoll 31 true 7 3] ∧
    (after (exec (.hartPollTimeout 3) (hartPolls 1))).outbox = [.hartPoll 31 true 7 3] ∧
    ((after (exec (.hartReply 3 hartFour) ((hartPolls 2).setAna 31 AnaSt.idle))).anaCh 31).hartIdent = [7] ∧
    ((after (exec (.hartPollTimeout 3) (hartPolls 1))).modem 3).tries = 2 ∧
    getAt 7 ((after (exec (.hartPollTimeout 3) (hartPolls 2))).anaCh 31).hartFails = some 1 ∧
    ((after (exec (.passThrough 0x0D) (hartPolls 0))).modem 3).ptPending = true ∧
    ((after (exec (.passThrough 0x0D) (channel31 3 0 true true))).modem 3).ptRunning = true ∧
    (after (exec (.passThrough 0x0D) passes)).fld (F.ANA_HART_PT.RESULT.item 3) = rcBusy ∧
    (after (exec (.passThroughTimeout 3) passes)).fld (F.ANA_HART_PT.RESULT.item 3) = rcTimeout ∧
    (after (exec (.hartReply 3 { hart0 with checkOk := false }) passes)).fld (F.ANA_HART_PT.RESULT.item 3) = rcCheck := by
  decide +kernel

/-- Group 3, powered and selected, running an entry or none. -/
def group3 (e : Option FastEntry) : State :=
  let s := sets (channel31 3 0 true true) [(F.CONV_GRP_SEL.GRP, 3), (F.CONV_GRP_STATUS.STOPPED.item 3, 0),
    (F.CONV_GRP_STATUS.SPARE.item 3, 4), (F.CONV_GRP_CTRL.LEN.item 3, 15), (F.CONV_GRP_STATUS.ENTRY.item 3, 14)]
  s.setGrp 3 { ConvGrp.idle with running := e }

def seqEntry : FastEntry := ⟨24, 0, 1, false, false⟩
def urgEntry : FastEntry := ⟨24, 0, 1, true, false⟩

/-- Group 3 calibrates its spare, which has failed `n` times. -/
def calibrates (n : Nat) : State :=
  let s := group3 none
  s.setGrp 3 { s.grp 3 with calibrating := true, fails := n }

theorem test_witness_groups : (3 : Nat) = (group3 none).fld F.CONV_GRP_SEL.GRP ∧ convAble (group3 none) 3 = true ∧
    ((group3 none).grp 3).running = none ∧ ((group3 (some seqEntry)).grp 3).running = some seqEntry ∧
    ((group3 (some urgEntry)).grp 3).held = none ∧ ((group3 (some seqEntry)).grp 3).swapDue = false ∧
    (group3 (some seqEntry)).fld (F.CONV_GRP_STATUS.ENTRY.item 3) = 14 ∧
    14 < (group3 (some seqEntry)).fld (F.CONV_GRP_CTRL.LEN.item 3) ∧
    ((group3 (some seqEntry)).setGrp 3 { ConvGrp.idle with running := some seqEntry, stopReq := true }).grp 3 =
      { ConvGrp.idle with running := some seqEntry, stopReq := true } ∧
    (group3 none).flag F.CONV_REF_STATUS.READY = true ∧ (group3 none).flag F.CONV_REF_STATUS.FAIL = false ∧
    (group3 none).flag F.CONV_REF_STATUS.PROOF_BUSY = false ∧ (∀ k, k < 4 → ((group3 none).grp k).calibrating = false) ∧
    (group3 none).fld (F.CONV_GRP_STATUS.SPARE.item 3) ≠ 7 ∧ ((calibrates 2).grp 3).calibrating = true ∧
    ((calibrates 0).grp 3).active = [0, 1, 2, 3] ∧ ((calibrates 2).grp 3).fails = 2 ∧
    (calibrates 0).ticking = true ∧ ((calibrates 0).grp 3).running = none ∧ (group3 none).acts = [] ∧
    groupHeld (group3 none) 0 = false ∧ liveActivity (group3 none) 0x0101 3 = none ∧
    ((group3 none).setFlag F.CONV_REF_STATUS.READY false).flag F.CONV_REF_STATUS.READY = false ∧
    ((group3 none).setFlag F.CONV_REF_STATUS.FAIL true).flag F.CONV_REF_STATUS.FAIL = true ∧
    ((group3 none).setFlag F.CONV_REF_STATUS.PROOF_BUSY true).ticking = true ∧ calibrating (calibrates 0) = true ∧
    ((group3 none).setFld F.CONV_CAL.PROOF_H 0).fld F.CONV_CAL.PROOF_H = 0 ∧
    ((group3 none).setFld F.CONV_CAL.PROOF_H 1).fld F.CONV_CAL.PROOF_H ≠ 0 := by decide +kernel

/-- Sequences, urgent entries, calibration, the proof test (R266 to R275). -/
theorem test_groups : (after (exec (.convGo 0x0F01) (group3 none))).fld (F.CONV_GRP_STATUS.STATE.item 3) = 1 ∧
    (after (exec (.urgentEntry 1 [] 0) (group3 (some seqEntry)))).fld (F.CONV_GRP_STATUS.STATE.item 3) = 2 ∧
    (after (exec (.urgentEntry 1 [] 0) (group3 (some urgEntry)))).fld (F.CONV_GRP_STATUS.URG.item 3) = 2 ∧
    ((after (exec (.convStop 2) (group3 (some seqEntry)))).grp 3).stopReq = true ∧
    (after (exec (.entryEnd 3 [] 0) (group3 (some seqEntry)))).fld (F.CONV_GRP_STATUS.ENTRY.item 3) = 15 ∧
    (after (exec (.entryEnd 3 [] 0) ((group3 none).setGrp 3 { ConvGrp.idle with running := some urgEntry, aborted := true }))).flag (F.CONV_GRP_STATUS.REPEAT.item 3) = true ∧
    ((after (exec (.calibration 3) (group3 none))).grp 3).calibrating = true ∧
    (after (exec (.calibration 3) ((group3 none).setFlag F.CONV_REF_STATUS.READY false))).acts = [⟨1, 0, 0x0101, 3, 0⟩] ∧
    (after (exec .proofTest ((calibrates 0).setFld F.CONV_CAL.PROOF_H 1))).flag F.CONV_REF_STATUS.PROOF_QUEUED = true ∧
    ((after (exec (.calibrationDone 3 ⟨-500000, 1000000, 20000⟩) (calibrates 0))).grp 3).active = [1, 2, 3, 4] ∧
    (after (exec (.calibrationDone 3 ⟨500001, 0, 0⟩) (calibrates 2))).fld (F.CONV_GRP_STATUS.SPARE.item 3) = 7 ∧
    (after (exec .proofTest ((group3 none).setFld F.CONV_CAL.PROOF_H 1))).flag F.CONV_REF_STATUS.PROOF_BUSY = true ∧
    (after (exec (.proofTestDone (-2001)) ((group3 none).setFlag F.CONV_REF_STATUS.PROOF_BUSY true))).flag F.CONV_REF_STATUS.FAIL = true ∧
    (after (exec (.proofTestDone 2000) ((group3 none).setFlag F.CONV_REF_STATUS.PROOF_BUSY true))).flag F.CONV_REF_STATUS.FAIL = false := by
  decide +kernel

/-- A trim of channel 31 in a step, with points, a reference and a result of 4.0004 mA. -/
def trims (st : Nat) (x : TrimSt) : State :=
  let s := (((channel31 3 0 true true).setFld F.ANA_TRIM_STATUS.STATE st).setReg A.ANA_TRIM_REF 4000000).setAna 31
    { AnaSt.idle with raws := List.replicate 16 4000400000 }
  { s with trim := some x }

/-- Points at 4 and 20 mA, observed 0.4 µA high at both. -/
def trimPoints : TrimSt := ⟨31, 4000000, 4000400, 20000000, 20000400⟩

/-- A trim of channel 31 as an output; one of an input with 15 results. -/
def trimsOut (st : Nat) : State :=
  (trims st ⟨31, 0, 0, 0, 0⟩).setFld (F.ANA_CH_CFG.MODE.item 31) 6
def trimsFew : State := (trims 1 ⟨31, 0, 0, 0, 0⟩).setAna 31 { AnaSt.idle with raws := List.replicate 15 0 }

/-- The same with an observed span 2.5 % too small. -/
def trimWide : TrimSt := ⟨31, 4000000, 4000000, 20000000, 19600000⟩

theorem test_witness_trim : getBits (0x96A51F01 : Word) 31 16 = 0x96A5 ∧ getBits (0x96A51F01 : Word) 2 0 = 1 ∧
    getBits (0x96A51F01 : Word) 12 8 = 31 ∧ (channel31 3 0 true true).trim = none ∧
    (trims 1 ⟨31, 0, 0, 0, 0⟩).trim = some ⟨31, 0, 0, 0, 0⟩ ∧ isOutput (anaMode (trims 1 ⟨31, 0, 0, 0, 0⟩) 31) = false ∧
    trimMean (trims 1 ⟨31, 0, 0, 0, 0⟩) 31 = some 4000400 ∧ (trims 1 trimPoints).fld F.ANA_TRIM_STATUS.STATE = 1 ∧
    (∀ n ∈ [1, 2], (trimsOut n).trim = some ⟨31, 0, 0, 0, 0⟩ ∧ isOutput (anaMode (trimsOut n) 31) = true ∧
      (trimsOut n).fld F.ANA_TRIM_STATUS.STATE = n ∧ (trimsOut n).running = true ∧ anaOn (trimsOut n) 31 = true ∧
      (trimsOut n).flag (F.ANA_CH_STATUS.STRAP_MISMATCH.item 31) = false) ∧
    (trimsFew.anaCh 31).raws.length < 16 ∧ trimsFew.trim = some ⟨31, 0, 0, 0, 0⟩ ∧
    isOutput (anaMode trimsFew 31) = false ∧ (trims 1 trimPoints).fld F.ANA_TRIM_STATUS.STATE + 1 ≠ 3 ∧
    (trims 2 trimPoints).fld F.ANA_TRIM_STATUS.STATE = 2 ∧ (trims 3 trimPoints).fld F.ANA_TRIM_STATUS.STATE = 3 ∧
    trimOf 4000000 4000400 20000000 20000400 = some (400, 0) ∧ 100 * (400 : Int).natAbs ≤ anaSpan 3 ∧
    trimOf 4000000 4000000 20000000 19600000 = some (100000, 25641026) ∧ 20000000 < (25641026 : Int).natAbs := by
  decide +kernel

/-- The steps of a trim (R284, R285). -/
theorem test_trim : (after (exec (.trimBegin 0x96A51F01) (channel31 3 0 true true))).fld F.ANA_TRIM_STATUS.CH = 7 ∧
    (after (exec (.trimLow 0x96A50002) (trims 1 ⟨31, 0, 0, 0, 0⟩))).trim = some ⟨31, 4000000, 4000400, 0, 0⟩ ∧
    (after (exec (.trimLow 0x96A50002) trimsFew)).fld F.ANA_TRIM_STATUS.RESULT = rcState ∧
    (after (exec (.trimHigh 0x96A50003) (trims 1 ⟨31, 0, 0, 0, 0⟩))).fld F.ANA_TRIM_STATUS.RESULT = rcState ∧
    (after (exec (.trimLow 0x96A50002) (trimsOut 1))).outbox = [.analogue 31 0x3F70624DD2F1A9FC] ∧
    (after (exec (.trimHigh 0x96A50003) (trims 2 ⟨31, 0, 0, 0, 0⟩))).trim = some ⟨31, 0, 0, 4000000, 4000400⟩ ∧
    (after (exec (.trimCommit 0x96A50004) (trims 3 trimPoints))).reg (itemKey A.ANA_CH_TRIM_Z 31) = 400 ∧
    (after (exec (.trimCommit 0x96A50004) (trims 3 trimWide))).fld F.ANA_TRIM_STATUS.RESULT = rcCheck ∧
    (after (exec (.trimAbandon 0x96A50005) (trims 3 trimWide))).trim = none ∧
    (after (exec (.trimClear 0x96A50006) ((trims 3 trimWide).setReg (itemKey A.ANA_CH_TRIM_Z 31) 9))).reg (itemKey A.ANA_CH_TRIM_Z 31) = 0 ∧
    (after (exec .trimTimeout (trims 3 trimWide))).fld F.ANA_TRIM_STATUS.RESULT = rcTimeout := by decide +kernel

/-! ## Digital channels, CAN, RS-485 -/

/-- The digital unit ON; channel 31 is an output that holds, in or out of safe state after `n` valid frames. -/
def digital (m : Nat) (safe : Bool) (n : Nat) : State :=
  let s := sets (ticks m) [(F.PWR_DOM_STATE.STATE.item 52, 2), (F.DIO_CH_CFG.DIR.item 31, 1), (F.DIO_CH_CFG.SAFE.item 31, 2)]
  let s := s.setFlag F.DIO_LINK_STATUS.FIELD_SAFE safe
  { s with dio := { s.dio with
    applied := 0x80000000, commanded := 0x80000000, goodFrames := n, pulses := [3],
    safe := safe, safeTable := List.replicate 31 0 ++ [2] } }

/-- An uplink frame at an instant with its states and its check. -/
def uplink (s : State) (ns : Nat) (states : BitVec 32) : UplinkFrame :=
  let f := { up1 with ns := ns, states := states }
  { f with check := crc16 (uplinkBytes s f) }

/-- A line that turns the last bit of a downlink frame. -/
def noisy : List Byte := List.replicate 11 0 ++ [1]

/-- Channel 31 is off in overload. -/
def overloaded : State :=
  let s := digital stSolo false 0
  { s with dio := { s.dio with overloaded := [31] } }

theorem test_witness_digital : (digital stSolo false 0).dom 52 = 2 ∧ State.reset.dom 52 ≠ 2 ∧
    (uplink (digital stSolo false 0) 4000 1).check = crc16 (uplinkBytes (digital stSolo false 0) (uplink (digital stSolo false 0) 4000 1)) ∧
    up1.check ≠ crc16 (uplinkBytes (digital stSolo false 0) { up1 with states := 1 }) ∧
    onLine (downlinkNow (digital stSolo false 5)) noisy = none ∧
    (digital stSolo false 0).running = true ∧ (digital stSolo false 0).dio.tableDue = false ∧
    ({ digital stSolo false 0 with dio := { (digital stSolo false 0).dio with tableDue := true } } : State).dio.tableDue = true ∧
    (digital stSolo true 14).dio.safe = true ∧ (digital stSolo true 15).dio.safe = true ∧
    (digital stSolo true 15).dio.goodFrames = 15 ∧ (digital stSolo false 0).dio.safe = false ∧
    (digital stSafe false 0).running = false ∧ dioDir (digital stSolo false 0) 31 ≠ 0 ∧
    dioDriven (digital stSolo false 0) 31 = true ∧ overloaded.dio.overloaded.contains 31 = true ∧
    overloaded.dio.applied.getLsbD 31 = true ∧
    ({ overloaded with dio := { overloaded.dio with applied := 0 } } : State).dio.applied.getLsbD 31 = false ∧
    overloaded.dio.fieldEnables.getLsbD 31 = false := by decide +kernel

/-- The link, safe state and its end, overload and pulses (R289 to R295). -/
theorem test_digital :
    (after (exec (.uplinkFrame (uplink (digital stSolo false 0) 4000 1)) (digital stSolo false 0))).dio.sample = 1 ∧
    (after (exec (.uplinkFrame (uplink (digital stSolo false 0) 4001 1)) (digital stSolo false 0))).dio.sample = 0 ∧
    (after (exec (.uplinkFrame { up1 with states := 1 }) (digital stSolo false 0))).fld F.DIO_LINK_ERR.CRC = 1 ∧
    (after (exec (.uplinkFrame { up1 with states := 1 }) (digital stSolo false 0))).dio.sample = 0 ∧
    (after (exec (.downlinkFrame noisy) (digital stSolo false 5))).fld F.DIO_LINK_ERR.CRC = 1 ∧
    (after (exec (.downlinkFrame noisy) (digital stSolo false 5))).dio.goodFrames = 0 ∧
    (after (exec (.downlinkFrame []) (digital stSolo false 0))).dio =
      { (digital stSolo false 0).dio with next := some (0x80000000, 0) } ∧
    (after (exec (.downlinkFrame []) (digital stSolo true 14))).flag F.DIO_LINK_STATUS.FIELD_SAFE = true ∧
    (after (exec (.downlinkFrame []) (digital stSolo true 15))).flag F.DIO_LINK_STATUS.FIELD_SAFE = false ∧
    (after (exec (.downlinkFrame []) (digital stSafe false 0))).flag F.DIO_LINK_STATUS.FIELD_SAFE = true ∧
    (after (exec (.downlinkFrame []) { digital stSolo false 0 with dio := { (digital stSolo false 0).dio with
      tableDue := true } })).dio.safeTable.getD 31 0 = 2 ∧
    (after (exec .linkTimeout (digital stSolo false 0))).dio.applied = 0x80000000 ∧
    dioDriven (after (exec (.overload 31) (digital stSolo false 0))) 31 = false ∧
    dioDriven (after (exec (.overloadRetry 31) overloaded)) 31 = true ∧
    (after (exec (.pulseEnd 3) overloaded)).dio.pulses = [] := by decide +kernel

/-- Bus 3 is up; buffer 63 is enabled, in a direction and a state, with identifier 5. -/
def bus3 (tx : Bool) (st : Nat) (c : CanSt) : State :=
  let s := sets (ticks stSolo) [(F.PWR_DOM_STATE.STATE.item 56, 2), (F.CAN_SEL.BUS, 3), (F.CAN_CTRL.INIT.item 3, 0),
    (F.CAN_STATUS.STATE.item 3, 0), (headFld 3 63 18 18, 1), (headFld 3 63 17 17, b2n tx), (headFld 3 63 3 0, st)]
  ((s.setReg (canWord 3 63 1) 5).setReg (canWord 3 63 2) 0x9FFFFFFF).setCan 3 c

def idle : CanSt := CanSt.idle
def locked : CanSt := { CanSt.idle with lock := some 63 }
def shadowed : CanSt := { CanSt.idle with lock := some 63, shadow := [(63, { can0 with id := 5, data := [1], dlc := 1 })] }
def frame5 : CanFrame := { can0 with id := 5, data := [1, 2], dlc := 2, stamp := 9 }

theorem test_witness_can : busUp (bus3 false 0 idle) 3 = true ∧ (bus3 false 0 idle).fld (F.CAN_CTRL.MODE.item 3) ≠ 2 ∧
    ((bus3 false 0 idle).setFld (F.CAN_CTRL.MODE.item 3) 2).fld (F.CAN_CTRL.MODE.item 3) = 2 ∧
    ({ frame5 with errors := 8 } : CanFrame).errors ≠ 0 ∧ frame5.errors = 0 ∧ canMatch (bus3 false 0 idle) 3 63 frame5 = true ∧
    (∀ j, j < 63 → canMatch (bus3 false 0 idle) 3 j frame5 = false) ∧
    (∀ j, j < 64 → canMatch (bus3 false 0 idle) 3 j { frame5 with id := 4 } = false) ∧ frame5.remote = false ∧
    ((bus3 false 0 idle).canBus 3).lock ≠ some 63 ∧ ((bus3 false 1 locked).canBus 3).lock = some 63 ∧
    (bus3 false 1 locked).dom (53 + 3) = 2 ∧ getAt 63 ((bus3 false 1 locked).canBus 3).shadow = none ∧
    (bus3 false 1 locked).fld (headFld 3 63 3 0) = 1 ∧ (getAt 63 ((bus3 false 1 shadowed).canBus 3).shadow).isSome = true := by
  decide +kernel

/-- Reception, lock and shadow (R298, R299). -/
theorem test_can : (after (exec (.receivedFrame 3 frame5) (bus3 false 1 idle))).fld (headFld 3 63 31 24) = 1 ∧
    (after (exec (.receivedFrame 3 frame5) (bus3 false 0 idle))).reg (canWord 3 63 6) = 0x201 ∧
    (after (exec (.receivedFrame 3 { frame5 with errors := 8 }) (bus3 false 0 idle))).fld (F.CAN_STATUS.REC.item 3) = 8 ∧
    (after (exec (.receivedFrame 3 frame5) ((bus3 false 0 idle).setFld (F.CAN_CTRL.MODE.item 3) 2))).fld (headFld 3 63 3 0) = 0 ∧
    (after (exec (.receivedFrame 3 { frame5 with id := 4 }) (bus3 false 0 idle))).fld (F.CAN_ERR.NO_MATCH.item 3) = 1 ∧
    (after (exec (.receivedFrame 3 { frame5 with remote := true }) (bus3 false 0 idle))).fld (F.CAN_ERR.REMOTE.item 3) = 1 ∧
    (after (exec (.receivedFrame 3 frame5) (bus3 false 1 locked))).reg (canWord 3 63 6) = 0 ∧
    ((after (exec (.headRead 3 63) (bus3 false 1 idle))).canBus 3).lock = some 63 ∧
    canState (after (exec (.tailRead 3 63) (bus3 false 1 locked))) 3 63 = 0 ∧
    (after (exec (.tailRead 3 63) (bus3 false 1 shadowed))).reg (canWord 3 63 6) = 1 ∧
    (after (exec (.lockTimeout 3) (bus3 false 1 locked))).flag (F.CAN_EVENT.LOCK_TIMEOUT.item 3) = true := by
  decide +kernel

/-- Buffer 63 is on the bus. -/
def onBus : CanSt := { CanSt.idle with active := some 63 }

/-- Buffer 63 is ONESHOT on a bus in a state. -/
def oneshot (st bus : Nat) : State :=
  sets (bus3 true st idle) [(headFld 3 63 16 16, 1), (F.CAN_STATUS.STATE.item 3, bus)]

/-- A bus that INIT took out of bus-off. -/
def inInit : State :=
  sets (bus3 true 0 { idle with wasOff := true }) [(F.CAN_CTRL.INIT.item 3, 1), (F.CAN_STATUS.STATE.item 3, 4)]

theorem test_witness_can_send : (3 : Nat) = (bus3 true 0 idle).fld F.CAN_SEL.BUS ∧ (0x80000000 : Word).getLsbD (63 % 32) = true ∧
    canMapped (bus3 true 0 idle) 3 63 = false ∧ canEn (bus3 true 0 idle) 3 63 = true ∧ canTx (bus3 true 0 idle) 3 63 = true ∧
    canState (bus3 true 0 idle) 3 63 ≠ 2 ∧ canState (bus3 true 0 idle) 3 63 ≠ 3 ∧
    (canOneshot (oneshot 0 2) 3 63 && busIsOff (oneshot 0 2) 3) = true ∧
    canState (bus3 true 2 idle) 3 63 = 2 ∧ canState (bus3 true 3 onBus) 3 63 = 3 ∧ busUp (bus3 true 2 idle) 3 = true ∧
    ((bus3 true 2 idle).canBus 3).active = none ∧ (bus3 true 2 idle).fld (F.CAN_CTRL.MODE.item 3) ≠ 1 ∧
    txFirst (bus3 true 2 idle) 3 = some 63 ∧ ((bus3 true 3 onBus).canBus 3).active = some 63 ∧
    getAt 63 ((bus3 true 3 onBus).canBus 3).again = none ∧ (bus3 true 3 onBus).fld (F.CAN_CTRL.MODE.item 3) ≠ 2 ∧
    ((bus3 true 3 onBus).canBus 3).abortActive = false ∧ canOneshot (bus3 true 3 onBus) 3 63 = false ∧
    busState (oneshot 0 2) 3 = 2 ∧ (0x40 : Word).getLsbD 6 = true ∧ (oneshot 0 2).flag (F.CAN_CTRL.INIT.item 3) = false ∧
    ((bus3 true 3 onBus).setFld (F.CAN_CTRL.MODE.item 3) 2).fld (F.CAN_CTRL.MODE.item 3) = 2 ∧
    inInit.flag (F.CAN_CTRL.INIT.item 3) = true ∧ (inInit.canBus 3).wasOff = true ∧
    busState (oneshot 0 3) 3 = 3 := by decide +kernel

/-- Transmission and bus-off (R297, R300). -/
theorem test_can_send : canState (after (exec (.txReq true 0x80000000) (bus3 true 0 idle))) 3 63 = 2 ∧
    canState (after (exec (.txReq false 0x80000000) (bus3 true 0 idle))) 3 63 = 0 ∧
    canState (after (exec (.txReq true 0x80000000) (oneshot 0 2))) 3 63 = 6 ∧
    canState (after (exec (.txAbort true 0x80000000) (bus3 true 2 idle))) 3 63 = 7 ∧
    canState (after (exec (.transmissionStart 3) (bus3 true 2 idle))) 3 63 = 3 ∧
    (after (exec (.transmitEnd 3 .success 5) (bus3 true 3 onBus))).outbox =
      [.can 3 63 { can0 with stamp := 5 }] ∧
    (after (exec (.transmitEnd 3 .success 5) ((bus3 true 3 onBus).setFld (F.CAN_CTRL.MODE.item 3) 2))).outbox = [] ∧
    (after (exec (.transmitEnd 3 .error 5) (bus3 true 3 onBus))).fld (F.CAN_STATUS.TEC.item 3) = 8 ∧
    canState (after (exec (.busOff 3) (oneshot 2 0))) 3 63 = 6 ∧
    busState (after (exec (.recover 0x40) (oneshot 2 2))) 3 = 3 ∧ busState (after (exec (.recover 0x20) (oneshot 2 2))) 3 = 3 ∧
    busState (after (exec (.recover 0x01) (oneshot 2 2))) 3 = 4 ∧ busState (after (exec (.recover 0) inInit)) 3 = 2 ∧
    busState (after (exec (.busOffRecovery 3) (oneshot 2 3))) 3 = 0 := by decide +kernel

/-- Line 3 enabled, with FIFOs. -/
def line3 (rx : List (BitVec 16)) (tx : List Byte) : State :=
  let s := sets (ticks stSolo) [(F.PWR_DOM_STATE.STATE.item 60, 2), (F.SER_SEL.LINE, 3), (F.SER_CTRL.EN.item 3, 1)]
  s.setSer 3 { SerSt.idle with rx := rx, tx := tx }

/-- Line 3's domain drains while a character is on the line. -/
def draining : State := sets (line3 [] [7]) [(F.PWR_DOM_STATE.STATE.item 60, 3), (F.SER_STATUS.DRIVING.item 3, 1)]

theorem test_witness_serial : serOn (line3 [] []) 3 = true ∧ (line3 [] []).flag (F.SER_STATUS.BREAK.item 3) = false ∧
    (line3 [] []).flag (F.SER_STATUS.DRIVING.item 3) = false ∧ rx0.falseStart = false ∧
    ((line3 (List.replicate 255 0) []).serLine 3).rx.length < 256 ∧ 256 ≤ ((line3 (List.replicate 256 0) []).serLine 3).rx.length ∧
    serMaySend (line3 [] [7]) 3 = true ∧ ((line3 [] [7]).serLine 3).tx = [7] ∧ (3 : Nat) = (line3 [] []).fld F.SER_SEL.LINE ∧
    rxBreak (line3 [] []) 3 { rx0 with data := 0, stopLow := true } = true ∧ serFinishes draining 3 = true ∧
    (draining.serLine 3).tx = [7] ∧ serMaySend draining 3 = false ∧
    (line3 [] []).fld (F.SER_CFG.PARITY.item 3) = 0 ∧ (line3 [] []).flag (F.SER_CFG.STOP2.item 3) = false ∧
    (line3 [] []).flag (F.SER_CFG.BITS7.item 3) = false ∧
    (line3 [] []).dom (57 + 3) = 2 ∧ (4 : Word).getLsbD 2 = true := by decide +kernel

/-- Characters, FIFOs, driver (R305, R307, R308). -/
theorem test_serial :
    ((after (exec (.receivedCharacter 3 { rx0 with stopLow := true }) (line3 [] []))).serLine 3).rx = [0x241] ∧
    (after (exec (.receivedCharacter 3 rx0) (line3 (List.replicate 256 0) []))).fld (F.SER_ERR.OVERRUN.item 3) = 1 ∧
    (after (exec (.receivedCharacter 3 { rx0 with falseStart := true }) (line3 [] []))).fld (F.SER_ERR.NOISE.item 3) = 1 ∧
    ((after (exec (.idleRequest 3) (line3 [1] []))).serLine 3).idleDone = true ∧
    (after (exec (.characterTransmitted 3) (line3 [] [7]))).outbox =
      [.serial 3 [false, true, true, true, false, false, false, false, false, true]] ∧
    (after (exec (.characterTransmitted 3) draining)).flag (F.SER_STATUS.DRIVING.item 3) = false ∧
    (after (exec (.receivedCharacter 3 { rx0 with data := 0, stopLow := true }) (line3 [] []))).flag
      (F.SER_STATUS.BREAK.item 3) = true ∧
    (after (exec (.driverRelease 3) ((line3 [] []).setFlag (F.SER_STATUS.DRIVING.item 3) true))).flag (F.SER_STATUS.DRIVING.item 3) = false ∧
    (after (exec (.breakEnd 3) ((line3 [] []).setFlag (F.SER_STATUS.BREAK.item 3) true))).flag (F.SER_STATUS.BREAK.item 3) = false ∧
    ((after (exec (.flush 5) (line3 [1] [7]))).serLine 3).tx = [] := by decide +kernel

/-! ## Recorder, power, start-up, tamper, panel -/

/-- An event of a class, code and source. -/
def event (cls code src : Nat) : RawEvent := ⟨5, 0, cls, code, 3, 3, src, [], false, false⟩

/-- A key that tracks this event with a pending count. -/
def keyFor (e : RawEvent) (n : Nat) : CoKey := ⟨e.cls, e.code, e.source, n, e⟩

/-- A record of this event. -/
def recOf (e : RawEvent) : EvRecord := ⟨0, e, 0, 0, false, 0, 0, 0⟩

/-- A recorder with tokens, raised events, tracked keys and a queue of `n` records. -/
def recorder (tokens : Nat) (es : List RawEvent) (ks : List CoKey) (n : Nat) : State :=
  let s := (ticks stSolo).setFld F.EVR_TOKENS.TOKENS tokens
  { s with recorder := { s.recorder with raised := es, keys := ks, queue := List.replicate n (recOf (event 1 1 9)) } }

/-- A module that a supply failure holds in its reset. -/
def heldReset : State := { State.reset with power := { State.reset.power with held := true } }

theorem test_witness_recorder :
    (recorder 1025 [event 1 1 2] [] 63).flag F.EVR_STATUS.SATURATED = false ∧
    (recorder 1025 [event 1 1 2] [] 63).recorder.raised = event 1 1 2 :: [] ∧
    (recorder 1025 [event 1 1 2] [] 63).recorder.keys.any (keyOf (event 1 1 2)) = false ∧
    (recorder 1025 [event 1 1 2] [] 63).recorder.queue.length < 64 ∧
    1024 < (recorder 1025 [event 1 1 2] [] 63).fld F.EVR_TOKENS.TOKENS ∧
    (recorder 9 [event 1 1 2] [keyFor (event 1 1 2) 0] 0).recorder.keys.any (keyOf (event 1 1 2)) = true ∧
    64 ≤ (recorder 9 [event 1 1 2] [] 64).recorder.queue.length ∧
    (recorder 0 [event 0 1 2] [] 0).fld F.EVR_TOKENS.TOKENS = 0 ∧ priorityClass 1 = false ∧
    (recorder 1024 [event 1 1 2] [] 0).fld F.EVR_TOKENS.TOKENS ≤ 1024 ∧
    (recorder 1025 [] [keyFor (event 1 1 2) 0] 0).recorder.keys[0]? = some (keyFor (event 1 1 2) 0) ∧
    (recorder 1025 [] [keyFor (event 1 1 2) 3] 0).recorder.keys[0]? = some (keyFor (event 1 1 2) 3) ∧
    (keyFor (event 1 1 2) 3).pending ≠ 0 ∧ (heldReset).power.held = true ∧ (ticks stSolo).power.held = false := by
  decide +kernel

/-- Admission, coalescing and tokens at their limits (R311, R312). -/
theorem test_recorder :
    (after (exec .recordAdmission (recorder 1025 [event 1 1 2] [] 1))).recorder.queue.length = 2 ∧
    (after (exec .recordAdmission (recorder 1024 [event 1 1 2] [] 1))).recorder.suppressed = 1 ∧
    (after (exec .recordAdmission (recorder 1 [event 0 1 2] [] 1))).fld F.EVR_TOKENS.TOKENS = 0 ∧
    (after (exec .recordAdmission (recorder 9 [event 1 1 2] [keyFor (event 1 1 2) 4] 1))).recorder.keys =
      [keyFor (event 1 1 2) 5] ∧
    (after (exec (.coalesceWindowEnd 0) (recorder 1025 [] [keyFor (event 1 1 2) 3] 0))).recorder.queue.map
      (fun r => (r.rep, r.coalesced)) = [(3, true)] ∧
    (after (exec .tokenGain (recorder 65536 [] [] 0))).fld F.EVR_TOKENS.TOKENS = 65536 ∧
    (after (exec .tokenGain heldReset)).dword A.SKERRY_OPTIME_LO = 0 ∧
    (after (exec .checkpointRecord (recorder 1 [] [] 0))).recorder.raised.map (fun e => (e.cls, e.code)) = [(16, 2)] := by
  decide +kernel

/-- Domain 75 in a state, needed by the image or not, with or without an off request made while it ramps. -/
def domain75 (st : Nat) (needed off : Bool) : State :=
  let s := sets (ticks stSolo) [(F.PWR_DOM_STATE.STATE.item 75, st), (F.PWR_DOM_STATE.NEEDED.item 75, b2n needed),
    (F.PWR_DOM_SEL.DOM, 75)]
  { s with power := { s.power with offAsked := if off then [75] else [] } }

/-- The domains of CAN bus 3, with a frame on it, and of line 3, with characters, drain. -/
def drains56 : State := (sets (ticks stSolo) [(F.PWR_DOM_STATE.STATE.item 56, 3)]).setCan 3 { CanSt.idle with active := some 63 }
def drains60 : State := (sets (ticks stSolo) [(F.PWR_DOM_STATE.STATE.item 60, 3)]).setSer 3 { SerSt.idle with tx := [7], rx := [1] }

theorem test_witness_domains : getBits (0x5AC30001 : Word) 31 16 = 0x5AC3 ∧ (0x5AC30001 : Word).getLsbD 0 = true ∧
    (0x5AC30001 : Word).getLsbD 1 = false ∧ getBits (0x5AC30002 : Word) 31 16 = 0x5AC3 ∧
    (0x5AC30002 : Word).getLsbD 0 = false ∧ (0x5AC30002 : Word).getLsbD 1 = true ∧
    (75 : Nat) = (domain75 2 false false).fld F.PWR_DOM_SEL.DOM ∧ domNeeded (domain75 2 true false) 75 = true ∧
    domNeeded (domain75 2 false false) 75 = false ∧
    (95 : Nat) = (sets State.reset [(F.PWR_DOM_SEL.DOM, 95)]).fld F.PWR_DOM_SEL.DOM ∧
    (∀ st, st < 5 → (domain75 st false false).dom 75 = st) ∧ drains56.dom 56 = 3 ∧ drains60.dom 60 = 3 := by decide +kernel

/-- Requests, ramps, drains and faults (R319, R320). -/
theorem test_domains : (after (exec (.onRequest 0x5AC30001) (domain75 0 false false))).dom 75 = 1 ∧
    (after (exec (.onRequest 0x5AC30001) (domain75 3 false false))).dom 75 = 4 ∧
    (after (exec (.onRequest 0x5AC20001) (domain75 0 false false))).dom 75 = 0 ∧
    (after (exec (.offRequest 0x5AC30002) (domain75 2 false false))).dom 75 = 3 ∧
    (after (exec (.offRequest 0x5AC30002) (domain75 2 true false))).dom 75 = 2 ∧
    (after (exec (.rampComplete 75) (domain75 1 false true))).dom 75 = 3 ∧
    (after (exec (.rampComplete 75) (domain75 1 false false))).dom 75 = 2 ∧
    (after (exec (.drainComplete 75) (domain75 4 false false))).dom 75 = 1 ∧
    ((after (exec (.drainComplete 56) drains56)).canBus 3).active = none ∧
    ((after (exec (.drainComplete 60) drains60)).serLine 3).tx = [] ∧
    (after (exec (.domFault 75) (domain75 3 false false))).dom 75 = 0 := by decide +kernel

/-- The warning was given. -/
def warned : State :=
  let s := ticks stSolo
  { s with power := { s.power with warned := true } }

theorem test_witness_feeds : (1799 : Nat) < 1800 ∧ (1900 : Nat) < 65536 ∧ (ticks stSolo).power.warned = false ∧
    (recorder 5 [] [] 64).recorder.queue.length ≤ 64 ∧ (recorder 5 [] [] 64).power.warned = false ∧
    warned.power.warned = true := by decide +kernel

/-- The feeds at 18.0 V and 19.0 V, and the warning (R321 to R323). -/
theorem test_feeds : (after (exec (.feedLost true 1799) (ticks stSolo))).flag F.PWR_STATUS.FEED_B = false ∧
    (after (exec (.feedLost true 1799) (ticks stSolo))).fld F.PWR_FEED.FEED_B = 1799 ∧
    (after (exec (.feedReturn false 1900) (after (exec (.reset 1) warned)))).power.held = false ∧
    (after (exec (.feedReturn false 1899) (after (exec (.reset 1) warned)))).power.held = true ∧
    (after (exec .supplyFailWarning (recorder 5 [] [] 2))).flag F.PWR_STATUS.FEED_A = false ∧
    (after (exec .supplyFailWarning (recorder 5 [] [] 2))).recorder.queue = [] := by decide +kernel

/-- No tick of a running state has committed four times. -/
def stalled : State :=
  let s := (ticks stSolo).setReg A.TIME_RATE 7
  { s with power := { s.power with noCommit := 4 } }

/-- START at a step after `n` resets of the watchdog; the keys are wrapped; the joint decision is SOLO. -/
def atStep (k n : Nat) : State :=
  let s := sets State.reset [(F.PWR_STATUS.START_STEP, k), (F.SKERRY_STATUS.KEYS, 1)]
  { s with power := { s.power with startResets := n, startAs := some stSolo } }

theorem test_witness_inv_resets : ∀ s ∈ [ticks stSolo, warned, stalled, ticks stSafe, atStep 9 2, atStep 1 3, heldReset],
    Inv s := by
  have h : ∀ s ∈ [ticks stSolo, warned, stalled, ticks stSafe, atStep 9 2, atStep 1 3, heldReset],
    Registers.wf s.regs = true ∧ Memory.wf s.mem = true ∧ s.recorder.queue.length ≤ 64 ∧ s.sessions = [] := by decide +kernel
  exact fun s hs => inv_of (h s hs)

theorem test_witness_resets : warned.power.warned = true ∧ (3 : Nat) < 4 ∧ warned.power.held = false ∧
    getBits (0xE1870001 : Word) 31 16 = 0xE187 ∧ (0xE1870001 : Word).getLsbD 0 = true ∧
    stalled.running = true ∧ (ticks stSafe).running = false ∧ 4 ≤ stalled.power.noCommit ∧
    (atStep 9 2).mode = stStart ∧ stepBounded (atStep 9 2) = true ∧ (atStep 9 2).power.startResets < 3 ∧
    (atStep 9 2).power.held = false ∧ heldReset.power.held = true ∧
    stepBounded (atStep 1 3) = true ∧ 3 ≤ (atStep 1 3).power.startResets := by decide +kernel

/-- What resets give (R324, R325). -/
theorem test_resets : (after (exec (.reset 1) (ticks stSolo))).mode = stSolo ∧
    (after (exec (.reset 1) warned)).power.held = true ∧
    after (exec (.reset 3) heldReset) = heldReset ∧ (after (exec (.reset 0) heldReset)).power.held = true ∧
    after (exec (.pwrReset 0xE1870001) heldReset) = heldReset ∧
    (after (exec .tickWatchdog stalled)).fld F.PWR_STATUS.RESET_KIND = 2 ∧
    (after (exec .tickWatchdog stalled)).reg A.TIME_RATE = 0 ∧
    (after (exec .tickWatchdog (ticks stSolo))).mode = stSolo ∧
    (after (exec (.pwrReset 0xE1870001) (ticks stSafe))).fld F.PWR_STATUS.RESET_KIND = 3 ∧
    (after (exec (.pwrReset 0xE1870001) (ticks stSolo))).power.resetDue = true ∧
    (after (exec .startWatchdog (atStep 1 3))).flag F.PWR_STATUS.START_STUCK = true ∧
    (after (exec .startWatchdog (atStep 1 2))).power.startResets = 3 := by decide +kernel

/-- START at a step with domains 76 to 95 ON. -/
def coresOn (k : Nat) : State :=
  (List.range 20).foldl (fun s i => s.setFld (F.PWR_DOM_STATE.STATE.item (76 + i)) 2) (atStep k 0)

theorem test_witness_start_up : (atStep 2 0).mode = stStart ∧ (atStep 2 0).power.held = false ∧
    (atStep 2 0).flag F.PWR_STATUS.START_STUCK = false ∧ (∀ k, k < 10 → (atStep k 0).fld F.PWR_STATUS.START_STEP = k) ∧
    strapsEven { start0 with strapP := true } = true ∧ strapsEven { start0 with strapP := false } = false ∧
    (∀ d, 76 ≤ d → d < 96 → (atStep 2 0).dom d = 0) ∧ (∀ d, 76 ≤ d → d < 96 → (coresOn 3).dom d = 2) ∧
    (coresOn 3).mode = stStart ∧ (coresOn 3).fld F.PWR_STATUS.START_STEP = 3 ∧ (atStep 8 0).flag F.SYS_SLOT.PARTNER_PRESENT = false ∧
    (atStep 9 0).power.startAs = some stSolo ∧ (atStep 9 0).epoch < 0xFFFFFF ∧
    (atStep 9 0).fld F.SKERRY_STATUS.KEYS = 1 := by decide +kernel

/-- Steps 2, 7, 8 and 9 (R32, R158, R326). -/
theorem test_start_up : (after (exec (.startStep start0) (atStep 2 0))).fld F.SYS_SLOT.SLOT = 2 ∧
    (after (exec (.startStep { start0 with strapP := false }) (atStep 2 0))).fld F.PWR_STATUS.START_STEP = 2 ∧
    (after (exec (.startStep { start0 with strapP := true }) (atStep 2 0))).dom 95 = 1 ∧
    (after (exec (.startStep { start0 with clock := 65536 }) (coresOn 3))).now = 2000000000 ∧
    (after (exec (.startStep start0) (atStep 3 0))).fld F.PWR_STATUS.START_STEP = 3 ∧
    (after (exec (.startStep start0) (atStep 7 0))).fld F.PWR_STATUS.START_STEP = 7 ∧
    (after (exec (.startStep start0) (atStep 8 0))).power.startAs = some stSolo ∧
    (after (exec (.startStep start0) (atStep 9 0))).mode = stSolo ∧
    (after (exec (.startStep start0) (atStep 9 0))).epoch = 1 := by decide +kernel

/-- Two sensors are live. -/
def twoLive : State := (ticks stSolo).setFld F.SKERRY_STATUS.LIVE 0x21

/-- Skerry generates keys. -/
def rekeying : State :=
  let s := (ticks stSolo).setFlag F.SYS_STATE.TAMPERED true
  { s with skerry := { s.skerry with rekeying := true } }

/-- ENTER has been held for 3 s in the RE-KEY menu. -/
def inMenu : State := { ticks stSolo with panel := { (ticks stSolo).panel with menu := .reKey, enterHeld := 301 } }

theorem test_witness_tamper : (5 : Nat) < 6 ∧ (ticks stSolo).power.held = false ∧ (ticks stSolo).running = true ∧
    (atStep 8 0).power.held = false ∧ (atStep 8 0).mode = stStart ∧ (atStep 8 0).fld F.PWR_STATUS.START_STEP ≠ 9 ∧
    (twoLive.fld F.SKERRY_STATUS.LIVE).testBit 5 = true ∧ (ticks stSolo).mode ≠ stTamperHold ∧
    inMenu.panel.menu = .reKey ∧ 301 ≤ inMenu.panel.enterHeld ∧ inMenu.mode ≠ stTamperHold ∧ inMenu.power.held = false ∧
    (ticks stSolo).panel.menu ≠ .reKey ∧ rekeying.skerry.rekeying = true := by decide +kernel

/-- A sensor fires and clears; re-keying (R331, R332). -/
theorem test_tamper : (after (exec (.tamper 5 7) (ticks stSolo))).fld F.SKERRY_TAMPER.MOMENT = 1 ∧
    (after (exec (.tamper 5 7) (ticks stSolo))).tampered = true ∧
    (after (exec (.tamper 5 7) (atStep 8 0))).mode = stTamperHold ∧
    (after (exec (.tamper 5 7) rekeying)).fld F.SKERRY_TAMPER.MOMENT = 3 ∧
    (after (exec (.tamperSensorCleared 5) twoLive)).fld F.SKERRY_STATUS.LIVE = 1 ∧
    (after (exec (.reKeyingDone [9]) rekeying)).tampered = false ∧
    (after (exec (.reKeyingDone [9]) ((ticks stSolo).setFlag F.SYS_STATE.TAMPERED true))).tampered = true ∧
    (after (exec .reKey inMenu)).skerry.rekeying = true ∧ (after (exec .reKey (ticks stSolo))).skerry.rekeying = false := by decide +kernel

/-- A key with a baseline of 100 counts after two scans at 40 above it; a key at the end of a capture of 15 times 100. -/
def keyHi : KeySt := ⟨1600, 0, 0, 2, 0, 0, false, 0, false⟩
def keyCapture : KeySt := ⟨0, 1, 1500, 0, 0, 0, false, 0, false⟩

/-- A panel whose keys `is` are `k`, in a menu where ENTER has been held for `n` scans. -/
def panel (k : KeySt) (is : List Nat) (m : PanelMenu) (n : Nat) : State :=
  let s := ticks stSolo
  { s with panel := { s.panel with
    keys := (List.range 6).map (fun i => if is.contains i then k else ⟨1600, 0, 0, 0, 0, 0, false, 0, false⟩),
    menu := m, enterHeld := n, pendingAddr := some svc0 } }

/-- ENTER stays touched in the RESET menu. -/
def holdsEnter (n : Nat) : State :=
  (panel { keyHi with hi := 3, touched := true } [4] .reset n).setFld F.PANEL_KEYS.TOUCHED 16

theorem test_witness_panel : (panel keyHi [0] .line 0).panel.keys.length = 6 ∧ [140, 100, 100, 100, 100, 100].length = 6 ∧
    (panel keyHi [0] .line 0).panel.keys[0]? = some keyHi ∧ [140, 100, 100, 100, 100, 100][0]? = some 140 ∧
    keyHi.capture = 0 ∧ keyHi.blocked = false ∧ 640 ≤ 16 * ((140 : Nat) : Int) - keyHi.base ∧ keyHi.hi = 2 ∧
    keyHi.held < 2000 ∧ (panel keyCapture [5] .line 0).panel.keys[5]? = some keyCapture ∧ keyCapture.capture = 1 ∧
    svc0.pfx4 < 256 ∧ svc0.pfx6 < 256 ∧ (panel keyHi [0] .service 301).flag F.PANEL_CTRL.LOCK = false ∧
    (panel keyHi [0] .service 301).panel.menu = .service ∧ 301 ≤ (panel keyHi [0] .service 301).panel.enterHeld ∧
    (holdsEnter 300).panel.menu = .reset ∧ (holdsEnter 300).panel.enterHeld = 300 ∧
    (holdsEnter 300).fld F.PANEL_KEYS.TOUCHED = 16 ∧ (holdsEnter 300).running = true ∧
    (holdsEnter 300).power.held = false ∧ (holdsEnter 300).panel.keys.length = 6 ∧
    (after (exec (.keyScan [100, 100, 100, 100, 140, 100]) (holdsEnter 300))).fld F.PANEL_KEYS.TOUCHED = 16 ∧
    (∀ j, j < 6 → ((panel keyHi [j] (.list 1) 0).fld F.PANEL_KEYS.TOUCHED).testBit j = false ∧
      (after (exec (.keyScan ((List.range 6).map (fun i => if i = j then 140 else 100))) (panel keyHi [j] (.list 1) 0))).fld
        F.PANEL_KEYS.TOUCHED = 2 ^ j) ∧
    (panel keyHi [0] .line 0).panel.pendingAddr = some svc0 := by decide +kernel

/-- Keys, the menus, the service port (R334 to R336). -/
theorem test_panel :
    (after (exec (.keyScan [140, 100, 100, 100, 100, 100]) (panel keyHi [0] .line 0))).fld F.PANEL_KEYS.TOUCHED = 1 ∧
    (after (exec (.keyScan [139, 100, 100, 100, 100, 100]) (panel keyHi [0] .line 0))).fld F.PANEL_KEYS.TOUCHED = 0 ∧
    (after (exec (.keyScan [100, 100, 100, 100, 100, 140]) (panel keyHi [5] (.trim 3) 0))).panel.menu = .list 1 ∧
    (after (exec (.keyScan [100, 100, 100, 100, 140, 100]) (panel keyHi [4] (.list 2) 0))).panel.menu = .service ∧
    (after (exec (.keyScan [100, 100, 100, 100, 140, 100])
      ((panel keyHi [4] (.list 2) 0).setFlag F.PANEL_CTRL.LOCK true))).panel.menu = .list 2 ∧
    (after (exec (.keyScan [140, 100, 100, 100, 100, 100]) (panel keyHi [0] (.list 0) 0))).panel.menu = .list 4 ∧
    (after (exec (.keyScan [100, 100, 100, 100, 140, 100]) (holdsEnter 299))).power.resetDue = false ∧
    (after (exec (.keyScan [100, 100, 100, 100, 140, 100]) (holdsEnter 300))).power.resetDue = true ∧
    (after (exec (.keyScan [140, 140, 100, 100, 100, 100]) (panel keyHi [0, 1] .line 0))).fld F.PANEL_KEYS.TOUCHED = 0 ∧
    (after (exec (.keyScan [100, 100, 100, 100, 100, 100]) (panel keyCapture [5] .line 0))).panel.keys[5]?.map (fun k => k.base) =
      some 1600 ∧
    (after (exec .menuTimeout (panel keyHi [0] .status 0))).panel.menu = .line ∧
    (after (exec (.service svc0) { panel keyHi [0] .service 301 with
      panel := { (panel keyHi [0] .service 301).panel with pendingAddr := none } })).panel.pendingAddr = some svc0 ∧
    (after (exec (.service svc0) (panel keyHi [0] .service 300))).panel.enterHeld = 300 ∧
    (after (exec .serviceAddressApply (panel keyHi [0] .line 0))).fld F.PANEL_SVC_PFX.IP4 = 24 := by decide +kernel

/-! ## Time, delays, triggers, captures -/

/-- Port 15 is a boundary clock and a candidate of rank 1 with samples so far; the counter and the reference as set. -/
def clockOf (m : Nat) (xs : List (Fld × Nat)) (acq : List Int) : State :=
  let s := sets ((ticks m).setNow 1000 0) ([(F.TIME_PORT_CFG.ROLE.item 14, 1), (F.TIME_CTRL.JUMP, 1)] ++ xs)
  { s with time := { s.time with cands := [(15, 1)], acq := acq } }

/-- Fifteen samples that lie within 1 µs of 0. -/
def samples15 : List Int := 256000 :: List.replicate 14 0

/-- The time is acquired from port 15. -/
def acquired15 : State := clockOf stSolo [(F.TIME_STATUS.ACQUIRED, 1), (F.TIME_STATUS.REF, 15)] []

/-- The Skerry clock is valid and the image permits a free start. -/
def freeStarting : State :=
  let s := clockOf stStart [] []
  { s with image := some image0, skerry := { s.skerry with clockValid := true } }

/-- The same beside a partner in a module state. -/
def startsBeside (m : Nat) : State :=
  let s := freeStarting.setFlag F.SYS_SLOT.PARTNER_PRESENT true
  { s with pair := { s.pair with status := some { stat0 with state := m } } }

theorem test_witness_partners : (∀ m ∈ [stSafe, stTamperHold, stStart], (startsBeside m).parity = 0 ∧
      (startsBeside m).pair.status = some { stat0 with state := m } ∧ (startsBeside m).mode = stStart ∧
      (startsBeside m).image = some image0 ∧ (startsBeside m).acquired = false ∧ (startsBeside m).skerry.clockValid = true ∧
      (m ≠ stStart → (after (exec .freeStart (startsBeside m))).acquired = true)) ∧
    (∀ m ∈ [2, 3, 4], 2 ≤ m ∧ m ≤ 4 ∧ (startsBeside m).flag F.SYS_SLOT.PARTNER_PRESENT = true ∧
      after (exec .freeStart (startsBeside m)) = startsBeside m) := by decide +kernel

theorem test_witness_time : (15 : Nat) < 16 ∧ (255 : Nat) < 256 ∧ ptpRole (clockOf stStart [] samples15) 15 = 1 ∧
    (rankOf (clockOf stStart [] samples15).time 15).isSome = true ∧ (clockOf stStart [] samples15).acquired = false ∧
    (clockOf stStart [] samples15).mode = stStart ∧
    (bestCand (clockOf stStart [] samples15).time).map Prod.fst = some 15 ∧
    (clockOf stStart [] samples15).time.acq.length = 15 ∧
    within1us ((0 : Int) :: (clockOf stStart [] samples15).time.acq) = true ∧ acquired15.acquired = true ∧
    ptpRole acquired15 15 = 1 ∧ (rankOf acquired15.time 15).isSome = true ∧
    (15 : Nat) = acquired15.fld F.TIME_STATUS.REF ∧ refLost acquired15 = false ∧
    (256000 : Int).natAbs ≤ (jumpLimit acquired15).natAbs ∧ (jumpLimit acquired15).natAbs < (256001 : Int).natAbs ∧
    acquired15.time.refused < 15 ∧ freeStarting.image = some image0 ∧ image0.freeStart = true ∧
    freeStarting.mode = stStart ∧ freeStarting.acquired = false ∧ freeStarting.skerry.clockValid = true ∧
    freeStarting.flag F.SYS_SLOT.PARTNER_PRESENT = false ∧ freeStarting.fld F.TIME_STATUS.SWITCH = 0 ∧
    acquired15.flag F.TIME_STATUS.HOLDOVER = false := by decide +kernel

/-- Acquisition and refusal at their limits, the Skerry clock (R174, R176, R177). -/
theorem test_time :
    (after (exec (.offsetSample 15 0 77 3) (clockOf stStart [] samples15))).now = 77 ∧
    (after (exec (.offsetSample 15 (-1) 77 3) (clockOf stStart [] samples15))).acquired = false ∧
    (after (exec (.offsetSample 15 256001 77 3) acquired15)).flag F.TIME_EVENT.JUMP_REFUSED = true ∧
    (after (exec (.offsetSample 15 (-256000) 77 3) acquired15)).time.samples = 1 ∧
    (after (exec .freeStart freeStarting)).fld F.TIME_STATUS.ACQ_SRC = 2 ∧
    (after (exec .skerryClockSet (acquired15.setNow 1000000000 0))).skerry.clock = 32768 := by decide +kernel

/-- As `acquired15`, with another reference state: field values, and the pending switch's judgement. -/
def switching15 (xs : List (Fld × Nat)) (f : TimeSt → TimeSt) : State :=
  let s := clockOf stSolo ([(F.TIME_STATUS.ACQUIRED, 1), (F.TIME_STATUS.REF, 15), (F.TIME_PORT_CFG.ROLE.item 0, 1)] ++ xs) []
  { s with time := f s.time }

def qualified1 : State := switching15 [(F.TIME_STATUS.SWITCH, 1), (F.TIME_STATUS.PEND, 1)] (fun t => { t with qualified := true })
def lost15 : State := switching15 [] (fun t => { t with holdoverDue := some 2, lastRef := 15 })
def heldOff : State := switching15 [(F.TIME_STATUS.SWITCH, 2), (F.TIME_STATUS.PEND, 1)] id

theorem test_witness_references : ptpRole (switching15 [] id) 1 = 1 ∧
    bestCand { (switching15 [] id).time with cands := putAt 1 0 (switching15 [] id).time.cands } = some (1, 0) ∧
    (switching15 [] id).acquired = true ∧ (switching15 [] id).fld F.TIME_STATUS.SWITCH = 0 ∧
    refLost (switching15 [] id) = false ∧ (1 : Nat) ≠ (switching15 [] id).fld F.TIME_STATUS.REF ∧
    rankBetter 0 (rankOf (switching15 [] id).time ((switching15 [] id).fld F.TIME_STATUS.REF)) = true ∧
    (switching15 [] id).time.cameDown = false ∧ (rankOf (switching15 [] id).time 15).isSome = true ∧
    heldOff.fld F.TIME_STATUS.SWITCH = 2 ∧ qualified1.ticking = true ∧ qualified1.fld F.TIME_STATUS.SWITCH = 1 ∧
    qualified1.time.qualified = true ∧ qualified1.time.holdoverDue = none ∧ lost15.ticking = true ∧
    lost15.time.holdoverDue = some 2 ∧ lost15.time.qualified = false := by decide +kernel

/-- Selection of references (R179 to R181). -/
theorem test_references :
    (after (exec (.announceMessage 1 ⟨0⟩) (switching15 [] id))).fld F.TIME_STATUS.PEND = 1 ∧
    (after (exec (.announceMessage 1 ⟨1⟩) (switching15 [] id))).fld F.TIME_STATUS.SWITCH = 0 ∧
    (after (exec (.referenceLost 15 2) (switching15 [] id))).time.holdoverDue = some 2 ∧
    (after (exec .holdoffExpiry heldOff)).fld F.TIME_STATUS.SWITCH = 1 ∧
    (after (exec .timeReferenceSwitchCommit qualified1)).fld F.TIME_STATUS.REF = 1 ∧
    (after (exec .timeReferenceSwitchCommit lost15)).flag F.TIME_STATUS.HOLDOVER = true ∧
    (after (exec .timeReferenceSwitchCommit (switching15 [] id))).fld F.TIME_STATUS.REF = 15 := by decide +kernel

/-- Ports 1 and 15 are transparent clocks; port 15 sends 1 ns late. -/
def transparent : State := sets (ticks stSolo) [(F.TIME_PORT_CFG.ROLE.item 0, 2), (F.TIME_PORT_CFG.ROLE.item 14, 2),
  (F.TIME_PORT_ASYM_OUT.ASYM.item 14, 256)]

/-- Station 3 of ring 2 has a slot and its stamps, or none. -/
def ringDelay (m : Nat) (ys : List (Nat × Int × Int × Int × Int)) : State :=
  let s := ticks m
  { s with image := some { image0 with stations := [⟨2, 3, 0, 0, 0, 0, 0, 64, 1, [], 0, 5, [], [], []⟩] },
           time := { s.time with stamps := ys } }

def ends : List StationStamps := [⟨64, some (0, 100, 700, 0)⟩]

theorem test_witness_residence : ptpRole transparent 1 = 2 ∧ ptpRole transparent 15 = 2 ∧
    ({ ptp0 with inPort := 1, outPort := 15 } : PtpEvent).domain = transparent.fld F.TIME_PTP.DOMAIN ∧
    ptpRole transparent 2 = 0 ∧ (ringDelay stPrimary []).running = true ∧
    (∃ x ∈ ringStations (ringDelay stPrimary []) 2, x.slotStart ≠ 0 ∧
      getAt (2 * 64 + x.station) (ringDelay stPrimary []).time.stamps = none) ∧
    ringStations (ringDelay stPrimary [(131, 300, 400, 500, 600)]) 2 = [⟨2, 3, 0, 0, 0, 0, 0, 64, 1, [], 0, 5, [], [], []⟩] ∧
    getAt (2 * 64 + 3) (ringDelay stPrimary [(131, 300, 400, 500, 600)]).time.stamps = some (300, 400, 500, 600) ∧
    endStamps ends 64 = some (0, 100, 700, 0) ∧ (ringDelay stPrimary []).mode = stPrimary ∧
    (ringDelay stPrimary []).parity = 0 ∧ getAt (2 * 64 + 3) (ringDelay stPrimary []).time.delays = none := by
  decide +kernel

/-- A two-step Sync from port 1 to port 15. -/
def twoStep1 : PtpEvent :=
  { ptp0 with inPort := 1, outPort := 15, twoStep := true, rx := 10, tx := 30, correction := 4, followUp := 5 }

/-- Residence and delays (R183, R184, R187): (300 − 100 + 700 − 600) / 2 + 5 = 155. -/
theorem test_residence :
    (after (exec (.ptpEventMessage { ptp0 with inPort := 1, outPort := 15, rx := 10, tx := 30, correction := 4 }) transparent)).outbox =
      [.ptp 15 .sync false 280] ∧
    (after (exec (.ptpEventMessage twoStep1) transparent)).outbox = [.ptp 15 .sync true 281, .ptp 15 .sync false 4] ∧
    (after (exec (.ptpEventMessage { ptp0 with inPort := 2 }) transparent)).fld (F.NET_PORT_DISC.PTP_OPT.item 2) = 1 ∧
    getAt 131 (after (exec (.ringDelayUpdate 2 ends) (ringDelay stPrimary [(131, 300, 400, 500, 600)]))).time.delays =
      some (some 155, none) ∧
    (after (exec (.ringDelayUpdate 2 ends) (ringDelay stPrimary []))).flag F.TIME_EVENT.RING_DELAY_STALE = true := by
  decide +kernel

/-- Trigger 63 at an instant, in a mode, with target 80h and period 2,000 ns; capture unit 31 of source 80h takes a
rising edge. -/
def trigger63 (mode st : Nat) (t : DWord) (news : Nat) : State :=
  let s := sets ((ticks stSolo).setNow 1000 0) [(F.TIME_TRIG_CTRL.MODE.item 63, mode), (F.TIME_TRIG_CTRL.STATE.item 63, st),
    (F.TIME_TRIG_CTRL.TARGET.item 63, 0x80), (F.TIME_CAP_CTRL.SOURCE.item 31, 0x80), (F.TIME_CAP_CTRL.EDGE.item 31, 1),
    (F.TIME_CAP_CTRL.NEW.item 31, news)]
  let s := (s.setDword (itemKey A.TIME_TRIG_T_LO 63) t).setReg (itemKey A.TIME_TRIG_PERIOD 63) 2000
  { s with time := { s.time with trigNext := [(63, t)] } }

/-- Capture unit 31 takes digital channel 31, of a filter. -/
def digitalCapture : State :=
  sets (trigger63 0 1 1000 0) [(F.TIME_CAP_CTRL.SOURCE.item 31, 0x5F), (F.DIO_CH_CFG.FILT.item 31, 2)]

theorem test_witness_triggers : (0x8001 : Word).getLsbD 0 = true ∧ (0x8000 : Word).getLsbD 0 = false ∧
    getBits (0x8001 : Word) 2 1 = 0 ∧ trigTarget (getBits (0x8001 : Word) 15 8) = true ∧
    behindNow (trigger63 0 0 1000 0) (trigT (trigger63 0 0 1000 0) 63) ≤ 0 ∧
    0 < behindNow (trigger63 0 0 999 0) (trigT (trigger63 0 0 999 0) 63) ∧
    0 < behindNow ((trigger63 0 0 1000 0).setNow 1000 1) (trigT (trigger63 0 0 1000 0) 63) ∧
    getAt 63 (trigger63 0 1 1000 0).time.trigNext = some 1000 ∧
    (∀ m, m < 2 → (trigger63 m 1 1000 0).fld (F.TIME_TRIG_CTRL.STATE.item 63) = 1 ∧
      (trigger63 m 1 1000 0).fld (F.TIME_TRIG_CTRL.TARGET.item 63) = 0x80 ∧
      (trigger63 m 1 1000 0).fld (F.TIME_TRIG_CTRL.MODE.item 63) = m) ∧
    (0x40 ≤ (digitalCapture.fld (F.TIME_CAP_CTRL.SOURCE.item 31)) ∧
      digitalCapture.fld (F.TIME_CAP_CTRL.SOURCE.item 31) ≤ 0x5F ∧
      capEdge (digitalCapture.fld (F.TIME_CAP_CTRL.EDGE.item 31)) true = true ∧ captureDelay digitalCapture 0x5F = 100000) ∧
    capSource ((trigger63 0 1 1000 0).fld (F.TIME_CAP_CTRL.SOURCE.item 31)) = true ∧
    capEdge ((trigger63 0 1 1000 0).fld (F.TIME_CAP_CTRL.EDGE.item 31)) true = true ∧
    (trigger63 0 1 1000 1).flag (F.TIME_CAP_CTRL.NEW.item 31) = true := by decide +kernel

/-- Triggers and captures (R189 to R192). -/
theorem test_triggers :
    (after (exec (.triggerArm 63 0x8001) (trigger63 0 0 1000 0))).fld (F.TIME_TRIG_CTRL.STATE.item 63) = 1 ∧
    (after (exec (.triggerArm 63 0x8001) (trigger63 0 0 999 0))).fld (F.TIME_TRIG_CTRL.STATE.item 63) = 3 ∧
    (after (exec (.triggerArm 63 0x8000) (trigger63 0 1 1000 0))).fld (F.TIME_TRIG_CTRL.STATE.item 63) = 0 ∧
    (after (exec (.triggerFire 63) (trigger63 0 1 1000 0))).fld (F.TIME_TRIG_CTRL.STATE.item 63) = 2 ∧
    getAt 63 (after (exec (.triggerFire 63) (trigger63 1 1 1000 0))).time.trigNext = some 3000 ∧
    (after (exec (.capture 31 5 255 true) (trigger63 0 1 1000 0))).fld (F.TIME_CAP_T_FRAC.FRAC.item 31) = 255 ∧
    (after (exec (.capture 31 200000 0 true) digitalCapture)).dword (itemKey A.TIME_CAP_T_LO 31) = 100000 ∧
    (after (exec (.capture 31 5 255 false) (trigger63 0 1 1000 0))).fld (F.TIME_CAP_T_FRAC.FRAC.item 31) = 0 ∧
    (after (exec (.capture 31 5 255 true) (trigger63 0 1 1000 1))).flag F.TIME_EVENT.CAP_OVERRUN = true := by
  decide +kernel

/-! ## The whole machine -/

/-- Two commands wait. -/
def twoWait : State := { ticks stSolo with pending := [.menuTimeout, .tokenGain] }

theorem test_witness_step : twoWait.pending = .menuTimeout :: [.tokenGain] ∧ State.reset.pending = [] ∧
    (mayWriteMemory .menuTimeout = false ∧ Instr.menuTimeout ≠ .guardSetApply) ∧
    aidonStoresNothing (.nop 0 up0) = some (0, up0) ∧
    (∀ k ∈ currentTask (runs (.nop 0 up0) regs5) 0, MembersAgree (runs (.nop 0 up0) regs5) 0 k up0) ∧
    step twoWait = .next (after (step twoWait)) ∧ exec .menuTimeout twoWait = .next (after (exec .menuTimeout twoWait)) :=
  ⟨rfl, rfl, by decide +kernel, rfl, by unfold MembersAgree; decide +kernel, rfl, rfl⟩

/-- The state after reset has the forms that the invariant asks for. -/
theorem test_witness_inv : Inv State.reset ∧ Inv twoWait := ⟨inv_of (by decide +kernel), inv_of (by decide +kernel)⟩

/-- A step takes the front command; the empty queue idles. -/
theorem test_step : (after (step twoWait)).pending = [.tokenGain] ∧ after (step State.reset) = State.reset ∧
    (after (step (after (step twoWait)))).fld F.EVR_TOKENS.TOKENS = min 65536 (twoWait.fld F.EVR_TOKENS.TOKENS + 1) := by
  decide +kernel

end Sys2Proof.Tests
end

section
/-! SUPPORT. What reset leaves: a register reads its reset value, an item's copy that of its register. -/

namespace Sys2Proof.Machine

open Sys2Proof

/-- After reset a register reads its reset value (R5). -/
theorem State.reg_reset (k : Nat) : State.reset.reg k = resetValue k := rfl

/-- The address part of an item's key. -/
theorem itemKey_mod {a : Nat} (i : Nat) (ha : a < 0x1000000) : itemKey a i % 0x1000000 = a := by
  rw [itemKey, Nat.mul_add_mod_self_right, Nat.mod_eq_of_lt ha]

/-- Every item's copy of a register has the reset value of the register, but for the priorities of channels 28 and 29
(R243). -/
theorem resetValue_itemKey {a : Nat} (i : Nat) (ha : a < 0x1000000) (hp : a ≠ A.XFER_CH_CTRL) :
    resetValue (itemKey a i) = resetValue a := by
  have hn (p : Prop) : ¬ (a = A.XFER_CH_CTRL ∧ p) := fun h => hp h.1
  unfold resetValue
  rw [itemKey_mod i ha, Nat.mod_eq_of_lt ha, if_neg (hn _), if_neg (hn _)]

/-- After reset a field reads the same for every item. -/
theorem State.fld_reset_item (f : Fld) (i : Nat) (ha : f.reg < 0x1000000) (hp : f.reg ≠ A.XFER_CH_CTRL) :
    State.reset.fld (f.item i) = State.reset.fld f := by
  unfold State.fld
  rw [State.reg_reset, State.reg_reset, resetValue_itemKey i ha hp]

/-- The module after reset has its registers and memory in canonical form and its queues empty. -/
theorem inv_reset : Inv State.reset := ⟨rfl, rfl, Nat.zero_le _, fun _ => Nat.zero_le _⟩

/-- After reset every session slot is free. -/
theorem sessState_reset (k : Nat) : sessState State.reset k = 0 :=
  State.fld_reset_item F.CMD_SESS_STATE.STATE k (by decide) (by decide)

/-- After reset every power domain is OFF (R318). -/
theorem dom_reset (d : Nat) : State.reset.dom d = 0 :=
  State.fld_reset_item F.PWR_DOM_STATE.STATE d (by decide) (by decide)

/-- After reset every transfer channel is IDLE. -/
theorem chState_reset (c : Nat) : chState State.reset c = chIdle :=
  State.fld_reset_item F.XFER_CH_STATUS.STATE c (by decide) (by decide)

/-- Settles O56: every register reads its reset value, and the copies of all items read alike. -/
theorem resetIsAsTheSpecSays : Obligations.ResetIsAsTheSpecSays := by
  unfold Obligations.ResetIsAsTheSpecSays
  refine ⟨inv_reset, rfl, rfl, rfl, rfl, rfl, rfl, rfl, rfl, rfl, fun k _ => sessState_reset k, fun d _ => dom_reset d,
    fun c _ => chState_reset c, rfl, rfl, rfl⟩

end Sys2Proof.Machine
end

section
/-! SUPPORT. What a read sees once something is latched, and what moving the clock, sending on the Strait and reading a
low word leave as they were. -/

namespace Sys2Proof.Machine

open Sys2Proof

variable (s : State)

/-- The latch that was set last is read back. -/
@[simp] theorem State.latched_latch_same (who : Requester) (a : Nat) (v live : Word) :
    (s.latch who a v).latched who a live = v := by
  simp [State.latch, State.latched]

/-- A latch of one high word leaves the latches of the others. -/
theorem State.latched_latch_other (who : Requester) {a b : Nat} (v live : Word) (h : a ≠ b) :
    (s.latch who b v).latched who a live = s.latched who a live := by
  have kept (l : Requester × Nat × Word) :
      decide ((!(l.1 == who && l.2.1 == b)) = true ∧ (l.1 == who && l.2.1 == a) = true) =
        (l.1 == who && l.2.1 == a) := by
    rw [Bool.eq_iff_iff]
    by_cases hl : l.2.1 = a
    · simp [hl, h]
    · simp [hl]
  have new : (b == a) = false := by simpa using h.symm
  simp only [State.latch, State.latched, List.find?_cons, new, Bool.and_false, List.find?_filter, kept]

/-- What a requester sees in a latch depends on the latches alone. -/
theorem State.latched_congr {s t : State} (h : t.latches = s.latches) (who : Requester) (a : Nat) (live : Word) :
    t.latched who a live = s.latched who a live := by
  rw [State.latched, h, State.latched]

/-- Setting a pair leaves every other register. -/
theorem State.reg_setDword_other {a k : Nat} (v : DWord) (hl : k ≠ a) (hh : k ≠ a + 4) :
    (s.setDword a v).reg k = s.reg k := by
  rw [State.setDword, State.reg_setReg_other _ _ hh, State.reg_setReg_other _ _ hl]

/-- Moving the clock changes the registers of TIME_NOW alone. -/
theorem State.reg_at_other (off : Nat) {k : Nat} (h : k ∉ [A.TIME_NOW_LO, A.TIME_NOW_HI, A.TIME_NOW_FRAC]) :
    (s.at off).reg k = s.reg k := by
  obtain ⟨hl, hh, hf⟩ : k ≠ A.TIME_NOW_LO ∧ k ≠ A.TIME_NOW_HI ∧ k ≠ A.TIME_NOW_FRAC := by simpa using h
  rw [State.at, State.setNow, State.reg_setFld_other _ _ hf, State.reg_setDword_other _ _ hl hh]

/-- Moving the clock leaves every item's copy of a register outside TIME_NOW. -/
theorem State.reg_at_item (off : Nat) {a : Nat} (i : Nat) (ha : a < 0x1000000)
    (h : a ∉ [A.TIME_NOW_LO, A.TIME_NOW_HI, A.TIME_NOW_FRAC]) :
    (s.at off).reg (itemKey a i) = s.reg (itemKey a i) := by
  refine State.reg_at_other s off fun hm => h ?_
  have clock : ∀ k ∈ [A.TIME_NOW_LO, A.TIME_NOW_HI, A.TIME_NOW_FRAC], k % 0x1000000 = k := by decide
  rwa [← itemKey_mod i ha, clock _ hm]

/-- Moving the clock within a tick leaves the tick number. -/
@[simp] theorem State.tick_at (off : Nat) : (s.at off).tick = s.tick := by
  unfold State.tick State.dword
  rw [State.reg_at_other s off (by decide), State.reg_at_other s off (by decide)]

/-- Setting a field leaves a flag of another register, or one that shares no bit with it. -/
theorem State.flag_setFld_other (f g : Fld) (v : Nat) (h : g.reg ≠ f.reg ∨ g.hi < f.lo ∨ f.hi < g.lo) :
    (s.setFld f v).flag g = s.flag g := by
  rw [State.flag, State.fld_setFld_other s f g v h, State.flag]

/-- A Strait message changes no register and no forwarded write. -/
theorem State.straitOn_keeps_fwd (l type sub : Nat) (vals : List Nat) (bytes : List Byte) :
    (s.straitOn l type sub vals bytes).regs = s.regs ∧ (s.straitOn l type sub vals bytes).pair.fwd = s.pair.fwd := by
  unfold State.straitOn State.straitFor
  split <;> exact ⟨rfl, rfl⟩

/-- What each step of a fold leaves as it was, the fold does. -/
theorem foldl_frame {α β : Type} (p : State → β) (f : State → α → State) (h : ∀ t x, p (f t x) = p t) (xs : List α) :
    p (xs.foldl f s) = p s := by
  induction xs generalizing s with
  | nil => rfl
  | cons x xs ih => rw [List.foldl_cons, ih, h]

/-- Clearing what a read clears changes no latch. -/
theorem clearRead_latches (a : Nat) (r : RegDesc) (lo n : Nat) : (clearRead s a r lo n).latches = s.latches := by
  refine foldl_frame s State.latches _ (fun t f => ?_) r.fields
  split <;> rfl

/-- Of the words of a CAN message buffer only that of the stamp is the low word of a pair (R298). -/
theorem word_of_canBufferReg_low {w : Nat} {r : RegDesc} (h : canBufferReg w = some r) (hl : r.low = true) : w = 4 := by
  unfold canBufferReg at h
  split at h
  case h_5 => rfl
  case h_8 =>
    split at h
    · obtain rfl := Option.some.inj h
      cases hl
    · cases h
  all_goals
    obtain rfl := Option.some.inj h
    cases hl

/-- A low word is neither HEAD nor TAIL of a CAN message buffer, whose reads act on its lock (R299). -/
theorem canRead_of_low {a : Nat} {r : RegDesc} (hr : regAt a = some r) (hl : r.low = true) : canRead s a = s := by
  unfold canRead
  dsimp only
  split
  case isFalse => rfl
  case isTrue h =>
    obtain ⟨hb, ho⟩ := h
    have stamp : a % 65536 % 4 = 0 → a % 65536 % 0x80 / 4 = 4 := by
      intro h4
      unfold regAt at hr
      rw [if_neg (by omega), if_pos ⟨hb, ho, h4⟩] at hr
      exact word_of_canBufferReg_low hr hl
    rw [if_neg (by omega), if_neg (by omega)]

end Sys2Proof.Machine
end

section
/-! SUPPORT. Guard sets: the shadow regions copied, and when an apply copies them. -/

namespace Sys2Proof.Machine

open Sys2Proof

/-- Moving the clock leaves the shadow regions. -/
theorem shadowRegion_at (s : State) (off req r : Nat) : shadowRegion (s.at off) req r = shadowRegion s req r := by
  simp only [shadowRegion, State.reg_at_item s off (a := A.GUARD_BASE_LO) _ (by decide) (by decide),
    State.reg_at_item s off (a := A.GUARD_BASE_HI) _ (by decide) (by decide),
    State.reg_at_item s off (a := A.GUARD_ATTR) _ (by decide) (by decide)]

/-- The first `n` shadow regions of a requester made active, as an apply does with all 32. -/
def copyShadow (s : State) (req n : Nat) : State :=
  (List.range n).foldl (fun s r => s.setRegion (req * 32 + r) (shadowRegion s req r)) s

/-- One region more. -/
theorem copyShadow_succ (s : State) (req n : Nat) : copyShadow s req (n + 1) =
    (copyShadow s req n).setRegion (req * 32 + n) (shadowRegion (copyShadow s req n) req n) := by
  simp only [copyShadow, List.range_succ, List.foldl_append, List.foldl_cons, List.foldl_nil]

/-- Copying shadow regions changes nothing but the active ones. -/
theorem copyShadow_frame (s : State) (req n : Nat) :
    copyShadow s req n = { s with guards := (copyShadow s req n).guards } := by
  induction n with
  | zero => rfl
  | succ n ih => rw [copyShadow_succ, ih]; rfl

/-- The shadow regions stay while they are copied. -/
theorem shadowRegion_copyShadow (s : State) (req n r : Nat) :
    shadowRegion (copyShadow s req n) req r = shadowRegion s req r := by
  rw [copyShadow_frame]; rfl

/-- A region of the set reads its shadow once it is copied; every other region is as before. -/
theorem region_copyShadow (s : State) (req n i : Nat) : (copyShadow s req n).region i =
    if req * 32 ≤ i ∧ i < req * 32 + n then shadowRegion s req (i - req * 32) else s.region i := by
  induction n with
  | zero => rw [if_neg (by omega)]; rfl
  | succ n ih =>
    rw [copyShadow_succ, State.region_setRegion, shadowRegion_copyShadow, ih]
    by_cases hi : i = req * 32 + n
    · subst hi
      rw [if_pos rfl, if_pos (by omega), Nat.add_sub_cancel_left]
    · rw [if_neg hi]
      exact if_congr (by omega) rfl rfl

/-- A set with every enabled base a multiple of its size is copied whole (R242). -/
theorem applyGuardSet_of_aligned {s : State} {req : Nat} (h : ∀ r, r < 32 → (shadowRegion s req r).en = true →
    (shadowRegion s req r).base % 2 ^ (shadowRegion s req r).size = 0) : applyGuardSet s req = copyShadow s req 32 := by
  unfold applyGuardSet
  refine if_neg ?_
  simpa using h

/-- A set with an enabled base that is no multiple of its size sets APPLY_ERR and nothing else (R242). -/
theorem applyGuardSet_of_misaligned {s : State} {req r : Nat} (hr : r < 32) (hen : (shadowRegion s req r).en = true)
    (h : (shadowRegion s req r).base % 2 ^ (shadowRegion s req r).size ≠ 0) :
    applyGuardSet s req = s.note F.GUARD_STATUS.APPLY_ERR := by
  unfold applyGuardSet
  refine if_pos ?_
  simp only [List.any_map, List.any_eq_true, List.mem_range, Function.comp_apply, Bool.and_eq_true, bne_iff_ne]
  exact ⟨r, hr, hen, h⟩

/-- The state in which an apply that is due is judged: at 61.8 µs of its tick, with none waiting. -/
def applyInstant (s : State) : State := { s.at 61800 with guardDue := [] }

/-- The guard registers read there as before. -/
theorem shadowRegion_applyInstant (s : State) (req r : Nat) :
    shadowRegion (applyInstant s) req r = shadowRegion s req r :=
  shadowRegion_at s 61800 req r

/-- The one apply that is due is judged at its instant. -/
theorem exec_guardSetApply_due {s : State} {req : Nat} (h : s.guardDue = [(req, s.tick)]) :
    exec .guardSetApply s = .next (applyGuardSet (applyInstant s) req) := by
  show execGuardSetApply s = _
  simp [execGuardSetApply, applyInstant, h]

end Sys2Proof.Machine
end

section
/-! SUPPORT. Register writes by address: the writes of forwarded registers and of CORE_TASK_SEL. -/

namespace Sys2Proof.Machine

open Sys2Proof

/-- While ticks run a forwarded write changes no register and waits for tick w + 2 (R172). -/
theorem forwardWrite_ticking {s : State} (ht : s.ticking = true) (a item : Nat) (v : Word) (slot : Option Nat) :
    (forwardWrite s a item v slot).regs = s.regs ∧ (forwardWrite s a item v slot).pair.fwd =
      s.pair.fwd ++ [⟨itemKey a item, v, s.tick + 2, true, s.pair.seq, false, slot⟩] := by
  unfold forwardWrite
  rw [if_pos ht]
  obtain ⟨hregs, hfwd⟩ := State.straitOn_keeps_fwd s 6 5 0
    ([a / 65536, a % 65536, item, v.toNat, (s.tick + 2).toNat] ++ originVals s slot) (originArgs s slot)
  exact ⟨hregs, congrArg (· ++ _) hfwd⟩

/-- While no tick runs a forwarded write takes effect at once (log entry 38). -/
theorem forwardWrite_still {s : State} (ht : s.ticking = false) (a item : Nat) (v : Word) (slot : Option Nat) :
    forwardWrite s a item v slot = applyWrite s a item v := by
  unfold forwardWrite
  rw [if_neg (by simp [ht])]

/-- GUARD_APPLY is a forwarded write for the requester that GUARD_SEL names. -/
theorem exec_guardApply (s : State) (v : Word) :
    exec (.guardApply v) s = .next (forwardWrite s A.GUARD_APPLY (s.fld F.GUARD_SEL.REQ) v none) := rfl

/-- TASK_RE_ENABLE is a forwarded write for the task that CORE_TASK_SEL names. -/
theorem exec_taskReEnable (s : State) (v : Word) :
    exec (.taskReEnable v) s = .next (forwardWrite s A.CORE_TASK_EN (s.fld F.CORE_TASK_SEL.TASK) v none) := rfl

/-- A write of GUARD_APPLY takes effect. -/
theorem applyWrite_guardApply (s : State) (i : Nat) (v : Word) :
    applyWrite s A.GUARD_APPLY i v = guardApplyEffect s i v := rfl

/-- A write of CORE_TASK_EN takes effect. -/
theorem applyWrite_taskEn (s : State) (i : Nat) (v : Word) : applyWrite s A.CORE_TASK_EN i v = applyTaskEn s i v := rfl

/-- The keyed write makes an apply due for a requester whose regions registers may write (R242). -/
theorem guardApplyEffect_keyed {s : State} {i : Nat} (h : guardOwnable i = true) :
    guardApplyEffect s i 0x4B960001 = { s with guardDue := s.guardDue ++ [(i, s.tick)] } := by
  unfold guardApplyEffect
  exact if_pos ⟨rfl, rfl, h⟩

/-- The keyed write re-enables a disabled task of the image: DISABLED and CONSEC clear, its next activation is a first one,
and the event of class 2 code 3 is raised (R70). -/
theorem applyTaskEn_keyed {s : State} {i : Nat} (hi : (taskRec s i).isSome = true)
    (hd : s.flag (F.CORE_TASK_STATE.DISABLED.item i) = true) :
    (applyTaskEn s i 0x5A3C0001).flag (F.CORE_TASK_STATE.DISABLED.item i) = false ∧
    (applyTaskEn s i 0x5A3C0001).fld (F.CORE_TASK_STATE.CONSEC.item i) = 0 ∧
    ((applyTaskEn s i 0x5A3C0001).task i).first = true ∧ Raised s (applyTaskEn s i 0x5A3C0001) 2 3 i := by
  obtain ⟨k, hk⟩ := Option.isSome_iff_exists.mp hi
  unfold applyTaskEn
  rw [hk]
  dsimp only
  rw [if_pos ⟨rfl, rfl, hd⟩]
  refine ⟨?_, ?_, ?_, _, rfl, rfl, rfl, rfl⟩
  · simp only [State.raise_reads, State.setTask_reads]
    rw [State.flag_setFld_other _ _ _ _ (.inr (.inr (by simp)))]
    exact State.flag_setFlag_same _ _ _ (by simp) (by simp)
  · simp only [State.raise_reads, State.setTask_reads]
    exact State.fld_setFld_same _ _ _ (by simp)
  · simp

/-- CORE_TASK_SEL as the map has it: one field of ten bits that is read and written. -/
def taskSelDesc : RegDesc := ⟨0x24, 0, false, false, false, false, none, [⟨9, 0, .rw, 0, 1023, false⟩]⟩

/-- It is what the map lists at that address. -/
theorem regAt_taskSel : regAt A.CORE_TASK_SEL = some taskSelDesc := rfl

/-- A write of CORE_TASK_SEL has no action of its own. -/
theorem applyWrite_taskSel (s : State) (i : Nat) (v : Word) :
    applyWrite s A.CORE_TASK_SEL i v = storeFields s (itemKey A.CORE_TASK_SEL i) taskSelDesc v := rfl

/-- A write of CORE_TASK_SEL is a plain store of its one field (R5). -/
theorem writeReg_taskSel (s : State) (v : Word) (slot : Option Nat) : writeReg s A.CORE_TASK_SEL v slot =
    s.setFld F.CORE_TASK_SEL.TASK (clamp 0 1023 (getBits v 9 0)) := by
  have item : regItem s A.CORE_TASK_SEL taskSelDesc = 0 := rfl
  have key : itemKey A.CORE_TASK_SEL 0 = A.CORE_TASK_SEL := rfl
  simp only [writeReg, regAt_taskSel, item, applyWrite_taskSel, key]
  simp [taskSelDesc, storeFields, writeField, State.setFld]

/-- A write of CORE_TASK_SEL that is judged well sets its one field (R5). -/
theorem exec_registerWrite_taskSel {s : State} {who : Requester} (v : Word)
    (h : regJudge s who A.CORE_TASK_SEL 4 true = none) : exec (.registerWrite who A.CORE_TASK_SEL v) s =
      .next (s.setFld F.CORE_TASK_SEL.TASK (clamp 0 1023 (getBits v 9 0))) := by
  have answers : unitAnswers s A.CORE_TASK_SEL = true := rfl
  show Host.Outcome.next (registerWrite s who A.CORE_TASK_SEL v) = _
  simp only [registerWrite, h, answers, if_true, writeReg_taskSel]

/-- The field takes every number of its ten bits (R355). -/
theorem clamp_taskSel (v : Word) : clamp 0 1023 (getBits v 9 0) = v.toNat % 1024 := by
  have e : getBits v 9 0 = v.toNat % 1024 := rfl
  rw [e, clamp, if_neg (by omega), if_neg (by omega)]

end Sys2Proof.Machine
end

section
/-! SUPPORT. Reads that act: the low word of a declared pair (R357) and the stamp of a capture unit (R192). -/

namespace Sys2Proof.Machine

open Sys2Proof

variable {s : State} {who : Requester}

/-- A read of a low word outside the time counter and the captures latches its high word, and clears what a read clears. -/
theorem readReg_low {a : Nat} {r : RegDesc} (hr : regAt a = some r) (hl : r.low = true) (hc : a ≠ A.TIME_CAP_T_LO)
    (hn : a ≠ A.TIME_NOW_LO) (lo n : Nat) : (readReg s who a lo n).2 =
      clearRead (s.latch who (a + 4) (regValue s (a + 4))) a r lo n := by
  have low : lowRead s who a = s.latch who (a + 4) (regValue s (a + 4)) := by
    unfold lowRead
    rw [if_neg hc, if_neg hn]
  simp only [readReg, hr, hl, if_true, low]
  exact canRead_of_low _ hr hl

/-- A low word's read that is judged well and answered has its effects. -/
theorem exec_declaredPairLowRead {a : Nat} {r : RegDesc} (hr : regAt a = some r) (hl : r.low = true)
    (hj : regJudge s who a 4 false = none) (hu : unitAnswers s a = true) :
    exec (.declaredPairLowRead who a) s = .next (readReg s who a 0 4).2 := by
  show execDeclaredPairLowRead who a s = _
  unfold execDeclaredPairLowRead
  simp only [hr, hl, hj, hu, Option.isNone_none, Bool.and_self, if_true]

/-- A read of the selected capture latches the high word of its stamp and the fraction for the requester. -/
theorem captureLowRead_latched {i : Nat} (hi : i = s.fld F.TIME_CAP_SEL.CAP) (v : Word) :
    (captureLowRead s who).latched who A.TIME_CAP_T_HI v = s.reg (itemKey A.TIME_CAP_T_HI i) ∧
    (captureLowRead s who).latched who A.TIME_CAP_T_FRAC v = s.reg (itemKey A.TIME_CAP_T_FRAC i) := by
  subst hi
  unfold captureLowRead
  constructor
  · rw [State.latched_congr (State.setFlag_fields _ _ _).1, State.latched_latch_other _ _ _ _ (by decide),
      State.latched_latch_same]
  · rw [State.latched_congr (State.setFlag_fields _ _ _).1, State.latched_latch_same]

/-- It clears NEW of the selected unit and changes no other register. -/
theorem captureLowRead_regs {i : Nat} (hi : i = s.fld F.TIME_CAP_SEL.CAP) :
    (captureLowRead s who).flag (F.TIME_CAP_CTRL.NEW.item i) = false ∧
    ∀ a, a ≠ itemKey A.TIME_CAP_CTRL i → (captureLowRead s who).reg a = s.reg a := by
  subst hi
  exact ⟨State.flag_setFlag_same _ _ _ (by simp) (by simp), fun a ha => State.reg_setFld_other _ _ ha⟩

end Sys2Proof.Machine
end

section
/-! Register access and guard sets: the parts of O34 and the statement assembled from them. -/

namespace Sys2Proof.Machine

open Sys2Proof

/-- An apply that is due makes an aligned shadow set the active one (R242). -/
theorem guardSetApply_aligned {s : State} {req : Nat} (hd : s.guardDue = [(req, s.tick)])
    (h : ∀ r, r < 32 → (shadowRegion s req r).en = true →
      (shadowRegion s req r).base % 2 ^ (shadowRegion s req r).size = 0) :
    ∃ t, exec .guardSetApply s = .next t ∧ t.guardDue = [] ∧ t.mem = s.mem ∧
      (∀ r, r < 32 → t.region (req * 32 + r) = shadowRegion s req r) ∧
      ∀ i, i < req * 32 ∨ req * 32 + 32 ≤ i → t.region i = s.region i := by
  have ha : applyGuardSet (applyInstant s) req = copyShadow (applyInstant s) req 32 :=
    applyGuardSet_of_aligned (by simpa only [shadowRegion_applyInstant] using h)
  refine ⟨copyShadow (applyInstant s) req 32, by rw [exec_guardSetApply_due hd, ha],
    by rw [copyShadow_frame]; rfl, by rw [copyShadow_frame]; rfl, fun r hr => ?_, fun i hi => ?_⟩
  · rw [region_copyShadow, if_pos (by omega), Nat.add_sub_cancel_left, shadowRegion_applyInstant]
  · rw [region_copyShadow, if_neg (by omega)]
    rfl

/-- An apply that is due leaves the active set where the shadow set is misaligned (R242). -/
theorem guardSetApply_misaligned {s : State} {req r : Nat} (hd : s.guardDue = [(req, s.tick)]) (hr : r < 32)
    (hen : (shadowRegion s req r).en = true)
    (h : (shadowRegion s req r).base % 2 ^ (shadowRegion s req r).size ≠ 0) :
    ∃ t, exec .guardSetApply s = .next t ∧ t.guardDue = [] ∧ t.guards = s.guards ∧
      t.flag F.GUARD_STATUS.APPLY_ERR = true := by
  rw [← shadowRegion_applyInstant] at hen h
  refine ⟨(applyInstant s).note F.GUARD_STATUS.APPLY_ERR, ?_, rfl, rfl,
    State.flag_note_same _ _ (by decide) (by decide)⟩
  rw [exec_guardSetApply_due hd, applyGuardSet_of_misaligned hr hen h]

/-- Settles O34: an apply copies the shadow set at its instant or refuses it whole, a forwarded write is queued while ticks
run and performed while none does, and a read's latch outlives what else the read does. -/
theorem registersAndGuards : Obligations.RegistersAndGuards := by
  unfold Obligations.RegistersAndGuards
  refine ⟨fun s req hd => ⟨guardSetApply_aligned hd, fun r hr hen h => guardSetApply_misaligned hd hr hen h⟩,
    fun s v ht => ⟨⟨_, exec_guardApply s v, forwardWrite_ticking ht _ _ _ _⟩,
      ⟨_, exec_taskReEnable s v, forwardWrite_ticking ht _ _ _ _⟩⟩,
    fun s i ht => ⟨?guardApply, ?taskReEnable⟩, fun s who v hj => ?taskSel,
    fun s who a r v hr hl hc hn hj hu => ?pair, fun s who i v hi => ?capture⟩
  case guardApply =>
    rintro rfl hown
    refine ⟨_, exec_guardApply s _, ?_⟩
    rw [forwardWrite_still ht, applyWrite_guardApply, guardApplyEffect_keyed hown]
  case taskReEnable =>
    rintro rfl htask hdis
    refine ⟨_, exec_taskReEnable s _, ?_⟩
    rw [forwardWrite_still ht, applyWrite_taskEn]
    exact applyTaskEn_keyed htask hdis
  case taskSel =>
    refine ⟨_, exec_registerWrite_taskSel v hj, ?_, rfl, fun a ha => State.reg_setFld_other _ _ (by simpa using ha)⟩
    rw [clamp_taskSel, State.fld_setFld_same _ _ _ (by decide)]
    exact Nat.mod_mod _ _
  case pair =>
    refine ⟨_, exec_declaredPairLowRead hr hl hj hu, ?_, (readReg_keeps (b := true) (g := true) s who a 0 4).same rfl⟩
    rw [readReg_low hr hl hc hn, State.latched_congr (clearRead_latches _ _ _ _ _), State.latched_latch_same]
  case capture =>
    obtain ⟨hnew, hregs⟩ := captureLowRead_regs (who := who) hi
    obtain ⟨hhi, hfrac⟩ := captureLowRead_latched (who := who) hi v
    exact ⟨captureLowRead s who, rfl, hnew, hhi, hfrac, hregs⟩

end Sys2Proof.Machine
end

section
/-! SUPPORT. Slots written one after another, and what judging a station and a ring makes of the input image (R132, R133). -/

namespace Sys2Proof.Machine

open Sys2Proof

/-- What taking blocks and judging stations leaves as it was. -/
def besideScan (s : State) : Option Image × SlotMap × Pair := (s.image, s.outImg, s.pair)

/-- A touch of places changes the state copy's bookkeeping alone. -/
theorem State.touch_frame (s : State) (ps : List MemPlace) : s.touch ps = { s with resync := (s.touch ps).resync } := by
  unfold State.touch State.markPages
  split <;> rfl

/-- It leaves the slots of the input image. -/
@[simp] theorem State.inSlot_touch (s : State) (ps : List MemPlace) (n : Nat) : (s.touch ps).inSlot n = s.inSlot n := by
  rw [State.touch_frame]
  rfl

/-- Each signal's slot takes a value that may depend on the state before it. -/
def setSlots (f : State → SignalRec → Slot) (gs : List SignalRec) (s : State) : State :=
  gs.foldl (fun s g => s.setIn g.slot (f s g)) s

/-- Setting slots changes the input image alone. -/
theorem setSlots_frame (f : State → SignalRec → Slot) (gs : List SignalRec) (s : State) :
    setSlots f gs s = { s with inImg := (setSlots f gs s).inImg } := by
  induction gs generalizing s with
  | nil => rfl
  | cons g gs ih =>
    have step : setSlots f (g :: gs) s = setSlots f gs (s.setIn g.slot (f s g)) := rfl
    rw [step, ih]
    rfl

/-- What holds of every value that goes into a slot holds of the slot, once one goes into it or where it held before. -/
theorem inSlot_setSlots {P : Slot → Prop} {f : State → SignalRec → Slot} {gs : List SignalRec} {s : State} {n : Nat}
    (hf : ∀ t, ∀ g ∈ gs, g.slot = n → P (f t g)) (h : (∃ g ∈ gs, g.slot = n) ∨ P (s.inSlot n)) :
    P ((setSlots f gs s).inSlot n) := by
  induction gs generalizing s with
  | nil => exact h.resolve_left (by simp)
  | cons g gs ih =>
    refine ih (s := s.setIn g.slot (f s g)) (fun t g' hg' => hf t g' (List.mem_cons_of_mem g hg')) ?_
    rw [State.inSlot_setIn]
    by_cases hn : g.slot = n
    · rw [if_pos hn.symm]
      exact .inr (hf s g List.mem_cons_self hn)
    · rw [if_neg (Ne.symm hn)]
      simpa [hn] using h

/-- A slot that no signal names stays. -/
theorem inSlot_setSlots_other {f : State → SignalRec → Slot} {gs : List SignalRec} {s : State} {n : Nat}
    (h : ∀ g ∈ gs, g.slot ≠ n) : (setSlots f gs s).inSlot n = s.inSlot n :=
  inSlot_setSlots (P := (· = s.inSlot n)) (fun _ g hg hn => absurd hn (h g hg)) (.inr rfl)

/-- The inputs of a station depend on the image alone. -/
theorem inputSignals_congr {s t : State} (h : t.image = s.image) (ring station : Nat) :
    inputSignals t ring station = inputSignals s ring station := by
  rw [inputSignals, h, inputSignals]

/-- The station of an input is the one that its handle names (R8). -/
theorem station_of_mem_inputSignals {s : State} {ring station : Nat} {g : SignalRec}
    (h : g ∈ inputSignals s ring station) : hStation g.handle = station := by
  unfold inputSignals at h
  split at h
  · cases h
  · simp only [List.mem_filter, Bool.and_eq_true, beq_iff_eq] at h
    exact h.2.2

/-- The ring of a station of a ring. -/
theorem ring_of_mem_ringStations {s : State} {k : Nat} {x : StationRec} (h : x ∈ ringStations s k) : x.ring = k := by
  unfold ringStations at h
  split at h
  · cases h
  · simp only [List.mem_filter, beq_iff_eq] at h
    exact h.2

/-- The slots of a station's inputs are set: what a block, a substitution and the keeping at best STALE have in common. -/
def fillStation (f : State → SignalRec → Slot) (s : State) (ring station : Nat) : State :=
  (setSlots f (inputSignals s ring station) s).touch ((inputSignals s ring station).map (fun g => .inSlot g.slot))

/-- Filling a station's inputs changes the input image and the state copy's bookkeeping alone. -/
theorem besideScan_fillStation (f : State → SignalRec → Slot) (s : State) (ring station : Nat) :
    besideScan (fillStation f s ring station) = besideScan s := by
  rw [fillStation, State.touch_frame, setSlots_frame]
  rfl

/-- The value that a signal's place in its station's block gives its slot (R131). -/
def blockSlot (x : StationRec) (block : List Byte) (g : SignalRec) : Slot :=
  ⟨pointValue block g, pointQuality block x.ins g⟩

/-- A slot's value at best STALE (R133). -/
def staleSlot (v : Slot) : Slot := ⟨v.val, v.q.max .stale⟩

/-- A value at best STALE is not GOOD. -/
theorem staleSlot_not_good (v : Slot) : (staleSlot v).q ≠ .good := by
  have worse : ∀ q : Quality, q.max .stale ≠ .good := by
    rintro (_ | _ | _ | _) <;> decide
  exact worse v.q

/-- What the station's valid block, or its lack, says of the slot of one of its inputs (R132, R133). -/
def ScannedSlot (block : Option (List Byte)) (x : StationRec) (g : SignalRec) (v : Slot) : Prop :=
  match block with
  | some b => v = blockSlot x b g
  | none => v.q ≠ .good

/-- A station without a block: what its registers show, then no input GOOD. -/
theorem stationAbsent_fills (s : State) (x : StationRec) (missing : Bool) :
    ∃ (u : State) (f : State → SignalRec → Slot), u = { s with regs := u.regs } ∧
      stationAbsent s x missing = fillStation f u x.ring x.station ∧ ∀ t g, ScannedSlot none x g (f t g) := by
  unfold stationAbsent
  dsimp only
  split
  · exact ⟨_, fun _ g => badSlot g.value, rfl, rfl, fun _ _ => by simp [ScannedSlot, badSlot]⟩
  · exact ⟨_, fun s g => staleSlot (s.inSlot g.slot), rfl, rfl, fun _ _ => staleSlot_not_good _⟩

/-- One station judged, its valid block entering the image. -/
def judgeStation (k : Nat) (blocks : List (Nat × List Byte)) (s : State) (x : StationRec) : State :=
  match getAt x.station blocks with
  | some b => takeBlock (stationPresent s x b) x b
  | none => stationAbsent s x (missingStation (s.ring k) x.station)

/-- A ring is judged station by station. -/
theorem judgeRing_eq (s : State) (k : Nat) (blocks : List (Nat × List Byte)) :
    judgeRing s k blocks true = (ringStations s k).foldl (judgeStation k blocks) s := rfl

/-- A judged station's inputs are set to what its block says. -/
theorem judgeStation_fills (k : Nat) (blocks : List (Nat × List Byte)) (s : State) (x : StationRec) :
    ∃ (u : State) (f : State → SignalRec → Slot), u = { s with regs := u.regs, rings := u.rings } ∧
      judgeStation k blocks s x = fillStation f u x.ring x.station ∧
      ∀ t g, ScannedSlot (getAt x.station blocks) x g (f t g) := by
  unfold judgeStation
  cases getAt x.station blocks with
  | some b => exact ⟨stationPresent s x b, fun _ => blockSlot x b, rfl, rfl, fun _ _ => rfl⟩
  | none =>
    obtain ⟨u, f, hu, h⟩ := stationAbsent_fills s x (missingStation (s.ring k) x.station)
    exact ⟨u, f, by rw [hu], h⟩

/-- Judging a station changes neither image, outputs nor pair. -/
theorem besideScan_judgeStation (k : Nat) (blocks : List (Nat × List Byte)) (s : State) (x : StationRec) :
    besideScan (judgeStation k blocks s x) = besideScan s := by
  obtain ⟨u, f, hu, h, -⟩ := judgeStation_fills k blocks s x
  rw [h, besideScan_fillStation, hu]
  rfl

/-- Nor does judging a ring. -/
theorem besideScan_judgeRing (k : Nat) (blocks : List (Nat × List Byte)) (s : State) :
    besideScan (judgeRing s k blocks true) = besideScan s := by
  rw [judgeRing_eq]
  exact foldl_frame s besideScan _ (fun t x => besideScan_judgeStation k blocks t x) _

/-- Where states agree beside the scan, a station has the same inputs. -/
theorem inputSignals_of_besideScan {s t : State} (h : besideScan t = besideScan s) (ring station : Nat) :
    inputSignals t ring station = inputSignals s ring station :=
  inputSignals_congr (congrArg Prod.fst h) ring station

/-- The slot of an input, named by no other input of the station, takes what the station's block says. -/
theorem inSlot_judgeStation {k : Nat} {blocks : List (Nat × List Byte)} {s : State} {x : StationRec} {g : SignalRec}
    (hg : g ∈ inputSignals s x.ring x.station)
    (own : ∀ g' ∈ inputSignals s x.ring x.station, g'.slot = g.slot → g' = g) :
    ScannedSlot (getAt x.station blocks) x g ((judgeStation k blocks s x).inSlot g.slot) := by
  obtain ⟨u, f, hu, h, hf⟩ := judgeStation_fills k blocks s x
  have same : inputSignals u x.ring x.station = inputSignals s x.ring x.station := inputSignals_congr (by rw [hu]) _ _
  rw [h, fillStation, State.inSlot_touch, same]
  refine inSlot_setSlots (fun t g' hg' hn => ?_) (.inl ⟨g, hg, rfl⟩)
  rw [own g' hg' hn]
  exact hf t g

/-- A slot of none of a station's inputs stays. -/
theorem inSlot_judgeStation_other {k : Nat} {blocks : List (Nat × List Byte)} {s : State} {x : StationRec} {n : Nat}
    (h : ∀ g ∈ inputSignals s x.ring x.station, g.slot ≠ n) :
    (judgeStation k blocks s x).inSlot n = s.inSlot n := by
  obtain ⟨u, f, hu, hj, -⟩ := judgeStation_fills k blocks s x
  have same : inputSignals u x.ring x.station = inputSignals s x.ring x.station := inputSignals_congr (by rw [hu]) _ _
  rw [hj, fillStation, State.inSlot_touch, same, inSlot_setSlots_other h, hu]
  rfl

/-- Nor do further stations change it. -/
theorem inSlot_judgeStations_other {k : Nat} {blocks : List (Nat × List Byte)} {n : Nat} {xs : List StationRec} {s : State}
    (h : ∀ x ∈ xs, ∀ g ∈ inputSignals s x.ring x.station, g.slot ≠ n) :
    (xs.foldl (judgeStation k blocks) s).inSlot n = s.inSlot n := by
  induction xs generalizing s with
  | nil => rfl
  | cons x xs ih =>
    have later : ∀ y ∈ xs, ∀ g ∈ inputSignals (judgeStation k blocks s x) y.ring y.station, g.slot ≠ n := by
      intro y hy
      rw [inputSignals_of_besideScan (besideScan_judgeStation k blocks s x)]
      exact h y (List.mem_cons_of_mem x hy)
    rw [List.foldl_cons, ih later, inSlot_judgeStation_other (h x List.mem_cons_self)]

/-- A judged ring: an input whose slot no other input of the ring names reads what its station's block says (R132, R133). -/
theorem inSlot_judgeRing {s : State} {k : Nat} {blocks : List (Nat × List Byte)} {pre post : List StationRec}
    {x : StationRec} {g : SignalRec} (hx : ringStations s k = pre ++ x :: post)
    (hne : ∀ y ∈ pre ++ post, y.station ≠ x.station) (hg : g ∈ inputSignals s k x.station)
    (own : ∀ y ∈ ringStations s k, ∀ g' ∈ inputSignals s k y.station, g'.slot = g.slot → g' = g) :
    ScannedSlot (getAt x.station blocks) x g ((judgeRing s k blocks true).inSlot g.slot) := by
  have ring : ∀ y ∈ pre ++ x :: post, y.ring = k := fun y hy => ring_of_mem_ringStations (hx ▸ hy)
  rw [hx] at own
  rw [judgeRing_eq, hx, List.foldl_append, List.foldl_cons]
  have before : besideScan (pre.foldl (judgeStation k blocks) s) = besideScan s :=
    foldl_frame s besideScan _ (fun t x => besideScan_judgeStation k blocks t x) _
  rw [inSlot_judgeStations_other]
  · refine inSlot_judgeStation ?_ ?_ <;> rw [inputSignals_of_besideScan before, ring x (by simp)]
    · exact hg
    · exact own x (by simp)
  · intro y hy g' hg' hn
    rw [inputSignals_of_besideScan ((besideScan_judgeStation k blocks _ x).trans before), ring y (by simp [hy])] at hg'
    obtain rfl := own y (by simp [hy]) g' hg' hn
    exact hne y (by simp [hy]) ((station_of_mem_inputSignals hg').symm.trans (station_of_mem_inputSignals hg))

end Sys2Proof.Machine
end

section
/-! SUPPORT. CARD messages: how their bytes are cut, which the epoch check accepts, and what a standby takes of them (R152,
R153). -/

namespace Sys2Proof.Machine

open Sys2Proof

/-- The input bytes that the valid stations among `xs` have in a CARD. -/
def validBytes (mask : DWord) (xs : List StationRec) : Nat :=
  ((xs.filter (fun y => mask.getLsbD y.station)).map (fun y => y.inLen)).sum

/-- A station that is not valid has no block. -/
theorem getAt_cutCard_invalid {mask : DWord} {n : Nat} (h : mask.getLsbD n = false) (xs : List StationRec)
    (bytes : List Byte) : getAt n (cutCard mask xs bytes) = none := by
  induction xs generalizing bytes with
  | nil => rfl
  | cons y ys ih =>
    unfold cutCard
    split
    case isTrue hy =>
      have hn : n ≠ y.station := fun e => by simp [← e, h] at hy
      rw [getAt, if_neg hn, ih]
    case isFalse => exact ih bytes

/-- A valid station's block stands after those of the valid stations before it. -/
theorem getAt_cutCard_valid {mask : DWord} {x : StationRec} (hv : mask.getLsbD x.station = true) {pre : List StationRec}
    (post : List StationRec) (bytes : List Byte) (hne : ∀ y ∈ pre, y.station ≠ x.station) :
    getAt x.station (cutCard mask (pre ++ x :: post) bytes) =
      some ((bytes.drop (validBytes mask pre)).take x.inLen) := by
  induction pre generalizing bytes with
  | nil => simp [cutCard, hv, getAt, validBytes]
  | cons y ys ih =>
    obtain ⟨hy, hys⟩ := List.forall_mem_cons.mp hne
    rw [List.cons_append, cutCard]
    split
    case isTrue hm =>
      rw [getAt, if_neg (Ne.symm hy), ih _ hys, List.drop_drop]
      simp [validBytes, hm]
    case isFalse hm =>
      rw [ih _ hys]
      simp [validBytes, hm]

/-- Taking local channels changes the input image alone. -/
theorem takeLocalCard_frame (mask : DWord) (gs : List SignalRec) (s : State) (bytes : List Byte) :
    takeLocalCard s mask gs bytes = { s with inImg := (takeLocalCard s mask gs bytes).inImg } := by
  induction gs generalizing s bytes with
  | nil => rfl
  | cons g gs ih =>
    unfold takeLocalCard
    split
    · rw [ih]; rfl
    · exact ih s bytes

/-- A slot that none of the signals names stays. -/
theorem inSlot_takeLocalCard_other {mask : DWord} {n : Nat} {gs : List SignalRec} (s : State) (bytes : List Byte)
    (h : ∀ g ∈ gs, g.slot ≠ n) : (takeLocalCard s mask gs bytes).inSlot n = s.inSlot n := by
  induction gs generalizing s bytes with
  | nil => rfl
  | cons g gs ih =>
    obtain ⟨hg, hgs⟩ := List.forall_mem_cons.mp h
    unfold takeLocalCard
    split
    · rw [ih _ _ hgs, State.inSlot_setIn, if_neg (Ne.symm hg)]
    · exact ih s bytes hgs

/-- The slot that a local channel's nine bytes give (log entry 34). -/
def localSlot (bytes : List Byte) : Slot := ⟨BitVec.ofNat 64 (beAt bytes 0 8), Quality.ofCode (u8At bytes 8)⟩

/-- The nine bytes of an input of a valid group stand after those of the valid inputs before it. -/
theorem inSlot_takeLocalCard {mask : DWord} {g : SignalRec} (hv : mask.getLsbD (hStation g.handle) = true)
    {pre post : List SignalRec} (s : State) (bytes : List Byte) (hne : ∀ g' ∈ post, g'.slot ≠ g.slot) :
    (takeLocalCard s mask (pre ++ g :: post) bytes).inSlot g.slot =
      localSlot (bytes.drop (9 * (pre.filter (fun y => mask.getLsbD (hStation y.handle))).length)) := by
  induction pre generalizing s bytes with
  | nil =>
    rw [List.nil_append, takeLocalCard, if_pos hv, inSlot_takeLocalCard_other _ _ hne, State.inSlot_setIn, if_pos rfl]
    rfl
  | cons y ys ih =>
    rw [List.cons_append, takeLocalCard]
    split
    case isTrue hm =>
      rw [ih, List.drop_drop]
      simp [hm, Nat.mul_add, Nat.add_comm]
    case isFalse hm =>
      rw [ih]
      simp [hm]

/-- A message heard in its tick, before the epoch check (R161, R171). -/
def hearMsg (s : State) (h : StraitHdr) : State :=
  (noteGap s h).withPair (fun p => { p with heard := p.heard || h.tick == (noteGap s h).tick, rxSeq := some h.seq })

/-- Hearing a message changes what the pair and the resynchronisation hold alone. -/
theorem hearMsg_frame (s : State) (h : StraitHdr) :
    hearMsg s h = { s with pair := (hearMsg s h).pair, resync := (hearMsg s h).resync } := by
  unfold hearMsg noteGap
  split <;> rfl

/-- It leaves whether Carding is over. -/
theorem hearMsg_cardingOver (s : State) (h : StraitHdr) : (hearMsg s h).pair.cardingOver = s.pair.cardingOver := by
  unfold hearMsg noteGap
  split <;> rfl

/-- A message of the module's own epoch acts (R152). -/
theorem onMsg_ownEpoch {s : State} {h : StraitHdr} (he : crownEpoch h.crown = s.epoch) (type : Nat) (k : MsgKind)
    (request : Bool) (f : State → State) : onMsg s h type k request f = f (hearMsg s h) := by
  have accepts : epochAccepts (hearMsg s h) h k = true := by
    have same : (hearMsg s h).epoch = s.epoch := by rw [hearMsg_frame]; rfl
    simp [epochAccepts, he, same]
  exact if_pos accepts

/-- A standby adopts a CARD of its epoch and tick, of the local channels or a ring in use, before its Carding ends. -/
theorem exec_card_intime {s : State} {h : StraitHdr} (hm : s.mode = stStandby) (he : crownEpoch h.crown = s.epoch)
    (ht : h.tick = s.tick) {k : Nat} (mask : DWord) (bytes : List Byte) (ho : s.pair.cardingOver = false)
    (hk : k = 63 ∨ ringUsed s k = true) :
    exec (.card h k mask bytes) s = .next (adoptCard (hearMsg s h) k mask bytes) := by
  have same : (hearMsg s h).mode = s.mode ∧ (hearMsg s h).tick = s.tick ∧ ringUsed (hearMsg s h) k = ringUsed s k := by
    rw [hearMsg_frame]
    exact ⟨rfl, rfl, rfl⟩
  obtain ⟨hmode, htick, hused⟩ := same
  show execCard h k mask bytes s = _
  rw [execCard, onMsg_ownEpoch he, if_pos]
  simp only [State.follows, hmode, hm, htick, ht, hearMsg_cardingOver, ho, hused]
  simpa using hk

/-- After its Carding it takes none. -/
theorem exec_card_late {s : State} {h : StraitHdr} (he : crownEpoch h.crown = s.epoch) (k : Nat) (mask : DWord)
    (bytes : List Byte) (ho : s.pair.cardingOver = true) :
    exec (.card h k mask bytes) s = .next (hearMsg s h) := by
  show execCard h k mask bytes s = _
  rw [execCard, onMsg_ownEpoch he, if_neg]
  simp [hearMsg_cardingOver, ho]

/-- A ring is marked as carded. -/
def markCarded (s : State) (k : Nat) : State := s.setRing k { s.ring k with carded := true }

/-- A ring's CARD has its stations judged by the blocks that it is cut into, and marks the ring as carded. -/
theorem adoptCard_ring {k : Nat} (hk : k ≠ 63) (s : State) (mask : DWord) (bytes : List Byte) : adoptCard s k mask bytes =
    markCarded (judgeRing s k (cutCard mask (ringStations s k) bytes) true) k := if_neg hk

/-- That of ring 63 gives the local channels. -/
theorem adoptCard_local (s : State) (mask : DWord) (bytes : List Byte) : adoptCard s 63 mask bytes =
    (takeLocalCard s mask (localInputs s) bytes).withPair (fun p => { p with localCarded := true }) := if_pos rfl

end Sys2Proof.Machine
end

section
/-! SUPPORT. Carding: the classes' input areas, and a standby that misses CARD messages (R29, R37). -/

namespace Sys2Proof.Machine

open Sys2Proof

/-- Moving the clock leaves the fields of every register outside TIME_NOW. -/
theorem State.fld_at (s : State) (off : Nat) {f : Fld} (h : f.reg ∉ [A.TIME_NOW_LO, A.TIME_NOW_HI, A.TIME_NOW_FRAC]) :
    (s.at off).fld f = s.fld f := by
  rw [State.fld, State.reg_at_other s off h, State.fld]

/-- It leaves the module state. -/
@[simp] theorem State.mode_at (s : State) (off : Nat) : (s.at off).mode = s.mode := State.fld_at s off (by decide)

/-- The input area of a class depends on the image and the input image alone. -/
theorem classInput_congr {s t : State} (hi : t.image = s.image) (hm : t.inImg = s.inImg) (k : Nat) :
    classInput t k = classInput s k := by
  simp only [classInput, State.inSlot, hi, hm]

/-- One class takes its input area. -/
def refreshClass (s : State) (k : Nat) : State :=
  (s.setCls k { s.cls k with input := classInput s k }).touch ((classInput s k).map (fun e => .clsIn k e.1))

/-- The classes that begin a cycle in this tick take theirs. -/
theorem refreshInputs_eq (s : State) : refreshInputs s =
    ((List.range 8).filter (fun k => k != 0 && (s.cls k).running && (s.cls k).cycle == s.tick)).foldl refreshClass s := rfl

/-- Taking it changes the class and the state copy's bookkeeping alone. -/
theorem refreshClass_frame (s : State) (k : Nat) : refreshClass s k =
    { s with classes := (refreshClass s k).classes, resync := (refreshClass s k).resync } := by
  rw [refreshClass, State.touch_frame]
  rfl

/-- The class reads its input area; the others stay. -/
theorem input_refreshClass (s : State) (j k : Nat) :
    ((refreshClass s j).cls k).input = if k = j then classInput s k else (s.cls k).input := by
  have h : (refreshClass s j).cls k = (s.setCls j { s.cls j with input := classInput s j }).cls k := by
    rw [refreshClass, State.touch_frame]
    rfl
  rw [h, State.cls_setCls]
  split
  case isTrue hk => rw [hk]
  case isFalse => rfl

/-- What the classes' input areas being taken leaves. -/
theorem refreshClasses_frame (s : State) (ks : List Nat) : ks.foldl refreshClass s =
    { s with classes := (ks.foldl refreshClass s).classes, resync := (ks.foldl refreshClass s).resync } := by
  induction ks generalizing s with
  | nil => rfl
  | cons k ks ih =>
    rw [List.foldl_cons, ih, refreshClass_frame]

/-- A class among those that take their input area has it, any other keeps its own. -/
theorem input_refreshClasses (s : State) (ks : List Nat) (k : Nat) :
    ((ks.foldl refreshClass s).cls k).input = if k ∈ ks then classInput s k else (s.cls k).input := by
  induction ks generalizing s with
  | nil => rfl
  | cons j js ih =>
    have same : classInput (refreshClass s j) k = classInput s k :=
      classInput_congr (by rw [refreshClass_frame]) (by rw [refreshClass_frame]) k
    rw [List.foldl_cons, ih, same, input_refreshClass]
    by_cases hj : k = j
    · simp [hj]
    · simp [hj]

/-- A class that begins a cycle in this tick reads the input image through its CLASSMAP records (R37). -/
theorem input_refreshInputs {s : State} {k : Nat} (h0 : 0 < k) (h8 : k < 8) (hr : (s.cls k).running = true)
    (hc : (s.cls k).cycle = s.tick) : ((refreshInputs s).cls k).input = classInput s k := by
  rw [refreshInputs_eq, input_refreshClasses, if_pos]
  simp [h8, hr, hc, Nat.ne_of_gt h0]

/-- The input areas being taken leaves everything but the classes and the state copy's bookkeeping. -/
theorem refreshInputs_frame (s : State) : refreshInputs s =
    { s with classes := (refreshInputs s).classes, resync := (refreshInputs s).resync } := by
  rw [refreshInputs_eq]
  exact refreshClasses_frame s _

/-- Carding at 28 µs is over for CARD messages. -/
def endCarding (s : State) : State := s.withPair (fun p => { p with cardingOver := true })

/-- It changes the pair alone. -/
@[simp] theorem endCarding_reads (s : State) : (endCarding s).pair = { s.pair with cardingOver := true } ∧
    (endCarding s).image = s.image ∧ (endCarding s).inImg = s.inImg ∧ (endCarding s).tasks = s.tasks ∧
    (endCarding s).tick = s.tick ∧ (endCarding s).holds = s.holds ∧ ∀ k, (endCarding s).cls k = s.cls k :=
  ⟨rfl, rfl, rfl, rfl, rfl, rfl, fun _ => rfl⟩

/-- A running module takes part in the tick. -/
theorem active_of_mode {s : State} (h : s.mode ∈ [stStandby, stPrimary, stSolo]) : s.active = true := by
  have running : ∀ m ∈ [stStandby, stPrimary, stSolo], (decide (2 ≤ m) && decide (m ≤ 4)) = true := by decide
  rw [State.active, State.running, running _ h, Bool.true_or]

/-- A holder of the crown computes and follows nobody. -/
theorem exec_carding_holder {s : State} (ht : s.ticking = true) (hh : s.holds = true) (hj : s.resync.role ≠ .joiner) :
    exec .carding s = .next (refreshInputs (endCarding (s.at 28000))) := by
  have hmode : s.mode = stPrimary ∨ s.mode = stSolo := by simpa [State.holds] using hh
  have joins (t : State) (e : t.resync = s.resync) : t.joining = false := by simp [State.joining, e, hj]
  have active : s.active = true := active_of_mode (by simpa using .inr hmode)
  have leads : (s.at 28000).follows = false := by
    rcases hmode with h | h <;> simp [State.follows, h, joins]
  have computes : (endCarding (s.at 28000)).computes = true := by
    have holds : (s.at 28000).holds = s.holds := by simp only [State.holds, State.mode_at]
    simp [State.computes, holds, hh]
  show execCarding s = _
  unfold execCarding
  rw [if_pos (by simp [ht, active])]
  dsimp only
  rw [leads]
  exact congrArg _ (if_pos computes)

/-- A standby follows the crown holder's Carding. -/
theorem exec_carding_standby {s : State} (ht : s.ticking = true) (hm : s.mode = stStandby) :
    ∃ t, exec .carding s = .next t ∧ t.regs = (cardingOwn (s.at 28000)).regs ∧
      t.pair = (endCarding (cardingOwn (s.at 28000))).pair := by
  have active : s.active = true := active_of_mode (by simp [hm])
  have follows : (s.at 28000).follows = true := by simp [State.follows, hm]
  show ∃ t, execCarding s = _ ∧ _
  unfold execCarding
  rw [if_pos (by simp [ht, active])]
  dsimp only
  rw [if_pos follows]
  split
  · refine ⟨_, rfl, ?_⟩
    rw [refreshInputs_frame]
    exact ⟨rfl, rfl⟩
  · exact ⟨_, rfl, rfl, rfl⟩

/-- Local channels without a CARD are a miss. -/
theorem cardingOwn_localMiss {s : State} (h : s.pair.localCarded = false) :
    (cardingOwn s).flag F.SYS_EVENT.CARDING_MISS = true ∧ (cardingOwn s).pair.missNow = true := by
  unfold cardingOwn
  dsimp only
  rw [if_pos (by simp [h])]
  exact ⟨State.flag_note_same _ _ (by decide) (by decide), rfl⟩

end Sys2Proof.Machine
end

section
/-! The module's input exchange: the parts of O16 and the statement assembled from them. -/

namespace Sys2Proof.Machine

open Sys2Proof

/-- A class that begins a cycle in this tick takes its input area on a holder of the crown, and nothing else changes that
an instruction sees (R37). -/
theorem carding_holder_takes_inputs {s : State} {k : Nat} (ht : s.ticking = true) (hh : s.holds = true)
    (hj : s.resync.role ≠ .joiner) (h0 : 0 < k) (h8 : k < 8) (hr : (s.cls k).running = true)
    (hc : (s.cls k).cycle = s.tick) :
    ∃ t, exec .carding s = .next t ∧ (t.cls k).input = classInput s k ∧ t.inImg = s.inImg ∧ t.tasks = s.tasks := by
  refine ⟨_, exec_carding_holder ht hh hj, ?_, by rw [refreshInputs_frame]; simp, by rw [refreshInputs_frame]; simp⟩
  rw [input_refreshInputs h0 h8 (by simp [hr]) (by simp [hc])]
  exact classInput_congr (by simp) (by simp) k

/-- A standby whose local channels' CARD did not arrive notes the miss (R29). -/
theorem carding_standby_localMiss {s : State} (ht : s.ticking = true) (hm : s.mode = stStandby)
    (hl : s.pair.localCarded = false) :
    ∃ t, exec .carding s = .next t ∧ t.flag F.SYS_EVENT.CARDING_MISS = true ∧ t.pair.missNow = true := by
  obtain ⟨t, hex, hregs, hpair⟩ := exec_carding_standby ht hm
  obtain ⟨hflag, hmiss⟩ := cardingOwn_localMiss (s := s.at 28000) (by simp [hl])
  refine ⟨t, hex, ?_, by simp [hpair, hmiss]⟩
  rwa [State.flag, State.fld, State.reg, hregs]

/-- A ring's CARD places every input of a valid station and leaves none of an invalid one GOOD (R133, R153). -/
theorem inSlot_adoptCard_ring {s : State} {k : Nat} (hk : k ≠ 63) {mask : DWord} {bytes : List Byte}
    {pre post : List StationRec} {x : StationRec} {g : SignalRec} (hx : ringStations s k = pre ++ x :: post)
    (hne : ∀ y ∈ pre ++ post, y.station ≠ x.station) (hg : g ∈ inputSignals s k x.station)
    (own : ∀ y ∈ ringStations s k, ∀ g' ∈ inputSignals s k y.station, g'.slot = g.slot → g' = g) :
    (mask.getLsbD x.station = true → (adoptCard s k mask bytes).inSlot g.slot =
      blockSlot x ((bytes.drop (validBytes mask pre)).take x.inLen) g) ∧
    (mask.getLsbD x.station = false → ((adoptCard s k mask bytes).inSlot g.slot).q ≠ .good) := by
  have judged := inSlot_judgeRing (blocks := cutCard mask (ringStations s k) bytes) hx hne hg own
  rw [adoptCard_ring hk]
  constructor
  · intro hv
    rw [hx, getAt_cutCard_valid hv post bytes fun y hy => hne y (List.mem_append_left post hy), ← hx] at judged
    exact judged
  · intro hv
    rw [getAt_cutCard_invalid hv] at judged
    exact judged

/-- Settles O16: the classes copy the input image at Carding; a CARD heard in time is cut by its VALID mask and judged
station by station, no later station naming an earlier one's slots. -/
theorem cardingTakesInputs : Obligations.CardingTakesInputs := by
  unfold Obligations.CardingTakesInputs
  refine ⟨⟨fun s k ht hh hj h0 h8 hr hc => carding_holder_takes_inputs ht hh hj h0 h8 hr hc,
    fun s ht hm hl => carding_standby_localMiss ht hm hl⟩,
    fun s h k mask bytes hm he ht => ⟨fun ho hk hu => ?ring, fun ho => ?localCard, fun ho => ?late⟩⟩
  case ring =>
    have image : (hearMsg s h).image = s.image := by rw [hearMsg_frame]
    have stations : ringStations (hearMsg s h) k = ringStations s k := by rw [ringStations, image, ringStations]
    refine ⟨_, exec_card_intime hm he ht mask bytes ho (.inr hu), ?_, ?_, ?_⟩
    · rw [adoptCard_ring hk, markCarded, State.ring_setRing, if_pos rfl]
    · have aside := besideScan_judgeRing k (cutCard mask (ringStations (hearMsg s h) k) bytes) (hearMsg s h)
      rw [adoptCard_ring hk]
      exact (congrArg (fun p => p.2.1) aside).trans (by rw [hearMsg_frame])
    · intro pre post x g hx hne hg own
      refine inSlot_adoptCard_ring hk (stations.trans hx) hne ?_ ?_
      · rwa [inputSignals_congr image]
      · simpa only [stations, inputSignals_congr image] using own
  case localCard =>
    refine ⟨_, exec_card_intime hm he ht mask bytes ho (.inl rfl), ?_, ?_, ?_, ?_⟩ <;> rw [adoptCard_local]
    · rfl
    · rw [takeLocalCard_frame, hearMsg_frame]
      rfl
    · rw [takeLocalCard_frame, hearMsg_frame]
      rfl
    · intro pre post g hx hne hv
      have inputs : localInputs (hearMsg s h) = pre ++ g :: post := by
        rw [← hx, localInputs, hearMsg_frame, localInputs]
      rw [inputs]
      exact inSlot_takeLocalCard hv _ bytes fun g' hg' => hne g' (List.mem_append_right pre hg')
  case late =>
    exact ⟨_, exec_card_late he k mask bytes ho, by rw [hearMsg_frame], by rw [hearMsg_frame]⟩

end Sys2Proof.Machine
end

section
/-! SUPPORT. Host commands: the front command of a session, its result and its wait (R203, R208). -/

namespace Sys2Proof.Machine

open Sys2Proof

/-- A key of another register than the item's copies of one. -/
theorem ne_itemKey {a b : Nat} (i : Nat) (hb : b < 0x1000000) (h : a % 0x1000000 ≠ b) : a ≠ itemKey b i := by
  rintro rfl
  exact h (itemKey_mod i hb)

/-- Setting a register leaves the fields of the others. -/
theorem State.fld_setReg_other (s : State) {a : Nat} {f : Fld} (v : Word) (h : f.reg ≠ a) :
    (s.setReg a v).fld f = s.fld f := by
  rw [State.fld, State.reg_setReg_other _ _ h, State.fld]

/-- Counting leaves every other register. -/
theorem State.reg_count_other (s : State) {f : Fld} {a : Nat} (n : Nat) (h : a ≠ f.reg) :
    (s.count f n).reg a = s.reg a :=
  State.reg_setFld_other s _ h

/-- Whether MRAM is write-protected depends on the power manager and the time counter. -/
theorem mramProtected_congr {s t : State} (hp : t.power = s.power) (hn : t.now = s.now) :
    t.mramProtected = s.mramProtected := by
  rw [State.mramProtected, hp, hn, State.mramProtected]

/-- The time counter is its two registers. -/
theorem now_congr {s t : State} (hl : t.reg A.TIME_NOW_LO = s.reg A.TIME_NOW_LO)
    (hh : t.reg A.TIME_NOW_HI = s.reg A.TIME_NOW_HI) : t.now = s.now :=
  congrArg₂ (fun hi lo : Word => hi ++ lo) hh hl

/-- A command that stands at the front with the row's opcode and does not wait is run. -/
theorem onCommand_of_fronts {s : State} {k opcode : Nat} {q : QCmd} {rest : List QCmd} (h : Fronts s k opcode q rest)
    (f : QCmd → State) : onCommand s k opcode f = f q := by
  obtain ⟨-, hq, ho, hw⟩ := h
  simp [onCommand, frontCmd, hq, ho, hw]

/-! ## The result -/

/-- The journal record of a command takes its result (R208). -/
def journalResult (s : State) (q : QCmd) (code : Nat) (data : List Byte) : State :=
  match q.jseq with
  | none => s
  | some j => journalUpdate s j (fun r => { r with done := true, result := code, resultData := data })

/-- That changes the journal alone. -/
theorem journalResult_frame (s : State) (q : QCmd) (code : Nat) (data : List Byte) :
    journalResult s q code data = { s with journal := (journalResult s q code data).journal } := by
  unfold journalResult journalUpdate
  split
  · rfl
  · split <;> rfl

/-- While MRAM takes writes the command's record is done with the result. -/
theorem record_of_journalResult {s : State} {q : QCmd} {code : Nat} {data : List Byte} {r : JRec} {j : DWord}
    (hp : s.mramProtected = false) (hj : q.jseq = some j) (hr : r ∈ (journalResult s q code data).journal)
    (he : r.jseq = j) : r.done = true ∧ r.result = code ∧ r.resultData = data := by
  simp only [journalResult, hj, journalUpdate, hp] at hr
  obtain ⟨r', -, rfl⟩ := List.mem_map.mp hr
  by_cases h : r'.jseq = j
  · rw [if_pos h]
    exact ⟨rfl, rfl, rfl⟩
  · rw [if_neg h] at he
    exact absurd he h

/-- Counting an answer changes registers alone. -/
theorem countAnswer_frame (s : State) (code : Nat) : countAnswer s code = { s with regs := (countAnswer s code).regs } := by
  unfold countAnswer
  split
  · rfl
  · split <;> rfl

/-- It leaves every register but CMD_ERR. -/
theorem reg_countAnswer_other (s : State) (code : Nat) {a : Nat} (h : a ≠ A.CMD_ERR) :
    (countAnswer s code).reg a = s.reg a := by
  unfold countAnswer
  split
  · exact State.reg_count_other s 1 h
  · split
    · exact State.reg_count_other s 1 h
    · rfl

/-- What an answer counts and shows: the result code, the frame, the length of the queue that is left. -/
def countResult (s : State) (k code n : Nat) : State :=
  ((countAnswer s code).count (F.NET_PORT_TX.FRAMES.item (sessPort s k)) 1).setFld (F.CMD_SESS_STATE.QUEUE.item k) n

section Result

variable {s : State} {k : Nat} {q : QCmd} {rest : List QCmd} (hk : k < 16) (hq : (s.sess k).queue = q :: rest)
  (code : Nat) (data : List Byte)
include hk hq

/-- What the result of the front command changes (R203, R208). -/
theorem finishCommand_front : finishCommand s k code data = { s with
    regs := (countResult s k code rest.length).regs
    sessions := (s.setSess k { s.sess k with queue := rest }).sessions
    journal := (journalResult s q code data).journal
    outbox := resultOut s k q.seq q.opcode false code data :: s.outbox } := by
  have sends : finishCommand s k code data =
      setSessQueue ((countAnswer (journalResult s q code data) code).sendNet (sessPort (journalResult s q code data) k)
        (resultOut (journalResult s q code data) k q.seq q.opcode false code data)) k rest := by
    unfold finishCommand
    rw [hq]
    exact if_neg (Nat.not_le.mpr hk)
  rw [sends, journalResult_frame, countAnswer_frame]
  unfold countResult countAnswer
  split
  · rfl
  · split <;> rfl

/-- It leaves every register but the counts and the session's own. -/
theorem reg_finishCommand {a : Nat} (h : a % 0x1000000 ∉ [A.NET_PORT_TX, A.CMD_ERR, A.CMD_SESS_STATE]) :
    (finishCommand s k code data).reg a = s.reg a := by
  obtain ⟨htx, herr, hstate⟩ : a % 0x1000000 ≠ A.NET_PORT_TX ∧ a % 0x1000000 ≠ A.CMD_ERR ∧
      a % 0x1000000 ≠ A.CMD_SESS_STATE := by simpa using h
  have regs : (finishCommand s k code data).reg a = (countResult s k code rest.length).reg a := by
    rw [finishCommand_front hk hq]
    rfl
  rw [regs, countResult, State.reg_setFld_other _ _ (ne_itemKey k (by decide) hstate),
    State.reg_count_other _ _ (ne_itemKey _ (by decide) htx), reg_countAnswer_other _ _ fun e => herr (by rw [e]; rfl)]

/-- It leaves the fields of CMD_SESS_STATE of every session but QUEUE. -/
theorem fld_finishCommand {f : Fld} (hf : f.reg = A.CMD_SESS_STATE) (hb : f.hi < 8 ∨ 11 < f.lo) (j : Nat) :
    (finishCommand s k code data).fld (f.item j) = s.fld (f.item j) := by
  have regs : (finishCommand s k code data).fld (f.item j) = (countResult s k code rest.length).fld (f.item j) := by
    rw [finishCommand_front hk hq]
    rfl
  have key : itemKey f.reg j % 0x1000000 = A.CMD_SESS_STATE := by rw [hf]; exact itemKey_mod j (by decide)
  rw [regs, countResult, State.fld_setFld_other _ _ _ _ (.inr hb), State.count,
    State.fld_setFld_other _ _ _ _ (.inl (ne_itemKey _ (by decide) (by rw [key]; decide))), State.fld,
    reg_countAnswer_other _ _ fun e => absurd (congrArg (· % 0x1000000) e) (by simp only [key]; decide), State.fld]

end Result

/-! ## What is seen of a session from outside -/

/-- The session is as it was: what it holds and the registers that name and show it. -/
structure SameSession (s t : State) (k : Nat) : Prop where
  sess : t.sess k = s.sess k
  id : t.reg (itemKey A.CMD_SESS_ID k) = s.reg (itemKey A.CMD_SESS_ID k)
  state : t.reg (itemKey A.CMD_SESS_STATE k) = s.reg (itemKey A.CMD_SESS_STATE k)

/-- A RESULT depends on the session's port, ID and key (R195 to R199). -/
theorem resultOut_congr {s t : State} {k : Nat} (hp : sessPort t k = sessPort s k) (hi : sessId t k = sessId s k)
    (hk : (t.sess k).key = (s.sess k).key) (seq : Word) (opcode : Nat) (replay : Bool) (code : Nat) (data : List Byte) :
    resultOut t k seq opcode replay code data = resultOut s k seq opcode replay code data := by
  rw [resultOut, hp, hi, hk, resultOut]

/-- The front command of a session that completes is answered. -/
theorem answered_finishCommand {s : State} {k : Nat} {q : QCmd} {rest : List QCmd} (hk : k < 16)
    (hq : (s.sess k).queue = q :: rest) (code : Nat) (data : List Byte) :
    Answered (finishCommand s k code data) k q rest code data := by
  have sess : (finishCommand s k code data).sess k = { s.sess k with queue := rest } := by
    have h : (finishCommand s k code data).sess k = (s.setSess k { s.sess k with queue := rest }).sess k := by
      rw [finishCommand_front hk hq]
      rfl
    rw [h, State.sess_setSess, if_pos rfl]
  have id : sessId (finishCommand s k code data) k = sessId s k :=
    reg_finishCommand hk hq code data (by rw [itemKey_mod k (by decide)]; decide)
  have port : sessPort (finishCommand s k code data) k = sessPort s k :=
    fld_finishCommand hk hq code data rfl (.inr (by decide)) k
  have mram : (finishCommand s k code data).mramProtected = s.mramProtected :=
    mramProtected_congr (by rw [finishCommand_front hk hq]) (now_congr (reg_finishCommand hk hq code data (by decide))
      (reg_finishCommand hk hq code data (by decide)))
  refine ⟨by rw [sess], ⟨s.outbox, ?_⟩, fun hp j hj r hr he => ?_⟩
  · rw [resultOut_congr port id (by rw [sess]), finishCommand_front hk hq]
  · rw [finishCommand_front hk hq] at hr
    exact record_of_journalResult (mram ▸ hp) hj hr he

/-- It stays answered while the session, what was sent and the journal stay. -/
theorem answered_congr {s t : State} {k : Nat} {q : QCmd} {rest : List QCmd} {code : Nat} {data : List Byte}
    (h : Answered s k q rest code data) (hs : SameSession s t k) (ho : t.outbox = s.outbox) (hj : t.journal = s.journal)
    (hp : t.mramProtected = s.mramProtected) : Answered t k q rest code data := by
  obtain ⟨queue, ⟨o, out⟩, done⟩ := h
  refine ⟨by rw [hs.sess, queue], ⟨o, ?_⟩, by rwa [hp, hj]⟩
  have port : sessPort t k = sessPort s k := by rw [sessPort, State.fld, hs.state, sessPort, State.fld]
  rw [ho, out, resultOut_congr port hs.id (by rw [hs.sess])]

/-! ## The wait -/

/-- A command that is held changes its session alone. -/
theorem holdCommand_frame (s : State) (k : Nat) : holdCommand s k = { s with sessions := (holdCommand s k).sessions } := by
  unfold holdCommand
  split <;> rfl

/-- The front command of a session is held as long as the sessions stay. -/
theorem held_of_sessions {s t : State} {k : Nat} {q : QCmd} {rest : List QCmd} (hq : (s.sess k).queue = q :: rest)
    (h : t.sessions = (holdCommand s k).sessions) : Held t k q rest := by
  have sess : t.sess k = (holdCommand s k).sess k := by rw [State.sess, h, State.sess]
  have holds : holdCommand s k = s.setSess k { s.sess k with queue := { q with waiting := true } :: rest } := by
    unfold holdCommand
    rw [hq]
  rw [Held, sess, holds, State.sess_setSess, if_pos rfl]

end Sys2Proof.Machine
end

section
/-! SUPPORT. Sessions that close (R201), one after another. -/

namespace Sys2Proof.Machine

open Sys2Proof

/-- Showing the numbers of sessions changes CMD_STATUS alone. -/
theorem showSessions_frame (s : State) : showSessions s = { s with regs := (showSessions s).regs } ∧
    ∀ a, a ≠ A.CMD_STATUS → (showSessions s).reg a = s.reg a := by
  refine ⟨rfl, fun a h => ?_⟩
  exact (State.reg_setFld_other _ _ h).trans ((State.reg_setFld_other _ _ h).trans (State.reg_setFld_other _ _ h))

/-- What session `k` waits for going to an heir changes no register. -/
theorem bequeath_frame (s : State) (k : Nat) : bequeath s k = { s with
    sessions := (bequeath s k).sessions, rings := (bequeath s k).rings, pair := (bequeath s k).pair,
    loader := (bequeath s k).loader, xfer := (bequeath s k).xfer } := by
  unfold bequeath
  split <;> rfl

/-- An heir stands beside the 16 session slots. -/
theorem heirOf_ge {s : State} {k o : Nat} {q : QCmd} (h : heirOf s k = some (o, q)) : 16 ≤ o := by
  unfold heirOf at h
  split at h
  · cases h
  · split at h
    · obtain ⟨j, -, hj⟩ := Option.map_eq_some_iff.mp h
      obtain rfl := congrArg Prod.fst hj
      exact Nat.le_add_right 16 _
    · cases h

/-- No session slot is bequeathed to. -/
theorem sess_bequeath (s : State) (j : Nat) {k : Nat} (hk : k < 16) : (bequeath s j).sess k = s.sess k := by
  unfold bequeath
  split
  case h_1 => rfl
  case h_2 o q h =>
    have := heirOf_ge h
    rw [State.sess_setSess, if_neg (by omega)]
    rfl

/-- The registers of a session that closes: its ID, its state and its highest SEQ go to 0. -/
def clearSession (s : State) (j : Nat) : State :=
  ((s.setReg (itemKey A.CMD_SESS_ID j) 0).setReg (itemKey A.CMD_SESS_STATE j) 0).setReg (itemKey A.CMD_SESS_H j) 0

/-- A session's slot freed, and what it waited for gone to its heir. -/
def freeSession (s : State) (j : Nat) : State := (bequeath (clearSession s j) j).setSess j Session.free

/-- Freeing the slot changes no register further. -/
theorem freeSession_frame (s : State) (j : Nat) : freeSession s j = { clearSession s j with
    sessions := (freeSession s j).sessions, rings := (freeSession s j).rings, pair := (freeSession s j).pair,
    loader := (freeSession s j).loader, xfer := (freeSession s j).xfer } := by
  rw [freeSession, bequeath_frame]
  rfl

/-- A session closes: its slot is freed, its latches are forgotten, the numbers of sessions shown (R201, R357). -/
theorem closeSession_eq (s : State) (j : Nat) : closeSession s j = showSessions { freeSession s j with
    latches := (freeSession s j).latches.filter (fun l => decide (l.1 ≠ .session j)) } := rfl

/-- What closing a session leaves: Skerry's, the power manager's and the journal's records, and what was sent. -/
def moduleRecords (s : State) : SkerrySt × PowerSt × List JRec × List Out := (s.skerry, s.power, s.journal, s.outbox)

/-- Closing a session leaves them. -/
theorem moduleRecords_closeSession (s : State) (j : Nat) : moduleRecords (closeSession s j) = moduleRecords s := by
  rw [closeSession_eq, (showSessions_frame _).1, freeSession_frame]
  rfl

/-- Beside CMD_STATUS its registers are the cleared ones. -/
theorem reg_closeSession (s : State) (j : Nat) {a : Nat} (h : a ≠ A.CMD_STATUS) :
    (closeSession s j).reg a = (clearSession s j).reg a := by
  rw [closeSession_eq, (showSessions_frame _).2 a h, freeSession_frame]
  rfl

/-- It leaves every register that is neither the session's own nor CMD_STATUS. -/
theorem reg_closeSession_other (s : State) (j : Nat) {a : Nat}
    (h : a ∉ [itemKey A.CMD_SESS_ID j, itemKey A.CMD_SESS_STATE j, itemKey A.CMD_SESS_H j, A.CMD_STATUS]) :
    (closeSession s j).reg a = s.reg a := by
  simp only [List.mem_cons, List.not_mem_nil, or_false, not_or] at h
  obtain ⟨hid, hstate, hseq, hstatus⟩ := h
  rw [reg_closeSession s j hstatus, clearSession, State.reg_setReg_other _ _ hseq, State.reg_setReg_other _ _ hstate,
    State.reg_setReg_other _ _ hid]

/-- A register of no session and not CMD_STATUS stays. -/
theorem reg_closeSession_apart (s : State) (j : Nat) {a : Nat}
    (h : a % 0x1000000 ∉ [A.CMD_SESS_ID, A.CMD_SESS_STATE, A.CMD_SESS_H, A.CMD_STATUS]) :
    (closeSession s j).reg a = s.reg a := by
  refine reg_closeSession_other s j fun hm => h ?_
  have keys : ∀ b ∈ [A.CMD_SESS_ID, A.CMD_SESS_STATE, A.CMD_SESS_H], itemKey b j % 0x1000000 = b :=
    fun b hb => itemKey_mod j (by revert b; decide)
  simp only [List.mem_cons, List.not_mem_nil, or_false] at hm
  obtain rfl | rfl | rfl | rfl := hm
  · rw [keys _ (by simp)]; simp
  · rw [keys _ (by simp)]; simp
  · rw [keys _ (by simp)]; simp
  · decide

/-- A closed session is free. -/
theorem sessState_closeSession (s : State) (j : Nat) : sessState (closeSession s j) j = 0 := by
  have state : (closeSession s j).reg (itemKey A.CMD_SESS_STATE j) = 0 := by
    rw [reg_closeSession s j (Ne.symm (ne_itemKey j (by decide) (by decide))), clearSession,
      State.reg_setReg_other _ _ (by simp [itemKey]), State.reg_setReg_same]
  rw [sessState, State.fld, state]
  simp [getBits]

/-- The registers that name and show one session are not among those that closing another one writes. -/
theorem session_keys_apart {j k b : Nat} (h : k ≠ j) (hb : b = A.CMD_SESS_ID ∨ b = A.CMD_SESS_STATE) :
    itemKey b k ∉ [itemKey A.CMD_SESS_ID j, itemKey A.CMD_SESS_STATE j, itemKey A.CMD_SESS_H j, A.CMD_STATUS] := by
  simp only [itemKey, A.CMD_SESS_ID, A.CMD_SESS_STATE, A.CMD_SESS_H, A.CMD_STATUS, List.mem_cons, List.not_mem_nil,
    or_false] at hb ⊢
  omega

/-- The other sessions are as they were. -/
theorem sameSession_closeSession (s : State) {j k : Nat} (hk : k < 16) (h : k ≠ j) : SameSession s (closeSession s j) k := by
  refine ⟨?_, reg_closeSession_other s j (session_keys_apart h (.inl rfl)),
    reg_closeSession_other s j (session_keys_apart h (.inr rfl))⟩
  have closes : (closeSession s j).sess k = (freeSession s j).sess k := rfl
  rw [closes, freeSession, State.sess_setSess, if_neg h, sess_bequeath _ _ hk]
  rfl

/-- Nothing changed. -/
theorem SameSession.refl (s : State) (k : Nat) : SameSession s s k := ⟨rfl, rfl, rfl⟩

/-- One change after another. -/
theorem SameSession.trans {s t u : State} {k : Nat} (h : SameSession s t k) (h' : SameSession t u k) : SameSession s u k :=
  ⟨h'.sess.trans h.sess, h'.id.trans h.id, h'.state.trans h.state⟩

/-- Its key slot is the same. -/
theorem SameSession.key {s t : State} {k : Nat} (h : SameSession s t k) : sessKey t k = sessKey s k := by
  rw [sessKey, State.fld, h.state, sessKey, State.fld]

/-- Its state is the same. -/
theorem SameSession.isState {s t : State} {k : Nat} (h : SameSession s t k) : sessState t k = sessState s k := by
  rw [sessState, State.fld, h.state, sessState, State.fld]

/-- A session in use closes when its key slot is `i`. -/
def closeOnKey (i : Nat) (s : State) (j : Nat) : State :=
  if sessState s j ≠ 0 ∧ sessKey s j = i then closeSession s j else s

/-- What that leaves of everything that closing a session leaves. -/
theorem closeOnKey_keeps {β : Type} (p : State → β) (h : ∀ t j, p (closeSession t j) = p t) (i : Nat) (s : State)
    (js : List Nat) : p (js.foldl (closeOnKey i) s) = p s := by
  refine foldl_frame s p _ (fun t j => ?_) js
  unfold closeOnKey
  split
  · exact h t j
  · rfl

/-- A session of another key slot is as it was. -/
theorem sameSession_closeOnKey {s : State} {i k : Nat} (hk : k < 16) (h : sessKey s k ≠ i) (js : List Nat) :
    SameSession s (js.foldl (closeOnKey i) s) k := by
  induction js generalizing s with
  | nil => exact .refl s k
  | cons j js ih =>
    have step : SameSession s (closeOnKey i s j) k := by
      unfold closeOnKey
      split
      case isTrue hj =>
        obtain ⟨-, hkey⟩ := hj
        exact sameSession_closeSession s hk fun e => h (e ▸ hkey)
      case isFalse => exact .refl s k
    exact step.trans (ih (by rwa [step.key]))

/-- A session that is free stays free. -/
theorem free_closeOnKey {s : State} {i k : Nat} (hk : k < 16) (h : sessState s k = 0) (js : List Nat) :
    sessState (js.foldl (closeOnKey i) s) k = 0 := by
  induction js generalizing s with
  | nil => exact h
  | cons j js ih =>
    refine ih ?_
    unfold closeOnKey
    split
    case isTrue hj =>
      obtain ⟨hused, -⟩ := hj
      have other : k ≠ j := fun e => hused (e ▸ h)
      rw [(sameSession_closeSession s hk other).isState, h]
    case isFalse => exact h

/-- Every session among `js` with key slot `i` is free afterwards. -/
theorem closed_closeOnKey {s : State} {i k : Nat} (hk : k < 16) (h : sessKey s k = i) {js : List Nat} (hj : k ∈ js) :
    sessState (js.foldl (closeOnKey i) s) k = 0 := by
  induction js generalizing s with
  | nil => cases hj
  | cons j js ih =>
    rw [List.foldl_cons]
    by_cases e : k = j
    · subst e
      refine free_closeOnKey hk ?_ js
      unfold closeOnKey
      split
      case isTrue => exact sessState_closeSession s k
      case isFalse hn => exact Decidable.not_not.mp fun hused => hn ⟨hused, h⟩
    · have step : SameSession s (closeOnKey i s j) k := by
        unfold closeOnKey
        split
        · exact sameSession_closeSession s hk e
        · exact .refl s k
      exact ih (by rw [step.key, h]) (List.mem_of_ne_of_mem e hj)

end Sys2Proof.Machine
end

section
/-! SUPPORT. Host commands that write: what each row does with the front command of its session (R172, R207, R333). -/

namespace Sys2Proof.Machine

open Sys2Proof

variable {s : State} {k : Nat} {q : QCmd} {rest : List QCmd}

/-- A Strait message changes the pair and what was sent alone. -/
theorem State.straitOn_frame (s : State) (l type sub : Nat) (vals : List Nat) (bytes : List Byte) :
    s.straitOn l type sub vals bytes = { s with
      pair := (s.straitOn l type sub vals bytes).pair, outbox := (s.straitOn l type sub vals bytes).outbox } := by
  unfold State.straitOn State.straitFor
  split <;> rfl

/-- So does a forwarded write while ticks run. -/
theorem forwardWrite_ticking_frame {s : State} (ht : s.ticking = true) (a item : Nat) (v : Word) (slot : Option Nat) :
    forwardWrite s a item v slot = { s with
      pair := (forwardWrite s a item v slot).pair, outbox := (forwardWrite s a item v slot).outbox } := by
  unfold forwardWrite
  rw [if_pos ht]
  dsimp only
  rw [State.straitOn_frame]
  rfl

/-! ## Registers -/

/-- REG_WRITE of four bytes that is judged well. -/
theorem exec_regWrite_judged (h : Fronts s k 0x11 q rest) {a : Nat} (ha : beAt q.payload 0 8 = regBase + a)
    (hn : u8At q.payload 8 = 4) (hc : hostRegCheck s k (regBase + a) 4 true = none) :
    exec (.regWrite k) s = .next (if regForwarded a && awaitsPartner s
      then writeReg (holdCommand s k) a (BitVec.ofNat 32 (beAt q.payload 16 8)) (some k)
      else finishCommand (writeReg s a (BitVec.ofNat 32 (beAt q.payload 16 8)) none) k rcOk []) := by
  have four (s : State) (v : Nat) (slot : Option Nat) : writeBytes s a 4 v slot = writeReg s a (BitVec.ofNat 32 v) slot :=
    rfl
  show execRegWrite k s = _
  unfold execRegWrite
  rw [onCommand_of_fronts h]
  simp only [ha, hn, hc, Nat.add_sub_cancel_left, four]

/-- Of CORE_TASK_SEL it sets the one field and answers. -/
theorem exec_regWrite_taskSel (h : Fronts s k 0x11 q rest) (ha : beAt q.payload 0 8 = regBase + A.CORE_TASK_SEL)
    (hn : u8At q.payload 8 = 4) (hc : hostRegCheck s k (regBase + A.CORE_TASK_SEL) 4 true = none) :
    exec (.regWrite k) s = .next (finishCommand
      (s.setFld F.CORE_TASK_SEL.TASK (clamp 0 1023 (getBits (BitVec.ofNat 32 (beAt q.payload 16 8)) 9 0))) k rcOk []) := by
  have own : regForwarded A.CORE_TASK_SEL = false := rfl
  rw [exec_regWrite_judged h ha hn hc, own, Bool.false_and, if_neg Bool.false_ne_true, writeReg_taskSel]

/-- A write of a forwarded register is forwarded for the item that is selected. -/
theorem writeReg_forwarded (s : State) {a : Nat} {r : RegDesc} (hr : regAt a = some r) (hf : r.fwd = true) (v : Word)
    (slot : Option Nat) : writeReg s a v slot = forwardWrite s a (regItem s a r) v slot := by
  simp only [writeReg, hr, hf, if_true]

/-- A forwarded register's REG_WRITE in a pair waits for the partner. -/
theorem exec_regWrite_forwarded (h : Fronts s k 0x11 q rest) {a : Nat} {r : RegDesc}
    (ha : beAt q.payload 0 8 = regBase + a) (hn : u8At q.payload 8 = 4)
    (hc : hostRegCheck s k (regBase + a) 4 true = none) (hr : regAt a = some r) (hf : r.fwd = true)
    (ht : s.ticking = true) (hp : s.paired = true) :
    exec (.regWrite k) s = .next (forwardWrite (holdCommand s k) a (regItem s a r)
      (BitVec.ofNat 32 (beAt q.payload 16 8)) (some k)) := by
  have forwarded : regForwarded a = true := by simp [regForwarded, hr, hf]
  have waits : awaitsPartner s = true := by simp [awaitsPartner, ht, hp]
  have item : regItem (holdCommand s k) a r = regItem s a r := by
    rw [holdCommand_frame]
    rfl
  rw [exec_regWrite_judged h ha hn hc, forwarded, waits, Bool.and_self, if_pos rfl, writeReg_forwarded _ hr hf, item]

/-! ## Memory -/

/-- The descriptor of a memory command, on channel 31 (R256). -/
def memChannel (k a n : Nat) (write : Bool) (data : List Byte) : XferCh :=
  { XferCh.idle with desc := some ⟨a, a, n, 0, 0⟩, slot := some k, write := write, got := data }

/-- A channel that starts is READY, and neither memory, sessions nor what was sent change. -/
theorem channelStart_spec (s : State) (c : Nat) : chState (channelStart s c) c = chReady ∧
    (channelStart s c).mem = s.mem ∧ (channelStart s c).sessions = s.sessions ∧
    (channelStart s c).outbox = s.outbox := by
  refine ⟨?_, by simp [channelStart, setChState], by simp [channelStart, setChState], by simp [channelStart, setChState]⟩
  unfold channelStart setChState chState
  simp only [State.setChan_reads]
  rw [State.fld_setReg_other _ _ (by simp [itemKey]), State.fld_setFld_other _ _ _ _ (.inr (.inl (show 2 < 5 by decide))),
    State.fld_setFld_same _ _ _ (by simp)]
  rfl

/-- A memory command with registers in whole words makes channel 31 READY with its descriptor (R207, R239, R256). -/
theorem startMemCommand_spec (s : State) (k : Nat) {a n : Nat} (write : Bool) (data : List Byte)
    (h : inRegs a = true → a % 4 = 0 ∧ n % 4 = 0) :
    (startMemCommand s k a n write data).chan 31 = memChannel k a n write data ∧
    chState (startMemCommand s k a n write data) 31 = chReady ∧
    (startMemCommand s k a n write data).mem = s.mem ∧ (startMemCommand s k a n write data).sessions = s.sessions ∧
    (startMemCommand s k a n write data).outbox = s.outbox := by
  have aligned : ¬ (inRegs a && (a % 4 != 0 || n % 4 != 0)) = true := by
    simp only [Bool.and_eq_true, Bool.or_eq_true, bne_iff_ne, not_and, not_or, Decidable.not_not]
    exact h
  obtain ⟨ready, mem, sessions, outbox⟩ := channelStart_spec s 31
  have starts : startMemCommand s k a n write data = ((((channelStart s 31).setFld (F.XFER_CH_STATUS.COUNT.item 31) 1).setReg
      (itemKey A.XFER_CH_REMAIN 31) (BitVec.ofNat 32 n)).setReg (itemKey A.XFER_CH_CRC 31) 0xFFFFFFFF).setChan 31
        (memChannel k a n write data) := if_neg aligned
  rw [starts]
  refine ⟨by rw [State.chan_setChan, if_pos rfl], ?_, by simp [mem], by simp [sessions], by simp [outbox]⟩
  unfold chState at ready ⊢
  simp only [State.setChan_reads]
  rw [State.fld_setReg_other _ _ (by decide), State.fld_setReg_other _ _ (by decide),
    State.fld_setFld_other _ _ _ _ (.inr (.inl (by decide))), ready]

/-- MEM_WRITE of a length in range, its bytes complete, starts on a channel 31 at rest. -/
theorem exec_memWrite_starts (h : Fronts s k 0x13 q rest) (hr : chAtRest s 31 = true) {a n : Nat} {bs : List Byte}
    (ha : a = beAt q.payload 0 8) (hn : n = beAt q.payload 8 4) (hb : bs = q.payload.drop 12) (hlen : bs.length = n)
    (h0 : 0 < n) (hl : n ≤ memLimit s k) :
    exec (.memWrite k) s = .next (startMemCommand (holdCommand s k) k a n true bs) := by
  subst hb
  show execMemWrite k s = _
  unfold execMemWrite memCommand
  rw [onCommand_of_fronts h]
  simp [← ha, ← hn, hlen, hr, Nat.pos_iff_ne_zero.mp h0, Nat.not_lt.mpr hl]

/-! ## Roles and tasks -/

/-- An allowed ROLE_SWAP is held and asks the partner. -/
theorem exec_roleSwap_allowed (h : Fronts s k 0x30 q rest) (ha : swapAllowed s = true) :
    exec (.roleSwap k) s = .next (sendSwapReq (holdCommand s k) (some k)) := by
  show execRoleSwap k s = _
  unfold execRoleSwap
  rw [onCommand_of_fronts h, if_pos ha]

/-- Asking for a swap notes the tick and the session and changes no register and no session. -/
theorem sendSwapReq_spec (s : State) (slot : Option Nat) : (sendSwapReq s slot).pair.swap = .asked s.tick slot ∧
    (sendSwapReq s slot).regs = s.regs ∧ (sendSwapReq s slot).sessions = s.sessions := by
  unfold sendSwapReq State.strait
  rw [State.straitOn_frame]
  exact ⟨rfl, rfl, rfl⟩

/-- SAFE_REQUEST asks for SAFE and answers. -/
theorem exec_safeRequest_fronts (h : Fronts s k 0x31 q rest) :
    exec (.safeRequest k) s = .next (finishCommand (requestSafe s 8) k rcOk []) := by
  show execSafeRequest k s = _
  unfold execSafeRequest
  rw [onCommand_of_fronts h]

/-- A running module with no safe request notes its CAUSE. -/
theorem requestSafe_running (hr : s.running = true) (hd : s.pair.safeDue = none) (cause : Nat) :
    requestSafe s cause = s.withPair (fun p => { p with safeDue := some cause }) :=
  if_pos (by simp [hr, hd])

/-- TASK_ENABLE of a task of the image outside a pair writes CORE_TASK_EN and answers. -/
theorem exec_taskEnable_unpaired (h : Fronts s k 0x32 q rest) (hi : (taskRec s (beAt q.payload 0 2)).isSome = true)
    (hp : s.paired = false) : exec (.taskEnable k) s = .next (finishCommand
      (forwardWrite s A.CORE_TASK_EN (beAt q.payload 0 2) 0x5A3C0001 none) k rcOk []) := by
  have known : (taskRec s (beAt q.payload 0 2)).isNone = false := by simpa [Option.isSome_iff_ne_none] using hi
  have alone : awaitsPartner s = false := by simp [awaitsPartner, hp]
  show execTaskEnable k s = _
  unfold execTaskEnable
  rw [onCommand_of_fronts h]
  simp [known, alone]

/-! ## Stations -/

/-- STN_WRITE and STN_READ are the two station commands. -/
theorem exec_stn {w : Bool} (h : Fronts s k (if w then 0x51 else 0x50) q rest) :
    exec (if w then .stnWrite k else .stnRead k) s = .next (stationCommand s k q w) := by
  cases w with
  | true =>
    show execStnWrite k s = _
    unfold execStnWrite
    rw [onCommand_of_fronts (opcode := 0x51) h]
  | false =>
    show execStnRead k s = _
    unfold execStnRead
    rw [onCommand_of_fronts (opcode := 0x50) h]

/-- A station of 64 or more is UNTRACKED (R141). -/
theorem stationCommand_untracked (s : State) (k : Nat) (q : QCmd) (w : Bool) (h : 64 ≤ u8At q.payload 1) :
    stationCommand s k q w = finishCommand s k rcUntracked [] := if_pos h

/-- A station of the image gets the request (R146). -/
theorem stationCommand_asks (s : State) (k : Nat) (q : QCmd) (w : Bool) (h : u8At q.payload 1 < 64)
    (hs : (ringStations s (u8At q.payload 0)).any (fun x => x.station == u8At q.payload 1) = true)
    (hl : (q.payload.drop 4).length ≤ 1024) :
    stationCommand s k q w = askStation (holdCommand s k) (u8At q.payload 0) (b2n w) (u8At q.payload 1)
      (slice q.payload 2 2 ++ q.payload.drop 4) (.host k w) := by
  unfold stationCommand
  dsimp only
  rw [if_neg (Nat.not_le.mpr h), if_neg (by simp only [Nat.not_lt.mpr hl]; simp), if_neg (by simp [hs])]

/-- A request stands last at its ring, stamped with the tick, and changes the rings alone. -/
theorem askStation_spec (s : State) (ring svc station : Nat) (data : List Byte) (owner : AcycOwner) :
    ((askStation s ring svc station data owner).ring ring).reqs =
      (s.ring ring).reqs ++ [⟨none, svc, station, data, owner, s.tick⟩] ∧
    askStation s ring svc station data owner = { s with rings := (askStation s ring svc station data owner).rings } := by
  refine ⟨?_, rfl⟩
  unfold askStation
  rw [State.ring_setRing, if_pos rfl]

/-! ## Key administration -/

/-- A key slot changed, counted and recorded, before the result. -/
def keyChanged (s : State) (sub i perm : Nat) (x : Option KeySlot) : State :=
  let s := { s with skerry := { s.skerry with slots := changedSlots s i x } }
  let s := s.setReg A.SKERRY_KEYCNT (s.reg A.SKERRY_KEYCNT + 1)
  (s.raise 13 2 i (d1 sub ++ d1 perm ++ [0, 0] ++ d4 (s.reg A.SKERRY_KEYCNT).toNat)).checkpointRecord

/-- The result follows, then the slot's sessions close. -/
theorem changeKey_eq (s : State) (k sub i perm : Nat) (x : Option KeySlot) : changeKey s k sub i perm x =
    (List.range 16).foldl (closeOnKey i) (finishCommand (keyChanged s sub i perm x) k rcOk []) := rfl

/-- What the change leaves, and the slots and the count that it gives. -/
theorem keyChanged_spec (s : State) (sub i perm : Nat) (x : Option KeySlot) :
    (keyChanged s sub i perm x).skerry.slots = s.skerry.slots.set i x ∧
    (keyChanged s sub i perm x).reg A.SKERRY_KEYCNT = s.reg A.SKERRY_KEYCNT + 1 ∧
    (keyChanged s sub i perm x).sessions = s.sessions ∧
    ∀ a, a ≠ A.SKERRY_KEYCNT → (keyChanged s sub i perm x).reg a = s.reg a := by
  refine ⟨rfl, State.reg_setReg_same _ _ _, rfl, fun a ha => State.reg_setReg_other _ _ ha⟩

/-- A KEY_ADMIN without the root's signature on N00 answers AUTH. -/
theorem exec_keyAdmin_unsigned (h : Fronts s k 0x70 q rest) (hp : sessPort s k = 0)
    (hs : keyAdminSigned s q.payload = false) : exec (.keyAdmin k) s = .next (finishCommand s k rcAuth []) := by
  show execKeyAdmin k s = _
  unfold execKeyAdmin
  rw [onCommand_of_fronts h]
  simp [hp, hs]

/-- A signed replacement of a key slot 1 to 7 that leaves a slot with permission E is performed (R333). -/
theorem exec_keyAdmin_replaces (h : Fronts s k 0x70 q rest) (h1 : u8At q.payload 0 = 1) (hp : sessPort s k = 0)
    (hs : keyAdminSigned s q.payload = true) (hz : allZero (slice q.payload 2 2) = true) (h2 : u8At q.payload 101 ≤ 2)
    (h0 : 0 < u8At q.payload 1) (h8 : u8At q.payload 1 < 8)
    (he : someEngineer (s.skerry.slots.set (u8At q.payload 1)
      (some ⟨slice q.payload 4 97, u8At q.payload 101⟩)) = true) :
    exec (.keyAdmin k) s = .next (changeKey s k 1 (u8At q.payload 1) (u8At q.payload 101)
      (some ⟨slice q.payload 4 97, u8At q.payload 101⟩)) := by
  show execKeyAdmin k s = _
  unfold execKeyAdmin
  rw [onCommand_of_fronts h]
  dsimp only
  rw [h1, if_pos rfl, if_neg (by simp [hp]), if_neg (by simp [hs]), if_neg (by simp [hz]; omega),
    if_neg (by simp [changedSlots, he]; omega)]

end Sys2Proof.Machine
end

section
/-! The host's writing commands: the parts of O28 and the statement assembled from them. -/

namespace Sys2Proof.Machine

open Sys2Proof

section Parts

variable {s : State} {k : Nat} {q : QCmd} {rest : List QCmd}

/-- A REG_WRITE of CORE_TASK_SEL stores its field and is answered. -/
theorem regWrite_taskSel (h : Fronts s k 0x11 q rest) (ha : beAt q.payload 0 8 = regBase + A.CORE_TASK_SEL)
    (hn : u8At q.payload 8 = 4) (hc : hostRegCheck s k (beAt q.payload 0 8) 4 true = none) :
    ∃ t, exec (.regWrite k) s = .next t ∧ Answered t k q rest rcOk [] ∧ t.mem = s.mem ∧
      t.fld F.CORE_TASK_SEL.TASK = beAt q.payload 16 8 % 1024 := by
  have ⟨hk, hq, _, _⟩ := h
  have queue (v : Nat) : ((s.setFld F.CORE_TASK_SEL.TASK v).sess k).queue = q :: rest := hq
  refine ⟨_, exec_regWrite_taskSel h ha hn (ha ▸ hc), answered_finishCommand hk (queue _) _ _,
    by rw [finishCommand_front hk (queue _)]; rfl, ?_⟩
  rw [State.fld, reg_finishCommand hk (queue _) _ _ (by decide), ← State.fld, clamp_taskSel,
    State.fld_setFld_same _ _ _ (by decide), BitVec.toNat_ofNat]
  dsimp only
  omega

/-- A REG_WRITE of a forwarded register in a pair is forwarded and waits (R172). -/
theorem regWrite_forwarded (h : Fronts s k 0x11 q rest) {a : Nat} {r : RegDesc}
    (ha : beAt q.payload 0 8 = regBase + a) (hn : u8At q.payload 8 = 4)
    (hc : hostRegCheck s k (regBase + a) 4 true = none) (hr : regAt a = some r) (hf : r.fwd = true)
    (ht : s.ticking = true) (hp : s.paired = true) :
    ∃ t, exec (.regWrite k) s = .next t ∧ Held t k q rest ∧ t.regs = s.regs ∧ t.mem = s.mem ∧
      t.pair.fwd = s.pair.fwd ++ [⟨itemKey a (regItem s a r), BitVec.ofNat 32 (beAt q.payload 16 8), s.tick + 2, true,
        s.pair.seq, false, some k⟩] := by
  have ⟨_, hq, _, _⟩ := h
  have held := holdCommand_frame s k
  have ticks : (holdCommand s k).ticking = true := by rw [held]; exact ht
  have frame := forwardWrite_ticking_frame ticks a (regItem s a r) (BitVec.ofNat 32 (beAt q.payload 16 8)) (some k)
  obtain ⟨regs, fwd⟩ := forwardWrite_ticking ticks a (regItem s a r) (BitVec.ofNat 32 (beAt q.payload 16 8)) (some k)
  refine ⟨_, exec_regWrite_forwarded h ha hn hc hr hf ht hp, held_of_sessions hq (by rw [frame]), ?_, ?_, ?_⟩
  · rw [regs, held]
  · rw [frame, held]
  · rw [fwd, held]
    rfl

/-- MEM_WRITE takes channel 31 with its bytes and waits. -/
theorem memWrite_starts (h : Fronts s k 0x13 q rest) (hr : chAtRest s 31 = true) {a n : Nat} {bs : List Byte}
    (ha : a = beAt q.payload 0 8) (hn : n = beAt q.payload 8 4) (hb : bs = q.payload.drop 12) (hlen : bs.length = n)
    (h0 : 0 < n) (hl : n ≤ memLimit s k) (hw : inRegs a = true → a % 4 = 0 ∧ n % 4 = 0) :
    ∃ t, exec (.memWrite k) s = .next t ∧ Held t k q rest ∧ chState t 31 = chReady ∧
      (t.chan 31).desc = some ⟨a, a, n, 0, 0⟩ ∧ (t.chan 31).slot = some k ∧ (t.chan 31).write = true ∧
      (t.chan 31).got = bs ∧ t.mem = s.mem ∧ t.outbox = s.outbox := by
  have ⟨_, hq, _, _⟩ := h
  obtain ⟨chan, ready, mem, sessions, outbox⟩ := startMemCommand_spec (holdCommand s k) k true bs hw
  refine ⟨_, exec_memWrite_starts h hr ha hn hb hlen h0 hl, held_of_sessions hq sessions, ready, ?_⟩
  rw [chan, mem, outbox, holdCommand_frame]
  exact ⟨rfl, rfl, rfl, rfl, rfl, rfl⟩

/-- ROLE_SWAP asks the partner and waits (R165). -/
theorem roleSwap_asks (h : Fronts s k 0x30 q rest) (ha : swapAllowed s = true) :
    ∃ t, exec (.roleSwap k) s = .next t ∧ Held t k q rest ∧ t.pair.swap = .asked s.tick (some k) ∧ t.regs = s.regs := by
  have ⟨_, hq, _, _⟩ := h
  obtain ⟨swap, regs, sessions⟩ := sendSwapReq_spec (holdCommand s k) (some k)
  refine ⟨_, exec_roleSwap_allowed h ha, held_of_sessions hq sessions, ?_, ?_⟩
  · rw [swap, holdCommand_frame]
    rfl
  · rw [regs, holdCommand_frame]

/-- SAFE_REQUEST asks for SAFE and is answered (R32). -/
theorem safeRequest_answered (h : Fronts s k 0x31 q rest) (hr : s.running = true) (hd : s.pair.safeDue = none) :
    ∃ t, exec (.safeRequest k) s = .next t ∧ Answered t k q rest rcOk [] ∧ t.pair.safeDue = some 8 := by
  have ⟨hk, hq, _, _⟩ := h
  refine ⟨_, exec_safeRequest_fronts h, ?_⟩
  rw [requestSafe_running hr hd]
  have queue (f : Pair → Pair) : ((s.withPair f).sess k).queue = q :: rest := hq
  exact ⟨answered_finishCommand hk (queue _) _ _, by rw [finishCommand_front hk (queue _)]; rfl⟩

/-- TASK_ENABLE outside a pair forwards its write and is answered (R70, R172). -/
theorem taskEnable_unpaired (h : Fronts s k 0x32 q rest) (hi : (taskRec s (beAt q.payload 0 2)).isSome = true)
    (ht : s.ticking = true) (hp : s.paired = false) :
    ∃ t, exec (.taskEnable k) s = .next t ∧ Answered t k q rest rcOk [] ∧
      t.pair.fwd = s.pair.fwd ++ [⟨itemKey A.CORE_TASK_EN (beAt q.payload 0 2), 0x5A3C0001, s.tick + 2, true,
        s.pair.seq, false, none⟩] := by
  have ⟨hk, hq, _, _⟩ := h
  obtain ⟨-, fwd⟩ := forwardWrite_ticking ht A.CORE_TASK_EN (beAt q.payload 0 2) 0x5A3C0001 none
  have queue : ((forwardWrite s A.CORE_TASK_EN (beAt q.payload 0 2) 0x5A3C0001 none).sess k).queue = q :: rest := by
    rw [forwardWrite_ticking_frame ht]
    exact hq
  refine ⟨_, exec_taskEnable_unpaired h hi hp, answered_finishCommand hk queue _ _, ?_⟩
  rw [finishCommand_front hk queue]
  exact fwd

/-- A station command on a number of 64 or more is answered UNTRACKED (R141). -/
theorem stn_untracked {w : Bool} (h : Fronts s k (if w then 0x51 else 0x50) q rest) (hst : 64 ≤ u8At q.payload 1) :
    ∃ t, exec (if w then .stnWrite k else .stnRead k) s = .next t ∧ Answered t k q rest rcUntracked [] ∧
      t.rings = s.rings := by
  have ⟨hk, hq, _, _⟩ := h
  refine ⟨_, exec_stn h, ?_⟩
  rw [stationCommand_untracked s k q w hst]
  exact ⟨answered_finishCommand hk hq _ _, by rw [finishCommand_front hk hq]⟩

/-- On a station of the image it queues a transaction on the ring and waits (R146). -/
theorem stn_asks {w : Bool} (h : Fronts s k (if w then 0x51 else 0x50) q rest) (hst : u8At q.payload 1 < 64)
    (hs : (ringStations s (u8At q.payload 0)).any (fun x => x.station == u8At q.payload 1) = true)
    (hl : (q.payload.drop 4).length ≤ 1024) :
    ∃ t, exec (if w then .stnWrite k else .stnRead k) s = .next t ∧ Held t k q rest ∧ t.outbox = s.outbox ∧
      t.regs = s.regs ∧ (t.ring (u8At q.payload 0)).reqs = (s.ring (u8At q.payload 0)).reqs ++
        [⟨none, b2n w, u8At q.payload 1, slice q.payload 2 2 ++ q.payload.drop 4, .host k w, s.tick⟩] := by
  have ⟨_, hq, _, _⟩ := h
  obtain ⟨reqs, frame⟩ := askStation_spec (holdCommand s k) (u8At q.payload 0) (b2n w) (u8At q.payload 1)
    (slice q.payload 2 2 ++ q.payload.drop 4) (.host k w)
  refine ⟨_, exec_stn h, ?_⟩
  rw [stationCommand_asks s k q w hst hs hl]
  refine ⟨held_of_sessions hq (by rw [frame]), ?_, ?_, ?_⟩
  · rw [frame, holdCommand_frame]
  · rw [frame, holdCommand_frame]
  · rw [reqs, holdCommand_frame]
    rfl

/-- A changed key slot: its slots and count, the answer, and no session of the slot left (R333). -/
theorem changeKey_spec (hk : k < 16) (hq : (s.sess k).queue = q :: rest) {i : Nat} (hi : sessKey s k ≠ i) (sub perm : Nat)
    (x : Option KeySlot) : (changeKey s k sub i perm x).skerry.slots = s.skerry.slots.set i x ∧
      (changeKey s k sub i perm x).reg A.SKERRY_KEYCNT = s.reg A.SKERRY_KEYCNT + 1 ∧
      Answered (changeKey s k sub i perm x) k q rest rcOk [] ∧
      ∀ j, j < 16 → sessKey s j = i → sessState (changeKey s k sub i perm x) j = 0 := by
  obtain ⟨slots, count, sessions, regs⟩ := keyChanged_spec s sub i perm x
  have queue : ((keyChanged s sub i perm x).sess k).queue = q :: rest := by rw [State.sess, sessions, ← State.sess, hq]
  have key (j : Nat) : sessKey (finishCommand (keyChanged s sub i perm x) k rcOk []) j = sessKey s j := by
    have h := fld_finishCommand hk queue rcOk [] (f := F.CMD_SESS_STATE.KEY_SLOT) rfl (.inr (by decide)) j
    rw [sessKey, h, State.fld, regs _ (Ne.symm (ne_itemKey j (by decide) (by decide))), sessKey, State.fld]
  rw [changeKey_eq]
  set u := finishCommand (keyChanged s sub i perm x) k rcOk [] with hu
  set t := (List.range 16).foldl (closeOnKey i) u
  have reg {a : Nat} (ha : a % 0x1000000 ∉ [A.CMD_SESS_ID, A.CMD_SESS_STATE, A.CMD_SESS_H, A.CMD_STATUS]) :
      t.reg a = u.reg a :=
    closeOnKey_keeps (fun t => t.reg a) (fun t j => reg_closeSession_apart t j ha) i u _
  obtain ⟨skerry, power, journal, outbox⟩ : t.skerry = u.skerry ∧ t.power = u.power ∧ t.journal = u.journal ∧
      t.outbox = u.outbox := by
    simpa only [moduleRecords, Prod.mk.injEq] using closeOnKey_keeps moduleRecords moduleRecords_closeSession i u _
  refine ⟨?_, ?_, ?_, fun j hj hij => closed_closeOnKey hj ((key j).trans hij) (List.mem_range.mpr hj)⟩
  · rw [skerry, hu, finishCommand_front hk queue]
    exact slots
  · rw [reg (by decide), hu, reg_finishCommand hk queue _ _ (by decide), count]
  · exact answered_congr (answered_finishCommand hk queue rcOk []) (sameSession_closeOnKey hk (by rwa [key]) _) outbox
      journal (mramProtected_congr power (now_congr (reg (by decide)) (reg (by decide))))

end Parts

/-- Settles O28: each command's row is run for the front command, and either answers it by `finishCommand` or holds it for
what it has asked for. -/
theorem writingCommands : Obligations.WritingCommands := by
  unfold Obligations.WritingCommands
  refine fun s k q rest => ⟨regWrite_taskSel, fun h a r ha hn hc hr hf ht hp => regWrite_forwarded h ha hn hc hr hf ht hp,
    fun h hr a n bs ha hn hb hlen h0 hl hw => memWrite_starts h hr ha hn hb hlen h0 hl hw, roleSwap_asks,
    safeRequest_answered, taskEnable_unpaired, fun w c ring station hring hstation hc h => ?station,
    fun h i key perm hi hkey hperm h1 hp hs hz h2 h0 h8 hne he => ?keyChange, fun h hp hs => ?keyRefused⟩
  case station =>
    subst hring hstation hc
    exact ⟨stn_untracked h, stn_asks h⟩
  case keyChange =>
    subst hi hkey hperm
    have ⟨hk, hq, _, _⟩ := h
    exact ⟨_, exec_keyAdmin_replaces h h1 hp hs hz h2 h0 h8 he, changeKey_spec hk hq hne _ _ _⟩
  case keyRefused =>
    have ⟨hk, hq, _, _⟩ := h
    exact ⟨_, exec_keyAdmin_unsigned h hp hs, by rw [finishCommand_front hk hq], answered_finishCommand hk hq _ _⟩

end Sys2Proof.Machine
end

section
/-! SUPPORT. The charge of an instruction on registers alone (R45), and the frame of the Aidon instructions that store
nothing: the effect, the fault and the scheduling of a core, said once for each. -/

namespace Sys2Proof.Machine

open Sys2Proof

/-! ## Charging -/

/-- Each instruction on registers alone is run by `regInstr` (R57). -/
theorem exec_of_registerOnly {i : Instr} {j cost : Nat} {up : Upset} (h : aidonRegisterOnly i = some (j, up, cost))
    (s : State) : ∃ f, exec i s = .next (regInstr j up i cost f s) := by
  unfold aidonRegisterOnly at h
  split at h <;> cases h <;> exact ⟨_, rfl⟩

/-- The state in which the use of a core is counted; the charge of the task follows. -/
def countUse (s : State) (j : Nat) (k : TaskRec) (cost : Nat) : State :=
  if (s.core j).sliced.contains k.cls then s else s.setCore j { s.core j with used := (s.core j).used + cost }

/-- Counting the use of a core changes that core's place alone. -/
theorem countUse_frame (s : State) (j : Nat) (k : TaskRec) (cost : Nat) :
    countUse s j k cost = { s with cores := (countUse s j k cost).cores } := by
  unfold countUse
  split <;> rfl

/-- A charge within the bound W, or one that was reported before, changes the task's counts alone (R45). -/
theorem chargeTask_within {s : State} {j : Nat} {k : TaskRec} {cost : Nat} (hr : (s.task k.task).retry = false)
    (hw : (s.task k.task).charged + cost ≤ taskW s k.task) :
    chargeTask s j k cost = (countUse s j k cost).setTask k.task { s.task k.task with
      charged := (s.task k.task).charged + cost, cycles := (s.task k.task).cycles + cost } := by
  unfold chargeTask
  dsimp only
  have bound : taskW (countUse s j k cost) k.task = taskW s k.task := by rw [countUse_frame]; rfl
  rw [hr]
  exact if_neg (fun h => absurd (bound ▸ h.1) (Nat.not_lt.mpr hw))

/-- A charge that first exceeds the bound W sets BOUND_EXCEEDED and records class 1 code 3 (R45). -/
theorem chargeTask_exceeds {s : State} {j : Nat} {k : TaskRec} {cost : Nat} (hr : (s.task k.task).retry = false)
    (hw : taskW s k.task < (s.task k.task).charged + cost) (hb : (s.task k.task).boundHit = false) :
    ∃ det, chargeTask s j k cost = (((countUse s j k cost).setTask k.task { s.task k.task with
      charged := (s.task k.task).charged + cost, cycles := (s.task k.task).cycles + cost, boundHit := true }).note
        F.TICK_OVR.BOUND_EXCEEDED).raiseAt (s.task k.task).cycle 1 3 k.task det := by
  unfold chargeTask
  dsimp only
  have bound : taskW (countUse s j k cost) k.task = taskW s k.task := by rw [countUse_frame]; rfl
  rw [hr]
  exact ⟨_, if_pos ⟨bound.symm ▸ hw, hb⟩⟩

/-- Keeping what an upset did to a signature leaves the charge and the activation. -/
theorem struckTask_charge (t : TaskSt) (up : Upset) :
    (struckTask t up).charged = t.charged ∧ (struckTask t up).active = t.active := by
  unfold struckTask
  split <;> exact ⟨rfl, rfl⟩

/-- An instruction on registers alone leaves what the charge leaves, beside the context of its task. -/
theorem regInstr_charges {s : State} {j cost : Nat} {up : Upset} {i : Instr} {k : TaskRec} {f : TaskRegs → TaskRegs}
    (h : CoreRuns s j k i) (hu : up.odd = []) :
    let t := regInstr j up i cost f s
    let c := chargeTask s j k cost
    (t.task k.task).charged = (c.task k.task).charged ∧ (t.task k.task).active = (c.task k.task).active ∧
      t.recorder = c.recorder ∧ t.regs = c.regs := by
  unfold regInstr
  rw [runInstr_task (fun t => { t with regs := f t.regs }) h hu (fun _ _ => rfl)]
  unfold aidonTask
  dsimp only
  rw [State.task_setTask, if_pos rfl]
  exact ⟨(struckTask_charge _ _).1, (struckTask_charge _ _).2, rfl, rfl⟩

/-! ## Frame -/

/-- From `s` to `t` nothing changes but the contexts of tasks of core `j`, that core's place, the record of healed words,
registers and raised events. -/
def AidonFrame (j : Nat) (s t : State) : Prop :=
  t = { s with tasks := t.tasks, cores := t.cores, bad := t.bad, regs := t.regs, recorder := t.recorder } ∧
  (∀ n, (∀ k ∈ coreTasks s j, k.task ≠ n) → t.task n = s.task n) ∧ ∀ n, n ≠ j → t.core n = s.core n

/-- The tasks of a core are the image's. -/
theorem coreTasks_congr {s t : State} (h : t.image = s.image) (j : Nat) : coreTasks t j = coreTasks s j := by
  unfold coreTasks
  rw [h]

theorem AidonFrame.refl (j : Nat) (s : State) : AidonFrame j s s := ⟨rfl, fun _ _ => rfl, fun _ _ => rfl⟩

theorem AidonFrame.trans {j : Nat} {s t u : State} (h : AidonFrame j s t) (h' : AidonFrame j t u) :
    AidonFrame j s u := by
  obtain ⟨rest, task, core⟩ := h
  obtain ⟨rest', task', core'⟩ := h'
  have tasks : coreTasks t j = coreTasks s j := coreTasks_congr (by rw [rest]) j
  refine ⟨?_, fun n hn => (task' n (tasks ▸ hn)).trans (task n hn), fun n hn => (core' n hn).trans (core n hn)⟩
  rw [rest']
  generalize u.tasks = z1, u.cores = z2, u.bad = z3, u.regs = z4, u.recorder = z5
  rw [rest]

/-- A step that leaves every task and core as it was. -/
theorem AidonFrame.of_regs {j : Nat} {s t : State}
    (h : t = { s with bad := t.bad, regs := t.regs, recorder := t.recorder }) : AidonFrame j s t := by
  refine ⟨?_, fun n _ => ?_, fun n _ => ?_⟩
  · rw [h]
  · rw [h]; rfl
  · rw [h]; rfl

section Registers

variable {j : Nat} {s t : State} (h : AidonFrame j s t)
include h

theorem AidonFrame.setReg (a : Nat) (v : Word) : AidonFrame j s (t.setReg a v) := h.trans (.of_regs rfl)

theorem AidonFrame.setFld (f : Fld) (v : Nat) : AidonFrame j s (t.setFld f v) := h.trans (.of_regs rfl)

theorem AidonFrame.setFlag (f : Fld) (b : Bool) : AidonFrame j s (t.setFlag f b) := h.trans (.of_regs rfl)

theorem AidonFrame.setDword (a : Nat) (v : DWord) : AidonFrame j s (t.setDword a v) := h.trans (.of_regs rfl)

theorem AidonFrame.count (f : Fld) (n : Nat) : AidonFrame j s (t.count f n) := h.trans (.of_regs rfl)

theorem AidonFrame.raiseAt (tick : DWord) (cls code src : Nat) (det : List Byte) :
    AidonFrame j s (t.raiseAt tick cls code src det) := h.trans (.of_regs rfl)

end Registers

/-- Setting the context of a task of the core. -/
theorem AidonFrame.setTask {j : Nat} {s : State} {k : TaskRec} (hk : k ∈ coreTasks s j) (x : TaskSt) :
    AidonFrame j s (s.setTask k.task x) :=
  ⟨rfl, fun n hn => by rw [State.task_setTask, if_neg (Ne.symm (hn k hk))], fun _ _ => rfl⟩

/-- Setting the place of the core. -/
theorem AidonFrame.setCore (j : Nat) (s : State) (x : CoreSt) : AidonFrame j s (s.setCore j x) :=
  ⟨rfl, fun _ _ => rfl, fun n hn => by rw [State.core_setCore, if_neg hn]⟩

/-- The task that runs on a core is one of its tasks. -/
theorem mem_coreTasks_of_currentTask {s : State} {j : Nat} {k : TaskRec} (h : currentTask s j = some k) :
    k ∈ coreTasks s j := by
  unfold currentTask at h
  split at h
  · cases h
  · split at h
    · cases h
    · next i _ _ hf =>
      split at h
      · cases h
        exact List.mem_of_find?_eq_some hf
      · cases h

/-- The next work of a core is one of its tasks. -/
theorem mem_coreTasks_of_nextTask {s : State} {j : Nat} {k : TaskRec} (h : nextTask s j = some k) :
    k ∈ coreTasks s j := by
  unfold nextTask at h
  obtain ⟨ks, hks, hk⟩ := List.exists_of_findSome?_eq_some h
  have hk : k ∈ ks := List.mem_of_find?_eq_some hk
  simp only [List.mem_append, List.mem_cons, List.mem_map, List.not_mem_nil, or_false] at hks
  rcases hks with ((rfl | rfl) | ⟨c, -, rfl⟩) | ⟨c, -, rfl⟩ <;> exact (List.mem_filter.mp hk).1

/-- The charge is within the frame. -/
theorem AidonFrame.charge {j : Nat} {s : State} {k : TaskRec} (hk : k ∈ coreTasks s j) (cost : Nat) :
    AidonFrame j s (chargeTask s j k cost) := by
  refine ⟨?_, fun n hn => chargeTask_other s j k cost n (Ne.symm (hn k hk)), fun n hn => ?_⟩
  · rw [chargeTask_frame]
  · unfold chargeTask
    dsimp only
    repeat' split
    all_goals simp [hn]

/-- A core that takes its next work is within the frame. -/
theorem AidonFrame.dispatch (j : Nat) (s : State) : AidonFrame j s (dispatchCore s j) := by
  unfold dispatchCore
  split
  · split
    · exact .setCore _ _ _
    · next k hk =>
      have hk := mem_coreTasks_of_nextTask hk
      dsimp only
      split
      · exact .setCore _ _ _
      · exact (AidonFrame.setTask hk _).trans (.setCore _ _ _)
  · exact .setCore _ _ _

/-- What a fault leaves beside R69 is registers and events. -/
theorem AidonFrame.faultNotes (s : State) (j : Nat) (f : AFault) : AidonFrame j s (faultNotes s j f) := by
  unfold Machine.faultNotes
  split <;> exact .of_regs rfl

/-- A faulted task stops, its staged slots dropped (R69). -/
def stopFaulted (s : State) (k : TaskRec) (t : TaskSt) : State :=
  s.setTask k.task { t with active := false, ended := true, staging := [], undo := [], undoFull := false, retry := false,
                            first := false }

/-- The registers that show a fault (R69). -/
def showFault (s : State) (j : Nat) (k : TaskRec) (pc : Nat) (f : AFault) (cycle : DWord) : State :=
  let s := s.setReg A.CORE_FAULT_SUM (s.reg A.CORE_FAULT_SUM ||| BitVec.ofNat 32 (2 ^ j))
  let s := ((s.setFld (F.CORE_FAULT_INFO.KIND.item j) f.code).setFld (F.CORE_FAULT_INFO.CLASS.item j) k.cls).setFld
    (F.CORE_FAULT_INFO.TASK.item j) k.task
  let s := (s.setFld (F.CORE_FAULT_PC.PC.item j) pc).setDword (itemKey A.CORE_FAULT_TICK_LO j) cycle
  (s.count (F.CORE_FAULT_COUNT.COUNT.item j) 1).count (F.CORE_TASK_STATE.CONSEC.item k.task) 1

/-- The records of a fault, and the task disabled at FAULT_LIMIT (R69, R70). -/
def recordFault (s : State) (j : Nat) (k : TaskRec) (pc : Nat) (f : AFault) (cycle : DWord) : State :=
  let n := s.fld (F.CORE_TASK_STATE.CONSEC.item k.task)
  let s := s.raiseAt cycle 2 1 k.task (d1 f.code ++ d1 k.cls ++ d1 j ++ d1 n ++ d4 pc)
  if s.fld F.CORE_CTRL.FAULT_LIMIT ≤ n ∧ s.flag (F.CORE_TASK_STATE.DISABLED.item k.task) = false then
    (s.setFlag (F.CORE_TASK_STATE.DISABLED.item k.task) true).raiseAt cycle 2 2 k.task (d1 k.cls ++ d1 j)
  else s

/-- A task fault step by step. -/
theorem taskFault_eq (s : State) (j : Nat) (k : TaskRec) (pc : Nat) (f : AFault) :
    taskFault s j k pc f = dispatchCore (recordFault (showFault (stopFaulted (faultNotes s j f) k (s.task k.task))
      j k pc f (s.task k.task).cycle) j k pc f (s.task k.task).cycle) j := rfl

/-- What shows and records a fault is registers and events. -/
theorem AidonFrame.recordFault (s : State) (j : Nat) (k : TaskRec) (pc : Nat) (f : AFault) (cycle : DWord) :
    AidonFrame j s (recordFault (showFault s j k pc f cycle) j k pc f cycle) := by
  have shown : AidonFrame j s (showFault s j k pc f cycle) := by
    unfold showFault
    dsimp only
    exact .count (.count (.setDword (.setFld (.setFld (.setFld (.setFld (.setReg (.refl j s) _ _) _ _) _ _) _ _) _ _) _ _)
      _ _) _ _
  generalize showFault s j k pc f cycle = t at shown
  refine shown.trans ?_
  unfold Machine.recordFault
  dsimp only
  split
  · exact .raiseAt (.setFlag (.raiseAt (.refl j t) _ _ _ _ _) _ _) _ _ _ _ _
  · exact .raiseAt (.refl j t) _ _ _ _ _

/-- A task fault is within the frame. -/
theorem AidonFrame.taskFault {j : Nat} {s : State} {k : TaskRec} (hk : k ∈ coreTasks s j) (pc : Nat) (f : AFault) :
    AidonFrame j s (taskFault s j k pc f) := by
  rw [taskFault_eq]
  have notes : AidonFrame j s (Machine.faultNotes s j f) := .faultNotes s j f
  have hk' : k ∈ coreTasks (Machine.faultNotes s j f) j := by rwa [coreTasks_congr (by rw [notes.1])]
  exact ((notes.trans (.setTask hk' _)).trans (.recordFault _ j k pc f _)).trans (.dispatch j _)

/-! ## Effects -/

/-- The result of an effect that changes nothing of the state but the record of healed words. -/
def QuietResult (s : State) (r : Except AFault (State × TaskSt)) : Prop :=
  ∀ s' t', r = .ok (s', t') → s' = { s with bad := s'.bad }

@[simp] theorem quietResult_error (s : State) (f : AFault) : QuietResult s (.error f) := by
  intro _ _ h
  cases h

@[simp] theorem quietResult_same (s : State) (t : TaskSt) : QuietResult s (.ok (s, t)) := by
  rintro _ _ ⟨⟩
  rfl

@[simp] theorem quietResult_healData (s : State) (k : TaskRec) (a : Nat) (t : TaskSt) :
    QuietResult s (.ok (healData s k a, t)) := by
  rintro _ _ ⟨⟩
  rfl

section Effects

variable (space idx : Nat) (s : State) (k : TaskRec) (t : TaskSt)

@[simp] theorem quiet_loadBit (f : Bool → Bool) : QuietResult s (loadBit space idx f s k t) := by
  unfold loadBit
  split <;> simp

@[simp] theorem quiet_opBit (f : Bool → Bool → Bool) : QuietResult s (opBit space idx f s k t) := by
  unfold opBit
  split <;> simp

@[simp] theorem quiet_storeBit (b : Bool) (q : Quality) : QuietResult s (storeBit s k t space idx b q) := by
  unfold storeBit
  repeat' split
  all_goals simp

@[simp] theorem quiet_storeWord (v : DWord) (q : Quality) : QuietResult s (storeWord s k t space idx v q) := by
  unfold storeWord
  repeat' split
  all_goals simp

@[simp] theorem quiet_setBitIf (v : Bool) : QuietResult s (setBitIf space idx v s k t) := by
  unfold setBitIf
  repeat' split
  all_goals simp

@[simp] theorem quiet_nestPush (op : NestOp) : QuietResult s (nestPush op s k t) := by
  unfold nestPush
  split <;> simp

@[simp] theorem quiet_jumpIf (c : Bool) (off : BitVec 24) : QuietResult s (jumpIf c off s k t) := by
  unfold jumpIf jumpTo
  repeat' split
  all_goals simp [Except.map]

@[simp] theorem quiet_edgeInstr (f : Bool → Bool → Bool) : QuietResult s (edgeInstr idx f s k t) := by
  unfold edgeInstr
  split <;> simp

@[simp] theorem quiet_timerInstr (f : TimerRec → DWord → Bool → TimerRec) : QuietResult s (timerInstr idx f s k t) := by
  unfold timerInstr
  split <;> simp

@[simp] theorem quiet_countInstr (d : Int) (test : CounterRec → Bool) : QuietResult s (countInstr idx d test s k t) := by
  unfold countInstr
  split <;> simp

@[simp] theorem quiet_countLoad (f : CounterRec → Int) : QuietResult s (countLoad idx f s k t) := by
  unfold countLoad
  repeat' split
  all_goals simp

@[simp] theorem quiet_loadWord : QuietResult s (loadWord space idx s k t) := by
  unfold loadWord
  split <;> simp

end Effects

/-- An instruction that stores nothing leaves the state, or is run by `runInstr` with a quiet effect (R55, R57). -/
theorem exec_of_storesNothing {i : Instr} {j : Nat} {up : Upset} (h : aidonStoresNothing i = some (j, up)) (s : State) :
    exec i s = .next s ∨ ∃ cost fx, exec i s = .next (runInstr j up i cost fx s) ∧ ∀ s k t, QuietResult s (fx s k t) := by
  unfold aidonStoresNothing at h
  split at h <;> cases h
  case h_93.refl w =>
    by_cases hw : undefinedWord w = true
    · exact .inr ⟨_, _, congrArg Host.Outcome.next (if_pos hw), fun s _ _ => quietResult_error s _⟩
    · exact .inl (congrArg Host.Outcome.next (if_neg hw))
  case h_47.refl =>
    refine .inr ⟨_, _, rfl, fun s k t => ?_⟩
    dsimp only
    rcases dramJudge s k.lcore t.regs.wa.toNat false with _ | c
    · rcases addrBad s t.regs.wa.toNat 8 with _ | p
      · dsimp only
        split <;> simp
      · simp
    · simp
  all_goals
    refine .inr ⟨_, _, rfl, fun s k t => ?_⟩
    beta_reduce
    repeat' split
    all_goals simp

/-- A fault after steps within the frame. -/
theorem AidonFrame.taskFaults {j : Nat} {s t : State} {k : TaskRec} (h : AidonFrame j s t) (hk : k ∈ coreTasks s j)
    (pc : Nat) (f : AFault) : AidonFrame j s (Machine.taskFault t j k pc f) :=
  h.trans (.taskFault (by rwa [coreTasks_congr (by rw [h.1])]) pc f)

/-- A quiet effect after steps within the frame: its fault is taken, or its context of the task stands. -/
theorem AidonFrame.endsWith {j : Nat} {s t : State} {k : TaskRec} (h : AidonFrame j s t) (hk : k ∈ coreTasks s j)
    {r : Except AFault (State × TaskSt)} (hr : QuietResult t r) (pc : Nat) (up : Upset) :
    AidonFrame j s (match (generalizing := false) r with
      | .error f => Machine.taskFault t j k pc f
      | .ok (s', t') => s'.setTask k.task (struckTask t' up)) := by
  rcases r with f | ⟨s', t'⟩
  · exact h.taskFaults hk pc f
  · have upto : AidonFrame j s s' := h.trans (.of_regs (by rw [hr s' t' rfl]))
    exact upto.trans (.setTask (by rwa [coreTasks_congr (by rw [upto.1])]) _)

/-- An instruction with a quiet effect, on members that agree, is within the frame (R45, R69). -/
theorem AidonFrame.runInstr {s : State} {j : Nat} {up : Upset} {i : Instr} {cost : TaskSt → Nat} {fx : AEffect}
    (hq : ∀ s k t, QuietResult s (fx s k t)) (ha : ∀ k, currentTask s j = some k → MembersAgree s j k up) :
    AidonFrame j s (runInstr j up i cost fx s) := by
  unfold Machine.runInstr
  split
  · exact .refl j s
  · next k hk =>
    have hm := mem_coreTasks_of_currentTask hk
    dsimp only
    split
    · split
      · rw [compareMembers_agree (membersAgree_charge (ha k hk) 1)]
        exact (AidonFrame.charge hm 1).taskFaults hm _ _
      · have charged := AidonFrame.charge hm (cost (s.task k.task))
        have agree := membersAgree_charge (ha k hk) (cost (s.task k.task))
        generalize chargeTask s j k (cost (s.task k.task)) = c at charged agree
        split
        · exact charged.endsWith hm (hq c k _) _ up
        · rw [compareMembers_agree agree]
          exact charged.endsWith hm (hq c k _) _ ⟨[], []⟩
    · exact .refl j s

end Sys2Proof.Machine
end

section
/-! The charge and the frame of the Aidon instructions: the statement of O12. -/

namespace Sys2Proof.Machine

open Sys2Proof

/-- What an instruction on registers alone charges, and what it reports of the bound W (R45). -/
theorem registerOnly_charges {s : State} {i : Instr} {j cost : Nat} {k : TaskRec} {up : Upset}
    (hi : aidonRegisterOnly i = some (j, up, cost)) (hu : up.odd = []) (hc : CoreRuns s j k i)
    (hr : (s.task k.task).retry = false) {n : Nat} (hn : n = (s.task k.task).charged + cost) :
    ∃ t, exec i s = .next t ∧ (t.task k.task).charged = n ∧ (t.task k.task).active = (s.task k.task).active ∧
      (n ≤ taskW s k.task → t.recorder = s.recorder ∧ t.regs = s.regs) ∧
      (taskW s k.task < n → (s.task k.task).boundHit = false →
        t.flag F.TICK_OVR.BOUND_EXCEEDED = true ∧
        ∃ e, t.recorder.raised = s.recorder.raised ++ [e] ∧ e.cls = 1 ∧ e.code = 3 ∧ e.source = k.task ∧
          e.tick = (s.task k.task).cycle) := by
  subst hn
  obtain ⟨f, hf⟩ := exec_of_registerOnly hi s
  obtain ⟨charged, active, recorder, regs⟩ := regInstr_charges (cost := cost) (f := f) hc hu
  obtain ⟨n, b, task, count⟩ := chargeTask_task s j k cost
  refine ⟨_, hf, ?_, ?_, fun hw => ?_, fun hw hb => ?_⟩
  · rw [charged, task]
    exact count hr
  · rw [active, task]
  · rw [recorder, regs, chargeTask_within hr hw, countUse_frame]
    exact ⟨rfl, rfl⟩
  · obtain ⟨det, exceeds⟩ := chargeTask_exceeds hr hw hb
    rw [State.flag, State.fld, State.reg, regs, recorder, exceeds, countUse_frame]
    exact ⟨State.flag_note_same _ _ (by decide) (by decide), _, rfl, rfl, rfl, rfl, rfl⟩

/-- Settles O12: `regInstr` leaves what the charge leaves, and every instruction that stores nothing stays within
`AidonFrame`. -/
theorem chargesAndFrame : Obligations.ChargesAndFrame := by
  unfold Obligations.ChargesAndFrame
  refine ⟨fun s i j cost k up hi hu hc hr => registerOnly_charges hi hu hc hr rfl, fun s t i j up hi ha he => ?_⟩
  have frame : AidonFrame j s t := by
    rcases exec_of_storesNothing hi s with h | ⟨cost, fx, h, quiet⟩ <;> cases h.symm.trans he
    · exact .refl j s
    · exact .runInstr quiet ha
  obtain ⟨rest, task, core⟩ := frame
  exact ⟨rest, fun a => by rw [rest], task, core⟩

end Sys2Proof.Machine
end

section
/-! SUPPORT. What a tick edge leaves as it was once the lines are sampled: the registers that show the tick, the slot, the
state and the crown, the power state and what decides whether the module computes (R26, R35, R150, R159). -/

namespace Sys2Proof.Machine

open Sys2Proof

/-- The registers that a tick edge sets before its units are served. -/
def edgeRegs : List Nat :=
  [A.SYS_STATE, A.SYS_SLOT, A.SYS_TICK_LO, A.SYS_TICK_HI, A.TICK_STATUS, A.CROWN_OWN, A.CROWN_STATUS, A.CROWN_STORED]

/-- What the units of an edge and the cycle starts leave. -/
def edgeSide (s : State) : List Word × PowerSt × Bool × ResyncRole × Bool :=
  (edgeRegs.map s.reg, s.power, s.pair.outOfStep, s.resync.role, s.resync.loaded)

/-- What the units of an edge leave: the classes as well. -/
def EdgeKeeps (s t : State) : Prop := edgeSide t = edgeSide s ∧ t.classes = s.classes

/-- Items stand above every register of an edge. -/
theorem itemKey_not_mem_edgeRegs {a : Nat} (h : 0x80000 ≤ a) (i : Nat) : itemKey a i ∉ edgeRegs := by
  intro hm
  have low : ∀ b ∈ edgeRegs, b < 0x80000 := by decide
  have := low _ hm
  unfold itemKey at this
  omega

/-- So do the registers of the rings. -/
theorem ring_not_mem_edgeRegs {a : Nat} (h : 0x80000 ≤ a) (k : Nat) : a + 0x10000 * k ∉ edgeRegs := by
  intro hm
  have low : ∀ b ∈ edgeRegs, b < 0x80000 := by decide
  have := low _ hm
  omega

/-- And the words of the CAN message buffers. -/
theorem canWord_not_mem_edgeRegs (b i w : Nat) : canWord b i w ∉ edgeRegs := by
  intro hm
  have low : ∀ b ∈ edgeRegs, b < 0x80000 := by decide
  have := low _ hm
  have : canWord b i w = 0x148000 + b * 0x2000 + i * 0x80 + 4 * w := rfl
  omega

theorem edgeSide_setReg (s : State) {a : Nat} (h : a ∉ edgeRegs) (v : Word) : edgeSide (s.setReg a v) = edgeSide s := by
  unfold edgeSide
  rw [List.map_congr_left fun b hb => State.reg_setReg_other s v (fun e => h (e ▸ hb) : b ≠ a)]
  rfl

/-- Each register of an edge reads alike from one side of `edgeSide`. -/
theorem reg_of_edgeSide {s t : State} (h : edgeSide t = edgeSide s) {a : Nat} (ha : a ∈ edgeRegs) :
    t.reg a = s.reg a :=
  List.map_inj_left.mp (Prod.mk.inj h).1 a ha

namespace EdgeKeeps

theorem refl (s : State) : EdgeKeeps s s := ⟨rfl, rfl⟩

variable {s t u : State}

theorem trans (h : EdgeKeeps s t) (h' : EdgeKeeps t u) : EdgeKeeps s u := ⟨h'.1.trans h.1, h'.2.trans h.2⟩

theorem fold {α : Type} {f : State → α → State} (hf : ∀ t x, EdgeKeeps t (f t x)) (h : EdgeKeeps s t) (xs : List α) :
    EdgeKeeps s (xs.foldl f t) :=
  h.trans ⟨foldl_frame t edgeSide f (fun t x => (hf t x).1) xs, foldl_frame t State.classes f (fun t x => (hf t x).2) xs⟩

/-- Setting any other field. -/
theorem upd (h : EdgeKeeps s t) (regs : u.regs = t.regs := by rfl) (power : u.power = t.power := by rfl)
    (oos : u.pair.outOfStep = t.pair.outOfStep := by rfl) (role : u.resync.role = t.resync.role := by rfl)
    (loaded : u.resync.loaded = t.resync.loaded := by rfl) (classes : u.classes = t.classes := by rfl) : EdgeKeeps s u := by
  have reg : u.reg = t.reg := by
    unfold State.reg
    rw [regs]
  refine h.trans ⟨?_, classes⟩
  unfold edgeSide
  rw [reg, power, oos, role, loaded]

section Writes

variable (h : EdgeKeeps s t)
include h

theorem setReg {a : Nat} (ha : a ∉ edgeRegs) (v : Word) : EdgeKeeps s (t.setReg a v) :=
  h.trans ⟨edgeSide_setReg t ha v, rfl⟩

theorem setFld {f : Fld} (hf : f.reg ∉ edgeRegs) (v : Nat) : EdgeKeeps s (t.setFld f v) := h.setReg hf _

theorem setFlag {f : Fld} (hf : f.reg ∉ edgeRegs) (b : Bool) : EdgeKeeps s (t.setFlag f b) := h.setFld hf _

theorem note {f : Fld} (hf : f.reg ∉ edgeRegs) : EdgeKeeps s (t.note f) := h.setFld hf _

theorem count {f : Fld} (hf : f.reg ∉ edgeRegs) (n : Nat) : EdgeKeeps s (t.count f n) := h.setFld hf _

theorem setDword {a : Nat} (ha : a ∉ edgeRegs) (ha' : a + 4 ∉ edgeRegs) (v : DWord) : EdgeKeeps s (t.setDword a v) :=
  (h.setReg ha _).setReg ha' _

theorem raise (cls code src : Nat) (det : List Byte) : EdgeKeeps s (t.raise cls code src det) := h.upd

theorem emit (o : Out) : EdgeKeeps s (t.emit o) := h.upd

theorem withDio (f : DioSt → DioSt) : EdgeKeeps s (t.withDio f) := h.upd

theorem withTime (f : TimeSt → TimeSt) : EdgeKeeps s (t.withTime f) := h.upd

theorem withLoader (f : Loader → Loader) : EdgeKeeps s (t.withLoader f) := h.upd

theorem setAna (c : Nat) (a : AnaSt) : EdgeKeeps s (t.setAna c a) := h.upd

theorem setCan (b : Nat) (c : CanSt) : EdgeKeeps s (t.setCan b c) := h.upd

theorem setRing (k : Nat) (r : RingSt) : EdgeKeeps s (t.setRing k r) := h.upd

theorem setSess (k : Nat) (x : Session) : EdgeKeeps s (t.setSess k x) := h.upd

theorem setItem {f : Fld} (hf : 0x80000 ≤ f.reg) (i v : Nat) : EdgeKeeps s (t.setFld (f.item i) v) :=
  h.setFld (f := f.item i) (itemKey_not_mem_edgeRegs hf i) v

theorem setItemFlag {f : Fld} (hf : 0x80000 ≤ f.reg) (i : Nat) (b : Bool) : EdgeKeeps s (t.setFlag (f.item i) b) :=
  h.setItem hf i _

theorem noteItem {f : Fld} (hf : 0x80000 ≤ f.reg) (i : Nat) : EdgeKeeps s (t.note (f.item i)) := h.setItem hf i _

theorem countItem {f : Fld} (hf : 0x80000 ≤ f.reg) (i n : Nat) : EdgeKeeps s (t.count (f.item i) n) := h.setItem hf i _

theorem setPair {a : Nat} (ha : 0x80000 ≤ a) (i : Nat) (v : DWord) : EdgeKeeps s (t.setDword (itemKey a i) v) := by
  refine h.setDword (itemKey_not_mem_edgeRegs ha i) ?_ v
  have next : itemKey a i + 4 = itemKey (a + 4) i := by
    unfold itemKey
    omega
  rw [next]
  exact itemKey_not_mem_edgeRegs (by omega) i

end Writes

end EdgeKeeps

/-! ## The rings -/

section Rings

variable (s : State)

theorem EdgeKeeps.sendIdle (k first last : Nat) : EdgeKeeps s (sendIdle s k first last) := by
  refine .fold (fun t _ => ?_) (.refl s) _
  exact (EdgeKeeps.refl t).emit _

theorem EdgeKeeps.sendTrain (k : Nat) : EdgeKeeps s (sendTrain s k) := by
  unfold Machine.sendTrain
  extract_lets frame t
  have idle : EdgeKeeps s t := .sendIdle s k frame 200
  clear_value t
  split
  · split
    · refine .fold (fun u _ => ?_) idle _
      exact (EdgeKeeps.refl u).emit _
    · exact idle
  · exact .refl s

theorem EdgeKeeps.sendFrames (im : Image) (r : RingRec) : EdgeKeeps s (sendFrames s im r) := by
  unfold Machine.sendFrames
  dsimp only
  split
  · refine .fold (fun t _ => ?_) (.refl s) _
    exact (EdgeKeeps.refl t).emit _
  · exact .refl s

theorem EdgeKeeps.sendTrains : EdgeKeeps s (sendTrains s) := by
  unfold Machine.sendTrains
  dsimp only
  have idle : EdgeKeeps s ((List.range 48).foldl Machine.sendTrain s) := .fold EdgeKeeps.sendTrain (.refl s) _
  split
  · exact idle
  · refine .fold (fun t r => ?_) idle _
    exact .sendFrames t _ r

/-! ## Analogue, digital and CAN units -/

theorem EdgeKeeps.adoptResult (edge : DWord) (c : Nat) : EdgeKeeps s (adoptResult s edge c) := by
  unfold Machine.adoptResult
  dsimp only
  split
  · exact .refl s
  · split
    · exact (EdgeKeeps.refl s).setAna _ _
    · exact .refl s

theorem EdgeKeeps.readStraps (codes : List Nat) : EdgeKeeps s (readStraps s codes) := by
  unfold Machine.readStraps
  refine .fold (fun t c => ?_) (.refl s) _
  extract_lets a code t1 bad was t2 t3
  have strap : EdgeKeeps t t1 := (EdgeKeeps.refl t).setReg (by unfold a; split <;> decide) _
  have fault : EdgeKeeps t t2 := strap.setItemFlag (by decide) c _
  have shown : EdgeKeeps t t3 := fault.setItemFlag (by decide) c _
  clear_value t1 t2 t3
  split
  · split
    · exact shown.raise _ _ _ _
    · exact shown
  · exact strap

theorem EdgeKeeps.showDrive (c : Nat) (clamped warn : Bool) : EdgeKeeps s (showDrive s c clamped warn) :=
  ((EdgeKeeps.refl s).setItemFlag (by decide) c _).setItemFlag (by decide) c _

theorem EdgeKeeps.driveFail (c : Nat) : EdgeKeeps s (driveFail s c) :=
  (EdgeKeeps.showDrive s c false false).emit _

theorem EdgeKeeps.applyItem (c : Nat) (a : AnaSt) : EdgeKeeps s (applyOutput.applyItem s c a) := by
  unfold applyOutput.applyItem
  split
  · exact .refl s
  · split
    · split
      · exact .driveFail s c
      · exact .setAna (.setItemFlag (.refl s) (by decide) c _) c _
    · exact .emit (.setAna (.showDrive s c _ _) c _) _

theorem EdgeKeeps.applyOutput (held : List Nat) (c : Nat) : EdgeKeeps s (applyOutput held s c) := by
  unfold Machine.applyOutput
  dsimp only
  split
  · exact .refl s
  · split
    · exact .driveFail s c
    · split
      · split
        · split
          · exact .refl s
          · exact (EdgeKeeps.showDrive s c false false).emit _
        · exact .applyItem s c _
      · exact .applyItem s c _

theorem EdgeKeeps.dioCommandOne (c : Nat) : EdgeKeeps s (dioCommandOne s c) := by
  unfold Machine.dioCommandOne
  extract_lets -underBinder -merge -useContext +onlyGivenNames d put now
  have puts (t : State) (h : EdgeKeeps s t) (b warn safe : Bool) : EdgeKeeps s (put t b warn safe) :=
    .setItemFlag (.setItemFlag (h.withDio _) (by decide) c _) (by decide) c _
  clear_value put
  have own := EdgeKeeps.refl s
  split
  · exact own
  · split
    · exact own
    · split
      · split
        · split
          · exact (puts s own _ _ _).withDio _
          · exact puts s own _ _ _
        · exact puts _ (own.withDio _) _ _ _
      · exact puts _ (own.withDio _) _ _ _

theorem EdgeKeeps.dioEdge : EdgeKeeps s (dioEdge s) := by
  unfold Machine.dioEdge
  extract_lets t1 t2 t3
  have up : EdgeKeeps s t1 := (EdgeKeeps.refl s).setFlag (by decide) _
  have aged : EdgeKeeps s t2 := up.withDio _
  have applied : EdgeKeeps s t3 := by
    unfold t3
    clear_value t2
    split
    · exact aged.withDio _
    · split
      · exact aged
      · exact aged.withDio _
  clear_value t3
  split
  · exact .fold EdgeKeeps.dioCommandOne applied _
  · exact applied

theorem EdgeKeeps.latchStamps (counts : List DWord) : EdgeKeeps s (latchStamps s counts) := by
  unfold Machine.latchStamps
  refine .fold (fun t b => ?_) (.refl s) _
  split
  · exact ((EdgeKeeps.refl t).setPair (by decide) b _).setPair (by decide) b _
  · exact .refl t

theorem EdgeKeeps.setCanState (b i v : Nat) : EdgeKeeps s (setCanState s b i v) :=
  (EdgeKeeps.refl s).setFld (f := headFld b i 3 0) (canWord_not_mem_edgeRegs b i 0) v

theorem txReqFld_not_mem_edgeRegs (b i : Nat) : (txReqFld b i).reg ∉ edgeRegs := by
  refine itemKey_not_mem_edgeRegs ?_ b
  split <;> decide

theorem txAbortFld_not_mem_edgeRegs (b i : Nat) : (txAbortFld b i).reg ∉ edgeRegs := by
  refine itemKey_not_mem_edgeRegs ?_ b
  split <;> decide

theorem EdgeKeeps.txRequest (b i : Nat) : EdgeKeeps s (txRequest s b i) := by
  unfold Machine.txRequest txEnd
  split
  · split
    · exact ((EdgeKeeps.setCanState s b i 6).setFld (txReqFld_not_mem_edgeRegs b i) _).setFld
        (txAbortFld_not_mem_edgeRegs b i) _
    · exact (EdgeKeeps.setCanState s b i 2).setFld (txReqFld_not_mem_edgeRegs b i) _
  · exact .refl s

theorem EdgeKeeps.mapData (b i : Nat) (v : DWord) : EdgeKeeps s (mapData s b i v) := by
  have next : canWord b i 6 + 4 = canWord b i 7 := rfl
  exact (EdgeKeeps.refl s).setDword (canWord_not_mem_edgeRegs b i 6) (next ▸ canWord_not_mem_edgeRegs b i 7) v

theorem EdgeKeeps.mappedOne (b i : Nat) : EdgeKeeps s (mappedOne s b i) := by
  unfold Machine.mappedOne
  dsimp only
  split
  · split
    · exact .refl s
    · split
      · exact .refl s
      · split
        · exact (EdgeKeeps.refl s).setCan _ _
        · split
          · exact ((EdgeKeeps.refl s).setCan _ _).trans (.mapData _ b i _)
          · exact (EdgeKeeps.mapData s b i _).trans (.txRequest _ b i)
  · exact .refl s

theorem EdgeKeeps.mappedRequests : EdgeKeeps s (mappedRequests s) := by
  unfold Machine.mappedRequests
  split
  · refine .fold (fun t b => ?_) (.refl s) _
    split
    · refine .fold (fun u i => ?_) (.refl t) _
      exact .mappedOne u b i
    · exact .refl t
  · exact .refl s

/-! ## Triggers and starts -/

theorem EdgeKeeps.triggerCycle (cls : Nat) : EdgeKeeps s (triggerCycle s cls) := by
  unfold Machine.triggerCycle
  refine .fold (fun t i => ?_) (.refl s) _
  split
  · exact (EdgeKeeps.refl t).withTime _
  · exact .refl t

theorem EdgeKeeps.stampUnit (cap : Nat) (ns : DWord) (frac : Nat) : EdgeKeeps s (stampUnit s cap ns frac) := by
  unfold Machine.stampUnit
  extract_lets t1 t2
  have overrun : EdgeKeeps s t1 := by
    unfold t1
    split
    · exact .note (.noteItem (.refl s) (by decide) cap) (by decide)
    · exact .refl s
  clear_value t1
  have stamped : EdgeKeeps s t2 := .setItem (.setPair overrun (by decide) cap ns) (by decide) cap _
  exact .noteItem stamped (by decide) cap

theorem EdgeKeeps.stampStart (source : Nat) (ns : DWord) : EdgeKeeps s (stampStart s source ns) := by
  unfold Machine.stampStart
  refine .fold (fun t cap => ?_) (.refl s) _
  split
  · exact .stampUnit t cap ns 0
  · exact .refl t

theorem EdgeKeeps.anaStart (c : Nat) (t : DWord) : EdgeKeeps s (anaStart s c t) := by
  have own := EdgeKeeps.refl s
  unfold Machine.anaStart
  dsimp only
  split
  · exact own
  · split
    · exact .setAna (.note own (by decide)) c _
    · split
      · exact .note own (by decide)
      · exact (own.setAna c _).trans (.stampStart _ _ _)

theorem EdgeKeeps.cycleStarts (k : Nat) : EdgeKeeps s (cycleStarts s k) := by
  unfold Machine.cycleStarts
  refine .fold (fun t c => ?_) (.triggerCycle s k) _
  split
  · exact .anaStart t c _
  · exact .refl t

theorem EdgeKeeps.unitsEdge (e : EdgeIn) : EdgeKeeps s (unitsEdge s e) := by
  unfold Machine.unitsEdge
  extract_lets t1 held t2 t3 t4 t5 t6
  have results : EdgeKeeps s t1 := .fold (fun t c => .adoptResult t _ c) (.refl s) _
  clear_value t1
  have straps : EdgeKeeps s t2 := by
    unfold t2
    split
    · exact results.trans (.readStraps t1 _)
    · exact results
  clear_value t2
  have outputs : EdgeKeeps s t3 := (EdgeKeeps.fold (fun t c => .applyOutput t held c) straps _).trans (.dioEdge _)
  clear_value t3
  have stamps : EdgeKeeps s t4 := (outputs.trans (.latchStamps t3 _)).trans (.mappedRequests _)
  clear_value t4
  have warm : EdgeKeeps s t5 := stamps.setFld (by decide) _
  clear_value t5
  have starts : EdgeKeeps s t6 := .fold EdgeKeeps.cycleStarts warm _
  clear_value t6
  exact starts.upd

/-! ## Transactions that wait -/

theorem EdgeKeeps.askStation (ring svc station : Nat) (data : List Byte) (owner : AcycOwner) :
    EdgeKeeps s (askStation s ring svc station data owner) := (EdgeKeeps.refl s).setRing _ _

theorem EdgeKeeps.queueStampReads : EdgeKeeps s (queueStampReads s) := by
  unfold Machine.queueStampReads
  split
  · exact .refl s
  · refine .fold (fun t x => ?_) ((EdgeKeeps.refl s).withTime _) _
    exact .askStation t _ _ _ _ _

theorem EdgeKeeps.setReqs (k : Nat) (qs : List AcycReq) : EdgeKeeps s (setReqs s k qs) :=
  .setFld ((EdgeKeeps.refl s).setRing k _) (f := F.RING_ACYC.OUTSTANDING.ring k) (ring_not_mem_edgeRegs (by decide) k) _

theorem EdgeKeeps.journalUpdate (j : DWord) (f : JRec → JRec) : EdgeKeeps s (journalUpdate s j f) := by
  unfold Machine.journalUpdate
  split
  · exact .refl s
  · exact (EdgeKeeps.refl s).upd

theorem EdgeKeeps.countAnswer (code : Nat) : EdgeKeeps s (countAnswer s code) := by
  unfold Machine.countAnswer
  split
  · exact .count (.refl s) (by decide) 1
  · split
    · exact .count (.refl s) (by decide) 1
    · exact .refl s

theorem EdgeKeeps.setSessQueue (k : Nat) (q : List QCmd) : EdgeKeeps s (setSessQueue s k q) :=
  .setItem ((EdgeKeeps.refl s).setSess k _) (by decide) k _

theorem EdgeKeeps.finishCommand (k code : Nat) (data : List Byte) : EdgeKeeps s (finishCommand s k code data) := by
  unfold Machine.finishCommand
  split
  · exact .refl s
  · next q rest _ =>
    extract_lets t
    have journal : EdgeKeeps s t := by
      unfold t
      split
      · exact .refl s
      · exact .journalUpdate s _ _
    clear_value t
    split
    · exact journal.setSess k _
    · have sent : EdgeKeeps s ((Machine.countAnswer t code).sendNet (sessPort t k)
          (resultOut t k q.seq q.opcode false code data)) :=
        .emit (.countItem (journal.trans (.countAnswer t code)) (by decide) _ 1) _
      exact sent.trans (.setSessQueue _ k rest)

theorem EdgeKeeps.finishWaiting (k opcode code : Nat) (data : List Byte) :
    EdgeKeeps s (finishWaiting s k opcode code data) := by
  unfold Machine.finishWaiting
  split
  · exact .refl s
  · split
    · exact .finishCommand s k code data
    · exact .refl s

theorem EdgeKeeps.askLoad (x : StationRec) : EdgeKeeps s (askLoad s x) := by
  unfold Machine.askLoad
  refine .fold (fun t p => ?_) (.refl s) _
  exact .askStation t _ _ _ _ _

theorem EdgeKeeps.shadowTimeout (ring station : Nat) : EdgeKeeps s (shadowTimeout s ring station) := by
  unfold Machine.shadowTimeout
  split
  · extract_lets t u
    have dropped : EdgeKeeps s t := .setReqs s ring _
    clear_value t
    split
    · exact (dropped.withLoader _).trans (.askLoad u _)
    · exact (dropped.withLoader _).raise _ _ _ _
  · exact .refl s

theorem EdgeKeeps.deliverTimeout (ring : Nat) (q : AcycReq) : EdgeKeeps s (deliverTimeout s ring q) := by
  unfold Machine.deliverTimeout
  split
  · exact .finishWaiting s _ _ _ _
  · exact .shadowTimeout s ring _
  · exact .refl s
  · exact .refl s
  · exact .refl s
  · exact (EdgeKeeps.refl s).withTime _

theorem EdgeKeeps.expireRequests (k : Nat) : EdgeKeeps s (expireRequests s k) := by
  unfold Machine.expireRequests
  dsimp only
  split
  · exact .refl s
  · refine .fold (fun t q => ?_) (.setReqs s k _) _
    exact .deliverTimeout t k q

theorem EdgeKeeps.armTimeout : EdgeKeeps s (armTimeout s) := by
  unfold Machine.armTimeout answerWait
  split
  · exact .refl s
  · split
    · refine .withLoader ?_ _
      split
      · exact .refl s
      · exact ((EdgeKeeps.refl s).withLoader _).trans (.finishWaiting _ _ _ _ _)
    · exact .refl s

theorem EdgeKeeps.newHolder (before : Word) : EdgeKeeps s (newHolder s before) := by
  unfold Machine.newHolder
  split
  · refine .fold (fun t k => ?_) (.refl s) _
    split
    · unfold loadRingShadows
      split
      · exact .refl t
      · split
        · refine .fold (fun u x => ?_) (.refl t) _
          split
          · exact .refl u
          · exact ((EdgeKeeps.refl u).withLoader _).trans (.askLoad _ x)
        · exact .refl t
    · exact .refl t
  · exact .refl s

end Rings

end Sys2Proof.Machine
end

section
/-! SUPPORT. The steps of a tick edge: the clock set, the lines sampled, the class cycles begun, the units served (R26,
R35, R36, R150, R159). -/

namespace Sys2Proof.Machine

open Sys2Proof

/-- A fold leaves what every step with an element of the list leaves. -/
theorem foldl_frame_mem {α β : Type} (p : State → β) {f : State → α → State} {xs : List α}
    (h : ∀ t, ∀ x ∈ xs, p (f t x) = p t) (s : State) : p (xs.foldl f s) = p s :=
  List.foldlRecOn xs f (motive := fun t => p t = p s) rfl fun t ht x hx => (h t x hx).trans ht

section Steps

variable (s : State)

/-! ## Before the lines are sampled -/

/-- The tick number and the clock of an edge. -/
def openTick (n : DWord) : State := ((s.setDword A.SYS_TICK_LO n).setNow (edgeNs n) 0).window 0

/-- The lines sampled at an edge, with the crown presented (R13, R159). -/
def takeLines (e : EdgeIn) (n : DWord) : State :=
  sampleLines ((clearTick (countCommit (openTick s n))).setReg A.CROWN_OWN (openTick s n).crown) e

theorem reg_openTick (n : DWord) {a : Nat}
    (ha : a ∉ [A.SYS_TICK_LO, A.SYS_TICK_HI, A.TIME_NOW_LO, A.TIME_NOW_HI, A.TIME_NOW_FRAC, A.TICK_STATUS]) :
    (openTick s n).reg a = s.reg a := by
  obtain ⟨h1, h2, h3, h4, h5, h6⟩ : a ≠ A.SYS_TICK_LO ∧ a ≠ A.SYS_TICK_HI ∧ a ≠ A.TIME_NOW_LO ∧ a ≠ A.TIME_NOW_HI ∧
      a ≠ A.TIME_NOW_FRAC ∧ a ≠ A.TICK_STATUS := by simpa using ha
  unfold openTick State.window State.setNow
  rw [State.reg_setFld_other _ _ h6, State.reg_setFld_other _ _ h5, State.reg_setDword_other _ _ h3 h4,
    State.reg_setDword_other _ _ h1 h2]

theorem tick_openTick (n : DWord) : (openTick s n).tick = n := by
  have lo : (openTick s n).reg A.SYS_TICK_LO = (s.setDword A.SYS_TICK_LO n).reg A.SYS_TICK_LO := by
    unfold openTick State.window State.setNow
    rw [State.reg_setFld_other _ _ (by decide), State.reg_setFld_other _ _ (by decide),
      State.reg_setDword_other _ _ (by decide) (by decide)]
  have hi : (openTick s n).reg (A.SYS_TICK_LO + 4) = (s.setDword A.SYS_TICK_LO n).reg (A.SYS_TICK_LO + 4) := by
    unfold openTick State.window State.setNow
    rw [State.reg_setFld_other _ _ (by decide), State.reg_setFld_other _ _ (by decide),
      State.reg_setDword_other _ _ (by decide) (by decide)]
  rw [State.tick, State.dword, lo, hi]
  exact State.tick_setDword s n

theorem ticking_openTick (n : DWord) : (openTick s n).ticking = s.ticking := by
  unfold openTick State.window State.setNow State.ticking
  rw [State.flag_setFld_other _ _ _ _ (.inr (by decide)), State.flag_setFld_other _ _ _ _ (.inl (by decide)),
    State.flag, State.fld, State.reg_setDword_other _ _ (by decide) (by decide),
    State.reg_setDword_other _ _ (by decide) (by decide)]
  rfl

theorem EdgeKeeps.clearTick : EdgeKeeps s (clearTick s) := by
  unfold Machine.clearTick
  extract_lets t1 t2 t3 t4
  have partner : EdgeKeeps s t1 := .setReg (.setFld (.refl s) (by decide) 7) (by decide) 0
  clear_value t1
  have pair : EdgeKeeps s t2 := partner.upd
  clear_value t2
  have rings : EdgeKeeps s t3 := by
    refine .fold (fun t x => ?_) pair _
    exact (EdgeKeeps.refl t).setRing _ _
  clear_value t3
  have clean : EdgeKeeps s t4 := .setFlag rings (by decide) _
  exact clean.upd

/-- What shows the crown and the state reads alike with the same registers. -/
theorem crown_congr {s t : State} (state : t.reg A.SYS_STATE = s.reg A.SYS_STATE)
    (slot : t.reg A.SYS_SLOT = s.reg A.SYS_SLOT) (stored : t.reg A.CROWN_STORED = s.reg A.CROWN_STORED)
    (oos : t.pair.outOfStep = s.pair.outOfStep) : t.crown = s.crown := by
  unfold State.crown State.rank State.holds State.epoch State.parity State.mode State.fld
  rw [state, slot, stored, oos]

/-- The fields that `edgeSide` shows. -/
theorem fields_of_edgeSide {s t : State} (h : edgeSide t = edgeSide s) : t.power = s.power ∧
    t.pair.outOfStep = s.pair.outOfStep ∧ t.resync.role = s.resync.role ∧ t.resync.loaded = s.resync.loaded := by
  simp only [edgeSide, Prod.mk.injEq] at h
  exact h.2

/-- Whether the module computes shows in what the units of an edge leave. -/
theorem computes_of_edgeSide {s t : State} (h : edgeSide t = edgeSide s) : t.computes = s.computes := by
  have state := reg_of_edgeSide h (a := A.SYS_STATE) (by decide)
  obtain ⟨-, oos, role, loaded⟩ := fields_of_edgeSide h
  unfold State.computes State.holds State.joining State.mode State.fld
  rw [state, oos, role, loaded]

/-- The state with the crown presented, before the lines are sampled. -/
def presentCrown (n : DWord) : State :=
  (clearTick (countCommit (openTick s n))).setReg A.CROWN_OWN (openTick s n).crown

theorem takeLines_eq (e : EdgeIn) (n : DWord) : takeLines s e n = sampleLines (presentCrown s n) e := rfl

theorem reg_presentCrown (n : DWord) {a : Nat} (ha : a ∈ edgeRegs) (h : a ≠ A.CROWN_OWN) :
    (presentCrown s n).reg a = (openTick s n).reg a := by
  unfold presentCrown
  rw [State.reg_setReg_other _ _ h, reg_of_edgeSide (EdgeKeeps.clearTick _).1 ha]
  rfl

/-- Sampling the lines sets no register but SYS_SLOT and CROWN_STATUS. -/
theorem reg_sampleLines (e : EdgeIn) {a : Nat} (h : a ≠ A.SYS_SLOT) (h' : a ≠ A.CROWN_STATUS) :
    (sampleLines s e).reg a = s.reg a := by
  have regs : (sampleLines s e).reg a = (((s.setFlag F.SYS_SLOT.PARTNER_PRESENT e.present).setFlag
    F.CROWN_STATUS.CLA_TOGGLED (e.cla != s.pair.claLevel)).setFlag F.CROWN_STATUS.CLH_IN e.clh).reg a := rfl
  rw [regs, State.setFlag, State.reg_setFld_other _ _ h', State.setFlag, State.reg_setFld_other _ _ h', State.setFlag,
    State.reg_setFld_other _ _ h]

theorem present_sampleLines (e : EdgeIn) : (sampleLines s e).flag F.SYS_SLOT.PARTNER_PRESENT = e.present := by
  have regs : (sampleLines s e).flag F.SYS_SLOT.PARTNER_PRESENT = (((s.setFlag F.SYS_SLOT.PARTNER_PRESENT e.present).setFlag
    F.CROWN_STATUS.CLA_TOGGLED (e.cla != s.pair.claLevel)).setFlag F.CROWN_STATUS.CLH_IN e.clh).flag
      F.SYS_SLOT.PARTNER_PRESENT := rfl
  rw [regs, State.setFlag, State.flag_setFld_other _ _ _ _ (.inl (by decide)), State.setFlag,
    State.flag_setFld_other _ _ _ _ (.inl (by decide)), State.flag_setFlag_same _ _ _ (by decide) (by decide)]

theorem clh_sampleLines (e : EdgeIn) : (sampleLines s e).flag F.CROWN_STATUS.CLH_IN = e.clh :=
  State.flag_setFlag_same _ _ _ (by decide) (by decide)

/-- What the lines sampled at an edge show, and what decides whether the module computes. -/
theorem takeLines_spec (e : EdgeIn) (n : DWord) : (takeLines s e n).tick = n ∧
    (takeLines s e n).ticking = s.ticking ∧ (takeLines s e n).flag F.SYS_SLOT.PARTNER_PRESENT = e.present ∧
    (takeLines s e n).flag F.CROWN_STATUS.CLH_IN = e.clh ∧ (takeLines s e n).reg A.CROWN_OWN = s.crown ∧
    (takeLines s e n).power.committed = false ∧ (takeLines s e n).computes = s.computes ∧
    (takeLines s e n).classes = s.classes := by
  rw [takeLines_eq]
  have reg {a : Nat} (ha : a ∈ edgeRegs) (h : a ∉ [A.CROWN_OWN, A.SYS_SLOT, A.CROWN_STATUS]) :
      (sampleLines (presentCrown s n) e).reg a = (openTick s n).reg a := by
    obtain ⟨own, slot, status⟩ : a ≠ A.CROWN_OWN ∧ a ≠ A.SYS_SLOT ∧ a ≠ A.CROWN_STATUS := by simpa using h
    rw [reg_sampleLines _ _ slot status, reg_presentCrown s n ha own]
  have crown : (openTick s n).crown = s.crown :=
    crown_congr (reg_openTick s n (by decide)) (reg_openTick s n (by decide)) (reg_openTick s n (by decide)) rfl
  obtain ⟨side, classes⟩ := EdgeKeeps.clearTick (countCommit (openTick s n))
  obtain ⟨power, oos, role, loaded⟩ := fields_of_edgeSide side
  refine ⟨?_, ?_, present_sampleLines _ e, clh_sampleLines _ e, ?_, ?_, ?_, classes⟩
  · rw [State.tick, State.dword, reg (by decide) (by decide), reg (by decide) (by decide)]
    exact tick_openTick s n
  · rw [State.ticking, State.flag, State.fld, reg (by decide) (by decide)]
    exact ticking_openTick s n
  · rw [reg_sampleLines _ _ (by decide) (by decide), presentCrown, State.reg_setReg_same, crown]
  · exact (congrArg PowerSt.committed power).trans rfl
  · unfold State.computes State.holds State.joining State.mode State.fld
    rw [reg (by decide) (by decide), reg_openTick s n (by decide)]
    have oos' : (sampleLines (presentCrown s n) e).pair.outOfStep = s.pair.outOfStep := oos
    have role' : (sampleLines (presentCrown s n) e).resync.role = s.resync.role := role
    have loaded' : (sampleLines (presentCrown s n) e).resync.loaded = s.resync.loaded := loaded
    rw [oos', role', loaded']

/-! ## The class cycles -/

theorem edgeSide_startCycle (k : Nat) : edgeSide (startCycle s k) = edgeSide s := by
  unfold startCycle
  exact foldl_frame _ edgeSide taskStarts (fun _ _ => rfl) _

theorem edgeSide_skipCycle {k : Nat} (hk : k < 8) : edgeSide (skipCycle s k) = edgeSide s := by
  have consec : ∀ k < 8, (consecFld k).reg ∉ edgeRegs := by decide
  unfold skipCycle
  extract_lets before t n
  have counted : edgeSide t = edgeSide s := edgeSide_setReg s (consec k hk) _
  clear_value t
  split
  · exact (edgeSide_setReg t (by decide) _).trans counted
  · exact counted

theorem edgeSide_classEdge : edgeSide (classEdge s) = edgeSide s := by
  refine foldl_frame_mem edgeSide (fun t k hk => ?_) s
  split
  · split
    · exact edgeSide_skipCycle t (List.mem_range.mp hk)
    · exact edgeSide_startCycle t k
  · rfl

/-! ## The edge -/

theorem EdgeKeeps.sendStatus (n : DWord) : EdgeKeeps s (sendStatus s n) := by
  unfold Machine.sendStatus
  split
  · exact .refl s
  · refine .fold (fun t l => ?_) (.refl s) _
    split
    · exact (EdgeKeeps.refl t).upd
    · exact .refl t

theorem EdgeKeeps.verdictTick : EdgeKeeps s (verdictTick s) := by
  unfold Machine.verdictTick
  split
  · exact .refl s
  · dsimp only
    split
    · exact (EdgeKeeps.refl s).upd
    · split
      · exact (EdgeKeeps.refl s).upd
      · exact .refl s

theorem EdgeKeeps.splitTick : EdgeKeeps s (splitTick s) := by
  unfold Machine.splitTick
  split
  · exact .refl s
  · exact .setFld (.setFld (.refl s) (by decide) _) (by decide) _

/-- What an edge does from the lines sampled to the class cycles. -/
def beforeCycles (e : EdgeIn) (n : DWord) : State := verdictTick (splitTick (sendStatus (takeLines s e n) n))

theorem EdgeKeeps.beforeCycles (e : EdgeIn) (n : DWord) : EdgeKeeps (takeLines s e n) (beforeCycles s e n) :=
  ((EdgeKeeps.sendStatus _ n).trans (.splitTick _)).trans (.verdictTick _)

/-- The class cycles of an edge begin where the module computes (R36). -/
def beginCycles (s : State) : State := if s.computes then classEdge s else s

/-- What an edge does after the class cycles have begun. -/
def serveEdge (s : State) (e : EdgeIn) (n : DWord) (before : Word) : State :=
  let s := unitsEdge (sendTrains s) e
  let s := if s.computes then s else { s with committedPrev := s.committed }
  let s := if n.toNat % 1024 = 0 then queueStampReads s else s
  newHolder (armTimeout ((s.rings.map Prod.fst).foldl expireRequests s)) before

theorem runEdge_eq (e : EdgeIn) (n : DWord) :
    runEdge s e n = serveEdge (beginCycles (beforeCycles s e n)) e n (s.reg A.CROWN_OWN) := rfl

theorem EdgeKeeps.serveEdge (e : EdgeIn) (n : DWord) (before : Word) : EdgeKeeps s (serveEdge s e n before) := by
  unfold Machine.serveEdge
  extract_lets t1 t2 t3
  have units : EdgeKeeps s t1 := (EdgeKeeps.sendTrains s).trans (.unitsEdge _ e)
  clear_value t1
  have held : EdgeKeeps s t2 := by
    unfold t2
    split
    · exact units
    · exact units.upd
  clear_value t2
  have queued : EdgeKeeps s t3 := by
    unfold t3
    split
    · exact held.trans (.queueStampReads t2)
    · exact held
  clear_value t3
  exact ((EdgeKeeps.fold EdgeKeeps.expireRequests queued _).trans (.armTimeout _)).trans (.newHolder _ before)

theorem edgeSide_beginCycles : edgeSide (beginCycles s) = edgeSide s := by
  unfold beginCycles
  split
  · exact edgeSide_classEdge s
  · rfl

/-- What an edge leaves of the lines sampled. -/
theorem edgeSide_runEdge (e : EdgeIn) (n : DWord) : edgeSide (runEdge s e n) = edgeSide (takeLines s e n) := by
  rw [runEdge_eq, (EdgeKeeps.serveEdge _ _ _ _).1, edgeSide_beginCycles, (EdgeKeeps.beforeCycles s e n).1]

/-- What an edge with number `n` shows (R11, R25, R26, R159). -/
theorem runEdge_spec (e : EdgeIn) (n : DWord) : (runEdge s e n).tick = n ∧ (runEdge s e n).ticking = s.ticking ∧
    (runEdge s e n).flag F.SYS_SLOT.PARTNER_PRESENT = e.present ∧
    (runEdge s e n).flag F.CROWN_STATUS.CLH_IN = e.clh ∧ (runEdge s e n).reg A.CROWN_OWN = s.crown ∧
    (runEdge s e n).power.committed = false := by
  have side := edgeSide_runEdge s e n
  have reg {a : Nat} (ha : a ∈ edgeRegs) := reg_of_edgeSide side ha
  have fld (f : Fld) (hf : f.reg ∈ edgeRegs) : (runEdge s e n).flag f = (takeLines s e n).flag f := by
    rw [State.flag, State.fld, reg hf, State.flag, State.fld]
  obtain ⟨tick, ticking, present, clh, own, committed, -, -⟩ := takeLines_spec s e n
  refine ⟨?_, (fld _ (by decide)).trans ticking, (fld _ (by decide)).trans present, (fld _ (by decide)).trans clh,
    (reg (by decide)).trans own, (congrArg PowerSt.committed (fields_of_edgeSide side).1).trans committed⟩
  rw [State.tick, State.dword, reg (by decide), reg (by decide)]
  exact tick

/-! ## Before the first tick -/

/-- An edge while no tick runs shows no tick (R35). -/
theorem reg_idleEdge (e : EdgeIn) (n : DWord) {a : Nat} (ha : a ∈ [A.SYS_TICK_LO, A.SYS_TICK_HI, A.TICK_STATUS]) :
    (idleEdge s e n).reg a = s.reg a := by
  have edge : a ∈ edgeRegs := (by decide : ∀ b ∈ [A.SYS_TICK_LO, A.SYS_TICK_HI, A.TICK_STATUS], b ∈ edgeRegs) a ha
  obtain ⟨hs, hc, ho, hp, hr⟩ := (by decide : ∀ b ∈ [A.SYS_TICK_LO, A.SYS_TICK_HI, A.TICK_STATUS], b ≠ A.SYS_SLOT ∧
    b ≠ A.CROWN_STATUS ∧ b ≠ A.CROWN_OWN ∧ b ≠ A.CROWN_PARTNER ∧ b ≠ A.STRAIT_STATUS) a ha
  obtain ⟨h1, h2, h3⟩ := (by decide : ∀ b ∈ [A.SYS_TICK_LO, A.SYS_TICK_HI, A.TICK_STATUS], b ≠ A.TIME_NOW_LO ∧
    b ≠ A.TIME_NOW_LO + 4 ∧ b ≠ A.TIME_NOW_FRAC) a ha
  unfold idleEdge
  extract_lets t1 t2 t3
  have clock : t2.reg a = s.reg a := by
    unfold t2 t1 State.setNow
    rw [State.reg_setFld_other _ _ h3, State.reg_setDword_other _ _ h1 h2, State.reg_setReg_other _ _ ho,
      State.reg_setReg_other _ _ hp, State.reg_setFld_other _ _ hr]
  clear_value t2
  have sent : EdgeKeeps (sampleLines t2 e) t3 :=
    (EdgeKeeps.fold EdgeKeeps.sendTrain (.sendStatus _ n) _).trans (.latchStamps _ _)
  clear_value t3
  have driven : EdgeKeeps (sampleLines t2 e) (if t3.running then t3 else (List.range 32).foldl (applyOutput []) t3) := by
    split
    · exact sent
    · exact .fold (EdgeKeeps.applyOutput · []) sent _
  rw [reg_of_edgeSide driven.1 edge, reg_sampleLines _ _ hs hc, clock]

theorem EdgeKeeps.flushFirst : EdgeKeeps s (flushFirst s) := by
  have storeMem (t : State) (a : Nat) (bs : List Byte) : EdgeKeeps t (t.storeMem a bs) := by
    unfold State.storeMem
    dsimp only
    split
    · exact (EdgeKeeps.refl t).upd
    · exact (EdgeKeeps.refl t).upd
  unfold Machine.flushFirst flushCopy
  split
  · exact .refl s
  · split
    · refine EdgeKeeps.upd (t := List.foldl _ s _) (.fold (fun t u => ?_) (.refl s) _)
      exact storeMem t _ _
    · exact .refl s

theorem EdgeKeeps.setTrigNext (i : Nat) (t : Option DWord) : EdgeKeeps s (setTrigNext s i t) :=
  (EdgeKeeps.refl s).withTime _

theorem EdgeKeeps.trigState (i v : Nat) : EdgeKeeps s (trigState s i v) :=
  .setItem (.setItem (.refl s) (by decide) i v) (by decide) i _

theorem EdgeKeeps.armTrigger (i : Nat) : EdgeKeeps s (armTrigger s i) := by
  have arms (t : Option DWord) : EdgeKeeps s (Machine.setTrigNext (Machine.trigState s i 1) i t) :=
    (EdgeKeeps.trigState s i 1).trans (.setTrigNext _ i t)
  unfold Machine.armTrigger
  dsimp only
  split
  · exact .refl s
  · split
    · split
      · exact .note (.trigState s i 3) (by decide)
      · exact arms _
    · split
      · exact .refl s
      · exact arms _
    · split
      · exact .refl s
      · exact arms _
    · exact .refl s

theorem EdgeKeeps.writeTrigCtrl (i : Nat) (v : Word) : EdgeKeeps s (writeTrigCtrl s i v) := by
  unfold Machine.writeTrigCtrl
  extract_lets t1 t2 t3 t4
  have stored : EdgeKeeps s t3 :=
    .setItem (.setItem (.setItem (.refl s) (by decide) i _) (by decide) i _) (by decide) i _
  clear_value t3
  have off : EdgeKeeps s t4 := (stored.trans (.trigState t3 i 0)).trans (.setTrigNext _ i none)
  clear_value t4
  split
  · exact off.trans (.armTrigger t4 i)
  · exact off

theorem EdgeKeeps.armImageTriggers : EdgeKeeps s (armImageTriggers s) := by
  unfold Machine.armImageTriggers
  split
  · exact .refl s
  · next im _ =>
    refine List.foldlRecOn im.reginit _ (motive := fun (x : Nat × State) => EdgeKeeps s x.2) (.refl s) fun x hx r _ => ?_
    dsimp only
    split
    · exact hx
    · split
      · exact hx.trans (.writeTrigCtrl x.2 x.1 _)
      · exact hx

/-- What TICK_EDGE does while ticks run (R25). -/
theorem exec_tickEdge_ticking {s : State} (e : EdgeIn) (hh : s.power.held = false) (hd : s.power.resetDue = false)
    (ht : s.ticking = true) : exec (.tickEdge e) s = .next (runEdge (flushFirst s) e (s.tick + 1)) := by
  show execTickEdge e s = _
  unfold execTickEdge
  rw [hh, hd, ht]
  rfl

/-- What TICK_EDGE does while no tick runs (R35). -/
theorem exec_tickEdge_idle {s : State} (e : EdgeIn) (hh : s.power.held = false) (hd : s.power.resetDue = false)
    (ht : s.ticking = false) : exec (.tickEdge e) s = .next (if firstTick s e.tickBefore then
      runEdge (armImageTriggers ((s.setFlag F.TICK_STATUS.RUNNING true).setNow (edgeNs e.tickBefore) 0)) e e.tickBefore
      else idleEdge s e e.tickBefore) := by
  show execTickEdge e s = _
  unfold execTickEdge
  rw [hh, hd, ht]
  rfl

end Steps

end Sys2Proof.Machine
end

section
/-! The tick edge: the statement of O14. -/

namespace Sys2Proof.Machine

open Sys2Proof

variable {s : State}

/-- The first tick (R35). -/
theorem tickEdge_first (e : EdgeIn) (hh : s.power.held = false) (hd : s.power.resetDue = false) (ht : s.ticking = false)
    (hf : firstTick s e.tickBefore = true) :
    ∃ t, exec (.tickEdge e) s = .next t ∧ t.ticking = true ∧ t.tick = e.tickBefore := by
  refine ⟨_, exec_tickEdge_idle e hh hd ht, ?_⟩
  rw [if_pos hf]
  obtain ⟨tick, ticking, -⟩ := runEdge_spec (armImageTriggers ((s.setFlag F.TICK_STATUS.RUNNING true).setNow
    (edgeNs e.tickBefore) 0)) e e.tickBefore
  refine ⟨ticking.trans ?_, tick⟩
  have armed := reg_of_edgeSide (EdgeKeeps.armImageTriggers ((s.setFlag F.TICK_STATUS.RUNNING true).setNow
    (edgeNs e.tickBefore) 0)).1 (a := A.TICK_STATUS) (by decide)
  have clock (v : DWord) : ((s.setFlag F.TICK_STATUS.RUNNING true).setNow v 0).reg A.TICK_STATUS =
      (s.setFlag F.TICK_STATUS.RUNNING true).reg A.TICK_STATUS := by
    unfold State.setNow
    rw [State.reg_setFld_other _ _ (by decide), State.reg_setDword_other _ _ (by decide) (by decide)]
  rw [State.ticking, State.flag, State.fld, armed, clock]
  exact State.flag_setFlag_same s _ true (by decide) (by decide)

/-- An edge before the first tick (R35). -/
theorem tickEdge_idle (e : EdgeIn) (hh : s.power.held = false) (hd : s.power.resetDue = false) (ht : s.ticking = false)
    (hf : firstTick s e.tickBefore = false) :
    ∃ t, exec (.tickEdge e) s = .next t ∧ t.ticking = false ∧ t.tick = s.tick := by
  refine ⟨_, exec_tickEdge_idle e hh hd ht, ?_⟩
  rw [hf, if_neg Bool.false_ne_true]
  have reg {a : Nat} (ha : a ∈ [A.SYS_TICK_LO, A.SYS_TICK_HI, A.TICK_STATUS]) := reg_idleEdge s e e.tickBefore ha
  refine ⟨Eq.trans ?_ ht, ?_⟩
  · rw [State.ticking, State.flag, State.fld, reg (by decide), State.ticking, State.flag, State.fld]
  · rw [State.tick, State.dword, reg (by decide), reg (by decide), State.tick, State.dword]

/-- When an edge is the first tick, in the counter's units (R17, R35). -/
theorem firstTick_iff (s : State) (n : DWord) : firstTick s n = true ↔ s.flag F.TIME_STATUS.ACQUIRED = true ∧
    62500 * 256 + (s.time.acqFrac : Int) ≤ (n * 62500 - s.time.acqAt).toInt * 256 := by
  unfold firstTick
  rw [Bool.and_eq_true, decide_eq_true_eq]
  rfl

/-- Settles O14: the first tick is judged by `firstTick`, and an edge of the running tick shows what the lines that it
samples show, which its units and class cycles leave. -/
theorem ticksStartAndFollow : Obligations.TicksStartAndFollow := by
  unfold Obligations.TicksStartAndFollow
  refine ⟨fun s e hh hd ht => ?_, fun s e hh hd ht => ?_⟩
  · simp only [← firstTick_iff s e.tickBefore]
    cases hf : firstTick s e.tickBefore with
    | true => simpa using tickEdge_first e hh hd ht hf
    | false => simpa using tickEdge_idle e hh hd ht hf
  · obtain ⟨tick, ticking, present, clh, own, committed⟩ := runEdge_spec (flushFirst s) e (s.tick + 1)
    have flushed := (EdgeKeeps.flushFirst s).1
    have reg {a : Nat} (ha : a ∈ edgeRegs) := reg_of_edgeSide flushed ha
    have crown : (flushFirst s).crown = s.crown :=
      crown_congr (reg (by decide)) (reg (by decide)) (reg (by decide)) (fields_of_edgeSide flushed).2.1
    refine ⟨_, exec_tickEdge_ticking e hh hd ht, tick, ticking.trans (Eq.trans ?_ ht), present, clh, own.trans crown,
      committed⟩
    rw [State.ticking, State.flag, State.fld, reg (by decide)]
    rfl

end Sys2Proof.Machine
end

section
/-! SUPPORT. Class cycles one by one: what a cycle start, a publication and an overrun of one class do to it, and what they
leave of the other classes (R36, R38, R46, R47). -/

namespace Sys2Proof.Machine

open Sys2Proof

/-! ## One class among the eight -/

/-- A number below `n` parts the range into what is passed before it and after it. -/
theorem range_split {k n : Nat} (hk : k < n) : ∃ before after, List.range n = before ++ k :: after ∧
    (∀ j ∈ before, j < n ∧ j ≠ k) ∧ ∀ j ∈ after, j < n ∧ j ≠ k := by
  obtain ⟨before, after, h⟩ := List.append_of_mem (List.mem_range.mpr hk)
  have nodup : (before ++ k :: after).Nodup := h ▸ List.nodup_range
  have bound (j : Nat) (hj : j ∈ before ++ k :: after) : j < n := List.mem_range.mp (h ▸ hj)
  obtain ⟨-, tail, apart⟩ := List.nodup_append.mp nodup
  refine ⟨before, after, h, fun j hj => ⟨bound j (by simp [hj]), apart j hj k (by simp)⟩,
    fun j hj => ⟨bound j (by simp [hj]), fun e => (List.nodup_cons.mp tail).1 (e ▸ hj)⟩⟩

/-- A fold over the classes, seen from class `k`: what the steps of the others leave, and what no step destroys. -/
theorem foldl_range_at {β : Type} (p : State → β) {f : State → Nat → State} {k n : Nat} (hk : k < n)
    (h : ∀ t j, j < n → j ≠ k → p (f t j) = p t) (s : State) :
    ∃ u, p u = p s ∧ p ((List.range n).foldl f s) = p (f u k) ∧ ∀ Q : State → Prop,
      (∀ t j, j < n → Q t → Q (f t j)) → (Q s → Q u) ∧ (Q (f u k) → Q ((List.range n).foldl f s)) := by
  obtain ⟨before, after, e, hb, ha⟩ := range_split hk
  refine ⟨before.foldl f s, foldl_frame_mem p (fun t j hj => h t j (hb j hj).1 (hb j hj).2) s, ?_⟩
  rw [e, List.foldl_append, List.foldl_cons]
  exact ⟨foldl_frame_mem p (fun t j hj => h t j (ha j hj).1 (ha j hj).2) _,
    fun Q hQ => ⟨fun h => List.foldlRecOn (motive := Q) before f h fun t ht j hj => hQ t j (hb j hj).1 ht,
      fun h => List.foldlRecOn (motive := Q) after f h fun t ht j hj => hQ t j (ha j hj).1 ht⟩⟩

/-- The numbers that TICK_CLS_OVR and TICK_CLS_LAST show stand in registers of their own. -/
theorem classRegs_apart {j k : Nat} (hj : j < 8) (hk : k < 8) :
    (j ≠ k → A.TICK_CLS_OVR0 + 4 * j ≠ A.TICK_CLS_OVR0 + 4 * k ∧
      A.TICK_CLS_LAST0 + 4 * j ≠ A.TICK_CLS_LAST0 + 4 * k) ∧
    A.TICK_CLS_OVR0 + 4 * j ≠ A.TICK_CLS_LAST0 + 4 * k := by
  have ovr : A.TICK_CLS_OVR0 = 0x010040 := rfl
  have last : A.TICK_CLS_LAST0 = 0x010060 := rfl
  omega

/-- A counted field shows one more, up to its largest value. -/
theorem State.fld_count_same (s : State) {f : Fld} (h : f.hi < 32) (n : Nat) :
    (s.count f n).fld f = min f.top (s.fld f + n) := by
  have top : countUp f.top (s.fld f) n < 2 ^ (f.hi + 1 - f.lo) :=
    Nat.lt_of_le_of_lt (Nat.min_le_left _ _) (Nat.sub_lt (Nat.two_pow_pos _) Nat.one_pos)
  rw [State.count, State.fld_setFld_same _ _ _ h, Nat.mod_eq_of_lt top]
  rfl

/-- A bit that `setOvr` sets. -/
theorem bit_setOvr_same (s : State) {b : Nat} (h : b < 32) : bit ((setOvr s b).reg A.TICK_OVR) b = true := by
  unfold setOvr bit
  rw [State.reg_setReg_same, BitVec.getLsbD_or, BitVec.getLsbD_ofNat, Nat.testBit_two_pow_self]
  simp [h]

/-- `setOvr` clears no bit. -/
theorem bit_setOvr (s : State) (b : Nat) {i : Nat} (h : bit (s.reg A.TICK_OVR) i = true) :
    bit ((setOvr s b).reg A.TICK_OVR) i = true := by
  unfold setOvr bit at *
  rw [State.reg_setReg_same, BitVec.getLsbD_or, h, Bool.true_or]

section Cycles

variable (s : State)

theorem reg_setOvr_other (b : Nat) {a : Nat} (h : a ≠ A.TICK_OVR) : (setOvr s b).reg a = s.reg a :=
  State.reg_setReg_other s _ h

/-! ## Cycle starts -/

/-- A skipped start changes registers and raised events alone. -/
theorem skipCycle_frame (k : Nat) : skipCycle s k = { s with
    regs := (skipCycle s k).regs, recorder := (skipCycle s k).recorder } := by
  unfold skipCycle
  dsimp only
  split <;> rfl

/-- A skipped start sets CONSEC of its class and TICK_OVR. -/
theorem reg_skipCycle_other (k : Nat) {a : Nat} (h : a ≠ (consecFld k).reg) (h' : a ≠ A.TICK_OVR) :
    (skipCycle s k).reg a = s.reg a := by
  unfold skipCycle
  extract_lets before t n
  have counted : t.reg a = s.reg a := State.reg_setFld_other s _ h
  clear_value t
  split
  · exact (reg_setOvr_other t _ h').trans counted
  · exact counted

/-- A skipped start is counted in CONSEC; at SKIP_LIMIT the class shows as stalled (R47). -/
theorem skipCycle_counts {k : Nat} (hk : k < 8) :
    (skipCycle s k).fld (consecFld k) = min (consecFld k).top (s.fld (consecFld k) + 1) ∧
    (s.fld (consecFld k) + 1 = s.fld F.TICK_CTRL.SKIP_LIMIT → s.fld (consecFld k) < (consecFld k).top →
      bit ((skipCycle s k).reg A.TICK_OVR) (8 + k) = true) := by
  have apart : ∀ k < 8, (consecFld k).reg ≠ A.TICK_OVR ∧ A.TICK_CTRL ≠ (consecFld k).reg := by decide
  obtain ⟨ovr, ctrl⟩ := apart k hk
  unfold skipCycle
  extract_lets before t n
  have counted : t.fld (consecFld k) = min (consecFld k).top (s.fld (consecFld k) + 1) :=
    State.fld_count_same s (show 23 < 32 by decide) 1
  have limit : t.fld F.TICK_CTRL.SKIP_LIMIT = s.fld F.TICK_CTRL.SKIP_LIMIT :=
    State.fld_setFld_other s _ _ _ (.inl ctrl)
  clear_value t
  constructor
  · split
    · exact Eq.trans (congrArg (getBits · _ _) (reg_setOvr_other t _ ovr)) counted
    · exact counted
  · intro hl ht
    have one : n = before + 1 := counted.trans (Nat.min_eq_right ht)
    rw [if_pos ⟨by rw [limit, one, ← hl], by omega⟩]
    exact bit_setOvr_same t (by omega)

/-- A skipped start clears no bit of TICK_OVR. -/
theorem bit_skipCycle {k i : Nat} (hk : k < 8) (h : bit (s.reg A.TICK_OVR) i = true) :
    bit ((skipCycle s k).reg A.TICK_OVR) i = true := by
  have apart : ∀ k < 8, A.TICK_OVR ≠ (consecFld k).reg := by decide
  unfold skipCycle
  extract_lets before t n
  have counted : t.reg A.TICK_OVR = s.reg A.TICK_OVR := State.reg_setFld_other s _ (apart k hk)
  clear_value t
  split
  · exact bit_setOvr t _ (counted ▸ h)
  · exact counted ▸ h

/-- Tasks that start change the contexts of tasks alone. -/
theorem taskStarts_frame (xs : List TaskRec) :
    xs.foldl taskStarts s = { s with tasks := (xs.foldl taskStarts s).tasks } := by
  induction xs generalizing s with
  | nil => rfl
  | cons x xs ih =>
    rw [List.foldl_cons, ih]
    rfl

/-- A cycle that begins changes the classes and the contexts of tasks alone. -/
theorem startCycle_frame (k : Nat) : startCycle s k = { s with
    classes := (s.setCls k { s.cls k with running := true, cycle := s.tick, overrun := false, buffer := [] }).classes
    tasks := (startCycle s k).tasks } := by
  unfold startCycle
  rw [taskStarts_frame]
  rfl

theorem cls_startCycle (k j : Nat) : (startCycle s k).cls j = if j = k then
    { s.cls k with running := true, cycle := s.tick, overrun := false, buffer := [] } else s.cls j := by
  rw [startCycle_frame]
  exact State.cls_setCls _ _ _ _

/-- What one class does at the cycle starts of a tick. -/
def startClass (s : State) (k : Nat) : State :=
  if cycleStart k s.tick then (if (s.cls k).running then skipCycle s k else startCycle s k) else s

theorem classEdge_eq : classEdge s = (List.range 8).foldl startClass s := rfl

/-- A class leaves the tick, the limit and the other classes with their counts. -/
theorem startClass_other {j k : Nat} (hj : j < 8) (hk : k < 8) (h : j ≠ k) : (startClass s j).cls k = s.cls k ∧
    (startClass s j).reg (consecFld k).reg = s.reg (consecFld k).reg ∧ (startClass s j).tick = s.tick ∧
    (startClass s j).reg A.TICK_CTRL = s.reg A.TICK_CTRL := by
  have apart : ∀ j < 8, ∀ a ∈ [A.SYS_TICK_LO, A.SYS_TICK_LO + 4, A.TICK_CTRL],
      a ≠ (consecFld j).reg ∧ a ≠ A.TICK_OVR := by decide
  have own : (consecFld k).reg ≠ A.TICK_OVR := (by decide : ∀ k < 8, (consecFld k).reg ≠ A.TICK_OVR) k hk
  unfold startClass
  split
  · split
    · have reg {a : Nat} (ha : a ∈ [A.SYS_TICK_LO, A.SYS_TICK_LO + 4, A.TICK_CTRL]) : (skipCycle s j).reg a = s.reg a :=
        reg_skipCycle_other s j (apart j hj a ha).1 (apart j hj a ha).2
      refine ⟨by rw [skipCycle_frame]; rfl, reg_skipCycle_other s j (((classRegs_apart hj hk).1 h).1).symm own, ?_,
        reg (by decide)⟩
      rw [State.tick, State.dword, reg (by decide), reg (by decide)]
      rfl
    · refine ⟨by rw [cls_startCycle, if_neg h.symm], ?_, ?_, ?_⟩ <;> rw [startCycle_frame] <;> rfl
  · exact ⟨rfl, rfl, rfl, rfl⟩

/-- What a class reads at its own start. -/
def classSide (k : Nat) (s : State) : ClassSt × Word × DWord × Word :=
  (s.cls k, s.reg (consecFld k).reg, s.tick, s.reg A.TICK_CTRL)

theorem classSide_startClass {j k : Nat} (hj : j < 8) (hk : k < 8) (h : j ≠ k) (t : State) :
    classSide k (startClass t j) = classSide k t := by
  obtain ⟨cls, consec, tick, ctrl⟩ := startClass_other t hj hk h
  unfold classSide
  rw [cls, consec, tick, ctrl]

/-- No class clears a bit of TICK_OVR at its start. -/
theorem bit_startClass {j i : Nat} (hj : j < 8) (h : bit (s.reg A.TICK_OVR) i = true) :
    bit ((startClass s j).reg A.TICK_OVR) i = true := by
  unfold startClass
  split
  · split
    · exact bit_skipCycle s hj h
    · rw [startCycle_frame]
      exact h
  · exact h

/-- A start that finds its class unfinished (R47). -/
theorem classEdge_skips {k : Nat} (hk : k < 8) (hs : s.tick.toNat % classTicks k = 0) (hr : (s.cls k).running = true) :
    (classEdge s).cls k = s.cls k ∧
    (classEdge s).fld (consecFld k) = min (consecFld k).top (s.fld (consecFld k) + 1) ∧
    (s.fld (consecFld k) + 1 = s.fld F.TICK_CTRL.SKIP_LIMIT → s.fld (consecFld k) < (consecFld k).top →
      bit ((classEdge s).reg A.TICK_OVR) (8 + k) = true) := by
  rw [classEdge_eq]
  obtain ⟨u, same, later, kept⟩ := foldl_range_at (classSide k) hk (fun t j hj h => classSide_startClass hj hk h t) s
  simp only [classSide, Prod.mk.injEq] at same later
  obtain ⟨cls, consec, tick, ctrl⟩ := same
  obtain ⟨cls', consec', -, -⟩ := later
  have skips : startClass u k = skipCycle u k := by
    unfold startClass cycleStart
    rw [tick, hs, cls, hr]
    rfl
  have fld : u.fld (consecFld k) = s.fld (consecFld k) := congrArg (getBits · _ _) consec
  have limit : u.fld F.TICK_CTRL.SKIP_LIMIT = s.fld F.TICK_CTRL.SKIP_LIMIT := congrArg (getBits · _ _) ctrl
  obtain ⟨counts, stalls⟩ := skipCycle_counts u hk
  rw [fld] at counts stalls
  rw [limit] at stalls
  refine ⟨?_, ?_, fun hl ht => ?_⟩
  · rw [cls', skips, skipCycle_frame]
    exact cls
  · rw [State.fld, consec', skips]
    exact counts
  · refine (kept (fun t => bit (t.reg A.TICK_OVR) (8 + k) = true) fun t j hj ht => bit_startClass t hj ht).2 ?_
    rw [skips]
    exact stalls hl ht

/-- A class that is finished begins its cycle (R36). -/
theorem classEdge_starts {k : Nat} (hk : k < 8) (hs : s.tick.toNat % classTicks k = 0) (hr : (s.cls k).running = false) :
    (classEdge s).cls k = { s.cls k with running := true, cycle := s.tick, overrun := false, buffer := [] } ∧
    (classEdge s).fld (consecFld k) = s.fld (consecFld k) := by
  rw [classEdge_eq]
  obtain ⟨u, same, later, -⟩ := foldl_range_at (classSide k) hk (fun t j hj h => classSide_startClass hj hk h t) s
  simp only [classSide, Prod.mk.injEq] at same later
  obtain ⟨cls, consec, tick, -⟩ := same
  obtain ⟨cls', consec', -, -⟩ := later
  have starts : startClass u k = startCycle u k := by
    unfold startClass cycleStart
    rw [tick, hs, cls, hr]
    rfl
  constructor
  · rw [cls', starts, cls_startCycle, if_pos rfl, cls, tick]
  · rw [State.fld, consec', starts, startCycle_frame]
    exact congrArg (getBits · _ _) consec

end Cycles

end Sys2Proof.Machine
end

section
/-! SUPPORT. The commit: the classes that publish or overrun, and the output image that is frozen (R38, R46 to R48, R155). -/

namespace Sys2Proof.Machine

open Sys2Proof

/-! ## Buffers -/

theorem getAt_eq_none {α : Type} {a : Nat} {m : List (Nat × α)} (h : getAt a m = none) : ∀ e ∈ m, e.1 ≠ a := by
  induction m with
  | nil => simp
  | cons e m ih =>
    obtain ⟨b, v⟩ := e
    unfold getAt at h
    split at h
    · cases h
    · next hb =>
      intro e he
      rcases List.mem_cons.mp he with rfl | he
      · exact Ne.symm hb
      · exact ih h e he

/-- Slots of a buffer written to the output image (R38). -/
def putOut (s : State) (m : List (Nat × Slot)) : State := m.foldl (fun s e => s.setOut e.1 e.2) s

theorem putOut_frame (s : State) (m : List (Nat × Slot)) : putOut s m = { s with outImg := (putOut s m).outImg } := by
  unfold putOut
  induction m generalizing s with
  | nil => rfl
  | cons e m ih =>
    rw [List.foldl_cons, ih]
    rfl

/-- A slot that the buffer does not name stays. -/
theorem outSlot_putOut_other {m : List (Nat × Slot)} {a : Nat} (h : ∀ e ∈ m, e.1 ≠ a) (s : State) :
    (putOut s m).outSlot a = s.outSlot a :=
  foldl_frame_mem (State.outSlot · a) (f := fun (s : State) (e : Nat × Slot) => s.setOut e.1 e.2)
    (fun t e he => by rw [State.outSlot_setOut, if_neg (h e he).symm]) s

/-- A slot that the buffer names once takes its value. -/
theorem outSlot_putOut {m : List (Nat × Slot)} (hm : (m.map Prod.fst).Nodup) {a : Nat} {v : Slot} (h : (a, v) ∈ m)
    (s : State) : (putOut s m).outSlot a = v := by
  induction m generalizing s with
  | nil => cases h
  | cons e m ih =>
    rw [List.map_cons, List.nodup_cons] at hm
    rcases List.mem_cons.mp h with rfl | h
    · have later : ∀ e ∈ m, e.1 ≠ a := fun e he ea => hm.1 (List.mem_map.mpr ⟨e, he, ea⟩)
      have put : putOut s ((a, v) :: m) = putOut (s.setOut a v) m := rfl
      rw [put, outSlot_putOut_other later, State.outSlot_setOut, if_pos rfl]
    · exact ih hm.2 h _

section Commit

variable (s : State)

/-! ## A class publishes -/

/-- The class after it has published (R38, R47). -/
def published (s : State) (k : Nat) : ClassSt :=
  { s.cls k with running := false, overrun := false, skipped := s.fld (consecFld k), buffer := [] }

/-- Publishing step by step. -/
theorem publishClass_frame (k : Nat) : publishClass s k = { s with
    outImg := (putOut s (s.cls k).buffer).outImg
    resync := (publishClass s k).resync
    classes := (s.setCls k (published s k)).classes
    regs := (s.setFld (consecFld k) 0).regs } := by
  have put := putOut_frame s (s.cls k).buffer
  have shows : publishClass s k =
    (((putOut s (s.cls k).buffer).touch ((s.cls k).buffer.map (fun e => .outSlot e.1))).setCls k
    { s.cls k with
      running := false, overrun := false, buffer := []
      skipped := ((putOut s (s.cls k).buffer).touch ((s.cls k).buffer.map (fun e => .outSlot e.1))).fld (consecFld k)
      }).setFld (consecFld k) 0 := rfl
  rw [shows, State.touch_frame, put]
  rfl

/-- An overrun changes its class, registers and raised events alone. -/
theorem overrunClass_frame (k : Nat) : overrunClass s k = { s with
    classes := (overrunClass s k).classes, regs := (overrunClass s k).regs, recorder := (overrunClass s k).recorder } := by
  unfold overrunClass
  dsimp only
  split <;> rfl

/-- An overrun that shows already. -/
theorem overrunClass_again (k : Nat) (h : (s.cls k).overrun = true) : overrunClass s k = s := if_pos h

/-- What an overrun shows, once for a cycle (R46). -/
def showOverrun (s : State) (k : Nat) : State :=
  ((setOvr s k).count (F.TICK_CLS_OVR0.COUNT.nth k) 1).setFld (F.TICK_CLS_LAST0.TICK.nth k)
    ((s.cls k).cycle.toNat % 2 ^ 32)

/-- The first overrun of a cycle (R46). -/
theorem overrunClass_first (k : Nat) (h : (s.cls k).overrun = false) : ∃ det, overrunClass s k =
    ((showOverrun s k).setCls k { s.cls k with overrun := true }).raiseAt (s.cls k).cycle 1 1 k det :=
  ⟨_, if_neg (by rw [h]; exact Bool.false_ne_true)⟩

/-- An overrun leaves the other classes, and its own as running. -/
theorem cls_overrunClass (k j : Nat) : (overrunClass s k).cls j =
    if j = k then { s.cls k with overrun := true } else s.cls j := by
  cases h : (s.cls k).overrun with
  | true =>
    have same : { s.cls k with overrun := true } = s.cls k := by
      cases hc : s.cls k with
      | mk running cycle overrun skipped input buffer =>
        rw [hc] at h
        cases h
        rfl
    rw [overrunClass_again s k h, same]
    split
    · next e => rw [e]
    · rfl
  | false =>
    obtain ⟨det, first⟩ := overrunClass_first s k h
    rw [first]
    have raised (t : State) (tick : DWord) (det : List Byte) : (t.raiseAt tick 1 1 k det).cls j = t.cls j := rfl
    rw [raised, State.cls_setCls]
    rfl

/-- What an overrun shows stands in three registers of its own. -/
theorem reg_showOverrun_other (k : Nat) {a : Nat} (ho : a ≠ A.TICK_CLS_OVR0 + 4 * k) (hl : a ≠ A.TICK_CLS_LAST0 + 4 * k)
    (hb : a ≠ A.TICK_OVR) : (showOverrun s k).reg a = s.reg a :=
  calc (showOverrun s k).reg a
      = ((setOvr s k).count (F.TICK_CLS_OVR0.COUNT.nth k) 1).reg a := State.reg_setFld_other _ _ hl
    _ = (setOvr s k).reg a := State.reg_setFld_other _ _ ho
    _ = s.reg a := reg_setOvr_other s k hb

/-- The registers of the eight classes are none of these. -/
theorem classRegs_others : ∀ k < 8, ∀ a ∈ [A.TICK_OVR, A.SYS_TICK_LO, A.SYS_TICK_LO + 4],
    a ≠ A.TICK_CLS_OVR0 + 4 * k ∧ a ≠ A.TICK_CLS_LAST0 + 4 * k := by decide

/-- The bit, the count and the tick that an overrun shows; the skip count beside the count stays. -/
theorem showOverrun_spec {k : Nat} (hk : k < 8) : bit ((showOverrun s k).reg A.TICK_OVR) k = true ∧
    (showOverrun s k).fld (F.TICK_CLS_OVR0.COUNT.nth k) =
      min (F.TICK_CLS_OVR0.COUNT.nth k).top (s.fld (F.TICK_CLS_OVR0.COUNT.nth k) + 1) ∧
    (showOverrun s k).fld (F.TICK_CLS_LAST0.TICK.nth k) = (s.cls k).cycle.toNat % 2 ^ 32 ∧
    (showOverrun s k).fld (consecFld k) = s.fld (consecFld k) := by
  obtain ⟨ovr, last⟩ := classRegs_others k hk A.TICK_OVR (by decide)
  have apart := (classRegs_apart hk hk).2
  have below (f : Fld) (hf : f.reg = A.TICK_CLS_OVR0 + 4 * k) : (showOverrun s k).fld f =
      ((setOvr s k).count (F.TICK_CLS_OVR0.COUNT.nth k) 1).fld f :=
    State.fld_setFld_other _ _ _ _ (.inl (by rw [hf]; exact apart))
  have kept (f : Fld) (hf : f.reg = A.TICK_CLS_OVR0 + 4 * k) : (setOvr s k).fld f = s.fld f :=
    congrArg (getBits · f.hi f.lo) (reg_setOvr_other s k (by rw [hf]; exact ovr.symm))
  refine ⟨?_, ?_, ?_, ?_⟩
  · have shown : (showOverrun s k).reg A.TICK_OVR = (setOvr s k).reg A.TICK_OVR :=
      (State.reg_setFld_other _ _ last).trans (State.reg_setFld_other _ _ ovr)
    rw [shown]
    exact bit_setOvr_same s (by omega)
  · rw [below _ rfl, State.fld_count_same _ (show 15 < 32 by decide), kept _ rfl]
  · refine (State.fld_setFld_same _ (F.TICK_CLS_LAST0.TICK.nth k) _ (show 31 < 32 by decide)).trans ?_
    exact Nat.mod_mod _ _
  · rw [below _ rfl, State.count, State.fld_setFld_other _ _ _ _ (.inr (.inr (show 15 < 16 by decide))), kept _ rfl]

/-! ## One class at the commit -/

/-- What the commit does with one class (R38, R46). -/
def commitClass (mask : BitVec 8) (s : State) (k : Nat) : State :=
  if cycleStart k (s.tick + 1) && (s.cls k).running then
    (if mask.getLsbD k then publishClass s k else overrunClass s k)
  else s

theorem commitClasses_eq (mask : BitVec 8) : commitClasses s mask = (List.range 8).foldl (commitClass mask) s := rfl

variable (mask : BitVec 8)

/-- The commit changes the output image, the classes, registers and raised events. -/
theorem commitClass_frame (k : Nat) : commitClass mask s k = { s with
    outImg := (commitClass mask s k).outImg, resync := (commitClass mask s k).resync
    classes := (commitClass mask s k).classes, regs := (commitClass mask s k).regs
    recorder := (commitClass mask s k).recorder } := by
  unfold commitClass
  split
  · split
    · rw [publishClass_frame]
    · rw [overrunClass_frame]
  · rfl

/-- A class at its commit writes registers of its own and TICK_OVR. -/
theorem reg_commitClass_other (k : Nat) {a : Nat} (ho : a ≠ A.TICK_CLS_OVR0 + 4 * k) (hl : a ≠ A.TICK_CLS_LAST0 + 4 * k)
    (hb : a ≠ A.TICK_OVR) : (commitClass mask s k).reg a = s.reg a := by
  unfold commitClass
  split
  · split
    · rw [publishClass_frame]
      exact State.reg_setFld_other s _ ho
    · cases h : (s.cls k).overrun with
      | true => rw [overrunClass_again s k h]
      | false =>
        obtain ⟨det, first⟩ := overrunClass_first s k h
        rw [first]
        exact reg_showOverrun_other s k ho hl hb
  · rfl

theorem tick_commitClass {k : Nat} (hk : k < 8) : (commitClass mask s k).tick = s.tick := by
  have reg : ∀ a ∈ [A.SYS_TICK_LO, A.SYS_TICK_LO + 4], (commitClass mask s k).reg a = s.reg a := fun a ha =>
    reg_commitClass_other s mask k (classRegs_others k hk a (.tail _ ha)).1 (classRegs_others k hk a (.tail _ ha)).2
      ((by decide : ∀ a ∈ [A.SYS_TICK_LO, A.SYS_TICK_LO + 4], a ≠ A.TICK_OVR) a ha)
  unfold State.tick State.dword
  rw [reg _ (by decide), reg _ (by decide)]

/-- No class clears a bit of TICK_OVR at the commit. -/
theorem bit_commitClass {k i : Nat} (hk : k < 8) (h : bit (s.reg A.TICK_OVR) i = true) :
    bit ((commitClass mask s k).reg A.TICK_OVR) i = true := by
  obtain ⟨ovr, last⟩ := classRegs_others k hk A.TICK_OVR (by decide)
  unfold commitClass
  split
  · split
    · rw [publishClass_frame]
      exact (State.reg_setFld_other s 0 (f := consecFld k) ovr).symm ▸ h
    · cases again : (s.cls k).overrun with
      | true => rwa [overrunClass_again s k again]
      | false =>
        obtain ⟨det, first⟩ := overrunClass_first s k again
        have shown : (overrunClass s k).reg A.TICK_OVR = (setOvr s k).reg A.TICK_OVR := by
          rw [first]
          exact (State.reg_setFld_other _ _ last).trans (State.reg_setFld_other _ _ ovr)
        rw [shown]
        exact bit_setOvr s k h
  · exact h

/-- A class at its commit leaves the others. -/
theorem cls_commitClass_other {k j : Nat} (h : j ≠ k) : (commitClass mask s k).cls j = s.cls j := by
  unfold commitClass
  split
  · split
    · rw [publishClass_frame]
      exact (State.cls_setCls s k j _).trans (if_neg h)
    · rw [cls_overrunClass, if_neg h]
  · rfl

/-- What a class reads at its commit. -/
def commitSide (k : Nat) (s : State) : ClassSt × Word × Word × DWord :=
  (s.cls k, s.reg (A.TICK_CLS_OVR0 + 4 * k), s.reg (A.TICK_CLS_LAST0 + 4 * k), s.tick)

theorem commitSide_commitClass {j k : Nat} (hj : j < 8) (hk : k < 8) (h : j ≠ k) :
    commitSide k (commitClass mask s j) = commitSide k s := by
  obtain ⟨ovr, last⟩ := classRegs_others k hk A.TICK_OVR (by decide)
  obtain ⟨ho, hl⟩ := (classRegs_apart hj hk).1 h
  unfold commitSide
  rw [cls_commitClass_other s mask h.symm, tick_commitClass s mask hj,
    reg_commitClass_other s mask j ho.symm (classRegs_apart hk hj).2 ovr.symm,
    reg_commitClass_other s mask j (classRegs_apart hj hk).2.symm hl.symm last.symm]

/-! ## The classes one after another -/

/-- A class that both modules report finished publishes (R38, R47). -/
theorem commitClasses_publishes {k : Nat} (hk : k < 8) (hr : (s.cls k).running = true)
    (hc : (s.tick + 1).toNat % classTicks k = 0) (hm : mask.getLsbD k = true) :
    (commitClasses s mask).cls k = published s k ∧ (commitClasses s mask).fld (consecFld k) = 0 := by
  obtain ⟨u, same, later, -⟩ := foldl_range_at (commitSide k) hk
    (fun t j hj h => commitSide_commitClass t mask hj hk h) s
  simp only [commitSide, Prod.mk.injEq] at same later
  obtain ⟨cls, ovr, -, tick⟩ := same
  obtain ⟨cls', ovr', -, -⟩ := later
  have publishes : commitClass mask u k = publishClass u k := by
    unfold commitClass cycleStart
    rw [tick, hc, cls, hr, hm]
    rfl
  rw [commitClasses_eq, cls', State.fld, ovr', publishes, publishClass_frame]
  constructor
  · refine (State.cls_setCls u k k _).trans ((if_pos rfl).trans ?_)
    unfold published State.fld
    rw [cls, ovr]
  · exact (State.fld_setFld_same u (consecFld k) 0 (show 23 < 32 by decide)).trans (Nat.zero_mod _)

/-- A class that is not finished overruns (R46). -/
theorem commitClasses_overruns {k : Nat} (hk : k < 8) (hr : (s.cls k).running = true)
    (hc : (s.tick + 1).toNat % classTicks k = 0) (hm : mask.getLsbD k = false) :
    (commitClasses s mask).cls k = { s.cls k with overrun := true } ∧
    (commitClasses s mask).fld (consecFld k) = s.fld (consecFld k) ∧
    ((s.cls k).overrun = true → (commitClasses s mask).fld (F.TICK_CLS_OVR0.COUNT.nth k) =
      s.fld (F.TICK_CLS_OVR0.COUNT.nth k)) ∧
    ((s.cls k).overrun = false → bit ((commitClasses s mask).reg A.TICK_OVR) k = true ∧
      (commitClasses s mask).fld (F.TICK_CLS_OVR0.COUNT.nth k) =
        min (F.TICK_CLS_OVR0.COUNT.nth k).top (s.fld (F.TICK_CLS_OVR0.COUNT.nth k) + 1) ∧
      (commitClasses s mask).fld (F.TICK_CLS_LAST0.TICK.nth k) = (s.cls k).cycle.toNat % 2 ^ 32) := by
  obtain ⟨u, same, later, kept⟩ := foldl_range_at (commitSide k) hk
    (fun t j hj h => commitSide_commitClass t mask hj hk h) s
  simp only [commitSide, Prod.mk.injEq] at same later
  obtain ⟨cls, ovr, -, tick⟩ := same
  obtain ⟨cls', ovr', last', -⟩ := later
  have overruns : commitClass mask u k = overrunClass u k := by
    unfold commitClass cycleStart
    rw [tick, hc, cls, hr, hm]
    rfl
  have before (f : Fld) (hf : f.reg = A.TICK_CLS_OVR0 + 4 * k) : u.fld f = s.fld f :=
    congrArg (getBits · f.hi f.lo) (by rw [hf, ovr])
  rw [overruns] at cls' ovr' last' kept
  have after (f : Fld) (hf : f.reg = A.TICK_CLS_OVR0 + 4 * k) : (commitClasses s mask).fld f = (overrunClass u k).fld f :=
    congrArg (getBits · f.hi f.lo) (by rw [hf]; exact ovr')
  refine ⟨?_, ?_⟩
  · rw [commitClasses_eq, cls', cls_overrunClass, if_pos rfl, cls]
  rw [after _ rfl, after _ rfl, ← before _ rfl, ← before _ rfl, ← cls]
  cases h : (u.cls k).overrun with
  | true =>
    rw [overrunClass_again u k h]
    exact ⟨rfl, fun _ => rfl, nofun⟩
  | false =>
    obtain ⟨shows, counts, last, consec⟩ := showOverrun_spec u hk
    obtain ⟨det, first⟩ := overrunClass_first u k h
    have reg (a : Nat) : (overrunClass u k).reg a = (showOverrun u k).reg a := by
      rw [first]
      rfl
    refine ⟨?_, nofun, fun _ => ⟨?_, ?_, ?_⟩⟩
    · rw [State.fld, reg]
      exact consec
    · exact (kept (fun t => bit (t.reg A.TICK_OVR) k = true) fun t j hj ht => bit_commitClass t mask hj ht).2
        (by rw [reg]; exact shows)
    · rw [State.fld, reg]
      exact counts
    · rw [State.fld, commitClasses_eq, last', reg]
      exact last

end Commit

end Sys2Proof.Machine
end

section
/-! SUPPORT. The output image at the commit: which slots the classes write, and the image that is frozen (R30, R38). -/

namespace Sys2Proof.Machine

open Sys2Proof

/-! ## A step of the tick at its moment -/

/-- Whether the module computes shows in its state, its pair and its resynchronisation. -/
theorem computes_congr {s t : State} (state : t.reg A.SYS_STATE = s.reg A.SYS_STATE) (pair : t.pair = s.pair)
    (resync : t.resync = s.resync) : t.computes = s.computes := by
  unfold State.computes State.holds State.joining State.mode State.fld
  rw [state, pair, resync]

theorem computes_at (s : State) (off : Nat) : (s.at off).computes = s.computes :=
  computes_congr (State.reg_at_other s off (by decide)) rfl rfl

theorem computes_at_window (s : State) (off w : Nat) : ((s.at off).window w).computes = s.computes :=
  (computes_congr (State.reg_setFld_other _ _ (by decide)) rfl rfl).trans (computes_at s off)

section Commit

variable (s : State) (mask : BitVec 8)

/-! ## Slots -/

/-- No running class among those of `ok` has slot `a` in its buffer. -/
def Unnamed (ok : Nat → Prop) (a : Nat) (s : State) : Prop :=
  ∀ j, ok j → (s.cls j).running = true → getAt a (s.cls j).buffer = none

/-- A class that still runs after a commit ran before it with the same buffer. -/
theorem running_commitClass {k j : Nat} (h : ((commitClass mask s k).cls j).running = true) :
    (s.cls j).running = true ∧ ((commitClass mask s k).cls j).buffer = (s.cls j).buffer := by
  by_cases hj : j = k
  · subst hj
    unfold commitClass at h ⊢
    split at h
    · next begins =>
      rw [if_pos begins]
      have running : (s.cls j).running = true := (Bool.and_eq_true_iff.mp begins).2
      split at h
      · have ends : (publishClass s j).cls j = published s j := by
          rw [publishClass_frame]
          exact (State.cls_setCls s j j _).trans (if_pos rfl)
        rw [ends] at h
        cases h
      · next hm =>
        rw [if_neg hm, cls_overrunClass, if_pos rfl]
        exact ⟨running, rfl⟩
    · next idle =>
      rw [if_neg idle]
      exact ⟨h, rfl⟩
  · rw [cls_commitClass_other s mask hj] at h ⊢
    exact ⟨h, rfl⟩

theorem Unnamed.commitClass {ok : Nat → Prop} {a : Nat} {s : State} (h : Unnamed ok a s) (mask : BitVec 8) (k : Nat) :
    Unnamed ok a (commitClass mask s k) := fun j hj hr => by
  obtain ⟨ran, same⟩ := running_commitClass s mask hr
  rw [same]
  exact h j hj ran

/-- A slot that the class does not publish stays. -/
theorem outSlot_commitClass {k a : Nat} (h : (s.cls k).running = true → cycleStart k (s.tick + 1) = true →
    mask.getLsbD k = true → getAt a (s.cls k).buffer = none) : (commitClass mask s k).outSlot a = s.outSlot a := by
  unfold commitClass
  split
  · next begins =>
    obtain ⟨starts, running⟩ := Bool.and_eq_true_iff.mp begins
    split
    · next hm =>
      rw [publishClass_frame]
      exact outSlot_putOut_other (getAt_eq_none (h running starts hm)) s
    · rw [overrunClass_frame]
      rfl
  · rfl

/-- A slot that no publishing class names stays as it was (R30). -/
theorem outSlot_commitClasses_other {a : Nat} (h : ∀ k < 8, (s.cls k).running = true →
    (s.tick + 1).toNat % classTicks k = 0 → mask.getLsbD k = true → getAt a (s.cls k).buffer = none) :
    (commitClasses s mask).outSlot a = s.outSlot a := by
  let ok (k : Nat) : Prop := k < 8 ∧ cycleStart k (s.tick + 1) = true ∧ mask.getLsbD k = true
  have start : Unnamed ok a s := fun k ⟨hk, starts, hm⟩ running => h k hk running (beq_iff_eq.mp starts) hm
  rw [commitClasses_eq]
  refine (List.foldlRecOn (motive := fun t => (Unnamed ok a t ∧ t.tick = s.tick) ∧ t.outSlot a = s.outSlot a)
    (List.range 8) (commitClass mask) ⟨⟨start, rfl⟩, rfl⟩ fun t ht k hk => ?_).2
  obtain ⟨⟨unnamed, tick⟩, slot⟩ := ht
  have hk := List.mem_range.mp hk
  refine ⟨⟨unnamed.commitClass mask k, (tick_commitClass t mask hk).trans tick⟩, ?_⟩
  refine (outSlot_commitClass t mask fun running starts hm => ?_).trans slot
  exact unnamed k ⟨hk, tick ▸ starts, hm⟩ running

/-- A slot that a publishing class names, and no other class, takes that class's value (R38). -/
theorem outSlot_commitClasses {k a : Nat} {v : Slot} (hk : k < 8) (hr : (s.cls k).running = true)
    (hc : (s.tick + 1).toNat % classTicks k = 0) (hm : mask.getLsbD k = true)
    (hd : ((s.cls k).buffer.map Prod.fst).Nodup) (hv : (a, v) ∈ (s.cls k).buffer)
    (ho : ∀ n, n ≠ k → getAt a (s.cls n).buffer = none) : (commitClasses s mask).outSlot a = v := by
  obtain ⟨u, same, -, kept⟩ := foldl_range_at (commitSide k) hk
    (fun t j hj h => commitSide_commitClass t mask hj hk h) s
  simp only [commitSide, Prod.mk.injEq] at same
  obtain ⟨cls, -, -, tick⟩ := same
  have others : Unnamed (· ≠ k) a u :=
    (kept (Unnamed (· ≠ k) a) fun t j _ ht => ht.commitClass mask j).1 fun j hj _ => ho j hj
  have publishes : commitClass mask u k = publishClass u k := by
    unfold commitClass cycleStart
    rw [tick, hc, cls, hr, hm]
    rfl
  have ended : ((publishClass u k).cls k).running = false := by
    rw [publishClass_frame]
    exact congrArg ClassSt.running ((State.cls_setCls u k k _).trans (if_pos rfl))
  refine ((kept (fun t => Unnamed (fun _ => True) a t ∧ t.outSlot a = v) fun t j _ ht =>
    ⟨ht.1.commitClass mask j, ?_⟩).2 ⟨fun j _ running => ?_, ?_⟩).2
  · exact (outSlot_commitClass t mask fun running _ _ => ht.1 j trivial running).trans ht.2
  · by_cases hj : j = k
    · rw [publishes, hj, ended] at running
      cases running
    · exact others.commitClass mask k j hj running
  · rw [publishes, publishClass_frame]
    exact outSlot_putOut (cls ▸ hd) (cls ▸ hv) u

/-! ## The frozen image -/

/-- The classes leave the frozen image and the input image. -/
theorem images_commitClasses : (commitClasses s mask).committed = s.committed ∧
    (commitClasses s mask).inImg = s.inImg := by
  have left : ((commitClasses s mask).committed, (commitClasses s mask).inImg) = (s.committed, s.inImg) :=
    foldl_frame_mem (f := commitClass mask) (fun t => (t.committed, t.inImg))
      (fun t k _ => by rw [commitClass_frame]) s
  exact Prod.mk.inj left

/-- The retained snapshot changes the retained units and MEM_STATUS. -/
theorem retainedSnapshot_frame : retainedSnapshot s = { s with
    regs := (retainedSnapshot s).regs, retSnap := (retainedSnapshot s).retSnap
    retDirty := (retainedSnapshot s).retDirty, footA := (retainedSnapshot s).footA } := by
  unfold retainedSnapshot
  split <;> rfl

theorem reg_retainedSnapshot_other {a : Nat} (h : a ≠ A.MEM_STATUS) : (retainedSnapshot s).reg a = s.reg a := by
  unfold retainedSnapshot
  split
  · rfl
  · exact State.reg_setFld_other s _ h

/-- The state with the output image frozen, before its digest is sent. -/
def freezeImage (s : State) : State :=
  let t := commitClasses s (jointMask s).1
  { t with committedPrev := t.committed, committed := t.outImg }

/-- The state with the digest of the frozen image shown. -/
def showDigest (s : State) (apart : Bool) : State :=
  let t := s.withPair (fun p => { p with
    diverged := apart, cleanLast := !s.flag F.CHK_STATUS.UNCLEAN
    oosDue := p.oosDue || (apart && s.mode == stStandby && !p.outOfStep) })
  (t.setDword A.STRAIT_DIGEST_LO (imageDigest64 t)).strait 3 2
    [(imageDigest64 t).toNat, b2n (!s.flag F.CHK_STATUS.UNCLEAN) + 2 * b2n t.pair.missNow]

theorem freeze_eq : freeze s = retainedSnapshot (showDigest (freezeImage s) (jointMask s).2) := rfl

theorem showDigest_frame (apart : Bool) : showDigest s apart = { s with
    pair := (showDigest s apart).pair, outbox := (showDigest s apart).outbox, regs := (showDigest s apart).regs } := by
  unfold showDigest State.strait
  dsimp only
  rw [State.straitOn_frame]
  rfl

theorem reg_showDigest_other (apart : Bool) {a : Nat} (h : a ≠ A.STRAIT_DIGEST_LO) (h' : a ≠ A.STRAIT_DIGEST_LO + 4) :
    (showDigest s apart).reg a = s.reg a := by
  unfold showDigest State.strait
  dsimp only
  rw [State.straitOn_frame]
  exact State.reg_setDword_other _ _ h h'

/-- What the freeze leaves of the classes that have published and of the image (R30). -/
theorem freeze_spec : (freeze s).committed = (freeze s).outImg ∧ (freeze s).committedPrev = s.committed ∧
    (freeze s).inImg = s.inImg ∧ (freeze s).classes = (commitClasses s (jointMask s).1).classes ∧
    (freeze s).outImg = (commitClasses s (jointMask s).1).outImg ∧
    ∀ a, a ∉ [A.STRAIT_DIGEST_LO, A.STRAIT_DIGEST_LO + 4, A.MEM_STATUS] →
      (freeze s).reg a = (commitClasses s (jointMask s).1).reg a := by
  obtain ⟨committed, inImg⟩ := images_commitClasses s (jointMask s).1
  rw [freeze_eq]
  refine ⟨?_, ?_, ?_, ?_, ?_, fun a ha => ?_⟩
  case refine_6 =>
    obtain ⟨lo, hi, mem⟩ : a ≠ A.STRAIT_DIGEST_LO ∧ a ≠ A.STRAIT_DIGEST_LO + 4 ∧ a ≠ A.MEM_STATUS := by
      simpa using ha
    exact (reg_retainedSnapshot_other _ mem).trans (reg_showDigest_other _ _ lo hi)
  all_goals rw [retainedSnapshot_frame, showDigest_frame]
  · rfl
  · exact committed
  · exact inImg
  · rfl
  · rfl

/-- The classes that both modules report finished (R48). -/
theorem jointMask_bit {m : BitVec 8} {t1 late : Bool} (h : s.pair.own1 = some (m, t1, late)) (k : Nat) :
    (jointMask s).1.getLsbD k = (m.getLsbD k && (match s.pair.part1 with
      | some (p, a, b) => !(s.paired && a == t1 && b == late) || p.getLsbD k
      | none => true)) := by
  unfold jointMask
  rw [h]
  dsimp only [Option.getD_some]
  cases hp : s.paired with
  | false => cases s.pair.part1 <;> simp
  | true =>
    cases hq : s.pair.part1 with
    | none => simp
    | some q =>
      obtain ⟨p, a, b⟩ := q
      by_cases ha : a = t1 <;> by_cases hb : b = late <;> simp [ha, hb]

/-- The step of the commit (R30). -/
theorem exec_outputImageFreeze (ht : s.ticking = true) (hc : s.computes = true) (ha : s.active = true) :
    exec .outputImageFreeze s = .next ((freeze (s.at 58500)).withPower (fun p => { p with committed := true })) := by
  have steps : exec .outputImageFreeze s = if s.ticking && s.active then
      .next ((if (s.at 58500).computes then freeze (s.at 58500) else s.at 58500).withPower
        (fun p => { p with committed := true })) else .next s := rfl
  rw [steps, ht, ha, computes_at, hc]
  rfl

end Commit

end Sys2Proof.Machine
end

section
/-! The compute window and the commit (R30, R36, R38, R41, R46 to R48). -/

namespace Sys2Proof.Machine

open Sys2Proof

section Window

variable (s : State)

/-! ## A core takes its next work -/

/-- A core that takes its next work keeps its window and its slices. -/
theorem core_dispatchCore (j : Nat) : ((dispatchCore s j).core j).inWindow = (s.core j).inWindow ∧
    ((dispatchCore s j).core j).used = (s.core j).used ∧ ((dispatchCore s j).core j).sliced = (s.core j).sliced := by
  have placed (t : State) (c : Option Nat) :
      (t.setCore j { s.core j with cur := c }).core j = { s.core j with cur := c } := by
    rw [State.core_setCore, if_pos rfl]
  unfold dispatchCore
  split
  · split
    · rw [placed]
      exact ⟨rfl, rfl, rfl⟩
    · next k _ =>
      have same : (if (s.task k.task).active then s else s.setTask k.task (activate (s.task k.task) k)).core j =
          s.core j := by
        split <;> rfl
      dsimp only
      rw [same, placed]
      exact ⟨rfl, rfl, rfl⟩
  · rw [placed]
    exact ⟨rfl, rfl, rfl⟩

/-- A core that takes its next work writes no register and no byte, and no task that runs begins anew. -/
theorem dispatchCore_leaves (j n : Nat) (h : (s.task n).active = true) : (dispatchCore s j).task n = s.task n ∧
    (dispatchCore s j).regs = s.regs ∧ (dispatchCore s j).mem = s.mem := by
  unfold dispatchCore
  split
  · split
    · exact ⟨rfl, rfl, rfl⟩
    · next k _ =>
      dsimp only
      split
      · exact ⟨rfl, rfl, rfl⟩
      · next idle =>
        refine ⟨?_, rfl, rfl⟩
        have other : n ≠ k.task := fun e => idle (e ▸ h)
        exact (State.task_setTask _ _ _ _).trans (if_neg other)
  · exact ⟨rfl, rfl, rfl⟩

theorem mem_insertSorted (x : Nat) (xs : List Nat) : x ∈ insertSorted x xs := by
  induction xs with
  | nil => exact List.mem_cons_self
  | cons y ys ih =>
    unfold insertSorted
    split
    · next e => exact e ▸ List.mem_cons_self
    · split
      · exact List.mem_cons_self
      · exact List.mem_cons_of_mem _ ih

/-! ## The compute window starts -/

/-- A core at the start of its window (R41). -/
def openCore (s : State) (j : Nat) : State := dispatchCore (s.setCore j ⟨none, [], 0, true⟩) j

theorem exec_computeWindow (ht : s.ticking = true) (hc : s.computes = true) : exec .computeWindow s =
    .next ((List.range (s.fld F.TICK_PROOF.LCORES)).foldl openCore ((s.at 28000).window 3)) := by
  have steps : exec .computeWindow s = if s.ticking then
      (if ((s.at 28000).window 3).computes then
        .next ((List.range (lcores ((s.at 28000).window 3))).foldl openCore ((s.at 28000).window 3))
      else .next ((s.at 28000).window 3)) else .next s := rfl
  have count : lcores ((s.at 28000).window 3) = s.fld F.TICK_PROOF.LCORES :=
    (State.fld_setFld_other _ _ _ _ (.inl (by decide))).trans (State.fld_at s _ (by decide))
  rw [steps, ht, computes_at_window, hc, count]
  rfl

/-- Every core stands in its window with nothing used. -/
theorem core_openCores {n j : Nat} (hj : j < n) : (((List.range n).foldl openCore s).core j).inWindow = true ∧
    (((List.range n).foldl openCore s).core j).used = 0 ∧ (((List.range n).foldl openCore s).core j).sliced = [] := by
  obtain ⟨u, -, later, -⟩ := foldl_range_at (f := openCore) (State.core · j) hj (fun t i _ hi => by
    obtain ⟨-, -, other⟩ := AidonFrame.dispatch i (t.setCore i ⟨none, [], 0, true⟩)
    exact (other j hi.symm).trans ((State.core_setCore t i j _).trans (if_neg hi.symm))) s
  have opened := core_dispatchCore (u.setCore j ⟨none, [], 0, true⟩) j
  rw [State.core_setCore, if_pos rfl] at opened
  rw [later]
  exact opened

/-! ## A slice ends -/

/-- At the end of its slice the class has had it and its task goes on (R41). -/
theorem exec_sliceEnd {j : Nat} {k : TaskRec} (h : currentTask s j = some k) (hc : k.cls ≠ 0)
    (hs : k.cls ∉ (s.core j).sliced) : ∃ t, exec (.sliceEnd j) s = .next t ∧ k.cls ∈ (t.core j).sliced ∧
    t.task k.task = s.task k.task ∧ t.regs = s.regs ∧ t.mem = s.mem := by
  have active : (s.task k.task).active = true := by
    unfold currentTask at h
    split at h
    · cases h
    · split at h
      · cases h
      · next found =>
        split at h
        · next i _ _ _ hi =>
          cases h
          have own : (k.task == i) = true := List.find?_some (p := fun x : TaskRec => x.task == i) found
          rwa [beq_iff_eq.mp own]
        · cases h
  have fresh : (k.cls = 0 || (s.core j).sliced.contains k.cls : Bool) = false := by simp [hc, hs]
  have steps : exec (.sliceEnd j) s = .next (dispatchCore
      (s.setCore j { s.core j with sliced := insertSorted k.cls (s.core j).sliced }) j) := by
    show execSliceEnd j s = _
    unfold execSliceEnd
    rw [h]
    exact if_neg (by simpa using fresh)
  obtain ⟨-, -, sliced⟩ := core_dispatchCore
    (s.setCore j { s.core j with sliced := insertSorted k.cls (s.core j).sliced }) j
  obtain ⟨task, regs, mem⟩ := dispatchCore_leaves
    (s.setCore j { s.core j with sliced := insertSorted k.cls (s.core j).sliced }) j k.task active
  refine ⟨_, steps, ?_, task, regs, mem⟩
  rw [sliced, State.core_setCore, if_pos rfl]
  exact mem_insertSorted _ _

/-! ## The compute window ends -/

theorem core_stopCore (j i : Nat) : (stopCore s j).core i =
    if i = j then { s.core j with cur := none, inWindow := false } else s.core i := State.core_setCore _ _ _ _

/-- The cores stop one by one; the tasks stay. -/
theorem stopCores_frame (xs : List Nat) : xs.foldl stopCore s = { s with
    regs := (xs.foldl stopCore s).regs, cores := (xs.foldl stopCore s).cores } := by
  induction xs generalizing s with
  | nil => rfl
  | cons x xs ih =>
    rw [List.foldl_cons, ih]
    rfl

/-- Every core stands. -/
theorem core_stopCores {n j : Nat} (hj : j < n) : (((List.range n).foldl stopCore s).core j).cur = none ∧
    (((List.range n).foldl stopCore s).core j).inWindow = false := by
  obtain ⟨u, -, later, -⟩ := foldl_range_at (f := stopCore) (State.core · j) hj
    (fun t i _ hi => (core_stopCore t i j).trans (if_neg hi.symm)) s
  rw [later]
  show ((stopCore u j).core j).cur = none ∧ ((stopCore u j).core j).inWindow = false
  rw [core_stopCore, if_pos rfl]
  exact ⟨rfl, rfl⟩

/-- Bits set in a fold. -/
theorem getLsbD_foldl_or (p : Nat → Bool) (xs : List Nat) (m : BitVec 8) {k : Nat} (hk : k < 8) :
    (xs.foldl (fun m j => if p j then m ||| BitVec.ofNat 8 (2 ^ j) else m) m).getLsbD k =
      (m.getLsbD k || (decide (k ∈ xs) && p k)) := by
  induction xs generalizing m with
  | nil => simp
  | cons j xs ih =>
    have own : (BitVec.ofNat 8 (2 ^ j)).getLsbD k = decide (j = k) := by
      rw [BitVec.getLsbD_ofNat, decide_eq_true hk, Bool.true_and, Nat.testBit_two_pow]
    have step : (if p j then m ||| BitVec.ofNat 8 (2 ^ j) else m).getLsbD k = (m.getLsbD k || (decide (j = k) && p j)) := by
      split
      · next h => rw [BitVec.getLsbD_or, own, h, Bool.and_true]
      · next h => rw [eq_false_of_ne_true h, Bool.and_false, Bool.or_false]
    rw [List.foldl_cons, ih, step]
    by_cases hjk : j = k
    · subst hjk
      cases p j <;> simp
    · simp [hjk, Ne.symm hjk]

theorem completionMask_bit {k : Nat} (hk : k < 8) : (completionMask s).getLsbD k = classDone s k := by
  unfold completionMask
  rw [getLsbD_foldl_or (classDone s) _ _ hk]
  simp [hk]

/-- Whether a class is finished shows in the image and the contexts of its tasks. -/
theorem classDone_congr {s t : State} (image : t.image = s.image) (tasks : t.tasks = s.tasks) (k : Nat) :
    classDone t k = classDone s k := by
  unfold classDone classTasks State.task
  rw [image, tasks]

/-- A message for the partner leaves what the module reported of itself. -/
theorem own1_straitOn (l type sub : Nat) (vals : List Nat) (bytes : List Byte) :
    (s.straitOn l type sub vals bytes).pair.own1 = s.pair.own1 := by
  unfold State.straitOn State.straitFor
  split <;> rfl

/-- The cores stopped, before the completion is reported. -/
def stopCores (s : State) : State :=
  let u := (s.at 58000).window 4
  (List.range (lcores u)).foldl stopCore u

/-- The completion reported to the partner (R48). -/
def reportDone (s : State) : State :=
  let late := (s.pair.own1.map (fun x => x.2.2)).getD false
  (s.withPair (fun p => { p with own1 := some (completionMask s, classDone s 0, late) })).strait 3 1
    [(completionMask s).toNat, b2n (classDone s 0) + 2 * b2n late]

/-- At the end of the window no core runs a task, and the mask names the classes that are finished (R41, R48). -/
theorem exec_computeStop (ht : s.ticking = true) (hc : s.computes = true) : ∃ t, exec .computeStop s = .next t ∧
    (∀ j, j < s.fld F.TICK_PROOF.LCORES → (t.core j).cur = none ∧ (t.core j).inWindow = false) ∧
    ∃ (m : BitVec 8) (t1 late : Bool), t.pair.own1 = some (m, t1, late) ∧ t1 = classDone s 0 ∧
      ∀ k, k < 8 → m.getLsbD k = classDone s k := by
  have steps : exec .computeStop s = if s.ticking then
      (if ((s.at 58000).window 4).computes then .next (reportDone (stopCores s)) else .next ((s.at 58000).window 4))
    else .next s := rfl
  rw [if_pos ht, computes_at_window, if_pos hc] at steps
  have count : lcores ((s.at 58000).window 4) = s.fld F.TICK_PROOF.LCORES :=
    (State.fld_setFld_other _ _ _ _ (.inl (by decide))).trans (State.fld_at s _ (by decide))
  have frame := stopCores_frame ((s.at 58000).window 4) (List.range (lcores ((s.at 58000).window 4)))
  have done (k : Nat) : classDone (stopCores s) k = classDone s k :=
    classDone_congr (congrArg State.image frame) (congrArg State.tasks frame) k
  have cores : (reportDone (stopCores s)).cores = (stopCores s).cores := by
    unfold reportDone State.strait
    dsimp only
    rw [State.straitOn_frame]
    rfl
  refine ⟨_, steps, fun j hj => ?_, completionMask (stopCores s), classDone (stopCores s) 0, _, own1_straitOn _ _ _ _ _ _,
    done 0, fun k hk => (completionMask_bit _ hk).trans (done k)⟩
  have core : (reportDone (stopCores s)).core j = (stopCores s).core j :=
    congrArg (fun c => Sparse.get (fun _ => CoreSt.idle) c j) cores
  rw [core]
  exact core_stopCores _ (count ▸ hj)

/-! ## Cycle starts at a tick edge -/

/-- The tick shows in what the units of an edge leave. -/
theorem tick_of_edgeSide {s t : State} (h : edgeSide t = edgeSide s) : t.tick = s.tick := by
  unfold State.tick State.dword
  rw [reg_of_edgeSide h (a := A.SYS_TICK_LO) (by decide), reg_of_edgeSide h (a := A.SYS_TICK_LO + 4) (by decide)]

theorem cls_of_classes {s t : State} (h : t.classes = s.classes) {k : Nat} : t.cls k = s.cls k := by
  unfold State.cls
  rw [h]

/-- At the tick edge of its cycle start a class that still runs stays, and one that is finished begins (R36, R47). -/
theorem tickEdge_class (e : EdgeIn) {k : Nat} (hk : k < 8) (hh : s.power.held = false) (hd : s.power.resetDue = false)
    (ht : s.ticking = true) (hc : s.computes = true) (hs : (s.tick + 1).toNat % classTicks k = 0) :
    ∃ t, exec (.tickEdge e) s = .next t ∧ ((s.cls k).running = true → t.cls k = s.cls k) ∧
      ((s.cls k).running = false →
        t.cls k = { s.cls k with running := true, cycle := s.tick + 1, overrun := false, buffer := [] }) := by
  obtain ⟨side, classes⟩ := EdgeKeeps.flushFirst s
  obtain ⟨tick, -, -, -, -, -, computes, classes'⟩ := takeLines_spec (flushFirst s) e (s.tick + 1)
  obtain ⟨side', classes''⟩ := EdgeKeeps.beforeCycles (flushFirst s) e (s.tick + 1)
  have now := (tick_of_edgeSide side').trans tick
  have all := classes''.trans (classes'.trans classes)
  have can := (computes_of_edgeSide side').trans (computes.trans ((computes_of_edgeSide side).trans hc))
  have step := exec_tickEdge_ticking e hh hd ht
  rw [runEdge_eq] at step
  have served := (EdgeKeeps.serveEdge (beginCycles (beforeCycles (flushFirst s) e (s.tick + 1))) e (s.tick + 1)
    ((flushFirst s).reg A.CROWN_OWN)).2
  generalize serveEdge (beginCycles (beforeCycles (flushFirst s) e (s.tick + 1))) e (s.tick + 1)
    ((flushFirst s).reg A.CROWN_OWN) = t at step served
  generalize beforeCycles (flushFirst s) e (s.tick + 1) = u at *
  rw [beginCycles, if_pos can] at served
  refine ⟨t, step, ?_⟩
  rw [cls_of_classes served, ← cls_of_classes all]
  refine ⟨fun hr => (classEdge_skips u hk (by rw [now]; exact hs) hr).1, fun hr => ?_⟩
  rw [(classEdge_starts u hk (by rw [now]; exact hs) hr).1, now]

/-! ## Classes at the freeze -/

/-- What the freeze leaves of a class and of its registers. -/
theorem freeze_at (k : Nat) : (freeze s).cls k = (commitClasses s (jointMask s).1).cls k ∧
    (∀ a, (freeze s).outSlot a = (commitClasses s (jointMask s).1).outSlot a) ∧
    ∀ f : Fld, f.reg ∉ [A.STRAIT_DIGEST_LO, A.STRAIT_DIGEST_LO + 4, A.MEM_STATUS] →
      (freeze s).fld f = (commitClasses s (jointMask s).1).fld f := by
  obtain ⟨-, -, -, classes, outImg, regs⟩ := freeze_spec s
  exact ⟨cls_of_classes classes,
    fun a => congrArg (fun c => Sparse.get slotDefault c a) outImg,
    fun f hf => congrArg (getBits · f.hi f.lo) (regs f.reg hf)⟩

/-- The fields of a class that the commit writes are none that the clock or the digest writes. -/
theorem commitFlds_apart : ∀ k < 8, ∀ f ∈ [consecFld k, F.TICK_CLS_OVR0.COUNT.nth k, F.TICK_CLS_LAST0.TICK.nth k],
    f.reg ∉ [A.TIME_NOW_LO, A.TIME_NOW_HI, A.TIME_NOW_FRAC] ∧
    f.reg ∉ [A.STRAIT_DIGEST_LO, A.STRAIT_DIGEST_LO + 4, A.MEM_STATUS] := by decide

variable {s}

/-- A class that both modules report finished publishes (R38, R47, R48). -/
theorem freeze_publishes {k : Nat} (hk : k < 8) (hr : (s.cls k).running = true)
    (hs : (s.tick + 1).toNat % classTicks k = 0) (hm : (jointMask s).1.getLsbD k = true) :
    (freeze s).cls k = published s k ∧ (freeze s).fld (consecFld k) = 0 ∧
    (((s.cls k).buffer.map Prod.fst).Nodup → ∀ a v, (a, v) ∈ (s.cls k).buffer →
      (∀ n, n ≠ k → getAt a (s.cls n).buffer = none) → (freeze s).outSlot a = v) := by
  obtain ⟨cls, slot, fld⟩ := freeze_at s k
  obtain ⟨done, consec⟩ := commitClasses_publishes s _ hk hr hs hm
  refine ⟨cls.trans done, (fld _ (commitFlds_apart k hk _ (.head _)).2).trans consec, fun hd a v hv ho => ?_⟩
  exact (slot a).trans (outSlot_commitClasses s _ hk hr hs hm hd hv ho)

/-- A class that is not finished overruns (R46). -/
theorem freeze_overruns {k : Nat} (hk : k < 8) (hr : (s.cls k).running = true)
    (hs : (s.tick + 1).toNat % classTicks k = 0) (hm : (jointMask s).1.getLsbD k = false) :
    (freeze s).cls k = { s.cls k with overrun := true } ∧ (freeze s).fld (consecFld k) = s.fld (consecFld k) ∧
    ((s.cls k).overrun = true → (freeze s).fld (F.TICK_CLS_OVR0.COUNT.nth k) = s.fld (F.TICK_CLS_OVR0.COUNT.nth k)) ∧
    ((s.cls k).overrun = false → bit ((freeze s).reg A.TICK_OVR) k = true ∧
      (freeze s).fld (F.TICK_CLS_OVR0.COUNT.nth k) =
        min (F.TICK_CLS_OVR0.COUNT.nth k).top (s.fld (F.TICK_CLS_OVR0.COUNT.nth k) + 1) ∧
      (freeze s).fld (F.TICK_CLS_LAST0.TICK.nth k) = (s.cls k).cycle.toNat % 2 ^ 32) := by
  obtain ⟨cls, -, fld⟩ := freeze_at s k
  obtain ⟨-, -, -, -, -, regs⟩ := freeze_spec s
  obtain ⟨runs, consec, again, first⟩ := commitClasses_overruns s _ hk hr hs hm
  rw [regs A.TICK_OVR (by decide), fld _ (commitFlds_apart k hk _ (.head _)).2,
    fld _ (commitFlds_apart k hk _ (.tail _ (.head _))).2, fld _ (commitFlds_apart k hk _ (.tail _ (.tail _ (.head _)))).2]
  exact ⟨cls.trans runs, consec, again, first⟩

/-- A slot that no publishing class names stays (R30). -/
theorem freeze_others {a : Nat} (h : ∀ k < 8, (s.cls k).running = true → (s.tick + 1).toNat % classTicks k = 0 →
    (jointMask s).1.getLsbD k = true → getAt a (s.cls k).buffer = none) : (freeze s).outSlot a = s.outSlot a :=
  ((freeze_at s 0).2.1 a).trans (outSlot_commitClasses_other s _ h)

end Window

/-- Settles O15: core by core through the compute window, and class by class through the commit and the tick edge. -/
theorem computeAndCommit : Obligations.ComputeAndCommit := by
  unfold Obligations.ComputeAndCommit
  refine ⟨⟨fun s ht hc => ⟨_, exec_computeWindow s ht hc, fun j hj => core_openCores _ hj⟩,
    fun s j k h hk hs => exec_sliceEnd s h hk hs, fun s ht hc => exec_computeStop s ht hc⟩,
    fun s m t1 late ht hc ha own => ?_, fun s k hk hs => ⟨fun hr => classEdge_skips s hk hs hr, fun hr => ?_⟩,
    fun s e k hk hh hd ht hc hs => ?_⟩
  · intro joint ends
    have mask (k : Nat) : (jointMask (s.at 58500)).1.getLsbD k = joint k := by
      have paired : (s.at 58500).paired = s.paired := by
        unfold State.paired
        rw [State.mode_at]
        rfl
      rw [jointMask_bit (s.at 58500) own k, paired]
      rfl
    have fld (k : Nat) (hk : k < 8) (f : Fld)
        (h : f ∈ [consecFld k, F.TICK_CLS_OVR0.COUNT.nth k, F.TICK_CLS_LAST0.TICK.nth k]) : (s.at 58500).fld f = s.fld f :=
      State.fld_at s 58500 (commitFlds_apart k hk f h).1
    have tick := State.tick_at s 58500
    have cls (k : Nat) : (s.at 58500).cls k = s.cls k := rfl
    have slot (a : Nat) : (s.at 58500).outSlot a = s.outSlot a := rfl
    have kept : (s.at 58500).committed = s.committed ∧ (s.at 58500).inImg = s.inImg := ⟨rfl, rfl⟩
    have step := exec_outputImageFreeze s ht hc ha
    generalize s.at 58500 = u at *
    obtain ⟨committed, before, inImg, -, -, -⟩ := freeze_spec u
    refine ⟨_, step, committed, before.trans kept.1, rfl, inImg.trans kept.2, ?_, ?_, ?_⟩
    · rintro k ⟨hk, hr, hs⟩ hj
      obtain ⟨done, consec, slots⟩ :=
        freeze_publishes hk (by rw [cls]; exact hr) (by rw [tick]; exact hs) ((mask k).trans hj)
      have shows : ((freeze u).withPower (fun p => { p with committed := true })).cls k = published u k := done
      rw [shows]
      refine ⟨rfl, rfl, fld k hk _ (.head _), consec, ?_⟩
      simp only [cls] at slots
      exact slots
    · rintro k ⟨hk, hr, hs⟩ hj
      have spec := freeze_overruns hk (by rw [cls]; exact hr) (by rw [tick]; exact hs) ((mask k).trans hj)
      rw [fld k hk _ (.head _), fld k hk _ (.tail _ (.head _)), cls] at spec
      obtain ⟨runs, rest⟩ := spec
      have shows : ((freeze u).withPower (fun p => { p with committed := true })).cls k =
        { s.cls k with overrun := true } := runs
      rw [shows]
      exact ⟨hr, rfl, rfl, rfl, rest⟩
    · intro a h
      refine (freeze_others fun k hk hr hs hm => ?_).trans (slot a)
      rw [cls] at hr ⊢
      exact h k ⟨hk, hr, tick ▸ hs⟩ ((mask k).symm.trans hm)
  · obtain ⟨begins, consec⟩ := classEdge_starts s hk hs hr
    rw [begins, consec]
    exact ⟨rfl, rfl, rfl, rfl⟩
  · obtain ⟨t, step, stays, begins⟩ := tickEdge_class s e hk hh hd ht hc hs
    refine ⟨t, step, stays, fun hr => ?_⟩
    rw [begins hr]
    exact ⟨rfl, rfl, rfl⟩

end Sys2Proof.Machine
end

section
/-! SUPPORT. The shaft engine's pass over the masters: what a pass reads stays, and what each master leaves of the others
(R42, R103 to R106). -/

namespace Sys2Proof.Machine

open Sys2Proof

/-! ## What a pass reads -/

/-- From `s` to `t` the image, the input slots, the output slots, the axes and the tick stay, and every byte of memory. -/
structure EngineSame (s t : State) : Prop where
  image : t.image = s.image
  inImg : t.inImg = s.inImg
  outImg : t.outImg = s.outImg
  axes : t.axes = s.axes
  mem : t.mem = s.mem
  tick : t.tick = s.tick

theorem EngineSame.refl (s : State) : EngineSame s s := ⟨rfl, rfl, rfl, rfl, rfl, rfl⟩

theorem EngineSame.trans {s t u : State} (h : EngineSame s t) (h' : EngineSame t u) : EngineSame s u :=
  ⟨h'.image.trans h.image, h'.inImg.trans h.inImg, h'.outImg.trans h.outImg, h'.axes.trans h.axes, h'.mem.trans h.mem,
    h'.tick.trans h.tick⟩

/-- The registers of the tick number. -/
def tickRegs : List Nat := [A.SYS_TICK_LO, A.SYS_TICK_LO + 4]

theorem tick_of_tickRegs {s t : State} (h : ∀ a ∈ tickRegs, t.reg a = s.reg a) : t.tick = s.tick := by
  unfold State.tick State.dword
  rw [h A.SYS_TICK_LO (by decide), h (A.SYS_TICK_LO + 4) (by decide)]

/-- A register outside the items of a block is none of a master or an axis. -/
theorem ne_itemKey_of_low {a b : Nat} (i : Nat) (ha : a < 0x1000000) (hb : b < 0x1000000) (h : a ≠ b) :
    a ≠ itemKey b i :=
  ne_itemKey i hb (by rwa [Nat.mod_eq_of_lt ha])

section Slots

variable {s t : State} (h : EngineSame s t)
include h

theorem EngineSame.outSlot (i : Nat) : t.outSlot i = s.outSlot i := by
  unfold State.outSlot
  rw [h.outImg]

theorem EngineSame.axis (i : Nat) : t.axis i = s.axis i := by
  unfold State.axis
  rw [h.axes]

theorem EngineSame.handleSlot (n : Nat) (output : Bool) : handleSlot t n output = handleSlot s n output := by
  unfold Machine.handleSlot
  rw [h.image]

theorem EngineSame.handleIn (n : Nat) : handleIn t n = handleIn s n := by
  unfold Machine.handleIn State.inSlot
  rw [h.handleSlot, h.inImg]

theorem EngineSame.masterSource (r : MasterRec) : masterSource t r = masterSource s r := by
  unfold Machine.masterSource
  rw [h.handleIn, h.outSlot]

/-- A step that writes registers other than the tick number's. -/
theorem EngineSame.setFld (f : Fld) (v : Nat) (hf : f.reg ∉ tickRegs) : EngineSame s (t.setFld f v) :=
  h.trans ⟨rfl, rfl, rfl, rfl, rfl, tick_of_tickRegs fun _ ha => State.reg_setFld_other _ _ fun e => hf (e ▸ ha)⟩

theorem EngineSame.setReg (a : Nat) (v : Word) (ha : a ∉ tickRegs) : EngineSame s (t.setReg a v) :=
  h.trans ⟨rfl, rfl, rfl, rfl, rfl, tick_of_tickRegs fun _ hb => State.reg_setReg_other _ _ fun e => ha (e ▸ hb)⟩

theorem EngineSame.raise (cls code src : Nat) (det : List Byte) : EngineSame s (t.raise cls code src det) :=
  h.trans ⟨rfl, rfl, rfl, rfl, rfl, rfl⟩

theorem EngineSame.setMaster (i : Nat) (x : MasterSt) : EngineSame s (t.setMaster i x) :=
  h.trans ⟨rfl, rfl, rfl, rfl, rfl, rfl⟩

end Slots

/-! ## Lanes that disagree (R104) -/

section Lanes

variable (s : State)

/-- A verdict self-test that falls due changes the activities, the checks, messages and registers. -/
theorem startVerdict_frame (trigger : Nat) : startVerdict s trigger = { s with
    regs := (startVerdict s trigger).regs, recorder := (startVerdict s trigger).recorder
    check := (startVerdict s trigger).check, acts := (startVerdict s trigger).acts
    actNext := (startVerdict s trigger).actNext, pair := (startVerdict s trigger).pair
    outbox := (startVerdict s trigger).outbox } := by
  unfold startVerdict
  split
  · rfl
  · split
    · rfl
    · unfold beginVerdict State.strait
      dsimp only
      rw [State.straitOn_frame]
      rfl

/-- It sets bits of CHK_STATUS alone, and none of them is UNCLEAN. -/
theorem regs_startVerdict (trigger : Nat) : (∀ a, a ≠ A.CHK_STATUS → (startVerdict s trigger).reg a = s.reg a) ∧
    (startVerdict s trigger).flag F.CHK_STATUS.UNCLEAN = s.flag F.CHK_STATUS.UNCLEAN := by
  unfold startVerdict
  split
  · exact ⟨fun _ _ => rfl, rfl⟩
  · split
    · exact ⟨fun a ha => State.reg_setFld_other s _ ha, State.flag_setFld_other s _ _ _ (.inr (by decide))⟩
    · unfold beginVerdict State.strait
      dsimp only
      rw [State.straitOn_frame]
      exact ⟨fun a ha => State.reg_setFld_other s _ ha, State.flag_setFld_other s _ _ _ (.inr (by decide))⟩

theorem reg_laneMismatch (src : Nat) {a : Nat} (h : a ∉ [A.SHAFT_EVENT, A.CHK_STATUS]) :
    (laneMismatch s src).reg a = s.reg a := by
  obtain ⟨he, hc⟩ : a ≠ A.SHAFT_EVENT ∧ a ≠ A.CHK_STATUS := by simpa using h
  refine ((regs_startVerdict _ 1).1 a hc).trans ((State.reg_setFld_other _ _ hc).trans ?_)
  exact State.reg_setFld_other s 1 he

/-- What a disagreement shows. -/
theorem flags_laneMismatch (src : Nat) : (laneMismatch s src).flag F.SHAFT_EVENT.LANE_MISMATCH = true ∧
    (laneMismatch s src).flag F.CHK_STATUS.UNCLEAN = true := by
  obtain ⟨others, unclean⟩ := regs_startVerdict (((s.note F.SHAFT_EVENT.LANE_MISMATCH).raise 3 8 src []).unclean) 1
  constructor
  · rw [State.flag, State.fld, laneMismatch, others _ (by decide), ← State.fld, ← State.flag]
    exact (State.flag_setFld_other _ _ _ _ (.inl (by decide))).trans
      (State.flag_note_same s _ (by decide) (by decide))
  · rw [laneMismatch, unclean]
    exact State.flag_note_same _ _ (by decide) (by decide)

/-- What a disagreement sets. -/
def laneFlags : List Fld := [F.SHAFT_EVENT.LANE_MISMATCH, F.CHK_STATUS.UNCLEAN]

/-- A disagreement leaves what the pass reads, and the masters. -/
theorem same_laneMismatch (src : Nat) : EngineSame s (laneMismatch s src) ∧ (laneMismatch s src).masters = s.masters := by
  have tick : (laneMismatch s src).tick = s.tick := tick_of_tickRegs fun a ha => reg_laneMismatch s src
    ((by decide : ∀ a ∈ tickRegs, a ∉ [A.SHAFT_EVENT, A.CHK_STATUS]) a ha)
  unfold laneMismatch at tick ⊢
  rw [startVerdict_frame] at tick ⊢
  exact ⟨⟨rfl, rfl, rfl, rfl, rfl, tick⟩, rfl⟩

/-! ## One master (R105, R106) -/

/-- The registers that show a master. -/
def masterRegs : List Nat := [A.SHAFT_MASTER_STATE, A.SHAFT_MASTER_POS_LO, A.SHAFT_MASTER_POS_LO + 4, A.SHAFT_MASTER_VEL_LO,
  A.SHAFT_MASTER_VEL_LO + 4]

/-- A register that is none of a block's stands apart from each item's register, and from the high half of a dword. -/
theorem apart_of_block {a i : Nat} {regs : List Nat} (ha : a < 0x1000000) (low : ∀ b ∈ regs, b < 0x1000000)
    (h : a ∉ regs) : (∀ b ∈ regs, a ≠ itemKey b i) ∧ ∀ b, b + 4 ∈ regs → a ≠ itemKey b i + 4 := by
  have apart (b : Nat) (hb : b ∈ regs) : a ≠ itemKey b i := ne_itemKey_of_low i ha (low b hb) fun e => h (e ▸ hb)
  refine ⟨apart, fun b hb => ?_⟩
  rw [itemKey, Nat.add_assoc]
  exact apart (b + 4) hb

/-- No master is shown where a disagreement is. -/
theorem laneFlags_apart : ∀ g ∈ laneFlags, g.reg < 0x1000000 ∧ g.reg ∉ masterRegs := by decide

theorem reg_showMaster (i : Nat) {a : Nat} (ha : a < 0x1000000) (h : a ∉ masterRegs) :
    (showMaster s i).reg a = s.reg a := by
  obtain ⟨own, high⟩ := apart_of_block (i := i) ha (by decide) h
  have state := own A.SHAFT_MASTER_STATE (by decide)
  unfold showMaster
  dsimp only
  rw [State.reg_setDword_other _ _ (own A.SHAFT_MASTER_VEL_LO (by decide)) (high A.SHAFT_MASTER_VEL_LO (by decide)),
    State.reg_setDword_other _ _ (own A.SHAFT_MASTER_POS_LO (by decide)) (high A.SHAFT_MASTER_POS_LO (by decide))]
  exact (State.reg_setFld_other _ _ state).trans (State.reg_setFld_other _ _ state)

theorem same_showMaster (i : Nat) : EngineSame s (showMaster s i) :=
  have low : ∀ a ∈ tickRegs, a < 0x1000000 ∧ a ∉ masterRegs := by decide
  ⟨rfl, rfl, rfl, rfl, rfl, tick_of_tickRegs fun a ha => reg_showMaster s i (low a ha).1 (low a ha).2⟩

/-- What one master does before it is shown: what it leaves, its next state where its lanes agree, and what it keeps and
shows where they do not. -/
theorem masterPass_cases (f : LaneFaults) (i : Nat) (r : MasterRec) : ∃ (t : State) (y : MasterSt),
    masterPass f s (i, r) = showMaster (t.setMaster i y) i ∧ EngineSame s t ∧ t.masters = s.masters ∧
    (∀ a, a ∉ [A.SHAFT_EVENT, A.CHK_STATUS] → t.reg a = s.reg a) ∧
    (∀ g ∈ laneFlags, s.flag g = true → t.flag g = true) ∧
    (f.masters.contains i = false → y = masterNext r (s.master i) (masterSource s r) ∧ t.pair = s.pair) ∧
    (f.masters.contains i = true → (y.m = (s.master i).m ∧ y.v = (s.master i).v ∧ y.q = (s.master i).q) ∧
      ∀ g ∈ laneFlags, t.flag g = true) := by
  unfold masterPass
  dsimp only
  cases h : f.masters.contains i with
  | true =>
    obtain ⟨lane, unclean⟩ := flags_laneMismatch s (0x8000 + i)
    obtain ⟨same, masters⟩ := same_laneMismatch s (0x8000 + i)
    have shown : ∀ g ∈ laneFlags, (laneMismatch s (0x8000 + i)).flag g = true := by simp [laneFlags, lane, unclean]
    refine ⟨_, _, rfl, same, masters, fun a ha => reg_laneMismatch s _ ha, fun g hg _ => shown g hg, nofun,
      fun _ => ⟨?_, shown⟩⟩
    unfold keepSample
    split <;> exact ⟨rfl, rfl, rfl⟩
  | false =>
    cases emergencyCause r (s.master i) (masterSource s r) with
    | none => exact ⟨s, _, rfl, .refl s, rfl, fun _ _ => rfl, fun _ _ h => h, fun _ => ⟨rfl, rfl⟩, nofun⟩
    | some c =>
      refine ⟨(s.note F.SHAFT_EVENT.MASTER_EMERG).raise 17 3 i (d1 c), _, rfl,
        ((EngineSame.refl s).setFld _ 1 (by decide)).raise 17 3 i (d1 c), rfl, fun a ha => ?_, fun g hg h => ?_,
        fun _ => ⟨rfl, rfl⟩, nofun⟩
      · exact State.reg_setFld_other s 1 (by simp at ha; exact ha.1)
      · have apart : ∀ g ∈ laneFlags, g.reg ≠ A.SHAFT_EVENT ∨ g.hi < 0 ∨ 0 < g.lo := by
          decide
        exact (State.flag_setFld_other s F.SHAFT_EVENT.MASTER_EMERG g 1 (apart g hg)).trans h

/-- One master leaves what the pass reads. -/
theorem same_masterPass (f : LaneFaults) (e : Nat × MasterRec) : EngineSame s (masterPass f s e) := by
  obtain ⟨t, y, step, same, -⟩ := masterPass_cases s f e.1 e.2
  exact step ▸ (same.setMaster e.1 y).trans (same_showMaster (t.setMaster e.1 y) e.1)

theorem master_masterPass_other (f : LaneFaults) (e : Nat × MasterRec) {j : Nat} (h : e.1 ≠ j) :
    (masterPass f s e).master j = s.master j := by
  obtain ⟨t, y, step, -, masters, -⟩ := masterPass_cases s f e.1 e.2
  have shown : (masterPass f s e).master j = (t.setMaster e.1 y).master j :=
    (congrArg (State.master · j) step : _ = (showMaster (t.setMaster e.1 y) e.1).master j)
  rw [shown, State.master_setMaster, if_neg h.symm, State.master, masters, State.master]

/-- One master writes registers of masters, and event bits. -/
theorem reg_masterPass (f : LaneFaults) (e : Nat × MasterRec) {a : Nat} (ha : a < 0x1000000)
    (h : a ∉ A.SHAFT_EVENT :: A.CHK_STATUS :: masterRegs) : (masterPass f s e).reg a = s.reg a := by
  obtain ⟨t, y, step, -, -, regs, -⟩ := masterPass_cases s f e.1 e.2
  have event : a ∉ [A.SHAFT_EVENT, A.CHK_STATUS] := fun hm => h (by
    rcases List.mem_cons.mp hm with rfl | hm
    · exact .head _
    · exact .tail _ (List.mem_singleton.mp hm ▸ .head _))
  have shown : (masterPass f s e).reg a = (t.setMaster e.1 y).reg a :=
    (congrArg (State.reg · a) step).trans (reg_showMaster _ _ ha fun hm => h (.tail _ (.tail _ hm)))
  exact shown.trans (regs a event)

/-- No master clears what a lane disagreement shows. -/
theorem flag_masterPass (f : LaneFaults) (e : Nat × MasterRec) {g : Fld}
    (hg : g ∈ laneFlags) (h : s.flag g = true) : (masterPass f s e).flag g = true := by
  obtain ⟨t, y, step, -, -, -, flags, -⟩ := masterPass_cases s f e.1 e.2
  have shown : (masterPass f s e).reg g.reg = t.reg g.reg :=
    (congrArg (State.reg · g.reg) step).trans (reg_showMaster _ _ (laneFlags_apart g hg).1 (laneFlags_apart g hg).2)
  rw [State.flag, State.fld, shown]
  exact flags g hg h

/-- A master whose lanes agree takes its next state. -/
theorem masterPass_agreed {f : LaneFaults} {i : Nat} (h : f.masters.contains i = false) (r : MasterRec) :
    (masterPass f s (i, r)).master i = masterNext r (s.master i) (masterSource s r) ∧
    (masterPass f s (i, r)).pair = s.pair := by
  obtain ⟨t, y, step, -, -, -, -, agreed, -⟩ := masterPass_cases s f i r
  obtain ⟨next, pair⟩ := agreed h
  rw [step, ← next]
  exact ⟨(State.master_setMaster t i i y).trans (if_pos rfl), pair⟩

/-- A master whose lanes disagree keeps its position, velocity and quality, and the disagreement shows (R104). -/
theorem masterPass_disagreed {f : LaneFaults} {i : Nat} (h : f.masters.contains i = true) (r : MasterRec) :
    (((masterPass f s (i, r)).master i).m = (s.master i).m ∧ ((masterPass f s (i, r)).master i).v = (s.master i).v ∧
      ((masterPass f s (i, r)).master i).q = (s.master i).q) ∧
    ∀ g ∈ laneFlags, (masterPass f s (i, r)).flag g = true := by
  obtain ⟨t, y, step, -, -, -, -, -, disagreed⟩ := masterPass_cases s f i r
  obtain ⟨kept, flags⟩ := disagreed h
  have own : (masterPass f s (i, r)).master i = y :=
    (congrArg (State.master · i) step).trans ((State.master_setMaster t i i y).trans (if_pos rfl))
  refine ⟨own ▸ kept, fun g hg => ?_⟩
  have shown : (masterPass f s (i, r)).reg g.reg = t.reg g.reg :=
    (congrArg (State.reg · g.reg) step).trans (reg_showMaster _ _ (laneFlags_apart g hg).1 (laneFlags_apart g hg).2)
  rw [State.flag, State.fld, shown]
  exact flags g hg

end Lanes

/-! ## The masters in index order -/

/-- An entry parts a numbered list into entries with other numbers. -/
theorem numbered_split {α : Type} {xs : List α} {i : Nat} {x : α} (h : xs[i]? = some x) : ∃ before after,
    numbered xs = before ++ (i, x) :: after ∧ (∀ e ∈ before, e.1 ≠ i) ∧ ∀ e ∈ after, e.1 ≠ i := by
  obtain ⟨hi, hx⟩ := List.getElem?_eq_some_iff.mp h
  have mem : (i, x) ∈ numbered xs :=
    List.mem_iff_getElem?.mpr ⟨i, by simp [numbered, hi, hx]⟩
  obtain ⟨before, after, e⟩ := List.append_of_mem mem
  have fst : (numbered xs).map Prod.fst = List.range xs.length :=
    List.map_fst_zip (by rw [List.length_range])
  have nodup : (before.map Prod.fst ++ i :: after.map Prod.fst).Nodup := by
    have all : ((numbered xs).map Prod.fst).Nodup := fst ▸ List.nodup_range
    rwa [e, List.map_append, List.map_cons] at all
  obtain ⟨-, tail, apart⟩ := List.nodup_append.mp nodup
  exact ⟨before, after, e, fun e he => apart e.1 (List.mem_map_of_mem he) i (.head _),
    fun e he same => (List.nodup_cons.mp tail).1 (same ▸ List.mem_map_of_mem he)⟩

/-- A fold over a numbered list, seen from entry `i`. -/
theorem foldl_numbered_at {α β : Type} (p : State → β) {f : State → Nat × α → State} {xs : List α} {i : Nat}
    {x : α} (h : xs[i]? = some x) (hf : ∀ t e, e.1 ≠ i → p (f t e) = p t) (s : State) : ∃ u, p u = p s ∧
    p ((numbered xs).foldl f s) = p (f u (i, x)) ∧
    ∀ Q : State → Prop, (∀ t e, Q t → Q (f t e)) → Q (f u (i, x)) → Q ((numbered xs).foldl f s) := by
  obtain ⟨before, after, e, hb, ha⟩ := numbered_split h
  refine ⟨before.foldl f s, foldl_frame_mem p (fun t e he => hf t e (hb e he)) s, ?_⟩
  rw [e, List.foldl_append, List.foldl_cons]
  exact ⟨foldl_frame_mem p (fun t e he => hf t e (ha e he)) _,
    fun Q hQ own => List.foldlRecOn (motive := Q) after f own fun t ht e _ => hQ t e ht⟩

/-- The pass over the masters. -/
def mastersPass (f : LaneFaults) (s : State) (rs : List MasterRec) : State := (numbered rs).foldl (masterPass f) s

section Masters

variable (f : LaneFaults) (s : State) (rs : List MasterRec)

theorem same_mastersPass : EngineSame s (mastersPass f s rs) :=
  List.foldlRecOn (motive := EngineSame s) (numbered rs) (masterPass f) (.refl s)
    fun t ht e _ => ht.trans (same_masterPass t f e)

theorem reg_mastersPass {a : Nat} (ha : a < 0x1000000) (h : a ∉ A.SHAFT_EVENT :: A.CHK_STATUS :: masterRegs) :
    (mastersPass f s rs).reg a = s.reg a :=
  foldl_frame_mem (State.reg · a) (fun t e _ => reg_masterPass t f e ha h) s

/-- Without lane faults the pair stays. -/
theorem pair_mastersPass (h : f.masters = []) : (mastersPass f s rs).pair = s.pair :=
  foldl_frame_mem State.pair (fun t e _ => (masterPass_agreed t (by rw [h]; rfl) e.2).2) s

/-- What the pass makes of a master whose lanes agree. -/
theorem master_mastersPass {i : Nat} {r : MasterRec} (hr : rs[i]? = some r) (h : f.masters.contains i = false) :
    (mastersPass f s rs).master i = masterNext r (s.master i) (masterSource s r) := by
  obtain ⟨u, same, step, -⟩ := foldl_numbered_at (fun t => (t.master i, masterSource t r)) hr
    (fun t e he => by rw [master_masterPass_other t f e he, (same_masterPass t f e).masterSource]) s
  obtain ⟨own, src⟩ := Prod.mk.inj same
  obtain ⟨passed, -⟩ := Prod.mk.inj step
  rw [mastersPass, passed, (masterPass_agreed u h r).1, own, src]

/-- What the pass leaves of a master whose lanes disagree, and what it shows (R104). -/
theorem master_mastersPass_disagreed {i : Nat} {r : MasterRec} (hr : rs[i]? = some r) (h : f.masters.contains i = true) :
    (((mastersPass f s rs).master i).m = (s.master i).m ∧ ((mastersPass f s rs).master i).v = (s.master i).v ∧
      ((mastersPass f s rs).master i).q = (s.master i).q) ∧
    ∀ g ∈ laneFlags, (mastersPass f s rs).flag g = true := by
  obtain ⟨u, same, step, kept⟩ := foldl_numbered_at (State.master · i) hr
    (fun t e he => master_masterPass_other t f e he) s
  obtain ⟨own, flags⟩ := masterPass_disagreed u h r
  refine ⟨?_, fun g hg => kept (State.flag · g = true) (fun t e ht => flag_masterPass t f e hg ht) (flags g hg)⟩
  rw [mastersPass, step, ← same]
  exact own

end Masters

end Sys2Proof.Machine
end

section
/-! SUPPORT. The shaft engine's pass as a whole: its start, the masters, the axes, and the group stops that act from the
next pass (R42, R103, R120). -/

namespace Sys2Proof.Machine

open Sys2Proof

/-! ## Values that move toward a target (R102) -/

/-- A value moves to its target where that lies within the bound, and by the bound toward it where it does not. -/
theorem moveToward_eq (v target : DWord) (bound : Nat) : moveToward v target bound =
    if (target - v).toInt.natAbs ≤ bound then target
    else if 0 < (target - v).toInt then v + BitVec.ofNat 64 bound else v - BitVec.ofNat 64 bound := by
  unfold moveToward wrap64 sdiff clampAbs
  have whole : v + BitVec.ofInt 64 (target - v).toInt = target := by
    rw [BitVec.ofInt_toInt]
    exact add_sub_cancel v target
  generalize (target - v).toInt = far at whole
  by_cases near : far.natAbs ≤ bound
  · rw [if_pos near, if_neg (by omega), if_neg (by omega), whole]
  · rw [if_neg near]
    by_cases up : 0 < far
    · rw [if_pos up, if_neg (by omega), if_pos (by omega), BitVec.ofInt_natCast]
    · rw [if_neg up, if_pos (by omega), BitVec.ofInt_neg, BitVec.ofInt_natCast, BitVec.sub_eq_add_neg]

/-- A virtual master whose command lies within its acceleration takes it as its velocity and moves by it (R106). -/
theorem masterNext_follows {r : MasterRec} {x : MasterSt} {src : Slot} (he : r.external = false) (hx : x.emerg = false)
    (hs : x.stopReq = false) (hq : src.q ≠ .bad) (near : (src.val - x.v).toInt.natAbs ≤ r.acc) :
    (masterNext r x src).v = src.val ∧ (masterNext r x src).m = x.m + src.val := by
  have cause : emergencyCause r x src = none := by simp [emergencyCause, hx, he, hs, hq]
  have moves : moveToward x.v src.val r.acc = src.val := by rw [moveToward_eq, if_pos near]
  simp [masterNext, cause, hx, he, moves]

/-! ## The start of the pass (R42) -/

/-- The state in which the pass begins. -/
def engineStart (s : State) : State :=
  let t := s.at 36000
  let t := if feedLate s then t.note F.TICK_STATUS.SHAFT_FEED_LATE else t
  t.withPair (fun p => { p with own1 := some (0, false, feedLate s) })

theorem EngineSame.withPair {s t : State} (h : EngineSame s t) (f : Pair → Pair) : EngineSame s (t.withPair f) :=
  h.trans ⟨rfl, rfl, rfl, rfl, rfl, rfl⟩

section Start

variable (s : State)

theorem reg_engineStart {a : Nat} (h : a ∉ [A.TIME_NOW_LO, A.TIME_NOW_HI, A.TIME_NOW_FRAC, A.TICK_STATUS]) :
    (engineStart s).reg a = s.reg a := by
  obtain ⟨lo, hi, frac, status⟩ : a ≠ A.TIME_NOW_LO ∧ a ≠ A.TIME_NOW_HI ∧ a ≠ A.TIME_NOW_FRAC ∧
      a ≠ A.TICK_STATUS := by simpa using h
  have clock : (s.at 36000).reg a = s.reg a := State.reg_at_other s _ (by simp [lo, hi, frac])
  have paired (t : State) (f : Pair → Pair) : (t.withPair f).reg a = t.reg a := rfl
  unfold engineStart
  dsimp only
  rw [paired]
  split
  · rw [State.note, State.reg_setFld_other _ 1 status, clock]
  · exact clock

theorem same_engineStart : EngineSame s (engineStart s) ∧ (engineStart s).masters = s.masters ∧
    (engineStart s).pair.own1 = some (0, false, feedLate s) := by
  have clock : EngineSame s (s.at 36000) := ⟨rfl, rfl, rfl, rfl, rfl, State.tick_at s 36000⟩
  have masters : (s.at 36000).masters = s.masters := rfl
  unfold engineStart
  dsimp only
  generalize s.at 36000 = t at *
  split
  · exact ⟨(clock.setFld F.TICK_STATUS.SHAFT_FEED_LATE 1 (by decide)).withPair _, masters, rfl⟩
  · exact ⟨clock.withPair _, masters, rfl⟩

/-- The step of the engine pass. -/
theorem exec_enginePass (f : LaneFaults) {im : Image} (ht : s.ticking = true) (hc : s.computes = true)
    (him : s.image = some im) : exec (.enginePass f) s = .next (shaftPass (engineStart s) im f) := by
  have steps : exec (.enginePass f) s = if s.ticking && s.computes then
      (match (engineStart s).image with
        | none => .next (engineStart s)
        | some im => .next (shaftPass (engineStart s) im f)) else .next s := rfl
  rw [steps, ht, hc, (same_engineStart s).1.image, him]
  rfl

end Start

/-! ## The end of the pass -/

/-- From `v` to `t` only what acts from the next pass has changed: stops asked of masters and of axes other than `i`, events
added and pages marked. -/
structure EngineEnd (i : Nat) (v t : State) : Prop where
  regs : t.regs = v.regs
  outImg : t.outImg = v.outImg
  mem : t.mem = v.mem
  pair : t.pair = v.pair
  axis : t.axis i = v.axis i
  master : ∀ j, (t.master j).m = (v.master j).m ∧ (t.master j).v = (v.master j).v ∧ (t.master j).q = (v.master j).q
  raised : ∀ e ∈ v.recorder.raised, e ∈ t.recorder.raised

theorem EngineEnd.reg {i : Nat} {v t : State} (h : EngineEnd i v t) (a : Nat) : t.reg a = v.reg a := by
  rw [State.reg, h.regs, State.reg]

theorem EngineEnd.flag {i : Nat} {v t : State} (h : EngineEnd i v t) (f : Fld) : t.flag f = v.flag f := by
  rw [State.flag, State.fld, h.reg, State.flag, State.fld]

theorem EngineEnd.outSlot {i : Nat} {v t : State} (h : EngineEnd i v t) (k : Nat) : t.outSlot k = v.outSlot k := by
  rw [State.outSlot, h.outImg, State.outSlot]

theorem EngineEnd.refl (i : Nat) (v : State) : EngineEnd i v v :=
  ⟨rfl, rfl, rfl, rfl, rfl, fun _ => ⟨rfl, rfl, rfl⟩, fun _ h => h⟩

theorem EngineEnd.trans {i : Nat} {v t u : State} (h : EngineEnd i v t) (h' : EngineEnd i t u) : EngineEnd i v u where
  regs := h'.regs.trans h.regs
  outImg := h'.outImg.trans h.outImg
  mem := h'.mem.trans h.mem
  pair := h'.pair.trans h.pair
  axis := h'.axis.trans h.axis
  master j := by
    obtain ⟨m, v, q⟩ := h.master j
    obtain ⟨m', v', q'⟩ := h'.master j
    exact ⟨m'.trans m, v'.trans v, q'.trans q⟩
  raised e he := h'.raised e (h.raised e he)

theorem EngineEnd.raise (i : Nat) (v : State) (cls code src : Nat) (det : List Byte) :
    EngineEnd i v (v.raise cls code src det) :=
  ⟨rfl, rfl, rfl, rfl, rfl, fun _ => ⟨rfl, rfl, rfl⟩, fun _ h => List.mem_append_left _ h⟩

theorem EngineEnd.setAxis {i j : Nat} (h : i ≠ j) (v : State) (x : AxisSt) : EngineEnd i v (v.setAxis j x) :=
  ⟨rfl, rfl, rfl, rfl, by rw [State.axis_setAxis, if_neg h], fun _ => ⟨rfl, rfl, rfl⟩, fun _ h => h⟩

/-- A stop asked of a master is an emergency ramp from the next pass. -/
theorem EngineEnd.stopMaster (i : Nat) (v : State) (k : Nat) :
    EngineEnd i v (v.setMaster k { v.master k with stopReq := true }) where
  regs := rfl
  outImg := rfl
  mem := rfl
  pair := rfl
  axis := rfl
  master j := by
    rw [State.master_setMaster]
    split
    · next h => exact h ▸ ⟨rfl, rfl, rfl⟩
    · exact ⟨rfl, rfl, rfl⟩
  raised _ h := h

theorem EngineEnd.markPages (i : Nat) (v : State) (pages : List Nat) : EngineEnd i v (v.markPages pages) := by
  unfold State.markPages
  split
  · exact ⟨rfl, rfl, rfl, rfl, rfl, fun _ => ⟨rfl, rfl, rfl⟩, fun _ h => h⟩
  · exact .refl i v

/-- A group stop acts from the next pass (R120). -/
theorem EngineEnd.groupStop (i : Nat) (v : State) (a : AxisRec) : EngineEnd i v (groupStop v i a) := by
  unfold Machine.groupStop
  split
  · exact .refl i v
  · split
    · exact .refl i v
    · split
      · extract_lets others t
        have recorded : EngineEnd i v t := by
          unfold t
          split
          · exact .refl i v
          · exact .raise i v _ _ _ _
        clear_value t
        refine List.foldlRecOn (motive := EngineEnd i v) others _ recorded fun u hu j hj => hu.trans (.setAxis ?_ u _)
        have other := (List.mem_filter.mp hj).2
        simp only [Bool.and_eq_true, bne_iff_ne] at other
        exact other.1.symm
      · exact .stopMaster i v _

/-- How far each master moves in the pass. -/
def masterMoves (s u : State) (n : Nat) : List Int :=
  (numbered ((List.range n).map (fun i => (s.master i).m))).map (fun e => sdiff (u.master e.1).m e.2)

theorem masterMoves_getD (s u : State) {j n : Nat} (h : j < n) :
    (masterMoves s u n).getD j 0 = sdiff (u.master j).m (s.master j).m := by
  simp [masterMoves, numbered, h]

section Whole

variable {s : State} {im : Image} (f : LaneFaults) (ht : s.ticking = true) (hc : s.computes = true)
  (him : s.image = some im)
include ht hc him

/-- A pass without axes. -/
theorem enginePass_noAxes (h : im.axes = []) : ∃ t, exec (.enginePass f) s = .next t ∧
    EngineEnd 0 (mastersPass f (engineStart s) im.masters) t := by
  refine ⟨_, exec_enginePass s f ht hc him, ?_⟩
  unfold shaftPass
  rw [h]
  exact .markPages 0 _ _

/-- A pass with one axis. -/
theorem enginePass_oneAxis {a : AxisRec} (h : im.axes = [a]) : ∃ t, exec (.enginePass f) s = .next t ∧
    EngineEnd 0 (axisPass f (masterMoves s (mastersPass f (engineStart s) im.masters) im.masters.length)
      (mastersPass f (engineStart s) im.masters) (0, a)) t := by
  have masters (i : Nat) : (engineStart s).master i = s.master i := by
    rw [State.master, (same_engineStart s).2.1, State.master]
  have moves : masterMoves (engineStart s) = masterMoves s := by
    unfold masterMoves
    simp only [masters]
  refine ⟨_, exec_enginePass s f ht hc him, ?_⟩
  rw [← moves]
  unfold shaftPass
  rw [h]
  refine EngineEnd.trans ?_ (.markPages 0 _ _)
  refine List.foldlRecOn (motive := EngineEnd 0 _) _ _ (.refl 0 _) fun t ht e he => ht.trans ?_
  have own : e = (0, a) := List.mem_singleton.mp (List.mem_filter.mp he).1
  rw [own]
  exact .groupStop 0 t a

end Whole

end Sys2Proof.Machine
end

section
/-! SUPPORT. The parts of an axis's pass: following error, ratio, gear and cam, marks, setpoint (R108 to R120). -/

namespace Sys2Proof.Machine

open Sys2Proof

section Reads

variable {s t : State} (h : EngineSame s t)
include h

theorem EngineSame.gearOf (a : AxisRec) : gearOf t a = gearOf s a := by
  unfold Machine.gearOf
  simp only [h.outSlot]

theorem EngineSame.camOf (c : Nat) : camOf t c = camOf s c := by
  unfold Machine.camOf
  rw [h.image]

theorem EngineSame.camValue (c low : Nat) : camValue t c low = camValue s c low := by
  unfold Machine.camValue
  rw [h.camOf]

theorem EngineSame.camRise (c : Nat) : camRise t c = camRise s c := by
  unfold Machine.camRise
  rw [h.camOf]

theorem EngineSame.contribution (x : AxisSt) : contribution t x = contribution s x := by
  unfold Machine.contribution
  rw [h.camValue]

theorem EngineSame.followError (x : AxisSt) (act : Slot) : followError t x act = followError s x act := by
  unfold Machine.followError
  rw [h.tick]

theorem EngineSame.markAccepted (a : AxisRec) (x : AxisSt) (cnt time : Slot) :
    markAccepted t a x cnt time = markAccepted s a x cnt time := by
  unfold Machine.markAccepted
  rw [h.tick]

theorem EngineSame.commandQuality (a : AxisRec) : commandQuality t a = commandQuality s a := by
  unfold Machine.commandQuality
  simp only [h.outSlot]

end Reads

section Axis

variable (s : State) (i : Nat) (a : AxisRec)

/-! ## Following error (R120) -/

/-- The following error that the pass finds. -/
def followAt : Option Int := followError s (s.axis i) (handleIn s a.actHandle)

/-- Whether the following error has stood above its limit for long enough. -/
def tooFar : Bool :=
  (followAt s i a).isSome && decide (a.ferrTicks ≤ ferrCount a (s.axis i) (followAt s i a)) && (s.axis i).mode != .fault

/-- The mode of the axis in this pass. -/
def passMode : AxisMode :=
  if tooFar s i a || (s.axis i).groupStop then .fault else nextMode (s.axis i).mode (s.outSlot a.cmdBase).val

/-- The following error shown, and a fault recorded. -/
def noteFollow : State :=
  let t := match followAt s i a with
    | none => s
    | some e => s.setReg (itemKey A.SHAFT_AXIS_FERR i) (ferrWord e)
  if tooFar s i a then axisFaults t i ((followAt s i a).getD 0)
  else if (s.axis i).groupStop && (s.axis i).mode != .fault then t.note F.SHAFT_EVENT.AXIS_FAULT else t

/-- What the pass takes of the axis. -/
def takeAxis : AxisSt := { s.axis i with ferrCnt := ferrCount a (s.axis i) (followAt s i a), groupStop := false }

/-- An item's register is none of the tick number's. -/
theorem itemKey_not_mem_tickRegs {b : Nat} (hb : b < 0x1000000) (h : b ∉ tickRegs) : itemKey b i ∉ tickRegs := by
  have low : ∀ c ∈ tickRegs, c < 0x1000000 := by decide
  intro hm
  exact ne_itemKey_of_low i (low _ hm) hb (fun e => h (e ▸ hm)) rfl

/-- The following error is shown in registers and events. -/
theorem noteFollow_spec : EngineSame s (noteFollow s i a) ∧ (noteFollow s i a).masters = s.masters ∧
    ∀ k, k < 0x1000000 → k ∉ [A.SHAFT_AXIS_FERR, A.SHAFT_EVENT] → (noteFollow s i a).reg k = s.reg k := by
  unfold noteFollow
  extract_lets t
  have shown : EngineSame s t ∧ t.masters = s.masters ∧
      ∀ k, k < 0x1000000 → k ∉ [A.SHAFT_AXIS_FERR, A.SHAFT_EVENT] → t.reg k = s.reg k := by
    unfold t
    split
    · exact ⟨.refl s, rfl, fun _ _ _ => rfl⟩
    · refine ⟨(EngineSame.refl s).setReg _ _ (itemKey_not_mem_tickRegs i (by decide) (by decide)), rfl, fun k hk h => ?_⟩
      exact State.reg_setReg_other s _ (ne_itemKey_of_low i hk (by decide) fun e => h (e ▸ .head _))
  clear_value t
  obtain ⟨same, masters, regs⟩ := shown
  have noted (k : Nat) (hk : k < 0x1000000) (h : k ∉ [A.SHAFT_AXIS_FERR, A.SHAFT_EVENT]) :
      (t.note F.SHAFT_EVENT.AXIS_FAULT).reg k = s.reg k :=
    (State.reg_setFld_other t 1 (by simp at h; exact h.2)).trans (regs k hk h)
  split
  · exact ⟨(same.setFld F.SHAFT_EVENT.AXIS_FAULT 1 (by decide)).raise _ _ _ _, masters, noted⟩
  · split
    · exact ⟨same.setFld F.SHAFT_EVENT.AXIS_FAULT 1 (by decide), masters, noted⟩
    · exact ⟨same, masters, regs⟩

/-- An axis that enters FAULT on its following error shows it and records it. -/
theorem noteFollow_faults (h : tooFar s i a = true) : (noteFollow s i a).flag F.SHAFT_EVENT.AXIS_FAULT = true ∧
    ∃ ev ∈ (noteFollow s i a).recorder.raised, ev.cls = 17 ∧ ev.code = 1 ∧ ev.source = i := by
  unfold noteFollow
  extract_lets t
  clear_value t
  rw [if_pos h]
  exact ⟨State.flag_note_same t _ (by decide) (by decide), _, List.mem_append_right _ (.head _), rfl, rfl, rfl⟩

/-! ## Marks (R116 to R118) -/

variable (x : AxisSt)

/-- Whether the pass sees a new mark. -/
def newMark : Bool := a.markEn && (x.markSeen && (handleIn s a.markCnt).val != x.markCnt)

/-- The accepted error of the mark that the pass sees. -/
def markFound : Option Int :=
  if newMark s a x then markAccepted s a x (handleIn s a.markCnt) (handleIn s a.markTime) else none

/-- MARK_TRIM after the pass. -/
def nextMarkTrim (e : Option Int) (x : AxisSt) : DWord :=
  match e with
  | none => x.markTrim
  | some e => markTrimmed a x.markTrim e

/-- Without a new mark the counts stay. -/
theorem markPass_idle (h : newMark s a x = false) : ∃ (seen : Bool) (cnt : DWord),
    markPass s i a x = (s, { x with markSeen := seen, markCnt := cnt }) := by
  unfold newMark at h
  unfold markPass
  cases hm : a.markEn with
  | false => exact ⟨x.markSeen, x.markCnt, rfl⟩
  | true =>
    rw [hm, Bool.true_and] at h
    refine ⟨true, (handleIn s a.markCnt).val, ?_⟩
    dsimp only
    rw [h]
    rfl

/-- The counts with those of the marks lost before a new one. -/
def countLost : State :=
  s.count (F.SHAFT_AXIS_MARK.LOST.item i) (sdiff (handleIn s a.markCnt).val x.markCnt - 1).toNat

/-- A new mark is counted as accepted or as rejected, and its correction enters MARK_TRIM (R118). -/
theorem markPass_new (h : newMark s a x = true) : markPass s i a x =
    match (generalizing := false) markFound s a x with
    | none => (((countLost s i a x).count (F.SHAFT_AXIS_MARK.REJECTED.item i) 1).note F.SHAFT_EVENT.MARK_REJECT,
        { x with markSeen := true, markCnt := (handleIn s a.markCnt).val })
    | some e => ((countLost s i a x).count (F.SHAFT_AXIS_MARK.ACCEPTED.item i) 1,
        { x with markSeen := true, markCnt := (handleIn s a.markCnt).val, markTrim := markTrimmed a x.markTrim e }) := by
  have same : EngineSame s (countLost s i a x) :=
    (EngineSame.refl s).setFld _ _ (itemKey_not_mem_tickRegs i (by decide) (by decide))
  rw [markFound, if_pos h, ← same.markAccepted]
  obtain ⟨hm, hs⟩ := Bool.and_eq_true_iff.mp h
  unfold markPass
  dsimp only
  rw [hm, hs]
  rfl

/-- What the marks change of the axis. -/
theorem markPass_axis : ∃ (seen : Bool) (cnt : DWord), (markPass s i a x).2 =
    { x with markSeen := seen, markCnt := cnt, markTrim := nextMarkTrim a (markFound s a x) x } := by
  cases h : newMark s a x with
  | false =>
    obtain ⟨seen, cnt, idle⟩ := markPass_idle s i a x h
    rw [idle, markFound, if_neg (by rw [h]; exact Bool.false_ne_true)]
    exact ⟨seen, cnt, rfl⟩
  | true =>
    rw [markPass_new s i a x h]
    cases markFound s a x with
    | none => exact ⟨true, _, rfl⟩
    | some e => exact ⟨true, _, rfl⟩

/-- The marks write the counts of their axis and an event bit. -/
theorem markPass_frame : (markPass s i a x).1 = { s with regs := (markPass s i a x).1.regs } := by
  cases h : newMark s a x with
  | false =>
    obtain ⟨seen, cnt, idle⟩ := markPass_idle s i a x h
    rw [idle]
  | true =>
    rw [markPass_new s i a x h]
    cases markFound s a x <;> rfl

theorem reg_markPass {k : Nat} (hk : k ∉ [itemKey A.SHAFT_AXIS_MARK i, A.SHAFT_EVENT]) :
    (markPass s i a x).1.reg k = s.reg k := by
  obtain ⟨mark, event⟩ : k ≠ itemKey A.SHAFT_AXIS_MARK i ∧ k ≠ A.SHAFT_EVENT := by
    rwa [List.mem_cons, List.mem_singleton, not_or] at hk
  have lost : (countLost s i a x).reg k = s.reg k := State.reg_setFld_other s _ mark
  cases h : newMark s a x with
  | false =>
    obtain ⟨seen, cnt, idle⟩ := markPass_idle s i a x h
    rw [idle]
  | true =>
    rw [markPass_new s i a x h]
    cases markFound s a x with
    | none => exact (State.reg_setFld_other _ 1 event).trans ((State.reg_setFld_other _ _ mark).trans lost)
    | some e => exact (State.reg_setFld_other _ _ mark).trans lost

theorem same_markPass : EngineSame s (markPass s i a x).1 := by
  have tick : (markPass s i a x).1.tick = s.tick := tick_of_tickRegs fun k hk => reg_markPass s i a x fun hm => by
    rcases List.mem_cons.mp hm with rfl | hm
    · exact itemKey_not_mem_tickRegs i (by decide) (by decide) hk
    · exact (by decide : A.SHAFT_EVENT ∉ tickRegs) (List.mem_singleton.mp hm ▸ hk)
  rw [markPass_frame] at tick ⊢
  exact ⟨rfl, rfl, rfl, rfl, rfl, tick⟩

/-- The counts that a new mark shows (R118). -/
theorem markPass_counts (h : newMark s a x = true) :
    ((markFound s a x).isSome → (markPass s i a x).1.fld (F.SHAFT_AXIS_MARK.ACCEPTED.item i) =
      min (F.SHAFT_AXIS_MARK.ACCEPTED.item i).top (s.fld (F.SHAFT_AXIS_MARK.ACCEPTED.item i) + 1)) ∧
    (markFound s a x = none → (markPass s i a x).1.fld (F.SHAFT_AXIS_MARK.REJECTED.item i) =
      min (F.SHAFT_AXIS_MARK.REJECTED.item i).top (s.fld (F.SHAFT_AXIS_MARK.REJECTED.item i) + 1) ∧
      (markPass s i a x).1.flag F.SHAFT_EVENT.MARK_REJECT = true) := by
  have event : itemKey A.SHAFT_AXIS_MARK i ≠ A.SHAFT_EVENT :=
    (ne_itemKey_of_low i (by decide) (by decide) (by decide)).symm
  have lost (f : Fld) (hf : f.hi < 24) : (countLost s i a x).fld f = s.fld f :=
    State.fld_setFld_other s _ f _ (.inr (.inl hf))
  rw [markPass_new s i a x h]
  cases markFound s a x with
  | none =>
    refine ⟨nofun, fun _ => ⟨?_, State.flag_note_same _ _ (by decide) (by decide)⟩⟩
    refine (State.fld_setFld_other _ _ _ _ (.inl event)).trans ?_
    exact (State.fld_count_same _ (show 23 < 32 by decide) 1).trans (by rw [lost _ (show 23 < 24 by decide)])
  | some e =>
    refine ⟨fun _ => ?_, nofun⟩
    exact (State.fld_count_same _ (show 15 < 32 by decide) 1).trans (by rw [lost _ (show 15 < 24 by decide)])

/-! ## Gear and cam (R110, R113, R114) -/

/-- Taking a ratio that the engine does not refuse (R108, R111). -/
theorem takeRatio_eq {n : Int} {d : Nat} (hd : 0 < d) :
    takeRatio x (n, d) = { x with n := n, d := d, r := if n = x.n ∧ d = x.d then x.r else 0 } := by
  unfold takeRatio
  by_cases h : n = x.n ∧ d = x.d
  · obtain ⟨hn, hd'⟩ := h
    subst hn hd'
    simp
  · rw [if_neg (by simp only [h, or_false]; omega), if_neg h]

theorem takeRatio_keeps (g : Int × Nat) : takeRatio x g =
    { x with n := (takeRatio x g).n, d := (takeRatio x g).d, r := (takeRatio x g).r } := by
  unfold takeRatio
  split <;> rfl

/-- The accumulator advances by the quotient and carries the remainder (R110); a crossing of an integer revolution moves the
cycle base and brings the selected table into use (R113, R114). -/
theorem advance_eq (hd : x.d ≠ 0) (dm : Int) (camSel : Nat) :
    let p := dm * x.n + (x.r : Int)
    let k := (x.g.toInt + p / (x.d : Int)) / 2 ^ 32 - x.g.toInt / 2 ^ 32
    advance s x dm camSel = { x with
      r := (p % (x.d : Int)).toNat
      g := x.g + BitVec.ofInt 64 (p / (x.d : Int))
      base := if x.mode = .cammed ∧ k ≠ 0 then x.base + BitVec.ofInt 64 (crossed s x.cam camSel k) else x.base
      cam := if x.mode = .cammed ∧ k ≠ 0 then camSel else x.cam } := by
  intro p k
  have rest : p - floorDiv p x.d * (x.d : Int) = p % (x.d : Int) := by
    rw [floorDiv, mul_comm]
    exact (Int.emod_def p x.d).symm
  unfold advance
  rw [if_neg hd]
  dsimp only
  rw [show dm * x.n + (x.r : Int) = p from rfl, rest]
  by_cases h : x.mode = .cammed ∧ k ≠ 0
  · rw [if_pos h, if_pos h]
    exact if_pos (Bool.and_eq_true_iff.mpr ⟨decide_eq_true h.1, bne_iff_ne.mpr h.2⟩)
  · rw [if_neg h, if_neg h]
    refine if_neg fun hc => h ?_
    obtain ⟨cammed, crosses⟩ := Bool.and_eq_true_iff.mp hc
    exact ⟨of_decide_eq_true cammed, bne_iff_ne.mp crosses⟩

/-- One crossing forward adds RISE of the table in use until then, one backward subtracts it (R113). -/
theorem base_crossed (old new : Nat) (b : DWord) :
    b + BitVec.ofInt 64 (crossed s old new 1) = b + camRise s old ∧
    b + BitVec.ofInt 64 (crossed s old new (-1)) = b - camRise s old := by
  constructor
  · simp [crossed]
  · simp [crossed, BitVec.ofInt_neg, BitVec.sub_eq_add_neg]

/-! ## The engaged part of a pass -/

/-- An engaged axis that keeps its mode, before its marks: gear, cam and trim. -/
def turnAxis (dm : Int) : AxisSt :=
  let y := advance s (takeRatio x (gearOf s a)) dm (s.outSlot (a.cmdBase + 4)).val.toNat
  { y with trim := moveToward y.trim (s.outSlot (a.cmdBase + 1)).val a.trimRate }

theorem engagedPass_turns (dm : Int) : engagedPass s i a x x.mode dm =
    ((markPass s i a (turnAxis s a x dm)).1,
      compose (markPass s i a (turnAxis s a x dm)).1 (markPass s i a (turnAxis s a x dm)).2) :=
  if_neg (by simp)

/-- An axis at its change to GEARED or CAMMED, before its marks. -/
def rebaseAxis (mode : AxisMode) : AxisSt :=
  keepSetpoint s (rebase x mode (gearOf s a) (s.outSlot (a.cmdBase + 4)).val.toNat)

theorem engagedPass_changes {mode : AxisMode} (h : mode ≠ x.mode) (dm : Int) : engagedPass s i a x mode dm =
    ((markPass s i a (rebaseAxis s a x mode)).1,
      compose (markPass s i a (rebaseAxis s a x mode)).1 (markPass s i a (rebaseAxis s a x mode)).2) :=
  if_pos (bne_iff_ne.mpr h)

/-- The pass in which an axis without marks changes to GEARED or CAMMED (R109). -/
theorem engagedPass_rebases {mode : AxisMode} (h : mode ≠ x.mode) (hm : a.markEn = false) (dm : Int) :
    engagedPass s i a x mode dm =
      (s, compose s (keepSetpoint s (rebase x mode (gearOf s a) (s.outSlot (a.cmdBase + 4)).val.toNat))) := by
  have unmarked (y : AxisSt) : markPass s i a y = (s, y) := by
    unfold markPass
    rw [hm]
    rfl
  rw [engagedPass_changes s i a x h, rebaseAxis, unmarked]

/-- The setpoint that an axis keeps at its change of mode (R109). -/
theorem compose_keepSetpoint : (compose s (keepSetpoint s x)).s = x.s ∧ (compose s (keepSetpoint s x)).ff = 0 := by
  have kept : x.s - contribution s x - x.trim - x.markTrim + contribution s x + x.trim + x.markTrim = x.s := by
    ring
  have same : contribution s (keepSetpoint s x) = contribution s x := rfl
  unfold compose
  rw [same]
  unfold keepSetpoint
  dsimp only
  rw [kept]
  exact ⟨rfl, sub_self _⟩

/-! ## Setpoints written (R115) -/

/-- The registers that show an axis. -/
def axisRegs : List Nat := [A.SHAFT_AXIS_STATE, A.SHAFT_AXIS_POS_LO, A.SHAFT_AXIS_POS_LO + 4, A.SHAFT_AXIS_MTRIM_LO,
  A.SHAFT_AXIS_MTRIM_LO + 4]

variable (q : Quality)

theorem handleOut_frame (handle : Nat) (v : Slot) :
    handleOut s handle v = { s with outImg := (handleOut s handle v).outImg } := by
  unfold handleOut
  split <;> rfl

theorem reg_writeAxis {k : Nat} (hk : k < 0x1000000) (h : k ∉ axisRegs) : (writeAxis s i a x q).reg k = s.reg k := by
  obtain ⟨own, high⟩ := apart_of_block (i := i) hk (by decide) h
  have state := own A.SHAFT_AXIS_STATE (by decide)
  unfold writeAxis
  extract_lets t1 t2 t3 t4 t5
  rw [State.reg_setDword_other _ _ (own A.SHAFT_AXIS_MTRIM_LO (by decide)) (high A.SHAFT_AXIS_MTRIM_LO (by decide)),
    State.reg_setDword_other _ _ (own A.SHAFT_AXIS_POS_LO (by decide)) (high A.SHAFT_AXIS_POS_LO (by decide))]
  have outputs : t2.reg k = s.reg k := by
    unfold t2 t1
    split
    · rw [handleOut_frame, handleOut_frame]
      rfl
    · rw [handleOut_frame]
      rfl
  exact (State.reg_setFld_other t4 _ state).trans
    ((State.reg_setFld_other _ _ state).trans ((State.reg_setFld_other t3 _ state).trans outputs))

/-- What a written setpoint leaves. -/
theorem writeAxis_spec {o : Nat} (hf : a.ffEn = false) (ho : handleSlot s a.spHandle true = some o) :
    (∃ hist, (writeAxis s i a x q).axis i = { x with hist := hist }) ∧ (writeAxis s i a x q).outSlot o = ⟨x.s, q⟩ ∧
    (writeAxis s i a x q).mem = s.mem ∧ (writeAxis s i a x q).masters = s.masters ∧
    (writeAxis s i a x q).recorder = s.recorder := by
  unfold writeAxis handleOut
  rw [hf, ho]
  exact ⟨⟨_, (State.axis_setAxis _ i i _).trans (if_pos rfl)⟩, (State.outSlot_setOut s o o _).trans (if_pos rfl),
    rfl, rfl, rfl⟩

end Axis

end Sys2Proof.Machine
end

section
/-! SUPPORT. One axis in the pass: case by case from its mode, its master and the lanes (R104, R108 to R120). -/

namespace Sys2Proof.Machine

open Sys2Proof

section Axis

variable (s : State) (i : Nat) (a : AxisRec) (f : LaneFaults) (dms : List Int)

/-- An axis that is not engaged in this pass, before its marks. -/
def restAxis (mode : AxisMode) : AxisSt :=
  { takeRatio (takeAxis s i a) (gearOf (noteFollow s i a) a) with mode := mode }

/-- The axis with its new setpoint, and the state beside it. -/
def moveAxis (mode : AxisMode) : State × AxisSt :=
  let x := if mode = .geared ∨ mode = .cammed then takeAxis s i a
    else takeRatio (takeAxis s i a) (gearOf (noteFollow s i a) a)
  if mode = .geared ∨ mode = .cammed then engagedPass (noteFollow s i a) i a x mode (dms.getD a.master 0)
  else
    let (t, x) := markPass (noteFollow s i a) i a { x with mode := mode }
    (t, holdActual x (handleIn s a.actHandle))

theorem moveAxis_engaged {mode : AxisMode} (h : mode = .geared ∨ mode = .cammed) : moveAxis s i a dms mode =
    engagedPass (noteFollow s i a) i a (takeAxis s i a) mode (dms.getD a.master 0) := by
  unfold moveAxis
  rw [if_pos h, if_pos h]

theorem moveAxis_rest {mode : AxisMode} (h : ¬(mode = .geared ∨ mode = .cammed)) : moveAxis s i a dms mode =
    ((markPass (noteFollow s i a) i a (restAxis s i a mode)).1,
      holdActual (markPass (noteFollow s i a) i a (restAxis s i a mode)).2 (handleIn s a.actHandle)) := by
  unfold moveAxis restAxis
  rw [if_neg h, if_neg h]

/-- The axis written. -/
def placeAxis (act : Slot) (p : State × AxisSt) : State := writeAxis p.1 i a p.2 (setpointQuality p.1 a p.2 act)

theorem axisPass_agreed (h : f.axes.contains i = false) : axisPass f dms s (i, a) =
    placeAxis i a (handleIn s a.actHandle) (moveAxis s i a dms (passMode s i a)) := by
  have steps : axisPass f dms s (i, a) = if f.axes.contains i then
      writeAxis (laneMismatch s i) i a { seeMark s a (s.axis i) with s := (s.axis i).s + (s.axis i).ff }
        (setpointQuality s a (s.axis i) (handleIn s a.actHandle))
      else placeAxis i a (handleIn s a.actHandle) (moveAxis s i a dms
        (if tooFar s i a || (s.axis i).groupStop then .fault
          else nextMode (s.axis i).mode ((noteFollow s i a).outSlot a.cmdBase).val)) := rfl
  rw [steps, h, (noteFollow_spec s i a).1.outSlot]
  rfl

theorem axisPass_disagreed (h : f.axes.contains i = true) : axisPass f dms s (i, a) =
    writeAxis (laneMismatch s i) i a { seeMark s a (s.axis i) with s := (s.axis i).s + (s.axis i).ff }
      (setpointQuality s a (s.axis i) (handleIn s a.actHandle)) :=
  if_pos h

/-! ## What the pass leaves beside the axis -/

/-- Whatever the mode, the state beside the axis comes from the following error and the marks. -/
theorem moveAxis_state (mode : AxisMode) :
    ∃ x, (moveAxis s i a dms mode).1 = (markPass (noteFollow s i a) i a x).1 := by
  by_cases hm : mode = .geared ∨ mode = .cammed
  · rw [moveAxis_engaged s i a dms hm]
    by_cases change : mode = (takeAxis s i a).mode
    · rw [change, engagedPass_turns]
      exact ⟨_, rfl⟩
    · rw [engagedPass_changes _ _ _ _ change]
      exact ⟨_, rfl⟩
  · rw [moveAxis_rest s i a dms hm]
    exact ⟨_, rfl⟩

theorem same_moveAxis (mode : AxisMode) : EngineSame s (moveAxis s i a dms mode).1 ∧
    (moveAxis s i a dms mode).1.masters = s.masters ∧
    (moveAxis s i a dms mode).1.recorder = (noteFollow s i a).recorder := by
  obtain ⟨x, state⟩ := moveAxis_state s i a dms mode
  obtain ⟨same, masters, -⟩ := noteFollow_spec s i a
  have marks := same_markPass (noteFollow s i a) i a x
  rw [state]
  refine ⟨same.trans marks, ?_, ?_⟩
  · rw [markPass_frame]
    exact masters
  · rw [markPass_frame]

/-- An axis in FAULT stays shown, whatever its marks. -/
theorem flag_markPass (t : State) (x : AxisSt) :
    (markPass t i a x).1.flag F.SHAFT_EVENT.AXIS_FAULT = t.flag F.SHAFT_EVENT.AXIS_FAULT := by
  have mark : A.SHAFT_EVENT ≠ itemKey A.SHAFT_AXIS_MARK i := ne_itemKey_of_low i (by decide) (by decide) (by decide)
  have lost : (countLost t i a x).flag F.SHAFT_EVENT.AXIS_FAULT = t.flag F.SHAFT_EVENT.AXIS_FAULT :=
    State.flag_setFld_other _ _ _ _ (.inl mark)
  cases h : newMark t a x with
  | false =>
    obtain ⟨seen, cnt, idle⟩ := markPass_idle t i a x h
    rw [idle]
  | true =>
    rw [markPass_new t i a x h]
    cases markFound t a x with
    | none =>
      exact (State.flag_setFld_other _ _ _ _ (.inr (by decide))).trans
        ((State.flag_setFld_other _ _ _ _ (.inl mark)).trans lost)
    | some e => exact (State.flag_setFld_other _ _ _ _ (.inl mark)).trans lost

variable {s i a f dms}

/-! ## The axis as written -/

/-- What writing the axis leaves, in a pass over an axis whose setpoint the image holds. -/
theorem placeAxis_spec {o : Nat} (hff : a.ffEn = false) (ho : handleSlot s a.spHandle true = some o) (act : Slot)
    (mode : AxisMode) :
    let p := moveAxis s i a dms mode
    (∃ hist, (placeAxis i a act p).axis i = { p.2 with hist := hist }) ∧
    (placeAxis i a act p).outSlot o = ⟨p.2.s, setpointQuality p.1 a p.2 act⟩ ∧ (placeAxis i a act p).mem = s.mem ∧
    (placeAxis i a act p).masters = s.masters ∧ (placeAxis i a act p).recorder = (noteFollow s i a).recorder := by
  obtain ⟨same, masters, recorder⟩ := same_moveAxis s i a dms mode
  obtain ⟨axis, slot, mem, masters', recorder'⟩ := writeAxis_spec (moveAxis s i a dms mode).1 i a
    (moveAxis s i a dms mode).2 (setpointQuality (moveAxis s i a dms mode).1 a (moveAxis s i a dms mode).2 act)
    hff ((same.handleSlot _ _).trans ho)
  exact ⟨axis, slot, mem.trans same.mem, masters'.trans masters, recorder'.trans recorder⟩

/-- An axis that is not engaged follows its actual position, in FAULT with quality SUBSTITUTE (R109, R115, R120). -/
theorem axisPass_rests {o : Nat} (hf : f.axes.contains i = false) (hff : a.ffEn = false)
    (ho : handleSlot s a.spHandle true = some o) (hm : ¬(passMode s i a = .geared ∨ passMode s i a = .cammed)) :
    let v := axisPass f dms s (i, a)
    let act := handleIn s a.actHandle
    (v.axis i).mode = passMode s i a ∧ (v.axis i).s = act.val ∧ (v.axis i).ff = 0 ∧ (v.outSlot o).val = act.val ∧
    (passMode s i a = .fault → (v.outSlot o).q = .substitute) ∧ v.mem = s.mem := by
  intro v act
  obtain ⟨⟨hist, axis⟩, slot, mem, -⟩ := placeAxis_spec (dms := dms) (i := i) hff ho act (passMode s i a)
  rw [← axisPass_agreed s i a f dms hf] at axis slot mem
  rw [moveAxis_rest s i a dms hm] at axis slot
  obtain ⟨seen, cnt, marks⟩ := markPass_axis (noteFollow s i a) i a (restAxis s i a (passMode s i a))
  have mode : (markPass (noteFollow s i a) i a (restAxis s i a (passMode s i a))).2.mode = passMode s i a := by
    rw [marks]
    rfl
  rw [axis, slot]
  refine ⟨mode, rfl, rfl, rfl, fun fault => ?_, mem⟩
  show setpointQuality _ a (holdActual _ act) act = .substitute
  unfold setpointQuality holdActual
  dsimp only
  rw [mode, fault]

theorem tooFar_iff : tooFar s i a = true ↔ ∃ e, followAt s i a = some e ∧
    a.ferrTicks ≤ ferrCount a (s.axis i) (some e) ∧ (s.axis i).mode ≠ .fault := by
  unfold tooFar
  cases followAt s i a with
  | none => simp
  | some e => simp

/-- A following error above its limit for long enough puts an engaged axis in FAULT (R120). -/
theorem passMode_fault {e : Int} (he : followAt s i a = some e) (hl : a.ferrLimit < e.natAbs)
    (hm : (s.axis i).mode ≠ .fault) (hc : a.ferrTicks ≤ min 255 ((s.axis i).ferrCnt + 1)) :
    tooFar s i a = true ∧ passMode s i a = .fault := by
  have far : tooFar s i a = true := tooFar_iff.mpr ⟨e, he, by rwa [ferrCount, if_pos hl], hm⟩
  exact ⟨far, by rw [passMode, far]; rfl⟩

/-- An axis within its limit takes the mode asked of it. -/
theorem passMode_within (hg : (s.axis i).groupStop = false) (ht : 0 < a.ferrTicks)
    (hl : ∀ e, followAt s i a = some e → e.natAbs ≤ a.ferrLimit) :
    passMode s i a = nextMode (s.axis i).mode (s.outSlot a.cmdBase).val := by
  have near : tooFar s i a = false := Bool.eq_false_iff.mpr fun far => by
    obtain ⟨e, he, hc, -⟩ := tooFar_iff.mp far
    rw [ferrCount, if_neg (Nat.not_lt.mpr (hl e he))] at hc
    omega
  unfold passMode
  rw [near, hg]
  rfl

/-- An axis that enters FAULT on its following error shows it and records it. -/
theorem axisPass_faults {o : Nat} (hf : f.axes.contains i = false) (hff : a.ffEn = false)
    (ho : handleSlot s a.spHandle true = some o) (far : tooFar s i a = true) :
    (axisPass f dms s (i, a)).flag F.SHAFT_EVENT.AXIS_FAULT = true ∧
    ∃ ev ∈ (axisPass f dms s (i, a)).recorder.raised, ev.cls = 17 ∧ ev.code = 1 ∧ ev.source = i := by
  obtain ⟨flag, event⟩ := noteFollow_faults s i a far
  obtain ⟨-, -, -, -, recorder⟩ := placeAxis_spec (dms := dms) (i := i) hff ho (handleIn s a.actHandle) (passMode s i a)
  obtain ⟨x, state⟩ := moveAxis_state s i a dms (passMode s i a)
  rw [axisPass_agreed s i a f dms hf]
  refine ⟨?_, recorder.symm ▸ event⟩
  rw [State.flag, State.fld, placeAxis, reg_writeAxis _ _ _ _ _ (by decide) (by decide), state, ← State.fld, ← State.flag,
    flag_markPass]
  exact flag

/-- On a lane disagreement the axis puts out its last setpoint plus its last feedforward and keeps its state (R104). -/
theorem axisPass_holdsLast {o : Nat} (hf : f.axes.contains i = true) (hff : a.ffEn = false)
    (ho : handleSlot s a.spHandle true = some o) :
    let v := axisPass f dms s (i, a)
    let x := s.axis i
    (v.axis i).s = x.s + x.ff ∧ (v.outSlot o).val = x.s + x.ff ∧ (v.axis i).g = x.g ∧ (v.axis i).r = x.r ∧
    (v.axis i).trim = x.trim ∧ (v.axis i).markTrim = x.markTrim ∧ (v.axis i).mode = x.mode ∧
    v.flag F.SHAFT_EVENT.LANE_MISMATCH = true ∧ v.flag F.CHK_STATUS.UNCLEAN = true := by
  intro v x
  obtain ⟨lane, unclean⟩ := flags_laneMismatch s i
  obtain ⟨⟨hist, axis⟩, slot, -⟩ := writeAxis_spec (laneMismatch s i) i a
    { seeMark s a (s.axis i) with s := (s.axis i).s + (s.axis i).ff }
    (setpointQuality s a (s.axis i) (handleIn s a.actHandle)) hff (((same_laneMismatch s i).1.handleSlot _ _).trans ho)
  rw [← axisPass_disagreed s i a f dms hf] at axis slot
  have flags (g : Fld) (hg : g.reg < 0x1000000) (h : g.reg ∉ axisRegs) : v.flag g = (laneMismatch s i).flag g := by
    rw [State.flag, State.fld, State.flag, State.fld, ← reg_writeAxis (laneMismatch s i) i a _ _ hg h]
    rw [← axisPass_disagreed s i a f dms hf]
  have seen : ∃ (b : Bool) (c : DWord), seeMark s a x = { x with markSeen := b, markCnt := c } := by
    unfold seeMark
    split
    · exact ⟨_, _, rfl⟩
    · exact ⟨x.markSeen, x.markCnt, rfl⟩
  obtain ⟨b, c, seen⟩ := seen
  rw [axis, slot, flags _ (by decide) (by decide), flags _ (by decide) (by decide)]
  rw [show seeMark s a (s.axis i) = _ from seen]
  exact ⟨rfl, rfl, rfl, rfl, rfl, rfl, rfl, lane, unclean⟩

/-- At its change to GEARED or CAMMED an axis begins anew with the setpoint that it had (R109). -/
theorem axisPass_rebases {o : Nat} (hf : f.axes.contains i = false) (hff : a.ffEn = false)
    (ho : handleSlot s a.spHandle true = some o) (hk : a.markEn = false)
    (hm : passMode s i a = .geared ∨ passMode s i a = .cammed) (hc : passMode s i a ≠ (s.axis i).mode) :
    let v := axisPass f dms s (i, a)
    (v.axis i).mode = passMode s i a ∧ (v.axis i).s = (s.axis i).s ∧ (v.axis i).ff = 0 ∧ (v.axis i).g = 0 ∧
    (v.axis i).r = 0 ∧ (v.axis i).trim = 0 ∧ (v.axis i).markTrim = 0 ∧ (v.outSlot o).val = (s.axis i).s := by
  intro v
  obtain ⟨⟨hist, axis⟩, slot, -⟩ := placeAxis_spec (dms := dms) (i := i) hff ho (handleIn s a.actHandle) (passMode s i a)
  rw [← axisPass_agreed s i a f dms hf, moveAxis_engaged s i a dms hm,
    engagedPass_rebases (noteFollow s i a) i a (takeAxis s i a) hc hk] at axis slot
  rw [axis, slot]
  obtain ⟨kept, still⟩ := compose_keepSetpoint (noteFollow s i a) (rebase (takeAxis s i a) (passMode s i a)
    (gearOf (noteFollow s i a) a) ((noteFollow s i a).outSlot (a.cmdBase + 4)).val.toNat)
  have setpoint : (rebase (takeAxis s i a) (passMode s i a) (gearOf (noteFollow s i a) a)
      ((noteFollow s i a).outSlot (a.cmdBase + 4)).val.toNat).s = (s.axis i).s := by
    unfold rebase
    rw [takeRatio_keeps]
    rfl
  rw [setpoint] at kept
  exact ⟨rfl, kept, still, rfl, rfl, rfl, rfl, kept⟩

end Axis

end Sys2Proof.Machine
end

section
/-! The engine pass: an engaged axis that turns with its master, the cam tables, and the pass as stated (R110 to R118). -/

namespace Sys2Proof.Machine

open Sys2Proof

section Turning

variable {s : State} {i : Nat} {a : AxisRec} {f : LaneFaults} {dms : List Int}

/-! ## An engaged axis turns with its master -/

/-- The mode that a pass takes of its request, with a following error within its limit. -/
theorem passMode_of_same {u : State} (same : EngineSame s u) (hs : (s.axis 0).groupStop = false) (hn : 0 < a.ferrTicks)
    (hl : ∀ e, followError s (s.axis 0) (handleIn s a.actHandle) = some e → e.natAbs ≤ a.ferrLimit) :
    passMode u 0 a = nextMode (s.axis 0).mode (s.outSlot a.cmdBase).val := by
  have within := passMode_within (s := u) (i := 0) (a := a) (by rw [same.axis]; exact hs) hn fun e he => by
    rw [followAt, same.axis, same.handleIn, same.followError] at he
    exact hl e he
  rw [within, same.axis, same.outSlot]

/-- The remainder that the pass carries in. -/
def carried (x : AxisSt) (n : Int) (d : Nat) : Nat := if n = x.n ∧ d = x.d then x.r else 0

/-- The gear's dividend in a pass in which the master moves by `dm` (R110). -/
def gearSum (x : AxisSt) (n : Int) (d : Nat) (dm : Int) : Int := dm * n + (carried x n d : Int)

/-- The integer revolutions that the accumulator crosses in the pass (R113). -/
def crossings (x : AxisSt) (n : Int) (d : Nat) (dm : Int) : Int :=
  (x.g.toInt + gearSum x n d dm / (d : Int)) / 2 ^ 32 - x.g.toInt / 2 ^ 32

/-- An engaged axis after gear, cam and trim. -/
theorem turnAxis_spec (x : AxisSt) {n : Int} {d : Nat} (hg : gearOf s a = (n, d)) (hd : 0 < d) (dm : Int) :
    let y := turnAxis s a x dm
    (y.mode = x.mode ∧ y.markSeen = x.markSeen ∧ y.markCnt = x.markCnt ∧ y.hist = x.hist ∧ y.offset = x.offset ∧
      y.markTrim = x.markTrim ∧ y.s = x.s) ∧
    y.g = x.g + BitVec.ofInt 64 (gearSum x n d dm / (d : Int)) ∧ (y.r : Int) = gearSum x n d dm % (d : Int) ∧
    y.trim = moveToward x.trim (s.outSlot (a.cmdBase + 1)).val a.trimRate ∧
    y.base = (if x.mode = .cammed ∧ crossings x n d dm ≠ 0 then x.base + BitVec.ofInt 64 (crossed s x.cam
      (s.outSlot (a.cmdBase + 4)).val.toNat (crossings x n d dm)) else x.base) ∧
    y.cam = if x.mode = .cammed ∧ crossings x n d dm ≠ 0 then (s.outSlot (a.cmdBase + 4)).val.toNat else x.cam := by
  intro y
  have turned : y = { advance s (takeRatio x (gearOf s a)) dm (s.outSlot (a.cmdBase + 4)).val.toNat with
    trim := moveToward (advance s (takeRatio x (gearOf s a)) dm (s.outSlot (a.cmdBase + 4)).val.toNat).trim
      (s.outSlot (a.cmdBase + 1)).val a.trimRate } := rfl
  rw [hg, takeRatio_eq x hd, advance_eq s _ (Nat.ne_of_gt hd)] at turned
  rw [turned]
  refine ⟨⟨rfl, rfl, rfl, rfl, rfl, rfl, rfl⟩, rfl, ?_, rfl, rfl, rfl⟩
  exact Int.toNat_of_nonneg (Int.emod_nonneg _ (Int.natCast_ne_zero.mpr (Nat.ne_of_gt hd)))

/-- The marks that the pass sees read what the gear leaves. -/
theorem markFound_congr {t : State} (h : EngineSame s t) {x y : AxisSt} (mode : y.mode = x.mode)
    (seen : y.markSeen = x.markSeen) (cnt : y.markCnt = x.markCnt) (hist : y.hist = x.hist) :
    markFound t a y = markFound s a x ∧ newMark t a y = newMark s a x := by
  have new : newMark t a y = newMark s a x := by
    unfold newMark
    rw [seen, cnt, h.handleIn]
  refine ⟨?_, new⟩
  unfold markFound
  rw [new, h.handleIn, h.handleIn, h.markAccepted]
  unfold markAccepted
  rw [mode, hist]

/-- An engaged axis puts out the highest quality of its master and its command slots (R115). -/
theorem setpointQuality_engaged (t : State) {x : AxisSt} (act : Slot) (h : x.mode = .geared ∨ x.mode = .cammed) :
    setpointQuality t a x act = (t.master a.master).q.max (commandQuality t a) := by
  unfold setpointQuality
  rcases h with h | h <;> rw [h]

/-- The counts of an axis's marks after the pass (R118). -/
def MarksShown (s v : State) (e : Option Int) : Prop :=
  (e.isSome → v.fld (F.SHAFT_AXIS_MARK.ACCEPTED.item 0) =
    min (F.SHAFT_AXIS_MARK.ACCEPTED.item 0).top (s.fld (F.SHAFT_AXIS_MARK.ACCEPTED.item 0) + 1)) ∧
  (e = none → v.fld (F.SHAFT_AXIS_MARK.REJECTED.item 0) =
    min (F.SHAFT_AXIS_MARK.REJECTED.item 0).top (s.fld (F.SHAFT_AXIS_MARK.REJECTED.item 0) + 1) ∧
    v.flag F.SHAFT_EVENT.MARK_REJECT = true)

/-- The counts read registers that neither the following error nor the written setpoint touches. -/
theorem MarksShown.congr {s t u v : State} {e : Option Int} (h : MarksShown t u e)
    (before : t.reg A.SHAFT_AXIS_MARK = s.reg A.SHAFT_AXIS_MARK) (mark : v.reg A.SHAFT_AXIS_MARK = u.reg A.SHAFT_AXIS_MARK)
    (event : v.reg A.SHAFT_EVENT = u.reg A.SHAFT_EVENT) : MarksShown s v e := by
  have item (f : Fld) (hf : f.reg = A.SHAFT_AXIS_MARK) : (f.item 0).reg = A.SHAFT_AXIS_MARK := by
    rw [Fld.item, itemKey, hf, Nat.zero_mul, Nat.zero_add]
  have old (f : Fld) (hf : f.reg = A.SHAFT_AXIS_MARK) : t.fld (f.item 0) = s.fld (f.item 0) := by
    rw [State.fld, item f hf, before, State.fld, item f hf]
  have new (f : Fld) (hf : f.reg = A.SHAFT_AXIS_MARK) : v.fld (f.item 0) = u.fld (f.item 0) := by
    rw [State.fld, item f hf, mark, State.fld, item f hf]
  have flag : v.flag F.SHAFT_EVENT.MARK_REJECT = u.flag F.SHAFT_EVENT.MARK_REJECT := by
    rw [State.flag, State.fld, event, State.flag, State.fld]
  unfold MarksShown at h ⊢
  rwa [new _ rfl, new _ rfl, flag, ← old _ rfl, ← old F.SHAFT_AXIS_MARK.REJECTED rfl]

/-- Axis `x` becomes `z` in a pass in which it keeps its mode, takes ratio `n` over `d` and its master moves by `dm`: gear
and cam (R110, R113), trim and setpoint (R115), mark correction (R118). -/
structure Turned (s : State) (a : AxisRec) (n : Int) (d : Nat) (dm : Int) (x z : AxisSt) : Prop where
  mode : z.mode = x.mode
  trim : z.trim = moveToward x.trim (s.outSlot (a.cmdBase + 1)).val a.trimRate
  markTrim : z.markTrim = nextMarkTrim a (markFound s a x) x
  g : z.g = x.g + BitVec.ofInt 64 (gearSum x n d dm / (d : Int))
  r : (z.r : Int) = gearSum x n d dm % (d : Int)
  base : z.base = if x.mode = .cammed ∧ crossings x n d dm ≠ 0 then x.base + BitVec.ofInt 64 (crossed s x.cam
    (s.outSlot (a.cmdBase + 4)).val.toNat (crossings x n d dm)) else x.base
  cam : z.cam = if x.mode = .cammed ∧ crossings x n d dm ≠ 0 then (s.outSlot (a.cmdBase + 4)).val.toNat else x.cam
  setpoint : z.s = x.offset + contribution s z + z.trim + z.markTrim
  ff : z.ff = z.s - x.s

theorem EngineSame.crossed {u : State} (h : EngineSame s u) (old new : Nat) (k : Int) :
    crossed u old new k = crossed s old new k := by
  unfold Machine.crossed
  rw [h.camRise, h.camRise]

theorem Turned.of_same {u : State} (same : EngineSame s u) {n : Int} {d : Nat} {dm : Int} {x z : AxisSt}
    (h : Turned u a n d dm x z) : Turned s a n d dm x z where
  mode := h.mode
  trim := same.outSlot _ ▸ h.trim
  markTrim := (markFound_congr (a := a) same (x := x) rfl rfl rfl rfl).1 ▸ h.markTrim
  g := h.g
  r := h.r
  base := same.crossed _ _ _ ▸ same.outSlot _ ▸ h.base
  cam := same.outSlot _ ▸ h.cam
  setpoint := same.contribution _ ▸ h.setpoint
  ff := h.ff

/-- An engaged axis that keeps its mode turns with its master, moves its trim and takes its marks (R110, R113, R115, R118). -/
theorem axisPass_turns {o : Nat} (hf : f.axes.contains 0 = false) (hff : a.ffEn = false)
    (ho : handleSlot s a.spHandle true = some o) (hm : (s.axis 0).mode = .geared ∨ (s.axis 0).mode = .cammed)
    (hp : passMode s 0 a = (s.axis 0).mode) {n : Int} {d : Nat} (hg : gearOf s a = (n, d)) (hd : 0 < d) :
    let v := axisPass f dms s (0, a)
    let z := v.axis 0
    let x := s.axis 0
    Turned s a n d (dms.getD a.master 0) x z ∧
    v.outSlot o = ⟨z.s, (s.master a.master).q.max (commandQuality s a)⟩ ∧ v.mem = s.mem ∧ v.masters = s.masters ∧
    (newMark s a x = true → MarksShown s v (markFound s a x)) := by
  intro v z x
  obtain ⟨same, masters, regs⟩ := noteFollow_spec s 0 a
  obtain ⟨⟨hist, axis⟩, slot, mem, rest, -⟩ :=
    placeAxis_spec (dms := dms) (i := 0) hff ho (handleIn s a.actHandle) (passMode s 0 a)
  have turns : moveAxis s 0 a dms (passMode s 0 a) = _ :=
    (moveAxis_engaged s 0 a dms (hp ▸ hm)).trans (hp ▸ engagedPass_turns (noteFollow s 0 a) 0 a (takeAxis s 0 a) _)
  have step : v = placeAxis 0 a (handleIn s a.actHandle) (moveAxis s 0 a dms (passMode s 0 a)) :=
    axisPass_agreed s 0 a f dms hf
  rw [← step, turns] at axis slot
  rw [← step] at mem rest
  rw [turns] at step
  obtain ⟨⟨mode, seen, cnt, hist', offset, trimmed, before⟩, g, r, trim, base, cam⟩ :=
    turnAxis_spec (s := noteFollow s 0 a) (takeAxis s 0 a) ((same.gearOf a).trans hg) hd (dms.getD a.master 0)
  rw [same.outSlot] at trim base cam
  rw [same.crossed] at base
  generalize turnAxis (noteFollow s 0 a) a (takeAxis s 0 a) (dms.getD a.master 0) = y at *
  obtain ⟨found, new⟩ := markFound_congr (a := a) same (x := x) (y := y) mode seen cnt hist'
  obtain ⟨seen', cnt', marks⟩ := markPass_axis (noteFollow s 0 a) 0 a y
  have beside := same.trans (same_markPass (noteFollow s 0 a) 0 a y)
  rw [marks, found] at axis slot
  have nextTrim : nextMarkTrim a (markFound s a x) y = nextMarkTrim a (markFound s a x) x := by
    unfold nextMarkTrim
    rw [trimmed]
    rfl
  have master : (markPass (noteFollow s 0 a) 0 a y).1.master a.master = s.master a.master := by
    rw [markPass_frame, State.master, State.master, ← masters]
  have engaged : y.mode = .geared ∨ y.mode = .cammed := by
    rw [mode]
    exact hm
  have quality := setpointQuality_engaged (a := a) (markPass (noteFollow s 0 a) 0 a y).1 (handleIn s a.actHandle) engaged
  rw [master, beside.commandQuality] at quality
  have driven := beside.contribution y
  change z = _ at axis
  clear_value z
  subst axis
  refine ⟨⟨mode, trim, nextTrim, g, r, base, cam, ?_, ?_⟩, slot.trans (congrArg _ quality), mem, rest, fun isNew => ?_⟩
  · show y.offset + contribution _ y + y.trim + _ = x.offset + contribution s y + y.trim + _
    rw [driven, offset]
    rfl
  · show _ - y.s = _
    rw [before]
    rfl
  · have shown : MarksShown (noteFollow s 0 a) (markPass (noteFollow s 0 a) 0 a y).1 (markFound s a x) := by
      rw [← found]
      exact markPass_counts (noteFollow s 0 a) 0 a y (new.trans isNew)
    refine shown.congr (regs _ (by decide) (by decide)) ?_ ?_ <;>
    · rw [step]
      exact reg_writeAxis _ _ _ _ _ (by decide) (by decide)

end Turning

/-! ## Cam tables (R112, R113) -/

section Cams

variable (t : CamTab) {i u : Nat}

/-- A cam table reads between point `i` and the next one, `u` behind point `i`. -/
theorem camTabValue_between (hu : u < 2 ^ (32 - t.b)) : camTabValue t (i * 2 ^ (32 - t.b) + u) =
    let a := camPoint t i
    let z := camPoint t (i + 1)
    let dy := (z.1 - a.1).toInt
    let w : Int := (2 ^ (32 - t.b) : Nat)
    a.1 + BitVec.ofInt 64 (if t.cubic then
      (a.2.toInt * u * w * w + (3 * dy - 2 * a.2.toInt - z.2.toInt) * u * u * w +
        (-2 * dy + a.2.toInt + z.2.toInt) * u * u * u) /
        (2 ^ (32 - t.b) * 2 ^ (32 - t.b) * 2 ^ (32 - t.b) : Nat) else dy * u / w) := by
  have point : (i * 2 ^ (32 - t.b) + u) / 2 ^ (32 - t.b) = i := by
    rw [Nat.add_comm, Nat.add_mul_div_right _ _ (Nat.two_pow_pos _), Nat.div_eq_of_lt hu, Nat.zero_add]
  have behind : (i * 2 ^ (32 - t.b) + u) % 2 ^ (32 - t.b) = u := by
    rw [Nat.add_comm, Nat.add_mul_mod_self_right, Nat.mod_eq_of_lt hu]
  unfold camTabValue
  dsimp only
  rw [point, behind]
  cases t.cubic <;> rfl

/-- At a point of its grid a table reads that point's position. -/
theorem camTabValue_point : camTabValue t (i * 2 ^ (32 - t.b)) = (camPoint t i).1 := by
  have value := camTabValue_between t (i := i) (Nat.two_pow_pos (32 - t.b))
  rw [Nat.add_zero] at value
  rw [value]
  cases t.cubic <;> simp

/-- A linear table reads the line between two points (R113). -/
theorem camTabValue_linear (hu : u < 2 ^ (32 - t.b)) (h : t.cubic = false) :
    camTabValue t (i * 2 ^ (32 - t.b) + u) = (camPoint t i).1 +
      BitVec.ofInt 64 (((camPoint t (i + 1)).1 - (camPoint t i).1).toInt * u / (2 ^ (32 - t.b) : Nat)) := by
  rw [camTabValue_between t hu, h]
  rfl

/-- A cubic table whose slopes are those of the line reads the line (R113). -/
theorem camTabValue_cubic (hu : u < 2 ^ (32 - t.b)) (h : t.cubic = true)
    (h0 : (camPoint t i).2 = (camPoint t (i + 1)).1 - (camPoint t i).1)
    (h1 : (camPoint t (i + 1)).2 = (camPoint t (i + 1)).1 - (camPoint t i).1) :
    camTabValue t (i * 2 ^ (32 - t.b) + u) = (camPoint t i).1 +
      BitVec.ofInt 64 (((camPoint t (i + 1)).1 - (camPoint t i).1).toInt * u / (2 ^ (32 - t.b) : Nat)) := by
  have line (dy w : Int) (hw : 0 < w) : (dy * u * w * w + (3 * dy - 2 * dy - dy) * u * u * w +
      (-2 * dy + dy + dy) * u * u * u) / (w * w * w) = dy * u / w := by
    have sum : dy * u * w * w + (3 * dy - 2 * dy - dy) * u * u * w + (-2 * dy + dy + dy) * u * u * u =
        w * w * (dy * u) := by ring
    rw [sum, Int.mul_ediv_mul_of_pos _ _ (Int.mul_pos hw hw)]
  rw [camTabValue_between t hu]
  dsimp only
  rw [h0, h1, if_pos h, Nat.cast_mul, Nat.cast_mul, line _ _ (by exact_mod_cast Nat.two_pow_pos _)]

/-- The positions between which a table reads: the point behind the last is the first one raised by RISE (R112). -/
theorem camPoint_position (hl : t.points.length = 2 ^ t.b) (hi : i < 2 ^ t.b) :
    (camPoint t i).1 = (t.points.getD i (0, 0)).1 ∧ (camPoint t (i + 1)).1 =
      if i + 1 < 2 ^ t.b then (t.points.getD (i + 1) (0, 0)).1 else (t.points.getD 0 (0, 0)).1 + t.rise := by
  unfold camPoint
  rw [hl]
  exact ⟨by rw [if_pos hi], by split <;> rfl⟩

end Cams

/-! ## The pass as stated -/

section Pass

variable {s : State} {im : Image} (ht : s.ticking = true) (hc : s.computes = true) (him : s.image = some im)
include ht hc him

/-- Masters without axes: one that follows its command, and one whose lanes disagree (R104, R106). -/
theorem enginePass_masters {i : Nat} {r : MasterRec} (hr : im.masters[i]? = some r) (ha : im.axes = []) :
    (∀ src, src = s.outSlot r.cmdSlot → r.external = false → (s.master i).emerg = false →
      (s.master i).stopReq = false → src.q ≠ .bad → (src.val - (s.master i).v).toInt.natAbs ≤ r.acc →
      ∃ t, exec (.enginePass ⟨[], []⟩) s = .next t ∧ (t.master i).v = src.val ∧
        (t.master i).m = (s.master i).m + src.val ∧ t.mem = s.mem ∧ t.outImg = s.outImg ∧
        t.pair.own1 = some (0, false, feedLate s)) ∧
    ∃ t, exec (.enginePass ⟨[i], []⟩) s = .next t ∧ (t.master i).m = (s.master i).m ∧
      (t.master i).v = (s.master i).v ∧ (t.master i).q = (s.master i).q ∧
      t.flag F.SHAFT_EVENT.LANE_MISMATCH = true ∧ t.flag F.CHK_STATUS.UNCLEAN = true := by
  obtain ⟨start, masters, own1⟩ := same_engineStart s
  have master : (engineStart s).master i = s.master i := by rw [State.master, masters, State.master]
  constructor
  · rintro src rfl he hx hs hq near
    obtain ⟨t, step, done⟩ := enginePass_noAxes ⟨[], []⟩ ht hc him ha
    obtain ⟨m, v, -⟩ := done.master i
    have same := start.trans (same_mastersPass ⟨[], []⟩ (engineStart s) im.masters)
    have passed := master_mastersPass ⟨[], []⟩ (engineStart s) im.masters hr rfl
    have source : masterSource (engineStart s) r = s.outSlot r.cmdSlot := by
      rw [start.masterSource, masterSource, he]
      rfl
    obtain ⟨velocity, position⟩ := masterNext_follows he hx hs hq near
    rw [master, source] at passed
    rw [passed] at m v
    exact ⟨t, step, v.trans velocity, m.trans position, done.mem.trans same.mem, done.outImg.trans same.outImg,
      (congrArg Pair.own1 (done.pair.trans (pair_mastersPass ⟨[], []⟩ (engineStart s) im.masters rfl))).trans own1⟩
  · obtain ⟨t, step, done⟩ := enginePass_noAxes ⟨[i], []⟩ ht hc him ha
    obtain ⟨m, v, q⟩ := done.master i
    obtain ⟨⟨m', v', q'⟩, flags⟩ := master_mastersPass_disagreed ⟨[i], []⟩ (engineStart s) im.masters hr (by simp)
    rw [master] at m' v' q'
    exact ⟨t, step, m.trans m', v.trans v', q.trans q', (done.flag _).trans (flags _ (.head _)),
      (done.flag _).trans (flags _ (.tail _ (.head _)))⟩

/-- A pass with one axis: the state after the masters, how far each master has moved, and the end of the pass. -/
theorem enginePass_axis (f : LaneFaults) {a : AxisRec} (hx : im.axes = [a]) : ∃ (u : State) (dms : List Int) (t : State),
    exec (.enginePass f) s = .next t ∧ EngineEnd 0 (axisPass f dms u (0, a)) t ∧ EngineSame s u ∧
    u.reg A.SHAFT_AXIS_MARK = s.reg A.SHAFT_AXIS_MARK ∧
    (a.master < im.masters.length → dms.getD a.master 0 = ((u.master a.master).m - (s.master a.master).m).toInt) := by
  obtain ⟨t, step, done⟩ := enginePass_oneAxis f ht hc him hx
  refine ⟨_, _, t, step, done, (same_engineStart s).1.trans (same_mastersPass _ _ _), ?_, fun h => masterMoves_getD _ _ h⟩
  exact (reg_mastersPass _ _ _ (by decide) (by decide)).trans (reg_engineStart s (by decide))

variable {a : AxisRec} {o : Nat} (hx : im.axes = [a]) (hff : a.ffEn = false) (ho : handleSlot s a.spHandle true = some o)
include hx hff ho

/-- A disengaged axis follows its actual position (R109). -/
theorem enginePass_rests (hm : (s.axis 0).mode = .disengaged) (hq : (s.outSlot a.cmdBase).val = 0) :
    ∃ t, exec (.enginePass ⟨[], []⟩) s = .next t ∧ (t.axis 0).s = (handleIn s a.actHandle).val ∧
      (t.axis 0).ff = 0 ∧ (t.outSlot o).val = (handleIn s a.actHandle).val ∧ t.mem = s.mem := by
  obtain ⟨u, dms, t, step, done, same, -⟩ := enginePass_axis ht hc him ⟨[], []⟩ hx
  have rests : ¬(passMode u 0 a = .geared ∨ passMode u 0 a = .cammed) := by
    unfold passMode
    rw [same.axis, same.outSlot, hm, hq]
    split <;> simp [nextMode]
  obtain ⟨-, setpoint, ff, slot, -, mem⟩ := axisPass_rests (f := ⟨[], []⟩) (dms := dms) rfl hff
    ((same.handleSlot _ _).trans ho) rests
  rw [same.handleIn] at setpoint slot
  refine ⟨t, step, ?_, ?_, ?_, done.mem.trans (mem.trans same.mem)⟩
  · rw [done.axis, setpoint]
  · rw [done.axis, ff]
  · rw [done.outSlot, slot]

/-- An axis whose lanes disagree (R104). -/
theorem enginePass_holdsLast : ∃ t, exec (.enginePass ⟨[], [0]⟩) s = .next t ∧
    (t.axis 0).s = (s.axis 0).s + (s.axis 0).ff ∧ (t.outSlot o).val = (s.axis 0).s + (s.axis 0).ff ∧
    (t.axis 0).g = (s.axis 0).g ∧ (t.axis 0).r = (s.axis 0).r ∧ (t.axis 0).trim = (s.axis 0).trim ∧
    (t.axis 0).markTrim = (s.axis 0).markTrim ∧ (t.axis 0).mode = (s.axis 0).mode ∧
    t.flag F.SHAFT_EVENT.LANE_MISMATCH = true ∧ t.flag F.CHK_STATUS.UNCLEAN = true := by
  obtain ⟨u, dms, t, step, done, same, -⟩ := enginePass_axis ht hc him ⟨[], [0]⟩ hx
  have kept := axisPass_holdsLast (f := ⟨[], [0]⟩) (dms := dms) (i := 0) rfl hff ((same.handleSlot _ _).trans ho)
  dsimp only at kept
  rw [same.axis, ← done.axis, ← done.outSlot, ← done.flag, ← done.flag] at kept
  exact ⟨t, step, kept⟩

/-- A following error above its limit for long enough (R120). -/
theorem enginePass_faults {e : Int} (he : followError s (s.axis 0) (handleIn s a.actHandle) = some e)
    (hl : a.ferrLimit < e.natAbs) (hm : (s.axis 0).mode = .geared ∨ (s.axis 0).mode = .cammed)
    (hn : a.ferrTicks ≤ min 255 ((s.axis 0).ferrCnt + 1)) : ∃ t, exec (.enginePass ⟨[], []⟩) s = .next t ∧
    (t.axis 0).mode = .fault ∧ (t.axis 0).s = (handleIn s a.actHandle).val ∧ (t.axis 0).ff = 0 ∧
    t.outSlot o = ⟨(handleIn s a.actHandle).val, .substitute⟩ ∧ t.flag F.SHAFT_EVENT.AXIS_FAULT = true ∧
    ∃ ev ∈ t.recorder.raised, ev.cls = 17 ∧ ev.code = 1 ∧ ev.source = 0 := by
  obtain ⟨u, dms, t, step, done, same, -⟩ := enginePass_axis ht hc him ⟨[], []⟩ hx
  have follows : followAt u 0 a = some e := by rw [followAt, same.axis, same.handleIn, same.followError, he]
  have running : (u.axis 0).mode ≠ .fault := by
    rw [same.axis]
    rcases hm with hm | hm <;> rw [hm] <;> exact nofun
  obtain ⟨far, mode⟩ := passMode_fault follows hl running (by rw [same.axis]; exact hn)
  have ho' := (same.handleSlot a.spHandle true).trans ho
  obtain ⟨mode', setpoint, ff, slot, quality, -⟩ := axisPass_rests (f := ⟨[], []⟩) (dms := dms) (i := 0) rfl hff ho'
    (by rw [mode]; simp)
  obtain ⟨flag, ev, hev, shown⟩ := axisPass_faults (f := ⟨[], []⟩) (dms := dms) (i := 0) rfl hff ho' far
  rw [same.handleIn] at setpoint slot
  refine ⟨t, step, ?_, ?_, ?_, ?_, ?_, ev, done.raised ev hev, shown⟩
  · rw [done.axis, mode', mode]
  · rw [done.axis, setpoint]
  · rw [done.axis, ff]
  · rw [done.outSlot, ← slot, ← quality mode]
  · rw [done.flag, flag]

section Within

variable (hs : (s.axis 0).groupStop = false) (hn : 0 < a.ferrTicks)
  (hl : ∀ e, followError s (s.axis 0) (handleIn s a.actHandle) = some e → e.natAbs ≤ a.ferrLimit)
include hs hn hl

/-- A change to GEARED or CAMMED (R109). -/
theorem enginePass_rebases (hk : a.markEn = false) (hm : (s.axis 0).mode = .disengaged)
    (hq : (s.outSlot a.cmdBase).val = 1 ∨ (s.outSlot a.cmdBase).val = 2) :
    ∃ t, exec (.enginePass ⟨[], []⟩) s = .next t ∧
      (t.axis 0).mode = (if (s.outSlot a.cmdBase).val = 1 then .geared else .cammed) ∧ (t.axis 0).s = (s.axis 0).s ∧
      (t.axis 0).ff = 0 ∧ (t.axis 0).g = 0 ∧ (t.axis 0).r = 0 ∧ (t.axis 0).trim = 0 ∧ (t.axis 0).markTrim = 0 ∧
      (t.outSlot o).val = (s.axis 0).s := by
  obtain ⟨u, dms, t, step, done, same, -⟩ := enginePass_axis ht hc him ⟨[], []⟩ hx
  have mode : passMode u 0 a = if (s.outSlot a.cmdBase).val = 1 then .geared else .cammed := by
    rw [passMode_of_same same hs hn hl, hm]
    rcases hq with hq | hq <;> rw [hq] <;> rfl
  have rebased := axisPass_rebases (s := u) (i := 0) (a := a) (f := ⟨[], []⟩) (dms := dms) rfl hff
    ((same.handleSlot _ _).trans ho) hk (by rw [mode]; split <;> simp) (by rw [mode, same.axis, hm]; split <;> exact nofun)
  dsimp only at rebased
  rw [mode, same.axis, ← done.axis, ← done.outSlot] at rebased
  exact ⟨t, step, rebased⟩

/-- An engaged axis that keeps its mode (R110, R113, R115, R118). -/
theorem enginePass_turns (hb : a.master < im.masters.length) (hm : (s.axis 0).mode = .geared ∨ (s.axis 0).mode = .cammed)
    (hq : nextMode (s.axis 0).mode (s.outSlot a.cmdBase).val = (s.axis 0).mode) {n : Int} {d : Nat}
    (hg : gearOf s a = (n, d)) (hd : 0 < d) : ∃ t, exec (.enginePass ⟨[], []⟩) s = .next t ∧
    let z := t.axis 0
    let x := s.axis 0
    Turned s a n d ((t.master a.master).m - (s.master a.master).m).toInt x z ∧
    t.outSlot o = ⟨z.s, (t.master a.master).q.max (commandQuality s a)⟩ ∧ t.mem = s.mem ∧
    (newMark s a x = true → MarksShown s t (markFound s a x)) := by
  obtain ⟨u, dms, t, step, done, same, mark, moves⟩ := enginePass_axis ht hc him ⟨[], []⟩ hx
  have turned := axisPass_turns (s := u) (a := a) (f := ⟨[], []⟩) (dms := dms) rfl hff ((same.handleSlot _ _).trans ho)
    (by rw [same.axis]; exact hm) (by rw [passMode_of_same same hs hn hl, hq, same.axis])
    ((same.gearOf a).trans hg) hd
  obtain ⟨found, new⟩ := markFound_congr (a := a) same (x := s.axis 0) rfl rfl rfl rfl
  dsimp only at turned
  rw [moves hb, same.axis, found, new, same.commandQuality] at turned
  obtain ⟨axis, slot, mem, masters, marks⟩ := turned
  obtain ⟨m, -, q⟩ := done.master a.master
  have master : (axisPass ⟨[], []⟩ dms u (0, a)).master a.master = u.master a.master := by
    rw [State.master, masters, State.master]
  rw [master] at m q
  rw [← m, ← done.axis] at axis
  refine ⟨t, step, axis.of_same same, ?_, done.mem.trans (mem.trans same.mem), fun isNew => ?_⟩
  · rw [done.outSlot, slot, q, done.axis]
  · exact (marks isNew).congr mark (done.reg _) (done.reg _)

end Within

end Pass

/-- Settles O37: master by master, then the one axis case by case from its mode, then point by point through a cam table. -/
theorem enginePassMovesShafts : Obligations.EnginePassMovesShafts := by
  unfold Obligations.EnginePassMovesShafts
  refine ⟨⟨fun s im i ht hc him => ⟨fun r hr ha => enginePass_masters ht hc him hr ha,
    fun a o hx hff ho hm hq => enginePass_rests ht hc him hx hff ho hm hq⟩, fun s im a o ht hc him hx hb hff ho => ?_⟩,
    fun t i u _ hl hi hu => ?_⟩
  · intro x act cmd run
    refine ⟨enginePass_holdsLast ht hc him hx hff ho,
      fun e he hl hm hn => enginePass_faults ht hc him hx hff ho he hl hm hn,
      fun hs hn hl => ⟨fun hk hm hq => enginePass_rebases ht hc him hx hff ho hs hn hl hk hm hq, ?_⟩⟩
    intro n d e hg hd cnt isNew found lost r0 p far trim markTrim marks moved
    have new : newMark s a x = true ↔ isNew := by simp [newMark, isNew, cnt]
    have error : markFound s a x = e := by
      unfold markFound
      split
      · next h => exact found (new.mp h)
      · next h => exact (lost fun hn => h (new.mpr hn)).symm
    have toward : moveToward x.trim (cmd 1).val a.trimRate = trim := moveToward_eq _ _ _
    have corrected : nextMarkTrim a e x = markTrim := by cases e <;> rfl
    let k (t : State) : Int := (x.g.toInt + p t / (d : Int)) / 2 ^ 32 - x.g.toInt / 2 ^ 32
    have turns (hm : x.mode = .geared ∨ x.mode = .cammed) (hq : nextMode x.mode (cmd 0).val = x.mode) : ∃ t, run t ∧
        moved t ∧ (t.axis 0).s = x.offset + contribution s (t.axis 0) + trim + markTrim ∧
        (t.axis 0).base = (if x.mode = .cammed ∧ k t ≠ 0 then
          x.base + BitVec.ofInt 64 (crossed s x.cam (cmd 4).val.toNat (k t)) else x.base) ∧
        (t.axis 0).cam = if x.mode = .cammed ∧ k t ≠ 0 then (cmd 4).val.toNat else x.cam := by
      obtain ⟨t, step, turned, slot, mem, shown⟩ := enginePass_turns ht hc him hx hff ho hs hn hl hb hm hq hg hd
      have corrects := turned.markTrim
      rw [error] at corrects shown
      have trims := turned.trim.trans toward
      have marked := corrects.trans corrected
      have setpoint := turned.setpoint
      rw [trims, marked] at setpoint
      exact ⟨t, step, ⟨turned.mode, trims, marked, turned.g, turned.r, turned.ff, slot,
        ⟨fun hn he => (shown (new.mpr hn)).1 he, fun hn he => (shown (new.mpr hn)).2 he⟩, mem⟩, setpoint, turned.base,
        turned.cam⟩
    refine ⟨fun hm hq => ?_, fun hm hq => ?_⟩
    · obtain ⟨t, step, moves, setpoint, -⟩ := turns (.inl hm) (by rw [hm, hq]; rfl)
      have geared : contribution s (t.axis 0) = (t.axis 0).g := if_neg (by rw [moves.1, hm]; exact nofun)
      exact ⟨t, step, moves, geared ▸ setpoint⟩
    · obtain ⟨t, step, moves, setpoint, base, cam⟩ := turns (.inr hm) (by rw [hm, hq]; rfl)
      have cammed : contribution s (t.axis 0) =
          (t.axis 0).base + camValue s (t.axis 0).cam ((t.axis 0).g.toNat % 2 ^ 32) := if_pos (moves.1.trans hm)
      refine ⟨t, step, moves, cammed ▸ setpoint, fun hk => ?_, fun hk => cam.trans (if_pos ⟨hm, hk⟩), fun hk => ?_,
        fun hk => ?_⟩
      · exact ⟨base.trans (if_neg fun h => h.2 hk), cam.trans (if_neg fun h => h.2 hk)⟩
      · have moved : k t ≠ 0 := by rw [show k t = 1 from hk]; decide
        rw [base, if_pos ⟨hm, moved⟩, show k t = 1 from hk, (base_crossed s _ _ _).1]
      · have moved : k t ≠ 0 := by rw [show k t = -1 from hk]; decide
        rw [base, if_pos ⟨hm, moved⟩, show k t = -1 from hk, (base_crossed s _ _ _).2]
  · intro w y next
    obtain ⟨first, second⟩ := camPoint_position t hl hi
    have own : (camPoint t i).1 = y := first
    have slope : next - y = (camPoint t (i + 1)).1 - (camPoint t i).1 := by rw [own, second]
    refine ⟨(camTabValue_point t).trans first, fun h => ?_, fun h h0 h1 => ?_⟩
    · rw [slope, ← own]
      exact camTabValue_linear t hu h
    · have line := camTabValue_cubic t hu h (h0.trans slope) (h1.trans slope)
      rw [slope, ← own]
      exact line

end Sys2Proof.Machine
end

section
/-! SUPPORT. The Aidon instructions on registers alone (R57): the outcome of one, said once, and what the arithmetic helpers
write. -/

namespace Sys2Proof.Machine

open Sys2Proof

/-- An instruction of one word on registers alone that does not touch PC leaves its registers, with PC at the next
instruction, and the charge. -/
theorem exec_regInstr {s : State} {j cost : Nat} {up : Upset} {k : TaskRec} {i : Instr} {f : TaskRegs → TaskRegs}
    {r : TaskRegs} (hu : up.odd = []) (hx : exec i s = .next (regInstr j up i cost f s)) (hl : (codeOf i).length = 1)
    (hf : ∀ r p, f { r with pc := p } = { f r with pc := p }) (hr : f (aidonRegs s k) = r) (h : CoreRuns s j k i) :
    exec i s = .next (aidonNext s j k up 1 cost r) := by
  rw [hx, regInstr_next h hl hu hf, hr]

/-- An integer result is the exact one, wrapped, with OV where it is no signed 64-bit number. -/
theorem intResult_eq {r : TaskRegs} {v : Int} {w : DWord} {q : Quality} (h : BitVec.ofInt 64 v = w) :
    intResult r v q = intWord r w v q := by
  have ov : (decide (v < -(2 ^ 63)) || decide (2 ^ 63 ≤ v)) = !fits64 v := by
    unfold fits64
    rw [Bool.eq_iff_iff]
    simp only [Bool.or_eq_true, Bool.not_eq_true', Bool.and_eq_false_iff, decide_eq_true_eq, decide_eq_false_iff_not]
    omega
  unfold intResult intWord
  rw [h, Bool.or_assoc, ov]

/-- The low 64 bits of a sum. -/
theorem ofInt_sum (a b : DWord) : BitVec.ofInt 64 (a.toInt + b.toInt) = a + b := by
  rw [BitVec.ofInt_add, BitVec.ofInt_toInt, BitVec.ofInt_toInt]

/-- The low 64 bits of a negation. -/
theorem ofInt_negation (a : DWord) : BitVec.ofInt 64 (-a.toInt) = -a := by
  rw [BitVec.ofInt_neg, BitVec.ofInt_toInt]

/-- The low 64 bits of a difference. -/
theorem ofInt_difference (a b : DWord) : BitVec.ofInt 64 (a.toInt - b.toInt) = a - b := by
  rw [Int.sub_eq_add_neg, BitVec.ofInt_add, ofInt_negation, BitVec.ofInt_toInt, BitVec.sub_eq_add_neg]

/-- The low 64 bits of a product. -/
theorem ofInt_product (a b : DWord) : BitVec.ofInt 64 (a.toInt * b.toInt) = a * b := by
  rw [BitVec.ofInt_mul, BitVec.ofInt_toInt, BitVec.ofInt_toInt]

/-- The low 64 bits of a sum with an immediate. -/
theorem ofInt_immediate (a : DWord) (imm : BitVec 24) :
    BitVec.ofInt 64 (a.toInt + imm.toInt) = a + imm.signExtend 64 := by
  rw [BitVec.ofInt_add, BitVec.ofInt_toInt]
  rfl

/-- What a 64-bit word reads as is a signed 64-bit number. -/
theorem fits64_toInt (w : DWord) : fits64 w.toInt = true := by
  have lo := w.le_toInt
  have hi := w.toInt_lt
  unfold fits64
  rw [Bool.and_eq_true, decide_eq_true_eq, decide_eq_true_eq]
  exact ⟨lo, hi⟩

/-- The quotient truncated toward zero leaves the signed range only for −2^63 by −1. -/
theorem not_fits64_tdiv (b a : DWord) :
    (!fits64 (b.toInt.tdiv a.toInt)) = (decide (b.toInt = -(2 ^ 63)) && decide (a.toInt = -1)) := by
  by_cases h : b.toInt = -(2 ^ 63) ∧ a.toInt = -1
  · rw [h.1, h.2]
    rfl
  · have apart : b ≠ BitVec.intMin 64 ∨ a ≠ -1#64 := by
      rw [← not_and_or]
      rintro ⟨rfl, rfl⟩
      exact h ⟨rfl, rfl⟩
    rw [← BitVec.toInt_sdiv_of_ne_or_ne b a apart, fits64_toInt, ← Bool.decide_and, decide_eq_false h]
    rfl

/-- What DIV and MOD compute does not touch PC. -/
theorem divOp_pc (f : Int → Int → Int) (r : TaskRegs) (p : BitVec 19) :
    divOp f { r with pc := p } = { divOp f r with pc := p } := by
  unfold divOp
  split <;> rfl

/-- DIV (R60). -/
theorem divOp_tdiv (r : TaskRegs) : divOp (fun b a => b.tdiv a) r =
    if r.wa = 0 then { r with wa := 0, qa := .bad, flags := { r.flags with dz := true } } else
    { r with wa := r.wb.sdiv r.wa, qa := r.qb.max r.qa,
             flags := { r.flags with
               ov := r.flags.ov || (decide (r.wb.toInt = -(2 ^ 63)) && decide (r.wa.toInt = -1)) } } := by
  unfold divOp
  split
  · rfl
  · have w : BitVec.ofInt 64 (r.wb.toInt.tdiv r.wa.toInt) = r.wb.sdiv r.wa := by
      apply BitVec.eq_of_toInt_eq
      rw [BitVec.toInt_ofInt, BitVec.toInt_sdiv]
    rw [exactOp, intResult_eq w, intWord, not_fits64_tdiv]

/-- MOD (R60). -/
theorem divOp_tmod (r : TaskRegs) : divOp (fun b a => b.tmod a) r =
    if r.wa = 0 then { r with wa := 0, qa := .bad, flags := { r.flags with dz := true } } else
    { r with wa := r.wb.srem r.wa, qa := r.qb.max r.qa } := by
  unfold divOp
  split
  · rfl
  · have w : BitVec.ofInt 64 (r.wb.toInt.tmod r.wa.toInt) = r.wb.srem r.wa := by
      rw [← BitVec.toInt_srem, BitVec.ofInt_toInt]
    rw [exactOp, intResult_eq w, intWord, ← BitVec.toInt_srem, fits64_toInt, Bool.not_true, Bool.or_false]

/-- A value that is read back gives the integer result's word. -/
theorem ofInt_abs (w : DWord) : BitVec.ofInt 64 (w.toInt.natAbs : Int) = if w.toInt < 0 then -w else w := by
  split
  · rw [Int.ofNat_natAbs_of_nonpos (by omega), BitVec.ofInt_neg, BitVec.ofInt_toInt]
  · rw [Int.natAbs_of_nonneg (by omega), BitVec.ofInt_toInt]

end Sys2Proof.Machine
end

section
/-! Integer arithmetic: the statement of O1. -/

namespace Sys2Proof.Machine

open Sys2Proof

/-- Settles O1: each is a `regInstr` whose registers are the exact result, wrapped. -/
theorem integerResults : Obligations.IntegerResults := by
  unfold Obligations.IntegerResults
  refine ⟨fun s j k up hu => ⟨?add, ?sub, ?mul, ?neg, ?abs, fun imm => ?addk⟩,
    fun s j k up hu => ⟨?div, ?mod⟩⟩
  case add => exact exec_regInstr hu rfl rfl (fun _ _ => rfl) (intResult_eq (ofInt_sum _ _))
  case sub => exact exec_regInstr hu rfl rfl (fun _ _ => rfl) (intResult_eq (ofInt_difference _ _))
  case mul => exact exec_regInstr hu rfl rfl (fun _ _ => rfl) (intResult_eq (ofInt_product _ _))
  case neg => exact exec_regInstr hu rfl rfl (fun _ _ => rfl) (intResult_eq (ofInt_negation _))
  case abs => exact exec_regInstr hu rfl rfl (fun _ _ => rfl) (intResult_eq (ofInt_abs _))
  case addk => exact exec_regInstr hu rfl rfl (fun _ _ => rfl) (intResult_eq (ofInt_immediate _ _))
  case div => exact exec_regInstr hu rfl rfl (divOp_pc _) (divOp_tdiv _)
  case mod => exact exec_regInstr hu rfl rfl (divOp_pc _) (divOp_tmod _)

end Sys2Proof.Machine
end

section
/-! SUPPORT. The order of binary64 words (R60, R359): a word is its sign over its exponent and fraction, and the magnitude of
its value rises with them. -/

namespace Sys2Proof.Machine

open Sys2Proof

/-- A word is its sign, its exponent and its fraction. -/
theorem toNat_eq_fields (a : DWord) :
    a.toNat = (if fSign a then 2 ^ 63 else 0) + fExp a * 2 ^ 52 + fFrac a ∧ fExp a < 2048 ∧ fFrac a < 2 ^ 52 := by
  have lt := a.isLt
  unfold fSign fExp fFrac
  rw [BitVec.msb_eq_decide, Nat.shiftRight_eq_div_pow]
  simp only [decide_eq_true_eq]
  split <;> omega

/-- The magnitude of a word that is no NaN, in the unit of the least subnormal; of an infinity a number above all others. -/
def fMag (a : DWord) : Nat := if fIsInf a then 2 ^ 2200 else fMant a * 2 ^ fPow a

/-- The order key is the magnitude with the word's sign. -/
theorem fKey_eq (a : DWord) : fKey a = if fSign a then -(fMag a : Int) else fMag a := by
  have top : ((2 ^ 2200 : Nat) : Int) = 2 ^ 2200 := Nat.cast_pow 2 2200
  have finite : ((fMant a * 2 ^ fPow a : Nat) : Int) = fMant a * 2 ^ fPow a := by push_cast; rfl
  unfold fKey fMag fInt
  split
  · rw [top]
  · rw [finite]

/-- The magnitude of a finite number lies below the powers of two that its exponent names. -/
theorem fMag_lt {a : DWord} (h : fExp a < 2047) : fMag a < 2 ^ (52 + fExp a) := by
  obtain ⟨-, -, lt⟩ := toNat_eq_fields a
  have finite : fIsInf a = false := by
    unfold fIsInf
    rw [beq_false_of_ne (by omega), Bool.false_and]
  unfold fMag fMant fPow
  rw [finite]
  by_cases e : fExp a = 0
  · simpa [e] using lt
  · obtain ⟨n, hn⟩ : ∃ n, fExp a = n + 1 := ⟨fExp a - 1, by omega⟩
    rw [if_neg nofun, if_neg e, if_neg e, hn, Nat.add_sub_cancel, show 52 + (n + 1) = 53 + n by omega, Nat.pow_add]
    exact Nat.mul_lt_mul_of_pos_right (by omega) (Nat.two_pow_pos n)

/-- A normal number, or an infinity, reaches the power of two that its exponent names. -/
theorem le_fMag {a : DWord} (h : 0 < fExp a) : 2 ^ (51 + fExp a) ≤ fMag a := by
  obtain ⟨-, lt, -⟩ := toNat_eq_fields a
  unfold fMag fMant fPow
  split
  · have top : 51 + fExp a ≤ 2200 := by omega
    gcongr
    decide
  · obtain ⟨n, hn⟩ : ∃ n, fExp a = n + 1 := ⟨fExp a - 1, by omega⟩
    rw [if_neg (by omega), if_neg (by omega), hn, Nat.add_sub_cancel, show 51 + (n + 1) = 52 + n by omega, Nat.pow_add]
    exact Nat.mul_le_mul_right _ (by omega)

/-- A word that is no NaN and has the highest exponent is an infinity. -/
theorem fIsInf_of_fExp {a : DWord} (h : fIsNaN a = false) (e : fExp a = 2047) : fIsInf a = true ∧ fFrac a = 0 := by
  unfold fIsNaN at h
  unfold fIsInf
  rw [e] at h ⊢
  simpa using h

/-- Up to a word that is no NaN the magnitude rises strictly with exponent and fraction. -/
theorem fMag_strict {a b : DWord} (hb : fIsNaN b = false)
    (h : fExp a * 2 ^ 52 + fFrac a < fExp b * 2 ^ 52 + fFrac b) : fMag a < fMag b := by
  obtain ⟨-, la, fa⟩ := toNat_eq_fields a
  obtain ⟨-, lb, fb⟩ := toNat_eq_fields b
  rcases Nat.lt_or_ge (fExp a) (fExp b) with lt | ge
  · calc fMag a < 2 ^ (52 + fExp a) := fMag_lt (by omega)
      _ ≤ 2 ^ (51 + fExp b) := Nat.pow_le_pow_right (by decide) (by omega)
      _ ≤ fMag b := le_fMag (by omega)
  · have same : fExp a = fExp b := by omega
    have frac : fFrac a < fFrac b := by omega
    have finite : fExp b ≠ 2047 := fun e => by
      have := (fIsInf_of_fExp hb e).2
      omega
    unfold fMag fIsInf fMant fPow
    rw [same, beq_false_of_ne finite, Bool.false_and, Bool.false_and, if_neg Bool.false_ne_true,
      if_neg Bool.false_ne_true]
    exact Nat.mul_lt_mul_of_pos_right (by split <;> omega) (Nat.two_pow_pos _)

/-- Of words that are no NaN the magnitudes are ordered as exponent and fraction. -/
theorem fMag_lt_iff {a b : DWord} (ha : fIsNaN a = false) (hb : fIsNaN b = false) :
    fMag a < fMag b ↔ fExp a * 2 ^ 52 + fFrac a < fExp b * 2 ^ 52 + fFrac b := by
  refine ⟨fun h => ?_, fMag_strict hb⟩
  obtain ⟨-, -, fa⟩ := toNat_eq_fields a
  obtain ⟨-, -, fb⟩ := toNat_eq_fields b
  rcases Nat.lt_trichotomy (fExp a * 2 ^ 52 + fFrac a) (fExp b * 2 ^ 52 + fFrac b) with lt | eq | gt
  · exact lt
  · have e : fExp a = fExp b := by omega
    have f : fFrac a = fFrac b := by omega
    unfold fMag fIsInf fMant fPow at h
    rw [e, f] at h
    exact absurd h (Nat.lt_irrefl _)
  · exact absurd (fMag_strict ha gt) (Nat.lt_asymm h)

/-- The magnitude is 0 for a zero alone. -/
theorem fMag_eq_zero (a : DWord) : fMag a = 0 ↔ fIsZero a = true := by
  unfold fIsZero
  rw [Bool.and_eq_true, beq_iff_eq, beq_iff_eq]
  by_cases e : fExp a = 0
  · unfold fMag fIsInf fMant fPow
    simp [e]
  · have pos : 2 ^ (51 + fExp a) ≤ fMag a := le_fMag (by omega)
    have two : 0 < 2 ^ (51 + fExp a) := Nat.two_pow_pos _
    exact ⟨fun h => by omega, fun h => absurd h.1 e⟩

/-- Words of one sign are ordered as numbers, negative ones the other way (IEEE 754). -/
theorem fKey_lt_iff {a b : DWord} (ha : fIsNaN a = false) (hb : fIsNaN b = false) (h : fSign a = fSign b) :
    fKey a < fKey b ↔ if fSign a then b.toNat < a.toNat else a.toNat < b.toNat := by
  obtain ⟨na, -, -⟩ := toNat_eq_fields a
  obtain ⟨nb, -, -⟩ := toNat_eq_fields b
  have less := fMag_lt_iff ha hb
  have more := fMag_lt_iff hb ha
  rw [fKey_eq, fKey_eq, na, nb, ← h]
  split <;> omega

/-- A negative word lies before a positive one, and the two zeros are equal (IEEE 754). -/
theorem fKey_signs {a b : DWord} (ha : fSign a = true) (hb : fSign b = false) :
    fKey a ≤ fKey b ∧ (fKey a = fKey b ↔ fIsZero a = true ∧ fIsZero b = true) := by
  rw [fKey_eq, fKey_eq, ha, hb, ← fMag_eq_zero, ← fMag_eq_zero, if_pos rfl, if_neg nofun]
  omega

/-- A floating compare (R60). -/
theorem fcmpResult_eq (r : TaskRegs) (b : Bool) :
    fcmpResult r (!fIsNaN r.wb && !fIsNaN r.wa && b) = { r with
      ba := !(fIsNaN r.wb || fIsNaN r.wa) && b, bq := r.qb.max r.qa,
      flags := { r.flags with fi := r.flags.fi || (fIsNaN r.wb || fIsNaN r.wa) } } := by
  unfold fcmpResult cmpResult
  rw [Bool.not_or, Bool.or_assoc, Bool.or_comm (fIsNaN r.wa)]

end Sys2Proof.Machine
end

section
/-! Compares, bitwise operations and shifts: the statement of O2. -/

namespace Sys2Proof.Machine

open Sys2Proof

/-- SHL multiplies by a power of two. -/
theorem shiftLeft_eq_mul (w : DWord) (n : Nat) : w <<< n = BitVec.ofNat 64 (w.toNat * 2 ^ n) := by
  apply BitVec.eq_of_toNat_eq
  rw [BitVec.toNat_shiftLeft, Nat.shiftLeft_eq, BitVec.toNat_ofNat]

/-- SHR divides by a power of two. -/
theorem ushiftRight_eq_div (w : DWord) (n : Nat) : w >>> n = BitVec.ofNat 64 (w.toNat / 2 ^ n) := by
  apply BitVec.eq_of_toNat_eq
  rw [BitVec.toNat_ushiftRight, Nat.shiftRight_eq_div_pow, BitVec.toNat_ofNat,
    Nat.mod_eq_of_lt (Nat.lt_of_le_of_lt (Nat.div_le_self _ _) w.isLt)]

/-- SAR divides by a power of two, downward. -/
theorem sshiftRight_eq_div (w : DWord) (n : Nat) : w.sshiftRight n = BitVec.ofInt 64 (w.toInt / 2 ^ n) := by
  unfold BitVec.sshiftRight
  rw [Int.shiftRight_eq_div_pow]
  rfl

/-- Settles O2: the order of binary64 words is that of their fields, and each instruction is a `regInstr`. -/
theorem compareAndBitwiseResults : Obligations.CompareAndBitwiseResults := by
  unfold Obligations.CompareAndBitwiseResults
  refine ⟨⟨fun a b ha hb => ⟨fun h h' => ?_, fun h h' => ?_, fKey_signs⟩, fun s j k up hu => ?_⟩,
    fun s j k up hu => ⟨?_, ?_, ?_, ?_, fun n _ => ⟨?_, ?_, ?_⟩⟩⟩
  · simpa [h] using fKey_lt_iff ha hb (h.trans h'.symm)
  · simpa [h] using fKey_lt_iff ha hb (h.trans h'.symm)
  · intro r c nan f
    refine ⟨?_, ?_, ?_, ?_, ?_, ?_, ?_, ?_, ?feq, ?flt, ?fle⟩
    case feq => exact exec_regInstr hu rfl rfl (fun _ _ => rfl) (fcmpResult_eq r _)
    case flt => exact exec_regInstr hu rfl rfl (fun _ _ => rfl) (fcmpResult_eq r _)
    case fle => exact exec_regInstr hu rfl rfl (fun _ _ => rfl) (fcmpResult_eq r _)
    all_goals exact exec_regInstr hu rfl rfl (fun _ _ => rfl) rfl
  · exact exec_regInstr hu rfl rfl (fun _ _ => rfl) rfl
  · exact exec_regInstr hu rfl rfl (fun _ _ => rfl) rfl
  · exact exec_regInstr hu rfl rfl (fun _ _ => rfl) rfl
  · exact exec_regInstr hu rfl rfl (fun _ _ => rfl) rfl
  · refine exec_regInstr hu rfl rfl (fun _ _ => rfl) ?_
    rw [shiftLeft_eq_mul]
  · refine exec_regInstr hu rfl rfl (fun _ _ => rfl) ?_
    rw [ushiftRight_eq_div]
  · refine exec_regInstr hu rfl rfl (fun _ _ => rfl) ?_
    rw [sshiftRight_eq_div]

end Sys2Proof.Machine
end

section
/-! SUPPORT. Floating operations on special operands (R60, R359): NaN, infinities, zeros, and values out of range. -/

namespace Sys2Proof.Machine

open Sys2Proof

/-! ## Operands that are NaN -/

/-- A NaN operand gives the default NaN and no flag; an invalid operation gives the default NaN. -/
def NaNRules (a b : DWord) (x : FResult) : Prop :=
  (fIsNaN a || fIsNaN b → x = ⟨defaultNaN, false, false, false⟩) ∧ (x.invalid = true → x.val = defaultNaN)

theorem fAdd_nan (a b : DWord) : NaNRules a b (fAdd a b) := by
  unfold fAdd
  split
  · exact ⟨fun _ => rfl, fun _ => rfl⟩
  · next h =>
    refine ⟨fun n => absurd n h, ?_⟩
    dsimp only
    repeat' split
    · exact fun _ => rfl
    all_goals exact nofun

theorem fMul_nan (a b : DWord) : NaNRules a b (fMul a b) := by
  unfold fMul
  dsimp only
  split
  · exact ⟨fun _ => rfl, fun _ => rfl⟩
  · next h =>
    refine ⟨fun n => absurd n h, ?_⟩
    repeat' split
    · exact fun _ => rfl
    all_goals exact nofun

theorem fDiv_nan (a b : DWord) : NaNRules a b (fDiv a b) := by
  unfold fDiv
  dsimp only
  split
  · exact ⟨fun _ => rfl, fun _ => rfl⟩
  · next h =>
    refine ⟨fun n => absurd n h, ?_⟩
    repeat' split
    case isTrue.isTrue | isFalse.isFalse.isTrue.isTrue => exact fun _ => rfl
    all_goals exact nofun

theorem fSub_nan (a b : DWord) : NaNRules a b (fSub a b) := by
  unfold fSub
  split
  · exact ⟨fun _ => rfl, fun _ => rfl⟩
  · next h =>
    obtain ⟨nan, invalid⟩ := fAdd_nan a (fNeg b)
    refine ⟨fun n => nan ?_, invalid⟩
    rw [Bool.or_eq_true] at n ⊢
    exact .inl (n.resolve_right h)

/-! ## The sign bit -/

/-- FNEG changes the sign bit alone. -/
theorem fNeg_eq (a : DWord) : fNeg a = BitVec.ofBool (!a.msb) ++ a.setWidth 63 := by
  unfold fNeg
  apply BitVec.eq_of_getLsbD_eq
  intro i hi
  rw [BitVec.getLsbD_xor, BitVec.getLsbD_append, show (0x8000000000000000 : DWord) = BitVec.twoPow 64 63 from rfl,
    BitVec.getLsbD_twoPow, BitVec.getLsbD_setWidth]
  rcases Nat.lt_or_ge i 63 with lt | ge
  · have : ¬ 63 = i := by omega
    simp [lt, this]
  · obtain rfl : i = 63 := by omega
    simp [BitVec.msb_eq_getLsbD_last]

/-- FABS clears the sign bit alone. -/
theorem fAbs_eq (a : DWord) : fAbs a = (a.setWidth 63).setWidth 64 := by
  unfold fAbs
  apply BitVec.eq_of_toNat_eq
  rw [BitVec.toNat_and, BitVec.toNat_setWidth, BitVec.toNat_setWidth]
  have := Nat.and_two_pow_sub_one_eq_mod a.toNat 63
  have h : (0x7FFFFFFFFFFFFFFF : DWord).toNat = 2 ^ 63 - 1 := rfl
  rw [h, this]
  omega

/-! ## Special operands -/

theorem fIsInf_not_nan {a : DWord} (h : fIsInf a = true) : fIsNaN a = false := by
  unfold fIsInf at h
  unfold fIsNaN
  simp_all

theorem fIsZero_fields {a : DWord} (h : fIsZero a = true) : fIsNaN a = false ∧ fIsInf a = false := by
  unfold fIsZero at h
  unfold fIsNaN fIsInf
  simp_all

/-- Infinities of opposite sign do not add (R60). -/
theorem fAdd_infinities {a b : DWord} (ha : fIsInf a = true) (hb : fIsInf b = true) (h : fSign a ≠ fSign b) :
    fAdd a b = ⟨defaultNaN, true, false, false⟩ := by
  unfold fAdd
  simp [fIsInf_not_nan ha, fIsInf_not_nan hb, ha, hb, h, fInvalid]

/-- A finite dividend that is not 0, over zero (R60). -/
theorem fDiv_zero {a b : DWord} (ha : fIsNaN a = false) (hi : fIsInf a = false) (hz : fIsZero a = false)
    (hb : fIsZero b = true) : fDiv a b = ⟨fInf (fSign a != fSign b), false, false, true⟩ := by
  obtain ⟨nan, inf⟩ := fIsZero_fields hb
  unfold fDiv
  simp [ha, hi, hz, hb, nan, inf]

/-- The root of a negative number (R60). -/
theorem fSqrt_negative {a : DWord} (hn : fIsNaN a = false) (hz : fIsZero a = false) (hs : fSign a = true) :
    fSqrt a = ⟨defaultNaN, true, false, false⟩ := by
  unfold fSqrt
  simp [hn, hz, hs, fInvalid]

/-- A multiple of a power of two, counted in a lower one. -/
theorem mul_two_pow_div (x n k : Nat) : x * 2 ^ (n + k) / 2 ^ k = x * 2 ^ n := by
  rw [Nat.pow_add, ← Nat.mul_assoc, Nat.mul_div_cancel _ (Nat.two_pow_pos _)]

/-- A value of at least 2^63 does not convert; it saturates (R60). -/
theorem fToInt_saturates {a : DWord} (hn : fIsNaN a = false) (he : 1086 ≤ fExp a) (hm : a ≠ 0xC3E0000000000000) :
    fToInt a = ⟨if fSign a then 0x8000000000000000 else 0x7FFFFFFFFFFFFFFF, false, true, false⟩ := by
  obtain ⟨fields, -, frac⟩ := toNat_eq_fields a
  have least : fSign a = true → 1086 < fExp a ∨ 0 < fFrac a := fun hs => by
    by_contra h
    rw [hs, if_pos rfl, show fExp a = 1086 by omega, show fFrac a = 0 by omega] at fields
    exact hm (BitVec.eq_of_toNat_eq fields)
  obtain ⟨n, hn'⟩ : ∃ n, fExp a = n + 1086 := ⟨fExp a - 1086, by omega⟩
  have value : fMant a * 2 ^ fPow a / 2 ^ 1074 = (fFrac a + 2 ^ 52) * 2 ^ (n + 11) := by
    unfold fMant fPow
    rw [if_neg (by omega), if_neg (by omega), hn', show n + 1086 - 1 = n + 11 + 1074 by omega, mul_two_pow_div]
  have pow : 1 ≤ 2 ^ n := Nat.one_le_two_pow
  have scaled : (fFrac a + 2 ^ 52) * 2 ^ (n + 11) = (fFrac a + 2 ^ 52) * 2 ^ n * 2 ^ 11 := by
    rw [Nat.pow_add, Nat.mul_assoc]
  have low : fFrac a + 2 ^ 52 ≤ (fFrac a + 2 ^ 52) * 2 ^ n := Nat.le_mul_of_pos_right _ pow
  unfold fToInt
  dsimp only
  rw [hn, if_neg Bool.false_ne_true, value]
  split
  · rfl
  · cases hs : fSign a
    · rw [if_neg Bool.false_ne_true, if_pos (by omega), if_neg Bool.false_ne_true]
    · have above : 2 ^ 63 < (fFrac a + 2 ^ 52) * 2 ^ (n + 11) := by
        rcases Nat.eq_zero_or_pos n with rfl | pos
        · rcases least hs with h | h <;> omega
        · have two : 2 ≤ 2 ^ n := Nat.le_self_pow (by omega) 2
          have twice : (fFrac a + 2 ^ 52) * 2 ≤ (fFrac a + 2 ^ 52) * 2 ^ n := Nat.mul_le_mul_left _ two
          omega
      rw [if_pos rfl, if_pos above, if_pos rfl]

/-! ## FMIN and FMAX -/

/-- Of two zeros FMIN gives the negative one (R359). -/
theorem fMinMax_zeros {a b : DWord} (ha : fIsZero a = true) (hb : fIsZero b = true) :
    fMin a b = (if fSign a then a else b) ∧ fMax a b = (if fSign a then b else a) := by
  have key : fKey a = fKey b := by
    rw [fKey_eq, fKey_eq, (fMag_eq_zero a).mpr ha, (fMag_eq_zero b).mpr hb]
    split <;> split <;> rfl
  unfold fMin fMax
  rw [(fIsZero_fields ha).1, (fIsZero_fields hb).1, if_pos key, if_pos key]
  exact ⟨rfl, rfl⟩

/-- The lesser and the greater of two words that are no NaN. -/
theorem fMinMax_less {a b : DWord} (ha : fIsNaN a = false) (hb : fIsNaN b = false) (h : fKey a < fKey b) :
    fMin a b = a ∧ fMin b a = a ∧ fMax a b = b ∧ fMax b a = b := by
  have ne : fKey a ≠ fKey b := Int.ne_of_lt h
  have nl : ¬ fKey b < fKey a := Int.lt_asymm h
  unfold fMin fMax
  simp [ha, hb, h, ne, ne.symm, nl]

/-- Of one NaN the other operand, of two the default NaN (R359). -/
theorem fMinMax_nan {a b : DWord} (ha : fIsNaN a = true) :
    fMin a b = (if fIsNaN b then defaultNaN else b) ∧ fMax a b = (if fIsNaN b then defaultNaN else b) ∧
    fMin b a = (if fIsNaN b then defaultNaN else b) ∧ fMax b a = (if fIsNaN b then defaultNaN else b) := by
  unfold fMin fMax
  cases hb : fIsNaN b <;> simp [ha]

end Sys2Proof.Machine
end

section
/-! Floating point: the statement of O3. -/

namespace Sys2Proof.Machine

open Sys2Proof

/-- Settles O3: each instruction is a `regInstr`, and the operations are said case by case of their operands. -/
theorem floatingResults : Obligations.FloatingResults := by
  unfold Obligations.FloatingResults
  refine ⟨fun s j k up hu => ?_, fun a b => fAdd_infinities, fun a b => fDiv_zero, fun a => fSqrt_negative,
    fun a ha => ?_, fun a => fToInt_saturates, fun a b => fMinMax_zeros, fun a b => fMinMax_less,
    fun a b => fMinMax_nan, fun a ha => ?_, rfl, ?_⟩
  · intro r q f
    refine ⟨?fneg, ?fabs, ?_, ?_, ?_, ?_, ?_, ?_, ?_, ?_, ?_, ?nan⟩
    case fneg => exact exec_regInstr hu rfl rfl (fun _ _ => rfl) (by rw [fNeg_eq])
    case fabs => exact exec_regInstr hu rfl rfl (fun _ _ => rfl) (by rw [fAbs_eq])
    case nan =>
      intro x hx
      simp only [List.mem_cons, List.not_mem_nil, or_false] at hx
      rcases hx with rfl | rfl | rfl | rfl
      · exact fAdd_nan _ _
      · exact fSub_nan _ _
      · exact fMul_nan _ _
      · exact fDiv_nan _ _
    all_goals exact exec_regInstr hu rfl rfl (fun _ _ => rfl) rfl
  · unfold fToInt
    rw [if_pos ha]
  · unfold fSqrt
    rw [if_pos ha]
    rfl
  · decide +kernel

end Sys2Proof.Machine
end

section
/-! SUPPORT. The context that an instruction meets once it is charged, and the outcome of an instruction from the result of its
effect on that context (R45, R55). -/

namespace Sys2Proof.Machine

open Sys2Proof

/-! ## The context met -/

/-- The context that the effect of an instruction of `n` words and `cost` cycles meets: charged, with PC at the next
instruction. -/
def metContext (s : State) (j : Nat) (k : TaskRec) (cost n : Nat) : TaskSt :=
  { (chargeTask s j k cost).task k.task with regs := { aidonRegs s k with pc := aidonPc s k n } }

section Met

variable (s : State) (j : Nat) (k : TaskRec) (cost n : Nat)

@[simp] theorem metContext_regs : (metContext s j k cost n).regs = { aidonRegs s k with pc := aidonPc s k n } := rfl

/-- The context met is that of the task but for the registers and what is charged. -/
@[simp] theorem metContext_rest :
    (metContext s j k cost n).data = (s.task k.task).data ∧ (metContext s j k cost n).edges = (s.task k.task).edges ∧
    (metContext s j k cost n).staging = (s.task k.task).staging ∧ (metContext s j k cost n).cycle = (s.task k.task).cycle ∧
    (metContext s j k cost n).first = (s.task k.task).first ∧
    (metContext s j k cost n).cycles = (s.task k.task).cycles + cost := by
  obtain ⟨m, b, h, -⟩ := chargeTask_task s j k cost
  unfold metContext
  rw [h]
  exact ⟨rfl, rfl, rfl, rfl, rfl, rfl⟩

/-- The charge leaves the fields of every register but TICK_OVR. -/
theorem chargeTask_fld (f : Fld) (h : f.reg ≠ A.TICK_OVR) : (chargeTask s j k cost).fld f = s.fld f := by
  unfold State.fld
  rw [chargeTask_reg _ _ _ _ _ h]

/-- The charge leaves the tick number. -/
@[simp] theorem chargeTask_tick : (chargeTask s j k cost).tick = s.tick := by
  unfold State.tick State.dword
  rw [chargeTask_reg _ _ _ _ _ (by decide), chargeTask_reg _ _ _ _ _ (by decide)]

/-- The charge leaves memory, the images, the classes and the record of uncorrectable words. -/
@[simp] theorem chargeTask_rest :
    (chargeTask s j k cost).mem = s.mem ∧ (chargeTask s j k cost).outImg = s.outImg ∧
    (chargeTask s j k cost).classes = s.classes ∧ (chargeTask s j k cost).image = s.image ∧
    (∀ i, (chargeTask s j k cost).cls i = s.cls i) ∧ (∀ i, (chargeTask s j k cost).outSlot i = s.outSlot i) ∧
    (∀ p, (chargeTask s j k cost).isBad p = s.isBad p) := by
  rw [chargeTask_frame]
  exact ⟨rfl, rfl, rfl, rfl, fun _ => rfl, fun _ => rfl, fun _ => rfl⟩

end Met

/-! ## The outcome -/

/-- What an upset did to a member's signature changes nothing else of the context. -/
@[simp] theorem struckTask_rest (t : TaskSt) (up : Upset) :
    (struckTask t up).regs = t.regs ∧ (struckTask t up).data = t.data ∧ (struckTask t up).edges = t.edges ∧
    (struckTask t up).staging = t.staging := by
  unfold struckTask
  split <;> exact ⟨rfl, rfl, rfl, rfl⟩

section Outcome

variable {s s' : State} {j cost n : Nat} {up : Upset} {k : TaskRec} {i : Instr} {fx : AEffect} {t' : TaskSt}
  {r : TaskRegs}

/-- Without a member that faults alone, an instruction whose effect completes leaves what the effect leaves. -/
theorem exec_effect (hu : up.odd = []) (hx : exec i s = .next (runInstr j up i (fun _ => cost) fx s))
    (hl : (codeOf i).length = n) (hf : fx (chargeTask s j k cost) k (metContext s j k cost n) = .ok (s', t'))
    (h : CoreRuns s j k i) : exec i s = .next (s'.setTask k.task (struckTask t' up)) := by
  subst hl
  rw [hx, runInstr_ok h hu hf]

/-- An instruction whose effect is on the registers alone, PC included. -/
theorem exec_jump (hu : up.odd = []) (hx : exec i s = .next (runInstr j up i (fun _ => cost) fx s))
    (hl : (codeOf i).length = n)
    (hf : fx (chargeTask s j k cost) k (metContext s j k cost n) =
      .ok (chargeTask s j k cost, { metContext s j k cost n with regs := r }))
    (h : CoreRuns s j k i) : exec i s = .next (aidonJump s j k up n cost r) :=
  exec_effect hu hx hl hf h

/-- Registers set with PC at the next instruction. -/
theorem aidonNext_eq (s : State) (j : Nat) (k : TaskRec) (up : Upset) (n cost : Nat) (r : TaskRegs) :
    aidonNext s j k up n cost r = aidonJump s j k up n cost { r with pc := aidonPc s k n } := by
  unfold aidonNext aidonJump aidonTask aidonPc aidonRegs
  dsimp only
  rw [chargeTask_regs]

/-- An instruction whose effect is on the registers alone and leaves PC at the next instruction. -/
theorem exec_next (hu : up.odd = []) (hx : exec i s = .next (runInstr j up i (fun _ => cost) fx s))
    (hl : (codeOf i).length = n)
    (hf : fx (chargeTask s j k cost) k (metContext s j k cost n) =
      .ok (chargeTask s j k cost, { metContext s j k cost n with regs := { r with pc := aidonPc s k n } }))
    (h : CoreRuns s j k i) : exec i s = .next (aidonNext s j k up n cost r) := by
  rw [exec_jump hu hx hl hf h, aidonNext_eq]

end Outcome

end Sys2Proof.Machine
end

section
/-! Registers and system registers: the statement of O4. -/

namespace Sys2Proof.Machine

open Sys2Proof

/-- LDKX joins its extension words, the low one first (R55). -/
theorem append_words (lo hi : Word) : hi ++ lo = BitVec.ofNat 64 (hi.toNat * 2 ^ 32 + lo.toNat) := by
  have hl := lo.isLt
  have hh := hi.isLt
  apply BitVec.eq_of_toNat_eq
  rw [BitVec.toNat_append, ← Nat.shiftLeft_add_eq_or_of_lt hl, Nat.shiftLeft_eq, BitVec.toNat_ofNat, Nat.mod_eq_of_lt]
  omega

/-- A bit as a word. -/
theorem bit_word (b : Bool) : (if b then 1 else 0 : DWord) = BitVec.ofNat 64 b.toNat := by
  cases b <;> rfl

/-- A word as a bit. -/
theorem word_bit (w : DWord) : (w != 0) = decide (w ≠ 0) := by
  rw [Bool.eq_iff_iff, bne_iff_ne, decide_eq_true_eq]

/-- SY_FLAGS shows OV, DZ, FI, FO and FZ in bits 0 to 4 (R67). -/
theorem flagsWord_bits (f : Flags) : (flagsWord f).getLsbD 0 = f.ov ∧ (flagsWord f).getLsbD 1 = f.dz ∧
    (flagsWord f).getLsbD 2 = f.fi ∧ (flagsWord f).getLsbD 3 = f.fo ∧ (flagsWord f).getLsbD 4 = f.fz := by
  obtain ⟨ov, dz, fi, fo, fz⟩ := f
  revert ov dz fi fo fz
  decide

/-- RDS pushes the register that its number names (R67). -/
theorem exec_rds {s : State} {j num : Nat} {up : Upset} {k : TaskRec} {v : DWord} (hu : up.odd = [])
    (hv : sysRegister (chargeTask s j k 2) k (metContext s j k 2 1) num = some v) (h : CoreRuns s j k (.rds j up num)) :
    exec (.rds j up num) s = .next (aidonNext s j k up 1 2 (pushed (aidonRegs s k) v .good)) :=
  exec_next hu rfl rfl (by simp only [hv]; rfl) h

/-- Settles O4: constants and moves are each a `regInstr`; a system register reads the same once RDS is charged, but for
SY_CYCLES, which counts that charge. -/
theorem registerAndSystemResults : Obligations.RegisterAndSystemResults := by
  unfold Obligations.RegisterAndSystemResults
  refine ⟨fun s j k up hu => ?_, fun s j k up hu => ?_⟩
  · intro r
    refine ⟨?_, fun imm => ?_, ?tix, ?_, ?btw, ?wtb, ?_, fun q => ?_, fun q => ?_, ?_, ?_, ?_, fun lo hi => ?ldkx⟩
    case tix => exact exec_regInstr hu rfl rfl (fun _ _ => rfl) rfl
    case btw => exact exec_regInstr hu rfl rfl (fun _ _ => rfl) (congrArg (pushed r · r.bq) (bit_word r.ba))
    case wtb => exact exec_regInstr hu rfl rfl (fun _ _ => rfl) (by rw [word_bit])
    case ldkx => exact exec_next hu rfl rfl (by rw [← append_words]; rfl)
    all_goals exact exec_regInstr hu rfl rfl (fun _ _ => rfl) rfl
  · intro r t reads
    obtain ⟨-, -, -, cycle, first, cycles⟩ := metContext_rest s j k 2 1
    obtain ⟨-, -, -, -, cls, -, -⟩ := chargeTask_rest s j k 2
    refine ⟨?_, ?_, ?_, ?_, ?_, ?_, ?_, ?_, ?_, ?_, ?_, ⟨_, ?_, flagsWord_bits r.flags⟩, ?_, ?_⟩
    · exact exec_rds hu (congrArg some cycle)
    · exact exec_rds hu (congrArg some (chargeTask_tick s j k 2))
    · exact exec_rds hu (congrArg (fun c => some (edgeNs c)) cycle)
    · exact exec_rds hu rfl
    · exact exec_rds hu rfl
    · exact exec_rds hu rfl
    · refine exec_rds hu (congrArg some ?_)
      rw [first]
      cases (s.task k.task).first <;> rfl
    · exact exec_rds hu (congrArg (fun c : ClassSt => some (BitVec.ofNat 64 c.skipped)) (cls k.cls))
    · refine exec_rds hu (congrArg some ?_)
      rw [chargeTask_reg _ _ _ _ _ (by decide), BitVec.ofNat_toNat]
    · exact exec_rds hu (congrArg some (BitVec.ofNat_toNat 64 _).symm)
    · exact exec_rds hu (congrArg (fun c => some (BitVec.ofNat 64 c)) cycles)
    · exact exec_rds hu rfl
    · exact exec_next hu rfl rfl rfl
    · exact exec_next hu rfl rfl rfl

end Sys2Proof.Machine
end

section
/-! SUPPORT. The operands of an instruction read the same before and after its charge (R51, R56, R59). -/

namespace Sys2Proof.Machine

open Sys2Proof

section Charged

variable (s : State) (j : Nat) (k : TaskRec) (cost : Nat)

@[simp] theorem chargeTask_spaceSize (space : Nat) : spaceSize (chargeTask s j k cost) k space = spaceSize s k space := by
  rw [chargeTask_frame]
  rfl

@[simp] theorem chargeTask_slotOperand (t : TaskSt) (space i : Nat) :
    slotOperand (chargeTask s j k cost) k t space i = slotOperand s k t space i := by
  rw [chargeTask_frame]
  rfl

@[simp] theorem chargeTask_recordAddr (idx : Nat) : recordAddr (chargeTask s j k cost) k idx = recordAddr s k idx := by
  rw [chargeTask_frame]
  rfl

@[simp] theorem chargeTask_dramJudge (core a : Nat) (w : Bool) :
    dramJudge (chargeTask s j k cost) core a w = dramJudge s core a w := by
  rw [chargeTask_frame]
  rfl

@[simp] theorem chargeTask_addrBad (a n : Nat) : addrBad (chargeTask s j k cost) a n = addrBad s a n := by
  rw [chargeTask_frame]
  rfl

@[simp] theorem chargeTask_domOn (d : Nat) : (chargeTask s j k cost).domOn d = s.domOn d := by
  unfold State.domOn State.dom
  rw [chargeTask_fld _ _ _ _ _ (ne_itemKey_of_low d (by decide) (by decide) (by decide)).symm]

variable (n : Nat)

/-- A slot is read from the staging list or from what the charge leaves. -/
theorem slotOperand_met (space i : Nat) : slotOperand (chargeTask s j k cost) k (metContext s j k cost n) space i =
    slotOperand s k (s.task k.task) space i := by
  obtain ⟨-, -, staging, -⟩ := metContext_rest s j k cost n
  rw [chargeTask_slotOperand]
  unfold slotOperand slotBad readOut
  rw [staging]

/-- A bit operand is that of the state before the charge. -/
theorem bitOperand_met (space idx : Nat) : bitOperand (chargeTask s j k cost) k (metContext s j k cost n) space idx =
    bitOperand s k (s.task k.task) space idx := by
  obtain ⟨data, -⟩ := metContext_rest s j k cost n
  obtain ⟨-, -, -, -, -, -, bad⟩ := chargeTask_rest s j k cost
  unfold bitOperand
  rw [slotOperand_met, data, bad]

/-- A word operand is that of the state before the charge. -/
theorem wordOperand_met (space idx : Nat) : wordOperand (chargeTask s j k cost) k (metContext s j k cost n) space idx =
    wordOperand s k (s.task k.task) space idx := by
  obtain ⟨data, -⟩ := metContext_rest s j k cost n
  obtain ⟨-, -, -, -, -, -, bad⟩ := chargeTask_rest s j k cost
  unfold wordOperand
  rw [slotOperand_met, data, bad]

end Charged

/-! ## Effects on the registers -/

theorem loadBit_ok {s : State} {k : TaskRec} {t : TaskSt} {space idx : Nat} {b : Bool} {q : Quality} (f : Bool → Bool)
    (h : bitOperand s k t space idx = .ok (b, q)) :
    loadBit space idx f s k t = .ok (s, { t with regs := { t.regs with ba := f b, bq := q } }) := by
  unfold loadBit
  rw [h]

theorem opBit_ok {s : State} {k : TaskRec} {t : TaskSt} {space idx : Nat} {b : Bool} {q : Quality}
    (f : Bool → Bool → Bool) (h : bitOperand s k t space idx = .ok (b, q)) :
    opBit space idx f s k t =
      .ok (s, { t with regs := { t.regs with ba := f t.regs.ba b, bq := t.regs.bq.max q } }) := by
  unfold opBit
  rw [h]

theorem nestPush_ok {t : TaskSt} (h : t.regs.nest.length < 8) (op : NestOp) (s : State) (k : TaskRec) :
    nestPush op s k t =
      .ok (s, { t with regs := { t.regs with nest := ⟨t.regs.ba, t.regs.bq, op⟩ :: t.regs.nest } }) :=
  if_neg (Nat.not_le.mpr h)

theorem loadWord_ok {s : State} {k : TaskRec} {t : TaskSt} {space idx : Nat} {v : DWord} {q : Quality}
    (h : wordOperand s k t space idx = .ok (v, q)) :
    loadWord space idx s k t = .ok (s, { t with regs := pushWord t.regs v q }) := by
  unfold loadWord
  rw [h]

end Sys2Proof.Machine
end

section
/-! Bit logic and nesting: the statement of O5. -/

namespace Sys2Proof.Machine

open Sys2Proof

/-- Settles O5: the operand reads as before the charge, and the effects are on the registers alone. -/
theorem bitLogicAndNestingResults : Obligations.BitLogicAndNestingResults := by
  unfold Obligations.BitLogicAndNestingResults
  refine ⟨fun s j k up space idx b q hu hb => ?_, fun s j k up hu => ?_⟩
  · intro r m
    have hb : bitOperand (chargeTask s j k 3) k (metContext s j k 3 1) space idx = .ok (b, q) :=
      (bitOperand_met s j k 3 1 space idx).trans hb
    refine ⟨?ld, ?ldn, ?_, ?_, ?_, ?_, ?_, ?xorn⟩
    case ld => exact exec_next hu rfl rfl (loadBit_ok _ hb)
    case ldn => exact exec_next hu rfl rfl (loadBit_ok _ hb)
    case xorn =>
      refine exec_next hu rfl rfl ((opBit_ok _ hb).trans ?_)
      rw [show (r.ba == b) = (r.ba ^^ !b) by cases r.ba <;> cases b <;> rfl]
      rfl
    all_goals exact exec_next hu rfl rfl (opBit_ok _ hb)
  · intro r push
    refine ⟨fun h => ?_, fun b q op es he => ⟨nestApply op b r.ba, ?_, ?_⟩⟩
    · refine ⟨?_, ?_, ?_, ?_, ?_⟩ <;> exact exec_next hu rfl rfl (nestPush_ok (t := metContext s j k 1 1) h _ _ _)
    · refine exec_next hu rfl rfl ?_
      rw [metContext_regs, show (aidonRegs s k).nest = _ from he]
    · refine ⟨?_, ?_, ?_, ?_, ?_⟩ <;> rintro rfl <;> rfl

end Sys2Proof.Machine
end

section
/-! Jumps, calls and loops: the statement of O6. -/

namespace Sys2Proof.Machine

open Sys2Proof

/-- A forward jump that is taken, on a context whose PC stands at the next instruction. -/
theorem jumpIf_true {off : BitVec 24} (h : 0 ≤ off.toInt) (s : State) (k : TaskRec) (t : TaskSt) :
    jumpIf true off s k t = .ok (s, { t with regs := movePc t.regs off }) := by
  unfold jumpIf jumpTo jumpOff
  rw [if_pos rfl, if_neg (Int.not_lt.mpr h)]
  rfl

/-- A conditional forward jump. -/
theorem jumpIf_forward {off : BitVec 24} {c : Bool} {s : State} {k : TaskRec} {t : TaskSt} {p : BitVec 19}
    (h : 0 ≤ off.toInt) (hp : (if c then (movePc t.regs off).pc else t.regs.pc) = p) :
    jumpIf c off s k t = .ok (s, { t with regs := { t.regs with pc := p } }) := by
  subst hp
  cases c
  · rfl
  · exact jumpIf_true h s k t

/-- A conditional jump whose condition does not hold. -/
theorem jumpIf_stays {c : Bool} (h : c = false) (off : BitVec 24) (s : State) (k : TaskRec) (t : TaskSt) :
    jumpIf c off s k t = .ok (s, t) := by
  subst h
  rfl

theorem ite_not_bool {α : Type} (b : Bool) (x y : α) : (if !b then x else y) = if b then y else x := by
  cases b <;> rfl

/-- Settles O6: each effect is on the registers alone, from PC at the next instruction. -/
theorem controlResults : Obligations.ControlResults := by
  unfold Obligations.ControlResults
  intro s j k up hu r pc go
  refine ⟨fun off h => ⟨?jmp, ?jt, ?jf, fun l ls hl => ?lpx⟩, fun off _ => ⟨fun hb => ?jtStays, fun hb => ?jfStays⟩,
    fun off h => ?call, fun a as h => ?ret, fun n hn h => ?lpb, fun a n ls h => ?lpe⟩
  case jmp => exact exec_jump hu rfl rfl (jumpIf_true h _ _ _)
  case jt => exact exec_jump hu rfl rfl (jumpIf_forward h rfl)
  case jf => exact exec_jump hu rfl rfl (jumpIf_forward h (ite_not_bool r.ba _ _))
  case lpx =>
    refine exec_jump hu rfl rfl ?_
    rw [metContext_regs, show (aidonRegs s k).loops = _ from hl]
    exact jumpIf_true h _ _ _
  case jtStays => exact exec_jump hu rfl rfl (jumpIf_stays hb off _ k (metContext s j k 3 1))
  case jfStays =>
    have not : (!r.ba) = false := by rw [hb, Bool.not_true]
    exact exec_jump hu rfl rfl (jumpIf_stays not off _ k (metContext s j k 3 1))
  case call => exact exec_jump hu rfl rfl (if_neg (Nat.not_le.mpr h))
  case ret =>
    refine exec_jump hu rfl rfl ?_
    rw [metContext_regs, show (aidonRegs s k).calls = _ from h]
  case lpb => exact exec_jump hu rfl rfl ((if_neg hn).trans (if_neg (Nat.not_le.mpr h)))
  case lpe =>
    refine exec_jump hu rfl rfl ?_
    rw [metContext_regs, show (aidonRegs s k).loops = _ from h]
    dsimp only
    split <;> rfl

end Sys2Proof.Machine
end

section
/-! SUPPORT. Stores of a task: what logging, signing and staging leave of its context, and the bytes that a store writes (R51,
R53, R72, R74). -/

namespace Sys2Proof.Machine

open Sys2Proof

/-- The undo log takes a word; the registers, the data, the edge bits and the staging list stay. -/
@[simp] theorem taskLog_rest (t : TaskSt) (room : Option Nat) (p : UndoPlace) (old : DWord) :
    (taskLog t room p old).regs = t.regs ∧ (taskLog t room p old).data = t.data ∧
    (taskLog t room p old).edges = t.edges ∧ (taskLog t room p old).staging = t.staging := by
  unfold taskLog
  repeat' split
  all_goals exact ⟨rfl, rfl, rfl, rfl⟩

/-- A store to task data writes its bytes; the registers, the edge bits and the staging list stay. -/
theorem taskStore_spec (t : TaskSt) (room : Option Nat) (a : Nat) (bs : List Byte) :
    (taskStore t room a bs).data = putBytes t.data a bs ∧ (taskStore t room a bs).regs = t.regs ∧
    (taskStore t room a bs).edges = t.edges ∧ (taskStore t room a bs).staging = t.staging := by
  unfold taskStore taskSign
  dsimp only
  split <;> simp

/-- A store to DRAM logs and signs; the registers stay, and the state is that of the store. -/
theorem storeDram_spec (s : State) (k : TaskRec) (t : TaskSt) (a : Nat) (v : DWord) :
    (storeDram s k t a v).1 = s.storeMem a (leBytes 8 v.toNat) ∧ (storeDram s k t a v).2.regs = t.regs := by
  unfold storeDram taskSign
  dsimp only
  refine ⟨rfl, ?_⟩
  split <;> simp

/-- Byte `i` of a number's bytes. -/
theorem leBytes_getD {n v i : Nat} (h : i < n) : (leBytes n v).getD i 0 = byteOf v i := by
  rw [List.getD_eq_getElem?_getD, leBytes_getElem? n v i h, byteOf, Nat.shiftRight_eq_div_pow, pow_mul]
  rfl

/-- The bytes of a number read back where they were written; every other byte stays. -/
theorem byteAt_putBytes_leBytes (m : Bytes) (a n v x : Nat) : byteAt (putBytes m a (leBytes n v)) x =
    if a ≤ x ∧ x < a + n then byteOf v (x - a) else byteAt m x := by
  rw [byteAt_putBytes, leBytes_length]
  split
  · rw [leBytes_getD (by omega)]
  · rfl

/-- The array check of an index within the array. -/
theorem indexCheck_ok {t : TaskSt} {space : Nat} {ext : Word} {st : Bool} (hs : space < 3) (he : ext.toNat ≤ 4194304)
    (hi : t.regs.ix.toNat < ext.toNat) (hw : (st && space == 0) = false) : indexCheck t space ext st = .ok () := by
  unfold indexCheck
  rw [if_neg (by omega), hw, if_neg Bool.false_ne_true, if_neg (by omega)]

end Sys2Proof.Machine
end

section
/-! Word loads and DRAM: the statement of O7. -/

namespace Sys2Proof.Machine

open Sys2Proof

/-- Settles O7: operands and judgements are those of the state before the charge. -/
theorem wordAndDramResults : Obligations.WordAndDramResults := by
  unfold Obligations.WordAndDramResults
  refine ⟨fun s j k up space idx v q hu => ?_, fun s j k up hu on => ?_⟩
  · intro r
    refine ⟨fun hw => ?ldw, fun ext hs he hi hw => ?ldwx⟩
    case ldw => exact exec_next hu rfl rfl (loadWord_ok ((wordOperand_met s j k 3 1 space idx).trans hw))
    case ldwx =>
      have check : indexCheck (metContext s j k 4 2) space ext false = .ok () := indexCheck_ok hs he hi rfl
      refine exec_next hu rfl rfl ?_
      dsimp only
      rw [check]
      exact loadWord_ok ((wordOperand_met s j k 4 2 space _).trans hw)
  · intro r a good
    refine ⟨fun hj => ?ldd, fun hj h => ?std⟩
    case ldd =>
      refine exec_next hu rfl rfl ?_
      dsimp only [metContext_regs]
      rw [chargeTask_dramJudge, show dramJudge s k.lcore _ false = none from hj]
      dsimp only
      rw [chargeTask_addrBad, show addrBad s _ 8 = none from good]
      dsimp only
      rw [chargeTask_domOn, if_pos on, (chargeTask_rest s j k 64).1]
    case std =>
      obtain ⟨stored, regs⟩ := storeDram_spec (chargeTask s j k 64) k (metContext s j k 64 1) a r.wb
      have judged : dramJudge (chargeTask s j k 64) k.lcore a true = none := (chargeTask_dramJudge ..).trans hj
      have clean : (if a % 8 = 0 then none else addrBad (chargeTask s j k 64) a 8) = none := by
        rw [chargeTask_addrBad, good, ite_self]
      refine ⟨_, exec_effect (n := 1) hu rfl rfl (s' := (storeDram (chargeTask s j k 64) k (metContext s j k 64 1) a r.wb).1)
        (t' := (storeDram (chargeTask s j k 64) k (metContext s j k 64 1) a r.wb).2) ?_ h, ?_, fun x => ?_⟩
      · dsimp only
        rw [show dramJudge _ k.lcore (metContext s j k 64 1).regs.wa.toNat true = none from judged]
        dsimp only
        rw [show (if (metContext s j k 64 1).regs.wa.toNat % 8 = 0 then none
            else addrBad _ (metContext s j k 64 1).regs.wa.toNat 8) = none
          from clean]
        dsimp only
        rw [chargeTask_domOn, if_pos on]
        rfl
      · rw [State.task_setTask, if_pos rfl, (struckTask_rest _ up).1, regs]
        rfl
      · show byteAt (storeDram (chargeTask s j k 64) k (metContext s j k 64 1) a r.wb).1.mem x = _
        rw [stored, State.storeMem_mem, byteAt_putBytes_leBytes, (chargeTask_rest s j k 64).1]

end Sys2Proof.Machine
end

section
/-! SUPPORT. Stores to the output area, which stage, and stores of words and bits to task data (R51 to R53). -/

namespace Sys2Proof.Machine

open Sys2Proof

/-- Byte `old` with bit `p` set to `b`, read at bit `q`. -/
theorem getLsbD_setBit (old : Byte) (b : Bool) {p q : Nat} (hq : q < 8) :
    (if b then old ||| BitVec.ofNat 8 (2 ^ p) else old &&& ~~~BitVec.ofNat 8 (2 ^ p)).getLsbD q =
      if q = p then b else old.getLsbD q := by
  have mask : (BitVec.ofNat 8 (2 ^ p)).getLsbD q = decide (p = q) := by
    rw [BitVec.getLsbD_ofNat, Nat.testBit_two_pow]
    simp [hq]
  cases b
  · rw [if_neg Bool.false_ne_true, BitVec.getLsbD_and, BitVec.getLsbD_not, mask]
    by_cases h : q = p <;> simp [h, hq, Ne.symm]
  · rw [if_pos rfl, BitVec.getLsbD_or, mask]
    by_cases h : q = p <;> simp [h, Ne.symm]

/-- A bit of a byte memory once the byte that holds bit `e` is written with it set to `b`. -/
theorem bit_putByte (m : Bytes) (e i : Nat) (b : Bool) :
    (byteAt (putByte m (e / 8) (if b then byteAt m (e / 8) ||| BitVec.ofNat 8 (2 ^ (e % 8))
      else byteAt m (e / 8) &&& ~~~BitVec.ofNat 8 (2 ^ (e % 8)))) (i / 8)).getLsbD (i % 8) =
    if i = e then b else (byteAt m (i / 8)).getLsbD (i % 8) := by
  rw [byteAt_putByte]
  by_cases byte : i / 8 = e / 8
  · rw [if_pos byte, getLsbD_setBit _ _ (Nat.mod_lt _ (by decide)), byte]
    exact if_congr (by omega) rfl rfl
  · rw [if_neg byte, if_neg (fun h => byte (by rw [h]))]

/-- A key reads the value put there, every other key as before. -/
theorem getAt_putAt {α : Type} (a b : Nat) (v : α) (m : List (Nat × α)) :
    getAt b (putAt a v m) = if b = a then some v else getAt b m := by
  induction m with
  | nil => rfl
  | cons e m ih =>
    obtain ⟨c, w⟩ := e
    unfold putAt
    split
    · rfl
    · split
      · next h =>
        subst h
        unfold getAt
        split <;> rfl
      · next h =>
        unfold getAt
        rw [ih]
        by_cases hb : b = c
        · rw [if_pos hb, if_pos hb, if_neg (fun e => h (e.symm.trans hb))]
        · rw [if_neg hb, if_neg hb]

section Effects

variable {s : State} {k : TaskRec} {t : TaskSt} {idx : Nat}

/-- A slot is staged while it is staged already or the list has room (R53). -/
theorem stageSlot_ok (x : Slot) (h : t.staging.length < 256 ∨ (getAt idx t.staging).isSome = true) :
    ∃ t', stageSlot t idx x = .ok t' ∧ t'.regs = t.regs ∧ t'.staging = putAt idx x t.staging := by
  refine ⟨_, if_neg fun full => ?_, rfl, rfl⟩
  rw [Bool.and_eq_true, decide_eq_true_eq, Option.isNone_iff_eq_none] at full
  rcases h with h | h
  · omega
  · simp [full.1] at h

/-- A store within the output area is admitted (R57). -/
theorem storeCheck_out (h : idx < spaceSize s k 1) (e : Nat) : storeCheck s k 1 idx e = .ok () :=
  (if_neg (by decide)).trans ((if_neg (by decide)).trans ((if_pos rfl).trans (if_neg (Nat.not_le.mpr h))))

/-- A store within task data is admitted (R57). -/
theorem storeCheck_data {e : Nat} (h : e ≤ k.dataSize) : storeCheck s k 2 idx e = .ok () :=
  (if_neg (by decide)).trans ((if_neg (by decide)).trans ((if_neg (by decide)).trans (if_neg (Nat.not_lt.mpr h))))

theorem storeBit_stages (b : Bool) (q : Quality) (hs : idx < spaceSize s k 1)
    (h : t.staging.length < 256 ∨ (getAt idx t.staging).isSome = true) :
    ∃ t', storeBit s k t 1 idx b q = .ok (s, t') ∧ t'.regs = t.regs ∧
      t'.staging = putAt idx ⟨BitVec.ofNat 64 b.toNat, q⟩ t.staging := by
  obtain ⟨t', staged, rest⟩ := stageSlot_ok ⟨BitVec.ofNat 64 b.toNat, q⟩ h
  refine ⟨t', ?_, rest⟩
  unfold storeBit
  rw [storeCheck_out hs]
  dsimp only
  rw [if_pos rfl, bit_word, staged]

theorem storeWord_stages (v : DWord) (q : Quality) (hs : idx < spaceSize s k 1)
    (h : t.staging.length < 256 ∨ (getAt idx t.staging).isSome = true) :
    ∃ t', storeWord s k t 1 idx v q = .ok (s, t') ∧ t'.regs = t.regs ∧ t'.staging = putAt idx ⟨v, q⟩ t.staging := by
  obtain ⟨t', staged, rest⟩ := stageSlot_ok ⟨v, q⟩ h
  refine ⟨t', ?_, rest⟩
  unfold storeWord
  rw [storeCheck_out hs]
  dsimp only
  rw [if_pos rfl, staged]

/-- A word of task data is written, and its check bits are new (R231). -/
theorem storeWord_data (v : DWord) (q : Quality) (h : idx * 8 + 8 ≤ k.dataSize) : storeWord s k t 2 idx v q =
    .ok (healData s k (idx * 8), taskStore t (undoRoom s k) (idx * 8) (leBytes 8 v.toNat)) := by
  unfold storeWord
  rw [storeCheck_data h]
  exact if_neg (by decide)

/-- A bit of task data is written with its byte. -/
theorem storeBit_data (b : Bool) (q : Quality) (h : idx / 8 < k.dataSize)
    (hb : s.isBad (.data k.task (idx / 8 / 8)) = false) : storeBit s k t 2 idx b q =
    .ok (s, taskStore t (undoRoom s k) (idx / 8) [if b then byteAt t.data (idx / 8) ||| BitVec.ofNat 8 (2 ^ (idx % 8))
      else byteAt t.data (idx / 8) &&& ~~~BitVec.ofNat 8 (2 ^ (idx % 8))]) := by
  unfold storeBit dataPlace
  rw [storeCheck_data h]
  dsimp only
  rw [if_neg (by decide), hb, if_neg Bool.false_ne_true]

/-- S and RST store where BA is 1. -/
theorem setBitIf_stores (space : Nat) (v : Bool) (h : t.regs.ba = true) :
    setBitIf space idx v s k t = storeBit s k t space idx v t.regs.bq :=
  if_pos h

/-- S and RST within the output area store nothing where BA is 0. -/
theorem setBitIf_idle (v : Bool) (h : t.regs.ba = false) (hs : idx < spaceSize s k 1) :
    setBitIf 1 idx v s k t = .ok (s, t) := by
  unfold setBitIf
  rw [h, if_neg Bool.false_ne_true, storeCheck_out hs]

end Effects

/-! ## Outcomes -/

section Outcomes

variable {s : State} {j cost n : Nat} {up : Upset} {k : TaskRec} {i : Instr} {fx : AEffect}

/-- A slot has been staged, with PC `n` words on; nothing has left. -/
def Staged (s : State) (k : TaskRec) (n a : Nat) (x : Slot) (t : State) : Prop :=
  (t.task k.task).regs = { aidonRegs s k with pc := aidonPc s k n } ∧
  (∀ b, getAt b (t.task k.task).staging = if b = a then some x else getAt b (s.task k.task).staging) ∧
  t.outImg = s.outImg ∧ t.classes = s.classes ∧ t.mem = s.mem

/-- An instruction whose effect stages a slot. -/
theorem exec_stages {a : Nat} {x : Slot} (hu : up.odd = [])
    (hx : exec i s = .next (runInstr j up i (fun _ => cost) fx s)) (hl : (codeOf i).length = n)
    (hf : ∃ t', fx (chargeTask s j k cost) k (metContext s j k cost n) = .ok (chargeTask s j k cost, t') ∧
      t'.regs = (metContext s j k cost n).regs ∧ t'.staging = putAt a x (metContext s j k cost n).staging)
    (h : CoreRuns s j k i) : ∃ t, exec i s = .next t ∧ Staged s k n a x t := by
  obtain ⟨t', effect, regs, staging⟩ := hf
  obtain ⟨mem, outImg, classes, -⟩ := chargeTask_rest s j k cost
  obtain ⟨-, -, before, -⟩ := metContext_rest s j k cost n
  refine ⟨_, exec_effect hu hx hl effect h, ?_, fun b => ?_, outImg, classes, mem⟩
  · rw [State.task_setTask, if_pos rfl, (struckTask_rest t' up).1, regs, metContext_regs]
  · obtain ⟨-, -, -, staged⟩ := struckTask_rest t' up
    rw [State.task_setTask, if_pos rfl, staged, staging, before, getAt_putAt]

/-- A word of task data has been written, with PC `n` words on. -/
def WordStored (s : State) (k : TaskRec) (n w : Nat) (t : State) : Prop :=
  (t.task k.task).regs = { aidonRegs s k with pc := aidonPc s k n } ∧
  (∀ a, byteAt (t.task k.task).data a = if 8 * w ≤ a ∧ a < 8 * w + 8 then byteOf (aidonRegs s k).wa.toNat (a - 8 * w)
    else byteAt (s.task k.task).data a) ∧
  t.mem = s.mem ∧ t.outImg = s.outImg

/-- An instruction whose effect writes WA to a word of task data. -/
theorem exec_storesWord {w : Nat} {room : Option Nat} (hu : up.odd = [])
    (hx : exec i s = .next (runInstr j up i (fun _ => cost) fx s)) (hl : (codeOf i).length = n)
    (hf : fx (chargeTask s j k cost) k (metContext s j k cost n) = .ok (healData (chargeTask s j k cost) k (w * 8),
      taskStore (metContext s j k cost n) room (w * 8) (leBytes 8 (aidonRegs s k).wa.toNat)))
    (h : CoreRuns s j k i) : ∃ t, exec i s = .next t ∧ WordStored s k n w t := by
  obtain ⟨mem, outImg, -⟩ := chargeTask_rest s j k cost
  obtain ⟨before, -⟩ := metContext_rest s j k cost n
  obtain ⟨data, regs, -⟩ := taskStore_spec (metContext s j k cost n) room (w * 8) (leBytes 8 (aidonRegs s k).wa.toNat)
  refine ⟨_, exec_effect hu hx hl hf h, ?_, fun a => ?_, mem, outImg⟩
  · rw [State.task_setTask, if_pos rfl, (struckTask_rest _ up).1, regs, metContext_regs]
  · rw [State.task_setTask, if_pos rfl, (struckTask_rest _ up).2.1, data, before, byteAt_putBytes_leBytes,
      Nat.mul_comm w 8]

/-- One bit of task data has been set to `b`, and every other is as before. -/
def BitStored (s : State) (k : TaskRec) (idx : Nat) (b : Bool) (t : State) : Prop :=
  ∀ i, (byteAt (t.task k.task).data (i / 8)).getLsbD (i % 8) =
    if i = idx then b else (byteAt (s.task k.task).data (i / 8)).getLsbD (i % 8)

/-- An instruction whose effect is a bit store to task data. -/
theorem exec_storesBit {idx : Nat} {b : Bool} {q : Quality} (hu : up.odd = []) (hd : idx / 8 < k.dataSize)
    (hb : s.isBad (.data k.task (idx / 8 / 8)) = false)
    (hx : exec i s = .next (runInstr j up i (fun _ => cost) fx s)) (hl : (codeOf i).length = n)
    (hf : fx (chargeTask s j k cost) k (metContext s j k cost n) =
      storeBit (chargeTask s j k cost) k (metContext s j k cost n) 2 idx b q)
    (h : CoreRuns s j k i) : ∃ t, exec i s = .next t ∧ BitStored s k idx b t := by
  obtain ⟨-, -, -, -, -, -, bad⟩ := chargeTask_rest s j k cost
  obtain ⟨before, -⟩ := metContext_rest s j k cost n
  refine ⟨_, exec_effect hu hx hl (hf.trans (storeBit_data b q hd ((bad _).trans hb))) h, fun i => ?_⟩
  rw [State.task_setTask, if_pos rfl, (struckTask_rest _ up).2.1, (taskStore_spec _ _ _ _).1, before]
  exact bit_putByte _ _ _ _

end Outcomes

end Sys2Proof.Machine
end

section
/-! Stores: the statement of O8. -/

namespace Sys2Proof.Machine

open Sys2Proof

/-- Settles O8: a store to the output area stages, one to task data writes its bytes. -/
theorem storeResults : Obligations.StoreResults := by
  unfold Obligations.StoreResults
  refine ⟨fun s j k up idx hu hs => ?_, fun s j k up idx hu => ?_⟩
  · intro room r bit staged
    have size (cost : Nat) {a : Nat} (ha : a < spaceSize s k 1) : a < spaceSize (chargeTask s j k cost) k 1 := by
      rwa [chargeTask_spaceSize]
    have fits (cost n : Nat) {a : Nat} (ha : room a) : (metContext s j k cost n).staging.length < 256 ∨
        (getAt a (metContext s j k cost n).staging).isSome = true := by
      rw [(metContext_rest s j k cost n).2.2.1]
      exact ha
    refine ⟨fun ha => ⟨?st, ?stn, ?stw, fun hb => ⟨?set, ?rst⟩⟩, fun ext he hi hx ha h => ?stwx,
      fun hb => ⟨?setIdle, ?rstIdle⟩⟩
    case st => exact exec_stages hu rfl rfl (storeBit_stages _ _ (size 2 hs) (fits 2 1 ha))
    case stn => exact exec_stages hu rfl rfl (storeBit_stages _ _ (size 2 hs) (fits 2 1 ha))
    case stw => exact exec_stages hu rfl rfl (storeWord_stages _ _ (size 2 hs) (fits 2 1 ha))
    case set =>
      refine exec_stages hu rfl rfl ?_
      rw [setBitIf_stores (t := metContext s j k 2 1) 1 true hb]
      exact storeBit_stages _ _ (size 2 hs) (fits 2 1 ha)
    case rst =>
      refine exec_stages hu rfl rfl ?_
      rw [setBitIf_stores (t := metContext s j k 2 1) 1 false hb]
      exact storeBit_stages _ _ (size 2 hs) (fits 2 1 ha)
    case stwx =>
      have check : indexCheck (metContext s j k 3 2) 1 ext true = .ok () := indexCheck_ok (by decide) he hi rfl
      refine exec_stages hu rfl rfl ?_ h
      rw [check]
      exact storeWord_stages _ _ (size 3 hx) (fits 3 2 ha)
    case setIdle => exact exec_next hu rfl rfl (setBitIf_idle (t := metContext s j k 2 1) true hb (size 2 hs))
    case rstIdle => exact exec_next hu rfl rfl (setBitIf_idle (t := metContext s j k 2 1) false hb (size 2 hs))
  · intro r words bits
    refine ⟨fun h hd => ?stw, fun ext h he hi hd => ?stwx, fun hd hb => ⟨?st, ?stn, fun hba => ⟨?set, ?rst⟩⟩⟩
    case stw => exact exec_storesWord hu rfl rfl (storeWord_data _ _ hd) h
    case stwx =>
      have check : indexCheck (metContext s j k 3 2) 2 ext true = .ok () := indexCheck_ok (by decide) he hi rfl
      refine exec_storesWord (room := undoRoom (chargeTask s j k 3) k) hu rfl rfl ?_ h
      rw [check]
      exact storeWord_data _ _ hd
    case st => exact exec_storesBit hu hd hb rfl rfl rfl
    case stn => exact exec_storesBit hu hd hb rfl rfl rfl
    case set => exact exec_storesBit hu hd hb rfl rfl (setBitIf_stores (t := metContext s j k 2 1) 2 true hba)
    case rst => exact exec_storesBit hu hd hb rfl rfl (setBitIf_stores (t := metContext s j k 2 1) 2 false hba)

end Sys2Proof.Machine
end

section
/-! SUPPORT. Edge bits, timer records and counter records in task data: what they read once they are written (R61 to R66). -/

namespace Sys2Proof.Machine

open Sys2Proof

/-! ## Records as bytes -/

/-- Bytes within a string that was written. -/
theorem bytesAt_putBytes_append (m : Bytes) (a : Nat) (pre mid post : List Byte) :
    bytesAt (putBytes m a (pre ++ (mid ++ post))) (a + pre.length) mid.length = mid := by
  unfold bytesAt
  apply List.ext_getElem
  · simp
  · intro i h1 h2
    rw [List.getElem_map, List.getElem_range, byteAt_putBytes,
      if_pos (by simp only [List.length_append]; omega), show a + pre.length + i - a = pre.length + i by omega,
      List.getD_eq_getElem?_getD, List.getElem?_append_right (by omega), Nat.add_sub_cancel_left,
      List.getElem?_append_left h2, List.getElem?_eq_getElem h2]
    rfl

/-- A number within a string that was written. -/
theorem leVal_putBytes (m : Bytes) (a n v : Nat) (pre post : List Byte) :
    leVal (bytesAt (putBytes m a (pre ++ (leBytes n v ++ post))) (a + pre.length) n) = v % 256 ^ n := by
  have h := bytesAt_putBytes_append m a pre (leBytes n v) post
  rw [leBytes_length] at h
  rw [h, leVal_leBytes]

/-- The lowest byte of a number within a string that was written. -/
theorem byteAt_putBytes_number (m : Bytes) (a n v : Nat) (pre post : List Byte) :
    byteAt (putBytes m a (pre ++ (leBytes (n + 1) v ++ post))) (a + pre.length) = BitVec.ofNat 8 v := by
  rw [byteAt_putBytes, if_pos (by simp only [List.length_append, leBytes_length]; omega), Nat.add_sub_cancel_left,
    List.getD_eq_getElem?_getD, List.getElem?_append_right (by omega), Nat.sub_self]
  rfl

/-- A number of `n` bytes is below 256^n. -/
theorem leVal_lt (bs : List Byte) : leVal bs < 256 ^ bs.length := by
  induction bs with
  | nil => exact Nat.one_pos
  | cons b bs ih =>
    have hb := b.isLt
    rw [leVal, List.length_cons, Nat.pow_succ]
    omega

theorem bytesAt_length (m : Bytes) (a n : Nat) : (bytesAt m a n).length = n := by
  simp [bytesAt]

/-! ## Timers -/

/-- PRESET of a record in memory has 32 bits. -/
theorem timerAt_preset_lt (t : TaskSt) (a : Nat) : (timerAt t a).preset < 2 ^ 32 := by
  have h := leVal_lt (bytesAt t.data (a + 8) 4)
  rwa [bytesAt_length] at h

/-- A timer record that is written reads back. -/
theorem timerAt_written {t t' : TaskSt} {a : Nat} {x : TimerRec} (h : t'.data = putBytes t.data a x.bytes)
    (hp : x.preset < 2 ^ 32) : timerAt t' a = x := by
  have start := leVal_putBytes t.data a 8 x.start.toNat []
    (leBytes 4 x.preset ++ leBytes 4 (b2n x.q + 2 * b2n x.run + 4 * b2n x.inp))
  have preset := leVal_putBytes t.data a 4 x.preset (leBytes 8 x.start.toNat)
    (leBytes 4 (b2n x.q + 2 * b2n x.run + 4 * b2n x.inp))
  have flags := byteAt_putBytes_number t.data a 3 (b2n x.q + 2 * b2n x.run + 4 * b2n x.inp)
    (leBytes 8 x.start.toNat ++ leBytes 4 x.preset) []
  have bytes : x.bytes = leBytes 8 x.start.toNat ++ (leBytes 4 x.preset ++
    leBytes 4 (b2n x.q + 2 * b2n x.run + 4 * b2n x.inp)) := List.append_assoc _ _ _
  rw [List.append_nil, List.append_assoc, ← bytes] at flags
  rw [List.nil_append, ← bytes] at start
  rw [← bytes] at preset
  simp only [List.length_nil, Nat.add_zero, List.length_append, leBytes_length] at start preset flags
  unfold timerAt dwordAt
  rw [h, start, preset, flags, show 256 ^ 8 = 2 ^ 64 from rfl, show 256 ^ 4 = 2 ^ 32 from rfl,
    Nat.mod_eq_of_lt x.start.isLt, Nat.mod_eq_of_lt hp, BitVec.ofNat_toNat, BitVec.setWidth_eq]
  have bits (q run inp : Bool) : (BitVec.ofNat 8 (b2n q + 2 * b2n run + 4 * b2n inp)).getLsbD 0 = q ∧
      (BitVec.ofNat 8 (b2n q + 2 * b2n run + 4 * b2n inp)).getLsbD 1 = run ∧
      (BitVec.ofNat 8 (b2n q + 2 * b2n run + 4 * b2n inp)).getLsbD 2 = inp := by revert q run inp; decide
  obtain ⟨q, run, inp⟩ := bits x.q x.run x.inp
  dsimp only
  rw [q, run, inp]

/-- What TON does (R64). -/
theorem timerOn_eq (x : TimerRec) (c : DWord) (b : Bool) : timerOn x c b =
    let st := if b && !x.run then c else x.start
    ⟨st, x.preset, b && decide (x.preset ≤ (c - st).toNat), b, b⟩ := by
  unfold timerOn TimerRec.elapsed
  cases b
  · rfl
  · cases h : x.run <;> simp [h]

/-- What TOF does (R64). -/
theorem timerOff_eq (x : TimerRec) (c : DWord) (b : Bool) : timerOff x c b =
    let st := if !b && x.inp then c else x.start
    let on := !b && (x.inp || x.run) && decide ((c - st).toNat < x.preset)
    ⟨st, x.preset, b || on || (!(x.inp || x.run) && x.q), on, b⟩ := by
  unfold timerOff TimerRec.elapsed
  cases b
  · cases hi : x.inp <;> cases hr : x.run <;> simp [hi, hr]
  · rfl

/-- What TP does (R64). -/
theorem timerPulse_eq (x : TimerRec) (c : DWord) (b : Bool) : timerPulse x c b =
    let go := b && !x.inp && !x.run
    let st := if go then c else x.start
    let on := (go || x.run) && decide ((c - st).toNat < x.preset)
    ⟨st, x.preset, on || (!(go || x.run) && x.q), on, b⟩ := by
  unfold timerPulse TimerRec.elapsed
  cases b
  · cases hr : x.run <;> simp [hr]
  · cases hi : x.inp <;> cases hr : x.run <;> simp [hi, hr]

/-! ## Counters -/

/-- The least and the greatest signed 32-bit number. -/
def Fits32 (v : Int) : Prop := -2147483648 ≤ v ∧ v ≤ 2147483647

/-- A signed 32-bit number read back. -/
theorem signed_ofInt {v : Int} (h : Fits32 v) : signed 32 ((BitVec.ofInt 32 v).toNat) = v := by
  obtain ⟨lo, hi⟩ := h
  have read : signed 32 (BitVec.ofInt 32 v).toNat = (BitVec.ofInt 32 v).toInt := by
    unfold signed
    rw [BitVec.toInt_eq_toNat_cond]
    split <;> split <;> omega
  rw [read, BitVec.toInt_ofInt, Int.bmod_eq_of_le (by norm_num; omega) (by norm_num; omega)]

/-- What four bytes read as. -/
theorem fits32_signed {n : Nat} (h : n < 2 ^ 32) : Fits32 (signed 32 n) := by
  unfold signed Fits32
  split <;> omega

/-- COUNT and PRESET of a record in memory are signed 32-bit numbers. -/
theorem counterAt_fits (t : TaskSt) (a : Nat) : Fits32 (counterAt t a).count ∧ Fits32 (counterAt t a).preset := by
  have c := leVal_lt (bytesAt t.data a 4)
  have p := leVal_lt (bytesAt t.data (a + 4) 4)
  rw [bytesAt_length] at c p
  unfold counterAt
  dsimp only
  exact ⟨fits32_signed c, fits32_signed p⟩

/-- A counter record that is written reads back. -/
theorem counterAt_written {t t' : TaskSt} {a : Nat} {x : CounterRec} (h : t'.data = putBytes t.data a x.bytes)
    (hc : Fits32 x.count) (hp : Fits32 x.preset) : counterAt t' a = x := by
  have count := leVal_putBytes t.data a 4 (BitVec.ofInt 32 x.count).toNat []
    (leBytes 4 (BitVec.ofInt 32 x.preset).toNat ++ (leBytes 4 (b2n x.inp) ++ leBytes 4 0))
  have preset := leVal_putBytes t.data a 4 (BitVec.ofInt 32 x.preset).toNat (leBytes 4 (BitVec.ofInt 32 x.count).toNat)
    (leBytes 4 (b2n x.inp) ++ leBytes 4 0)
  have flags := byteAt_putBytes_number t.data a 3 (b2n x.inp)
    (leBytes 4 (BitVec.ofInt 32 x.count).toNat ++ leBytes 4 (BitVec.ofInt 32 x.preset).toNat) (leBytes 4 0)
  have bytes : x.bytes = leBytes 4 (BitVec.ofInt 32 x.count).toNat ++ (leBytes 4 (BitVec.ofInt 32 x.preset).toNat ++
    (leBytes 4 (b2n x.inp) ++ leBytes 4 0)) := by
    unfold CounterRec.bytes
    rw [List.append_assoc, List.append_assoc]
  rw [List.append_assoc, ← bytes] at flags
  rw [List.nil_append, ← bytes] at count
  rw [← bytes] at preset
  simp only [List.length_nil, Nat.add_zero, List.length_append, leBytes_length] at count preset flags
  unfold counterAt
  rw [h, count, preset, flags, show 256 ^ 4 = 2 ^ 32 from rfl, Nat.mod_eq_of_lt (BitVec.ofInt 32 x.count).isLt,
    Nat.mod_eq_of_lt (BitVec.ofInt 32 x.preset).isLt, signed_ofInt hc, signed_ofInt hp]
  have bit (b : Bool) : (BitVec.ofNat 8 (b2n b)).getLsbD 0 = b := by revert b; decide
  rw [bit]

/-- A count saturates within 32 bits. -/
theorem fits32_count32 (v : Int) : Fits32 (count32 v) := by
  unfold count32 Fits32
  split
  · omega
  · split <;> omega

/-- Counting up holds at the greatest number. -/
theorem count32_up {v : Int} (h : Fits32 v) : count32 (v + 1) = min (v + 1) 2147483647 := by
  obtain ⟨lo, hi⟩ := h
  unfold count32
  rw [if_neg (by omega)]
  split <;> omega

/-- Counting down holds at the least number. -/
theorem count32_down {v : Int} (h : Fits32 v) : count32 (v + -1) = max (v - 1) (-2147483648) := by
  obtain ⟨lo, hi⟩ := h
  unfold count32
  split
  · omega
  · rw [if_neg (by omega)]
    omega

/-! ## Outcomes -/

section Outcomes

variable {s : State} {j : Nat} {up : Upset} {k : TaskRec} {i : Instr} {idx : Nat}

/-- A record reads the same wherever task data is the same. -/
theorem timerAt_congr {t t' : TaskSt} (h : t'.data = t.data) (a : Nat) : timerAt t' a = timerAt t a := by
  unfold timerAt
  rw [h]

theorem counterAt_congr {t t' : TaskSt} (h : t'.data = t.data) (a : Nat) : counterAt t' a = counterAt t a := by
  unfold counterAt
  rw [h]

/-- A timer has become `y`: BA shows Q and WA, after a push, the elapsed ticks up to PRESET while RUN (R64). -/
def Timed (s : State) (k : TaskRec) (idx : Nat) (y : TimerRec) (t : State) : Prop :=
  (t.task k.task).regs = { pushed (aidonRegs s k) (BitVec.ofNat 64
    (if y.run then min ((s.task k.task).cycle - y.start).toNat y.preset else 0)) (aidonRegs s k).bq
      with ba := y.q, pc := aidonPc s k 1 } ∧
  timerAt (t.task k.task) (idx * 8) = y

/-- A timer instruction on a record that can be read. -/
theorem exec_timer {f : TimerRec → DWord → Bool → TimerRec} {y : TimerRec} (hu : up.odd = [])
    (ha : recordAddr s k idx = .ok (idx * 8)) (hx : exec i s = .next (oneWord j up i 8 (timerInstr idx f) s))
    (hl : (codeOf i).length = 1)
    (hy : f (timerAt (s.task k.task) (idx * 8)) (s.task k.task).cycle (aidonRegs s k).ba = y)
    (hp : y.preset = (timerAt (s.task k.task) (idx * 8)).preset) (h : CoreRuns s j k i) :
    ∃ t, exec i s = .next t ∧ Timed s k idx y t := by
  obtain ⟨before, -, -, cycle, -⟩ := metContext_rest s j k 8 1
  obtain ⟨data, -⟩ := taskStore_spec (metContext s j k 8 1) (undoRoom (chargeTask s j k 8) k) (idx * 8) y.bytes
  have effect : timerInstr idx f (chargeTask s j k 8) k (metContext s j k 8 1) = .ok (chargeTask s j k 8,
      { taskStore (metContext s j k 8 1) (undoRoom (chargeTask s j k 8) k) (idx * 8) y.bytes with
        regs := pushWord { aidonRegs s k with pc := aidonPc s k 1, ba := y.q } (BitVec.ofNat 64
          (if y.run then min (y.elapsed (s.task k.task).cycle) y.preset else 0)) (aidonRegs s k).bq }) := by
    unfold timerInstr
    rw [chargeTask_recordAddr, ha]
    dsimp only
    rw [timerAt_congr before, cycle, metContext_regs]
    dsimp only
    rw [hy]
  refine ⟨_, exec_effect hu hx hl effect h, ?_, ?_⟩
  · rw [State.task_setTask, if_pos rfl, (struckTask_rest _ up).1]
    rfl
  · rw [State.task_setTask, if_pos rfl, timerAt_congr (struckTask_rest _ up).2.1]
    refine timerAt_written (t := metContext s j k 8 1) ?_ (by rw [hp]; exact timerAt_preset_lt _ _)
    dsimp only
    exact data

/-- A counter has become `y`: BA shows its test and WA, after a push, COUNT (R66). -/
def Counted (s : State) (k : TaskRec) (idx : Nat) (y : CounterRec) (b : Bool) (t : State) : Prop :=
  (t.task k.task).regs = { pushed (aidonRegs s k) (BitVec.ofInt 64 y.count) (aidonRegs s k).bq
    with ba := b, pc := aidonPc s k 1 } ∧
  counterAt (t.task k.task) (idx * 8) = y

/-- CTU and CTD on a record that can be read: `n` is the count that a rising BA gives. -/
theorem exec_count {d n : Int} {test : CounterRec → Bool} {x y : CounterRec} (hu : up.odd = [])
    (ha : recordAddr s k idx = .ok (idx * 8)) (hx : exec i s = .next (oneWord j up i 6 (countInstr idx d test) s))
    (hl : (codeOf i).length = 1) (hr : counterAt (s.task k.task) (idx * 8) = x) (hn : count32 (x.count + d) = n)
    (hy : ⟨if (aidonRegs s k).ba && !x.inp then n else x.count, x.preset, (aidonRegs s k).ba⟩ = y)
    (h : CoreRuns s j k i) : ∃ t, exec i s = .next t ∧ Counted s k idx y (test y) t := by
  obtain ⟨before, -⟩ := metContext_rest s j k 6 1
  obtain ⟨count, preset⟩ := counterAt_fits (s.task k.task) (idx * 8)
  rw [hr] at count preset
  have fits : Fits32 y.count ∧ Fits32 y.preset := by
    subst hy hn
    dsimp only
    refine ⟨?_, preset⟩
    split
    · exact fits32_count32 _
    · exact count
  obtain ⟨data, -⟩ := taskStore_spec (metContext s j k 6 1) (undoRoom (chargeTask s j k 6) k) (idx * 8) y.bytes
  have effect : countInstr idx d test (chargeTask s j k 6) k (metContext s j k 6 1) = .ok (chargeTask s j k 6,
      { taskStore (metContext s j k 6 1) (undoRoom (chargeTask s j k 6) k) (idx * 8) y.bytes with
        regs := pushWord { aidonRegs s k with pc := aidonPc s k 1, ba := test y } (BitVec.ofInt 64 y.count)
          (aidonRegs s k).bq }) := by
    unfold countInstr
    rw [chargeTask_recordAddr, ha]
    dsimp only
    rw [counterAt_congr before, hr, metContext_regs, hn]
    dsimp only
    rw [hy, ← congrArg CounterRec.count hy]
  refine ⟨_, exec_effect hu hx hl effect h, ?_, ?_⟩
  · rw [State.task_setTask, if_pos rfl, (struckTask_rest _ up).1]
    rfl
  · rw [State.task_setTask, if_pos rfl, counterAt_congr (struckTask_rest _ up).2.1]
    refine counterAt_written (t := metContext s j k 6 1) ?_ fits.1 fits.2
    dsimp only
    exact data

/-- CRST and CLD on a record that can be read: COUNT takes what `f` gives where BA is 1, and the registers stay. -/
theorem exec_countLoad {f : CounterRec → Int} {x : CounterRec} (hu : up.odd = [])
    (ha : recordAddr s k idx = .ok (idx * 8)) (hx : exec i s = .next (oneWord j up i 4 (countLoad idx f) s))
    (hl : (codeOf i).length = 1) (hy : counterAt (s.task k.task) (idx * 8) = x) (fits : Fits32 (f x))
    (h : CoreRuns s j k i) :
    ∃ t, exec i s = .next t ∧ (t.task k.task).regs = { aidonRegs s k with pc := aidonPc s k 1 } ∧
      counterAt (t.task k.task) (idx * 8) = ⟨if (aidonRegs s k).ba then f x else x.count, x.preset, x.inp⟩ := by
  obtain ⟨before, -⟩ := metContext_rest s j k 4 1
  obtain ⟨-, preset⟩ := counterAt_fits (s.task k.task) (idx * 8)
  rw [hy] at preset
  rcases Bool.eq_false_or_eq_true (aidonRegs s k).ba with hb | hb
  · obtain ⟨data, -⟩ := taskStore_spec (metContext s j k 4 1) (undoRoom (chargeTask s j k 4) k) (idx * 8)
      ({ x with count := f x } : CounterRec).bytes
    have effect : countLoad idx f (chargeTask s j k 4) k (metContext s j k 4 1) = .ok (chargeTask s j k 4,
        { taskStore (metContext s j k 4 1) (undoRoom (chargeTask s j k 4) k) (idx * 8)
          ({ x with count := f x } : CounterRec).bytes with regs := (metContext s j k 4 1).regs }) := by
      unfold countLoad
      rw [chargeTask_recordAddr, ha]
      dsimp only
      rw [counterAt_congr before, hy]
      exact if_pos hb
    refine ⟨_, exec_effect hu hx hl effect h, ?_, ?_⟩
    · rw [State.task_setTask, if_pos rfl, (struckTask_rest _ up).1, metContext_regs]
    · rw [State.task_setTask, if_pos rfl, counterAt_congr (struckTask_rest _ up).2.1, if_pos hb]
      refine counterAt_written (t := metContext s j k 4 1) (x := { x with count := f x }) ?_ ?_ ?_
      · dsimp only
        exact data
      · exact fits
      · dsimp only
        exact preset
  · have effect : countLoad idx f (chargeTask s j k 4) k (metContext s j k 4 1) =
        .ok (chargeTask s j k 4, metContext s j k 4 1) := by
      unfold countLoad
      rw [chargeTask_recordAddr, ha]
      exact if_neg (fun hc => Bool.false_ne_true (hb.symm.trans hc))
    refine ⟨_, exec_effect hu hx hl effect h, ?_, ?_⟩
    · rw [State.task_setTask, if_pos rfl, (struckTask_rest _ up).1, metContext_regs]
    · rw [State.task_setTask, if_pos rfl, counterAt_congr ((struckTask_rest _ up).2.1.trans before), hy, hb]
      rfl

/-- The state of an edge bit of a task. -/
def edgeBit (s : State) (k : TaskRec) (i : Nat) : Bool := (byteAt (s.task k.task).edges (i / 8)).getLsbD (i % 8)

/-- An edge instruction on a bit that can be read (R61). -/
theorem exec_edge {e : Nat} {f : Bool → Bool → Bool} (hu : up.odd = []) (hb : s.isBad (.edge k.task (e / 64)) = false)
    (hx : exec i s = .next (oneWord j up i 3 (edgeInstr e f) s)) (hl : (codeOf i).length = 1) (h : CoreRuns s j k i) :
    ∃ t, exec i s = .next t ∧
      (t.task k.task).regs = { aidonRegs s k with ba := f (aidonRegs s k).ba (edgeBit s k e), pc := aidonPc s k 1 } ∧
      ∀ i, edgeBit t k i = if i = e then (aidonRegs s k).ba else edgeBit s k i := by
  obtain ⟨-, edges, -⟩ := metContext_rest s j k 3 1
  obtain ⟨-, -, -, -, -, -, bad⟩ := chargeTask_rest s j k 3
  have effect : ∃ t', edgeInstr e f (chargeTask s j k 3) k (metContext s j k 3 1) = .ok (chargeTask s j k 3, t') ∧
      t'.regs = { aidonRegs s k with ba := f (aidonRegs s k).ba (edgeBit s k e), pc := aidonPc s k 1 } ∧
      t'.edges = putByte (s.task k.task).edges (e / 8) (if (aidonRegs s k).ba then
        byteAt (s.task k.task).edges (e / 8) ||| BitVec.ofNat 8 (2 ^ (e % 8))
        else byteAt (s.task k.task).edges (e / 8) &&& ~~~BitVec.ofNat 8 (2 ^ (e % 8))) := by
    unfold edgeInstr edgeUpdate
    rw [bad, hb, if_neg Bool.false_ne_true, edges]
    exact ⟨_, rfl, rfl, rfl⟩
  obtain ⟨t', done, regs, written⟩ := effect
  refine ⟨_, exec_effect hu hx hl done h, ?_, fun i => ?_⟩
  · rw [State.task_setTask, if_pos rfl, (struckTask_rest _ up).1, regs]
  · unfold edgeBit
    rw [State.task_setTask, if_pos rfl, (struckTask_rest _ up).2.2.1, written]
    exact bit_putByte _ _ _ _

end Outcomes

end Sys2Proof.Machine
end

section
/-! Edges, timers and counters: the statement of O9. -/

namespace Sys2Proof.Machine

open Sys2Proof

/-- Settles O9: the record that an instruction writes reads back, and its function is said case by case. -/
theorem edgesTimersCounters : Obligations.EdgesTimersCounters := by
  unfold Obligations.EdgesTimersCounters
  refine ⟨fun s j k up e hu hb => ?_, fun s j k up idx hu ha => ?_, fun s j k up idx hu ha => ?_⟩
  · intro r edge judged
    exact ⟨exec_edge (f := fun b old => b && !old) hu hb rfl rfl, exec_edge (f := fun b old => !b && old) hu hb rfl rfl⟩
  · intro r c x timed starts
    refine ⟨fun h => ?ton, fun h => ?tof, fun h => ?tp⟩
    case ton =>
      have done := exec_timer hu ha rfl rfl (timerOn_eq _ _ _) rfl h
      exact done
    case tof =>
      have done := exec_timer hu ha rfl rfl (timerOff_eq _ _ _) rfl h
      exact done
    case tp =>
      have done := exec_timer hu ha rfl rfl (timerPulse_eq _ _ _) rfl h
      exact done
  · dsimp only
    obtain ⟨count, preset⟩ := counterAt_fits (s.task k.task) (idx * 8)
    generalize hr : counterAt (s.task k.task) (idx * 8) = x at count preset ⊢
    refine ⟨fun h => ?ctu, fun h => ?ctd, fun h => ?crst, fun h => ?cld⟩
    case ctu => exact exec_count (test := fun x => decide (x.preset ≤ x.count)) hu ha rfl rfl hr (count32_up count) rfl h
    case ctd => exact exec_count (test := fun x => decide (x.count ≤ 0)) hu ha rfl rfl hr (count32_down count) rfl h
    case crst => exact exec_countLoad (f := fun _ => 0) hu ha rfl rfl hr (by unfold Fits32; omega) h
    case cld => exact exec_countLoad (f := fun x => x.preset) hu ha rfl rfl hr preset h

end Sys2Proof.Machine
end

section
/-! SUPPORT. What a task fault leaves (R69): the task stopped, the registers that show the fault, everything else as before. -/

namespace Sys2Proof.Machine

open Sys2Proof

/-! ## Registers of items -/

/-- Items' copies of two registers are two registers. -/
theorem itemKey_apart {a b : Nat} (i j : Nat) (ha : a < 0x1000000) (hb : b < 0x1000000) (h : a ≠ b) :
    itemKey a i ≠ itemKey b j :=
  ne_itemKey j hb (by rwa [itemKey_mod i ha])

/-- The high word of an item's pair is the item's copy of the high word. -/
theorem itemKey_high (a i : Nat) : itemKey a i + 4 = itemKey (a + 4) i := Nat.add_assoc _ _ _

/-- A pair of an item's registers set leaves every other register. -/
theorem State.reg_setDword_item {a b i : Nat} (s : State) (v : DWord) (lo : a ≠ itemKey b i)
    (hi : a ≠ itemKey (b + 4) i) : (s.setDword (itemKey b i) v).reg a = s.reg a :=
  State.reg_setDword_other s v lo (by rwa [itemKey_high])

/-- A field reads the same where its register does. -/
theorem State.fld_of_reg {s t : State} {f : Fld} (h : t.reg f.reg = s.reg f.reg) : t.fld f = s.fld f := by
  unfold State.fld
  rw [h]

/-- A bit that is set. -/
theorem bit_or_two_pow (w : Word) {i : Nat} (h : i < 32) : bit (w ||| BitVec.ofNat 32 (2 ^ i)) i = true := by
  unfold bit
  rw [BitVec.getLsbD_or, BitVec.getLsbD_ofNat, Nat.testBit_two_pow_self]
  simp [h]

/-! ## The next work -/

/-- The next work of a core has not reached its end. -/
theorem not_ended_of_nextTask {s : State} {j : Nat} {k : TaskRec} (h : nextTask s j = some k) :
    (s.task k.task).ended = false := by
  unfold nextTask at h
  obtain ⟨ks, -, hk⟩ := List.exists_of_findSome?_eq_some h
  simpa using List.find?_some hk

/-- A task that has reached its end is left by a core that takes its next work. -/
theorem dispatchCore_ended {s : State} {n : Nat} (j : Nat) (h : (s.task n).ended = true) :
    (dispatchCore s j).task n = s.task n := by
  unfold dispatchCore
  split
  · split
    · rfl
    · next k hk =>
      have other : n ≠ k.task := by
        rintro rfl
        exact Bool.false_ne_true ((not_ended_of_nextTask hk).symm.trans h)
      dsimp only
      split
      · rfl
      · exact (State.task_setTask _ _ _ _).trans (if_neg other)
  · rfl

/-- A core that takes its next work writes no register. -/
@[simp] theorem regs_dispatchCore (s : State) (j : Nat) : (dispatchCore s j).regs = s.regs := by
  unfold dispatchCore
  split
  · split
    · rfl
    · dsimp only
      split <;> rfl
  · rfl

@[simp] theorem reg_dispatchCore (s : State) (j a : Nat) : (dispatchCore s j).reg a = s.reg a := by
  unfold State.reg
  rw [regs_dispatchCore]

/-! ## The fault -/

section Fault

variable (s : State) (j : Nat) (k : TaskRec) (pc : Nat) (f : AFault) (cycle : DWord)

/-- The records of a fault write no register but the task's. -/
theorem reg_recordFault_other {a : Nat} (task : a ≠ itemKey A.CORE_TASK_STATE k.task) :
    (recordFault s j k pc f cycle).reg a = s.reg a := by
  unfold recordFault
  dsimp only
  split
  · exact State.reg_setFld_other _ _ task
  · rfl

/-- The core's bit in CORE_FAULT_SUM. -/
theorem sum_showFault : (showFault s j k pc f cycle).reg A.CORE_FAULT_SUM =
    s.reg A.CORE_FAULT_SUM ||| BitVec.ofNat 32 (2 ^ j) := by
  have item (b i : Nat) (hb : b < 0x1000000) (h : A.CORE_FAULT_SUM ≠ b) : A.CORE_FAULT_SUM ≠ itemKey b i :=
    ne_itemKey_of_low i (by decide) hb h
  unfold showFault
  dsimp only
  rw [State.reg_count_other _ _ (item _ _ (by decide) (by decide)), State.reg_count_other _ _ (item _ _ (by decide) (by decide)),
    State.reg_setDword_item _ _ (item _ _ (by decide) (by decide)) (item _ _ (by decide) (by decide)),
    State.reg_setFld_other _ _ (item _ _ (by decide) (by decide)), State.reg_setFld_other _ _ (item _ _ (by decide) (by decide)),
    State.reg_setFld_other _ _ (item _ _ (by decide) (by decide)), State.reg_setFld_other _ _ (item _ _ (by decide) (by decide)),
    State.reg_setReg_same]

/-- CORE_FAULT_INFO names the kind, the class and the task. -/
theorem info_showFault : let t := showFault s j k pc f cycle
    t.fld (F.CORE_FAULT_INFO.KIND.item j) = f.code ∧ t.fld (F.CORE_FAULT_INFO.CLASS.item j) = k.cls % 8 ∧
    t.fld (F.CORE_FAULT_INFO.TASK.item j) = k.task % 1024 := by
  have apart (b i : Nat) (hb : b < 0x1000000) (h : A.CORE_FAULT_INFO ≠ b) : itemKey A.CORE_FAULT_INFO j ≠ itemKey b i :=
    itemKey_apart j i (by decide) hb h
  have shown (g : Fld) (hg : g.reg = itemKey A.CORE_FAULT_INFO j) : (showFault s j k pc f cycle).fld g =
      ((((s.setReg A.CORE_FAULT_SUM (s.reg A.CORE_FAULT_SUM ||| BitVec.ofNat 32 (2 ^ j))).setFld
        (F.CORE_FAULT_INFO.KIND.item j) f.code).setFld (F.CORE_FAULT_INFO.CLASS.item j) k.cls).setFld
        (F.CORE_FAULT_INFO.TASK.item j) k.task).fld g := by
    refine State.fld_of_reg ?_
    rw [hg]
    unfold showFault
    dsimp only
    rw [State.reg_count_other _ _ (apart _ _ (by decide) (by decide)),
      State.reg_count_other _ _ (apart _ _ (by decide) (by decide)),
      State.reg_setDword_item _ _ (apart _ _ (by decide) (by decide)) (apart _ _ (by decide) (by decide)),
      State.reg_setFld_other _ _ (apart _ _ (by decide) (by decide))]
  have code : f.code < 256 := by cases f <;> simp [AFault.code]
  refine ⟨?_, ?_, ?_⟩
  · rw [shown _ rfl, State.fld_setFld_other _ _ _ _ (.inr (.inr (show 9 < 24 by decide))),
      State.fld_setFld_other _ _ _ _ (.inr (.inr (show 22 < 24 by decide))),
      State.fld_setFld_same _ _ _ (show 31 < 32 by decide)]
    exact Nat.mod_eq_of_lt code
  · rw [shown _ rfl, State.fld_setFld_other _ _ _ _ (.inr (.inr (show 9 < 20 by decide))),
      State.fld_setFld_same _ _ _ (show 22 < 32 by decide)]
    rfl
  · rw [shown _ rfl, State.fld_setFld_same _ _ _ (show 9 < 32 by decide)]
    rfl

/-- CORE_FAULT_PC names the instruction. -/
theorem pc_showFault : (showFault s j k pc f cycle).fld (F.CORE_FAULT_PC.PC.item j) = pc % 2 ^ 18 := by
  have apart (b i : Nat) (hb : b < 0x1000000) (h : A.CORE_FAULT_PC ≠ b) : itemKey A.CORE_FAULT_PC j ≠ itemKey b i :=
    itemKey_apart j i (by decide) hb h
  unfold showFault
  dsimp only
  rw [State.fld_of_reg (State.reg_count_other _ _ (apart _ _ (by decide) (by decide))),
    State.fld_of_reg (State.reg_count_other _ _ (apart _ _ (by decide) (by decide))),
    State.fld_of_reg (State.reg_setDword_item _ _ (apart _ _ (by decide) (by decide))
      (apart _ _ (by decide) (by decide))), State.fld_setFld_same _ _ _ (show 17 < 32 by decide)]
  rfl

end Fault

/-- What a task fault at `pc` leaves of the task and shows in the core's registers (R69). -/
structure Faulted (j : Nat) (k : TaskRec) (pc : Nat) (f : AFault) (t : State) : Prop where
  active : (t.task k.task).active = false
  ended : (t.task k.task).ended = true
  staging : (t.task k.task).staging = []
  sum : bit (t.reg A.CORE_FAULT_SUM) j = true
  kind : t.fld (F.CORE_FAULT_INFO.KIND.item j) = f.code
  cls : t.fld (F.CORE_FAULT_INFO.CLASS.item j) = k.cls % 8
  task : t.fld (F.CORE_FAULT_INFO.TASK.item j) = k.task % 1024
  pc : t.fld (F.CORE_FAULT_PC.PC.item j) = pc % 2 ^ 18

/-- The records of a fault leave the registers that show it. -/
theorem fld_recordFault_other (s : State) (j : Nat) (k : TaskRec) (pc : Nat) (f : AFault) (cycle : DWord) (g : Fld)
    (h : g.reg ≠ itemKey A.CORE_TASK_STATE k.task) : (recordFault s j k pc f cycle).fld g = s.fld g :=
  State.fld_of_reg (reg_recordFault_other s j k pc f cycle h)

/-- What shows a fault leaves the contexts of the tasks. -/
theorem tasks_showFault (s : State) (j : Nat) (k : TaskRec) (pc : Nat) (f : AFault) (cycle : DWord) :
    (showFault s j k pc f cycle).tasks = s.tasks := rfl

/-- The records of a fault leave the contexts of the tasks. -/
theorem tasks_recordFault (s : State) (j : Nat) (k : TaskRec) (pc : Nat) (f : AFault) (cycle : DWord) :
    (recordFault s j k pc f cycle).tasks = s.tasks := by
  unfold recordFault
  dsimp only
  split <;> rfl

/-- A task fault stops the task and shows itself. -/
theorem taskFault_faulted (s : State) (j : Nat) (k : TaskRec) (pc : Nat) (f : AFault) (hj : j < 32) :
    Faulted j k pc f (taskFault s j k pc f) := by
  rw [taskFault_eq]
  generalize s.task k.task = x
  generalize faultNotes s j f = u
  obtain ⟨kind, cls, task⟩ := info_showFault (stopFaulted u k x) j k pc f x.cycle
  have place := pc_showFault (stopFaulted u k x) j k pc f x.cycle
  have sum := sum_showFault (stopFaulted u k x) j k pc f x.cycle
  have tasks := tasks_showFault (stopFaulted u k x) j k pc f x.cycle
  generalize showFault (stopFaulted u k x) j k pc f x.cycle = v at kind cls task place sum tasks
  have stopped : (recordFault v j k pc f x.cycle).task k.task = (stopFaulted u k x).task k.task := by
    unfold State.task
    rw [tasks_recordFault, tasks]
  have context : (stopFaulted u k x).task k.task = { x with
      active := false, ended := true, staging := [], undo := [], undoFull := false, retry := false, first := false } :=
    (State.task_setTask _ _ _ _).trans (if_pos rfl)
  have final := (dispatchCore_ended j (by rw [stopped, context])).trans (stopped.trans context)
  have apart (b i : Nat) (hb : b < 0x1000000) (h : b ≠ A.CORE_TASK_STATE) :
      itemKey b i ≠ itemKey A.CORE_TASK_STATE k.task := itemKey_apart i k.task hb (by decide) h
  have shown (g : Fld) (h : g.reg ≠ itemKey A.CORE_TASK_STATE k.task) :
      (dispatchCore (recordFault v j k pc f x.cycle) j).fld g = v.fld g :=
    (State.fld_of_reg (reg_dispatchCore _ j _)).trans (fld_recordFault_other v j k pc f x.cycle g h)
  refine ⟨by rw [final], by rw [final], by rw [final], ?_, (shown _ (apart _ _ (by decide) (by decide))).trans kind,
    (shown _ (apart _ _ (by decide) (by decide))).trans cls, (shown _ (apart _ _ (by decide) (by decide))).trans task,
    (shown _ (apart _ _ (by decide) (by decide))).trans place⟩
  rw [reg_dispatchCore, reg_recordFault_other v j k pc f x.cycle (ne_itemKey_of_low _ (by decide) (by decide) (by decide)),
    sum]
  exact bit_or_two_pow _ hj

end Sys2Proof.Machine
end

section
/-! The faults of an instruction: the statement of O10. -/

namespace Sys2Proof.Machine

open Sys2Proof

/-- An instruction whose effect is a fault ends in that fault, its cycles charged. -/
theorem exec_faults {s : State} {j : Nat} {k : TaskRec} {up : Upset} {i : Instr} {cost n : Nat} {fx : AEffect}
    {f : AFault} (ha : MembersAgree s j k up) (hx : exec i s = .next (runInstr j up i (fun _ => cost) fx s))
    (hl : (codeOf i).length = n) (hf : fx (chargeTask s j k cost) k (metContext s j k cost n) = .error f)
    (h : CoreRuns s j k i) :
    exec i s = .next (taskFault (chargeTask s j k cost) j k (aidonRegs s k).pc.toNat f) := by
  subst hl
  rw [hx, runInstr_error h ha hf]

/-- A place that is fetched is one of the code area's. -/
theorem pc_of_fetch {s : State} {j pc : Nat} (h : fetchFault s j pc 1 = none) : pc < lastPc := by
  unfold fetchFault at h
  have h := List.findSome?_eq_none_iff.mp h 0 (by simp)
  split at h
  · cases h
  · split at h
    · cases h
    · omega

/-- An undefined opcode is an instruction whose effect is ILLEGAL. -/
theorem exec_undefinedOpcode {w : Word} (h : undefinedWord w = true) (s : State) (j : Nat) (up : Upset) :
    exec (.undefinedOpcode j up w) s = .next (runInstr j up (.undefinedOpcode j up w)
      (fun t => (opCost (w.toNat / 2 ^ 24) t.staging.length).getD 1) (fun _ _ _ => .error .illegal) s) :=
  congrArg Host.Outcome.next (if_pos h)

/-! ## Checkpoints -/

/-- The state at which the members of a core are compared at a checkpoint: 24 cycles and one for each staged slot are
charged, and PC stands at the next instruction. -/
def checkState (s : State) (j : Nat) (k : TaskRec) : State :=
  (chargeTask s j k (24 + (s.task k.task).staging.length)).setTask k.task
    (metContext s j k (24 + (s.task k.task).staging.length) 1)

/-- What follows a comparison at a checkpoint. -/
def checkDone (s : State) (j : Nat) (k : TaskRec) (isEnd : Bool) (t : State) : State :=
  match (if isEnd then endFault (aidonRegs s k) else none) with
  | some f => taskFault t j k (aidonRegs s k).pc.toNat f
  | none => passCheckpoint t j k isEnd

/-- A checkpoint that is fetched compares the members. -/
theorem runCheckpoint_compares {s : State} {j : Nat} {k : TaskRec} {i : Instr} (up : Upset) (isEnd : Bool)
    (hl : (codeOf i).length = 1) (h : CoreRuns s j k i) :
    runCheckpoint j up i isEnd s = compareMembers (checkState s j k) j k up (checkDone s j k isEnd) := by
  obtain ⟨current, fetch, words⟩ := h
  rw [hl] at fetch
  unfold runCheckpoint checkState metContext aidonPc
  rw [current]
  dsimp only
  rw [if_pos words, fetch]
  dsimp only
  rw [chargeTask_regs]
  rfl

/-- A context set shows the members what it holds of their signatures. -/
theorem membersAgree_checkState {s : State} {j : Nat} {k : TaskRec} {up : Upset} (h : MembersAgree s j k up) :
    MembersAgree (checkState s j k) j k up := by
  have syn : ((checkState s j k).task k.task).syn = (s.task k.task).syn := by
    unfold checkState
    rw [State.task_setTask, if_pos rfl]
    exact chargeTask_syn _ _ _ _
  have members : members (checkState s j k) j = members s j := chargeTask_members s j k _
  unfold MembersAgree
  rw [syn, members]
  exact h

/-- A checkpoint where the members agree. -/
theorem runCheckpoint_agree {s : State} {j : Nat} {k : TaskRec} {i : Instr} {up : Upset} (isEnd : Bool)
    (ha : MembersAgree s j k up) (hl : (codeOf i).length = 1) (h : CoreRuns s j k i) :
    runCheckpoint j up i isEnd s = checkDone s j k isEnd (checkState s j k) := by
  rw [runCheckpoint_compares up isEnd hl h, compareMembers_agree (membersAgree_checkState ha)]

/-- The state of a checkpoint differs from the one before in what an instruction may change. -/
theorem AidonFrame.checkState {s : State} {j : Nat} {k : TaskRec} (hk : k ∈ coreTasks s j) :
    AidonFrame j s (checkState s j k) := by
  have charged := AidonFrame.charge hk (24 + (s.task k.task).staging.length)
  exact charged.trans (.setTask (by rwa [coreTasks_congr (by rw [charged.1])]) _)

/-- END with a stack that is not empty faults. -/
theorem exec_endTask_faults {s : State} {j : Nat} {k : TaskRec} {up : Upset} {f : AFault} (ha : MembersAgree s j k up)
    (hf : endFault (aidonRegs s k) = some f) (h : CoreRuns s j k (.endTask j up)) :
    exec (.endTask j up) s = .next (taskFault (checkState s j k) j k (aidonRegs s k).pc.toNat f) := by
  refine congrArg Host.Outcome.next ((runCheckpoint_agree true ha rfl h).trans ?_)
  unfold checkDone
  rw [if_pos rfl, hf]

/-! ## Operands that fault -/

section Operands

variable {s : State} {k : TaskRec} {t : TaskSt} {space idx : Nat} {e : AFault}

theorem storeBit_error (h : storeCheck s k space idx (idx / 8 + 1) = .error e) (b : Bool) (q : Quality) :
    storeBit s k t space idx b q = .error e := by
  unfold storeBit
  rw [h]

theorem storeWord_error (h : storeCheck s k space idx (idx * 8 + 8) = .error e) (v : DWord) (q : Quality) :
    storeWord s k t space idx v q = .error e := by
  unfold storeWord
  rw [h]

/-- S and RST judge their operand whatever BA holds. -/
theorem setBitIf_error (h : storeCheck s k space idx (idx / 8 + 1) = .error e) (v : Bool) :
    setBitIf space idx v s k t = .error e := by
  unfold setBitIf
  rw [h]
  split
  · exact storeBit_error h _ _
  · rfl

theorem loadWord_error (h : wordOperand s k t space idx = .error e) : loadWord space idx s k t = .error e := by
  unfold loadWord
  rw [h]

theorem timerInstr_error (h : recordAddr s k idx = .error e) (f : TimerRec → DWord → Bool → TimerRec) :
    timerInstr idx f s k t = .error e := by
  unfold timerInstr
  rw [h]

theorem countInstr_error (h : recordAddr s k idx = .error e) (d : Int) (test : CounterRec → Bool) :
    countInstr idx d test s k t = .error e := by
  unfold countInstr
  rw [h]

theorem recordAddr_odd (s : State) (k : TaskRec) (h : idx % 2 = 1) : recordAddr s k idx = .error .align := if_pos h

/-- A slot beyond the output area is RANGE for a store and for a load. -/
theorem storeCheck_out_range (h : spaceSize s k 1 ≤ idx) (e : Nat) : storeCheck s k 1 idx e = .error .range :=
  if_pos h

theorem wordOperand_out_range (h : spaceSize s k 1 ≤ idx) : wordOperand s k t 1 idx = .error .range := by
  unfold wordOperand slotOperand
  rw [if_neg (by decide), if_pos (by decide), if_pos h]

/-- A place beyond the task's data is RANGE for a store and for a load. -/
theorem storeCheck_data_range {e : Nat} (h : k.dataSize < e) : storeCheck s k 2 idx e = .error .range := if_pos h

theorem wordOperand_data_range (h : k.dataSize < idx * 8 + 8) : wordOperand s k t 2 idx = .error .range := if_pos h

theorem indexCheck_input {ext : Word} (h : 0 < ext.toNat) (h' : ext.toNat ≤ 4194304) :
    indexCheck t 0 ext true = .error .writeIn := if_neg (by omega)

theorem indexCheck_beyond {ext : Word} (h : 0 < ext.toNat) (h' : ext.toNat ≤ 4194304)
    (hi : ext.toNat ≤ t.regs.ix.toNat) : indexCheck t 2 ext false = .error .index :=
  (if_neg (by omega)).trans ((if_neg Bool.false_ne_true).trans (if_pos hi))

end Operands

theorem jumpIf_back {off : BitVec 24} (h : off.toInt < 0) (s : State) (k : TaskRec) (t : TaskSt) :
    jumpIf true off s k t = .error .backjump := by
  unfold jumpIf jumpTo jumpOff
  rw [if_pos rfl, if_pos h]
  rfl

theorem sysRegister_unknown {n : Nat} (h : 0x0B < n) (s : State) (k : TaskRec) (t : TaskSt) :
    sysRegister s k t n = none := by
  unfold sysRegister
  split
  case h_13 => rfl
  all_goals omega

/-- Settles O10: every clause is the fault that its effect ends in, and a fault shows itself. -/
theorem instructionsFault : Obligations.InstructionsFault := by
  unfold Obligations.InstructionsFault
  refine ⟨fun s j k up w hw hr ha hj hc ht => ?_, fun s j k up ha => ?_⟩
  · have hk := mem_coreTasks_of_currentTask hr.1
    have hpc : (aidonRegs s k).pc.toNat < 2 ^ 18 := pc_of_fetch hr.2.1
    refine ⟨_, (exec_undefinedOpcode hw s j up).trans (congrArg _ (runInstr_error hr ha rfl)), ?_⟩
    generalize (opCost (w.toNat / 2 ^ 24) (s.task k.task).staging.length).getD 1 = cost
    have frame := (AidonFrame.charge hk cost).taskFaults hk (aidonRegs s k).pc.toNat .illegal
    obtain ⟨active, ended, staging, sum, kind, cls, task, place⟩ :=
      taskFault_faulted (chargeTask s j k cost) j k (aidonRegs s k).pc.toNat .illegal (by omega)
    exact ⟨active, ended, staging, sum, kind, cls.trans (Nat.mod_eq_of_lt hc), task.trans (Nat.mod_eq_of_lt ht),
      place.trans (Nat.mod_eq_of_lt hpc), by rw [frame.1], by rw [frame.1]⟩
  · intro r faults ends
    have ending (f : AFault) (hf : endFault r = some f) : ends f := by
      intro hr hj
      have hk := mem_coreTasks_of_currentTask hr.1
      have frame := (AidonFrame.checkState hk).taskFaults hk (aidonRegs s k).pc.toNat f
      have shown := taskFault_faulted (checkState s j k) j k (aidonRegs s k).pc.toNat f (by omega)
      exact ⟨_, exec_endTask_faults ha hf hr, shown.active, shown.ended, shown.staging, shown.sum, shown.kind,
        by rw [frame.1], by rw [frame.1], by rw [frame.1]⟩
    refine ⟨fun off ho => ⟨?jmp, fun h => ?jt, fun h => ?jf, fun h => ?lpx⟩, fun h => ?nest, fun h => ending _ (if_pos h),
      fun hn hl => ending _ ?endLoop, fun hn hl hc => ending _ ?endCall, fun idx => ?writeIn, fun h => ?pop,
      fun h off => ?call, fun h => ?ret, ?lpb0, fun h => ?lpb, fun h => ⟨?lpe, fun off => ?lpxEmpty⟩, fun idx => ?space,
      fun idx h => ?slots, fun idx h => ?data, fun idx h => ?records, fun n h => ?system, fun ext h1 h2 h3 idx => ?index⟩
    case jmp => exact exec_faults ha rfl rfl (jumpIf_back ho _ _ _)
    case jt =>
      refine exec_faults ha rfl rfl ?_
      rw [metContext_regs, show (aidonRegs s k).ba = true from h, jumpIf_back ho]
    case jf =>
      refine exec_faults ha rfl rfl ?_
      rw [metContext_regs, show (aidonRegs s k).ba = false from h]
      exact jumpIf_back ho _ _ _
    case lpx =>
      obtain ⟨l, ls, hl⟩ := List.exists_cons_of_ne_nil h
      refine exec_faults ha rfl rfl ?_
      rw [metContext_regs, show (aidonRegs s k).loops = l :: ls from hl]
      exact jumpIf_back ho _ _ _
    case nest =>
      refine ⟨?_, ?_, ?_, ?_, ?_⟩ <;> exact exec_faults ha rfl rfl (if_pos h)
    case endLoop =>
      unfold endFault
      rw [if_neg (not_not.mpr hn), if_pos hl]
    case endCall =>
      unfold endFault
      rw [if_neg (not_not.mpr hn), if_neg (not_not.mpr hl), if_pos hc]
    case writeIn =>
      refine ⟨exec_faults ha rfl rfl (storeBit_error rfl _ _), exec_faults ha rfl rfl (storeBit_error rfl _ _),
        exec_faults ha rfl rfl (setBitIf_error rfl _), exec_faults ha rfl rfl (setBitIf_error rfl _), fun ext h1 h2 => ?_⟩
      refine exec_faults ha rfl rfl ?_
      rw [indexCheck_input h1 h2]
    case pop =>
      refine exec_faults ha rfl rfl ?_
      rw [metContext_regs, show (aidonRegs s k).nest = [] from h]
    case call => exact exec_faults ha rfl rfl (if_pos h)
    case ret =>
      refine exec_faults ha rfl rfl ?_
      rw [metContext_regs, show (aidonRegs s k).calls = [] from h]
    case lpb0 => exact exec_faults ha rfl rfl (if_pos rfl)
    case lpb => exact exec_faults ha rfl rfl ((if_neg (by decide)).trans (if_pos h))
    case lpe =>
      refine exec_faults ha rfl rfl ?_
      rw [metContext_regs, show (aidonRegs s k).loops = [] from h]
    case lpxEmpty =>
      refine exec_faults ha rfl rfl ?_
      rw [metContext_regs, show (aidonRegs s k).loops = [] from h]
    case space =>
      exact ⟨exec_faults ha rfl rfl (storeWord_error rfl _ _), exec_faults ha rfl rfl (storeWord_error rfl _ _),
        exec_faults ha rfl rfl (loadWord_error rfl)⟩
    case slots =>
      have beyond (cost : Nat) : spaceSize (chargeTask s j k cost) k 1 ≤ idx := by rwa [chargeTask_spaceSize]
      exact ⟨exec_faults ha rfl rfl (storeWord_error (storeCheck_out_range (beyond _) _) _ _),
        exec_faults ha rfl rfl (loadWord_error (wordOperand_out_range (beyond _)))⟩
    case data =>
      exact ⟨exec_faults ha rfl rfl (storeWord_error (storeCheck_data_range h) _ _),
        exec_faults ha rfl rfl (loadWord_error (wordOperand_data_range h))⟩
    case records =>
      exact ⟨exec_faults ha rfl rfl (timerInstr_error (recordAddr_odd _ _ h) _),
        exec_faults ha rfl rfl (countInstr_error (recordAddr_odd _ _ h) _ _)⟩
    case system =>
      refine ⟨exec_faults ha rfl rfl ?_, exec_faults ha rfl rfl ?_⟩
      · rw [sysRegister_unknown h]
      · rw [if_neg (by omega), if_neg (by omega)]
    case index =>
      refine exec_faults (n := 2) ha rfl rfl ?_
      rw [indexCheck_beyond (t := metContext s j k 4 2) h2 h3 h1]

end Sys2Proof.Machine
end

section
/-! SUPPORT. The words of an instruction by their opcode and operand bits (R55). -/

namespace Sys2Proof.Machine

open Sys2Proof

theorem toNat_opWord {op : Nat} (h : op < 256) (low : Nat) : (opWord op low).toNat = op * 2 ^ 24 + low % 2 ^ 24 := by
  unfold opWord
  rw [BitVec.toNat_ofNat]
  exact Nat.mod_eq_of_lt (by omega)

/-- The opcode of a word. -/
theorem opcode_opWord {op : Nat} (h : op < 256) (low : Nat) : (opWord op low).toNat / 2 ^ 24 = op := by
  rw [toNat_opWord h]
  omega

/-- The operand bits of a word. -/
theorem low_opWord {op low : Nat} (h : op < 256) (hl : low < 2 ^ 24) : (opWord op low).toNat % 2 ^ 24 = low := by
  rw [toNat_opWord h]
  omega

/-- A word is the one of its opcode and its operand bits. -/
theorem opWord_eq {w : Word} {op low : Nat} (ho : w.toNat / 2 ^ 24 = op) (hl : low % 2 ^ 24 = w.toNat % 2 ^ 24) :
    opWord op low = w := by
  refine BitVec.eq_of_toNat_eq ?_
  rw [toNat_opWord (by omega)]
  omega

/-! ## Operand bits -/

theorem operandBits_lt (space idx : Nat) : operandBits space idx < 2 ^ 24 := by
  unfold operandBits
  omega

theorem space_operandBits {space : Nat} (h : space < 4) (idx : Nat) : operandBits space idx / 2 ^ 22 = space := by
  unfold operandBits
  omega

theorem index_operandBits {idx : Nat} (h : idx < 4194304) (space : Nat) : operandBits space idx % 2 ^ 22 = idx := by
  unfold operandBits
  omega

/-- Operand bits are those of their space and their index. -/
theorem operandBits_fields {n : Nat} (h : n < 2 ^ 24) : operandBits (n / 2 ^ 22) (n % 2 ^ 22) = n := by
  unfold operandBits
  omega

theorem code_ofCode (n : Nat) : (Quality.ofCode n).code = n % 4 := by
  unfold Quality.ofCode
  have h : n % 4 < 4 := Nat.mod_lt _ (by decide)
  generalize n % 4 = m at h ⊢
  interval_cases m <;> rfl

theorem ofCode_code (q : Quality) : Quality.ofCode q.code = q := by cases q <;> rfl

theorem code_lt (q : Quality) : q.code < 4 := by cases q <;> decide

/-! ## Reserved bits -/

theorem unused_eq_some {bits : Nat} {i i' : Instr} (h : unused bits i = some i') : bits = 0 ∧ i' = i := by
  unfold unused at h
  split at h
  case isTrue hb => exact ⟨hb, (Option.some.inj h).symm⟩
  case isFalse => cases h

theorem unused_of_lt {low b : Nat} (h : low < b) (i : Instr) : unused (low / b) i = some i :=
  if_pos (Nat.div_eq_of_lt h)

/-! ## Words before other words -/

section Spelt

variable {i : Instr} {w x y : Word}

theorem spelt_one (h : codeOf i = [w]) : (codeOf i).head? = some w ∧ codeOf i = [w, x, y].take (codeOf i).length := by
  rw [h]
  exact ⟨rfl, rfl⟩

theorem spelt_two (h : codeOf i = [w, x]) :
    (codeOf i).head? = some w ∧ codeOf i = [w, x, y].take (codeOf i).length := by
  rw [h]
  exact ⟨rfl, rfl⟩

theorem spelt_three (h : codeOf i = [w, x, y]) :
    (codeOf i).head? = some w ∧ codeOf i = [w, x, y].take (codeOf i).length := by
  rw [h]
  exact ⟨rfl, rfl⟩

end Spelt

end Sys2Proof.Machine
end

section
/-! Code words and the instructions that they spell: the statement of O13. -/

namespace Sys2Proof.Machine

open Sys2Proof

/-- The words of a well-formed instruction spell it; the cases go by the format of its operand bits (R55). -/
theorem decodeCode_codeOf {i : Instr} {w : Word} {rest : List Word} (hi : Instr.wellFormed i = true)
    (hc : codeOf i = w :: rest) : (∃ j up, i = .undefinedOpcode j up w) ∨
      ∃ j up, ∀ x y : Word, decodeCode j up w (rest.getD 0 x) (rest.getD 1 y) = some i := by
  cases i <;> cases hc
  case undefinedOpcode j up => exact .inl ⟨j, up, rfl⟩
  case jmp j up off | jt j up off | jf j up off | call j up off | lpx j up off | ldk j up off | addk j up off =>
    refine .inr ⟨j, up, fun x y => ?_⟩
    unfold decodeCode
    rw [opcode_opWord (by decide), low_opWord (by decide) off.isLt]
    simp only [BitVec.ofNat_toNat, BitVec.setWidth_eq]
  case ld j up space idx | ldn j up space idx | andB j up space idx | andn j up space idx | orB j up space idx
      | orn j up space idx | xorB j up space idx | xorn j up space idx | st j up space idx | stn j up space idx
      | setB j up space idx | rst j up space idx | ldw j up space idx | stw j up space idx =>
    simp only [Instr.wellFormed, Bool.and_eq_true, decide_eq_true_eq] at hi
    obtain ⟨⟨-, hs⟩, hx⟩ := hi
    refine .inr ⟨j, up, fun x y => ?_⟩
    unfold decodeCode
    rw [opcode_opWord (by decide), low_opWord (by decide) (operandBits_lt _ _)]
    simp only [space_operandBits hs, index_operandBits hx]
  case ldwx j up space idx ext | stwx j up space idx ext =>
    simp only [Instr.wellFormed, Bool.and_eq_true, decide_eq_true_eq] at hi
    obtain ⟨⟨-, hs⟩, hx⟩ := hi
    refine .inr ⟨j, up, fun x y => ?_⟩
    unfold decodeCode
    rw [opcode_opWord (by decide), low_opWord (by decide) (operandBits_lt _ _)]
    simp only [space_operandBits hs, index_operandBits hx]
    rfl
  case ton j up idx | tof j up idx | tp j up idx | ctu j up idx | ctd j up idx | crst j up idx | cld j up idx =>
    simp only [Instr.wellFormed, Bool.and_eq_true, decide_eq_true_eq] at hi
    obtain ⟨-, hx⟩ := hi
    refine .inr ⟨j, up, fun x y => ?_⟩
    unfold decodeCode
    rw [opcode_opWord (by decide), low_opWord (by decide) (operandBits_lt _ _)]
    simp only [space_operandBits (show 2 < 4 by decide), index_operandBits hx, if_true]
  case lpb j up n | redge j up n | fedge j up n | shl j up n | shr j up n | sar j up n | rds j up n | wrs j up n =>
    simp only [Instr.wellFormed, Bool.and_eq_true, decide_eq_true_eq] at hi
    obtain ⟨-, hn⟩ := hi
    refine .inr ⟨j, up, fun x y => ?_⟩
    unfold decodeCode
    rw [opcode_opWord (by decide), low_opWord (by decide) (by omega)]
    exact unused_of_lt hn _
  case setq j up q | setbq j up q =>
    refine .inr ⟨j, up, fun x y => ?_⟩
    unfold decodeCode
    rw [opcode_opWord (by decide), low_opWord (by decide) (by have := code_lt q; omega)]
    simp only [ofCode_code]
    exact unused_of_lt (code_lt q) _
  all_goals exact .inr ⟨_, _, fun _ _ => rfl⟩

/-- A word that spells an instruction is its first word; the cases go by the format of the operand bits (R55). -/
theorem codeOf_decodeCode {j : Nat} {up : Upset} {w x y : Word} {i : Instr} (h : decodeCode j up w x y = some i) :
    (codeOf i).head? = some w ∧ codeOf i = [w, x, y].take (codeOf i).length := by
  have bits : operandBits (w.toNat % 2 ^ 24 / 2 ^ 22) (w.toNat % 2 ^ 24 % 2 ^ 22) % 2 ^ 24 = w.toNat % 2 ^ 24 := by
    rw [operandBits_fields (Nat.mod_lt _ (by decide))]
    exact Nat.mod_mod _ _
  have timer (hs : w.toNat % 2 ^ 24 / 2 ^ 22 = 2) :
      operandBits 2 (w.toNat % 2 ^ 24 % 2 ^ 22) % 2 ^ 24 = w.toNat % 2 ^ 24 := by
    rwa [hs] at bits
  have imm : (BitVec.ofNat 24 (w.toNat % 2 ^ 24)).toNat % 2 ^ 24 = w.toNat % 2 ^ 24 := by
    rw [BitVec.toNat_ofNat]
    omega
  unfold decodeCode at h
  split at h
  case h_1 e | h_2 e | h_3 e | h_8 e | h_10 e | h_24 e | h_25 e | h_26 e | h_27 e | h_28 e | h_29 e | h_30 e
      | h_31 e | h_32 e | h_48 e | h_49 e | h_50 e | h_51 e | h_52 e | h_53 e | h_54 e | h_57 e | h_58 e | h_59 e
      | h_60 e | h_61 e | h_62 e | h_63 e | h_64 e | h_65 e | h_66 e | h_71 e | h_72 e | h_73 e | h_74 e | h_75 e
      | h_76 e | h_77 e | h_78 e | h_79 e | h_80 e | h_81 e | h_82 e | h_83 e | h_84 e | h_85 e | h_86 e | h_87 e
      | h_88 e | h_89 e | h_90 e | h_91 e | h_92 e | h_93 e =>
    obtain ⟨hb, rfl⟩ := unused_eq_some h
    exact spelt_one (congrArg (fun v => [v]) (opWord_eq e hb.symm))
  case h_45 e =>
    obtain ⟨hb, rfl⟩ := unused_eq_some h
    exact spelt_three (congrArg (fun v => [v, x, y]) (opWord_eq e hb.symm))
  case h_4 e | h_5 e | h_6 e | h_7 e | h_11 e | h_44 e | h_70 e =>
    cases h
    exact spelt_one (congrArg (fun v => [v]) (opWord_eq e imm))
  case h_12 e | h_13 e | h_14 e | h_15 e | h_16 e | h_17 e | h_18 e | h_19 e | h_20 e | h_21 e | h_22 e | h_23 e
      | h_42 e | h_43 e =>
    cases h
    exact spelt_one (congrArg (fun v => [v]) (opWord_eq e bits))
  case h_46 e | h_47 e =>
    cases h
    exact spelt_two (congrArg (fun v => [v, x]) (opWord_eq e bits))
  case h_35 e | h_36 e | h_37 e | h_38 e | h_39 e | h_40 e | h_41 e =>
    dsimp only at h
    split at h
    case isTrue hs =>
      cases h
      exact spelt_one (congrArg (fun v => [v]) (opWord_eq e (timer hs)))
    case isFalse => cases h
  case h_9 e | h_33 e | h_34 e | h_67 e | h_68 e | h_69 e | h_94 e | h_95 e =>
    obtain ⟨-, rfl⟩ := unused_eq_some h
    exact spelt_one (congrArg (fun v => [v]) (opWord_eq e (Nat.mod_mod _ _)))
  case h_55 e | h_56 e =>
    obtain ⟨hb, rfl⟩ := unused_eq_some h
    refine spelt_one (congrArg (fun v => [v]) (opWord_eq e ?_))
    rw [code_ofCode]
    omega
  case _ => cases h

/-- Settles O13: the two directions. -/
theorem codeWordsSpellInstructions : Obligations.CodeWordsSpellInstructions :=
  ⟨fun _ _ _ => decodeCode_codeOf, fun _ _ _ _ _ _ => codeOf_decodeCode⟩

end Sys2Proof.Machine
end

section
/-! The writers of memory: the statement of O58. -/

namespace Sys2Proof.Machine

open Sys2Proof

/-- A command that may not write memory keeps it; the cases are the commands, each with the lemma of its meaning. -/
theorem exec_keeps_memory {c : Instr} (still : mayWriteMemory c = false) (s : State) : KeepsO true false s (exec c s) := by
  cases c with
  | cyclicFrame ring f => exact execCyclicFrame_keeps ring f s
  | lock ring port => exact execLock_keeps ring port s
  | lockLoss ring port => exact execLockLoss_keeps ring port s
  | ringDeadline => exact execRingDeadline_keeps s
  | card h ring mask bytes => exact execCard_keeps h ring mask bytes s
  | carding => exact execCarding_keeps s
  | computeWindow => exact execComputeWindow_keeps s
  | sliceEnd core => exact execSliceEnd_keeps core s
  | enginePass laneFaults => exact execEnginePass_keeps laneFaults s
  | computeStop => exact execComputeStop_keeps s
  | outputImageFreeze => exact execOutputImageFreeze_keeps s
  | switchJudgement => exact execSwitchJudgement_keeps s
  | digestCompare => exact execDigestCompare_keeps s
  | partnerLossCheck => exact execPartnerLossCheck_keeps s
  | crownChange => exact execCrownChange_keeps s
  | activateAppend ok => exact execActivateAppend_keeps ok s
  | causewaySwitch ring => exact execCausewaySwitch_keeps ring s
  | guardSetApply => exact execGuardSetApply_keeps s
  | timeReferenceSwitchCommit => exact execTimeReferenceSwitchCommit_keeps s
  | safeEntry => exact execSafeEntry_keeps s
  | laneMove => exact execLaneMove_keeps s
  | laneUp lane => exact execLaneUp_keeps lane s
  | statusMsg h p => exact execStatusMsg_keeps h p s
  | commitMsg h p => exact execCommitMsg_keeps h p s
  | swapReq h => exact execSwapReq_keeps h s
  | swapAck h => exact execSwapAck_keeps h s
  | yieldMsg h => exact execYieldMsg_keeps h s
  | raiseMsg h crown => exact execRaiseMsg_keeps h crown s
  | fwdWrite h block off item value tick origin => exact execFwdWrite_keeps h block off item value tick origin s
  | loaderQuery h => exact execLoaderQuery_keeps h s
  | loaderReply h state digest => exact execLoaderReply_keeps h state digest s
  | loaderArm h tick origin => exact execLoaderArm_keeps h tick origin s
  | switchDecision h go => exact execSwitchDecision_keeps h go s
  | noSwitchDecision => exact execNoSwitchDecision_keeps s
  | maintMsg h what begins => exact execMaintMsg_keeps h what begins s
  | resyncRequest h seq digest mode => exact execResyncRequest_keeps h seq digest mode s
  | resyncRound => exact execResyncRound_keeps s
  | resyncFinal h snap => exact execResyncFinal_keeps h snap s
  | resyncDone => exact execResyncDone_keeps s
  | resyncRetry => exact execResyncRetry_keeps s
  | reply h type seq code => exact execReply_keeps h type seq code s
  | verdict memOk imageOk coreOk => exact execVerdict_keeps memOk imageOk coreOk s
  | splitStart => exact execSplitStart_keeps s
  | splitRejoin pass => exact execSplitRejoin_keeps pass s
  | safeReq v => exact execSafeReq_keeps v s
  | splitRequest v => exact execSplitRequest_keeps v s
  | crownSwapReq v => exact execCrownSwapReq_keeps v s
  | causewayReq ring v => exact execCausewayReq_keeps ring v s
  | triggerArm trig v => exact execTriggerArm_keeps trig v s
  | triggerFire trig => exact execTriggerFire_keeps trig s
  | capture cap ns frac rising => exact execCapture_keeps cap ns frac rising s
  | captureRead who => exact execCaptureRead_keeps who s
  | declaredPairLowRead who addr => exact execDeclaredPairLowRead_keeps who addr s
  | offsetSample port off refNs refFrac => exact execOffsetSample_keeps port off refNs refFrac s
  | freeStart => exact execFreeStart_keeps s
  | referenceLost port cause => exact execReferenceLost_keeps port cause s
  | holdoffExpiry => exact execHoldoffExpiry_keeps s
  | skerryClockSet => exact execSkerryClockSet_keeps s
  | ptpEventMessage m => exact execPtpEventMessage_keeps m s
  | ringDelayUpdate ring stamps => exact execRingDelayUpdate_keeps ring stamps s
  | linkDown port => exact execLinkDown_keeps port s
  | acyclicFrame ring f => exact execAcyclicFrame_keeps ring f s
  | acyclicRequestSend ring => exact execAcyclicRequestSend_keeps ring s
  | acyclicTimeout ring tag => exact execAcyclicTimeout_keeps ring tag s
  | probe port ns => exact execProbe_keeps port ns s
  | openSession port o => exact execOpenSession_keeps port o s
  | command port m => exact execCommand_keeps port m s
  | halfOpenTimeout slot => exact execHalfOpenTimeout_keeps slot s
  | sessionIdleTimeout slot => exact execSessionIdleTimeout_keeps slot s
  | statusCmd slot => exact execStatusCmd_keeps slot s
  | sessionClose slot => exact execSessionClose_keeps slot s
  | eventSubscribe slot => exact execEventSubscribe_keeps slot s
  | regRead slot => exact execRegRead_keeps slot s
  | memRead slot => exact execMemRead_keeps slot s
  | memWrite slot => exact execMemWrite_keeps slot s
  | imageBegin slot => exact execImageBegin_keeps slot s
  | imageData slot => exact execImageData_keeps slot s
  | imageEnd slot => exact execImageEnd_keeps slot s
  | verifyingDone => exact execVerifyingDone_keeps s
  | storeStepDone ok => exact execStoreStepDone_keeps ok s
  | imageCancel slot => exact execImageCancel_keeps slot s
  | imageArm slot => exact execImageArm_keeps slot s
  | roleSwap slot => exact execRoleSwap_keeps slot s
  | safeRequest slot => exact execSafeRequest_keeps slot s
  | maintStart slot => exact execMaintStart_keeps slot s
  | maintStatus slot => exact execMaintStatus_keeps slot s
  | activityEnd group ok => exact execActivityEnd_keeps group ok s
  | stnRead slot => exact execStnRead_keeps slot s
  | stnWrite slot => exact execStnWrite_keeps slot s
  | evrRead slot => exact execEvrRead_keeps slot s
  | jnlQuery slot => exact execJnlQuery_keeps slot s
  | jnlRead slot => exact execJnlRead_keeps slot s
  | keyAdmin slot => exact execKeyAdmin_keeps slot s
  | peripheralRequest line samples => exact execPeripheralRequest_keeps line samples s
  | busTimeout addr => exact execBusTimeout_keeps addr s
  | xferStart v => exact execXferStart_keeps v s
  | xferAbort v => exact execXferAbort_keeps v s
  | xferResume v => exact execXferResume_keeps v s
  | xferAbortAll v => exact execXferAbortAll_keeps v s
  | integrationEnd ch r => exact execIntegrationEnd_keeps ch r s
  | referenceBufferEn v => exact execReferenceBufferEn_keeps v s
  | warmUpEnd => exact execWarmUpEnd_keeps s
  | entryEnd g samples ns => exact execEntryEnd_keeps g samples ns s
  | convGo v => exact execConvGo_keeps v s
  | convStop v => exact execConvStop_keeps v s
  | urgentEntry v samples ns => exact execUrgentEntry_keeps v samples ns s
  | calibration g => exact execCalibration_keeps g s
  | calibrationDone g result => exact execCalibrationDone_keeps g result s
  | proofTest => exact execProofTest_keeps s
  | proofTestDone dev => exact execProofTestDone_keeps dev s
  | hartReply g r => exact execHartReply_keeps g r s
  | hartPollTimeout g => exact execHartPollTimeout_keeps g s
  | passThrough v => exact execPassThrough_keeps v s
  | passThroughTimeout g => exact execPassThroughTimeout_keeps g s
  | trimBegin v => exact execTrimBegin_keeps v s
  | trimLow v => exact execTrimLow_keeps v s
  | trimHigh v => exact execTrimHigh_keeps v s
  | trimCommit v => exact execTrimCommit_keeps v s
  | trimAbandon v => exact execTrimAbandon_keeps v s
  | trimClear v => exact execTrimClear_keeps v s
  | trimTimeout => exact execTrimTimeout_keeps s
  | uplinkFrame f => exact execUplinkFrame_keeps f s
  | downlinkFrame noise => exact execDownlinkFrame_keeps noise s
  | linkTimeout => exact execLinkTimeout_keeps s
  | overload ch => exact execOverload_keeps ch s
  | overloadRetry ch => exact execOverloadRetry_keeps ch s
  | pulseEnd ch => exact execPulseEnd_keeps ch s
  | receivedFrame bus f => exact execReceivedFrame_keeps bus f s
  | transmitEnd bus r stamp => exact execTransmitEnd_keeps bus r stamp s
  | busOff bus => exact execBusOff_keeps bus s
  | busOffRecovery bus => exact execBusOffRecovery_keeps bus s
  | recover v => exact execRecover_keeps v s
  | headRead bus buf => exact execHeadRead_keeps bus buf s
  | tailRead bus buf => exact execTailRead_keeps bus buf s
  | lockTimeout bus => exact execLockTimeout_keeps bus s
  | txReq hi v => exact execTxReq_keeps hi v s
  | txAbort hi v => exact execTxAbort_keeps hi v s
  | receivedCharacter line x => exact execReceivedCharacter_keeps line x s
  | idleRequest line => exact execIdleRequest_keeps line s
  | driverRelease line => exact execDriverRelease_keeps line s
  | flush v => exact execFlush_keeps v s
  | recordAdmission => exact execRecordAdmission_keeps s
  | tokenGain => exact execTokenGain_keeps s
  | coalesceWindowEnd key => exact execCoalesceWindowEnd_keeps key s
  | checkpointRecord => exact execCheckpointRecord_keeps s
  | scrubSegment => exact execScrubSegment_keeps s
  | scrubSegmentDone => exact execScrubSegmentDone_keeps s
  | onRequest v => exact execOnRequest_keeps v s
  | offRequest v => exact execOffRequest_keeps v s
  | rampComplete dom => exact execRampComplete_keeps dom s
  | drainComplete dom => exact execDrainComplete_keeps dom s
  | domFault dom => exact execDomFault_keeps dom s
  | feedLost feedB cv => exact execFeedLost_keeps feedB cv s
  | feedReturn feedB cv => exact execFeedReturn_keeps feedB cv s
  | tamper sensor clock => exact execTamper_keeps sensor clock s
  | reKey => exact execReKey_keeps s
  | reKeyingDone key => exact execReKeyingDone_keeps key s
  | menuTimeout => exact execMenuTimeout_keeps s
  | service a => exact execService_keeps a s
  | serviceAddressApply => exact execServiceAddressApply_keeps s
  | laneDown lane => exact execLaneDown_keeps lane s
  | announceMessage port ds => exact execAnnounceMessage_keeps port ds s
  | linkUp port speed => exact execLinkUp_keeps port speed s
  | transmissionStart bus => exact execTransmissionStart_keeps bus s
  | characterTransmitted line => exact execCharacterTransmitted_keeps line s
  | breakEnd line => exact execBreakEnd_keeps line s
  | tamperSensorCleared sensor => exact execTamperSensorCleared_keeps sensor s
  | scrubPass found => exact execScrubPass_keeps found s
  | straitMessageDiscard message => exact execStraitMessageDiscard_keeps message s
  | malformedDatagram datagram => exact execMalformedDatagram_keeps datagram s
  | discardedFrame port ptp => exact execDiscardedFrame_keeps port ptp s
  | _ => cases still

/-- Settles O58: the commands keep memory one by one, and the Aidon instructions that store nothing by their frame. -/
theorem memoryChangesOnlyByWriters : Obligations.MemoryChangesOnlyByWriters := by
  unfold Obligations.MemoryChangesOnlyByWriters
  rintro c s t (hc | ⟨j, up, hi, ha⟩) he a
  · rw [(exec_keeps_memory hc s t he).same rfl]
  · obtain ⟨-, bytes, -⟩ := chargesAndFrame.2 s t c j up hi ha he
    exact bytes a

end Sys2Proof.Machine
end

section
/-! SUPPORT. What the undo log gives back (R74 to R76). -/

namespace Sys2Proof.Machine

open Sys2Proof

/-! ## Words written back -/

/-- An entry of an undo log written back to one memory, where `sel` finds its place in that memory. -/
def restore (sel : UndoPlace → Option Nat) (m : Bytes) (e : UndoEntry) : Bytes :=
  match sel e.place with
  | some a => putDword m a e.old
  | none => m

/-- The entries of an undo log written back to one memory. -/
def writeBack (sel : UndoPlace → Option Nat) (log : List UndoEntry) (m : Bytes) : Bytes :=
  log.foldl (restore sel) m

/-- The address of a place in task data. -/
def UndoPlace.dataAddr? : UndoPlace → Option Nat
  | .data a => some a
  | _ => none

/-- The address of a place in edge memory. -/
def UndoPlace.edgeAddr? : UndoPlace → Option Nat
  | .edge a => some a
  | _ => none

/-- The address of a place in DRAM. -/
def UndoPlace.dramAddr? : UndoPlace → Option Nat
  | .dram a => some a
  | _ => none

theorem dwordAt_congr {m m' : Bytes} {a : Nat} (h : ∀ x, a ≤ x → x < a + 8 → byteAt m' x = byteAt m x) :
    dwordAt m' a = dwordAt m a := by
  have same : bytesAt m' a 8 = bytesAt m a 8 :=
    List.map_congr_left fun i hi => h _ (Nat.le_add_right a i) (Nat.add_lt_add_left (List.mem_range.mp hi) a)
  unfold dwordAt
  rw [same]

theorem byteAt_putDword_other {m : Bytes} {a x : Nat} (v : DWord) (h : x < a ∨ a + 8 ≤ x) :
    byteAt (putDword m a v) x = byteAt m x :=
  byteAt_putBytes_other (by rwa [leBytes_length])

section WriteBack

variable {sel : UndoPlace → Option Nat}

/-- A byte that no entry covers stays. -/
theorem byteAt_writeBack_other {x : Nat} {log : List UndoEntry} (m : Bytes)
    (h : ∀ e ∈ log, ∀ a, sel e.place = some a → x < a ∨ a + 8 ≤ x) :
    byteAt (writeBack sel log m) x = byteAt m x := by
  induction log generalizing m with
  | nil => rfl
  | cons e log ih =>
    refine (ih _ fun e' he' => h e' (List.mem_cons_of_mem _ he')).trans ?_
    unfold restore
    split
    · next a hs => exact byteAt_putDword_other _ (h e List.mem_cons_self a hs)
    · rfl

/-- A word of the log reads its old value, where the words of the log lie apart. -/
theorem dwordAt_writeBack {log : List UndoEntry} {e : UndoEntry} {a : Nat} (m : Bytes) (he : e ∈ log)
    (hs : sel e.place = some a) (nodup : (log.map fun e => e.place).Nodup)
    (apart : ∀ e' ∈ log, ∀ b, sel e'.place = some b → e'.place ≠ e.place → b + 8 ≤ a ∨ a + 8 ≤ b) :
    dwordAt (writeBack sel log m) a = e.old := by
  induction log generalizing m with
  | nil => cases he
  | cons e' log ih =>
    obtain ⟨fresh, nodup⟩ := List.nodup_cons.mp nodup
    rcases List.mem_cons.mp he with rfl | he
    · have kept : ∀ x, a ≤ x → x < a + 8 → byteAt (writeBack sel log (putDword m a e.old)) x =
          byteAt (putDword m a e.old) x := by
        intro x hl hr
        refine byteAt_writeBack_other _ fun e' he' b hb => ?_
        have := apart e' (List.mem_cons_of_mem _ he') b hb
          (fun hp => fresh (List.mem_map.mpr ⟨e', he', hp⟩))
        omega
      have step : writeBack sel (e :: log) m = writeBack sel log (putDword m a e.old) := by
        unfold writeBack
        rw [List.foldl_cons, restore, hs]
      rw [step, dwordAt_congr kept, dwordAt_putDword]
    · exact ih _ he nodup fun e'' h'' => apart e'' (List.mem_cons_of_mem _ h'')

/-- What `sel` finds are the places `mk` of multiples of 8 in the log. -/
structure Words (sel : UndoPlace → Option Nat) (mk : Nat → UndoPlace) (log : List UndoEntry) : Prop where
  found : ∀ p a, sel p = some a ↔ p = mk a
  whole : ∀ e ∈ log, ∀ a, e.place = mk a → 8 ∣ a

variable {mk : Nat → UndoPlace} {log : List UndoEntry}

/-- A logged word reads its old value. -/
theorem Words.dwordAt_writeBack (h : Words sel mk log) (nodup : (log.map fun e => e.place).Nodup) (m : Bytes)
    {e : UndoEntry} {a : Nat} (he : e ∈ log) (hp : e.place = mk a) : dwordAt (writeBack sel log m) a = e.old := by
  refine Machine.dwordAt_writeBack m he ((h.found _ _).mpr hp) nodup fun e' he' b hb ne => ?_
  have hb := (h.found _ _).mp hb
  have ha := h.whole e he a hp
  have hb8 := h.whole e' he' b hb
  have : a ≠ b := by
    rintro rfl
    exact ne (hb.trans hp.symm)
  omega

/-- A byte of no logged word stays. -/
theorem Words.byteAt_writeBack (h : Words sel mk log) (m : Bytes) {x : Nat}
    (hx : ∀ e ∈ log, e.place ≠ mk (x / 8 * 8)) : byteAt (writeBack sel log m) x = byteAt m x := by
  refine byteAt_writeBack_other m fun e he a ha => ?_
  have ha := (h.found _ _).mp ha
  have ha8 := h.whole e he a ha
  have : a ≠ x / 8 * 8 := by
    rintro rfl
    exact hx e he ha
  omega

end WriteBack

/-! ## The undo log of a task -/

/-- The memories after entries are written back, and what that leaves. -/
theorem undoOne_fold (n : Nat) (log : List UndoEntry) (s : State) :
    let t := log.foldl (undoOne n) s
    t.task n = { s.task n with data := writeBack UndoPlace.dataAddr? log (s.task n).data,
                               edges := writeBack UndoPlace.edgeAddr? log (s.task n).edges } ∧
    t.mem = writeBack UndoPlace.dramAddr? log s.mem ∧
    t = { s with mem := t.mem, tasks := t.tasks, resync := t.resync } := by
  induction log generalizing s with
  | nil => exact ⟨rfl, rfl, rfl⟩
  | cons e log ih =>
    obtain ⟨task, mem, rest⟩ := ih (undoOne n s e)
    dsimp only at task mem rest ⊢
    rw [List.foldl_cons]
    have one : (undoOne n s e).task n = { s.task n with
          data := writeBack UndoPlace.dataAddr? [e] (s.task n).data
          edges := writeBack UndoPlace.edgeAddr? [e] (s.task n).edges } ∧
        (undoOne n s e).mem = writeBack UndoPlace.dramAddr? [e] s.mem ∧
        undoOne n s e = { s with mem := (undoOne n s e).mem, tasks := (undoOne n s e).tasks,
                                 resync := (undoOne n s e).resync } := by
      obtain ⟨place, old⟩ := e
      cases place with
      | data a => exact ⟨(State.task_setTask _ _ _ _).trans (if_pos rfl), rfl, rfl⟩
      | edge a => exact ⟨(State.task_setTask _ _ _ _).trans (if_pos rfl), rfl, rfl⟩
      | dram a =>
        unfold undoOne
        dsimp only
        rw [State.touch_frame]
        exact ⟨rfl, rfl, rfl⟩
    obtain ⟨task', mem', rest'⟩ := one
    refine ⟨?_, ?_, ?_⟩
    · rw [task, task']
      rfl
    · rw [mem, mem']
      rfl
    · rw [rest, rest']

/-- What stands again after the words of a task's undo log are written back. -/
structure Undone (x : TaskSt) (mem : Bytes) (x' : TaskSt) (mem' : Bytes) : Prop where
  data : x'.data = writeBack UndoPlace.dataAddr? x.undo x.data
  edges : x'.edges = writeBack UndoPlace.edgeAddr? x.undo x.edges
  mem : mem' = writeBack UndoPlace.dramAddr? x.undo mem

/-- The places of an undo log are those of whole words. -/
def WholeWords (log : List UndoEntry) : Prop :=
  ∀ e ∈ log, ∃ w, e.place = .data (8 * w) ∨ e.place = .edge (8 * w) ∨ e.place = .dram (8 * w)

section Whole

variable {log : List UndoEntry} (h : WholeWords log)

include h

theorem WholeWords.data : Words UndoPlace.dataAddr? .data log := by
  refine ⟨fun p a => by cases p <;> simp [UndoPlace.dataAddr?], fun e he a hp => ?_⟩
  obtain ⟨w, hw⟩ := h e he
  simp only [hp, UndoPlace.data.injEq, reduceCtorEq, or_false] at hw
  exact ⟨w, hw⟩

theorem WholeWords.edges : Words UndoPlace.edgeAddr? .edge log := by
  refine ⟨fun p a => by cases p <;> simp [UndoPlace.edgeAddr?], fun e he a hp => ?_⟩
  obtain ⟨w, hw⟩ := h e he
  simp only [hp, UndoPlace.edge.injEq, reduceCtorEq, or_false, false_or] at hw
  exact ⟨w, hw⟩

theorem WholeWords.dram : Words UndoPlace.dramAddr? .dram log := by
  refine ⟨fun p a => by cases p <;> simp [UndoPlace.dramAddr?], fun e he a hp => ?_⟩
  obtain ⟨w, hw⟩ := h e he
  simp only [hp, UndoPlace.dram.injEq, reduceCtorEq, false_or] at hw
  exact ⟨w, hw⟩

end Whole

/-- Writing back a task's undo log. -/
theorem undoAll_undone (s : State) (n : Nat) :
    (undoAll s n).task n = { s.task n with data := writeBack UndoPlace.dataAddr? (s.task n).undo (s.task n).data,
                                           edges := writeBack UndoPlace.edgeAddr? (s.task n).undo (s.task n).edges } ∧
    Undone (s.task n) s.mem ((undoAll s n).task n) (undoAll s n).mem ∧
    (undoAll s n).outImg = s.outImg ∧ (undoAll s n).classes = s.classes := by
  obtain ⟨task, mem, rest⟩ := undoOne_fold n (s.task n).undo s
  have outImg := congrArg State.outImg rest
  have classes := congrArg State.classes rest
  exact ⟨task, ⟨congrArg TaskSt.data task, congrArg TaskSt.edges task, mem⟩, outImg, classes⟩

end Sys2Proof.Machine
end

section
/-! SUPPORT. What a mismatch shows and does (R75, R76, R88). -/

namespace Sys2Proof.Machine

open Sys2Proof

/-- A core that takes its next work leaves a task that has ended, memory, the output image and the classes. -/
theorem dispatchCore_of_ended {v : State} {n : Nat} {x : TaskSt} (j : Nat) (hx : v.task n = x) (he : x.ended = true) :
    (dispatchCore v j).task n = x ∧ (dispatchCore v j).outImg = v.outImg ∧ (dispatchCore v j).classes = v.classes ∧
    (dispatchCore v j).mem = v.mem := by
  have rest := (AidonFrame.dispatch j v).1
  exact ⟨(dispatchCore_ended j ((congrArg TaskSt.ended hx).trans he)).trans hx, by rw [rest], by rw [rest], by rw [rest]⟩

/-! ## CHK_MISMATCH_INFO -/

section Info

variable (s : State) (j : Nat) (k : TaskRec) (kind member : Nat)

theorem reg_mismatchInfo_other {a : Nat} (h : a ≠ A.CHK_MISMATCH_INFO) :
    (mismatchInfo s j k kind member).reg a = s.reg a := by
  unfold mismatchInfo
  rw [State.reg_setFld_other _ _ h, State.reg_setFld_other _ _ h, State.reg_setFld_other _ _ h,
    State.reg_setFld_other _ _ h, State.reg_setFld_other _ _ h]

theorem kind_mismatchInfo : (mismatchInfo s j k kind member).fld F.CHK_MISMATCH_INFO.KIND = kind % 16 := by
  unfold mismatchInfo
  rw [State.fld_setFld_other _ _ _ _ (.inr (.inr (by decide))), State.fld_setFld_other _ _ _ _ (.inr (.inr (by decide))),
    State.fld_setFld_other _ _ _ _ (.inr (.inr (by decide))), State.fld_setFld_other _ _ _ _ (.inr (.inr (by decide))),
    State.fld_setFld_same _ _ _ (by decide)]
  rfl

theorem member_mismatchInfo : (mismatchInfo s j k kind member).fld F.CHK_MISMATCH_INFO.MEMBER = member % 4 := by
  unfold mismatchInfo
  rw [State.fld_setFld_other _ _ _ _ (.inr (.inr (by decide))), State.fld_setFld_other _ _ _ _ (.inr (.inr (by decide))),
    State.fld_setFld_same _ _ _ (by decide)]
  rfl

/-- What shows a mismatch that was resolved changes registers and events. -/
theorem mismatchResolved_frame : mismatchResolved s j k kind member = { s with
    regs := (mismatchResolved s j k kind member).regs, recorder := (mismatchResolved s j k kind member).recorder } := rfl

/-- What a mismatch that was resolved shows. -/
theorem mismatchResolved_shows (hj : j < 32) : let t := mismatchResolved s j k kind member
    bit (t.reg A.CHK_MISMATCH) j = true ∧ t.fld F.CHK_MISMATCH_INFO.KIND = kind % 16 ∧
    t.fld F.CHK_MISMATCH_INFO.MEMBER = member % 4 := by
  refine ⟨?_, kind_mismatchInfo _ j k kind member, member_mismatchInfo _ j k kind member⟩
  refine Eq.trans (congrArg (bit · j) (reg_mismatchInfo_other _ j k kind member (by decide))) ?_
  rw [State.reg_setReg_same]
  exact bit_or_two_pow _ hj

end Info

/-! ## An unresolved mismatch -/

/-- A task whose mismatch is unresolved stops as finished (R76). -/
def stopUnresolved (s : State) (k : TaskRec) : State :=
  s.setTask k.task { s.task k.task with active := false, ended := true, staging := [], undo := [], undoFull := false,
                                        retry := false, first := false, unresolved := true }

/-- What an unresolved mismatch shows (R76). -/
def showUnresolved (s : State) (j : Nat) (k : TaskRec) (kind : Nat) (cycle : DWord) : State :=
  (mismatchInfo (s.setReg A.CHK_UNRESOLVED (s.reg A.CHK_UNRESOLVED ||| BitVec.ofNat 32 (2 ^ j))) j k kind 0).unclean.raiseAt
    cycle 3 2 k.task (d1 kind ++ d1 j ++ d1 k.cls ++ d1 0)

/-- An unresolved mismatch step by step. -/
theorem mismatchUnresolved_eq (s : State) (j : Nat) (k : TaskRec) (kind : Nat) :
    mismatchUnresolved s j k kind = dispatchCore (startVerdict (showUnresolved (stopUnresolved (undoAll s k.task) k) j k kind
      ((undoAll s k.task).task k.task).cycle) 1) j := rfl

/-- What shows an unresolved mismatch changes registers and events. -/
theorem showUnresolved_frame (s : State) (j : Nat) (k : TaskRec) (kind : Nat) (cycle : DWord) :
    showUnresolved s j k kind cycle = { s with regs := (showUnresolved s j k kind cycle).regs,
                                               recorder := (showUnresolved s j k kind cycle).recorder } := rfl

/-- The registers of an unresolved mismatch. -/
theorem showUnresolved_shows (s : State) {j : Nat} (k : TaskRec) (kind : Nat) (cycle : DWord) (hj : j < 32) :
    let t := showUnresolved s j k kind cycle
    bit (t.reg A.CHK_UNRESOLVED) j = true ∧ t.fld F.CHK_MISMATCH_INFO.KIND = kind % 16 ∧
    t.flag F.CHK_STATUS.UNCLEAN = true := by
  refine ⟨?_, ?_, State.flag_note_same _ _ (by decide) (by decide)⟩
  · refine Eq.trans (congrArg (bit · j) ((State.reg_setFld_other _ 1 (by decide)).trans
      (reg_mismatchInfo_other _ j k kind 0 (by decide)))) ?_
    rw [State.reg_setReg_same]
    exact bit_or_two_pow _ hj
  · exact (State.fld_setFld_other _ _ _ _ (.inl (by decide))).trans (kind_mismatchInfo _ j k kind 0)

/-- A mismatch that stands unresolved: the task stopped, its logged words written back, nothing handed on (R76). -/
structure Unresolved (j : Nat) (k : TaskRec) (kind : Nat) (s t : State) : Prop where
  active : (t.task k.task).active = false
  ended : (t.task k.task).ended = true
  staging : (t.task k.task).staging = []
  undo : (t.task k.task).undo = []
  undone : Undone (s.task k.task) s.mem (t.task k.task) t.mem
  outImg : t.outImg = s.outImg
  classes : t.classes = s.classes
  core : bit (t.reg A.CHK_UNRESOLVED) j = true
  unclean : t.flag F.CHK_STATUS.UNCLEAN = true
  kind : t.fld F.CHK_MISMATCH_INFO.KIND = kind % 16

theorem mismatchUnresolved_unresolved (s : State) {j : Nat} (k : TaskRec) (kind : Nat) (hj : j < 32) :
    Unresolved j k kind s (mismatchUnresolved s j k kind) := by
  rw [mismatchUnresolved_eq]
  obtain ⟨-, undone, outImg, classes⟩ := undoAll_undone s k.task
  generalize undoAll s k.task = u at undone outImg classes
  have frame := showUnresolved_frame (stopUnresolved u k) j k kind (u.task k.task).cycle
  obtain ⟨core, kinds, unclean⟩ := showUnresolved_shows (stopUnresolved u k) k kind (u.task k.task).cycle hj
  generalize showUnresolved (stopUnresolved u k) j k kind (u.task k.task).cycle = v at frame core kinds unclean
  obtain ⟨regs, flag⟩ := regs_startVerdict v 1
  have verdict := startVerdict_frame v 1
  generalize startVerdict v 1 = z at verdict regs flag
  have stopped : (stopUnresolved u k).task k.task = { u.task k.task with
      active := false, ended := true, staging := [], undo := [], undoFull := false, retry := false, first := false,
      unresolved := true } := (State.task_setTask _ _ _ _).trans (if_pos rfl)
  have rest : z.task k.task = (stopUnresolved u k).task k.task ∧ z.outImg = u.outImg ∧ z.classes = u.classes ∧
      z.mem = u.mem := by
    rw [verdict, frame]
    exact ⟨rfl, rfl, rfl, rfl⟩
  obtain ⟨context, outImg', classes', mem⟩ := rest
  obtain ⟨final, outImg'', classes'', mem'⟩ := dispatchCore_of_ended j (context.trans stopped) rfl
  have shown (f : Fld) : (dispatchCore z j).fld f = z.fld f := State.fld_of_reg (reg_dispatchCore z j _)
  refine ⟨by rw [final], by rw [final], by rw [final], by rw [final], ?_, outImg''.trans (outImg'.trans outImg),
    classes''.trans (classes'.trans classes), ?_, ?_, ?_⟩
  · rw [final, mem'.trans mem]
    exact ⟨undone.data, undone.edges, undone.mem⟩
  · rw [reg_dispatchCore, regs _ (by decide)]
    exact core
  · unfold State.flag
    rw [shown]
    exact flag.trans unclean
  · rw [shown]
    exact (State.fld_of_reg (regs _ (by decide))).trans kinds

end Sys2Proof.Machine
end

section
/-! SUPPORT. A checkpoint that passes, and one that retries (R53, R72 to R75). -/

namespace Sys2Proof.Machine

open Sys2Proof

/-! ## Staged slots handed on -/

/-- From `s` to `t` the staged slots `xs` of a task are handed on: into the output image for T1, into the class's output
buffer for another class (R30, R38, R53). -/
def HandedOn (k : TaskRec) (xs : List (Nat × Slot)) (s t : State) : Prop := ∀ a,
  (k.cls = 0 → t.classes = s.classes ∧ (getAt a xs = none → t.outSlot a = s.outSlot a) ∧
    ((xs.map Prod.fst).Nodup → ∀ v, (a, v) ∈ xs → t.outSlot a = v)) ∧
  (k.cls ≠ 0 → t.outImg = s.outImg ∧
    (getAt a xs = none → getAt a (t.cls k.cls).buffer = getAt a (s.cls k.cls).buffer) ∧
    ((xs.map Prod.fst).Nodup → ∀ v, (a, v) ∈ xs → getAt a (t.cls k.cls).buffer = some v))

/-- What is handed on shows in the output image and the classes alone. -/
theorem HandedOn.congr {k : TaskRec} {xs : List (Nat × Slot)} {s s' t t' : State} (h : HandedOn k xs s t)
    (so : s'.outImg = s.outImg) (sc : s'.classes = s.classes) (ti : t'.outImg = t.outImg) (tc : t'.classes = t.classes) :
    HandedOn k xs s' t' := by
  unfold HandedOn State.outSlot State.cls at h ⊢
  rw [so, sc, ti, tc]
  exact h

theorem getAt_putAll_other {m xs : List (Nat × Slot)} {a : Nat} (h : ∀ e ∈ xs, e.1 ≠ a) :
    getAt a (xs.foldl (fun m e => putAt e.1 e.2 m) m) = getAt a m := by
  induction xs generalizing m with
  | nil => rfl
  | cons e xs ih =>
    refine (ih fun e he => h e (List.mem_cons_of_mem _ he)).trans ?_
    rw [getAt_putAt, if_neg (h e List.mem_cons_self).symm]

theorem getAt_putAll {m xs : List (Nat × Slot)} (nodup : (xs.map Prod.fst).Nodup) {a : Nat} {v : Slot}
    (h : (a, v) ∈ xs) : getAt a (xs.foldl (fun m e => putAt e.1 e.2 m) m) = some v := by
  induction xs generalizing m with
  | nil => cases h
  | cons e xs ih =>
    obtain ⟨fresh, nodup⟩ := List.nodup_cons.mp nodup
    rcases List.mem_cons.mp h with rfl | h
    · have later : ∀ e ∈ xs, e.1 ≠ a := fun e he ea => fresh (List.mem_map.mpr ⟨e, he, ea⟩)
      exact (getAt_putAll_other later).trans ((getAt_putAt _ _ _ _).trans (if_pos rfl))
    · exact ih nodup h

/-- The slots of a T1 task enter the output image. -/
theorem handOn_t1 {k : TaskRec} (hk : k.cls = 0) (s : State) (xs : List (Nat × Slot)) :
    handOn s k xs = { putOut s xs with resync := (handOn s k xs).resync } := by
  unfold handOn
  rw [if_pos hk]
  exact State.touch_frame _ _

/-- The slots of a task of another class enter its output buffer. -/
theorem handOn_class {k : TaskRec} (hk : k.cls ≠ 0) (s : State) (xs : List (Nat × Slot)) :
    handOn s k xs = { s.setCls k.cls { s.cls k.cls with
      buffer := xs.foldl (fun m e => putAt e.1 e.2 m) (s.cls k.cls).buffer } with resync := (handOn s k xs).resync } := by
  unfold handOn
  rw [if_neg hk]
  exact State.touch_frame _ _

/-- Handing on changes the output image, the classes and the pages of a state copy. -/
theorem handOn_frame (s : State) (k : TaskRec) (xs : List (Nat × Slot)) : handOn s k xs =
    { s with outImg := (handOn s k xs).outImg, classes := (handOn s k xs).classes, resync := (handOn s k xs).resync } := by
  by_cases hk : k.cls = 0
  · rw [handOn_t1 hk, putOut_frame]
  · rw [handOn_class hk]
    rfl

theorem handOn_handedOn (s : State) (k : TaskRec) (xs : List (Nat × Slot)) : HandedOn k xs s (handOn s k xs) := by
  refine fun a => ⟨fun hk => ?_, fun hk => ?_⟩
  · rw [handOn_t1 hk]
    refine ⟨?_, fun h => outSlot_putOut_other (getAt_eq_none h) s, fun nodup v h => outSlot_putOut nodup h s⟩
    rw [putOut_frame]
  · have buffer : ((handOn s k xs).cls k.cls).buffer = xs.foldl (fun m e => putAt e.1 e.2 m) (s.cls k.cls).buffer := by
      rw [handOn_class hk]
      exact congrArg ClassSt.buffer ((State.cls_setCls _ _ _ _).trans (if_pos rfl))
    refine ⟨?_, fun h => ?_, fun nodup v h => ?_⟩
    · rw [handOn_class hk]
      rfl
    · rw [buffer]
      exact getAt_putAll_other (getAt_eq_none h)
    · rw [buffer]
      exact getAt_putAll nodup h

/-- The pages of a segment's writes are marked for a state copy. -/
theorem touchSegment_frame (s : State) (k : TaskRec) (x : TaskSt) :
    touchSegment s k x = { s with resync := (touchSegment s k x).resync } := by
  have marked (u : State) (pages : List Nat) : u.markPages pages = { u with resync := (u.markPages pages).resync } := by
    unfold State.markPages
    split <;> rfl
  unfold touchSegment
  dsimp only
  rw [marked, State.touch_frame]

/-! ## A checkpoint that passes -/

/-- The context of a task that has passed a checkpoint (R53, R74). -/
def passedTask (x : TaskSt) : TaskSt :=
  { x with staging := [], undo := [], undoFull := false, retry := false, retryFault := false,
           saved := x.regs, savedCycles := x.cycles, sig := 0xFFFFFFFFFFFFFFFF, syn := [] }

/-- The context of a task that has ended at END (R53, R69). -/
def endedTask (x : TaskSt) : TaskSt := { passedTask x with active := false, ended := true, first := false }

/-- The state in which the slots of a task have been handed on. -/
def handedState (s : State) (k : TaskRec) : State :=
  touchSegment (handOn s k (s.task k.task).staging) k (s.task k.task)

theorem handedState_frame (s : State) (k : TaskRec) : handedState s k = { s with
    outImg := (handedState s k).outImg, classes := (handedState s k).classes, resync := (handedState s k).resync } := by
  unfold handedState
  rw [touchSegment_frame, handOn_frame]

theorem handedState_handedOn (s : State) (k : TaskRec) : HandedOn k (s.task k.task).staging s (handedState s k) := by
  have segment := touchSegment_frame (handOn s k (s.task k.task).staging) k (s.task k.task)
  have outImg := congrArg State.outImg segment
  have classes := congrArg State.classes segment
  exact (handOn_handedOn s k _).congr rfl rfl outImg classes

section Pass

variable {s : State} {k : TaskRec} (h : (s.task k.task).retry = false)

include h

/-- CHKP goes on (R74). -/
theorem passCheckpoint_goesOn (j : Nat) :
    passCheckpoint s j k false = (handedState s k).setTask k.task (passedTask (s.task k.task)) := by
  unfold passCheckpoint
  dsimp only
  rw [h]
  rfl

/-- END ends the activation (R69). -/
theorem passCheckpoint_ends (j : Nat) : passCheckpoint s j k true = dispatchCore (((handedState s k).setTask k.task
    (endedTask (s.task k.task))).setFld (F.CORE_TASK_STATE.CONSEC.item k.task) 0) j := by
  unfold passCheckpoint
  dsimp only
  rw [h]
  rfl

end Pass

/-! ## The state at a checkpoint -/

section Check

variable (s : State) (j : Nat) (k : TaskRec)

/-- The context at a checkpoint is the task's but for PC and what is charged. -/
theorem task_checkState : ∃ charged cycles boundHit, (checkState s j k).task k.task = { s.task k.task with
    regs := { aidonRegs s k with pc := aidonPc s k 1 }, charged := charged, cycles := cycles, boundHit := boundHit } := by
  obtain ⟨m, b, h, -⟩ := chargeTask_task s j k (24 + (s.task k.task).staging.length)
  unfold checkState
  rw [State.task_setTask, if_pos rfl, metContext, h]
  exact ⟨_, _, _, rfl⟩

/-- The memory, the images and the classes at a checkpoint are those before it. -/
theorem checkState_rest : (checkState s j k).mem = s.mem ∧ (checkState s j k).outImg = s.outImg ∧
    (checkState s j k).classes = s.classes := by
  obtain ⟨mem, outImg, classes, -⟩ := chargeTask_rest s j k (24 + (s.task k.task).staging.length)
  exact ⟨mem, outImg, classes⟩

/-- At a checkpoint of a segment that was not a retry the slots staged before it are handed on. -/
theorem handedState_checkState (hr : (s.task k.task).retry = false) : ((checkState s j k).task k.task).retry = false ∧
    HandedOn k (s.task k.task).staging s (handedState (checkState s j k) k) ∧
    (handedState (checkState s j k) k).mem = s.mem := by
  obtain ⟨charged, cycles, boundHit, task⟩ := task_checkState s j k
  obtain ⟨mem, outImg, classes⟩ := checkState_rest s j k
  have handed := handedState_handedOn (checkState s j k) k
  have rest := congrArg State.mem (handedState_frame (checkState s j k) k)
  rw [task] at handed
  exact ⟨by rw [task]; exact hr, handed.congr outImg.symm classes.symm rfl rfl, rest.trans mem⟩

theorem members_checkState : members (checkState s j k) j = members s j := chargeTask_members s j k _

/-- What an upset did to the members shows in their signatures at a checkpoint. -/
theorem memberView_checkState (up : Upset) : ∃ crc : DWord, ∀ i, memberView ((checkState s j k).task k.task) up i =
    (crc ^^^ ((s.task k.task).syn.getD i 0 ^^^ up.syn.getD i 0), if up.odd.contains i then i + 1 else 0) := by
  obtain ⟨charged, cycles, boundHit, task⟩ := task_checkState s j k
  rw [task]
  exact ⟨_, fun i => Prod.ext (BitVec.xor_assoc _ _ _) rfl⟩

end Check

section Outcomes

variable {s : State} {j : Nat} {k : TaskRec} {up : Upset}

/-- CHKP compares the members. -/
theorem exec_chkp (h : CoreRuns s j k (.chkp j up)) : exec (.chkp j up) s =
    .next (compareMembers (checkState s j k) j k up (checkDone s j k false)) :=
  congrArg Host.Outcome.next (runCheckpoint_compares up false rfl h)

/-- END compares the members. -/
theorem exec_endTask (h : CoreRuns s j k (.endTask j up)) : exec (.endTask j up) s =
    .next (compareMembers (checkState s j k) j k up (checkDone s j k true)) :=
  congrArg Host.Outcome.next (runCheckpoint_compares up true rfl h)

/-- CHKP where the members agree hands the staged slots on and goes on with the next instruction. -/
theorem chkp_agrees (ha : MembersAgree s j k up) (hr : (s.task k.task).retry = false)
    (h : CoreRuns s j k (.chkp j up)) : ∃ t, exec (.chkp j up) s = .next t ∧
      HandedOn k (s.task k.task).staging s t ∧ (t.task k.task).active = (s.task k.task).active ∧
      (t.task k.task).staging = [] ∧ (t.task k.task).undo = [] ∧
      (t.task k.task).regs = { (s.task k.task).regs with pc := aidonPc s k 1 } ∧
      (t.task k.task).saved = { (s.task k.task).regs with pc := aidonPc s k 1 } ∧ t.mem = s.mem := by
  refine ⟨_, (exec_chkp h).trans (congrArg _ (compareMembers_agree (membersAgree_checkState ha))), ?_⟩
  obtain ⟨charged, cycles, boundHit, task⟩ := task_checkState s j k
  obtain ⟨retry, handed, mem⟩ := handedState_checkState s j k hr
  generalize checkState s j k = u at task retry handed mem
  have stands : checkDone s j k false u = (handedState u k).setTask k.task (passedTask (u.task k.task)) :=
    passCheckpoint_goesOn retry j
  have context : ((handedState u k).setTask k.task (passedTask (u.task k.task))).task k.task =
      passedTask (u.task k.task) := (State.task_setTask _ _ _ _).trans (if_pos rfl)
  rw [stands, context, task]
  exact ⟨handed.congr rfl rfl rfl rfl, rfl, rfl, rfl, rfl, rfl, mem⟩

/-- END where the members agree and the stacks are empty hands the staged slots on and ends the activation. -/
theorem endTask_agrees (ha : MembersAgree s j k up) (hr : (s.task k.task).retry = false)
    (hn : (s.task k.task).regs.nest = []) (hl : (s.task k.task).regs.loops = []) (hc : (s.task k.task).regs.calls = [])
    (h : CoreRuns s j k (.endTask j up)) : ∃ t, exec (.endTask j up) s = .next t ∧
      HandedOn k (s.task k.task).staging s t ∧ (t.task k.task).active = false ∧ (t.task k.task).ended = true ∧
      (t.task k.task).staging = [] ∧ t.fld (F.CORE_TASK_STATE.CONSEC.item k.task) = 0 ∧ t.mem = s.mem := by
  refine ⟨_, (exec_endTask h).trans (congrArg _ (compareMembers_agree (membersAgree_checkState ha))), ?_⟩
  obtain ⟨retry, handed, mem⟩ := handedState_checkState s j k hr
  generalize checkState s j k = u at retry handed mem
  have empty : endFault (aidonRegs s k) = none := by
    unfold endFault aidonRegs
    rw [hn, hl, hc]
    rfl
  have stands : checkDone s j k true u = dispatchCore (((handedState u k).setTask k.task (endedTask (u.task k.task))).setFld
      (F.CORE_TASK_STATE.CONSEC.item k.task) 0) j := by
    unfold checkDone
    rw [if_pos rfl, empty]
    exact passCheckpoint_ends retry j
  have context : ((handedState u k).setTask k.task (endedTask (u.task k.task))).task k.task =
      endedTask (u.task k.task) := (State.task_setTask _ _ _ _).trans (if_pos rfl)
  obtain ⟨final, outImg, classes, dispatchMem⟩ := dispatchCore_of_ended (v := ((handedState u k).setTask k.task
    (endedTask (u.task k.task))).setFld (F.CORE_TASK_STATE.CONSEC.item k.task) 0) j context rfl
  rw [stands, final]
  refine ⟨handed.congr rfl rfl outImg classes, rfl, rfl, rfl, ?_, dispatchMem.trans mem⟩
  rw [State.fld_of_reg (reg_dispatchCore _ _ _)]
  exact State.fld_setFld_same _ (F.CORE_TASK_STATE.CONSEC.item k.task) 0 (show F.CORE_TASK_STATE.CONSEC.hi < 32 by decide)

end Outcomes

end Sys2Proof.Machine
end

section
/-! SUPPORT. The comparison of a pair and the vote of a triplet (R75, R76, R88). -/

namespace Sys2Proof.Machine

open Sys2Proof

/-! ## Pairs -/

/-- The members of a pair that do not agree show different views (R73). -/
theorem memberView_ne {s : State} {j : Nat} {k : TaskRec} {up : Upset} (hm : members s j = [0, 1])
    (hd : ¬ MembersAgree s j k up) :
    memberView ((checkState s j k).task k.task) up 0 ≠ memberView ((checkState s j k).task k.task) up 1 := by
  obtain ⟨crc, view⟩ := memberView_checkState s j k up
  rw [view, view]
  intro same
  obtain ⟨syn, odd⟩ := Prod.mk.inj same
  have syn := (BitVec.xor_right_inj crc).mp syn
  refine hd ?_
  unfold MembersAgree
  rw [hm]
  cases h0 : up.odd.contains 0 <;> cases h1 : up.odd.contains 1 <;> rw [h0, h1] at odd
  case false.false =>
    have alike : ∀ i ∈ [0, 1], ((s.task k.task).syn.getD i 0 ^^^ up.syn.getD i 0, up.odd.contains i) =
        ((s.task k.task).syn.getD 0 0 ^^^ up.syn.getD 0 0, false) := by
      intro i hi
      rcases List.mem_pair.mp hi with rfl | rfl
      · rw [h0]
      · rw [h1, syn]
    exact fun a ha b hb => ⟨(alike a ha).trans (alike b hb).symm, congrArg Prod.snd (alike a ha)⟩
  all_goals exact absurd odd (by decide)

/-- A pair whose members differ does what a mismatch of a pair does. -/
theorem compareMembers_pair {s : State} {j : Nat} {k : TaskRec} {up : Upset} {go : State → State}
    (hm : members s j = [0, 1]) (hv : memberView (s.task k.task) up 0 ≠ memberView (s.task k.task) up 1) :
    compareMembers s j k up go = pairMismatch s j k (!up.odd.isEmpty) := by
  unfold compareMembers
  rw [hm]
  exact if_neg hv

/-- A segment that is executed again: its registers those saved, its logged words written back, nothing handed on (R75). -/
structure Retried (k : TaskRec) (s t : State) : Prop where
  retry : (t.task k.task).retry = true
  regs : (t.task k.task).regs = (s.task k.task).saved
  staging : (t.task k.task).staging = []
  undo : (t.task k.task).undo = []
  undone : Undone (s.task k.task) s.mem (t.task k.task) t.mem
  outImg : t.outImg = s.outImg
  classes : t.classes = s.classes

section Pair

variable {s : State} {j : Nat} {k : TaskRec} (oneHalf : Bool)

theorem pairMismatch_retries (hr : (s.task k.task).retry = false) (hf : (s.task k.task).undoFull = false) :
    Retried k s (pairMismatch s j k oneHalf) := by
  obtain ⟨task, undone, outImg, classes⟩ := undoAll_undone s k.task
  unfold pairMismatch
  dsimp only
  rw [hr, hf, if_neg Bool.false_ne_true, if_neg Bool.false_ne_true]
  generalize undoAll s k.task = u at task undone outImg classes
  have context (x : TaskSt) : (u.setTask k.task x).task k.task = x := (State.task_setTask _ _ _ _).trans (if_pos rfl)
  refine ⟨by rw [context], ?_, by rw [context], by rw [context], ?_, outImg, classes⟩
  · rw [context, task]
  · rw [context]
    exact ⟨undone.data, undone.edges, undone.mem⟩

theorem pairMismatch_again (hr : (s.task k.task).retry = true) :
    pairMismatch s j k oneHalf = mismatchUnresolved s j k 2 := if_pos hr

theorem pairMismatch_full (hr : (s.task k.task).retry = false) (hf : (s.task k.task).undoFull = true) :
    pairMismatch s j k oneHalf = mismatchUnresolved s j k 3 := by
  unfold pairMismatch
  dsimp only
  rw [hr, if_neg Bool.false_ne_true, if_pos hf]

end Pair

/-! ## Triplets -/

/-- The vote counts what is equal alone. -/
theorem oddMember_map {α β : Type} [DecidableEq α] [DecidableEq β] {f : α → β} (hf : Function.Injective f) (a b c : α) :
    oddMember (f a) (f b) (f c) = oddMember a b c := by
  unfold oddMember
  simp only [hf.eq_iff]

/-- The vote of three members: all agree, one differs from two that agree, or all differ (R88). -/
theorem oddMember_votes {α : Type} [DecidableEq α] (a b c : α) :
    (oddMember a b c = some none ↔ a = b ∧ b = c) ∧ (oddMember a b c = some (some 0) ↔ b = c ∧ a ≠ b) ∧
    (oddMember a b c = some (some 1) ↔ a = c ∧ a ≠ b) ∧ (oddMember a b c = some (some 2) ↔ a = b ∧ b ≠ c) ∧
    (oddMember a b c = none ↔ a ≠ b ∧ b ≠ c ∧ a ≠ c) := by
  by_cases hab : a = b <;> by_cases hbc : b = c <;> by_cases hac : a = c <;> simp_all [oddMember]

/-- A member whose signature is forgotten changes the tasks' contexts by their signatures alone. -/
theorem forgetMember_rest (s : State) (j i n : Nat) :
    (∃ syn, (forgetMember s j i).task n = { s.task n with syn := syn }) ∧
    forgetMember s j i = { s with tasks := (forgetMember s j i).tasks } := by
  unfold forgetMember
  generalize coreTasks s j = ks
  induction ks generalizing s with
  | nil => exact ⟨⟨_, rfl⟩, rfl⟩
  | cons k ks ih =>
    obtain ⟨⟨syn, task⟩, rest⟩ := ih (s.setTask k.task { s.task k.task with syn := (s.task k.task).syn.set i 0 })
    rw [List.foldl_cons]
    refine ⟨?_, by rw [rest]; rfl⟩
    rw [task, State.task_setTask]
    split
    · next e =>
      rw [e]
      exact ⟨_, rfl⟩
    · exact ⟨_, rfl⟩

/-- A triplet member that was outvoted (R88): it is halted, the vote is shown, and the tasks go on. -/
structure Outvoted (j : Nat) (k : TaskRec) (i : Nat) (s t : State) : Prop where
  task : ∃ syn, t.task k.task = { s.task k.task with syn := syn }
  halted : 3 * j + i ∈ t.check.halted
  core : bit (t.reg A.CHK_MISMATCH) j = true
  kind : t.fld F.CHK_MISMATCH_INFO.KIND = 5
  member : t.fld F.CHK_MISMATCH_INFO.MEMBER = i % 4
  outImg : t.outImg = s.outImg
  classes : t.classes = s.classes

/-- What excludes a member at ODD_LIMIT leaves what an outvoted one shows (R89). -/
theorem Outvoted.excluded {j : Nat} {k : TaskRec} {i : Nat} {s t : State} (h : Outvoted j k i s t) (w : Word)
    (cls code src : Nat) (det : List Byte) : Outvoted j k i s ((t.setReg A.CHK_ODD w).raise cls code src det) := by
  have other {a : Nat} (ha : a ≠ A.CHK_ODD) : ((t.setReg A.CHK_ODD w).raise cls code src det).reg a = t.reg a :=
    State.reg_setReg_other _ _ ha
  refine ⟨h.task, h.halted, ?_, ?_, ?_, h.outImg, h.classes⟩
  · rw [other (by decide)]
    exact h.core
  · rw [State.fld_of_reg (other (by decide))]
    exact h.kind
  · rw [State.fld_of_reg (other (by decide))]
    exact h.member

theorem memberOdd_outvoted (s : State) {j : Nat} (k : TaskRec) (i : Nat) (hj : j < 32) :
    Outvoted j k i s (memberOdd s j k i) := by
  unfold memberOdd
  dsimp only
  generalize hu : ({ s with check := { s.check with
    odd := putAt (3 * j + i) ((getAt (3 * j + i) s.check.odd).getD 0 + 1) s.check.odd
    halted := (3 * j + i) :: s.check.halted } } : State) = u
  obtain ⟨task, rest⟩ := forgetMember_rest u j i k.task
  generalize forgetMember u j i = v at task rest
  have shown : Outvoted j k i s (mismatchResolved v j k 5 i) := by
    obtain ⟨core, kind, member⟩ := mismatchResolved_shows v j k 5 i hj
    subst hu
    refine ⟨task, ?_, core, kind, member, ?_, ?_⟩
    · rw [mismatchResolved_frame, rest]
      exact List.mem_cons_self
    · rw [mismatchResolved_frame, rest]
    · rw [mismatchResolved_frame, rest]
  split
  · exact shown.excluded _ _ _ _ _
  · exact shown

/-- A triplet goes on where a vote stands. -/
theorem compareMembers_vote {s : State} {j : Nat} {k : TaskRec} {up : Upset} {go : State → State} {i : Nat}
    (hm : members s j = [0, 1, 2]) (hv : oddMember (memberView (s.task k.task) up 0) (memberView (s.task k.task) up 1)
      (memberView (s.task k.task) up 2) = some (some i)) :
    compareMembers s j k up go = go (memberOdd s j k i) := by
  unfold compareMembers
  rw [hm]
  dsimp only
  rw [hv]

/-- A triplet without a majority stops its task. -/
theorem compareMembers_noVote {s : State} {j : Nat} {k : TaskRec} {up : Upset} {go : State → State}
    (hm : members s j = [0, 1, 2]) (hv : oddMember (memberView (s.task k.task) up 0) (memberView (s.task k.task) up 1)
      (memberView (s.task k.task) up 2) = none) : compareMembers s j k up go = mismatchUnresolved s j k 6 := by
  unfold compareMembers
  rw [hm]
  dsimp only
  rw [hv]

end Sys2Proof.Machine
end

section
/-! Checkpoints: the statement of O11. -/

namespace Sys2Proof.Machine

open Sys2Proof

/-- What the undo log gives back, as bytes and words. -/
theorem Undone.gives_back {x x' : TaskSt} {mem mem' : Bytes} (h : Undone x mem x' mem')
    (nodup : (x.undo.map fun e => e.place).Nodup) (whole : WholeWords x.undo) :
    (∀ e ∈ x.undo, match e.place with
      | .data a => dwordAt x'.data a = e.old
      | .edge a => dwordAt x'.edges a = e.old
      | .dram a => dwordAt mem' a = e.old) ∧
    (∀ a, (∀ e ∈ x.undo, e.place ≠ .data (a / 8 * 8)) → byteAt x'.data a = byteAt x.data a) ∧
    (∀ a, (∀ e ∈ x.undo, e.place ≠ .edge (a / 8 * 8)) → byteAt x'.edges a = byteAt x.edges a) ∧
    (∀ a, (∀ e ∈ x.undo, e.place ≠ .dram (a / 8 * 8)) → byteAt mem' a = byteAt mem a) := by
  rw [h.data, h.edges, h.mem]
  refine ⟨fun e he => ?_, fun a ha => whole.data.byteAt_writeBack _ ha, fun a ha => whole.edges.byteAt_writeBack _ ha,
    fun a ha => whole.dram.byteAt_writeBack _ ha⟩
  split
  · next a hp => exact whole.data.dwordAt_writeBack nodup _ he hp
  · next a hp => exact whole.edges.dwordAt_writeBack nodup _ he hp
  · next a hp => exact whole.dram.dwordAt_writeBack nodup _ he hp

/-- A checkpoint compares the members, whichever it is. -/
theorem exec_checkpoint {s : State} {j : Nat} {k : TaskRec} {up : Upset} {i : Instr}
    (hi : i ∈ [Instr.chkp j up, Instr.endTask j up]) (h : CoreRuns s j k i) :
    ∃ isEnd, exec i s = .next (compareMembers (checkState s j k) j k up (checkDone s j k isEnd)) := by
  rcases List.mem_pair.mp hi with rfl | rfl
  · exact ⟨false, exec_chkp h⟩
  · exact ⟨true, exec_endTask h⟩

section Mismatch

variable {s : State} {j : Nat} {k : TaskRec}

/-- What is written back at a checkpoint is what the task had logged before it. -/
theorem Undone.of_checkState {x' : TaskSt} {mem' : Bytes}
    (h : Undone ((checkState s j k).task k.task) (checkState s j k).mem x' mem') : Undone (s.task k.task) s.mem x' mem' := by
  obtain ⟨charged, cycles, boundHit, task⟩ := task_checkState s j k
  rw [task, (checkState_rest s j k).1] at h
  exact ⟨h.data, h.edges, h.mem⟩

/-- The flags of a checkpoint's context are those of the task. -/
theorem checkState_flags : ((checkState s j k).task k.task).retry = (s.task k.task).retry ∧
    ((checkState s j k).task k.task).undoFull = (s.task k.task).undoFull ∧
    ((checkState s j k).task k.task).saved = (s.task k.task).saved ∧
    ((checkState s j k).task k.task).active = (s.task k.task).active ∧
    ((checkState s j k).task k.task).staging = (s.task k.task).staging := by
  obtain ⟨charged, cycles, boundHit, task⟩ := task_checkState s j k
  rw [task]
  exact ⟨rfl, rfl, rfl, rfl, rfl⟩

/-- A mismatch that stands unresolved at a checkpoint. -/
theorem Unresolved.of_checkState {kind : Nat} {t : State} (h : Unresolved j k kind (checkState s j k) t) :
    Unresolved j k kind s t := by
  obtain ⟨-, outImg, classes⟩ := checkState_rest s j k
  exact { h with undone := h.undone.of_checkState, outImg := h.outImg.trans outImg, classes := h.classes.trans classes }

/-- A segment that is executed again from a checkpoint. -/
theorem Retried.of_checkState {t : State} (h : Retried k (checkState s j k) t) : Retried k s t := by
  obtain ⟨-, outImg, classes⟩ := checkState_rest s j k
  obtain ⟨-, -, saved, -⟩ := checkState_flags (s := s) (j := j) (k := k)
  exact { h with regs := h.regs.trans saved, undone := h.undone.of_checkState, outImg := h.outImg.trans outImg,
                 classes := h.classes.trans classes }

variable {up : Upset} {i : Instr} (hi : i ∈ [Instr.chkp j up, Instr.endTask j up]) (hr : CoreRuns s j k i)
  (hm : members s j = [0, 1]) (hd : ¬ MembersAgree s j k up)

include hi hr hm hd

/-- A checkpoint at which the members of a pair differ. -/
theorem exec_differs : ∃ half, exec i s = .next (pairMismatch (checkState s j k) j k half) := by
  obtain ⟨isEnd, he⟩ := exec_checkpoint hi hr
  exact ⟨_, he.trans (congrArg _ (compareMembers_pair ((members_checkState s j k).trans hm) (memberView_ne hm hd)))⟩

/-- The first mismatch of a segment executes it again (R75). -/
theorem exec_differs_retries (hn : (s.task k.task).retry = false) (hf : (s.task k.task).undoFull = false) :
    ∃ t, exec i s = .next t ∧ Retried k s t := by
  obtain ⟨half, he⟩ := exec_differs hi hr hm hd
  obtain ⟨retry, undoFull, -⟩ := checkState_flags (s := s) (j := j) (k := k)
  exact ⟨_, he, (pairMismatch_retries half (retry.trans hn) (undoFull.trans hf)).of_checkState⟩

/-- A mismatch of a retry is unresolved (R76). -/
theorem exec_differs_again (hj : j < 32) (hn : (s.task k.task).retry = true) :
    ∃ t, exec i s = .next t ∧ Unresolved j k 2 s t := by
  obtain ⟨half, he⟩ := exec_differs hi hr hm hd
  obtain ⟨retry, -⟩ := checkState_flags (s := s) (j := j) (k := k)
  rw [pairMismatch_again half (retry.trans hn)] at he
  exact ⟨_, he, (mismatchUnresolved_unresolved _ k 2 hj).of_checkState⟩

/-- A mismatch whose undo log was full is unresolved (R76). -/
theorem exec_differs_full (hj : j < 32) (hn : (s.task k.task).retry = false) (hf : (s.task k.task).undoFull = true) :
    ∃ t, exec i s = .next t ∧ Unresolved j k 3 s t := by
  obtain ⟨half, he⟩ := exec_differs hi hr hm hd
  obtain ⟨retry, undoFull, -⟩ := checkState_flags (s := s) (j := j) (k := k)
  rw [pairMismatch_full half (retry.trans hn) (undoFull.trans hf)] at he
  exact ⟨_, he, (mismatchUnresolved_unresolved _ k 3 hj).of_checkState⟩

end Mismatch

section Triplet

variable {s : State} {j : Nat} {k : TaskRec} {up : Upset} (hr : CoreRuns s j k (.chkp j up))
  (hm : members s j = [0, 1, 2]) (ho : up.odd = [])

/-- What upsets did to the signature of member `i` since the last checkpoint. -/
def memberSyn (s : State) (k : TaskRec) (up : Upset) (i : Nat) : DWord :=
  (s.task k.task).syn.getD i 0 ^^^ up.syn.getD i 0

include ho in
/-- Where no member faults alone, the vote is one on the signatures. -/
theorem vote_checkState (s : State) (j : Nat) (k : TaskRec) :
    oddMember (memberView ((checkState s j k).task k.task) up 0) (memberView ((checkState s j k).task k.task) up 1)
      (memberView ((checkState s j k).task k.task) up 2) =
    oddMember (memberSyn s k up 0) (memberSyn s k up 1) (memberSyn s k up 2) := by
  obtain ⟨crc, view⟩ := memberView_checkState s j k up
  have shown (i : Nat) : memberView ((checkState s j k).task k.task) up i = (crc ^^^ memberSyn s k up i, 0) := by
    rw [view, ho]
    rfl
  rw [shown, shown, shown]
  exact oddMember_map (f := fun v => (crc ^^^ v, 0)) (fun a b h => (BitVec.xor_right_inj crc).mp (Prod.mk.inj h).1) _ _ _

include hr hm ho

/-- A member that is outvoted at CHKP is halted, and the majority's slots are handed on (R88). -/
theorem chkp_outvotes (hj : j < 32) (hn : (s.task k.task).retry = false) {i : Nat}
    (hv : oddMember (memberSyn s k up 0) (memberSyn s k up 1) (memberSyn s k up 2) = some (some i)) :
    ∃ t w, exec (.chkp j up) s = .next t ∧ Outvoted j k i (checkState s j k) w ∧
      t.task k.task = passedTask (w.task k.task) ∧ t.check = w.check ∧ t.regs = w.regs ∧
      HandedOn k (s.task k.task).staging w t := by
  have vote := compareMembers_vote (go := checkDone s j k false) ((members_checkState s j k).trans hm)
    ((vote_checkState ho s j k).trans hv)
  have odd := memberOdd_outvoted (checkState s j k) k i hj
  obtain ⟨retry, -, -, -, staging⟩ := checkState_flags (s := s) (j := j) (k := k)
  obtain ⟨syn, task⟩ := odd.task
  generalize memberOdd (checkState s j k) j k i = w at vote odd task
  have goesOn : checkDone s j k false w = (handedState w k).setTask k.task (passedTask (w.task k.task)) :=
    passCheckpoint_goesOn (by rw [task]; exact retry.trans hn) j
  have handed := handedState_handedOn w k
  have staged : (w.task k.task).staging = (s.task k.task).staging := by rw [task]; exact staging
  rw [staged] at handed
  have rest := handedState_frame w k
  have check := congrArg State.check rest
  have regs := congrArg State.regs rest
  exact ⟨_, w, (exec_chkp hr).trans (congrArg _ (vote.trans goesOn)), odd, (State.task_setTask _ _ _ _).trans (if_pos rfl),
    check, regs, handed.congr rfl rfl rfl rfl⟩

/-- A triplet without a majority at CHKP stops its task (R88). -/
theorem chkp_noVote (hj : j < 32)
    (hv : oddMember (memberSyn s k up 0) (memberSyn s k up 1) (memberSyn s k up 2) = none) :
    ∃ t, exec (.chkp j up) s = .next t ∧ Unresolved j k 6 s t := by
  have vote := compareMembers_noVote (go := checkDone s j k false) ((members_checkState s j k).trans hm)
    ((vote_checkState ho s j k).trans hv)
  exact ⟨_, (exec_chkp hr).trans (congrArg _ vote), (mismatchUnresolved_unresolved _ k 6 hj).of_checkState⟩

end Triplet

/-- Settles O11: a checkpoint compares the members and passes, retries, stops the task or outvotes a member. -/
theorem checkpointsCompare : Obligations.CheckpointsCompare := by
  unfold Obligations.CheckpointsCompare
  refine ⟨fun s j k up ha hr => ⟨chkp_agrees ha hr, fun h hn hl hc => endTask_agrees ha hr hn hl hc h⟩,
    fun s j k up i hi hr hj hm hd => ?pair, fun a b c => oddMember_votes a b c,
    fun s j k up hr hj hk hm ho hn => ⟨fun i hi hv => ?outvoted, fun hv => ?noVote⟩⟩
  case pair =>
    intro x held back stopped
    have hj : j < 32 := by omega
    have gives {t : State} (h : Undone x s.mem (t.task k.task) t.mem) : back t := h.gives_back
    have stops {t : State} {kind : Nat} (hk : kind < 16) (h : Unresolved j k kind s t) : stopped t kind ∧ held t ∧ back t :=
      ⟨⟨h.active, h.ended, h.core, h.unclean, h.kind.trans (Nat.mod_eq_of_lt hk)⟩,
        ⟨h.staging, h.undo, h.outImg, h.classes⟩, gives h.undone⟩
    refine ⟨fun hn hf => ?_, fun hn => ?_, fun hn hf => ?_⟩
    · obtain ⟨t, he, h⟩ := exec_differs_retries hi hr hm hd hn hf
      exact ⟨t, he, h.retry, h.regs, ⟨h.staging, h.undo, h.outImg, h.classes⟩, gives h.undone⟩
    · obtain ⟨t, he, h⟩ := exec_differs_again hi hr hm hd hj hn
      exact ⟨t, he, stops (by decide) h⟩
    · obtain ⟨t, he, h⟩ := exec_differs_full hi hr hm hd hj hn hf
      exact ⟨t, he, stops (by decide) h⟩
  case outvoted =>
    obtain ⟨t, w, he, odd, task, check, regs, handed⟩ := chkp_outvotes hr hm ho (by omega) hn hv
    obtain ⟨syn, before⟩ := odd.task
    obtain ⟨-, -, -, active, -⟩ := checkState_flags (s := s) (j := j) (k := k)
    have reg (a : Nat) : t.reg a = w.reg a := by rw [State.reg, regs, State.reg]
    refine ⟨t, he, ?_, by rw [task]; rfl, by rw [task]; rfl, check ▸ odd.halted, ?_, ?_, ?_,
      fun nodup a v h => ((handed a).1 hk).2.2 nodup v h⟩
    · rw [task]
      exact (congrArg TaskSt.active before).trans active
    · rw [reg]
      exact odd.core
    · exact (State.fld_of_reg (reg _)).trans odd.kind
    · exact (State.fld_of_reg (reg _)).trans (odd.member.trans (Nat.mod_eq_of_lt (by omega)))
  case noVote =>
    obtain ⟨t, he, h⟩ := chkp_noVote hr hm ho (by omega) hv
    exact ⟨t, he, h.active, h.ended, h.staging, h.outImg, h.core, h.kind, h.unclean⟩

end Sys2Proof.Machine
end

section
/-! SUPPORT. What a flag, a pair and the tick number read where their registers stay, and the start of a verdict self-test
(R80, R81). -/

namespace Sys2Proof.Machine

open Sys2Proof

/-- A flag reads the same where its register does. -/
theorem State.flag_of_reg {s t : State} {f : Fld} (h : t.reg f.reg = s.reg f.reg) : t.flag f = s.flag f := by
  unfold State.flag
  rw [State.fld_of_reg h]

/-- A pair reads the same where both its registers do. -/
theorem State.dword_of_reg {s t : State} {a : Nat} (lo : t.reg a = s.reg a) (hi : t.reg (a + 4) = s.reg (a + 4)) :
    t.dword a = s.dword a := by
  unfold State.dword
  rw [lo, hi]

/-- Setting a field of another register leaves the tick number. -/
theorem State.tick_setFld (s : State) {f : Fld} (v : Nat) (h : f.reg ∉ tickRegs) : (s.setFld f v).tick = s.tick :=
  tick_of_tickRegs fun _ hk => State.reg_setFld_other s v fun e => h (e ▸ hk)

/-- A verdict self-test that starts is busy from this tick on and raises one event. -/
theorem beginVerdict_spec (s : State) (trigger : Nat) :
    (beginVerdict s trigger).flag F.CHK_STATUS.VERDICT_BUSY = true ∧
    (∀ f : Fld, f.reg ≠ A.CHK_STATUS ∨ f.hi < 3 ∨ 3 < f.lo → (beginVerdict s trigger).fld f = s.fld f) ∧
    (beginVerdict s trigger).check = { s.check with
      verdictAt := some s.tick, verdictTrigger := trigger, memBad := false, imageBad := false } ∧
    ∃ e, (beginVerdict s trigger).recorder.raised = s.recorder.raised ++ [e] := by
  have tick := State.tick_setFld s (f := F.CHK_STATUS.VERDICT_BUSY) (b2n true) (by decide)
  unfold beginVerdict State.strait
  dsimp only
  rw [State.straitOn_frame]
  refine ⟨State.flag_setFlag_same s _ true (by decide) (by decide), fun f h => State.fld_setFld_other s _ f _ h,
    ?_, _, rfl⟩
  rw [← tick]
  rfl

/-- A verdict self-test that falls due runs or waits (R81). -/
theorem startVerdict_runs_or_waits (s : State) (trigger : Nat) :
    (startVerdict s trigger).flag F.CHK_STATUS.VERDICT_BUSY = true ∨
      (startVerdict s trigger).flag F.CHK_STATUS.VERDICT_QUEUED = true := by
  unfold startVerdict
  split
  · next h => exact Bool.or_eq_true_iff.mp h
  · split
    · exact .inr (State.flag_setFlag_same s _ true (by decide) (by decide))
    · exact .inl (beginVerdict_spec _ trigger).1

end Sys2Proof.Machine
end

section
/-! SUPPORT. The guard window opens and the digests of the tick are judged (R77, R78, R155). -/

namespace Sys2Proof.Machine

open Sys2Proof

section Guard

variable (s : State)

/-! ## The guard window opens -/

/-- The state in which the digests are judged: the guard window is open and shows the partner's digest. -/
def openGuard (d : DWord) : State := ((s.at 61000).window 5).setDword A.STRAIT_PDIGEST_LO d

theorem reg_openGuard (d : DWord) {a : Nat}
    (h : a ∉ [A.TIME_NOW_LO, A.TIME_NOW_HI, A.TIME_NOW_FRAC, A.TICK_STATUS, A.STRAIT_PDIGEST_LO,
      A.STRAIT_PDIGEST_LO + 4]) : (openGuard s d).reg a = s.reg a := by
  simp only [List.mem_cons, List.not_mem_nil, or_false, not_or] at h
  obtain ⟨lo, hi, frac, status, digestLo, digestHi⟩ := h
  unfold openGuard State.window
  rw [State.reg_setDword_other _ _ digestLo digestHi, State.reg_setFld_other _ _ status,
    State.reg_at_other s _ (by simp [lo, hi, frac])]

/-- Without an activity nothing starts. -/
theorem startWaiting_of_acts_nil (h : s.acts = []) : startWaiting s = s := by
  unfold startWaiting
  rw [h]
  rfl

variable {s}

theorem paired_openGuard (d : DWord) : (openGuard s d).paired = s.paired := by
  unfold State.paired State.mode
  rw [State.fld_of_reg (reg_openGuard s d (by decide))]
  rfl

/-- While ticks run a paired module without activities judges a COMMIT that has arrived. -/
theorem exec_digestCompare_commit (ht : s.ticking = true) (hp : s.paired = true) (ha : s.acts = []) {d : DWord}
    {clean miss : Bool} (h : s.pair.part2 = some (d, clean, miss)) :
    exec .digestCompare s = .next (judgeDigest (openGuard s d) d clean miss) := by
  have still := startWaiting_of_acts_nil ((s.at 61000).window 5) ha
  have paired := (paired_openGuard d).trans hp
  unfold openGuard at *
  show execDigestCompare s = _
  unfold execDigestCompare
  simp only [ht, if_true, still, State.at_fields, State.window_fields, State.setDword_fields, h, Option.map_some,
    Option.getD_some, paired]

/-- One that has not arrived is counted, and an unclean tick suspends the comparison. -/
theorem exec_digestCompare_none (ht : s.ticking = true) (hp : s.paired = true) (ha : s.acts = [])
    (h : s.pair.part2 = none) : exec .digestCompare s =
      .next (if s.pair.cleanLast then silentStrait ((openGuard s 0).count F.STRAIT_ERR.COMMIT_MISS 1)
        else suspendCompare (silentStrait ((openGuard s 0).count F.STRAIT_ERR.COMMIT_MISS 1))) := by
  have still := startWaiting_of_acts_nil ((s.at 61000).window 5) ha
  have paired := (paired_openGuard 0).trans hp
  have clean : (silentStrait ((openGuard s 0).count F.STRAIT_ERR.COMMIT_MISS 1)).pair.cleanLast = s.pair.cleanLast := by
    unfold silentStrait
    split <;> rfl
  unfold openGuard at *
  show execDigestCompare s = _
  unfold execDigestCompare
  simp only [ht, if_true, still, State.at_fields, State.window_fields, State.setDword_fields, h, Option.map_none,
    Option.getD_none, paired, clean]

/-! ## The judgement -/

theorem reg_suspendCompare_other (s : State) {a : Nat} (h : a ≠ A.STRAIT_STATUS) :
    (suspendCompare s).reg a = s.reg a := State.reg_setFld_other s _ h

theorem suspended_suspendCompare (s : State) : (suspendCompare s).flag F.STRAIT_STATUS.CMP_SUSPENDED = true :=
  State.flag_setFlag_same s _ true (by decide) (by decide)

/-- A silent Strait writes STRAIT_STATUS alone. -/
theorem reg_silentStrait_other (s : State) {a : Nat} (h : a ≠ A.STRAIT_STATUS) :
    (silentStrait s).reg a = s.reg a := by
  unfold silentStrait
  split
  · exact State.reg_setFld_other s _ h
  · rfl

/-- What is asked of a tick that both modules report clean before its digests are compared (R77, R78). -/
structure Compared (s : State) : Prop where
  clean : s.pair.cleanLast = true
  going : s.flag F.STRAIT_STATUS.CMP_SUSPENDED = false
  heard : s.pair.missNow = false
  together : s.pair.diverged = false
  image : s.pair.status.map (fun p => p.imageSeq) = some (runningSeq s)

theorem Compared.openGuard (h : Compared s) (d : DWord) : Compared (openGuard s d) :=
  ⟨h.clean, (State.flag_of_reg (reg_openGuard s d (by decide))).trans h.going, h.heard, h.together, h.image⟩

/-- Digests that differ are noted, the comparison stops and the module tests itself (R78). -/
def digestMismatch (s : State) : State := startVerdict (suspendCompare (s.note F.SYS_EVENT.DIGEST_MISMATCH)) 2

theorem judgeDigest_compared (h : Compared s) (d : DWord) : judgeDigest s d true false =
    if d = s.dword A.STRAIT_DIGEST_LO then s else digestMismatch s := by
  obtain ⟨clean, going, heard, together, image⟩ := h
  unfold judgeDigest digestMismatch
  simp [clean, going, heard, together, image]

/-- A mismatch leaves every register but those that show it. -/
theorem reg_digestMismatch (s : State) {a : Nat} (h : a ∉ [A.CHK_STATUS, A.STRAIT_STATUS, A.SYS_EVENT]) :
    (digestMismatch s).reg a = s.reg a := by
  obtain ⟨chk, strait, event⟩ : a ≠ A.CHK_STATUS ∧ a ≠ A.STRAIT_STATUS ∧ a ≠ A.SYS_EVENT := by simpa using h
  rw [digestMismatch, (regs_startVerdict _ 2).1 a chk, reg_suspendCompare_other _ strait]
  exact State.reg_setFld_other s _ event

/-- What a mismatch shows. -/
theorem digestMismatch_shows (s : State) : let t := digestMismatch s
    t.flag F.SYS_EVENT.DIGEST_MISMATCH = true ∧ t.flag F.STRAIT_STATUS.CMP_SUSPENDED = true ∧
    (t.flag F.CHK_STATUS.VERDICT_BUSY = true ∨ t.flag F.CHK_STATUS.VERDICT_QUEUED = true) := by
  have others := (regs_startVerdict (suspendCompare (s.note F.SYS_EVENT.DIGEST_MISMATCH)) 2).1
  unfold digestMismatch
  refine ⟨?_, ?_, startVerdict_runs_or_waits _ 2⟩
  · rw [State.flag_of_reg (others _ (by decide)), State.flag_of_reg (reg_suspendCompare_other _ (by decide))]
    exact State.flag_note_same s _ (by decide) (by decide)
  · rw [State.flag_of_reg (others _ (by decide))]
    exact suspended_suspendCompare _

end Guard

end Sys2Proof.Machine
end

section
/-! Digests: the statement of O17. -/

namespace Sys2Proof.Machine

open Sys2Proof

/-- Digests of a tick that is compared: what their judgement shows. -/
theorem exec_digestCompare_compared {s : State} {d : DWord} (ht : s.ticking = true) (hp : s.paired = true)
    (ha : s.acts = []) (h : s.pair.part2 = some (d, true, false)) (hc : Compared s) :
    ∃ t, exec .digestCompare s = .next t ∧ t.dword A.STRAIT_PDIGEST_LO = d ∧
      (d ≠ s.dword A.STRAIT_DIGEST_LO →
        t.flag F.SYS_EVENT.DIGEST_MISMATCH = true ∧ t.flag F.STRAIT_STATUS.CMP_SUSPENDED = true ∧
        (t.flag F.CHK_STATUS.VERDICT_BUSY = true ∨ t.flag F.CHK_STATUS.VERDICT_QUEUED = true)) ∧
      (d = s.dword A.STRAIT_DIGEST_LO →
        t.flag F.SYS_EVENT.DIGEST_MISMATCH = s.flag F.SYS_EVENT.DIGEST_MISMATCH ∧
        t.flag F.STRAIT_STATUS.CMP_SUSPENDED = false) := by
  have own : (openGuard s d).dword A.STRAIT_DIGEST_LO = s.dword A.STRAIT_DIGEST_LO :=
    State.dword_of_reg (reg_openGuard s d (by decide)) (reg_openGuard s d (by decide))
  have shown : (openGuard s d).dword A.STRAIT_PDIGEST_LO = d := State.dword_setDword_same _ _ _
  rw [exec_digestCompare_commit ht hp ha h, judgeDigest_compared (hc.openGuard d), own]
  by_cases e : d = s.dword A.STRAIT_DIGEST_LO
  · rw [if_pos e]
    exact ⟨_, rfl, shown, fun ne => absurd e ne,
      fun _ => ⟨State.flag_of_reg (reg_openGuard s d (by decide)), (hc.openGuard d).going⟩⟩
  · rw [if_neg e]
    exact ⟨_, rfl, (State.dword_of_reg (reg_digestMismatch _ (by decide)) (reg_digestMismatch _ (by decide))).trans shown,
      fun _ => digestMismatch_shows _, fun he => absurd he e⟩

/-- A COMMIT that has not arrived: counted, and an unclean tick suspends the comparison all the same (R77). -/
theorem exec_digestCompare_missing {s : State} (ht : s.ticking = true) (hp : s.paired = true) (ha : s.acts = [])
    (h : s.pair.part2 = none) : ∃ t, exec .digestCompare s = .next t ∧ t.dword A.STRAIT_PDIGEST_LO = 0 ∧
      t.fld F.STRAIT_ERR.COMMIT_MISS = min F.STRAIT_ERR.COMMIT_MISS.top (s.fld F.STRAIT_ERR.COMMIT_MISS + 1) ∧
      (s.pair.cleanLast = false → t.flag F.STRAIT_STATUS.CMP_SUSPENDED = true) := by
  rw [exec_digestCompare_none ht hp ha h]
  generalize hu : (openGuard s 0).count F.STRAIT_ERR.COMMIT_MISS 1 = u
  have counted : u.fld F.STRAIT_ERR.COMMIT_MISS =
      min F.STRAIT_ERR.COMMIT_MISS.top (s.fld F.STRAIT_ERR.COMMIT_MISS + 1) := by
    rw [← hu, State.fld_count_same _ (by decide), State.fld_of_reg (reg_openGuard s 0 (by decide))]
  have shown : u.dword A.STRAIT_PDIGEST_LO = 0 := by
    rw [← hu]
    exact (State.dword_of_reg (State.reg_count_other _ 1 (by decide)) (State.reg_count_other _ 1 (by decide))).trans
      (State.dword_setDword_same _ _ _)
  have reads {t : State} (ht : ∀ a, a ≠ A.STRAIT_STATUS → t.reg a = u.reg a) :
      t.dword A.STRAIT_PDIGEST_LO = 0 ∧ t.fld F.STRAIT_ERR.COMMIT_MISS =
        min F.STRAIT_ERR.COMMIT_MISS.top (s.fld F.STRAIT_ERR.COMMIT_MISS + 1) :=
    ⟨(State.dword_of_reg (ht _ (by decide)) (ht _ (by decide))).trans shown,
      (State.fld_of_reg (ht _ (by decide))).trans counted⟩
  have silent (a : Nat) (ha : a ≠ A.STRAIT_STATUS) := reg_silentStrait_other u ha
  cases clean : s.pair.cleanLast with
  | true =>
    obtain ⟨digest, count⟩ := reads silent
    exact ⟨_, rfl, digest, count, fun hf => absurd hf (by decide)⟩
  | false =>
    obtain ⟨digest, count⟩ := reads fun a ha => (reg_suspendCompare_other (silentStrait u) ha).trans (silent a ha)
    exact ⟨_, rfl, digest, count, fun _ => suspended_suspendCompare _⟩

/-- Settles O17: the guard window opens, then the digests are judged or the COMMIT is counted as missing. -/
theorem digestsAreCompared : Obligations.DigestsAreCompared := by
  unfold Obligations.DigestsAreCompared
  refine ⟨fun s d ht hp h clean going heard together image status ha =>
    exec_digestCompare_compared ht hp ha h ⟨clean, going, heard, together, ?_⟩,
    fun s ht hp h ha => exec_digestCompare_missing ht hp ha h⟩
  obtain ⟨p, hp⟩ := Option.isSome_iff_exists.mp status
  rw [hp, Option.map_some, image p hp]

end Sys2Proof.Machine
end

section
/-! SUPPORT. The end of a verdict self-test: its result, and the request for SAFE of one that failed (R79, R80). -/

namespace Sys2Proof.Machine

open Sys2Proof

/-- A Strait message leaves what asks for SAFE. -/
theorem State.safeDue_strait (s : State) (type sub : Nat) (vals : List Nat) :
    (s.strait type sub vals).pair.safeDue = s.pair.safeDue := by
  unfold State.strait State.straitOn State.straitFor
  split <;> rfl

theorem requestSafe_frame (s : State) (cause : Nat) :
    requestSafe s cause = { s with pair := (requestSafe s cause).pair } := by
  unfold requestSafe
  split <;> rfl

/-- Whether a module runs shows in SYS_STATE. -/
theorem running_of_reg {s t : State} (h : t.reg A.SYS_STATE = s.reg A.SYS_STATE) : t.running = s.running := by
  unfold State.running State.mode
  rw [State.fld_of_reg h]

/-- Counting leaves a field of another register, or one that shares no bit with the counter. -/
theorem State.fld_count_other (s : State) (f g : Fld) (n : Nat) (h : g.reg ≠ f.reg ∨ g.hi < f.lo ∨ f.hi < g.lo) :
    (s.count f n).fld g = s.fld g := State.fld_setFld_other s f g _ h

/-- The first failed part is one of the three, or none where all passed (R80). -/
theorem failedPart_lt (a b c : Bool) : failedPart a b c < 4 := by
  cases a <;> cases b <;> cases c <;> decide

theorem failedPart_eq_zero_iff (a b c : Bool) : failedPart a b c = 0 ↔ (a && b && c) = true := by
  cases a <;> cases b <;> cases c <;> decide

section Verdict

variable (s : State) (part : Nat)

/-- The registers of a verdict self-test that ends (R79). -/
def showVerdict : State :=
  (((((s.setFld F.CHK_VERDICT.TRIGGER s.check.verdictTrigger).setFld F.CHK_VERDICT.PART part).setFld
    F.CHK_VERDICT.RESULT (if part = 0 then 1 else 2)).count F.CHK_VERDICT.COUNT 1).setFlag
    F.CHK_STATUS.VERDICT_BUSY false)

/-- Its end before SAFE is asked for. -/
def closeVerdict : State :=
  (((endActivity (showVerdict s part) 0x0202 (part == 0)).withCheck (fun c => { c with verdictAt := none })).raise 3 4 0
    (d1 (if part = 0 then 1 else 2) ++ d1 part ++ d1 s.check.verdictTrigger)).strait 7 0 [1, 0]

theorem verdictEnd_eq : verdictEnd s part =
    if part = 0 then closeVerdict s part else requestSafe (closeVerdict s part) 7 := rfl

theorem reg_showVerdict_other {a : Nat} (h : a ≠ A.CHK_VERDICT) (h' : a ≠ A.CHK_STATUS) :
    (showVerdict s part).reg a = s.reg a := by
  unfold showVerdict State.setFlag
  rw [State.reg_setFld_other _ _ h', State.reg_count_other _ _ h, State.reg_setFld_other _ _ h,
    State.reg_setFld_other _ _ h, State.reg_setFld_other _ _ h]

theorem showVerdict_shows (h : part < 4) : let t := showVerdict s part
    t.fld F.CHK_VERDICT.RESULT = (if part = 0 then 1 else 2) ∧ t.fld F.CHK_VERDICT.PART = part ∧
    t.fld F.CHK_VERDICT.COUNT = min F.CHK_VERDICT.COUNT.top (s.fld F.CHK_VERDICT.COUNT + 1) ∧
    t.flag F.CHK_STATUS.VERDICT_BUSY = false := by
  have result : (if part = 0 then 1 else 2) < 2 ^ (F.CHK_VERDICT.RESULT.hi + 1 - F.CHK_VERDICT.RESULT.lo) := by
    split <;> decide
  refine ⟨?_, ?_, ?_, State.flag_setFlag_same _ _ false (by decide) (by decide)⟩ <;>
    unfold showVerdict State.setFlag <;>
    simp (disch := decide) only [State.fld_setFld_other, State.fld_setFld_same, State.fld_count_other,
      State.fld_count_same]
  · exact Nat.mod_eq_of_lt result
  · exact Nat.mod_eq_of_lt h

theorem regs_closeVerdict : (closeVerdict s part).regs = (showVerdict s part).regs := by
  unfold closeVerdict State.strait
  rw [State.straitOn_frame]
  rfl

theorem reg_verdictEnd (a : Nat) : (verdictEnd s part).reg a = (showVerdict s part).reg a := by
  have closed : (closeVerdict s part).reg a = (showVerdict s part).reg a := by
    rw [State.reg, regs_closeVerdict, State.reg]
  rw [verdictEnd_eq]
  split
  · exact closed
  · rw [requestSafe_frame]
    exact closed

theorem verdictAt_verdictEnd : (verdictEnd s part).check.verdictAt = none := by
  have closed : (closeVerdict s part).check.verdictAt = none := by
    unfold closeVerdict State.strait
    rw [State.straitOn_frame]
    rfl
  rw [verdictEnd_eq]
  split
  · exact closed
  · rw [requestSafe_frame]
    exact closed

theorem safeDue_closeVerdict : (closeVerdict s part).pair.safeDue = s.pair.safeDue := by
  unfold closeVerdict
  rw [State.safeDue_strait]
  rfl

/-- A verdict self-test that passed asks for nothing. -/
theorem safeDue_verdictEnd_passed (h : part = 0) : (verdictEnd s part).pair.safeDue = s.pair.safeDue := by
  rw [verdictEnd_eq, if_pos h, safeDue_closeVerdict]

/-- One that failed asks a running module for SAFE with CAUSE 7. -/
theorem safeDue_verdictEnd_failed (h : part ≠ 0) (hr : s.running = true) (hd : s.pair.safeDue = none) :
    (verdictEnd s part).pair.safeDue = some 7 := by
  have running : (closeVerdict s part).running = true := by
    refine (running_of_reg ?_).trans hr
    rw [State.reg, regs_closeVerdict]
    exact reg_showVerdict_other s part (by decide) (by decide)
  rw [verdictEnd_eq, if_neg h, requestSafe_running running ((safeDue_closeVerdict s part).trans hd)]
  rfl

end Verdict

/-- In the guard window of tick m + 32 the verdict self-test ends (R80). -/
theorem exec_verdict_due {s : State} {n : DWord} (h : s.check.verdictAt = some n) (ht : s.tick = n + 32) (a b c : Bool) :
    exec (.verdict a b c) s =
      .next (verdictEnd (s.at 61000) (failedPart (a && !s.check.memBad) (b && !s.check.imageBad) c)) := by
  show execVerdict a b c s = _
  unfold execVerdict
  rw [h]
  exact congrArg _ (if_pos ht)

/-- What the end of a verdict self-test shows, and what it asks for. -/
theorem verdict_ends {s : State} {n : DWord} (h : s.check.verdictAt = some n) (ht : s.tick = n + 32)
    {a b c x y m : Bool} (hx : x = (a && !s.check.memBad)) (hy : y = (b && !s.check.imageBad))
    (hm : m = (x && y && c)) : ∃ t, exec (.verdict a b c) s = .next t ∧
      t.fld F.CHK_VERDICT.RESULT = (if m then 1 else 2) ∧
      t.fld F.CHK_VERDICT.PART = (if !x then 1 else if !y then 2 else if !c then 3 else 0) ∧
      t.fld F.CHK_VERDICT.COUNT = min F.CHK_VERDICT.COUNT.top (s.fld F.CHK_VERDICT.COUNT + 1) ∧
      t.flag F.CHK_STATUS.VERDICT_BUSY = false ∧ t.check.verdictAt = none ∧
      (m = true → t.pair.safeDue = s.pair.safeDue) ∧
      (m = false → s.running = true → s.pair.safeDue = none → t.pair.safeDue = some 7) := by
  have passed : failedPart x y c = 0 ↔ m = true := hm ▸ failedPart_eq_zero_iff x y c
  obtain ⟨result, part, count, busy⟩ := showVerdict_shows (s.at 61000) _ (failedPart_lt x y c)
  have shown (f : Fld) : (verdictEnd (s.at 61000) (failedPart x y c)).fld f =
      (showVerdict (s.at 61000) (failedPart x y c)).fld f := State.fld_of_reg (reg_verdictEnd _ _ _)
  rw [exec_verdict_due h ht, ← hx, ← hy]
  refine ⟨_, rfl, ?_, (shown _).trans part, ?_, ?_, verdictAt_verdictEnd _ _, fun hm => ?_, fun hm hr hd => ?_⟩
  · simp only [shown, result, passed]
  · rw [shown, count, State.fld_at s _ (by decide)]
  · rw [State.flag, shown]
    exact busy
  · exact safeDue_verdictEnd_passed _ _ (passed.mpr hm)
  · have running : (s.at 61000).running = true := (running_of_reg (State.reg_at_other s _ (by decide))).trans hr
    exact safeDue_verdictEnd_failed _ _ (fun e => by simp [passed.mp e] at hm) running hd

/-- What the parts of a verdict self-test meet in a tick: memory in the first 12 ticks, the image in the next 12 (R80). -/
theorem verdictTick_meets {s : State} {n : DWord} (h : s.check.verdictAt = some n) :
    let d := (s.tick - n).toNat
    (1 ≤ d → d ≤ 12 → (verdictTick s).check.memBad = (s.check.memBad || inUseBad s) ∧
      (verdictTick s).check.imageBad = s.check.imageBad) ∧
    (13 ≤ d → d ≤ 24 → (verdictTick s).check.imageBad = (s.check.imageBad || !heldIntact s) ∧
      (verdictTick s).check.memBad = s.check.memBad) ∧
    (24 < d → verdictTick s = s) := by
  unfold verdictTick
  rw [h]
  dsimp only
  refine ⟨fun lo hi => ?_, fun lo hi => ?_, fun lo => ?_⟩
  · rw [if_pos ⟨lo, hi⟩]
    exact ⟨rfl, rfl⟩
  · rw [if_neg (by omega), if_pos ⟨lo, hi⟩]
    exact ⟨rfl, rfl⟩
  · rw [if_neg (by omega), if_neg (by omega)]

end Sys2Proof.Machine
end

section
/-! SUPPORT. A request for a pair split, its start and its end (R82 to R84, R327). -/

namespace Sys2Proof.Machine

open Sys2Proof

/-! ## Activities -/

/-- An activity that waits or runs is found as soon as it has its place. -/
theorem liveActivity_newActivity (s : State) (group code target : Nat) {st : Nat} (h : st ≤ 1) :
    liveActivity (newActivity s group code target st) code target = some ⟨s.actNext, group, code, target, st⟩ :=
  List.find?_cons_of_pos (by simpa using h)

/-- The activities with a number have the state set. -/
theorem state_setActivity (s : State) (num st : Nat) : ∀ b ∈ (setActivity s num st).acts, b.num = num → b.state = st := by
  intro b hb hn
  obtain ⟨a, -, rfl⟩ := List.mem_map.mp hb
  split at hn
  · next e => rw [if_pos e]
  · next e => exact absurd hn e

section Request

variable (s : State)

/-! ## Requests -/

/-- What shows a request changes one register. -/
theorem showSplitRequest_frame (wait : Bool) :
    showSplitRequest s wait = { s with regs := (showSplitRequest s wait).regs } := by
  unfold showSplitRequest
  dsimp only
  split <;> rfl

theorem lastReq_showSplitRequest (wait : Bool) :
    (showSplitRequest s wait).fld F.CHK_SPLIT_STATUS.LAST_REQ = b2n wait := by
  have shown : (s.setFld F.CHK_SPLIT_STATUS.LAST_REQ (b2n wait)).fld F.CHK_SPLIT_STATUS.LAST_REQ = b2n wait := by
    rw [State.fld_setFld_same _ _ _ (by decide)]
    cases wait <;> rfl
  unfold showSplitRequest
  dsimp only
  split
  · rw [State.fld_setFld_other _ _ _ _ (by decide)]
    exact shown
  · exact shown

/-- A refused request changes LAST_REQ alone (R82). -/
theorem requestSplit_refused {core : Nat} (h : splitPermitted s core = false) (half : Nat) :
    requestSplit s core half = s.setFld F.CHK_SPLIT_STATUS.LAST_REQ 2 := by
  rw [requestSplit, h, if_neg Bool.false_ne_true]

/-- A request for a split that waits or runs takes no new place (R327). -/
theorem requestSplit_again {core half : Nat} (h : splitPermitted s core = true) {a : Activity}
    (ha : liveActivity s 0x0201 (2 * core + half) = some a) :
    requestSplit s core half = s.setFld F.CHK_SPLIT_STATUS.LAST_REQ (b2n (a.state == 0)) := by
  rw [requestSplit, if_pos h, askSplit, ha]

/-- A permitted split takes its place (R83). -/
theorem requestSplit_new {core half : Nat} (h : splitPermitted s core = true)
    (ha : liveActivity s 0x0201 (2 * core + half) = none) : requestSplit s core half =
      newActivity (showSplitRequest s (splitMustWait s)) 1 0x0201 (2 * core + half) (b2n (!splitMustWait s)) := by
  rw [requestSplit, if_pos h, askSplit, ha]

/-- A self-test, the partner's split or another split stands in a split's way (R83). -/
theorem splitMustWait_of_busy (h : (s.flag F.CHK_STATUS.VERDICT_BUSY || s.flag F.CHK_STATUS.VERDICT_QUEUED ||
    s.pair.partSplit || s.flag F.CHK_STATUS.SPLIT_BUSY) = true) : splitMustWait s = true := by
  unfold splitMustWait
  rw [h, Bool.true_or]

theorem exec_splitRequest_keyed {v : Word} (hk : getBits v 31 16 = 0x3C96) (hr : v.getLsbD 0 = true) :
    exec (.splitRequest v) s = .next (requestSplit s (getBits v 5 2) (getBits v 1 1)) := by
  show Host.Outcome.next (writeSplit s v) = _
  rw [writeSplit, if_pos ⟨hk, hr⟩]

/-- What a permitted split that takes its place shows. -/
theorem requestSplit_new_shows {core half : Nat} (h : splitPermitted s core = true)
    (ha : liveActivity s 0x0201 (2 * core + half) = none) : let t := requestSplit s core half
    t.fld F.CHK_SPLIT_STATUS.LAST_REQ = b2n (splitMustWait s) ∧ t.actNext = s.actNext + 1 ∧
    liveActivity t 0x0201 (2 * core + half) =
      some ⟨s.actNext, 1, 0x0201, 2 * core + half, if splitMustWait s then 0 else 1⟩ := by
  have place : b2n (!splitMustWait s) = if splitMustWait s then 0 else 1 := by cases splitMustWait s <;> rfl
  have next : (showSplitRequest s (splitMustWait s)).actNext = s.actNext := by rw [showSplitRequest_frame]
  rw [requestSplit_new s h ha, place]
  refine ⟨lastReq_showSplitRequest s _, congrArg (· + 1) next, ?_⟩
  rw [liveActivity_newActivity _ _ _ _ (by split <;> decide), next]

end Request

section Start

variable (s : State) (a : Activity)

/-! ## The start -/

theorem exec_splitStart_free (h : nextSplit s = some a) (hv : s.flag F.CHK_STATUS.VERDICT_BUSY = false)
    (hp : s.pair.partSplit = false) (hb : s.flag F.CHK_STATUS.SPLIT_BUSY = false) :
    exec .splitStart s = .next (if splitPermitted s (a.target / 2) then beginSplit (s.at 61000) a
      else showSplitIdle (setActivity s a.num 3)) := by
  show execSplitStart s = _
  unfold execSplitStart
  rw [h]
  dsimp only
  rw [hv, hp, hb, if_neg (by decide)]
  split <;> rfl

/-- The registers of a split that starts (R84). -/
def showSplit : State :=
  ((((s.setFlag F.CHK_STATUS.SPLIT_BUSY true).setFld F.CHK_SPLIT_STATUS.LCORE (a.target / 2)).setFld
    F.CHK_SPLIT_STATUS.HALF (a.target % 2)).setFld F.CHK_SPLIT_STATUS.STATE 2).setFld F.CHK_SPLIT_STATUS.REMAIN 160

theorem beginSplit_eq : beginSplit s a = ((setActivity (showSplit s a) a.num 1).withCheck (fun c =>
    { c with splitAt := some (setActivity (showSplit s a) a.num 1).tick })).strait 7 0 [0, 1] := rfl

theorem beginSplit_frame : (beginSplit s a).regs = (showSplit s a).regs ∧
    (beginSplit s a).acts = (setActivity s a.num 1).acts ∧ (beginSplit s a).check.splitAt = some s.tick := by
  have tick : (showSplit s a).tick = s.tick := by
    unfold showSplit State.setFlag
    simp (disch := decide) only [State.tick_setFld]
  rw [beginSplit_eq, State.strait, State.straitOn_frame, ← tick]
  exact ⟨rfl, rfl, rfl⟩

theorem showSplit_shows (h : a.target / 2 < 16) : let t := showSplit s a
    t.flag F.CHK_STATUS.SPLIT_BUSY = true ∧ t.fld F.CHK_SPLIT_STATUS.REMAIN = 160 ∧
    t.fld F.CHK_SPLIT_STATUS.LCORE = a.target / 2 ∧ t.fld F.CHK_SPLIT_STATUS.HALF = a.target % 2 := by
  refine ⟨?_, ?_, ?_, ?_⟩ <;> unfold showSplit <;>
    simp (disch := decide) only [State.fld_setFld_other, State.fld_setFld_same, State.flag_setFld_other,
      State.flag_setFlag_same]
  · rfl
  · exact Nat.mod_eq_of_lt h
  · exact Nat.mod_mod _ _

end Start

section Rejoin

variable (s : State) (pass : Bool)

/-! ## The end -/

/-- The registers that show the end of a split (R84). -/
def showRejoin : State :=
  ((s.setFlag F.CHK_SPLIT_STATUS.PASS pass).setFld F.CHK_SPLIT_STATUS.REMAIN 0).setFlag F.CHK_STATUS.SPLIT_BUSY false

theorem showRejoin_shows : (showRejoin s pass).flag F.CHK_STATUS.SPLIT_BUSY = false ∧
    (showRejoin s pass).flag F.CHK_SPLIT_STATUS.PASS = pass ∧ (showRejoin s pass).tick = s.tick := by
  refine ⟨State.flag_setFlag_same _ _ false (by decide) (by decide), ?_, ?_⟩ <;> unfold showRejoin State.setFlag
  · rw [State.flag_setFld_other _ _ _ _ (by decide), State.flag_setFld_other _ _ _ _ (by decide)]
    exact State.flag_setFlag_same s _ pass (by decide) (by decide)
  · simp (disch := decide) only [State.tick_setFld]

/-- The split has ended: its activity is over, and STATE shows whether another waits. -/
def closeSplit : State := showSplitIdle (endActivity (showRejoin s pass) 0x0201 pass)

theorem closeSplit_shows : (closeSplit s pass).flag F.CHK_STATUS.SPLIT_BUSY = false ∧
    (closeSplit s pass).flag F.CHK_SPLIT_STATUS.PASS = pass ∧ (closeSplit s pass).tick = s.tick := by
  obtain ⟨busy, passed, tick⟩ := showRejoin_shows s pass
  exact ⟨(State.flag_setFld_other _ _ _ _ (by decide)).trans busy,
    (State.flag_setFld_other _ _ _ _ (by decide)).trans passed, (State.tick_setFld _ _ (by decide)).trans tick⟩

/-- The tester rejoins, or its core is degraded for good (R84). -/
def rejoin : State :=
  let core := s.fld F.CHK_SPLIT_STATUS.LCORE
  let t := (closeSplit s pass).withCheck (fun c => { c with
    splitAt := none, degraded := if pass then c.degraded else insertSorted core c.degraded })
  if pass then forgetMember (forgetMember t core 0) core 1 else t.setFlag F.CHK_STATUS.DEGRADED true

theorem rejoin_shows : let t := rejoin s pass
    t.flag F.CHK_STATUS.SPLIT_BUSY = false ∧ t.flag F.CHK_SPLIT_STATUS.PASS = pass ∧
    (pass = false → t.flag F.CHK_STATUS.DEGRADED = true) ∧ t.tick = s.tick ∧ t.recorder = s.recorder ∧
    t.check.splitAt = none ∧ t.check.queuedTrigger = s.check.queuedTrigger := by
  obtain ⟨busy, passed, tick⟩ := closeSplit_shows s pass
  cases pass with
  | true =>
    unfold rejoin
    dsimp only
    rw [if_pos rfl, (forgetMember_rest _ _ 1 0).2, (forgetMember_rest _ _ 0 0).2]
    exact ⟨busy, passed, fun h => absurd h (by decide), tick, rfl, rfl, rfl⟩
  | false =>
    exact ⟨(State.flag_setFld_other _ _ _ _ (by decide)).trans busy,
      (State.flag_setFld_other _ _ _ _ (by decide)).trans passed,
      fun _ => State.flag_setFlag_same _ _ true (by decide) (by decide),
      (State.tick_setFld _ _ (by decide)).trans tick, rfl, rfl, rfl⟩

/-- The end of the split is recorded and the partner hears of it (R84). -/
def reportRejoin : State :=
  ((rejoin s pass).raise 3 5 (s.fld F.CHK_SPLIT_STATUS.LCORE)
    (d1 (s.fld F.CHK_SPLIT_STATUS.HALF) ++ d1 (b2n pass))).strait 7 0 [0, 0]

theorem endSplit_eq : endSplit s pass = startQueuedVerdict (reportRejoin s pass) := rfl

theorem reportRejoin_frame : (reportRejoin s pass).regs = (rejoin s pass).regs ∧
    (reportRejoin s pass).check = (rejoin s pass).check ∧
    ∃ e, (reportRejoin s pass).recorder.raised = (rejoin s pass).recorder.raised ++ [e] ∧ e.cls = 3 ∧ e.code = 5 := by
  unfold reportRejoin State.strait
  rw [State.straitOn_frame]
  exact ⟨rfl, rfl, _, rfl, rfl, rfl⟩

theorem reportRejoin_shows : let t := reportRejoin s pass
    t.flag F.CHK_STATUS.SPLIT_BUSY = false ∧ t.flag F.CHK_SPLIT_STATUS.PASS = pass ∧
    (pass = false → t.flag F.CHK_STATUS.DEGRADED = true) ∧ t.tick = s.tick ∧
    (∃ e, t.recorder.raised = s.recorder.raised ++ [e] ∧ e.cls = 3 ∧ e.code = 5) ∧
    t.check.splitAt = none ∧ t.check.queuedTrigger = s.check.queuedTrigger := by
  obtain ⟨busy, passed, degraded, tick, recorder, check⟩ := rejoin_shows s pass
  obtain ⟨regs, same, report⟩ := reportRejoin_frame s pass
  have reg (a : Nat) : (reportRejoin s pass).reg a = (rejoin s pass).reg a := by rw [State.reg, regs, State.reg]
  rw [recorder] at report
  dsimp only
  rw [same]
  exact ⟨(State.flag_of_reg (reg _)).trans busy, (State.flag_of_reg (reg _)).trans passed,
    fun h => (State.flag_of_reg (reg _)).trans (degraded h), (State.dword_of_reg (reg _) (reg _)).trans tick,
    report, check⟩

end Rejoin

/-- A verdict self-test that waited starts, and what was raised before it stays in front (R81). -/
theorem startQueuedVerdict_spec (s : State) :
    (∀ f : Fld, f.reg ≠ A.CHK_STATUS ∨ f.hi < 3 ∨ 4 < f.lo → (startQueuedVerdict s).flag f = s.flag f) ∧
    (startQueuedVerdict s).check.splitAt = s.check.splitAt ∧
    (∃ es, (startQueuedVerdict s).recorder.raised = s.recorder.raised ++ es) ∧
    (s.check.queuedTrigger.isSome = true → (startQueuedVerdict s).flag F.CHK_STATUS.VERDICT_BUSY = true ∧
      (startQueuedVerdict s).check.verdictAt = some s.tick) := by
  unfold startQueuedVerdict
  cases h : s.check.queuedTrigger with
  | none => exact ⟨fun _ _ => rfl, rfl, ⟨[], (List.append_nil _).symm⟩, fun hs => absurd hs (by decide)⟩
  | some trigger =>
    dsimp only
    generalize hu : runActivity ((s.setFlag F.CHK_STATUS.VERDICT_QUEUED false).withCheck
      (fun c => { c with queuedTrigger := none })) 0x0202 0 = u
    have tick : u.tick = s.tick := hu ▸ State.tick_setFld s _ (by decide)
    have others (f : Fld) (hf : f.reg ≠ A.CHK_STATUS ∨ f.hi < 4 ∨ 4 < f.lo) : u.fld f = s.fld f :=
      hu ▸ State.fld_setFld_other s _ f _ hf
    obtain ⟨busy, flds, check, e, raised⟩ := beginVerdict_spec u trigger
    refine ⟨fun f hf => ?_, ?_, ⟨[e], ?_⟩, fun _ => ⟨busy, ?_⟩⟩
    · obtain ⟨starts, waits⟩ : (f.reg ≠ A.CHK_STATUS ∨ f.hi < 3 ∨ 3 < f.lo) ∧
          (f.reg ≠ A.CHK_STATUS ∨ f.hi < 4 ∨ 4 < f.lo) := by omega
      exact congrArg (· != 0) ((flds f starts).trans (others f waits))
    · rw [check, ← hu]
      rfl
    · rw [raised, ← hu]
      rfl
    · rw [check, tick]

/-- In the guard window of tick s + 160 the split ends (R84). -/
theorem exec_splitRejoin_due {s : State} {n : DWord} (h : s.check.splitAt = some n) (ht : s.tick = n + 160)
    (pass : Bool) : exec (.splitRejoin pass) s = .next (endSplit (s.at 61000) pass) := by
  show execSplitRejoin pass s = _
  unfold execSplitRejoin
  rw [h]
  exact congrArg _ (if_pos ht)

/-- What the end of a split shows, and the verdict self-test that waited for it. -/
theorem endSplit_shows (s : State) (pass : Bool) : let t := endSplit s pass
    t.flag F.CHK_STATUS.SPLIT_BUSY = false ∧ t.flag F.CHK_SPLIT_STATUS.PASS = pass ∧ t.check.splitAt = none ∧
    (pass = false → t.flag F.CHK_STATUS.DEGRADED = true) ∧
    (s.check.queuedTrigger.isSome → t.flag F.CHK_STATUS.VERDICT_BUSY = true ∧ t.check.verdictAt = some s.tick) ∧
    ∃ e es, t.recorder.raised = s.recorder.raised ++ e :: es ∧ e.cls = 3 ∧ e.code = 5 := by
  obtain ⟨busy, passed, degraded, tick, ⟨e, report, kind⟩, splitAt, queued⟩ := reportRejoin_shows s pass
  obtain ⟨flags, split, ⟨es, raised⟩, starts⟩ := startQueuedVerdict_spec (reportRejoin s pass)
  rw [tick, queued] at starts
  rw [endSplit_eq]
  refine ⟨(flags _ (by decide)).trans busy, (flags _ (by decide)).trans passed, split.trans splitAt,
    fun h => (flags _ (by decide)).trans (degraded h), starts, e, es, ?_, kind⟩
  rw [raised, report, List.append_assoc, List.singleton_append]

end Sys2Proof.Machine
end

section
/-! The verdict self-test and the pair split: the statement of O23. -/

namespace Sys2Proof.Machine

open Sys2Proof

/-- A core that may be split is one of the first four. -/
theorem core_le_of_splitPermitted {s : State} {core : Nat} (h : splitPermitted s core = true) : core ≤ 3 := by
  unfold splitPermitted at h
  simp only [Bool.and_eq_true, decide_eq_true_eq] at h
  obtain ⟨⟨-, core⟩, -⟩ := h
  exact core

/-- Settles O23: the self-test ends by its first failed part; a split is asked for, starts and ends. -/
theorem verdictAndSplit : Obligations.VerdictAndSplit := by
  unfold Obligations.VerdictAndSplit
  refine ⟨fun s m a b x y c n h ht hx hy hm => verdict_ends h ht hx hy hm, fun s n h => verdictTick_meets h,
    fun s v hk hr => ?request, fun s a h hv hp hb => ⟨fun hs => ?starts, fun hs => ?fails⟩, fun s pass n h ht => ?ends⟩
  case request =>
    refine ⟨_, exec_splitRequest_keyed s hk hr, fun hp => ?_, fun hp a ha => ?_, fun hp ha => ?_⟩
    · rw [requestSplit_refused s hp]
      exact ⟨State.fld_setFld_same _ _ _ (by decide), rfl, rfl⟩
    · rw [requestSplit_again s hp ha]
      refine ⟨?_, rfl⟩
      rw [State.fld_setFld_same _ _ _ (by decide)]
      by_cases e : a.state = 0 <;> simp [e, b2n]
    · obtain ⟨lastReq, next, place⟩ := requestSplit_new_shows s hp ha
      refine ⟨fun hw => ?_, fun hw => ?_, next, place⟩
      · rw [lastReq, splitMustWait_of_busy s hw]
        rfl
      · rw [lastReq, hw]
        rfl
  case starts =>
    obtain ⟨regs, acts, splitAt⟩ := beginSplit_frame (s.at 61000) a
    obtain ⟨busy, remain, core, half⟩ := showSplit_shows (s.at 61000) a
      (Nat.lt_of_le_of_lt (core_le_of_splitPermitted hs) (by decide))
    have reg (k : Nat) : (beginSplit (s.at 61000) a).reg k = (showSplit (s.at 61000) a).reg k := by
      rw [State.reg, regs, State.reg]
    rw [exec_splitStart_free s a h hv hp hb, if_pos hs]
    refine ⟨_, rfl, (State.flag_of_reg (reg _)).trans busy, (State.fld_of_reg (reg _)).trans remain,
      (State.fld_of_reg (reg _)).trans core, (State.fld_of_reg (reg _)).trans half, ?_, ?_⟩
    · rw [splitAt, State.tick_at]
    · rw [acts]
      exact state_setActivity (s.at 61000) a.num 1
  case fails =>
    rw [exec_splitStart_free s a h hv hp hb, hs, if_neg Bool.false_ne_true]
    exact ⟨_, rfl, rfl, rfl, state_setActivity s a.num 3⟩
  case ends =>
    have shows := endSplit_shows (s.at 61000) pass
    rw [State.tick_at] at shows
    exact ⟨_, exec_splitRejoin_due h ht pass, shows⟩

end Sys2Proof.Machine
end

section
/-! Staging and the store: the refutation of O30. -/

namespace Sys2Proof.Machine

open Sys2Proof

/-- While MRAM is write-protected an arm in SAFE leaves the active-bank record as it is (R227, R322). -/
theorem armStaged_protected {s : State} (hm : s.mode = stSafe) (hp : s.mramProtected = true) (k : Nat) (im : Image) :
    (armStaged s k im).activeRec = s.activeRec := by
  have primary : s.mode ≠ stPrimary := by rw [hm]; decide
  have solo : s.mode ≠ stSolo := by rw [hm]; decide
  have held : (holdCommand s k).mramProtected = true := by
    rw [holdCommand_frame]
    exact hp
  rw [armStaged, if_neg primary, if_neg solo, if_pos hm]
  show (if (holdCommand s k).mramProtected then (holdCommand s k).activeRec else _) = s.activeRec
  rw [if_pos held, holdCommand_frame]

/-- IMAGE_ARM at the front arms the image that is staged, unless an arm is under way (R93). -/
theorem exec_imageArm_staged {s : State} {k : Nat} {q : QCmd} {rest : List QCmd} {im : Image} (h : Fronts s k 0x24 q rest)
    (hi : s.loader.img = some im) (hl : loaderState s = ldStaged) (ha : s.loader.asking = none)
    (hd : s.loader.armDue = none) : exec (.imageArm k) s = .next (armStaged s k im) := by
  show execImageArm k s = _
  rw [execImageArm, onCommand_of_fronts h, hi]
  simp [hl, ha, hd]

/-- An active-bank record names its bank, so that it is never empty. -/
theorem activeBytes_ne_nil (b : Nat) (seq : Word) (digest : List Byte) : activeBytes b seq digest ≠ [] := by
  simp [activeBytes, checkedRecord, d1]

/-- An IMAGE_ARM as it stands in a queue. -/
def armCommand : QCmd := ⟨1, 0x24, [], none, 0, false⟩

/-- A module in SAFE that holds a staged image, 12 ms after its supply-fail warning, with IMAGE_ARM at the front of session
0: MRAM is write-protected (R322), and no active-bank record has been written. -/
def warnedArm : State :=
  let s := (State.reset.setFld F.SYS_STATE.STATE stSafe).setFld F.HOOD_STATUS.STATE ldStaged
  let s := (s.setNow 12000000 0).setFlag F.PWR_STATUS.WARNING true
  { s.setSess 0 { Session.free with queue := [armCommand] } with
    loader := { Loader.idle with img := some (readImage []) }
    power := { s.power with warned := true, warnedAt := 0 } }

/-- Refutes O30: an arm in SAFE does not write the active-bank record once MRAM is write-protected, 12 ms after the supply-fail
warning (R227, R322), and the clause for SAFE has no hypothesis that excludes it. -/
theorem not_imagesAreStagedAndStored : ¬ Obligations.ImagesAreStagedAndStored := by
  unfold Obligations.ImagesAreStagedAndStored
  rintro ⟨staging, -⟩
  have fronts : Fronts warnedArm 0 0x24 armCommand [] := by decide
  have staged : loaderState warnedArm = ldStaged := by decide
  have safe : warnedArm.mode = stSafe := by decide
  have guarded : warnedArm.mramProtected = true := by decide
  obtain ⟨-, -, -, -, arms⟩ := staging warnedArm 0 armCommand []
  obtain ⟨-, -, inSafe, -⟩ := arms (readImage []) fronts rfl staged rfl rfl
  obtain ⟨t, ht, -, -, -, -, -, record, -⟩ := inSafe safe
  rw [exec_imageArm_staged fronts rfl staged rfl rfl] at ht
  obtain rfl : armStaged warnedArm 0 (readImage []) = t := Host.Outcome.next.inj ht
  rw [armStaged_protected safe guarded] at record
  exact activeBytes_ne_nil _ _ _ record.symm

end Sys2Proof.Machine
end

section
/-! SUPPORT. What a switch and an entry into ARMED leave of the module beside what they are for (R95, R98, R100): the registers
that tell the tick and the module's state, the running image, and, of the loader, what a switch has settled. -/

namespace Sys2Proof.Machine

open Sys2Proof

/-! ## What is left -/

/-- The registers that tell the module's state and its tick. -/
def clockRegs : List Nat := [A.SYS_STATE, A.SYS_TICK_LO, A.SYS_TICK_HI]

/-- The registers that tell the loader's state and its planned tick. -/
def loaderRegs : List Nat := [A.HOOD_STATUS, A.HOOD_SWITCH_LO, A.HOOD_SWITCH_HI]

/-- Whether a register is none of them. -/
def aside (a : Nat) : Bool := !(clockRegs ++ loaderRegs).contains a

/-- Whether the copies of a register for its items are none of them. -/
def asideItem (a : Nat) : Bool := decide (a < 0x1000000) && aside a

/-- The registers that are left: with `arm` also those of the loader. -/
def keptRegs (arm : Bool) : List Nat := if arm then clockRegs ++ loaderRegs else clockRegs

/-- What is left: the clock, the running image, the ACTIVATE that is due and the last switch; with `arm` also what an arm
rests on, the loader's registers, the sessions with their commands, and which of them waits. -/
def switchSide (arm : Bool) (s : State) : List Word × Option Image × Option Nat × DWord ×
    Option (List (Nat × Session) × Option Nat × Option (DWord × DWord × Nat)) :=
  ((keptRegs arm).map s.reg, s.image, s.loader.activate, s.loader.lastSwitch,
    if arm then some (s.sessions, s.loader.waitSlot, s.loader.armDue) else none)

variable {arm : Bool} {s t : State}

/-- Each register that is left reads alike. -/
theorem reg_of_switchSide (h : switchSide arm t = switchSide arm s) {a : Nat} (ha : a ∈ keptRegs arm) :
    t.reg a = s.reg a :=
  List.map_inj_left.mp (Prod.mk.inj h).1 a ha

/-- So does what the module and its loader hold. -/
theorem fields_of_switchSide (h : switchSide arm t = switchSide arm s) : t.image = s.image ∧
    t.loader.activate = s.loader.activate ∧ t.loader.lastSwitch = s.loader.lastSwitch := by
  simp only [switchSide, Prod.mk.injEq] at h
  obtain ⟨-, image, activate, last, -⟩ := h
  exact ⟨image, activate, last⟩

/-- And what an arm rests on. -/
theorem arm_of_switchSide (h : switchSide true t = switchSide true s) : t.sessions = s.sessions ∧
    t.loader.waitSlot = s.loader.waitSlot ∧ t.loader.armDue = s.loader.armDue := by
  simp only [switchSide, Prod.mk.injEq, if_true, Option.some.injEq] at h
  obtain ⟨-, -, -, -, sessions, slot, due⟩ := h
  exact ⟨sessions, slot, due⟩

/-! ## Writes of registers -/

/-- A register that is none of those kept. -/
theorem switchSide_setReg_of {a : Nat} (h : a ∉ keptRegs arm) (v : Word) :
    switchSide arm (s.setReg a v) = switchSide arm s := by
  unfold switchSide
  rw [List.map_congr_left fun b hb => State.reg_setReg_other s v (fun e => h (e ▸ hb) : b ≠ a)]
  rfl

@[simp] theorem switchSide_setReg {a : Nat} (h : aside a = true) (v : Word) :
    switchSide arm (s.setReg a v) = switchSide arm s := by
  refine switchSide_setReg_of (fun e => ?_) v
  have kept : a ∈ clockRegs ++ loaderRegs := by
    cases arm
    · exact List.mem_append_left _ e
    · exact e
  simp [aside, kept] at h

/-- Items stand apart from every register without items. -/
@[simp] theorem aside_itemKey {a : Nat} (h : asideItem a = true) (i : Nat) : aside (itemKey a i) = true := by
  simp only [asideItem, Bool.and_eq_true, decide_eq_true_eq] at h
  obtain ⟨low, apart⟩ := h
  have kept : ∀ b ∈ clockRegs ++ loaderRegs, b % 0x1000000 = b := by decide
  simp only [aside, Bool.not_eq_true', List.contains_eq_mem, decide_eq_false_iff_not] at apart ⊢
  intro hm
  have same := kept _ hm
  rw [itemKey_mod i low] at same
  exact apart (same ▸ hm)

/-- Ring blocks stand behind every register that is kept. -/
theorem aside_high {a : Nat} (h : 0xE0000 ≤ a) : aside a = true := by
  have kept : ∀ b ∈ clockRegs ++ loaderRegs, b < 0xE0000 := by decide
  simp only [aside, Bool.not_eq_true', List.contains_eq_mem, decide_eq_false_iff_not]
  exact fun hm => Nat.not_le.mpr (kept a hm) h

@[simp] theorem aside_canWord (b i w : Nat) : aside (canWord b i w) = true := by
  have base : canWord b i w = 0x148000 + b * 0x2000 + i * 0x80 + 4 * w := rfl
  exact aside_high (by omega)

variable (s)

@[simp] theorem switchSide_setRegItem {a : Nat} (h : asideItem a = true) (i : Nat) (v : Word) :
    switchSide arm (s.setReg (no_index (itemKey a i)) v) = switchSide arm s :=
  switchSide_setReg (aside_itemKey h i) v

@[simp] theorem switchSide_setFld {f : Fld} (h : aside f.reg = true) (v : Nat) :
    switchSide arm (s.setFld f v) = switchSide arm s :=
  switchSide_setReg h _

@[simp] theorem switchSide_setItem {f : Fld} (h : asideItem f.reg = true) (i v : Nat) :
    switchSide arm (s.setFld (no_index (f.item i)) v) = switchSide arm s :=
  switchSide_setReg (aside_itemKey h i) _

@[simp] theorem switchSide_setRingFld {f : Fld} (h : 0xE0000 ≤ f.reg) (k v : Nat) :
    switchSide arm (s.setFld (no_index (f.ring k)) v) = switchSide arm s :=
  switchSide_setReg (aside_high (Nat.le_add_right_of_le h)) _

@[simp] theorem switchSide_setStation {f : Fld} (h : 0xE0000 ≤ f.reg) (k i v : Nat) :
    switchSide arm (s.setFld (no_index (stnFld f k i)) v) = switchSide arm s :=
  switchSide_setReg (aside_high (Nat.le_add_left_of_le (Nat.le_add_right_of_le h))) _

@[simp] theorem switchSide_setDword {a : Nat} (h : aside a = true) (h' : aside (a + 4) = true) (v : DWord) :
    switchSide arm (s.setDword a v) = switchSide arm s := by
  rw [State.setDword, switchSide_setReg h', switchSide_setReg h]

@[simp] theorem switchSide_setDwordItem {a : Nat} (h : asideItem a = true) (h' : asideItem (a + 4) = true) (i : Nat)
    (v : DWord) : switchSide arm (s.setDword (no_index (itemKey a i)) v) = switchSide arm s :=
  switchSide_setDword s (aside_itemKey h i) (itemKey_high a i ▸ aside_itemKey h' i) v

/-! ## Other updates -/

/-- What holds no register and nothing of the loader. -/
@[simp] theorem switchSide_updates : (∀ o, switchSide arm (s.emit o) = switchSide arm s) ∧
    (∀ c d e det, switchSide arm (s.raise c d e det) = switchSide arm s) ∧
    (∀ f, switchSide arm (s.withPair f) = switchSide arm s) ∧ (∀ f, switchSide arm (s.withTime f) = switchSide arm s) ∧
    (∀ f, switchSide arm (s.withDio f) = switchSide arm s) ∧ (∀ f, switchSide arm (s.withPower f) = switchSide arm s) ∧
    (∀ i x, switchSide arm (s.setTask i x) = switchSide arm s) ∧ (∀ i x, switchSide arm (s.setMaster i x) = switchSide arm s) ∧
    (∀ i x, switchSide arm (s.setAxis i x) = switchSide arm s) ∧ (∀ i x, switchSide arm (s.setRing i x) = switchSide arm s) ∧
    (∀ i x, switchSide arm (s.setChan i x) = switchSide arm s) ∧ (∀ i x, switchSide arm (s.setAna i x) = switchSide arm s) ∧
    (∀ i x, switchSide arm (s.setModem i x) = switchSide arm s) ∧ (∀ i x, switchSide arm (s.setGrp i x) = switchSide arm s) ∧
    (∀ i x, switchSide arm (s.setCan i x) = switchSide arm s) ∧ (∀ i x, switchSide arm (s.setSer i x) = switchSide arm s) :=
  by and_intros <;> intros <;> rfl

@[simp] theorem switchSide_setSess (k : Nat) (x : Session) : switchSide false (s.setSess k x) = switchSide false s := rfl

@[simp] theorem switchSide_ite {c : Prop} [Decidable c] (t u : State) :
    switchSide arm (if c then t else u) = if c then switchSide arm t else switchSide arm u :=
  apply_ite ..

@[simp] theorem switchSide_foldl {α : Type} {f : State → α → State}
    (h : ∀ t x, switchSide arm (f t x) = switchSide arm t) (xs : List α) :
    switchSide arm (xs.foldl f s) = switchSide arm s :=
  foldl_frame s (switchSide arm) f h xs

/-! ## Triggers and captures -/

@[simp] theorem switchSide_setTrigNext (i : Nat) (t : Option DWord) :
    switchSide arm (setTrigNext s i t) = switchSide arm s := by simp [setTrigNext]

@[simp] theorem switchSide_trigState (i v : Nat) : switchSide arm (trigState s i v) = switchSide arm s := by
  simp (decide := true) [trigState]

@[simp] theorem switchSide_armTrigger (i : Nat) : switchSide arm (armTrigger s i) = switchSide arm s := by
  unfold armTrigger
  dsimp only
  split
  · rfl
  · split <;> simp (decide := true) [State.note]

@[simp] theorem switchSide_writeTrigCtrl (i : Nat) (v : Word) : switchSide arm (writeTrigCtrl s i v) = switchSide arm s := by
  simp (decide := true) [writeTrigCtrl]

@[simp] theorem switchSide_stampUnit (c : Nat) (ns : DWord) (frac : Nat) :
    switchSide arm (stampUnit s c ns frac) = switchSide arm s := by
  simp (decide := true) [stampUnit, State.note]

@[simp] theorem switchSide_stampStart (n : Nat) (ns : DWord) : switchSide arm (stampStart s n ns) = switchSide arm s := by
  simp [stampStart]

@[simp] theorem switchSide_limitRate : switchSide arm (limitRate s) = switchSide arm s := by
  simp (decide := true) [limitRate, State.note]

/-! ## Converter groups and analogue channels -/

@[simp] theorem switchSide_convPush (g : Nat) (bs : List Byte) : switchSide arm (convPush s g bs) = switchSide arm s := by
  simp [convPush]

@[simp] theorem switchSide_convBegin (g : Nat) (e : FastEntry) (t : DWord) :
    switchSide arm (convBegin s g e t) = switchSide arm s := by
  simp (decide := true) [convBegin, State.setFlag]

@[simp] theorem switchSide_startSequence (g : Nat) (t : DWord) :
    switchSide arm (startSequence s g t) = switchSide arm s := by
  unfold startSequence
  dsimp only
  split
  · rfl
  · split <;> simp (decide := true) [sequenceBegins, convEntry, convLost, State.setFlag, State.note, State.count]

@[simp] theorem switchSide_writeGrpCtrl (v : Word) : switchSide arm (writeGrpCtrl s v) = switchSide arm s := by
  simp (decide := true) [writeGrpCtrl, State.setFlag]

@[simp] theorem switchSide_convSamples (g : Nat) (vs : List Int) :
    switchSide arm (convSamples s g vs) = switchSide arm s := by
  unfold convSamples
  split <;> simp (decide := true) [convSample, State.note, State.count]

@[simp] theorem switchSide_writeUrgent (v : Word) (samples : List Int) (t : DWord) :
    switchSide arm (writeUrgent s v samples t) = switchSide arm s := by
  unfold writeUrgent
  dsimp only
  split
  · rfl
  · split
    · simp (decide := true)
    · split
      · split <;> simp (decide := true)
      · simp (decide := true) [convTrailer]

@[simp] theorem switchSide_anaStart (c : Nat) (t : DWord) : switchSide arm (anaStart s c t) = switchSide arm s := by
  simp (decide := true) [anaStart, State.note]

@[simp] theorem switchSide_freeRunStarts : switchSide arm (freeRunStarts s) = switchSide arm s := by
  simp [freeRunStarts]

@[simp] theorem switchSide_setReference (on : Bool) : switchSide arm (setReference s on) = switchSide arm s := by
  simp (decide := true) [setReference, discardIntegrations, State.setFlag]

@[simp] theorem switchSide_drainAnalogue (g : Nat) : switchSide arm (drainAnalogue s g) = switchSide arm s := by
  simp (decide := true) [drainAnalogue, driveTerminal, convIdle, State.setFlag]

/-! ## Trim and HART -/

@[simp] theorem switchSide_trimResult (code : Nat) : switchSide arm (trimResult s code) = switchSide arm s := by
  simp (decide := true) [trimResult]

@[simp] theorem switchSide_trimField (x : Option TrimSt) : switchSide arm { s with trim := x } = switchSide arm s := rfl

@[simp] theorem switchSide_trimEnd (code : Nat) : switchSide arm (trimEnd s code) = switchSide arm s := by
  simp (decide := true) [trimEnd]

@[simp] theorem switchSide_driveTrim (c : Nat) : switchSide arm (driveTrim s c) = switchSide arm s := by
  simp [driveTrim, driveTerminal]

@[simp] theorem switchSide_markPages (ps : List Nat) : switchSide arm (s.markPages ps) = switchSide arm s := by
  unfold State.markPages
  split <;> rfl

@[simp] theorem switchSide_setTrim (c : Nat) (z g : Int) : switchSide arm (setTrim s c z g) = switchSide arm s := by
  have put (t : State) (a : Nat) (bs : List Byte) : switchSide arm (retainedPut t a bs) = switchSide arm t :=
    switchSide_markPages _ _
  simp (decide := true) [setTrim, put]

@[simp] theorem switchSide_trimPoint (t : TrimSt) (high : Bool) :
    switchSide arm (trimPoint s t high) = switchSide arm s := by
  unfold trimPoint
  dsimp only
  split
  · simp (decide := true)
  · split <;> simp (decide := true)

@[simp] theorem switchSide_trimCommit (t : TrimSt) : switchSide arm (trimCommit s t) = switchSide arm s := by
  unfold trimCommit
  split <;> simp

@[simp] theorem switchSide_writeTrim (v : Word) : switchSide arm (writeTrim s v) = switchSide arm s := by
  have on (t : TrimSt) (st step : Nat) : switchSide arm (trimStepOn s t st step) = switchSide arm s := by
    unfold trimStepOn
    dsimp only
    split <;> simp
  have step (n ch : Nat) : switchSide arm (trimStep s n ch) = switchSide arm s := by
    unfold trimStep
    split
    · exact on _ _ _
    · simp (decide := true)
  simp [writeTrim, step]

@[simp] theorem switchSide_writeHartPt (v : Word) : switchSide arm (writeHartPt s v) = switchSide arm s := by
  simp (decide := true) [writeHartPt, sendPassThrough, State.setFlag]

/-! ## Commands that complete -/

@[simp] theorem switchSide_finishCommand (k code : Nat) (data : List Byte) :
    switchSide false (finishCommand s k code data) = switchSide false s := by
  have journal (t : State) (j : DWord) (f : JRec → JRec) : switchSide false (journalUpdate t j f) = switchSide false t := by
    unfold journalUpdate
    split <;> rfl
  have count (t : State) : switchSide false (countAnswer t code) = switchSide false t := by
    simp (decide := true) [countAnswer, State.count]
  unfold finishCommand
  split
  case h_1 => rfl
  case h_2 q rest _ =>
    dsimp only
    cases q.jseq <;> split <;> simp (decide := true) [setSessQueue, State.sendNet, State.count, count, journal]

/-! ## Transfer channels -/

@[simp] theorem switchSide_setChState (c v : Nat) : switchSide arm (setChState s c v) = switchSide arm s := by
  simp (decide := true) [setChState]

@[simp] theorem switchSide_channelError (c e : Nat) : switchSide false (channelError s c e) = switchSide false s := by
  have finish (t : State) (k code : Nat) (data : List Byte) : switchSide false (finishMem t k code data) = switchSide false t := by
    unfold finishMem
    split <;> simp
  unfold channelError
  dsimp only
  split <;> simp (decide := true) [finish]

@[simp] theorem switchSide_writeXferCmd (v : Word) : switchSide false (writeXferCmd s v) = switchSide false s := by
  simp (decide := true) [writeXferCmd, busAbortAll, busResume, resumeChannel, State.setFlag]

@[simp] theorem switchSide_abortChannel (c : Nat) : switchSide false (abortChannel s c) = switchSide false s := by
  simp [abortChannel]

@[simp] theorem switchSide_channelStart (c : Nat) : switchSide arm (channelStart s c) = switchSide arm s := by
  simp (decide := true) [channelStart]

@[simp] theorem switchSide_writeChCtrl (v : Word) : switchSide false (writeChCtrl s v) = switchSide false s := by
  simp (decide := true) [writeChCtrl, State.setFlag]

/-! ## CAN -/

@[simp] theorem switchSide_setHead (b i hi lo v : Nat) :
    switchSide arm (s.setFld (no_index (headFld b i hi lo)) v) = switchSide arm s :=
  switchSide_setReg (aside_canWord b i 0) _

@[simp] theorem switchSide_setCanState (b i v : Nat) : switchSide arm (setCanState s b i v) = switchSide arm s := by
  simp [setCanState]

@[simp] theorem switchSide_txReq (b i v : Nat) : switchSide arm (s.setFld (no_index (txReqFld b i)) v) = switchSide arm s := by
  refine switchSide_setReg (aside_itemKey ?_ b) _
  split <;> decide

@[simp] theorem switchSide_txAbort (b i v : Nat) :
    switchSide arm (s.setFld (no_index (txAbortFld b i)) v) = switchSide arm s := by
  refine switchSide_setReg (aside_itemKey ?_ b) _
  split <;> decide

@[simp] theorem switchSide_txEnd (b i st : Nat) : switchSide arm (txEnd s b i st) = switchSide arm s := by
  simp [txEnd]

@[simp] theorem switchSide_txRequest (b i : Nat) : switchSide arm (txRequest s b i) = switchSide arm s := by
  simp [txRequest]

@[simp] theorem switchSide_noActive (b : Nat) : switchSide arm (noActive s b) = switchSide arm s := by
  have data (t : State) (i : Nat) (v : DWord) : switchSide arm (mapData t b i v) = switchSide arm t :=
    switchSide_setDword t (aside_canWord b i 6) (aside_canWord b i 7) v
  have again (t : State) (i : Nat) : switchSide arm (txAgain t b i) = switchSide arm t := by
    unfold txAgain
    split <;> simp [data]
  unfold noActive
  dsimp only
  split <;> simp [again]

@[simp] theorem switchSide_txBroken (b i : Nat) : switchSide arm (txBroken s b i) = switchSide arm s := by
  simp [txBroken]

@[simp] theorem switchSide_writeCanCtrl (v : Word) : switchSide arm (writeCanCtrl s v) = switchSide arm s := by
  unfold writeCanCtrl
  extract_lets b mode was t1 c t2 t3 t4
  have shown : switchSide arm t1 = switchSide arm s := by
    simp (decide := true) [t1, State.setFlag]
  have stopped : switchSide arm t3 = switchSide arm s := by
    unfold t3
    split <;> simp [t2, shown]
  have changed : switchSide arm t4 = switchSide arm s := by
    simp (decide := true) [t4, stopped, shown]
  simp (decide := true) [changed]

@[simp] theorem switchSide_eachBuffer (b : Nat) (hi : Bool) (v : Word) {f : State → Nat → Nat → State}
    (h : ∀ t b i, switchSide arm (f t b i) = switchSide arm t) : switchSide arm (eachBuffer s b hi v f) = switchSide arm s := by
  simp [eachBuffer, h]

@[simp] theorem switchSide_writeTxReq (hi : Bool) (v : Word) : switchSide arm (writeTxReq s hi v) = switchSide arm s := by
  simp [writeTxReq]

@[simp] theorem switchSide_writeTxAbort (hi : Bool) (v : Word) : switchSide arm (writeTxAbort s hi v) = switchSide arm s := by
  simp [writeTxAbort, txAbortOne]

@[simp] theorem switchSide_drainCan (b : Nat) : switchSide arm (drainCan s b) = switchSide arm s := by
  simp [drainCan]

@[simp] theorem switchSide_writeCanWord (b i w : Nat) (v : Word) :
    switchSide arm (writeCanWord s b i w v) = switchSide arm s := by
  have blocked : switchSide arm (canBlocked s b) = switchSide arm s := by
    simp (decide := true) [canBlocked, State.note]
  have head : switchSide arm (writeHead s b i v) = switchSide arm s := by
    simp [writeHead, blocked]
  unfold writeCanWord
  dsimp only
  split
  · exact blocked
  · split <;> simp [blocked, head]

/-! ## Serial lines -/

@[simp] theorem switchSide_putSer (l : Nat) (x : SerSt) : switchSide arm (putSer s l x) = switchSide arm s := by
  simp (decide := true) [putSer, showFill]

@[simp] theorem switchSide_writeSerCtrl (v : Word) : switchSide arm (writeSerCtrl s v) = switchSide arm s := by
  simp (decide := true) [writeSerCtrl, serFlush, driveIfDue, State.setFlag]

@[simp] theorem switchSide_drainSerial (l : Nat) : switchSide arm (drainSerial s l) = switchSide arm s := by
  simp (decide := true) [drainSerial, serFlush, State.setFlag]

/-! ## Sessions and domains -/

@[simp] theorem switchSide_closePort (port : Nat) : switchSide false (closePort s port) = switchSide false s := by
  have forget (t : State) (k : Nat) (heir : Option Nat) : switchSide false (forgetSession t k heir) = switchSide false t := rfl
  have bequeath (t : State) (k : Nat) : switchSide false (bequeath t k) = switchSide false t := by
    unfold Machine.bequeath
    split <;> simp [forget]
  have close (t : State) (k : Nat) : switchSide false (closeSession t k) = switchSide false t := by
    unfold closeSession
    extract_lets t1 t2
    have gone : switchSide false t2 = switchSide false t := by
      simp (decide := true) [t2, t1, bequeath]
    have latches (x) : switchSide false { t2 with latches := x } = switchSide false t2 := rfl
    simp (decide := true) [showSessions, State.setFlag, latches, gone]
  simp [closePort, close]

@[simp] theorem switchSide_requestOn (d : Nat) : switchSide arm (requestOn s d) = switchSide arm s := by
  unfold requestOn
  split <;> simp (decide := true) [State.setDom]

@[simp] theorem switchSide_requestOff (d : Nat) : switchSide false (requestOff s d) = switchSide false s := by
  unfold requestOff
  split <;> simp (decide := true) [State.setDom, startDrain, drainUnit]

@[simp] theorem switchSide_writeDomReq (v : Word) : switchSide false (writeDomReq s v) = switchSide false s := by
  simp (decide := true) [writeDomReq, askOff, State.note]

/-! ## Registers that an image initialises (R222) -/

@[simp] theorem switchSide_writeRingCtrl (k : Nat) (v : Word) : switchSide arm (writeRingCtrl s k v) = switchSide arm s := by
  simp (decide := true) [writeRingCtrl]

@[simp] theorem switchSide_writeSafeReq (v : Word) : switchSide arm (writeSafeReq s v) = switchSide arm s := by
  simp [writeSafeReq, requestSafe]

@[simp] theorem switchSide_applyTaskEn (i : Nat) (v : Word) : switchSide arm (applyTaskEn s i v) = switchSide arm s := by
  unfold applyTaskEn
  split <;> simp (decide := true) [State.setFlag]

@[simp] theorem switchSide_writeSplit (v : Word) : switchSide arm (writeSplit s v) = switchSide arm s := by
  have activity (t : State) (g code target st : Nat) : switchSide arm (newActivity t g code target st) = switchSide arm t := rfl
  have ask (core half : Nat) : switchSide arm (askSplit s core half) = switchSide arm s := by
    unfold askSplit
    split <;> simp (decide := true) [showSplitRequest, activity]
  simp (decide := true) [writeSplit, requestSplit, ask]

@[simp] theorem switchSide_writeSwapReq (v : Word) : switchSide arm (writeSwapReq s v) = switchSide arm s := by
  have send (type sub : Nat) (vals : List Nat) : switchSide arm (s.strait type sub vals) = switchSide arm s := by
    unfold State.strait
    rw [State.straitOn_frame]
    rfl
  simp [writeSwapReq, sendSwapReq, send]

@[simp] theorem switchSide_guardApplyEffect (i : Nat) (v : Word) :
    switchSide arm (guardApplyEffect s i v) = switchSide arm s := by
  unfold guardApplyEffect
  split <;> rfl

/-- A reset is put off to the end of the guard window in a running state (R324). -/
theorem switchSide_writePwrReset {s : State} (h : s.running = true) (v : Word) :
    switchSide arm (writePwrReset s v) = switchSide arm s := by
  simp [writePwrReset, commandReset, h]

/-- Nothing writes the registers that tell the clock: their fields are read-only, and no image sets them. -/
theorem clockRegs_readOnly : ∀ a ∈ clockRegs, (regAt a).all (fun r => !r.image && r.fields.all (fun f => f.acc == .ro)) = true := by
  decide

/-- A key that tells the clock is the register's own. -/
theorem eq_of_itemKey_mem_clockRegs {a i : Nat} (h : itemKey a i ∈ clockRegs) : itemKey a i = a := by
  have low : ∀ b ∈ clockRegs, b < 0x1000000 := by decide
  have := low _ h
  unfold itemKey at this ⊢
  omega

/-- A write of a register as its fields are leaves the clock. -/
theorem switchSide_storeFields {s : State} {a : Nat} {r : RegDesc} (hr : regAt a = some r) (i : Nat) (v : Word) :
    switchSide false (storeFields s (itemKey a i) r v) = switchSide false s := by
  unfold storeFields
  by_cases h : itemKey a i ∈ clockRegs
  · have closed := clockRegs_readOnly _ h
    rw [eq_of_itemKey_mem_clockRegs h, hr] at closed
    simp only [Option.all_some, Bool.and_eq_true, List.all_eq_true, beq_iff_eq] at closed
    obtain ⟨-, readOnly⟩ := closed
    have same : r.fields.foldl (fun w f => writeField w v f) (s.reg (itemKey a i)) = s.reg (itemKey a i) :=
      List.foldlRecOn _ _ (motive := fun w => w = s.reg (itemKey a i)) rfl fun w hw f hf => by
        simpa [writeField, readOnly f hf] using hw
    rw [same]
    have regs (k : Nat) : (s.setReg (itemKey a i) (s.reg (itemKey a i))).reg k = s.reg k := by
      rw [State.reg_setReg]
      split
      case isTrue e => rw [e]
      case isFalse => rfl
    unfold switchSide
    rw [List.map_congr_left fun k _ => regs k]
    rfl
  · exact switchSide_setReg_of h _

/-- So does the action that a register's table gives. -/
theorem switchSide_applyWrite {s : State} (hs : s.running = true) (a i : Nat) (v : Word) :
    switchSide false (applyWrite s a i v) = switchSide false s := by
  unfold applyWrite
  split
  case h_1 => rfl
  case h_2 r hr => simp [switchSide_storeFields hr, switchSide_writePwrReset hs]

/-- And a REGINIT record. -/
theorem switchSide_regInitOne {s : State} (hs : s.running = true) (x : RegInitRec) :
    switchSide false (regInitOne s x) = switchSide false s := by
  unfold regInitOne
  dsimp only
  split
  case h_1 => rfl
  case h_2 r hr =>
    split
    · exact switchSide_writeTrigCtrl _ _ _
    · split
      case isTrue hi =>
        refine switchSide_setReg_of (fun hm => ?_) _
        have closed := clockRegs_readOnly _ hm
        rw [eq_of_itemKey_mem_clockRegs hm, hr] at closed
        simp_all
      case isFalse => exact switchSide_applyWrite hs _ _ _

/-- The REGINIT records leave the clock of a running module. -/
theorem switchSide_applyRegInit {s : State} (hs : s.running = true) (im : Image) :
    switchSide false (applyRegInit s im) = switchSide false s := by
  unfold applyRegInit
  induction im.reginit generalizing s with
  | nil => rfl
  | cons x xs ih =>
    have one := switchSide_regInitOne hs x
    have runs : (regInitOne s x).running = true := by rw [running_of_reg (reg_of_switchSide one (by decide)), hs]
    rw [List.foldl_cons, ih runs, one]

/-! ## The registers that show an image -/

/-- Dropping entries above a key that reads other than as unlisted changes no read up to that key. -/
theorem Sparse.get_filter {α : Type} (d : Nat → α) {p : Nat × α → Bool} {a b : Nat} (hab : a ≤ b)
    (keep : ∀ e, e.1 ≤ b → p e = true) :
    ∀ {m : List (Nat × α)}, Sparse.get d m b ≠ d b → Sparse.get d (m.filter p) a = Sparse.get d m a
  | [], _ => rfl
  | (j, v) :: m, h => by
    have low : j ≤ b := by
      by_contra hj
      exact h (by rw [Sparse.get, if_neg (by omega), if_pos (by omega)])
    rw [List.filter_cons_of_pos (keep _ low), Sparse.get, Sparse.get]
    by_cases hj : j < a
    · rw [Sparse.get, if_neg (by omega), if_neg (by omega)] at h
      rw [Sparse.get_filter d hab keep h]
    · by_cases e : j = a
      · rw [if_pos e, if_pos e]
      · rw [if_neg e, if_neg e, if_pos (by omega), if_pos (by omega)]

/-- While ticks run, forgetting registers of items leaves the clock: TICK_STATUS stands between them. -/
theorem switchSide_dropRegs {s : State} (ht : s.ticking = true) {p : Nat → Bool} (hp : ∀ k ≤ A.TICK_STATUS, p k = false) :
    switchSide false (dropRegs s p) = switchSide false s := by
  have shown : s.reg A.TICK_STATUS ≠ resetValue A.TICK_STATUS := by
    intro h
    simp only [State.ticking, State.flag, State.fld, h] at ht
    exact absurd ht (by decide)
  have clock : ∀ a ∈ clockRegs, a ≤ A.TICK_STATUS := by decide
  have same (a : Nat) (ha : a ∈ clockRegs) : (dropRegs s p).reg a = s.reg a :=
    Sparse.get_filter resetValue (clock a ha) (fun e he => by simp [hp _ he]) shown
  unfold switchSide
  rw [show keptRegs false = clockRegs from rfl, List.map_congr_left same]
  rfl

@[simp] theorem switchSide_clearSkips : switchSide arm (clearSkips s) = switchSide arm s := by
  have shown : ∀ k ∈ List.range 8, aside (F.TICK_CLS_OVR0.CONSEC.nth k).reg = true := by decide
  exact foldl_frame_mem (switchSide arm) (fun t k hk => switchSide_setFld t (shown k hk) _) s

@[simp] theorem switchSide_showBounds (im : Image) :
    switchSide arm ((List.range 16).foldl (showBound im) s) = switchSide arm s := by
  have shown : ∀ k ∈ List.range 16, aside (F.TICK_CORE_PEAK0.BOUND.nth k).reg = true := by decide
  exact foldl_frame_mem (switchSide arm) (fun t k hk => switchSide_setFld t (shown k hk) _) s

@[simp] theorem switchSide_showRing (im : Image) (k : Nat) : switchSide arm (showRing im s k) = switchSide arm s := by
  unfold showRing
  split
  · exact switchSide_setReg (aside_high (Nat.le_add_right_of_le (by decide))) _
  · simp (decide := true) [setFields]

@[simp] theorem switchSide_showPort (im : Image) (p : Nat) : switchSide arm (showPort im s p) = switchSide arm s := by
  simp (decide := true) [showPort, setFields]

@[simp] theorem switchSide_showShaft (im : Image) : switchSide arm (showShaft s im) = switchSide arm s := by
  simp (decide := true) [showShaft, setFields]

/-- The registers that show an image leave the clock of a running module. -/
theorem switchSide_showImage {s : State} (ht : s.ticking = true) (im : Image) :
    switchSide false (showImage s im) = switchSide false s := by
  have apart (k : Nat) (hk : k ≤ A.TICK_STATUS) : (imageItemReg k || staleStationReg im k) = false := by
    have low : k % 0x1000000 = k := Nat.mod_eq_of_lt (Nat.lt_of_le_of_lt hk (by decide))
    have station : ¬26 ≤ k / 65536 := by
      have : k ≤ 0x10004 := hk
      omega
    have master : ¬A.SHAFT_MASTER_STATE ≤ k := Nat.not_le.mpr (Nat.lt_of_le_of_lt hk (by decide))
    have axis : ¬A.SHAFT_AXIS_STATE ≤ k := Nat.not_le.mpr (Nat.lt_of_le_of_lt hk (by decide))
    have task : k ≠ A.CORE_TASK_STATE := Nat.ne_of_lt (Nat.lt_of_le_of_lt hk (by decide))
    simp [imageItemReg, staleStationReg, low, station, master, axis, task]
  have skips : (clearSkips s).ticking = true := by
    have apart : ∀ k ∈ List.range 8, A.TICK_STATUS ≠ (F.TICK_CLS_OVR0.CONSEC.nth k).reg := by decide
    rw [State.ticking, State.flag_of_reg, ← State.ticking, ht]
    exact foldl_frame_mem (fun t => t.reg A.TICK_STATUS) (fun t k hk => State.reg_setFld_other t _ (apart k hk)) s
  have dropped := (switchSide_dropRegs skips apart).trans (switchSide_clearSkips s)
  unfold showImage
  simp (decide := true) [setFields, State.setFlag, dropped]

/-! ## Carry-over and units that begin anew (R99, R100) -/

@[simp] theorem switchSide_convSwitch : switchSide arm (convSwitch s) = switchSide arm s := by
  refine switchSide_foldl s (fun t g => ?_) _
  split <;> simp

/-- The converter groups remember their settings; no register changes. -/
theorem regs_convSwitch : (convSwitch s).regs = s.regs := by
  refine foldl_frame s State.regs _ (fun t g => ?_) _
  split <;> rfl

@[simp] theorem switchSide_countCopied : switchSide arm (countCopied s) = switchSide arm s := by
  simp (decide := true) [countCopied, State.count]

@[simp] theorem switchSide_carryVariable (prev : State) (old : Image) (r : RetainedRec) :
    switchSide arm (carryVariable prev old s r) = switchSide arm s := by
  have place (bs : List Byte) : switchSide arm (placeRetained s r bs) = switchSide arm s := by
    unfold placeRetained
    split <;> rfl
  unfold carryVariable
  split
  · rfl
  · split <;> simp (decide := true) [State.count, place]

@[simp] theorem switchSide_carryEdges (prev : State) (old : Image) (k : TaskRec) :
    switchSide arm (carryEdges prev old s k) = switchSide arm s := by
  unfold carryEdges
  split <;> simp

/-- Registers of an item from one address to another. -/
theorem switchSide_carryItemRegs (prev : State) {lo hi : Nat}
    (h : ∀ a ∈ (List.range ((hi - lo) / 4 + 1)).map (fun n => lo + 4 * n), asideItem a = true) (i j : Nat) :
    switchSide arm (carryItemRegs prev lo hi i j s) = switchSide arm s :=
  foldl_frame_mem (switchSide arm) (fun t a ha => switchSide_setRegItem t (h a ha) i _) s

@[simp] theorem switchSide_carryShaft (prev : State) (old new : Image) :
    switchSide arm (carryShaft prev old new s) = switchSide arm s := by
  have master (t : State) (i j : Nat) := switchSide_carryItemRegs (arm := arm) t prev (lo := A.SHAFT_MASTER_STATE)
    (hi := A.SHAFT_MASTER_VEL_HI) (by decide) i j
  have axis (t : State) (i j : Nat) := switchSide_carryItemRegs (arm := arm) t prev (lo := A.SHAFT_AXIS_STATE)
    (hi := A.SHAFT_AXIS_FERR) (by decide) i j
  unfold carryShaft
  extract_lets mOld aOld t1 t2
  have masters : switchSide arm t1 = switchSide arm s := by
    refine switchSide_foldl s (fun t i => ?_) _
    split <;> simp [master]
  have axes : switchSide arm t2 = switchSide arm t1 := by
    refine switchSide_foldl t1 (fun t i => ?_) _
    split <;> simp [axis]
  rw [switchSide_showShaft, axes, masters]

@[simp] theorem switchSide_freshChannel (prev : State) (atSwitch : Bool) (c : Nat) :
    switchSide arm (freshChannel prev atSwitch s c) = switchSide arm s := by
  simp (decide := true) [freshChannel, clearChannel, showBand, State.setFlag]

@[simp] theorem switchSide_startRounds : switchSide arm (startRounds s) = switchSide arm s := by
  have poll (t : State) (g : Nat) : switchSide arm (sendPoll t g) = switchSide arm t := by
    unfold sendPoll
    split <;> simp
  simp [startRounds, poll]

@[simp] theorem switchSide_freshUnits (prev : State) (atSwitch : Bool) :
    switchSide arm (freshUnits prev s atSwitch) = switchSide arm s := by
  have output (t : State) (c : Nat) : switchSide arm (dropOutput prev t c) = switchSide arm t := by
    simp [dropOutput]
  have degraded (t : State) (g : Nat) : switchSide arm (showDegraded t g) = switchSide arm t := by
    simp (decide := true) [showDegraded, State.setFlag]
  unfold freshUnits
  extract_lets t1 t2 t3
  have channels : switchSide arm t2 = switchSide arm s := by simp [t2, t1]
  have begun : switchSide arm t3 = switchSide arm s := by simp [t3, dioFresh, canFresh, output, degraded, channels]
  clear_value t3
  simp [begun]

@[simp] theorem switchSide_drainUnused (old new : Image) :
    switchSide false (drainUnused s old new) = switchSide false s := by
  simp [drainUnused]

/-! ## The switch of the memories (R98) -/

/-- The memories at their initial values, but for the outputs, which carry over by handle (R31, R98). -/
def newMemories (prev : State) (old new : Image) (s : State) : State :=
  { s with
    inImg := initialInputs new
    outImg := outputsOf new (carriedOutput old prev.outImg)
    committed := outputsOf new (carriedOutput old prev.committed)
    committedPrev := outputsOf new (carriedOutput old prev.committedPrev)
    tasks := initialTasks new, classes := [], cores := [], masters := [], axes := []
    retained := initialRetained new s.retained
    retDirty := List.range (retainedUnits new) }

/-- Registers and memories of the new image before anything carries over by identifier. -/
def laidOut (s : State) (old new : Image) : State :=
  newMemories s old new (showImage (s.setReg A.HOOD_CARRY 0) new)

/-- What carries over by identifier (R99). -/
def carriedOver (s : State) (old new : Image) : State :=
  carryShaft s old new (new.tasks.foldl (carryEdges s old) (new.retained.foldl (carryVariable s old) (laidOut s old new)))

/-- The switch of the memories, step by step. -/
theorem runCarried_eq (old new : Image) : runCarried s old new =
    freshUnits s { applyRegInit (carriedOver (convSwitch s) old new) new with image := some new } true := rfl

@[simp] theorem switchSide_newMemories (prev : State) (old new : Image) :
    switchSide arm (newMemories prev old new s) = switchSide arm s := rfl

/-- What carries over leaves the clock of a running module. -/
theorem switchSide_carriedOver {s : State} (ht : s.ticking = true) (old new : Image) :
    switchSide false (carriedOver s old new) = switchSide false s := by
  have ticks : (s.setReg A.HOOD_CARRY 0).ticking = true := by
    rw [State.ticking, State.flag_of_reg (State.reg_setReg_other _ _ (by decide)), ← State.ticking, ht]
  have laid : switchSide false (laidOut s old new) = switchSide false s := by
    rw [laidOut, switchSide_newMemories, switchSide_showImage ticks, switchSide_setReg (by decide)]
  simp [carriedOver, laid]

/-- The new image runs, and the tick is the same. -/
theorem runCarried_spec {s : State} (ht : s.ticking = true) (hs : s.running = true) (old new : Image) :
    (runCarried s old new).image = some new ∧ (runCarried s old new).tick = s.tick := by
  have ticks : (convSwitch s).ticking = true := by
    rw [State.ticking, State.flag_of_reg (s := s) (by rw [State.reg, regs_convSwitch, State.reg]), ← State.ticking, ht]
  have carried := (switchSide_carriedOver ticks old new).trans (switchSide_convSwitch s)
  have runs : (carriedOver (convSwitch s) old new).running = true := by
    rw [running_of_reg (reg_of_switchSide carried (by decide)), hs]
  have clock := (switchSide_applyRegInit runs new).trans carried
  have fresh := switchSide_freshUnits (arm := false)
    { applyRegInit (carriedOver (convSwitch s) old new) new with image := some new } s true
  rw [runCarried_eq]
  refine ⟨(fields_of_switchSide fresh).1, ?_⟩
  have tick {a : Nat} (ha : a ∈ clockRegs) := (reg_of_switchSide fresh ha).trans (reg_of_switchSide clock ha)
  exact State.dword_of_reg (tick (by decide)) (tick (by decide))

end Sys2Proof.Machine
end

section
/-! SUPPORT. An accepted arm enters ARMED (R93, R95, R206). -/

namespace Sys2Proof.Machine

open Sys2Proof

variable {arm : Bool} (s : State)

/-! ## What the preparations leave -/

@[simp] theorem switchSide_layOut (im : Image) : switchSide arm (layOut s im) = switchSide arm s := by
  unfold layOut State.storeMem
  dsimp only
  split
  · rfl
  · split <;> rfl

@[simp] theorem switchSide_ownerStart (c : Nat) : switchSide arm (ownerStart s c) = switchSide arm s := by
  simp (decide := true) [ownerStart]

@[simp] theorem switchSide_ownerDone (c : Nat) : switchSide arm (ownerDone s c) = switchSide arm s := by
  simp (decide := true) [ownerDone, channelDone]

/-- A stop answers nothing on a channel that no command waits on (R256). -/
theorem answerStopped_free {s : State} {c : Nat} (h : (s.chan c).slot = none) : answerStopped s c = s := by
  rw [answerStopped, h]

theorem switchSide_stopChannel {s : State} {c : Nat} (h : (s.chan c).slot = none) :
    switchSide arm (stopChannel s c) = switchSide arm s := by
  unfold stopChannel
  split
  · rfl
  · dsimp only
    rw [answerStopped_free (by simp [setChState, h])]
    simp (decide := true)

@[simp] theorem switchSide_prepareLayout (im : Image) : switchSide arm (prepareLayout s im) = switchSide arm s := by
  have free : ((ownerStart s 27).chan 27).slot = none := by
    simp [ownerStart, XferCh.idle]
  unfold prepareLayout
  simp [switchSide_stopChannel free]

@[simp] theorem switchSide_loadRingShadows (k : Nat) : switchSide arm (loadRingShadows s k) = switchSide arm s := by
  have asks (t : State) (x : StationRec) : switchSide arm (askLoad t x) = switchSide arm t := by
    simp [askLoad, askStation]
  have load (t : State) (x : StationRec) : switchSide arm (startLoad t x) = switchSide arm t := asks _ x
  unfold loadRingShadows
  split
  · rfl
  · simp [load]

/-! ## The entry -/

/-- What shows and holds the arm: ARMED with the planned tick, no arm left to take effect. -/
def showArmed (s : State) (n : DWord) : State :=
  (((s.setFld F.HOOD_STATUS.STATE ldArmed).setFld F.HOOD_STATUS.DEFERRALS 0).setDword A.HOOD_SWITCH_LO n).withLoader
    (fun l => { l with armDue := none, decision := none, shadow := [] })

/-- The preparations leave it. -/
theorem switchSide_enterArmed {s : State} {im : Image} (hi : s.loader.img = some im) (n : DWord) :
    switchSide arm (enterArmed s n) = switchSide arm (showArmed s n) := by
  unfold enterArmed
  rw [hi]
  simp (decide := true) [showArmed]

/-- The loader is ARMED for the planned tick; the image runs on, and whoever waits waits on (R93). -/
theorem enterArmed_spec {s : State} {im : Image} (hi : s.loader.img = some im) (n : DWord) :
    loaderState (enterArmed s n) = ldArmed ∧ switchTick (enterArmed s n) = n ∧ (enterArmed s n).loader.armDue = none ∧
      (enterArmed s n).loader.waitSlot = s.loader.waitSlot ∧ (enterArmed s n).image = s.image ∧
      (enterArmed s n).sessions = s.sessions := by
  have side := switchSide_enterArmed (arm := true) hi n
  have reg {a : Nat} (ha : a ∈ loaderRegs) := reg_of_switchSide side (a := a) (List.mem_append_right _ ha)
  obtain ⟨sessions, slot, due⟩ := arm_of_switchSide side
  refine ⟨?_, ?_, due, slot, (fields_of_switchSide side).1, sessions⟩
  · rw [loaderState, State.fld_of_reg (reg (by decide))]
    show (((s.setFld F.HOOD_STATUS.STATE ldArmed).setFld F.HOOD_STATUS.DEFERRALS 0).setDword A.HOOD_SWITCH_LO n).fld _ = _
    rw [State.setDword, State.fld_setReg_other _ _ (by decide), State.fld_setReg_other _ _ (by decide),
      State.fld_setFld_other _ _ _ _ (.inr (.inl (by decide))), State.fld_setFld_same _ _ _ (by decide)]
    rfl
  · rw [switchTick, State.dword_of_reg (reg (by decide)) (reg (by decide))]
    exact State.dword_setDword_same _ _ _

end Sys2Proof.Machine
end

section
/-! SUPPORT. The command that waits on the loader, and the arm that it waits for (R93, R206, R208). -/

namespace Sys2Proof.Machine

open Sys2Proof

/-! ## The command that waits -/

/-- A command of a session that has closed completes in its journal record alone (R201). -/
theorem finishCommand_closed {s : State} {k : Nat} (hk : 16 ≤ k) {q : QCmd} {rest : List QCmd}
    (hq : (s.sess k).queue = q :: rest) (code : Nat) (data : List Byte) :
    finishCommand s k code data = (journalResult s q code data).setSess k Session.free := by
  unfold finishCommand
  rw [hq]
  exact if_pos hk

/-- Completing a command changes its session, its journal record and what counts and shows its result alone. -/
theorem finishCommand_leaves (s : State) (k code : Nat) (data : List Byte) :
    (finishCommand s k code data).image = s.image ∧ (finishCommand s k code data).loader = s.loader ∧
      ∀ a, a % 0x1000000 ∉ [A.NET_PORT_TX, A.CMD_ERR, A.CMD_SESS_STATE] →
        (finishCommand s k code data).reg a = s.reg a := by
  cases hq : (s.sess k).queue with
  | nil =>
    have none : finishCommand s k code data = s := by
      unfold finishCommand
      rw [hq]
    rw [none]
    exact ⟨rfl, rfl, fun _ _ => rfl⟩
  | cons q rest =>
    by_cases hk : k < 16
    · refine ⟨?_, ?_, fun a ha => reg_finishCommand hk hq code data ha⟩ <;> rw [finishCommand_front hk hq]
    · rw [finishCommand_closed (Nat.not_lt.mp hk) hq, journalResult_frame]
      exact ⟨rfl, rfl, fun _ _ => rfl⟩

/-- Whether a command waits depends on the sessions alone. -/
theorem waits_of_sessions {s t : State} (hs : t.sessions = s.sessions) {k opcode : Nat} {q : QCmd} {rest : List QCmd}
    (h : Waits s k opcode q rest) : Waits t k opcode q rest := by
  obtain ⟨hk, hq, hw⟩ := h
  refine ⟨hk, ?_, hw⟩
  rw [State.sess, hs]
  exact hq

/-- A command that waits with the opcode completes. -/
theorem finishWaiting_of_waits {s : State} {k opcode : Nat} {q : QCmd} {rest : List QCmd} (h : Waits s k opcode q rest)
    (code : Nat) (data : List Byte) : finishWaiting s k opcode code data = finishCommand s k code data := by
  obtain ⟨-, hq, ho, hw⟩ := h
  simp [finishWaiting, frontCmd, hq, ho, hw]

/-- Whatever waits, its answer leaves the arm, the image and the loader's registers. -/
theorem finishWaiting_leaves (s : State) (k opcode code : Nat) (data : List Byte) :
    (finishWaiting s k opcode code data).image = s.image ∧ (finishWaiting s k opcode code data).loader = s.loader ∧
      ∀ a, a % 0x1000000 ∉ [A.NET_PORT_TX, A.CMD_ERR, A.CMD_SESS_STATE] →
        (finishWaiting s k opcode code data).reg a = s.reg a := by
  unfold finishWaiting
  split
  · exact ⟨rfl, rfl, fun _ _ => rfl⟩
  · split
    · exact finishCommand_leaves s k code data
    · exact ⟨rfl, rfl, fun _ _ => rfl⟩

/-- The same of the command that waits on the loader. -/
theorem answerWait_leaves (s : State) (opcode code : Nat) (data : List Byte) :
    (answerWait s opcode code data).image = s.image ∧ (answerWait s opcode code data).loader.armDue = s.loader.armDue ∧
      ∀ a, a % 0x1000000 ∉ [A.NET_PORT_TX, A.CMD_ERR, A.CMD_SESS_STATE] →
        (answerWait s opcode code data).reg a = s.reg a := by
  unfold answerWait
  split
  · exact ⟨rfl, rfl, fun _ _ => rfl⟩
  · next k _ =>
    obtain ⟨image, loader, reg⟩ :=
      finishWaiting_leaves (s.withLoader (fun l => { l with waitSlot := none })) k opcode code data
    exact ⟨image, by rw [loader]; rfl, reg⟩

/-- The command that waits on the loader is answered. -/
theorem answered_answerWait {s : State} {k opcode : Nat} {q : QCmd} {rest : List QCmd} (hs : s.loader.waitSlot = some k)
    (h : Waits s k opcode q rest) (code : Nat) (data : List Byte) :
    Answered (answerWait s opcode code data) k q rest code data := by
  have waits : Waits (s.withLoader (fun l => { l with waitSlot := none })) k opcode q rest := h
  rw [answerWait, hs]
  dsimp only
  rw [finishWaiting_of_waits waits]
  exact answered_finishCommand waits.1 waits.2.1 code data

/-! ## Arming with the partner (R93) -/

/-- Without a trained Strait nothing is sent; with one a message on the control lane. -/
theorem outbox_straitOn {s : State} (h : s.trained = true) (type sub : Nat) (vals : List Nat) (bytes : List Byte) :
    (s.straitOn 6 type sub vals bytes).outbox = controlOut s type sub vals bytes :: s.outbox := by
  unfold State.straitOn State.straitFor
  rw [if_pos h]
  rfl

/-- What a message that is heard leaves, as far as messages are answered from it. -/
theorem hearMsg_routes (s : State) (h : StraitHdr) : (hearMsg s h).pair.routing = s.pair.routing ∧
    (hearMsg s h).pair.seq = s.pair.seq := by
  unfold hearMsg noteGap
  split <;> exact ⟨rfl, rfl⟩

/-- A message sent after hearing one is the message sent without. -/
theorem controlOut_hearMsg (s : State) (h : StraitHdr) (type sub : Nat) (vals : List Nat) (bytes : List Byte) :
    controlOut (hearMsg s h) type sub vals bytes = controlOut s type sub vals bytes := by
  obtain ⟨routing, seq⟩ := hearMsg_routes s h
  rw [controlOut, routing, seq, hearMsg_frame]
  rfl

/-- A message of the module's own epoch is heard and acts. -/
theorem exec_loaderQuery {s : State} {h : StraitHdr} (he : crownEpoch h.crown = s.epoch) : exec (.loaderQuery h) s =
    .next ((hearMsg s h).straitOn 6 6 2 [loaderState (hearMsg s h)] (hearMsg s h).loader.digest) := by
  show execLoaderQuery h s = _
  rw [execLoaderQuery, onMsg_ownEpoch he]

/-- LOADER_QUERY is answered (R93). -/
theorem loaderQuery_answered {s : State} {h : StraitHdr} (he : crownEpoch h.crown = s.epoch) (ht : s.trained = true) :
    ∃ t, exec (.loaderQuery h) s = .next t ∧ t.regs = s.regs ∧ t.loader = s.loader ∧
      t.outbox = controlOut s 6 2 [loaderState s] s.loader.digest :: s.outbox := by
  have frame := hearMsg_frame s h
  have trained : (hearMsg s h).trained = true := by rw [frame]; exact ht
  have state : loaderState (hearMsg s h) = loaderState s := by rw [frame]; rfl
  refine ⟨_, exec_loaderQuery he, ?_, ?_, ?_⟩
  · rw [State.straitOn_frame, frame]
  · rw [State.straitOn_frame, frame]
  · rw [outbox_straitOn trained, controlOut_hearMsg, state, frame]

/-- The epoch of an arm is that of the command that waits for it (R206). -/
theorem armEpoch_of_waits {s : State} {k opcode : Nat} {q : QCmd} {rest : List QCmd} (hs : s.loader.waitSlot = some k)
    (h : Waits s k opcode q rest) : armEpoch s = q.epoch := by
  obtain ⟨-, hq, -⟩ := h
  simp [armEpoch, hs, frontCmd, hq]

/-- The crown holder accepts an arm that the partner's reply supports (R93). -/
theorem exec_loaderReply_accepts {s : State} {h : StraitHdr} (he : crownEpoch h.crown = s.epoch) {w : DWord} {im : Image}
    (ha : s.loader.asking = some w) (hi : s.loader.img = some im) (hm : s.mode = stPrimary)
    (hl : loaderState s = ldStaged) :
    exec (.loaderReply h ldStaged s.loader.digest) s = .next (acceptArm (hearMsg s h) im true) := by
  have frame := hearMsg_frame s h
  have loader : (hearMsg s h).loader = s.loader := by rw [frame]
  have mode : (hearMsg s h).mode = s.mode := by rw [frame]; rfl
  have state : loaderState (hearMsg s h) = loaderState s := by rw [frame]; rfl
  show execLoaderReply h ldStaged s.loader.digest s = _
  rw [execLoaderReply, onMsg_ownEpoch he, loader, ha, hi]
  exact congrArg _ (if_pos (by simp [mode, hm, state, hl]))

/-- The accepted arm, and what the partner is told of it (R93, R210). -/
theorem acceptArm_forwards {s : State} {k : Nat} {q : QCmd} {rest : List QCmd} (hs : s.loader.waitSlot = some k)
    (h : Waits s k 0x24 q rest) (im : Image) : let t := acceptArm s im true
    t.loader.asking = none ∧ t.loader.armDue = some (s.tick, plannedTick s im, q.epoch) ∧ t.sessions = s.sessions ∧
      (s.trained = true → t.outbox = controlOut s 6 3 [(plannedTick s im).toNat, (sessId s k).toNat, q.seq.toNat,
        q.opcode, sessKey s k] q.payload :: s.outbox) := by
  have epoch := armEpoch_of_waits hs h
  obtain ⟨-, hq, -⟩ := h
  unfold acceptArm
  extract_lets n t slot u
  have origin : originVals t slot = [(sessId s k).toNat, q.seq.toNat, q.opcode, sessKey s k] := by
    have queue : (t.sess k).queue = q :: rest := hq
    simp only [originVals, slot, show t.loader.waitSlot = some k from hs, frontCmd, queue]
    rfl
  have args : originArgs t slot = q.payload := by
    have queue : (t.sess k).queue = q :: rest := hq
    simp [originArgs, slot, show t.loader.waitSlot = some k from hs, frontCmd, queue]
  have sends : u = t.straitOn 6 6 3 [(plannedTick s im).toNat, (sessId s k).toNat, q.seq.toNat, q.opcode, sessKey s k]
      q.payload := by
    simp only [u, if_true, origin, args, n]
  rw [sends]
  refine ⟨?_, ?_, ?_, fun ht => ?_⟩
  · rw [State.straitOn_frame]
    rfl
  · rw [State.straitOn_frame]
    show some (s.tick, plannedTick s im, armEpoch s) = _
    rw [epoch]
  · rw [State.straitOn_frame]
    rfl
  · exact outbox_straitOn (s := t) ht _ _ _ _

/-- LOADER_REPLY: the arm is accepted and the partner told (R93). -/
theorem loaderReply_accepts {s : State} {h : StraitHdr} (he : crownEpoch h.crown = s.epoch) {w : DWord} {im : Image}
    (ha : s.loader.asking = some w) (hi : s.loader.img = some im) (hm : s.mode = stPrimary)
    (hl : loaderState s = ldStaged) {k : Nat} {q : QCmd} {rest : List QCmd} (hs : s.loader.waitSlot = some k)
    (hw : Waits s k 0x24 q rest) : ∃ t, exec (.loaderReply h ldStaged s.loader.digest) s = .next t ∧
      t.loader.asking = none ∧ t.loader.armDue = some (s.tick, plannedTick s im, q.epoch) ∧
      (t.sess k).queue = q :: rest ∧
      (s.trained = true → t.outbox = controlOut s 6 3 [(plannedTick s im).toNat, (sessId s k).toNat, q.seq.toNat,
        q.opcode, sessKey s k] q.payload :: s.outbox) := by
  have frame := hearMsg_frame s h
  have heard : plannedTick (hearMsg s h) im = plannedTick s im ∧ (hearMsg s h).tick = s.tick ∧
      (hearMsg s h).trained = s.trained ∧ sessId (hearMsg s h) k = sessId s k ∧ sessKey (hearMsg s h) k = sessKey s k ∧
      (hearMsg s h).outbox = s.outbox ∧ (hearMsg s h).sessions = s.sessions ∧ (hearMsg s h).loader = s.loader := by
    rw [frame]
    exact ⟨rfl, rfl, rfl, rfl, rfl, rfl, rfl, rfl⟩
  obtain ⟨planned, tick, trained, id, key, out, sessions, loader⟩ := heard
  have waits : Waits (hearMsg s h) k 0x24 q rest := by rw [frame]; exact hw
  obtain ⟨asking, due, sess, sends⟩ := acceptArm_forwards (by rw [loader, hs]) waits im
  rw [planned, tick] at due
  rw [planned, trained, id, key, controlOut_hearMsg, out] at sends
  refine ⟨_, exec_loaderReply_accepts he ha hi hm hl, asking, due, ?_, sends⟩
  rw [State.sess, sess, sessions]
  exact hw.2.1

/-- LOADER_ARM: a standby that holds the image adopts the arm (R93). -/
theorem loaderArm_adopted {s : State} {h : StraitHdr} (he : crownEpoch h.crown = s.epoch) (w : DWord)
    (hl : loaderState s = ldStaged) : ∃ t, exec (.loaderArm h w none) s = .next t ∧
      t.loader.armDue = some (h.tick, w, s.epoch) ∧ t.regs = s.regs ∧ t.journal = s.journal := by
  have frame := hearMsg_frame s h
  have state : loaderState (hearMsg s h) = ldStaged := by rw [frame]; exact hl
  have acts : exec (.loaderArm h w none) s = .next
      (((hearMsg s h).withLoader (fun l => { l with armDue := some (h.tick, w, (hearMsg s h).epoch) })).straitReply 6 h.seq
        rcOk) := by
    show execLoaderArm h w none s = _
    rw [execLoaderArm, onMsg_ownEpoch he, if_pos state]
    rfl
  refine ⟨_, acts, ?_⟩
  rw [State.straitReply, State.strait, State.straitOn_frame, frame]
  exact ⟨rfl, rfl, rfl⟩

/-- SWITCH_DECISION: the standby takes the crown holder's decision in the planned tick (R96). -/
theorem switchDecision_taken {s : State} {h : StraitHdr} (he : crownEpoch h.crown = s.epoch) (go : Bool)
    (hd : switchDue s = true) (hm : s.mode = stStandby) : ∃ t, exec (.switchDecision h go) s = .next t ∧
      t.loader.decision = some go ∧ t.regs = s.regs := by
  have frame := hearMsg_frame s h
  have due : (switchDue (hearMsg s h) && (hearMsg s h).mode == stStandby) = true := by
    rw [frame]
    show (switchDue s && s.mode == stStandby) = true
    rw [hd, hm]
    rfl
  have acts : exec (.switchDecision h go) s =
      .next ((hearMsg s h).withLoader (fun l => { l with decision := some go })) := by
    show execSwitchDecision h go s = _
    rw [execSwitchDecision, onMsg_ownEpoch he, if_pos due]
  refine ⟨_, acts, rfl, ?_⟩
  rw [frame]
  rfl

/-! ## An arm that enters ARMED, and one that is abandoned -/

/-- Moving the clock within a tick leaves when a switch is due. -/
theorem switchDue_at (s : State) (off : Nat) : switchDue (s.at off) = switchDue s ∧ switchTick (s.at off) = switchTick s ∧
    loaderState (s.at off) = loaderState s ∧ (s.at off).epoch = s.epoch := by
  have reg {a : Nat} (ha : a ∉ [A.TIME_NOW_LO, A.TIME_NOW_HI, A.TIME_NOW_FRAC]) := State.reg_at_other s off ha
  have planned : switchTick (s.at off) = switchTick s := State.dword_of_reg (reg (by decide)) (reg (by decide))
  have state : loaderState (s.at off) = loaderState s := State.fld_at s off (by decide)
  refine ⟨?_, planned, state, State.fld_at s off (by decide)⟩
  rw [switchDue, planned, state, State.tick_at, switchDue]

/-- At 61.2 µs an accepted arm enters ARMED and its command completes (R93, R206). -/
theorem exec_hoodSwitch_arms {s : State} (ht : s.ticking = true) (hr : s.running = true) (hd : switchDue s = false)
    {w n : DWord} {e : Nat} (ha : s.loader.armDue = some (w, n, e)) :
    exec .hoodSwitch s = .next (answerWait (enterArmed (s.at 61200) n) 0x24 rcOk (beBytes 8 n.toNat)) := by
  have due : ¬switchDue (s.at 61200) = true := by rw [(switchDue_at s 61200).1, hd]; exact Bool.false_ne_true
  have armed : (s.at 61200).loader.armDue = some (w, n, e) := ha
  show execHoodSwitch s = _
  rw [execHoodSwitch, if_pos (by simp [ht, hr])]
  dsimp only
  rw [if_neg due, armed]

/-- What it shows. -/
theorem hoodSwitch_arms {s : State} {im : Image} {w n : DWord} {e : Nat} (ht : s.ticking = true) (hr : s.running = true)
    (hd : switchDue s = false) (ha : s.loader.armDue = some (w, n, e)) (hi : s.loader.img = some im) :
    ∃ t, exec .hoodSwitch s = .next t ∧ loaderState t = ldArmed ∧ switchTick t = n ∧ t.loader.armDue = none ∧
      t.image = s.image ∧ ∀ (k : Nat) (q : QCmd) (rest : List QCmd), s.loader.waitSlot = some k → Waits s k 0x24 q rest →
        Answered t k q rest rcOk (beBytes 8 n.toNat) := by
  obtain ⟨state, planned, due, slot, image, sessions⟩ := enterArmed_spec (s := s.at 61200) hi n
  obtain ⟨image', due', reg⟩ := answerWait_leaves (enterArmed (s.at 61200) n) 0x24 rcOk (beBytes 8 n.toNat)
  refine ⟨_, exec_hoodSwitch_arms ht hr hd ha, ?_, ?_, due'.trans due, image'.trans image, fun k q rest hs hw => ?_⟩
  · exact (State.fld_of_reg (reg _ (by decide))).trans state
  · exact (State.dword_of_reg (reg _ (by decide)) (reg _ (by decide))).trans planned
  · exact answered_answerWait (slot.trans hs) (waits_of_sessions sessions hw) _ _

/-- At 61.0 µs an arm of another epoch is abandoned where nothing else changes the crown (R206). -/
theorem exec_crownChange_arm {s : State} (ht : s.ticking = true) (hm : s.mode = stSolo) (hl : s.pair.lost = false)
    (hs : s.pair.swap = .none) (hj : s.pair.joinDue = none) (ho : s.pair.oosDue = false) :
    exec .crownChange s = .next (recheckArm (s.at 61000)) := by
  have runs : s.running = true := by simp (decide := true) [State.running, hm]
  show execCrownChange s = _
  rw [execCrownChange, if_pos (by simp [ht, runs])]
  have lost : (s.at 61000).pair.lost = false := hl
  have swap : swapDue (s.at 61000) = s.at 61000 := by
    rw [swapDue, show (s.at 61000).pair.swap = .none from hs]
  have join : raiseForJoin (s.at 61000) = s.at 61000 := by
    rw [raiseForJoin, show (s.at 61000).pair.joinDue = none from hj]
  have step : (s.at 61000).pair.oosDue = false := ho
  simp only [lost, swap, join, step, Bool.false_and, Bool.false_eq_true, if_false]

/-- The loader with no arm to take effect, and nobody who waits for it. -/
def withoutArm (s : State) : State := s.withLoader (fun l => { l with armDue := none, waitSlot := none })

/-- An arm of another epoch is dropped, and its command ends with ROLE_CHANGED (R206). -/
theorem recheckArm_drops {s : State} {w n : DWord} {e k : Nat} {q : QCmd} {rest : List QCmd}
    (ha : s.loader.armDue = some (w, n, e)) (he : e ≠ s.epoch) (hk : s.loader.waitSlot = some k)
    (hw : Waits s k 0x24 q rest) : (recheckArm s).loader.armDue = none ∧ loaderState (recheckArm s) = loaderState s ∧
      Answered (recheckArm s) k q rest rcRoleChanged [] := by
  have waits : Waits (withoutArm s) k 0x24 q rest := waits_of_sessions rfl hw
  have drops : recheckArm s = finishCommand (withoutArm s) k rcRoleChanged [] := by
    rw [recheckArm, ha]
    dsimp only
    rw [if_neg he, dropArm, ha, hk]
    exact finishWaiting_of_waits waits rcRoleChanged []
  obtain ⟨-, loader, reg⟩ := finishCommand_leaves (withoutArm s) k rcRoleChanged []
  obtain ⟨slot, front, -⟩ := waits
  rw [drops]
  exact ⟨by rw [loader]; rfl, State.fld_of_reg (reg _ (by decide)), answered_finishCommand slot front _ _⟩

/-- So it ends where nothing else changes the crown. -/
theorem crownChange_abandons {s : State} {w n : DWord} {e k : Nat} {q : QCmd} {rest : List QCmd} (ht : s.ticking = true)
    (hm : s.mode = stSolo) (hl : s.pair.lost = false) (hs : s.pair.swap = .none) (hj : s.pair.joinDue = none)
    (ho : s.pair.oosDue = false) (ha : s.loader.armDue = some (w, n, e)) (he : e ≠ s.epoch)
    (hk : s.loader.waitSlot = some k) (hw : Waits s k 0x24 q rest) :
    ∃ t, exec .crownChange s = .next t ∧ t.loader.armDue = none ∧ loaderState t = loaderState s ∧
      Answered t k q rest rcRoleChanged [] := by
  obtain ⟨-, -, same, epoch⟩ := switchDue_at s 61000
  obtain ⟨due, state, answered⟩ := recheckArm_drops (s := s.at 61000) ha (by rwa [epoch]) hk (waits_of_sessions rfl hw)
  exact ⟨_, exec_crownChange_arm ht hm hl hs hj ho, due, state.trans same, answered⟩

end Sys2Proof.Machine
end

section
/-! SUPPORT. The planned tick: the judgement, the switch, the deferral (R96 to R98), and what ends a switch otherwise: a
standby without a decision (R96, R169) and a reset after an arm in SAFE (R101). -/

namespace Sys2Proof.Machine

open Sys2Proof

/-! ## The grounds for deferring (R96) -/

/-- The registers of stations lie far from the time counter. -/
theorem reg_at_station (s : State) (off : Nat) (f : Fld) (hf : 0xE0000 ≤ f.reg) (k i : Nat) :
    (s.at off).reg (stnFld f k i).reg = s.reg (stnFld f k i).reg := by
  refine State.reg_at_other s off ?_
  have high : 0xE0000 ≤ (stnFld f k i).reg := Nat.le_add_left_of_le (Nat.le_add_right_of_le hf)
  have low : ∀ a ∈ [A.TIME_NOW_LO, A.TIME_NOW_HI, A.TIME_NOW_FRAC], a < 0xE0000 := by decide
  exact fun h => Nat.not_le.mpr (low _ h) high

/-- Moving the clock within a tick leaves the grounds for deferring. -/
theorem mustDefer_at (s : State) (off : Nat) (im : Image) : mustDefer (s.at off) im = mustDefer s im := by
  have fld (f : Fld) (h : f.reg ∉ [A.TIME_NOW_LO, A.TIME_NOW_HI, A.TIME_NOW_FRAC]) : (s.at off).flag f = s.flag f :=
    State.flag_of_reg (State.reg_at_other s off h)
  have station (k i : Nat) : (s.at off).flag (stnFld F.RING_STN_STATE.SHADOW_OK k i) =
      s.flag (stnFld F.RING_STN_STATE.SHADOW_OK k i) := State.flag_of_reg (reg_at_station s off _ (by decide) k i)
  have dom (d : Nat) : (s.at off).domOn d = s.domOn d := by
    rw [State.domOn, State.dom, State.fld_of_reg (State.reg_at_item s off d (by decide) (by decide))]
    rfl
  have overrun : classOverrun (s.at off) = classOverrun s := rfl
  have domains : newDomains (s.at off) im = newDomains s im := rfl
  have pair : (s.at off).pair = s.pair := rfl
  have copy : (s.at off).fld F.STRAIT_STATUS.COPY = s.fld F.STRAIT_STATUS.COPY := State.fld_at s off (by decide)
  simp only [mustDefer, overrun, domains, pair, station, dom, copy, fld F.CHK_STATUS.VERDICT_BUSY (by decide),
    fld F.CHK_STATUS.VERDICT_QUEUED (by decide), fld F.CHK_STATUS.SPLIT_BUSY (by decide)]

/-- The judgement decides by them and leaves memory, image and module state. -/
theorem judgeSwitch_spec {s : State} {im : Image} (hi : s.loader.img = some im) :
    (judgeSwitch s).loader.decision = some (!mustDefer s im) ∧ (judgeSwitch s).mem = s.mem ∧
      (judgeSwitch s).image = s.image ∧ (judgeSwitch s).mode = s.mode := by
  rw [judgeSwitch, hi]
  dsimp only
  split
  · exact ⟨rfl, rfl, rfl, State.fld_setFld_other s _ _ _ (.inl (by decide))⟩
  · exact ⟨rfl, rfl, rfl, rfl⟩

/-- In the planned tick the crown holder decides (R96). -/
theorem switchJudgement_decides {s : State} {im : Image} (hd : switchDue s = true) (hi : s.loader.img = some im)
    (hh : s.holds = true) : ∃ t, exec .switchJudgement s = .next t ∧ t.loader.decision = some (!mustDefer s im) ∧
      t.mem = s.mem ∧ t.image = s.image := by
  obtain ⟨decision, mem, image, mode⟩ := judgeSwitch_spec (s := s.at 60000) hi
  rw [mustDefer_at] at decision
  rw [State.mode_at] at mode
  have acts : exec .switchJudgement s = .next (if s.mode = stPrimary then
      (judgeSwitch (s.at 60000)).strait 6 4 [b2n ((judgeSwitch (s.at 60000)).loader.decision == some true)]
      else judgeSwitch (s.at 60000)) := by
    show execSwitchJudgement s = _
    rw [execSwitchJudgement, if_pos (by simp [hd, hh])]
    dsimp only
    rw [mode]
  refine ⟨_, acts, ?_⟩
  split
  · rw [State.strait, State.straitOn_frame]
    exact ⟨decision, mem, image⟩
  · exact ⟨decision, mem, image⟩

/-! ## The switch (R98) -/

/-- At 61.2 µs of the planned tick the switch is taken; without an accepted arm nothing else happens (R98). -/
theorem exec_hoodSwitch_due {s : State} (ht : s.ticking = true) (hr : s.running = true) (hd : switchDue s = true)
    (ha : (takeSwitch (s.at 61200)).loader.armDue = none) : exec .hoodSwitch s = .next (takeSwitch (s.at 61200)) := by
  show execHoodSwitch s = _
  rw [execHoodSwitch, if_pos (by simp [ht, hr])]
  dsimp only
  rw [if_pos ((switchDue_at s 61200).1.trans hd), ha]

/-- What the loader shows once it is idle again. -/
theorem loaderIdle_spec (s : State) : loaderState (loaderIdle s) = ldIdle ∧ (loaderIdle s).loader.img = none ∧
    (loaderIdle s).loader.armDue = none ∧ (loaderIdle s).loader.activate = s.loader.activate ∧
    (loaderIdle s).loader.lastSwitch = s.loader.lastSwitch ∧ (loaderIdle s).image = s.image := by
  refine ⟨?_, rfl, rfl, rfl, rfl, rfl⟩
  show (((((s.setFld F.HOOD_STATUS.STATE ldIdle).setReg A.HOOD_STAGED_SEQ 0).setDword A.HOOD_SWITCH_LO
    s.loader.lastSwitch)).setFld F.TICK_STATUS.SWITCH_DEFERRED 0).fld F.HOOD_STATUS.STATE = _
  rw [State.fld_setFld_other _ _ _ _ (.inl (by decide)), State.setDword, State.fld_setReg_other _ _ (by decide),
    State.fld_setReg_other _ _ (by decide), State.fld_setReg_other _ _ (by decide),
    State.fld_setFld_same _ _ _ (by decide)]
  rfl

/-- The switch before the domains that the new image leaves unused are drained (R98). -/
def switched (s : State) (old im : Image) : State :=
  let t := ((activateBank (runCarried s old im) s.loader.bank im.seq im.digest).setFld F.CFG_STATUS.ACTIVE
    s.loader.bank).setFlag F.CFG_STATUS.LOADED true
  let t := t.withLoader (fun l => { l with lastSwitch := t.tick, bankBit := !l.bankBit })
  t.raise 7 6 0 (d4 (runningSeq s).toNat ++ d4 im.seq.toNat ++ d4 (t.reg A.HOOD_CARRY).toNat)

/-- The switch, step by step. -/
theorem hoodSwitch_eq (s : State) (im : Image) : hoodSwitch s im =
    loaderIdle (drainUnused (switched s (s.image.getD im) im) (s.image.getD im) im) := rfl

/-- The new image runs, its ACTIVATE is due and the switch has its tick. -/
theorem switched_spec {s : State} (ht : s.ticking = true) (hr : s.running = true) (old im : Image) :
    (switched s old im).image = some im ∧ (switched s old im).loader.activate = some s.loader.bank ∧
      (switched s old im).loader.lastSwitch = s.tick := by
  obtain ⟨image, tick⟩ := runCarried_spec ht hr old im
  unfold switched
  generalize runCarried s old im = t at image tick
  refine ⟨image, rfl, ?_⟩
  have other (u : State) (v : Nat) {a : Nat} (h : a ≠ A.CFG_STATUS) :
      ((u.setFld F.CFG_STATUS.ACTIVE v).setFlag F.CFG_STATUS.LOADED true).reg a = u.reg a :=
    (State.reg_setFld_other _ _ h).trans (State.reg_setFld_other _ _ h)
  exact (State.dword_of_reg (other _ _ (by decide)) (other _ _ (by decide))).trans tick

/-- A switch leaves the loader idle and the new image running. -/
theorem hoodSwitch_spec {s : State} (ht : s.ticking = true) (hr : s.running = true) (im : Image) :
    (hoodSwitch s im).image = some im ∧ loaderState (hoodSwitch s im) = ldIdle ∧ (hoodSwitch s im).loader.img = none ∧
      (hoodSwitch s im).loader.armDue = none ∧ (hoodSwitch s im).loader.activate = some s.loader.bank ∧
      (hoodSwitch s im).loader.lastSwitch = s.tick := by
  obtain ⟨image, activate, last⟩ := switched_spec ht hr (s.image.getD im) im
  obtain ⟨image', activate', last'⟩ := fields_of_switchSide
    (switchSide_drainUnused (switched s (s.image.getD im) im) (s.image.getD im) im)
  obtain ⟨state, img, due, activate'', last'', image''⟩ :=
    loaderIdle_spec (drainUnused (switched s (s.image.getD im) im) (s.image.getD im) im)
  rw [hoodSwitch_eq]
  exact ⟨image''.trans (image'.trans image), state, img, due, activate''.trans (activate'.trans activate),
    last''.trans (last'.trans last)⟩

/-- A go switches the image in the planned tick (R98). -/
theorem hoodSwitch_goes {s : State} {im : Image} (hd : switchDue s = true) (hi : s.loader.img = some im)
    (ht : s.ticking = true) (hr : s.running = true) (hg : s.loader.decision = some true) :
    ∃ t, exec .hoodSwitch s = .next t ∧ t.image = some im ∧ loaderState t = ldIdle ∧ t.loader.img = none ∧
      t.loader.activate = some s.loader.bank ∧ t.loader.lastSwitch = s.tick := by
  have ticks : (s.at 61200).ticking = true := (State.flag_of_reg (State.reg_at_other s _ (by decide))).trans ht
  have runs : (s.at 61200).running = true := (running_of_reg (State.reg_at_other s _ (by decide))).trans hr
  have takes : takeSwitch (s.at 61200) = hoodSwitch (s.at 61200) im := by
    have decision : (s.at 61200).loader.decision = some true := hg
    have img : (s.at 61200).loader.img = some im := hi
    simp only [takeSwitch, decision, Option.isNone_some, Bool.false_and, Bool.false_eq_true, if_false, img]
  obtain ⟨image, state, img, due, activate, last⟩ := hoodSwitch_spec ticks runs im
  rw [State.tick_at] at last
  rw [← takes] at image state img due activate last
  exact ⟨_, exec_hoodSwitch_due ht hr hd due, image, state, img, activate, last⟩

/-! ## The deferral (R97) -/

/-- A field is less than two to its width. -/
theorem State.fld_lt (s : State) (f : Fld) : s.fld f < 2 ^ (f.hi + 1 - f.lo) :=
  Nat.mod_lt _ (Nat.two_pow_pos _)

/-- What shows a deferral: its count and the planned tick 1,024 ticks later. -/
def postponed (s : State) : State :=
  ((s.setFld F.HOOD_STATUS.DEFERRALS (s.fld F.HOOD_STATUS.DEFERRALS + 1)).setDword A.HOOD_SWITCH_LO
    (switchTick s + 1024)).withLoader (fun l => { l with decision := none })

/-- It shows just that. -/
theorem postponed_spec (s : State) : switchTick (postponed s) = switchTick s + 1024 ∧
    loaderState (postponed s) = loaderState s ∧
    (postponed s).fld F.HOOD_STATUS.DEFERRALS = (s.fld F.HOOD_STATUS.DEFERRALS + 1) % 256 ∧
    (postponed s).fld F.HOOD_CTRL.DEFER_LIMIT = s.fld F.HOOD_CTRL.DEFER_LIMIT := by
  have kept {f : Fld} (lo : f.reg ≠ A.HOOD_SWITCH_LO) (hi : f.reg ≠ A.HOOD_SWITCH_HI) : (postponed s).fld f =
      (s.setFld F.HOOD_STATUS.DEFERRALS (s.fld F.HOOD_STATUS.DEFERRALS + 1)).fld f :=
    (State.fld_setReg_other _ _ hi).trans (State.fld_setReg_other _ _ lo)
  refine ⟨State.dword_setDword_same _ _ _, ?_, ?_, ?_⟩
  · rw [loaderState, kept (by decide) (by decide)]
    exact State.fld_setFld_other _ _ _ _ (.inr (.inl (by decide)))
  · rw [kept (by decide) (by decide)]
    exact State.fld_setFld_same _ _ _ (by decide)
  · rw [kept (by decide) (by decide)]
    exact State.fld_setFld_other _ _ _ _ (.inl (by decide))

/-- Below the limit a switch is postponed; an overrun shows in TICK_STATUS as well (R97). -/
theorem deferSwitch_below {s : State} (h : s.fld F.HOOD_STATUS.DEFERRALS + 1 < s.fld F.HOOD_CTRL.DEFER_LIMIT) :
    deferSwitch s =
      postponed (if classOverrun s then s.setFlag F.TICK_STATUS.SWITCH_DEFERRED true else s) := by
  unfold deferSwitch
  extract_lets u n t v
  have same {f : Fld} (hf : f.reg ≠ A.TICK_STATUS) : u.fld f = s.fld f := by
    unfold u
    split
    · exact State.fld_setFld_other _ _ _ _ (.inl hf)
    · rfl
  have limit : v.fld F.HOOD_CTRL.DEFER_LIMIT = s.fld F.HOOD_CTRL.DEFER_LIMIT :=
    (postponed_spec u).2.2.2.trans (same (by decide))
  have count : n = s.fld F.HOOD_STATUS.DEFERRALS + 1 := congrArg (· + 1) (same (by decide))
  rw [if_neg (by omega)]
  rfl

/-- A no-go postpones the switch by 1,024 ticks (R97). -/
theorem hoodSwitch_postpones {s : State} (hd : switchDue s = true) (ht : s.ticking = true) (hr : s.running = true)
    (hg : s.loader.decision = some false) (ha : s.loader.armDue = none)
    (hl : s.fld F.HOOD_STATUS.DEFERRALS + 1 < s.fld F.HOOD_CTRL.DEFER_LIMIT) :
    ∃ t, exec .hoodSwitch s = .next t ∧ switchTick t = s.tick + 1024 ∧ loaderState t = ldArmed ∧
      t.fld F.HOOD_STATUS.DEFERRALS = s.fld F.HOOD_STATUS.DEFERRALS + 1 ∧ t.image = s.image ∧
      t.loader.decision = none := by
  let u := if classOverrun (s.at 61200) then (s.at 61200).setFlag F.TICK_STATUS.SWITCH_DEFERRED true else s.at 61200
  have takes : takeSwitch (s.at 61200) = postponed u := by
    have decision : (s.at 61200).loader.decision = some false := hg
    have defers : takeSwitch (s.at 61200) = deferSwitch (s.at 61200) := by
      simp only [takeSwitch, decision, Option.isNone_some, Bool.false_and, Bool.false_eq_true, if_false]
    rw [defers, deferSwitch_below]
    rwa [State.fld_at s _ (by decide), State.fld_at s _ (by decide)]
  have reg {a : Nat} (h : a ≠ A.TICK_STATUS) (h' : a ∉ [A.TIME_NOW_LO, A.TIME_NOW_HI, A.TIME_NOW_FRAC]) :
      u.reg a = s.reg a := by
    rw [← State.reg_at_other s 61200 h']
    unfold u
    split
    · exact State.reg_setFld_other _ _ h
    · rfl
  have kept : u.loader = s.loader ∧ u.image = s.image := by
    unfold u
    split <;> exact ⟨rfl, rfl⟩
  obtain ⟨loader, image⟩ := kept
  obtain ⟨planned, state, count, -⟩ := postponed_spec u
  rw [switchDue, Bool.and_eq_true, beq_iff_eq, beq_iff_eq] at hd
  obtain ⟨armed, now⟩ := hd
  have due : (takeSwitch (s.at 61200)).loader.armDue = none := by
    rw [takes]
    show u.loader.armDue = none
    rw [loader, ha]
  rw [← now]
  refine ⟨_, exec_hoodSwitch_due ht hr (by simp [switchDue, armed, now]) due, ?_⟩
  rw [takes]
  refine ⟨?_, ?_, ?_, image, rfl⟩
  · rw [planned, switchTick, State.dword_of_reg (reg (by decide) (by decide)) (reg (by decide) (by decide))]
    rfl
  · rw [state, loaderState, State.fld_of_reg (reg (by decide) (by decide))]
    exact armed
  · have limit : s.fld F.HOOD_CTRL.DEFER_LIMIT < 256 := State.fld_lt s F.HOOD_CTRL.DEFER_LIMIT
    rw [count, State.fld_of_reg (reg (by decide) (by decide)), Nat.mod_eq_of_lt (Nat.lt_trans hl limit)]

/-! ## A standby without a decision (R96, R169) -/

/-- Without a DRAM scrub of its own the module asks for its copy at once (R170). -/
theorem requestAs_spec {s : State} (hb : s.flag F.MEM_STATUS.SCRUB_BUSY = false) (staged : Bool) (seq : Word)
    (dg : List Byte) : let t := requestAs s staged seq dg
    t.pair.outOfStep = s.pair.outOfStep ∧ t.resync.role = .joiner ∧ t.fld F.STRAIT_STATUS.COPY = 1 ∧
      t.loader = s.loader ∧ t.mode = s.mode := by
  have out (sub : Nat) (vals : List Nat) : (s.straitOn 6 8 sub vals dg).pair.outOfStep = s.pair.outOfStep := by
    unfold State.straitOn State.straitFor
    split <;> rfl
  unfold requestAs
  rw [if_neg (by rw [hb]; exact Bool.false_ne_true), State.straitOn_frame]
  exact ⟨out 1 _, rfl, State.fld_setFld_same _ _ _ (by decide), rfl, State.fld_setFld_other s _ _ _ (.inl (by decide))⟩

/-- A standby in step that goes out of step is no longer ranked and asks for its copy (R169). -/
theorem goOutOfStep_spec {s : State} (hm : s.mode = stStandby) (ho : s.pair.outOfStep = false)
    (hb : s.flag F.MEM_STATUS.SCRUB_BUSY = false) : (goOutOfStep s).pair.outOfStep = true ∧ (goOutOfStep s).rank = 0 ∧
      (goOutOfStep s).resync.role = .joiner ∧ (goOutOfStep s).fld F.STRAIT_STATUS.COPY = 1 ∧
      (goOutOfStep s).loader = s.loader := by
  unfold goOutOfStep
  rw [if_pos (by simp [hm, ho])]
  extract_lets t u
  have others (f : Fld) (h : f.reg ≠ A.STRAIT_STATUS) :
      ((u.setFlag F.STRAIT_STATUS.IN_STEP false).setFlag F.STRAIT_STATUS.CMP_SUSPENDED true).fld f = s.fld f :=
    (State.fld_setFld_other _ _ _ _ (.inl h)).trans (State.fld_setFld_other _ _ _ _ (.inl h))
  have free : ((u.setFlag F.STRAIT_STATUS.IN_STEP false).setFlag F.STRAIT_STATUS.CMP_SUSPENDED true).flag
      F.MEM_STATUS.SCRUB_BUSY = false := by
    rw [State.flag, others _ (by decide)]
    exact hb
  obtain ⟨out, role, copy, loader, mode⟩ := requestAs_spec free false
    (runningSeq ((u.setFlag F.STRAIT_STATUS.IN_STEP false).setFlag F.STRAIT_STATUS.CMP_SUSPENDED true))
    (imageDigest ((u.setFlag F.STRAIT_STATUS.IN_STEP false).setFlag F.STRAIT_STATUS.CMP_SUSPENDED true))
  have standby := (mode.trans (others _ (by decide))).trans hm
  refine ⟨out, ?_, role, copy, loader⟩
  rw [State.rank, State.holds, requestResync, standby, out]
  rfl

/-- A standby that has no decision by 61.0 µs of the planned tick goes out of step (R96, R169). -/
theorem noSwitchDecision_outOfStep {s : State} (hd : switchDue s = true) (hm : s.mode = stStandby)
    (hg : s.loader.decision = none) (ho : s.pair.outOfStep = false) (hb : s.flag F.MEM_STATUS.SCRUB_BUSY = false) :
    ∃ t, exec .noSwitchDecision s = .next t ∧ t.pair.outOfStep = true ∧ t.rank = 0 ∧ t.resync.role = .joiner ∧
      t.fld F.STRAIT_STATUS.COPY = 1 ∧ t.loader = s.loader := by
  have acts : exec .noSwitchDecision s = .next (goOutOfStep (s.at 61000)) := by
    show execNoSwitchDecision s = _
    rw [execNoSwitchDecision, if_pos (by simp [hd, hm, hg])]
  exact ⟨_, acts, goOutOfStep_spec ((State.mode_at s 61000).trans hm) ho
    ((State.flag_of_reg (State.reg_at_other s _ (by decide))).trans hb)⟩

/-! ## The reset after an arm in SAFE (R101, R324) -/

/-- What a filter drops reads as unlisted. -/
theorem Sparse.get_filter_dropped {α : Type} (d : Nat → α) {p : Nat × α → Bool} {a : Nat} (drop : ∀ v, p (a, v) = false) :
    ∀ m : List (Nat × α), Sparse.get d (m.filter p) a = d a
  | [] => rfl
  | (j, v) :: m => by
    rw [List.filter_cons]
    split
    case isTrue keep =>
      have other : j ≠ a := fun e => Bool.false_ne_true ((drop v).symm.trans (e ▸ keep))
      rw [Sparse.get, if_neg other]
      split
      · rfl
      · exact Sparse.get_filter_dropped d drop m
    case isFalse => exact Sparse.get_filter_dropped d drop m

/-- A register that a reset does not keep has its reset value (R324). -/
theorem reg_resetBase (s : State) (kind : Nat) {a : Nat} (h : keptRegister a = false) :
    (resetBase s kind).reg a = resetValue a :=
  Sparse.get_filter_dropped resetValue (fun _ => h) s.regs

/-- What a reset shows of its kind, before it is recorded (R324). -/
def resetShown (s : State) (kind : Nat) : State :=
  let r := ((resetBase s kind).setFlag F.SYS_STATE.TAMPERED s.tampered).setFld F.PWR_STATUS.RESET_KIND kind
  let r := r.setFlag F.PWR_STATUS.WARNING (stillWarned s kind)
  let r := (r.setFlag F.PWR_STATUS.FEED_A (s.flag F.PWR_STATUS.FEED_A)).setFlag F.PWR_STATUS.FEED_B
    (s.flag F.PWR_STATUS.FEED_B)
  let r := (r.setFld F.EVR_STATUS.QUEUE r.recorder.queue.length).setFlag F.EVR_STATUS.SATURATED
    (s.flag F.EVR_STATUS.SATURATED)
  if r.fld F.SKERRY_STATUS.KEYS = 2 then r.setFld F.SKERRY_STATUS.KEYS 1 else r

/-- It shows START and the kind; no image runs, and the banks are kept. -/
theorem resetShown_spec (s : State) {kind : Nat} (hk : kind < 4) : (resetShown s kind).mode = stStart ∧
    (resetShown s kind).fld F.PWR_STATUS.RESET_KIND = kind ∧ (resetShown s kind).image = none ∧
    (resetShown s kind).bank0 = s.bank0 ∧ (resetShown s kind).bank1 = s.bank1 := by
  have start : (resetBase s kind).fld F.SYS_STATE.STATE = stStart := by
    rw [State.fld, reg_resetBase s kind (by decide)]
    decide
  unfold resetShown
  extract_lets r1 r2 r3 r4
  have mode : r4.fld F.SYS_STATE.STATE = stStart := by
    simp (decide := true) [r4, r3, r2, r1, State.setFlag, State.fld_setFld_other, start]
  have kind' : r4.fld F.PWR_STATUS.RESET_KIND = kind := by
    simp (decide := true) [r4, r3, r2, r1, State.setFlag, State.fld_setFld_other, State.fld_setFld_same,
      Nat.mod_eq_of_lt hk]
  split
  · exact ⟨(State.fld_setFld_other _ _ _ _ (.inl (by decide))).trans mode,
      (State.fld_setFld_other _ _ _ _ (.inl (by decide))).trans kind', rfl, rfl, rfl⟩
  · exact ⟨mode, kind', rfl, rfl, rfl⟩

/-- A reset from another state than START shows the change, and both are recorded (R32, R324). -/
theorem resetModule_recorded {s : State} (hm : s.mode ≠ stStart) (kind : Nat) : ∃ det, resetModule s kind =
    (((resetShown s kind).raise 12 1 0 (d1 kind)).note F.SYS_EVENT.STATE_CHANGED).raise 0 1 0 det := by
  unfold resetModule
  extract_lets old tampered partner r1 r2 r3 r4 r5 r6 r7
  rw [if_neg hm]
  exact ⟨_, rfl⟩

/-- So a reset of any kind begins START without an image (R32, R324). -/
theorem resetModule_spec {s : State} (hm : s.mode ≠ stStart) {kind : Nat} (hk : kind < 4) :
    (resetModule s kind).mode = stStart ∧ (resetModule s kind).fld F.PWR_STATUS.RESET_KIND = kind ∧
      (resetModule s kind).flag F.SYS_EVENT.STATE_CHANGED = true ∧ (resetModule s kind).image = none ∧
      (resetModule s kind).bank0 = s.bank0 ∧ (resetModule s kind).bank1 = s.bank1 := by
  obtain ⟨mode, shown, image, bank0, bank1⟩ := resetShown_spec s hk
  obtain ⟨det, records⟩ := resetModule_recorded hm kind
  generalize resetShown s kind = r at *
  have other (f : Fld) (h : f.reg ≠ A.SYS_EVENT) : (resetModule s kind).fld f = r.fld f := by
    rw [records]
    exact State.fld_setFld_other r _ _ _ (.inl h)
  refine ⟨(other _ (by decide)).trans mode, (other _ (by decide)).trans shown, ?_⟩
  rw [records]
  exact ⟨State.flag_note_same r _ (by decide) (by decide), image, bank0, bank1⟩

/-- After an arm in SAFE the module resets (R101). -/
theorem safeArmReset_resets {s : State} (hr : s.loader.safeReset = true) (hm : s.mode = stSafe) :
    ∃ t, exec .safeArmReset s = .next t ∧ t.mode = stStart ∧ t.fld F.PWR_STATUS.RESET_KIND = 3 ∧
      t.flag F.SYS_EVENT.STATE_CHANGED = true ∧ t.image = none ∧ t.bank0 = s.bank0 ∧ t.bank1 = s.bank1 := by
  have acts : exec .safeArmReset s = .next (resetModule s 3) := by
    show execSafeArmReset s = _
    rw [execSafeArmReset, if_pos (by simp [hr, hm])]
  exact ⟨_, acts, resetModule_spec (by rw [hm]; decide) (by decide)⟩

end Sys2Proof.Machine
end

section
/-! O31: a switch of images is armed, offered, confirmed and carried out (R93, R96 to R98, R101, R206). -/

namespace Sys2Proof.Machine

open Sys2Proof

/-- Settles O31: each message, the judgement, the switch and its deferral, and each way an arm ends, by the rule of its own. -/
theorem switchesAreDecided : Obligations.SwitchesAreDecided := by
  unfold Obligations.SwitchesAreDecided
  refine ⟨fun s h he => ⟨loaderQuery_answered he, ?_, loaderArm_adopted he, switchDecision_taken he⟩,
    fun s im hd hi => ⟨switchJudgement_decides hd hi, hoodSwitch_goes hd hi, hoodSwitch_postpones hd⟩, ?_, ?_, ?_, ?_⟩
  · exact fun w im k q rest asking img mode staged slot waits =>
      loaderReply_accepts he asking img mode staged slot waits
  · exact fun s im w n e ticks runs due armed img => hoodSwitch_arms ticks runs due armed img
  · exact fun s w n e k q rest ticks mode lost swap join step armed epoch slot waits =>
      crownChange_abandons ticks mode lost swap join step armed epoch slot waits
  · exact fun s due mode decision step scrub => noSwitchDecision_outOfStep due mode decision step scrub
  · exact fun s asked mode => safeArmReset_resets asked mode

end Sys2Proof.Machine
end

section
/-! SUPPORT. The registers of a ring's block, its lock bits, and what receiving a frame's cells changes (R123, R127,
R128). -/

namespace Sys2Proof.Machine

open Sys2Proof

/-! ## Fields of a ring -/

/-- Two registers of the blocks of rings stand apart where their places within a block do. -/
theorem ringReg_apart {a b : Nat} (h : a % 0x10000 ≠ b % 0x10000) (k j : Nat) : a + 0x10000 * k ≠ b + 0x10000 * j := by
  omega

/-- So does a register without items, below the blocks of the rings. -/
theorem ringReg_high {a b : Nat} (ha : a < 0x1A0000) (hb : 0x1A0000 ≤ b) (k : Nat) : a ≠ b + 0x10000 * k := by
  omega

variable (s : State)

/-- A field of a ring's block reads the value set, cut to its width. -/
theorem State.fld_setRingFld_same (k v : Nat) {f : Fld} (h : f.hi < 32) :
    (s.setFld (f.ring k) v).fld (f.ring k) = v % 2 ^ (f.hi + 1 - f.lo) :=
  State.fld_setFld_same s _ v h

/-- Setting one leaves the ring's fields of another register, or that share no bit with it. -/
theorem State.fld_setRingFld_other (k v : Nat) {f g : Fld} (h : g.reg ≠ f.reg ∨ g.hi < f.lo ∨ f.hi < g.lo) :
    (s.setFld (f.ring k) v).fld (g.ring k) = s.fld (g.ring k) :=
  State.fld_setFld_other s _ _ v (h.imp_left fun apart same => apart (Nat.add_right_cancel same))

/-- Setting one leaves every field of another ring's block. -/
theorem State.fld_setRingFld_apart {k j : Nat} (hkj : k ≠ j) (v : Nat) {f g : Fld} (hf : f.reg / 0x10000 = 0x1A)
    (hg : g.reg / 0x10000 = 0x1A) : (s.setFld (f.ring j) v).fld (g.ring k) = s.fld (g.ring k) := by
  refine State.fld_setFld_other s _ _ v (.inl ?_)
  dsimp only
  omega

/-- A lock bit of a ring is bit 0 or bit 1 of RING_STATUS. -/
theorem lockFld_bit (k port : Nat) : ∃ i < 2, lockFld k port = ⟨A.RING_STATUS + 0x10000 * k, i, i⟩ := by
  by_cases h : port = 0
  · exact ⟨0, by decide, if_pos h⟩
  · exact ⟨1, by decide, if_neg h⟩

/-- Both stand in RING_STATUS. -/
theorem reg_lockFld (k port : Nat) : (lockFld k port).reg = A.RING_STATUS + 0x10000 * k := by
  obtain ⟨i, -, h⟩ := lockFld_bit k port
  rw [h]

/-- A lock bit reads the bit set. -/
theorem fld_setLock_same (k port : Nat) (b : Bool) : (s.setFld (lockFld k port) (b2n b)).fld (lockFld k port) = b2n b := by
  obtain ⟨i, hi, h⟩ := lockFld_bit k port
  rw [h, State.fld_setFld_same _ _ _ (Nat.lt_trans hi (by decide)), Nat.add_sub_cancel_left]
  cases b <;> rfl

/-! ## Cells received -/

/-- What a receiver's cells change: the errors counted, lock and what is passed on. -/
structure CellsMet (k : Nat) (s u : State) : Prop where
  frame : ∃ regs recorder outbox, u = { s with regs := regs, recorder := recorder, outbox := outbox }
  reg : ∀ a, a ≠ A.RING_ERR + 0x10000 * k → a ≠ A.RING_STATUS + 0x10000 * k → u.reg a = s.reg a

variable {s} {k : Nat}

theorem CellsMet.trans {t u : State} (h : CellsMet k s t) (h' : CellsMet k t u) : CellsMet k s u := by
  refine ⟨?_, fun a err status => (h'.reg a err status).trans (h.reg a err status)⟩
  obtain ⟨_, _, _, rfl⟩ := h.frame
  obtain ⟨_, _, _, rfl⟩ := h'.frame
  exact ⟨_, _, _, rfl⟩

variable (s)

/-- An error counted. -/
theorem cellsMet_count {f : Fld} (hf : f.reg = A.RING_ERR) (n : Nat) : CellsMet k s (s.count (f.ring k) n) :=
  ⟨⟨_, _, _, rfl⟩, fun a err _ => State.reg_count_other s n (show a ≠ f.reg + 0x10000 * k by rwa [hf])⟩

/-- A lock lost: counted and recorded. -/
theorem cellsMet_loseLock (port : Nat) : CellsMet k s (loseLock s k port) := by
  have unlocked : CellsMet k s (s.setFld (lockFld k port) 0) :=
    ⟨⟨_, _, _, rfl⟩, fun _ _ status => State.reg_setFld_other s 0 (by rwa [reg_lockFld])⟩
  have recorded (t : State) : CellsMet k t (t.raise 6 1 k (d1 (2 * k + port))) := ⟨⟨_, _, _, rfl⟩, fun _ _ _ => rfl⟩
  exact (unlocked.trans (cellsMet_count _ (f := F.RING_ERR.LOCK_LOSS) rfl 1)).trans (recorded _)

/-- Cells passed on. -/
theorem cellsMet_forwardCells (odd : Bool) (cells : List (Option (List Byte))) :
    CellsMet k s (forwardCells s k odd cells) := by
  unfold forwardCells
  split <;> exact ⟨⟨_, _, _, rfl⟩, fun _ _ _ => rfl⟩

/-- A frame's cells are met before the frame is judged. -/
theorem cellsMet_receiveCells (odd : Bool) (cells : List (Option (List Byte))) (missed bad : Nat) (lost : Bool) :
    CellsMet k s (receiveCells (forwardCells s k odd cells) k odd missed bad lost) := by
  have counted := ((cellsMet_forwardCells s (k := k) odd cells).trans
    (cellsMet_count _ (f := F.RING_ERR.HDR) rfl missed)).trans (cellsMet_count _ (f := F.RING_ERR.CELL) rfl bad)
  unfold receiveCells
  cases lost with
  | false => exact counted
  | true => exact counted.trans (cellsMet_loseLock _ (b2n odd))

section Met

variable {s} {u : State} (h : CellsMet k s u)
include h

/-- The registers below the rings' blocks stay. -/
theorem CellsMet.low {a : Nat} (ha : a < 0x1A0000) : u.reg a = s.reg a :=
  h.reg a (ringReg_high ha (by decide) k) (ringReg_high ha (by decide) k)

/-- So do the ring and the image. -/
theorem CellsMet.same : u.rings = s.rings ∧ u.sessions = s.sessions ∧ u.image = s.image ∧ u.loader = s.loader ∧
    u.mem = s.mem ∧ u.outImg = s.outImg := by
  obtain ⟨_, _, _, rfl⟩ := h.frame
  exact ⟨rfl, rfl, rfl, rfl, rfl, rfl⟩

/-- And what the module takes part in. -/
theorem CellsMet.mode : u.mode = s.mode ∧ u.parity = s.parity ∧ u.tick = s.tick ∧ u.ticking = s.ticking ∧
    u.active = s.active ∧ u.fld F.TICK_STATUS.WINDOW = s.fld F.TICK_STATUS.WINDOW := by
  have fld (f : Fld) (hf : f.reg < 0x1A0000) : u.fld f = s.fld f := State.fld_of_reg (h.low hf)
  have mode : u.mode = s.mode := fld _ (by decide)
  have parity : u.parity = s.parity := congrArg (· % 2) (fld F.SYS_SLOT.SLOT (by decide))
  have joining : u.joining = s.joining := by
    obtain ⟨_, _, _, rfl⟩ := h.frame
    rfl
  have active : u.active = s.active := by
    rw [State.active, State.running, mode, joining, State.active, State.running]
  exact ⟨mode, parity, State.dword_of_reg (h.low (by decide)) (h.low (by decide)),
    State.flag_of_reg (h.low (by decide)), active, fld _ (by decide)⟩

end Met

end Sys2Proof.Machine
end

section
/-! SUPPORT. The return of the module's own frame: what it shows and which blocks are taken of it (R28, R132, R138 to R141,
R153). -/

namespace Sys2Proof.Machine

open Sys2Proof

variable (s : State) (k : Nat)

/-! ## What is shown -/

/-- What the return shows leaves the image, memory, outputs and the state copy. -/
theorem showReturn_leaves (retNs : Nat) (f : FrameView) : (showReturn s k retNs f).image = s.image ∧
    (showReturn s k retNs f).mem = s.mem ∧ (showReturn s k retNs f).outImg = s.outImg ∧
    (showReturn s k retNs f).resync = s.resync := by
  unfold showReturn
  dsimp only
  split <;> simp

/-- The return time, the wrap and the count beyond 64 that the registers show (R138 to R141). -/
theorem fld_showReturn (retNs : Nat) (f : FrameView) :
    (showReturn s k retNs f).fld (F.RING_RETURN.LAST.ring k) = min 0xFFFE retNs ∧
    (showReturn s k retNs f).flag (F.RING_STATUS.WRAP.ring k) = decide (f.wrapAt ≠ 0xFF) ∧
    (showReturn s k retNs f).fld (F.RING_STATUS.UNTRACKED.ring k) = (f.hop - 64) % 2 ^ 8 := by
  unfold showReturn
  extract_lets whole wrapped was s1 s2 s3 s4 s5 s6 r
  have shown (g : Fld) : s6.fld g = s5.fld g := by
    unfold s6
    split
    · simp only [State.raise_reads]
    · rfl
  simp only [State.setRing_reads]
  have last : s1.fld (F.RING_RETURN.LAST.ring k) = min 0xFFFE retNs :=
    (State.fld_setRingFld_same s k _ (by decide)).trans
      (Nat.mod_eq_of_lt (Nat.lt_of_le_of_lt (Nat.min_le_left _ _) (by decide)))
  have wrap : s3.flag (F.RING_STATUS.WRAP.ring k) = wrapped := State.flag_setFlag_same _ _ _ (by simp) (by simp)
  refine ⟨(shown _).trans ?_, ?_, (shown _).trans (State.fld_setRingFld_same s4 k _ (by decide))⟩
  · rw [← last]
    calc s5.fld (F.RING_RETURN.LAST.ring k)
      _ = s4.fld (F.RING_RETURN.LAST.ring k) := State.fld_setRingFld_other s4 k _ (.inl (by decide))
      _ = s3.fld (F.RING_RETURN.LAST.ring k) := State.fld_setRingFld_other s3 k _ (.inl (by decide))
      _ = (s2.setFld (F.RING_STATUS.WRAP_AT.ring k) f.wrapAt).fld (F.RING_RETURN.LAST.ring k) :=
        State.fld_setRingFld_other _ k _ (.inl (by decide))
      _ = s2.fld (F.RING_RETURN.LAST.ring k) := State.fld_setRingFld_other s2 k _ (.inl (by decide))
      _ = s1.fld (F.RING_RETURN.LAST.ring k) := State.fld_setRingFld_other s1 k _ (.inr (.inl (by decide)))
  · have other : s6.fld (F.RING_STATUS.WRAP.ring k) = s3.fld (F.RING_STATUS.WRAP.ring k) :=
      (shown _).trans ((State.fld_setRingFld_other s4 k _ (.inr (.inl (by decide)))).trans
        (State.fld_setRingFld_other s3 k _ (.inr (.inl (by decide)))))
    rw [State.flag, other]
    refine wrap.trans ?_
    by_cases h : f.wrapAt = 0xFF <;> simp [wrapped, h]

/-- It leaves every other register. -/
theorem reg_showReturn_other {a : Nat} (retNs : Nat) (f : FrameView) (ret : a ≠ A.RING_RETURN + 0x10000 * k)
    (status : a ≠ A.RING_STATUS + 0x10000 * k) : (showReturn s k retNs f).reg a = s.reg a := by
  unfold showReturn
  extract_lets whole wrapped was s1 s2 s3 s4 s5 s6 r
  have shown : s6.reg a = s5.reg a := by
    unfold s6
    split
    · simp only [State.raise_reads]
    · rfl
  simp only [State.setRing_reads]
  calc s6.reg a
    _ = s5.reg a := shown
    _ = s4.reg a := State.reg_setFld_other s4 _ status
    _ = s3.reg a := State.reg_setFld_other s3 _ status
    _ = (s2.setFld (F.RING_STATUS.WRAP_AT.ring k) f.wrapAt).reg a := State.reg_setFld_other _ _ status
    _ = s2.reg a := State.reg_setFld_other s2 _ status
    _ = s1.reg a := State.reg_setFld_other s1 _ ret
    _ = s.reg a := State.reg_setFld_other s _ ret

/-- The ring holds that the frame is back where no cell is lost or missed and it has come by 24 µs (R28). -/
theorem back_showReturn (retNs : Nat) (f : FrameView) : ((showReturn s k retNs f).ring k).back.isSome =
    decide (retNs ≤ 24000 ∧ f.lost = [] ∧ f.missed = []) := by
  unfold showReturn
  extract_lets whole wrapped was s1 s2 s3 s4 s5 s6 r
  rw [State.ring_setRing, if_pos rfl]
  by_cases back : retNs ≤ 24000 ∧ f.lost = [] ∧ f.missed = [] <;> simp [back]

/-! ## What is taken -/

/-- Filling a station's inputs changes the input image and the state copy's bookkeeping alone. -/
theorem fillStation_frame (f : State → SignalRec → Slot) (ring station : Nat) : fillStation f s ring station = { s with
    inImg := (fillStation f s ring station).inImg, resync := (fillStation f s ring station).resync } := by
  rw [fillStation, State.touch_frame, setSlots_frame]

/-- What each step of a fold changes of the inputs and that bookkeeping alone, the fold does. -/
theorem foldl_inputs {α : Type} {f : State → α → State}
    (h : ∀ t x, ∃ (img : SlotMap) (sync : Resync), f t x = { t with inImg := img, resync := sync }) (xs : List α) :
    ∃ (img : SlotMap) (sync : Resync), xs.foldl f s = { s with inImg := img, resync := sync } := by
  refine List.foldlRecOn (motive := fun t => ∃ (img : SlotMap) (sync : Resync), t = { s with inImg := img, resync := sync })
    xs f ⟨s.inImg, s.resync, rfl⟩ fun t ⟨_, _, ht⟩ x _ => ?_
  obtain ⟨img, sync, step⟩ := h t x
  exact ⟨img, sync, by rw [step, ht]⟩

/-- A CARD message that is sent changes what the Strait sends and the ring's note of it alone (R153). -/
theorem sendCard_spec : sendCard s k = { s with
      rings := (sendCard s k).rings, pair := (sendCard s k).pair, outbox := (sendCard s k).outbox } ∧
    ((sendCard s k).ring k).own = (s.ring k).own ∧ ((sendCard s k).ring k).back = (s.ring k).back := by
  unfold sendCard
  split
  · extract_lets blocks bytes mask lane t r
    have sent : t = { s with pair := t.pair, outbox := t.outbox } := State.straitOn_frame ..
    have ring : r = s.ring k := by
      unfold r
      rw [sent]
      rfl
    clear_value r t
    subst ring
    rw [State.ring_setRing, if_pos rfl]
    generalize t.pair = p, t.outbox = o at sent
    subst sent
    exact ⟨rfl, rfl, rfl⟩
  · exact ⟨rfl, rfl, rfl⟩

/-- The blocks of the own frame are the ring's, and registers, memory and outputs stay (R132). -/
theorem takeFrame_own (blocks : List (Nat × List Byte)) :
    ((takeFrame s k true blocks).ring k).own = blocks ∧ ((takeFrame s k true blocks).ring k).back = (s.ring k).back ∧
    (takeFrame s k true blocks).regs = s.regs ∧ (takeFrame s k true blocks).mem = s.mem ∧
    (takeFrame s k true blocks).outImg = s.outImg := by
  unfold takeFrame
  extract_lets r t u
  obtain ⟨own, back⟩ : (t.ring k).own = blocks ∧ (t.ring k).back = (s.ring k).back := by
    simp [t, r]
  split
  · obtain ⟨img, sync, taken⟩ : ∃ (img : SlotMap) (sync : Resync), u = { t with inImg := img, resync := sync } := by
      refine foldl_inputs t (fun v x => ?_) _
      split
      · next b _ _ => exact ⟨_, _, fillStation_frame v (fun _ => blockSlot x b) x.ring x.station⟩
      · exact ⟨v.inImg, v.resync, rfl⟩
    have ring : u.ring k = t.ring k := by
      rw [taken]
      rfl
    split
    · obtain ⟨frame, sameOwn, sameBack⟩ := sendCard_spec u k
      rw [sameOwn, sameBack, ring, frame, taken]
      exact ⟨own, back, rfl, rfl, rfl⟩
    · rw [ring, taken]
      exact ⟨own, back, rfl, rfl, rfl⟩
  · exact ⟨own, back, rfl, rfl, rfl⟩

/-! ## The frame -/

/-- The blocks of a frame depend on the image alone. -/
theorem frameBlocks_congr {s t : State} (h : t.image = s.image) (k : Nat) (f : FrameView) (bad : List Nat) :
    frameBlocks t k f bad = frameBlocks s k f bad := by
  simp only [frameBlocks, ringStations, h]

/-- How a frame counts depends on the module state and the slot parity (R121, R140). -/
theorem frameUse_congr {s t : State} (hm : t.mode = s.mode) (hp : t.parity = s.parity) (k : Nat) (odd : Bool)
    (f : FrameView) : frameUse t k odd f = frameUse s k odd f := by
  simp only [frameUse, hm, hp]

/-- The own frame of this tick: its return is shown, and its blocks are taken while blocks are taken at all (R28, R132). -/
theorem useFrame_own {s : State} {k : Nat} {odd : Bool} {f : FrameView} (head : f.headOk = true)
    (own : frameUse s k odd f = .own) (now : f.tick = s.tick) (retNs : Nat) (bad : List Nat) :
    useFrame s k odd retNs bad f =
      if takingBlocks (showReturn s k retNs f) then
        takeFrame (showReturn s k retNs f) k true (frameBlocks (showReturn s k retNs f) k f bad)
      else showReturn s k retNs f := by
  simp [useFrame, head, own, now]

/-- Blocks are taken until the deadline on a module that takes part in the tick. -/
theorem takingBlocks_showReturn (retNs : Nat) (f : FrameView) :
    takingBlocks (showReturn s k retNs f) = takingBlocks s := by
  have low (a : Nat) (ha : a < 0x1A0000) : (showReturn s k retNs f).reg a = s.reg a :=
    reg_showReturn_other s k retNs f (ringReg_high ha (by decide) k) (ringReg_high ha (by decide) k)
  have ticking : (showReturn s k retNs f).ticking = s.ticking := State.flag_of_reg (low _ (by decide))
  have window : (showReturn s k retNs f).fld F.TICK_STATUS.WINDOW = s.fld F.TICK_STATUS.WINDOW :=
    State.fld_of_reg (low _ (by decide))
  have running : (showReturn s k retNs f).running = s.running := running_of_reg (low _ (by decide))
  have joining : (showReturn s k retNs f).joining = s.joining := by
    rw [State.joining, (showReturn_leaves s k retNs f).2.2.2, State.joining]
  rw [takingBlocks, ticking, window, State.active, running, joining, takingBlocks, State.active]

/-- A returning frame of the module's own in this tick. -/
theorem useFrame_own_spec {s : State} {k : Nat} {odd : Bool} {f : FrameView} (head : f.headOk = true)
    (own : frameUse s k odd f = .own) (now : f.tick = s.tick) (hop : f.hop < 256) (retNs : Nat) (bad : List Nat) :
    (useFrame s k odd retNs bad f).fld (F.RING_RETURN.LAST.ring k) = min 0xFFFE retNs ∧
    (takingBlocks s = true → ((useFrame s k odd retNs bad f).ring k).own = frameBlocks s k f bad) ∧
    (useFrame s k odd retNs bad f).flag (F.RING_STATUS.WRAP.ring k) = decide (f.wrapAt ≠ 0xFF) ∧
    (useFrame s k odd retNs bad f).fld (F.RING_STATUS.UNTRACKED.ring k) = f.hop - 64 ∧
    ((useFrame s k odd retNs bad f).ring k).back.isSome = decide (retNs ≤ 24000 ∧ f.lost = [] ∧ f.missed = []) ∧
    (useFrame s k odd retNs bad f).mem = s.mem ∧ (useFrame s k odd retNs bad f).outImg = s.outImg := by
  obtain ⟨last, wrap, beyond⟩ := fld_showReturn s k retNs f
  rw [Nat.mod_eq_of_lt (by omega)] at beyond
  have back := back_showReturn s k retNs f
  obtain ⟨image, mem, outputs, -⟩ := showReturn_leaves s k retNs f
  rw [useFrame_own head own now, takingBlocks_showReturn, frameBlocks_congr image]
  split
  · obtain ⟨blocks, same, regs, mem', outputs'⟩ :=
      takeFrame_own (showReturn s k retNs f) k (frameBlocks s k f bad)
    have fld (g : Fld) : (takeFrame (showReturn s k retNs f) k true (frameBlocks s k f bad)).fld g =
        (showReturn s k retNs f).fld g := State.fld_of_reg (by rw [State.reg, regs, State.reg])
    exact ⟨(fld _).trans last, fun _ => blocks, (congrArg (· != 0) (fld _)).trans wrap, (fld _).trans beyond,
      by rw [same, back], mem'.trans mem, outputs'.trans outputs⟩
  · next idle => exact ⟨last, fun taking => absurd taking idle, wrap, beyond, back, mem, outputs⟩

/-- The count of stations in a frame is one byte (R130). -/
theorem hop_readFrame (f : CyclicFrame) : (readFrame f).hop < 256 := BitVec.isLt _

end Sys2Proof.Machine
end

section
/-! SUPPORT. The ring deadline of a standby (R28, R138): what the end of a state copy leaves of the rings and the module, and
the rings that are late. -/

namespace Sys2Proof.Machine

open Sys2Proof

/-! ## What the end of a state copy leaves (R170) -/

/-- The registers that tell the module state and the rings in use. -/
def deadlineRegs : List Nat := [A.SYS_STATE, A.FAB_RING_EN_LO, A.FAB_RING_EN_HI]

/-- What the judgement of the rings rests on, and the input image. -/
def deadlineSide (s : State) : List (Nat × RingSt) × SlotMap × List Word := (s.rings, s.inImg, deadlineRegs.map s.reg)

/-- The module state and the rings in use read alike from it. -/
theorem of_deadlineSide {s t : State} (h : deadlineSide t = deadlineSide s) : t.mode = s.mode ∧ usedRings t = usedRings s ∧
    t.rings = s.rings ∧ t.inImg = s.inImg := by
  obtain ⟨rings, inputs, regs⟩ : t.rings = s.rings ∧ t.inImg = s.inImg ∧
      deadlineRegs.map t.reg = deadlineRegs.map s.reg := by
    simpa only [deadlineSide, Prod.mk.injEq] using h
  have reg : ∀ a ∈ deadlineRegs, t.reg a = s.reg a := List.map_inj_left.mp regs
  have used : t.dword A.FAB_RING_EN_LO = s.dword A.FAB_RING_EN_LO :=
    State.dword_of_reg (reg _ (by decide)) (reg _ (by decide))
  refine ⟨State.fld_of_reg (reg _ (by decide)), ?_, rings, inputs⟩
  unfold usedRings ringUsed
  rw [used]

section Writes

variable (s : State)

@[simp] theorem deadlineSide_setReg {a : Nat} (h : a ∉ deadlineRegs) (v : Word) :
    deadlineSide (s.setReg a v) = deadlineSide s := by
  unfold deadlineSide
  rw [List.map_congr_left fun b hb => State.reg_setReg_other s v (fun e => h (e ▸ hb) : b ≠ a)]
  rfl

/-- Its registers lie below those of the Strait, of memory, of the transfer channels and of the rings. -/
theorem not_mem_deadlineRegs {a : Nat} (h : 0x60000 ≤ a) : a ∉ deadlineRegs := by
  have low : ∀ b ∈ deadlineRegs, b < 0x60000 := by decide
  exact fun hm => Nat.not_le.mpr (low a hm) h

@[simp] theorem deadlineSide_setFld {f : Fld} (h : f.reg ∉ deadlineRegs) (v : Nat) :
    deadlineSide (s.setFld f v) = deadlineSide s :=
  deadlineSide_setReg s h _

@[simp] theorem deadlineSide_setItem {f : Fld} (h : 0x60000 ≤ f.reg) (i v : Nat) :
    deadlineSide (s.setFld (no_index (f.item i)) v) = deadlineSide s :=
  deadlineSide_setFld s (not_mem_deadlineRegs (Nat.le_add_left_of_le h)) v

@[simp] theorem deadlineSide_setRingFld {f : Fld} (h : 0x60000 ≤ f.reg) (k v : Nat) :
    deadlineSide (s.setFld (no_index (f.ring k)) v) = deadlineSide s :=
  deadlineSide_setFld s (not_mem_deadlineRegs (Nat.le_add_right_of_le h)) v

/-- What holds no register, no ring and no input. -/
@[simp] theorem deadlineSide_updates : (∀ o, deadlineSide (s.emit o) = deadlineSide s) ∧
    (∀ c d e det, deadlineSide (s.raise c d e det) = deadlineSide s) ∧
    (∀ c x, deadlineSide (s.setChan c x) = deadlineSide s) ∧ (∀ f, deadlineSide (s.withPair f) = deadlineSide s) ∧
    (∀ f, deadlineSide (s.withResync f) = deadlineSide s) ∧
    (∀ code target, deadlineSide (runActivity s code target) = deadlineSide s) :=
  by and_intros <;> intros <;> rfl

@[simp] theorem deadlineSide_setChState (c v : Nat) : deadlineSide (setChState s c v) = deadlineSide s :=
  deadlineSide_setItem s (by decide) c v

/-- Completing a command leaves it (R208). -/
@[simp] theorem deadlineSide_finishCommand (k code : Nat) (data : List Byte) :
    deadlineSide (finishCommand s k code data) = deadlineSide s := by
  have regs : deadlineRegs.map (finishCommand s k code data).reg = deadlineRegs.map s.reg :=
    List.map_congr_left fun a ha => (finishCommand_leaves s k code data).2.2 a
      ((by decide : ∀ a ∈ deadlineRegs, a % 0x1000000 ∉ [A.NET_PORT_TX, A.CMD_ERR, A.CMD_SESS_STATE]) a ha)
  have rest : (finishCommand s k code data).rings = s.rings ∧ (finishCommand s k code data).inImg = s.inImg := by
    cases hq : (s.sess k).queue with
    | nil =>
      unfold finishCommand
      rw [hq]
      exact ⟨rfl, rfl⟩
    | cons q rest =>
      by_cases hk : k < 16
      · rw [finishCommand_front hk hq]
        exact ⟨rfl, rfl⟩
      · rw [finishCommand_closed (Nat.not_lt.mp hk) hq, journalResult_frame]
        exact ⟨rfl, rfl⟩
  rw [deadlineSide, regs, rest.1, rest.2, deadlineSide]

@[simp] theorem deadlineSide_channelError (c e : Nat) : deadlineSide (channelError s c e) = deadlineSide s := by
  have finish (t : State) (k code : Nat) (data : List Byte) : deadlineSide (finishMem t k code data) = deadlineSide t := by
    unfold finishMem
    split
    · rfl
    · split
      · exact deadlineSide_finishCommand t k code data
      · rfl
  unfold channelError
  dsimp only
  split <;> simp (decide := true) [finish]

@[simp] theorem deadlineSide_memError (p : MemPlace) : deadlineSide (s.memError p) = deadlineSide s := by
  have counter (m : Nat) : (if m = 0 then F.MEM_ECC_UE.SRAM else if m = 1 then F.MEM_ECC_UE.DRAM
      else F.MEM_ECC_UE.MRAM).reg ∉ deadlineRegs := by
    split
    · decide
    · split <;> decide
  unfold State.memError
  simp (decide := true) [State.note, State.setDword, State.count, counter]

@[simp] theorem deadlineSide_straitFor (n : DWord) (l type sub : Nat) (vals : List Nat) (bytes : List Byte) :
    deadlineSide (s.straitFor n l type sub vals bytes) = deadlineSide s := by
  unfold State.straitFor
  split <;> rfl

@[simp] theorem deadlineSide_ownerStop (c : Nat) : deadlineSide (ownerStop s c) = deadlineSide s := by
  unfold ownerStop
  split
  · exact deadlineSide_setChState s c chIdle
  · rfl

@[simp] theorem deadlineSide_startQueuedSegment : deadlineSide (startQueuedSegment s) = deadlineSide s := by
  unfold startQueuedSegment
  split
  · have acts : deadlineSide (runActivity s 0x0401 0) = deadlineSide s := rfl
    unfold beginSegment
    rw [deadlineSide_setFld _ (by decide), State.setFlag, deadlineSide_setFld _ (by decide), State.setFlag,
      deadlineSide_setFld _ (by decide), acts]
  · rfl

/-- The end of a resynchronisation leaves it (R170, R171). -/
theorem deadlineSide_copyEnds : deadlineSide (copyEnds s) = deadlineSide s := by
  have ended (t : State) : deadlineSide { t with resync := Resync.initial } = deadlineSide t := rfl
  unfold copyEnds
  dsimp only
  simp (decide := true) only [deadlineSide_startQueuedSegment, deadlineSide_updates, ended, deadlineSide_setFld,
    deadlineSide_ownerStop]

theorem deadlineSide_resyncFail (code : Nat) : deadlineSide (resyncFail s code) = deadlineSide s := by
  unfold resyncFail
  extract_lets role round s1 s2 s3
  have counted : deadlineSide s1 = deadlineSide s := deadlineSide_setFld s (by decide) _
  have told : deadlineSide s2 = deadlineSide s1 := by
    unfold s2
    split
    · exact (deadlineSide_straitFor _ _ _ _ _ _ _).trans (deadlineSide_straitFor _ _ _ _ _ _ _)
    · rfl
  have outputs : deadlineSide (restoreOutputs s2) = deadlineSide s2 := by
    unfold restoreOutputs
    split <;> rfl
  have ended : deadlineSide s3 = deadlineSide s :=
    (deadlineSide_copyEnds _).trans (outputs.trans (told.trans counted))
  split
  · rfl
  · split <;> exact ended

/-- So does each unit of it that is still to leave, and the last message (R170). -/
theorem deadlineSide_copyUnit : deadlineSide (copyUnit s) = deadlineSide s := by
  unfold copyUnit
  split
  · rfl
  · split
    · extract_lets t
      split <;> rfl
    · split
      · rw [deadlineSide_resyncFail, deadlineSide_channelError, deadlineSide_memError]
      · exact deadlineSide_straitFor s _ _ _ _ _ _

theorem deadlineSide_sendFinal : deadlineSide (sendFinal s) = deadlineSide s := by
  unfold sendFinal
  extract_lets t
  have ended : deadlineSide t = deadlineSide s := by
    unfold t
    split
    · exact foldl_frame (queueCopy s s.resync.dirty) deadlineSide _ (fun t _ => deadlineSide_copyUnit t) _
    · exact deadlineSide_resyncFail s rcTimeout
  split
  · split
    · exact (deadlineSide_straitFor t _ _ _ _ _ _).trans ended
    · exact ended
  · rfl

/-- And the instant of the deadline. -/
theorem deadlineSide_atDeadline : deadlineSide ((s.at 24000).window 1) = deadlineSide s := by
  refine (deadlineSide_setFld _ (by decide) 1).trans ?_
  refine (deadlineSide_setFld _ (by decide) 0).trans ?_
  exact (deadlineSide_setReg _ (by decide) _).trans (deadlineSide_setReg _ (by decide) _)

end Writes

/-! ## Late rings (R28, R138) -/

section Late

variable {s : State} {k : Nat}

/-- A ring that is shown as late, with no return time where no own frame has come at all. -/
def LateShown (k : Nat) (s : State) : Prop :=
  s.flag (F.RING_STATUS.LATE.ring k) = true ∧ ((s.ring k).ret = none → s.fld (F.RING_RETURN.LAST.ring k) = 0xFFFF) ∧
    s.flag F.SYS_EVENT.RING_LATE = true

/-- A ring whose own frame is back stays. -/
theorem ringLate_of_back (h : (s.ring k).back ≠ none) : ringLate s k = s :=
  if_pos (Option.isSome_iff_ne_none.mpr h)

/-- One whose own frame is not back is shown as late, and recorded. -/
theorem ringLate_of_not_back (h : (s.ring k).back = none) : ∃ det, ringLate s k =
    (((if (s.ring k).ret.isSome then s else s.setFld (F.RING_RETURN.LAST.ring k) 0xFFFF).setFld
      (F.RING_STATUS.LATE.ring k) 1).note F.SYS_EVENT.RING_LATE).raise 6 2 k det :=
  ⟨_, if_neg (by simp [h])⟩

/-- The judgement of a ring leaves the rings, the input image and the module state. -/
theorem deadlineSide_ringLate (s : State) (k : Nat) : deadlineSide (ringLate s k) = deadlineSide s := by
  by_cases back : (s.ring k).back = none
  · obtain ⟨det, late⟩ := ringLate_of_not_back back
    rw [late, State.note]
    split <;> simp (decide := true)
  · rw [ringLate_of_back back]

/-- It leaves every ring. -/
theorem ring_ringLate (s : State) (j k : Nat) : (ringLate s j).ring k = s.ring k := by
  rw [State.ring, (of_deadlineSide (deadlineSide_ringLate s j)).2.2.1, State.ring]

/-- It leaves the fields of every other ring. -/
theorem fld_ringLate_other {j : Nat} (hkj : k ≠ j) {f : Fld} (hf : f.reg / 0x10000 = 0x1A) :
    (ringLate s j).fld (f.ring k) = s.fld (f.ring k) := by
  by_cases back : (s.ring j).back = none
  · obtain ⟨det, late⟩ := ringLate_of_not_back back
    rw [late]
    simp only [State.raise_reads]
    rw [State.note, State.fld_setFld_other _ _ _ _ (.inl (ringReg_high (by decide) (by omega) k).symm),
      State.fld_setRingFld_apart _ hkj _ (by decide) hf]
    split
    · rfl
    · exact State.fld_setRingFld_apart s hkj _ (by decide) hf
  · rw [ringLate_of_back back]

/-- A ring that is judged before its own frame is back is shown as late. -/
theorem lateShown_ringLate (h : (s.ring k).back = none) : LateShown k (ringLate s k) := by
  unfold LateShown
  rw [ring_ringLate]
  obtain ⟨det, late⟩ := ringLate_of_not_back h
  rw [late]
  simp only [State.raise_reads]
  have event (g : Fld) (hg : 0x1A0000 ≤ g.reg) : (g.ring k).reg ≠ F.SYS_EVENT.RING_LATE.reg :=
    (ringReg_high (by decide) hg k).symm
  refine ⟨?_, fun none => ?_, State.flag_note_same _ _ (by decide) (by decide)⟩
  · rw [State.note, State.flag_setFld_other _ _ _ _ (.inl (event F.RING_STATUS.LATE (by decide)))]
    exact State.flag_note_same _ (F.RING_STATUS.LATE.ring k) (by simp) (by simp)
  · rw [State.note, State.fld_setFld_other _ _ _ _ (.inl (event F.RING_RETURN.LAST (by decide))),
      State.fld_setRingFld_other _ k 1 (.inl (by decide)), if_neg (by simp [none])]
    exact State.fld_setRingFld_same s k 0xFFFF (by decide)

/-- The judgement of any ring after it leaves it shown as late. -/
theorem LateShown.ringLate (h : LateShown k s) (j : Nat) : LateShown k (ringLate s j) := by
  by_cases back : (s.ring j).back = none
  · by_cases same : k = j
    · exact same ▸ lateShown_ringLate (same ▸ back)
    · obtain ⟨late, last, -⟩ := h
      refine ⟨?_, fun none => ?_, (lateShown_ringLate back).2.2⟩
      · rwa [State.flag, fld_ringLate_other same (by decide)]
      · rw [fld_ringLate_other same (by decide)]
        exact last (ring_ringLate s j k ▸ none)
  · rwa [ringLate_of_back back]

/-- On a standby a ring is judged for lateness alone. -/
theorem ringDeadline_standby (h : s.mode = stStandby) (k : Nat) : ringDeadline s k = Machine.ringLate s k := by
  have standby : (Machine.ringLate s k).holds = false := by
    rw [State.holds, (of_deadlineSide (deadlineSide_ringLate s k)).1, h]
    rfl
  rw [ringDeadline, if_neg (by simp [standby])]

/-- The rings judged one after another on a standby: a ring among them that is not back is late. -/
theorem lateShown_ringDeadlines (hm : s.mode = stStandby) (hb : (s.ring k).back = none) {ks : List Nat} (hk : k ∈ ks) :
    LateShown k (ks.foldl ringDeadline s) ∧ deadlineSide (ks.foldl ringDeadline s) = deadlineSide s := by
  have judged : ∀ (js : List Nat) (t : State), deadlineSide t = deadlineSide s →
      deadlineSide (js.foldl ringDeadline t) = deadlineSide s ∧
        (LateShown k t → LateShown k (js.foldl ringDeadline t)) := by
    intro js t ht
    refine List.foldlRecOn (motive := fun u => deadlineSide u = deadlineSide s ∧ (LateShown k t → LateShown k u))
      js ringDeadline ⟨ht, id⟩ fun u ⟨side, late⟩ j _ => ?_
    rw [ringDeadline_standby ((of_deadlineSide side).1.trans hm)]
    exact ⟨(deadlineSide_ringLate u j).trans side, fun h => (late h).ringLate j⟩
  obtain ⟨before, after, rfl⟩ := List.append_of_mem hk
  rw [List.foldl_append, List.foldl_cons]
  obtain ⟨side, -⟩ := judged before s rfl
  generalize before.foldl ringDeadline s = u at side
  obtain ⟨mode, -, rings, -⟩ := of_deadlineSide side
  rw [ringDeadline_standby (mode.trans hm)]
  obtain ⟨side', kept⟩ := judged after _ ((deadlineSide_ringLate u k).trans side)
  exact ⟨kept (lateShown_ringLate (by rw [State.ring, rings]; exact hb)), side'⟩

end Late

end Sys2Proof.Machine
end

section
/-! Rings: the statement of O18. -/

namespace Sys2Proof.Machine

open Sys2Proof

variable {s : State} {k : Nat}

/-! ## Lock and the Causeway (R127, R128, R142) -/

/-- A receiver gains lock where the Causeway is open and the domain ON. -/
theorem exec_lock_open (hc : s.fld (F.RING_STATUS.CAUSEWAY.ring k) = 0) (hd : s.dom k = 2) (port : Nat) :
    ∃ t, exec (.lock k port) s = .next t ∧ t.fld (lockFld k port) = 1 ∧ t = { s with regs := t.regs } ∧
      ∀ a, a ≠ A.RING_STATUS + 0x10000 * k → t.reg a = s.reg a := by
  have gains : exec (.lock k port) s = .next (s.setFld (lockFld k port) 1) := by
    show execLock k port s = _
    simp [execLock, causewayClosed, State.flag, State.domOn, hc, hd]
  exact ⟨_, gains, fld_setLock_same s k port true, rfl,
    fun a ha => State.reg_setFld_other s 1 (by rwa [reg_lockFld])⟩

/-- A locked receiver loses lock: its lock bit, the counts and the record. -/
theorem exec_lockLoss_locked {port : Nat} (hl : s.fld (lockFld k port) = 1) :
    ∃ t, exec (.lockLoss k port) s = .next t ∧ t.fld (lockFld k port) = 0 ∧
      t.fld (F.RING_ERR.LOCK_LOSS.ring k) =
        min (F.RING_ERR.LOCK_LOSS.ring k).top (s.fld (F.RING_ERR.LOCK_LOSS.ring k) + 1) ∧
      t.fld (F.RING_ERR.HDR.ring k) = min (F.RING_ERR.HDR.ring k).top (s.fld (F.RING_ERR.HDR.ring k) + 3) ∧
      ∃ e, t.recorder.raised = s.recorder.raised ++ [e] ∧ e.cls = 6 ∧ e.code = 1 ∧ e.source = k := by
  have loses : exec (.lockLoss k port) s = .next (loseLock (s.count (F.RING_ERR.HDR.ring k) 3) k port) := by
    show execLockLoss k port s = _
    rw [execLockLoss, if_pos hl]
  have status : A.RING_STATUS + 0x10000 * k ≠ A.RING_ERR + 0x10000 * k := ringReg_apart (by decide) k k
  have lock (t : State) (g : Fld) (hg : g.reg = A.RING_ERR) :
      (t.setFld (lockFld k port) 0).fld (g.ring k) = t.fld (g.ring k) :=
    by
    refine State.fld_setFld_other t _ _ 0 (.inl ?_)
    rw [reg_lockFld]
    show g.reg + 0x10000 * k ≠ _
    rw [hg]
    exact status.symm
  refine ⟨_, loses, ?_, ?_, ?_, _, rfl, rfl, rfl, rfl⟩
  · exact (State.fld_count_other _ _ _ 1 (.inl (by rw [reg_lockFld]; exact status))).trans (fld_setLock_same _ k port false)
  · refine (State.fld_count_same (f := F.RING_ERR.LOCK_LOSS.ring k) _ (by simp) 1).trans ?_
    rw [lock _ F.RING_ERR.LOCK_LOSS rfl, State.fld_count_other _ _ _ 3 (.inr (.inr (by simp)))]
  · refine (State.fld_count_other _ _ _ 1 (.inr (.inl (by simp)))).trans ?_
    rw [lock _ F.RING_ERR.HDR rfl, State.fld_count_same s (by simp)]

/-- RING_CTRL is stored, an ACYC_TIMEOUT of 0 as 1. -/
theorem exec_causewayReq_stores (v : Word) : ∃ t, exec (.causewayReq k v) s = .next t ∧
    t.flag (F.RING_CTRL.CAUSEWAY_REQ.ring k) = v.getLsbD 0 ∧
    t.fld (F.RING_CTRL.ACYC_TIMEOUT.ring k) = max 1 (getBits v 15 8) ∧ t = { s with regs := t.regs } := by
  have bit : getBits v 0 0 = b2n (v.getLsbD 0) := by
    have odd := getBits_bit v 0 0 0
    have small : getBits v 0 0 < 2 := Nat.mod_lt _ (by decide)
    obtain h | h : getBits v 0 0 = 0 ∨ getBits v 0 0 = 1 := by omega
    all_goals simp_all [b2n]
  have small : getBits v 15 8 < 256 := Nat.mod_lt _ (by decide)
  refine ⟨_, rfl, ?_, ?_, rfl⟩
  · have flag := State.flag_setFlag_same (s.setFld (F.RING_CTRL.ACYC_TIMEOUT.ring k) (max 1 (getBits v 15 8)))
      (F.RING_CTRL.CAUSEWAY_REQ.ring k) (v.getLsbD 0) (by simp) (by simp)
    rwa [State.setFlag, ← bit] at flag
  · refine (State.fld_setRingFld_other _ k _ (.inr (.inr (by decide)))).trans ?_
    exact (State.fld_setRingFld_same s k _ (by decide)).trans (Nat.mod_eq_of_lt (show _ < 256 by omega))

/-- A Causeway that opens changes no register: idle cells are sent. -/
theorem startTrain_regs (s : State) (k : Nat) : (startTrain s k).regs = s.regs := by
  refine foldl_frame s State.regs _ (fun t dir => ?_) _
  rfl

/-- The Causeway takes the position that the domain and the request require; closed, no receiver holds lock. -/
theorem setCauseway_spec (s : State) (k : Nat) :
    (setCauseway s k).flag (F.RING_STATUS.CAUSEWAY.ring k) = (s.dom k != 2 || s.flag (F.RING_CTRL.CAUSEWAY_REQ.ring k)) ∧
    ((setCauseway s k).flag (F.RING_STATUS.CAUSEWAY.ring k) = true →
      (setCauseway s k).fld (F.RING_STATUS.LOCK_EVEN.ring k) = 0 ∧
        (setCauseway s k).fld (F.RING_STATUS.LOCK_ODD.ring k) = 0) := by
  have needed : (!s.domOn k || s.flag (F.RING_CTRL.CAUSEWAY_REQ.ring k)) =
      (s.dom k != 2 || s.flag (F.RING_CTRL.CAUSEWAY_REQ.ring k)) := rfl
  unfold setCauseway
  extract_lets closed was t
  rw [← needed]
  have shown : t.flag (F.RING_STATUS.CAUSEWAY.ring k) = closed := State.flag_setFlag_same _ _ _ (by simp) (by simp)
  split
  · next h =>
    have even := State.fld_setRingFld_same t k 0 (f := F.RING_STATUS.LOCK_EVEN) (by decide)
    refine ⟨?_, fun _ => ⟨?_, State.fld_setRingFld_same _ k 0 (f := F.RING_STATUS.LOCK_ODD) (by decide)⟩⟩
    · refine (State.flag_setFld_other _ _ _ _ (.inr (.inr (by simp [lockFld])))).trans ?_
      exact (State.flag_setFld_other t _ _ _ (.inr (.inr (by simp [lockFld])))).trans shown
    · exact (State.fld_setRingFld_other _ k 0 (.inr (.inl (by decide)))).trans even
  · next h =>
    have flag : (if was = true then startTrain t k else t).flag (F.RING_STATUS.CAUSEWAY.ring k) = closed := by
      refine (State.flag_of_reg ?_).trans shown
      split
      · rw [State.reg, startTrain_regs, State.reg]
      · rfl
    exact ⟨flag, fun hc => absurd (flag.symm.trans hc) h⟩

/-- CAUSEWAY_SWITCH at 61.5 µs of a guard window. -/
theorem exec_causewaySwitch_sets (s : State) (k : Nat) : ∃ t, exec (.causewaySwitch k) s = .next t ∧
    t.flag (F.RING_STATUS.CAUSEWAY.ring k) = (s.dom k != 2 || s.flag (F.RING_CTRL.CAUSEWAY_REQ.ring k)) ∧
    (t.flag (F.RING_STATUS.CAUSEWAY.ring k) = true →
      t.fld (F.RING_STATUS.LOCK_EVEN.ring k) = 0 ∧ t.fld (F.RING_STATUS.LOCK_ODD.ring k) = 0) := by
  have dom : (s.at 61500).dom k = s.dom k := State.fld_of_reg (State.reg_at_item s 61500 k (by decide) (by decide))
  have req : (s.at 61500).flag (F.RING_CTRL.CAUSEWAY_REQ.ring k) = s.flag (F.RING_CTRL.CAUSEWAY_REQ.ring k) := by
    refine State.flag_of_reg (State.reg_at_other s 61500 fun hm => ?_)
    have low : ∀ a ∈ [A.TIME_NOW_LO, A.TIME_NOW_HI, A.TIME_NOW_FRAC], a < 0x1A0000 := by decide
    exact Nat.not_le.mpr (low _ hm) (Nat.le_add_right_of_le (by decide))
  refine ⟨_, rfl, ?_⟩
  split
  · rw [← dom, ← req]
    exact setCauseway_spec _ k
  · exact setCauseway_spec s k

/-! ## Frames and the deadline -/

/-- A returning own frame of this tick (R28, R130, R132, R138 to R141). -/
theorem exec_cyclicFrame_own {f : CyclicFrame} (ht : s.ticking = true) (hu : ringUsed s k = true)
    (on : receiverOn s k f.oddPort = true) (own : frameUse s k f.oddPort (readFrame f) = .own)
    (head : (readFrame f).headOk = true) (now : (readFrame f).tick = s.tick) :
    ∃ t, exec (.cyclicFrame k f) s = .next t ∧ t.fld (F.RING_RETURN.LAST.ring k) = min 0xFFFE f.retNs ∧
      (s.active = true → s.fld F.TICK_STATUS.WINDOW = 0 → (t.ring k).own = frameBlocks s k (readFrame f) f.parityBad) ∧
      t.flag (F.RING_STATUS.WRAP.ring k) = decide ((readFrame f).wrapAt ≠ 0xFF) ∧
      t.fld (F.RING_STATUS.UNTRACKED.ring k) = (readFrame f).hop - 64 ∧
      (t.ring k).back.isSome = decide (f.retNs ≤ 24000 ∧ (readFrame f).lost = [] ∧ (readFrame f).missed = []) ∧
      t.mem = s.mem ∧ t.outImg = s.outImg := by
  obtain ⟨u, met, uses⟩ : ∃ u, CellsMet k s u ∧ exec (.cyclicFrame k f) s =
      .next (if u.ticking && ringUsed u k then useFrame u k f.oddPort f.retNs f.parityBad (readFrame f) else u) := by
    refine ⟨_, cellsMet_receiveCells s f.oddPort f.cells (readFrame f).missed.length (readFrame f).bad.length
      (readFrame f).lockLost, ?_⟩
    show execCyclicFrame k f s = _
    rw [execCyclicFrame, if_pos on]
  obtain ⟨mode, parity, tick, ticking, active, window⟩ := met.mode
  obtain ⟨-, -, image, -, mem, outputs⟩ := met.same
  have used : ringUsed u k = true := by
    rw [ringUsed, State.dword_of_reg (met.low (by decide)) (met.low (by decide))]
    exact hu
  rw [if_pos (by rw [ticking, ht, used]; rfl)] at uses
  obtain ⟨last, blocks, wrap, beyond, back, mem', outputs'⟩ := useFrame_own_spec (retNs := f.retNs) (bad := f.parityBad)
    head ((frameUse_congr mode parity k f.oddPort _).trans own) (now.trans tick.symm) (hop_readFrame f)
  refine ⟨_, uses, last, fun takes open' => ?_, wrap, beyond, back, mem'.trans mem, outputs'.trans outputs⟩
  rw [blocks (by rw [takingBlocks, ticking, active, window, ht, takes, open']; rfl), frameBlocks_congr image]

/-- The ring deadline on a standby (R28). -/
theorem exec_ringDeadline_standby (ht : s.ticking = true) (hm : s.mode = stStandby) (hk : k ∈ usedRings s)
    (hb : (s.ring k).back = none) :
    ∃ t, exec .ringDeadline s = .next t ∧ t.flag (F.RING_STATUS.LATE.ring k) = true ∧
      ((s.ring k).ret = none → t.fld (F.RING_RETURN.LAST.ring k) = 0xFFFF) ∧
      t.flag F.SYS_EVENT.RING_LATE = true ∧ t.inImg = s.inImg := by
  have final : deadlineSide (sendFinal ((s.at 24000).window 1)) = deadlineSide s :=
    (deadlineSide_sendFinal _).trans (deadlineSide_atDeadline s)
  have run : execRingDeadline s = (if (sendFinal ((s.at 24000).window 1)).active then
      .next (cardLocal (sampleLocal ((usedRings (sendFinal ((s.at 24000).window 1))).foldl ringDeadline
        (sendFinal ((s.at 24000).window 1))) (fun st => st == 1))) else _) := if_pos ht
  generalize sendFinal ((s.at 24000).window 1) = u at final run
  obtain ⟨mode, used, rings, inputs⟩ := of_deadlineSide final
  have active : u.active = true := by
    rw [State.active, State.running, mode, hm]
    rfl
  rw [if_pos active, used] at run
  have ring : u.ring k = s.ring k := by rw [State.ring, rings, State.ring]
  obtain ⟨⟨late, last, event⟩, side⟩ := lateShown_ringDeadlines (mode.trans hm) (ring ▸ hb) hk
  generalize (usedRings s).foldl ringDeadline u = v at late last event side run
  obtain ⟨mode', -, rings', inputs'⟩ := of_deadlineSide side
  have follows : cardLocal (sampleLocal v (fun st => st == 1)) = sampleLocal v (fun st => st == 1) := by
    have standby : (sampleLocal v (fun st => st == 1)).mode = stStandby := mode'.trans (mode.trans hm)
    rw [cardLocal, if_neg (by rw [State.holds, standby]; decide)]
  rw [follows] at run
  have ringV : v.ring k = s.ring k := by rw [State.ring, rings', rings, State.ring]
  exact ⟨_, run, late, fun none => last (ringV ▸ none), event, inputs'.trans inputs⟩

/-- Settles O18, clause by clause: lock and the Causeway, the return of the own frame, and the deadline of a standby, whose
state copy may end in it. -/
theorem ringsReturnTheirFrames : Obligations.RingsReturnTheirFrames := by
  unfold Obligations.RingsReturnTheirFrames
  refine ⟨fun s k port _ _ => ⟨fun open' on => exec_lock_open open' on port, exec_lockLoss_locked,
    exec_causewayReq_stores, exec_causewaySwitch_sets s k⟩,
    fun s k f _ ticks used on own head now => exec_cyclicFrame_own ticks used on own head now,
    fun s k ticks mode used back => exec_ringDeadline_standby ticks mode used back⟩

end Sys2Proof.Machine
end

section
/-! SUPPORT. Acyclic transactions: tags and requests of a ring, what a reply reads, and how an acyclic frame is judged
(R143 to R146, R183). -/

namespace Sys2Proof.Machine

open Sys2Proof

/-! ## Registers -/

/-- The registers of the rings' blocks have no items. -/
theorem ringReg_mod {a k : Nat} (hk : k < 48) (ha : a / 0x10000 = 0x1A) :
    (a + 0x10000 * k) % 0x1000000 = a + 0x10000 * k := by
  omega

/-- The registers of a ring's stations stand at places of their own within a block. -/
theorem stationReg_apart {a b : Nat} (h : a % 0x10000 ≠ b % 0x10000) (i j k : Nat) :
    itemKey (a + 0x10000 * k) i ≠ b + 0x10000 * j := by
  unfold itemKey
  omega

/-! ## Tags -/

/-- The lowest free tag. -/
theorem find_lowestTag {r : RingSt} {tag : Nat} (ht : tag < 256) (free : tag ∉ tagsInUse r)
    (lower : ∀ j, j < tag → j ∈ tagsInUse r) : (List.range 256).find? (fun t => !(tagsInUse r).contains t) = some tag := by
  rw [List.find?_range_eq_some]
  exact ⟨by simpa using free, List.mem_range.mpr ht, fun j hj => by simpa using lower j hj⟩

/-- The first waiting request bears the tag that it is given. -/
theorem mem_tags_tagFirst (tag : Nat) (now : DWord) {qs : List AcycReq} {q : AcycReq}
    (h : qs.find? (fun q => q.tag.isNone) = some q) : tag ∈ (tagFirst tag now qs).filterMap (fun q => q.tag) := by
  induction qs with
  | nil => cases h
  | cons x xs ih =>
    unfold tagFirst
    split
    · simp
    · next waits =>
      rw [List.find?_cons_of_neg (p := fun q : AcycReq => q.tag.isNone) waits] at h
      obtain ⟨y, hy, given⟩ := List.mem_filterMap.mp (ih h)
      exact List.mem_filterMap.mpr ⟨y, List.mem_cons_of_mem x hy, given⟩

/-- A tag whose requests are withdrawn is free. -/
theorem tag_free_of_filter (tag : Nat) (qs : List AcycReq) :
    tag ∉ (qs.filter (fun x => x.tag != some tag)).filterMap (fun q => q.tag) := by
  simp

/-- Inverting a generation bit. -/
theorem contains_flipGen (gens : List Nat) (tag : Nat) : (flipGen gens tag).contains tag = !gens.contains tag := by
  unfold flipGen
  cases h : gens.contains tag with
  | true => simp
  | false => simpa using mem_insertSorted tag gens

/-! ## Requests -/

variable (s : State) (k : Nat)

/-- A ring's requests replaced: the ring holds them, and RING_ACYC shows the tags in use. -/
theorem ring_setReqs (qs : List AcycReq) : (setReqs s k qs).ring k = { s.ring k with reqs := qs } := by
  rw [setReqs, showTags, (State.setFld_reads _ _ _).2.2.2.2.2.2.1]
  simp

/-- Of the ring's fields those that RING_ACYC.OUTSTANDING shares no bit with stay. -/
theorem fld_setReqs_other (qs : List AcycReq) {g : Fld}
    (h : g.reg ≠ A.RING_ACYC ∨ g.hi < 16 ∨ 24 < g.lo) : (setReqs s k qs).fld (g.ring k) = s.fld (g.ring k) := by
  rw [setReqs, showTags, State.fld_setRingFld_other _ k _ (f := F.RING_ACYC.OUTSTANDING) h]
  simp only [State.setRing_reads]

/-- A tag that has expired, before its requester is told: it is free, its generation inverted, the timeout counted (R146). -/
def tagExpired (tag : Nat) : State :=
  (setReqs (s.setRing k { s.ring k with gens := flipGen (s.ring k).gens tag }) k
    ((s.ring k).reqs.filter (fun x => x.tag != some tag))).count (F.RING_ACYC.TIMEOUT.ring k) 1

theorem ring_tagExpired (tag : Nat) : (tagExpired s k tag).ring k = { s.ring k with
    gens := flipGen (s.ring k).gens tag, reqs := (s.ring k).reqs.filter (fun x => x.tag != some tag) } := by
  simp [tagExpired, ring_setReqs]

theorem fld_tagExpired (tag : Nat) : (tagExpired s k tag).fld (F.RING_ACYC.TIMEOUT.ring k) =
    min (F.RING_ACYC.TIMEOUT.ring k).top (s.fld (F.RING_ACYC.TIMEOUT.ring k) + 1) := by
  rw [tagExpired, State.fld_count_same _ (by simp), fld_setReqs_other _ k _ (.inr (.inl (by decide)))]
  simp only [State.setRing_reads]

/-! ## Frames -/

/-- A frame that reads as an acyclic frame begins with a sound cell of TYPE 2 that names its train and owner (R144). -/
theorem first_of_readAcyclic {f : AcycFrame} {v : AcycView} (h : readAcyclic f = some v) :
    ∃ x more, f.cells = some x :: more ∧ (readCell x).missed = false ∧ (readCell x).type = 2 ∧
      (readCell x).origin = v.origin ∧ (readCell x).owner = v.owner := by
  unfold readAcyclic at h
  dsimp only at h
  split at h
  · cases h
  · next y ys hy =>
    split at h
    · next good =>
      obtain rfl := Option.some.inj h
      simp only [hy, Bool.and_eq_true, List.all_cons, Bool.not_eq_true', beq_iff_eq] at good
      obtain ⟨⟨⟨⟨whole, ⟨⟨⟨missed, -⟩, type⟩, -⟩, -⟩, -⟩, -⟩, -⟩ := good
      cases hc : f.cells with
      | nil =>
        rw [hc] at hy
        cases hy
      | cons l more =>
        rw [hc] at hy whole
        cases l with
        | none =>
          have short : (more.filterMap (fun l => l.map readCell)).length ≤ more.length := List.length_filterMap_le _ _
          rw [← List.filterMap_cons_none (a := none) (f := fun l => Option.map readCell l) rfl, hy, whole,
            List.length_cons] at short
          omega
        | some x =>
          obtain ⟨rfl, -⟩ := List.cons.inj
            ((List.filterMap_cons_some (f := fun l => Option.map readCell l) (b := readCell x) rfl).symm.trans hy)
          exact ⟨x, more, rfl, missed, type, rfl, rfl⟩
    · cases h

variable {s k}

/-- Where a slot begins, and how far a stamp lies from there, stays while image, loader and time unit do. -/
theorem CellsMet.slot {u : State} (hk : k < 48) (h : CellsMet k s u) (owner : Nat) (f : AcycFrame) :
    slotStart u k owner = slotStart s k owner ∧ slotError u k owner f = slotError s k owner f := by
  obtain ⟨-, -, image, loader, -, -⟩ := h.same
  have start : slotStart u k owner = slotStart s k owner := by
    simp only [slotStart, ringStations, stagedStation, image, loader]
  have port (item : Nat) : asymIn u item = asymIn s item := by
    have apart (a : Nat) (ha : a / 0x10000 = 0x1A) : itemKey A.TIME_PORT_ASYM_IN item ≠ a + 0x10000 * k := by
      refine (ne_itemKey item (by decide) ?_).symm
      rw [ringReg_mod hk ha]
      exact (ringReg_high (by decide) (by omega) k).symm
    exact congrArg (signed 24) (State.fld_of_reg (h.reg _ (apart _ (by decide)) (apart _ (by decide))))
  exact ⟨start, by rw [slotError, port, start, slotError]⟩

/-- An acyclic frame of the module's own train is judged by its first cell once its cells are met (R128, R145). -/
theorem exec_acyclicFrame_own {f : AcycFrame} {x : List Byte} {more : List (Option (List Byte))}
    (on : receiverOn s k f.oddPort = true) (hc : f.cells = some x :: more) (sound : (readCell x).missed = false)
    (type : (readCell x).type = 2) (own : b2n (readCell x).origin = s.parity) :
    ∃ u, CellsMet k s u ∧ exec (.acyclicFrame k f) s = .next (receiveAcyclic u k f (readCell x)) := by
  have met := cellsMet_receiveCells s (k := k) f.oddPort f.cells ((lockedCells f.cells).filter lineMissed).length
    ((lockedCells f.cells).filter (fun l => !lineMissed l && (l.map (fun x => (readCell x).bad)).getD false)).length
    (missRun 0 0 (f.cells.map lineMissed)).isSome
  refine ⟨_, met, ?_⟩
  have first : (f.cells.headD none).map readCell = some (readCell x) := by rw [hc]; rfl
  show execAcyclicFrame k f s = _
  rw [execAcyclicFrame, if_pos on]
  dsimp only
  rw [first]
  dsimp only
  rw [met.mode.2.1, sound, type, own]
  simp

end Sys2Proof.Machine
end

section
/-! Acyclic transactions: the statement of O36. -/

namespace Sys2Proof.Machine

open Sys2Proof

variable {s : State} {k : Nat}

/-- The first waiting request leaves where the window holds it, and else waits (R143, R144, R146). -/
theorem exec_acyclicRequestSend (hd : s.domOn k = true) (hc : causewayClosed s k = false) {q : AcycReq} {tag n : Nat}
    (waits : (s.ring k).reqs.find? (fun q => q.tag.isNone) = some q) (ht : tag < 256) (free : tag ∉ tagsInUse (s.ring k))
    (lower : ∀ j, j < tag → j ∈ tagsInUse (s.ring k)) (hn : n = acyclicCells q.data.length) :
    let first := max (16 + (s.ring k).window) (cellsBegun s)
    (first + n ≤ 48 →
      ∃ t, exec (.acyclicRequestSend k) s = .next t ∧ tag ∈ tagsInUse (t.ring k) ∧ t.mem = s.mem ∧
        (t.ring k).window = first + n - 16 ∧
        t.outbox = .acyclic k (s.parity == 1) (requestCells first tag ((s.ring k).gens.contains tag)
          q.svc q.station (s.parity == 1) (s.parity == 1) q.data) :: s.outbox) ∧
    (48 < first + n → exec (.acyclicRequestSend k) s = .next s) := by
  intro first
  have sends : exec (.acyclicRequestSend k) s = .next (if 48 < first + n then s else
      (setReqs (s.setRing k { s.ring k with window := first + n - 16 }) k (tagFirst tag s.tick (s.ring k).reqs)).emit
        (.acyclic k (s.parity == 1) (requestCells first tag ((s.ring k).gens.contains tag) q.svc q.station
          (s.parity == 1) (s.parity == 1) q.data))) := by
    show execAcyclicRequestSend k s = _
    rw [execAcyclicRequestSend, hd, hc, sendRequest]
    dsimp only
    rw [waits, find_lowestTag ht free lower, hn]
    rfl
  refine ⟨fun fits => ?_, fun late => by rw [sends, if_pos late]⟩
  rw [if_neg (Nat.not_lt.mpr fits)] at sends
  refine ⟨_, sends, ?_⟩
  have ring := ring_setReqs (s.setRing k { s.ring k with window := first + n - 16 }) k (tagFirst tag s.tick (s.ring k).reqs)
  rw [State.ring_setRing, if_pos rfl] at ring
  simp only [State.emit_reads, State.emit_fields, ring]
  exact ⟨mem_tags_tagFirst tag s.tick waits, rfl, trivial, rfl⟩

/-- A tag is freed and the command that its request came from is answered. -/
theorem answered_freed {s u : State} {j op : Nat} {c : QCmd} {rest : List QCmd} (hu : u.sessions = s.sessions)
    (hw : Waits s j op c rest) {tag : Nat} (free : tag ∉ tagsInUse (u.ring k)) (code : Nat) (data : List Byte) :
    tag ∉ tagsInUse ((finishWaiting u j op code data).ring k) ∧
      ((finishWaiting u j op code data).ring k).gens = (u.ring k).gens ∧
      Answered (finishWaiting u j op code data) j c rest code data := by
  have waits := waits_of_sessions hu hw
  obtain ⟨hj, hq, -, -⟩ := id waits
  have ring : (finishCommand u j code data).ring k = u.ring k := by
    rw [finishCommand_front hj hq]
    rfl
  rw [finishWaiting_of_waits waits, ring]
  exact ⟨free, rfl, answered_finishCommand hj hq code data⟩

/-- A good reply in its slot frees the tag and answers the host's STN_READ (R144 to R146, R183). -/
theorem exec_acyclicFrame_reply (hk : k < 48) {f : AcycFrame} {v : AcycView} {q : AcycReq} {j : Nat} {c : QCmd}
    {rest : List QCmd} (on : receiverOn s k f.oddPort = true) (reads : readAcyclic f = some v)
    (own : b2n v.origin = s.parity) (slot : slotStart s k v.owner ≠ 0) (near : (slotError s k v.owner f).natAbs ≤ 250 * 256)
    (asked : (s.ring k).reqs.find? (fun q => q.tag == some v.tag) = some q) (gen : v.gen = (s.ring k).gens.contains v.tag)
    (owner : q.owner = .host j false) (waits : Waits s j 0x50 c rest) (good : v.status = 0) (fits : v.data.length ≤ 1024) :
    ∃ t, exec (.acyclicFrame k f) s = .next t ∧ v.tag ∉ tagsInUse (t.ring k) ∧ Answered t j c rest rcOk v.data := by
  obtain ⟨x, more, hc, sound, type, origin, holder⟩ := first_of_readAcyclic reads
  obtain ⟨u, met, judged⟩ := exec_acyclicFrame_own on hc sound type (origin ▸ own)
  obtain ⟨rings, sessions, -⟩ := met.same
  obtain ⟨start, error⟩ := met.slot hk v.owner f
  have ring : u.ring k = s.ring k := by rw [State.ring, rings, State.ring]
  have delivers (w : State) : deliverReply w k q v = finishWaiting w j 0x50 rcOk v.data := by
    simp [deliverReply, owner, good, Nat.not_lt.mpr fits]
  have taken : receiveAcyclic u k f (readCell x) =
      finishWaiting (setReqs u k ((s.ring k).reqs.filter (fun x => x.tag != some v.tag))) j 0x50 rcOk v.data := by
    rw [receiveAcyclic, holder, start, error, if_neg (by omega), reads]
    dsimp only
    rw [receiveReply, ring, asked]
    dsimp only
    rw [if_neg (by simp [gen]), delivers]
  rw [taken] at judged
  have free : v.tag ∉ tagsInUse ((setReqs u k ((s.ring k).reqs.filter (fun x => x.tag != some v.tag))).ring k) := by
    rw [ring_setReqs]
    exact tag_free_of_filter v.tag _
  obtain ⟨freed, -, answered⟩ := answered_freed (u := setReqs u k _) sessions waits free rcOk v.data
  exact ⟨_, judged, freed, answered⟩

/-- A frame outside its owner's slot is discarded and counted by its first cell alone (R145). -/
theorem exec_acyclicFrame_late (hk : k < 48) {f : AcycFrame} {x : List Byte} {more : List (Option (List Byte))}
    (on : receiverOn s k f.oddPort = true) (hc : f.cells = some x :: more) (sound : (readCell x).missed = false)
    (type : (readCell x).type = 2) (own : b2n (readCell x).origin = s.parity) (station : (readCell x).owner < 64)
    (outside : slotStart s k (readCell x).owner = 0 ∨ 250 * 256 < (slotError s k (readCell x).owner f).natAbs) :
    let late := stnFld F.RING_STN_LATE.LATE k (readCell x).owner
    ∃ t, exec (.acyclicFrame k f) s = .next t ∧ t.fld late = min late.top (s.fld late + 1) ∧ t.rings = s.rings ∧
      t.sessions = s.sessions := by
  intro late
  obtain ⟨u, met, judged⟩ := exec_acyclicFrame_own on hc sound type own
  obtain ⟨rings, sessions, -⟩ := met.same
  obtain ⟨start, error⟩ := met.slot hk (readCell x).owner f
  rw [receiveAcyclic, start, error, if_pos outside, if_pos station] at judged
  have before : u.fld late = s.fld late := by
    exact State.fld_of_reg (met.reg _ (stationReg_apart (by decide) _ k k) (stationReg_apart (by decide) _ k k))
  refine ⟨_, judged, ?_, rings, sessions⟩
  rw [State.fld_count_same u (by simp), before]

/-- A request that is due for its timeout is told to its requester (R146). -/
theorem exec_acyclicTimeout_due {tag : Nat} {q : AcycReq}
    (asked : (s.ring k).reqs.find? (fun q => q.tag == some tag) = some q)
    (due : s.fld (F.RING_CTRL.ACYC_TIMEOUT.ring k) ≤ (s.tick - q.sent).toNat) :
    exec (.acyclicTimeout k tag) s = .next (deliverTimeout (tagExpired s k tag) k q) := by
  show execAcyclicTimeout k tag s = _
  rw [execAcyclicTimeout]
  dsimp only
  rw [asked]
  exact if_neg (Nat.not_lt.mpr due)

/-- After the timeout the tag is free, its generation inverted, the timeout counted and the STN_WRITE answered (R146). -/
theorem exec_acyclicTimeout_expired (hk : k < 48) {tag : Nat} {q : AcycReq} {j : Nat} {c : QCmd} {rest : List QCmd}
    (asked : (s.ring k).reqs.find? (fun q => q.tag == some tag) = some q)
    (due : s.fld (F.RING_CTRL.ACYC_TIMEOUT.ring k) ≤ (s.tick - q.sent).toNat) (owner : q.owner = .host j true)
    (waits : Waits s j 0x51 c rest) :
    ∃ t, exec (.acyclicTimeout k tag) s = .next t ∧ tag ∉ tagsInUse (t.ring k) ∧
      (t.ring k).gens.contains tag = (!(s.ring k).gens.contains tag) ∧ Answered t j c rest rcTimeout [] ∧
      t.fld (F.RING_ACYC.TIMEOUT.ring k) =
        min (F.RING_ACYC.TIMEOUT.ring k).top (s.fld (F.RING_ACYC.TIMEOUT.ring k) + 1) := by
  have expires : exec (.acyclicTimeout k tag) s = .next (finishWaiting (tagExpired s k tag) j 0x51 rcTimeout []) := by
    rw [exec_acyclicTimeout_due asked due, deliverTimeout, owner]
    rfl
  have ring := ring_tagExpired s k tag
  obtain ⟨free, gens, answered⟩ := answered_freed (u := tagExpired s k tag) (k := k) (tag := tag) rfl waits
    (by rw [ring]; exact tag_free_of_filter tag _) rcTimeout []
  have apart : (A.RING_ACYC + 0x10000 * k) % 0x1000000 ∉ [A.NET_PORT_TX, A.CMD_ERR, A.CMD_SESS_STATE] := by
    have low : ∀ a ∈ [A.NET_PORT_TX, A.CMD_ERR, A.CMD_SESS_STATE], a < 0x1A0000 := by decide
    rw [ringReg_mod hk (by decide)]
    exact fun hm => ringReg_high (low _ hm) (by decide) k rfl
  have shown : (finishWaiting (tagExpired s k tag) j 0x51 rcTimeout []).fld (F.RING_ACYC.TIMEOUT.ring k) =
      (tagExpired s k tag).fld (F.RING_ACYC.TIMEOUT.ring k) :=
    State.fld_of_reg ((finishWaiting_leaves (tagExpired s k tag) j 0x51 rcTimeout []).2.2 _ apart)
  exact ⟨_, expires, free, by rw [gens, ring]; exact contains_flipGen _ tag, answered,
    shown.trans (fld_tagExpired s k tag)⟩

/-- Settles O36, clause by clause: a request that leaves or waits, a good reply, one outside its slot, and the timeout. -/
theorem acyclicTransactions : Obligations.AcyclicTransactions := by
  unfold Obligations.AcyclicTransactions
  refine fun s k hk hd hc => ⟨fun q tag n waits ht free lower hn => exec_acyclicRequestSend hd hc waits ht free lower hn,
    fun f v q j c rest on reads own slot near asked gen owner waits good fits =>
      exec_acyclicFrame_reply hk on reads own slot near asked gen owner waits good fits,
    fun f x more on cells sound type own station outside =>
      exec_acyclicFrame_late hk on cells sound type own station outside,
    fun tag q j c rest asked due owner waits => exec_acyclicTimeout_expired hk asked due owner waits⟩

end Sys2Proof.Machine
end

section
/-! The copy of a state (R158, R169 to R171): the refutation of O32. An image whose REGINIT records ask for a reset does not
run on a joiner in START. -/

namespace Sys2Proof.Machine

open Sys2Proof

/-- A reset leaves no running image (R324). -/
theorem image_resetModule (s : State) {kind : Nat} (hk : kind < 4) : (resetModule s kind).image = none := by
  by_cases hm : s.mode = stStart
  · have recorded : resetModule s kind = (resetShown s kind).raise 12 1 0 (d1 kind) := if_pos hm
    obtain ⟨-, -, image, -⟩ := resetShown_spec s hk
    rw [recorded]
    exact image
  · obtain ⟨-, -, -, image, -⟩ := resetModule_spec hm hk
    exact image

/-- PWR_RESET as the map has it: a key and a bit that are written alone. -/
def pwrResetDesc : RegDesc :=
  ⟨0x18, 0, false, false, false, false, none, [⟨31, 16, .wo, 0, 65535, false⟩, ⟨0, 0, .wo, 0, 1, false⟩]⟩

/-- It is what the map lists at that address. -/
theorem regAt_pwrReset : regAt A.PWR_RESET = some pwrResetDesc := rfl

/-- A write of PWR_RESET takes effect. -/
theorem applyWrite_pwrReset (s : State) (i : Nat) (v : Word) : applyWrite s A.PWR_RESET i v = writePwrReset s v := by
  simp (decide := true) [applyWrite, regAt_pwrReset]

/-- The REGINIT record that writes PWR_RESET with its key (R222, R324). -/
def resetRecord : RegInitRec := ⟨0x17, 0x18, 0xE1870001⟩

/-- In a module that does not run, and is not held in a reset, it resets the module at once (R324). -/
theorem regInitOne_resetRecord {s : State} (hr : s.running = false) (hh : s.power.held = false) :
    regInitOne s resetRecord = resetModule s 3 := by
  have address : resetRecord.block * 65536 + resetRecord.off = A.PWR_RESET := rfl
  have keyed : writePwrReset s resetRecord.value = resetModule s 3 := by
    rw [writePwrReset, if_pos (by decide), commandReset, hh, hr]
    rfl
  simp only [regInitOne, address, regAt_pwrReset]
  rw [if_neg (by simp), if_neg (by decide), applyWrite_pwrReset, keyed]

/-- The image installed for a joiner, before its REGINIT records (R170, R222). -/
def beforeRecords (s : State) (im : Image) : State :=
  { installImage s im with retDirty := List.range (retainedUnits im) }

theorem runFresh_eq (s : State) (im : Image) : runFresh s im = freshUnits s (applyRegInit (beforeRecords s im) im) true := rfl

/-- So a joiner that makes an image with that record the running one runs none (R170). -/
theorem image_runStaged_resetting {s : State} {im : Image} (hi : s.loader.img = some im) (hx : im.reginit = [resetRecord])
    (hn : s.image = none) (hr : (beforeRecords s im).running = false) (hh : (beforeRecords s im).power.held = false) :
    (runStaged s).image = none := by
  have fresh : (runFresh s im).image = none := by
    have resets : applyRegInit (beforeRecords s im) im = resetModule (beforeRecords s im) 3 := by
      rw [applyRegInit, hx, List.foldl_cons, List.foldl_nil, regInitOne_resetRecord hr hh]
    rw [runFresh_eq, (fields_of_switchSide (switchSide_freshUnits (arm := false) _ _ _)).1, resets,
      image_resetModule _ (by decide)]
  have needed (t : State) : (powerNeeded t im).image = t.image :=
    (fields_of_switchSide (arm := false) (switchSide_foldl t (fun u d => switchSide_requestOn u d) im.power)).1
  have idle (t : State) : (loaderIdle t).image = t.image := rfl
  have activated (t : State) (b : Nat) (q : Word) (d : List Byte) : (activateBank t b q d).image = t.image := rfl
  unfold runStaged
  rw [hi, hn]
  dsimp only
  simp only [idle, State.setFlag_fields, State.setFld_fields]
  show (powerNeeded _ im).image = none
  rw [needed, activated, fresh]

/-- A joiner that asked for its staged image makes it the running one once it is accepted (R170). -/
theorem exec_resyncAccept_staged {s : State} {h : StraitHdr} {im : Image} (he : crownEpoch h.crown = s.epoch)
    (hj : (hearMsg s h).resync.role = .joiner) (hs : (hearMsg s h).resync.staged = true)
    (hb : s.flag F.MEM_STATUS.SCRUB_BUSY = false) (hi : s.loader.img = some im) :
    ∃ t, exec (.resyncAccept h) s = .next t ∧ t.image = (runStaged (hearMsg s h)).image := by
  have frame := hearMsg_frame s h
  have free : (hearMsg s h).flag F.MEM_STATUS.SCRUB_BUSY = false := by rw [frame]; exact hb
  have img : (hearMsg s h).loader.img = some im := by rw [frame]; exact hi
  have accepts : exec (.resyncAccept h) s = .next (joinAccepted (hearMsg s h)) := by
    show execResyncAccept h s = _
    rw [execResyncAccept, onMsg_ownEpoch he, if_pos (by simp [hj, free])]
  refine ⟨_, accepts, ?_⟩
  rw [joinAccepted, if_neg (by simp [img])]
  dsimp only
  rw [if_pos hs]
  exact (fields_of_switchSide (switchSide_ownerStart (arm := false) _ 29)).1

/-- An image that holds nothing but that record; the tests of R215 refuse it, which the statement asks of no image. -/
def resettingImage : Image := { readImage [] with reginit := [resetRecord] }

/-- A joiner in START whose request named that image, which its loader holds. -/
def joinerInStart : State := { State.reset with
  resync := { Resync.initial with role := .joiner, staged := true }
  loader := { Loader.idle with img := some resettingImage } }

/-- Refutes O32: the holder's acceptance makes the joiner's staged image the running one for whatever image the loader holds.
One with a REGINIT record that writes PWR_RESET resets a joiner in START (R222, R324), which is left without an image. -/
theorem not_statesAreCopied : ¬ Obligations.StatesAreCopied := by
  unfold Obligations.StatesAreCopied
  rintro ⟨-, -, accepts, -⟩
  let heard := hearMsg joinerInStart ⟨0, 0, 0, 0⟩
  obtain ⟨idle, awake⟩ : (beforeRecords heard resettingImage).running = false ∧
      (beforeRecords heard resettingImage).power.held = false := by decide +kernel
  obtain ⟨-, staged⟩ := accepts joinerInStart ⟨0, 0, 0, 0⟩ (by decide) rfl (by decide)
  obtain ⟨t, ht, -, -, image, -⟩ := staged resettingImage rfl rfl
  obtain ⟨u, hu, runs⟩ := exec_resyncAccept_staged (s := joinerInStart) (h := ⟨0, 0, 0, 0⟩) (im := resettingImage)
    (by decide) rfl rfl (by decide) rfl
  obtain rfl := Host.Outcome.next.inj (hu.symm.trans ht)
  rw [runs, image_runStaged_resetting rfl rfl rfl idle awake] at image
  cases image

end Sys2Proof.Machine
end

section
/-! SUPPORT. Strait messages: what hearing one leaves, what sending one changes, and a request from a lower epoch (R148 to
R152, R161, R171). -/

namespace Sys2Proof.Machine

open Sys2Proof

variable (s : State) (h : StraitHdr)

/-! ## Hearing -/

/-- A message that is heard is noted in the pair (R161, R171). -/
theorem hearMsg_pair : (hearMsg s h).pair =
    { s.pair with heard := s.pair.heard || h.tick == s.tick, rxSeq := some h.seq } := by
  unfold hearMsg noteGap
  split <;> rfl

/-- It leaves what the module holds beside the pair and the resynchronisation. -/
@[simp] theorem hearMsg_fields : (hearMsg s h).regs = s.regs ∧ (hearMsg s h).mem = s.mem ∧
    (hearMsg s h).loader = s.loader ∧ (hearMsg s h).journal = s.journal ∧ (hearMsg s h).outbox = s.outbox ∧
    (hearMsg s h).acts = s.acts ∧ (hearMsg s h).sessions = s.sessions := by
  rw [hearMsg_frame]
  and_intros <;> rfl

/-- And every register. -/
@[simp] theorem hearMsg_reads : (∀ a, (hearMsg s h).reg a = s.reg a) ∧ (∀ f, (hearMsg s h).fld f = s.fld f) ∧
    (∀ f, (hearMsg s h).flag f = s.flag f) ∧ (hearMsg s h).tick = s.tick ∧ (hearMsg s h).mode = s.mode ∧
    (hearMsg s h).epoch = s.epoch ∧ (hearMsg s h).trained = s.trained ∧ (hearMsg s h).holds = s.holds := by
  rw [hearMsg_frame]
  and_intros <;> intros <;> rfl

/-- A joiner alone notes what it has lost (R171). -/
theorem hearMsg_resync {s : State} (hr : s.resync.role ≠ .joiner) : (hearMsg s h).resync = s.resync := by
  unfold hearMsg noteGap
  simp [hr, State.withPair]

/-- A message that the epoch check accepts acts once it is heard (R152). -/
theorem onMsg_accepted {k : MsgKind} (ha : epochAccepts (hearMsg s h) h k = true) (type : Nat) (request : Bool)
    (f : State → State) : onMsg s h type k request f = f (hearMsg s h) := if_pos ha

/-- One that it refuses does not. -/
theorem onMsg_refused {k : MsgKind} (ha : epochAccepts (hearMsg s h) h k = false) (type : Nat) (request : Bool)
    (f : State → State) : onMsg s h type k request f = epochRefuse (hearMsg s h) h type request :=
  if_neg (Bool.not_eq_true _ ▸ ha)

/-! ## Sending -/

section Sending

variable (l type sub : Nat) (vals : List Nat) (bytes : List Byte)

/-- A message that leaves changes the pair and what was sent alone. -/
@[simp] theorem State.straitOn_fields : (s.straitOn l type sub vals bytes).regs = s.regs ∧
    (s.straitOn l type sub vals bytes).mem = s.mem ∧ (s.straitOn l type sub vals bytes).loader = s.loader ∧
    (s.straitOn l type sub vals bytes).journal = s.journal ∧ (s.straitOn l type sub vals bytes).recorder = s.recorder ∧
    (s.straitOn l type sub vals bytes).resync = s.resync := by
  rw [State.straitOn_frame]
  and_intros <;> rfl

/-- It leaves every register. -/
@[simp] theorem State.straitOn_reads : (∀ a, (s.straitOn l type sub vals bytes).reg a = s.reg a) ∧
    (∀ f, (s.straitOn l type sub vals bytes).fld f = s.fld f) ∧
    (∀ f, (s.straitOn l type sub vals bytes).flag f = s.flag f) ∧
    (s.straitOn l type sub vals bytes).mode = s.mode ∧ (s.straitOn l type sub vals bytes).epoch = s.epoch ∧
    (s.straitOn l type sub vals bytes).tick = s.tick := by
  rw [State.straitOn_frame]
  and_intros <;> intros <;> rfl

/-- Of the pair it changes the number of the next message alone (R149). -/
theorem State.straitOn_pair : ∃ n, (s.straitOn l type sub vals bytes).pair = { s.pair with seq := n } := by
  unfold State.straitOn State.straitFor
  split
  · exact ⟨_, rfl⟩
  · exact ⟨s.pair.seq, rfl⟩

end Sending

/-- A message on the control lane is told by the routing, the next number, the crown presented and the tick. -/
theorem controlOut_congr {s t : State} (routing : t.pair.routing = s.pair.routing) (seq : t.pair.seq = s.pair.seq)
    (crown : t.reg A.CROWN_OWN = s.reg A.CROWN_OWN) (tick : t.tick = s.tick) (type sub : Nat) (vals : List Nat)
    (bytes : List Byte) : controlOut t type sub vals bytes = controlOut s type sub vals bytes := by
  rw [controlOut, routing, seq, crown, tick, controlOut]

/-- An answer is the last thing sent (R150). -/
theorem outbox_straitReply {s : State} (ht : s.trained = true) (type seq code : Nat) :
    (s.straitReply type seq code).outbox = replyOut s type seq code :: s.outbox :=
  outbox_straitOn ht 0x0A 0 [type, seq, code] []

/-! ## Lower epochs (R152) -/

/-- A message from a lower epoch is counted and noted. -/
def staleNoted : State := (s.count F.STRAIT_ERR.STALE_EPOCH 1).note F.CROWN_EVENT.STALE_EPOCH

/-- It leaves the other registers. -/
theorem reg_staleNoted {a : Nat} (hs : a ≠ A.STRAIT_ERR) (hc : a ≠ A.CROWN_EVENT) : (staleNoted s).reg a = s.reg a :=
  (State.reg_setFld_other _ _ hc).trans (State.reg_count_other s 1 hs)

/-- A request is answered ROLE_CHANGED besides. -/
def staleRefused (type : Nat) : State := (staleNoted s).straitReply type h.seq rcRoleChanged

variable {s h}

/-- That is all that comes of it. -/
theorem onMsg_lowerEpoch (he : crownEpoch h.crown < s.epoch) (type : Nat) (f : State → State) :
    onMsg s h type .other true f = staleRefused (hearMsg s h) h type := by
  have refuses : epochAccepts (hearMsg s h) h .other = false := by simp [epochAccepts, Nat.ne_of_lt he]
  have epoch : ((hearMsg s h).count F.STRAIT_ERR.STALE_EPOCH 1).epoch = s.epoch := by
    rw [State.epoch, State.fld_count_other _ _ _ _ (.inl (by decide))]
    simp [State.epoch]
  rw [onMsg_refused s h refuses, epochRefuse]
  dsimp only
  rw [epoch, if_pos he]
  rfl

/-- It shows the count and the event, and nothing else changes. -/
theorem staleRefused_shows (u : State) (h : StraitHdr) (type : Nat) :
    (staleRefused u h type).fld F.STRAIT_ERR.STALE_EPOCH =
      min F.STRAIT_ERR.STALE_EPOCH.top (u.fld F.STRAIT_ERR.STALE_EPOCH + 1) ∧
    (staleRefused u h type).flag F.CROWN_EVENT.STALE_EPOCH = true ∧ (staleRefused u h type).pair.fwd = u.pair.fwd ∧
    (staleRefused u h type).pair.swap = u.pair.swap ∧ (staleRefused u h type).loader = u.loader ∧
    (staleRefused u h type).journal = u.journal := by
  obtain ⟨n, pair⟩ := State.straitOn_pair (staleNoted u) 6 0x0A 0 [type, h.seq, rcRoleChanged] []
  rw [staleRefused, State.straitReply, State.strait, pair]
  simp only [State.straitOn_fields, State.straitOn_reads]
  refine ⟨?_, State.flag_note_same _ _ (by decide) (by decide), rfl, rfl, rfl, rfl⟩
  rw [staleNoted, State.note, State.fld_setFld_other _ _ _ _ (.inl (by decide))]
  exact State.fld_count_same u (by decide) 1

/-- The answer leaves under the crown and number of before. -/
theorem outbox_staleRefused {u : State} (ht : u.trained = true) (h : StraitHdr) (type : Nat) :
    (staleRefused u h type).outbox = replyOut u type h.seq rcRoleChanged :: u.outbox := by
  have trained : (staleNoted u).trained = true :=
    (State.flag_of_reg (reg_staleNoted u (by decide) (by decide))).trans ht
  have tick : (staleNoted u).tick = u.tick :=
    State.dword_of_reg (reg_staleNoted u (by decide) (by decide)) (reg_staleNoted u (by decide) (by decide))
  have same : replyOut (staleNoted u) type h.seq rcRoleChanged = replyOut u type h.seq rcRoleChanged := by
    rw [replyOut, controlOut_congr (s := u) (by rfl) (by rfl) (reg_staleNoted u (by decide) (by decide)) tick, replyOut]
  have out : (staleNoted u).outbox = u.outbox := rfl
  rw [staleRefused, outbox_straitReply trained, same, out]

/-- So of a request that is heard. -/
theorem lowerEpoch_refused (he : crownEpoch h.crown < s.epoch) (ht : s.trained = true) {type : Nat} {f : State → State}
    {t : State} (hx : t = onMsg s h type .other true f) :
    t.fld F.STRAIT_ERR.STALE_EPOCH = min F.STRAIT_ERR.STALE_EPOCH.top (s.fld F.STRAIT_ERR.STALE_EPOCH + 1) ∧
      t.flag F.CROWN_EVENT.STALE_EPOCH = true ∧ t.pair.fwd = s.pair.fwd ∧ t.pair.swap = s.pair.swap ∧
      t.loader = s.loader ∧ t.journal = s.journal ∧ t.outbox = replyOut s type h.seq rcRoleChanged :: s.outbox := by
  obtain ⟨count, event, fwd, swap, loader, journal⟩ := staleRefused_shows (hearMsg s h) h type
  have out := outbox_staleRefused (u := hearMsg s h) (by simp [ht]) h type
  rw [onMsg_lowerEpoch he] at hx
  subst hx
  simp only [hearMsg_pair, hearMsg_fields, hearMsg_reads, replyOut, controlOut_hearMsg] at count fwd swap loader journal out
  exact ⟨count, event, fwd, swap, loader, journal, out⟩

end Sys2Proof.Machine
end

section
/-! Roles and epochs: the statement of O20. -/

namespace Sys2Proof.Machine

open Sys2Proof

variable {s : State} {h : StraitHdr}

/-- A keyed write of CROWN_CTRL asks for a swap where one is allowed (R165). -/
theorem exec_crownSwapReq_allowed {v : Word} (hk : getBits v 31 16 = 0x69C3) (hg : v.getLsbD 0 = true)
    (ha : swapAllowed s = true) : exec (.crownSwapReq v) s = .next (sendSwapReq s none) :=
  congrArg Host.Outcome.next (if_pos ⟨hk, hg, ha⟩)

/-- A standby is as healthy after it has heard a message as before (R165). -/
theorem selfHealthy_hearMsg (s : State) (h : StraitHdr) : selfHealthy (hearMsg s h) = selfHealthy s := by
  simp only [selfHealthy, State.tampered, groupHeld, hearMsg_reads, hearMsg_fields, hearMsg_pair]

/-- A healthy standby agrees to a swap in the next tick (R165). -/
theorem swapReq_agreed (he : crownEpoch h.crown = s.epoch) (hs : selfHealthy s = true) :
    ∃ t, exec (.swapReq h) s = .next t ∧ t.pair.swap = .agreed (h.tick + 1) none false ∧ t.regs = s.regs := by
  have agrees : exec (.swapReq h) s = .next (((hearMsg s h).strait 4 2 []).withPair
      (fun p => { p with swap := .agreed (h.tick + 1) none false })) := by
    show execSwapReq h s = _
    rw [execSwapReq, onMsg_ownEpoch he, takeSwapReq, if_pos (by rw [selfHealthy_hearMsg, hs])]
  refine ⟨_, agrees, rfl, ?_⟩
  show ((hearMsg s h).straitOn 6 4 2 [] []).regs = s.regs
  simp

/-- The acknowledgement agrees the swap that the crown holder asked for (R165). -/
theorem swapAck_agreed (he : crownEpoch h.crown = s.epoch) {w : DWord} {k : Option Nat} (hs : s.pair.swap = .asked w k) :
    ∃ t, exec (.swapAck h) s = .next t ∧ t.pair.swap = .agreed (w + 1) k false ∧ t.regs = s.regs := by
  have asked : (hearMsg s h).pair.swap = .asked w k := by rw [hearMsg_pair, ← hs]
  have agrees : exec (.swapAck h) s = .next ((hearMsg s h).withPair (fun p => { p with swap := .agreed (w + 1) k false })) := by
    show execSwapAck h s = _
    rw [execSwapAck, onMsg_ownEpoch he, asked]
  exact ⟨_, agrees, rfl, by simp [State.withPair]⟩

/-- YIELD makes a standby in step change with the crown holder (R166). -/
theorem yieldMsg_agreed (he : crownEpoch h.crown = s.epoch) (hm : s.mode = stStandby) (ho : s.pair.outOfStep = false) :
    ∃ t, exec (.yieldMsg h) s = .next t ∧ t.pair.swap = .agreed h.tick none true ∧ t.regs = s.regs := by
  have step : (hearMsg s h).mode = stStandby ∧ (hearMsg s h).pair.outOfStep = false := by
    simp [hearMsg_pair, hm, ho]
  have agrees : exec (.yieldMsg h) s = .next ((hearMsg s h).withPair (fun p => { p with swap := .agreed h.tick none true })) := by
    show execYieldMsg h s = _
    rw [execYieldMsg, onMsg_ownEpoch he, if_pos (by simp [step])]
  exact ⟨_, agrees, rfl, by simp [State.withPair]⟩

/-- A crown tells its epoch in 24 bits (R13). -/
theorem crownEpoch_lt (c : Word) : crownEpoch c < 2 ^ 24 := Nat.mod_lt _ (Nat.two_pow_pos 24)

/-- The epoch taken is the higher of the two, and nothing else changes (R15). -/
theorem adoptEpoch_spec (s : State) {e : Nat} (he : e < 2 ^ 24) : (s.adoptEpoch e).epoch = max s.epoch e ∧
    (∀ a, a ≠ A.CROWN_STORED → (s.adoptEpoch e).reg a = s.reg a) ∧
    s.adoptEpoch e = { s with regs := (s.adoptEpoch e).regs } := by
  unfold State.adoptEpoch
  split
  case isTrue lower =>
    refine ⟨?_, fun a ha => State.reg_setFld_other s e ha, rfl⟩
    rw [Nat.max_eq_right (Nat.le_of_lt lower), State.epoch, State.fld_setFld_same s _ _ (by decide)]
    exact Nat.mod_eq_of_lt he
  case isFalse higher => exact ⟨(Nat.max_eq_left (Nat.not_lt.mp higher)).symm, fun _ _ => rfl, rfl⟩

/-- RAISE from a higher epoch lifts a standby's epoch (R152, R167). -/
theorem raiseMsg_adopted (hm : s.mode = stStandby) (he : s.epoch < crownEpoch h.crown) (crown : Word) :
    ∃ t, exec (.raiseMsg h crown) s = .next t ∧ t.epoch = max s.epoch (crownEpoch crown) ∧ t.mode = stStandby ∧
      t.pair.swap = s.pair.swap := by
  have accepts : epochAccepts (hearMsg s h) h .raise = true := by simp [epochAccepts, he]
  have acts : exec (.raiseMsg h crown) s = .next ((hearMsg s h).adoptEpoch (crownEpoch crown)) := by
    show execRaiseMsg h crown s = _
    rw [execRaiseMsg, onMsg_accepted s h accepts, if_pos (by simp [hm])]
  obtain ⟨epoch, reg, frame⟩ := adoptEpoch_spec (hearMsg s h) (crownEpoch_lt crown)
  refine ⟨_, acts, by simp [epoch], ?_, by rw [frame, hearMsg_pair]⟩
  rw [State.mode, State.fld_of_reg (reg _ (by decide)), ← State.mode]
  simp [hm]

/-- Settles O20: requests from a lower epoch, each way to a role change, and RAISE. -/
theorem crownsAndRoles : Obligations.CrownsAndRoles := by
  unfold Obligations.CrownsAndRoles
  refine ⟨fun s h b o i v w x he ht c hc => ?_, ⟨fun s v key go allowed => ?_, fun s h he =>
    ⟨swapReq_agreed he, fun w k => swapAck_agreed he, yieldMsg_agreed he⟩⟩,
    fun s h crown hm he => raiseMsg_adopted hm he crown⟩
  · simp only [List.mem_cons, List.not_mem_nil, or_false] at hc
    obtain rfl | rfl | rfl | rfl := hc <;> exact ⟨_, rfl, lowerEpoch_refused he ht rfl⟩
  · obtain ⟨swap, regs, -⟩ := sendSwapReq_spec s none
    exact ⟨_, exec_crownSwapReq_allowed key go allowed, swap, regs⟩

end Sys2Proof.Machine
end

section
/-! SUPPORT. The Strait's lanes, and what of a partner's STATUS stays shown once it has acted (R147, R148, R150, R165 to R169). -/

namespace Sys2Proof.Machine

open Sys2Proof

/-! ## Lanes (R147, R148) -/

/-- A lane of a set to which one is added, or from which one is removed. -/
theorem getLsbD_setLane (m : BitVec 8) (l : Nat) (up : Bool) {i : Nat} (hi : i < 8) :
    (setLane m l up).getLsbD i = if i = l then up else m.getLsbD i := by
  have bit : (BitVec.ofNat 8 (2 ^ l)).getLsbD i = decide (i = l) := by
    rw [BitVec.getLsbD_ofNat, Nat.testBit_two_pow]
    simp [hi, eq_comm]
  cases up
  case false =>
    show (m &&& ~~~BitVec.ofNat 8 (2 ^ l)).getLsbD i = _
    rw [BitVec.getLsbD_and, BitVec.getLsbD_not, bit]
    by_cases h : i = l <;> simp only [h, decide_true, decide_false, hi, Bool.not_true, Bool.not_false, Bool.and_true,
      Bool.and_false, if_true, if_false]
  case true =>
    show (m ||| BitVec.ofNat 8 (2 ^ l)).getLsbD i = _
    rw [BitVec.getLsbD_or, bit]
    by_cases h : i = l <;> simp only [h, decide_true, decide_false, Bool.or_true, Bool.or_false, if_true, if_false]

variable (s : State)

/-- The effective set is that of both announcements; what was announced stays. -/
theorem updateLanes_spec :
    (updateLanes s).fld F.STRAIT_STATUS.LANES_UP = (s.pair.rxLanes &&& s.pair.partnerLanes).toNat ∧
      (∀ a, a ≠ A.STRAIT_STATUS → (updateLanes s).reg a = s.reg a) ∧
      (∃ d, (updateLanes s).pair = { s.pair with laneDirty := d }) ∧ (updateLanes s).mem = s.mem := by
  unfold updateLanes
  extract_lets set old t
  split
  case isTrue same => exact ⟨same.symm, fun _ _ => rfl, ⟨s.pair.laneDirty, rfl⟩, rfl⟩
  case isFalse =>
    have fits : set % 2 ^ 8 = set := Nat.mod_eq_of_lt (BitVec.isLt _)
    refine ⟨?_, fun a ha => ?_, ⟨true, rfl⟩, rfl⟩
    · show ((s.setFld F.STRAIT_STATUS.LANES_UP set).setFld F.STRAIT_STATUS.TRAINED _).fld F.STRAIT_STATUS.LANES_UP = set
      rw [State.fld_setFld_other _ _ _ _ (.inr (.inl (by decide))), State.fld_setFld_same _ _ _ (by decide)]
      exact fits
    · show ((s.setFld F.STRAIT_STATUS.LANES_UP set).setFld F.STRAIT_STATUS.TRAINED _).reg a = s.reg a
      rw [State.reg_setFld_other _ _ ha, State.reg_setFld_other _ _ ha]

/-- A lane change shows the lanes that hold block lock and have brought a STATUS (R147). -/
theorem updateLanes_lanesUp (f : Pair → Pair) : let t := updateLanes (s.withPair (fun p => lanesUp (f p)))
    t.pair.rxLanes = (f s.pair).blockLock &&& (f s.pair).statusOn ∧ t.pair.blockLock = (f s.pair).blockLock ∧
      t.pair.statusOn = (f s.pair).statusOn ∧
      t.fld F.STRAIT_STATUS.LANES_UP = (t.pair.rxLanes &&& (f s.pair).partnerLanes).toNat := by
  obtain ⟨shown, -, ⟨d, pair⟩, -⟩ := updateLanes_spec (s.withPair (fun p => lanesUp (f p)))
  dsimp only
  rw [shown, pair]
  exact ⟨rfl, rfl, rfl, rfl⟩

/-- The lanes once the partner has announced its own. -/
def takeLanes (h : StraitHdr) (p : StatusPayload) : State :=
  updateLanes (s.withPair (fun x => lanesUp { x with partnerLanes := p.lanes, statusOn := setLane x.statusOn h.lane true }))

/-- They follow the partner's announcement, and no other register changes. -/
theorem takeLanes_shows (h : StraitHdr) (p : StatusPayload) : (takeLanes s h p).pair.partnerLanes = p.lanes ∧
    (takeLanes s h p).epoch = s.epoch ∧ (takeLanes s h p).mem = s.mem := by
  obtain ⟨-, reg, ⟨d, pair⟩, mem⟩ := updateLanes_spec (s.withPair (fun x =>
    lanesUp { x with partnerLanes := p.lanes, statusOn := setLane x.statusOn h.lane true }))
  exact ⟨congrArg Pair.partnerLanes pair, State.fld_of_reg (reg _ (by decide)), mem⟩

/-! ## What a STATUS has shown (R150) -/

/-- What a STATUS tells of the partner, and memory. -/
def statusSide : Nat × Word × BitVec 8 × Bool × Bool × Bytes :=
  (s.fld F.STRAIT_STATUS.PARTNER_STATE, s.reg A.CROWN_PARTNER, s.pair.partnerLanes, s.pair.partSplit, s.pair.partVerdict, s.mem)

theorem statusSide_setFld {f : Fld} (hc : f.reg ≠ A.CROWN_PARTNER) (hs : f.reg ≠ A.STRAIT_STATUS ∨ f.hi < 29) (v : Nat) :
    statusSide (s.setFld f v) = statusSide s := by
  have state : (s.setFld f v).fld F.STRAIT_STATUS.PARTNER_STATE = s.fld F.STRAIT_STATUS.PARTNER_STATE :=
    State.fld_setFld_other _ _ _ _ (hs.imp Ne.symm .inr)
  unfold statusSide
  rw [state, State.reg_setFld_other _ _ hc.symm]
  rfl

theorem statusSide_straitOn (l type sub : Nat) (vals : List Nat) (bytes : List Byte) :
    statusSide (s.straitOn l type sub vals bytes) = statusSide s := by
  obtain ⟨n, pair⟩ := State.straitOn_pair s l type sub vals bytes
  unfold statusSide
  rw [pair]
  simp

theorem statusSide_adoptEpoch (e : Nat) : statusSide (s.adoptEpoch e) = statusSide s := by
  unfold State.adoptEpoch
  split
  · exact statusSide_setFld s (by decide) (.inl (by decide)) e
  · rfl

theorem statusSide_requestSafe (cause : Nat) : statusSide (requestSafe s cause) = statusSide s := by
  unfold requestSafe
  split <;> rfl

theorem statusSide_dualHold (crown : Word) : statusSide (dualHold s crown) = statusSide s := by
  unfold dualHold
  extract_lets t
  have noted : statusSide t = statusSide s := by
    unfold t
    split
    · rfl
    · exact statusSide_setFld s (by decide) (.inl (by decide)) 1
  split
  · exact (statusSide_requestSafe t 8).trans noted
  · exact noted

theorem statusSide_yieldIfDue : statusSide (yieldIfDue s) = statusSide s := by
  unfold yieldIfDue
  split
  · split
    · exact statusSide_straitOn s 6 4 3 [] []
    · exact statusSide_setFld s (by decide) (.inl (by decide)) _
  · rfl

theorem statusSide_judgeSuspended (p : StatusPayload) : statusSide (judgeSuspended s p) = statusSide s := by
  have suspends (b : Bool) : statusSide (s.setFlag F.STRAIT_STATUS.CMP_SUSPENDED b) = statusSide s :=
    statusSide_setFld s (by decide) (.inr (by decide)) _
  unfold judgeSuspended
  split
  · split
    · split
      · exact suspends false
      · rfl
    · exact suspends true
  · rfl

theorem statusSide_requestAs (staged : Bool) (seq : Word) (digest : List Byte) :
    statusSide (requestAs s staged seq digest) = statusSide s := by
  unfold requestAs
  split
  · exact statusSide_setFld s (by decide) (.inr (by decide)) 5
  · exact (statusSide_setFld _ (by decide) (.inr (by decide)) 1).trans (statusSide_straitOn s _ _ _ _ _)

theorem statusSide_goOutOfStep : statusSide (goOutOfStep s) = statusSide s := by
  unfold goOutOfStep
  split
  · refine (statusSide_requestAs _ _ _ _).trans ?_
    exact (statusSide_setFld _ (by decide) (.inr (by decide)) _).trans
      (statusSide_setFld _ (by decide) (.inr (by decide)) _)
  · rfl

theorem statusSide_resyncAfterVerdict (p : StatusPayload) : statusSide (resyncAfterVerdict s p) = statusSide s := by
  unfold resyncAfterVerdict
  split
  · exact statusSide_goOutOfStep s
  · rfl

theorem statusSide_askAgain (p : StatusPayload) : statusSide (askAgain s p) = statusSide s := by
  have joins : statusSide (joinRequest s) = statusSide s := by
    unfold joinRequest
    split
    · exact statusSide_requestAs s _ _ _
    · split <;> exact statusSide_requestAs s _ _ _
  unfold askAgain
  split
  · exact joins
  · rfl

/-- A STATUS on the control lane as it is noted, before it acts. -/
def noteStatus (h : StraitHdr) (p : StatusPayload) : State :=
  let e := crownEpoch h.crown
  ((s.withPair (fun x => { x with
    status := some (if e < s.epoch then { p with inStep := false } else p), lastCrown := h.crown
    partSplit := if e < s.epoch then x.partSplit else p.splitBusy
    partVerdict := if e < s.epoch then x.partVerdict else p.verdictBusy
    partCopy := if e < s.epoch then x.partCopy else p.copyBusy
    ranBefore := x.ranBefore || (decide (2 ≤ p.state) && decide (p.state ≤ 4)) })).setFld
      F.STRAIT_STATUS.PARTNER_STATE p.state).setReg A.CROWN_PARTNER h.crown

variable {s} in
/-- What is shown then. -/
theorem noteStatus_side {t : State} {h : StraitHdr} {p : StatusPayload} (side : statusSide t = statusSide (noteStatus s h p)) :
    t.fld F.STRAIT_STATUS.PARTNER_STATE = p.state % 2 ^ 3 ∧ t.reg A.CROWN_PARTNER = h.crown ∧
      t.pair.partnerLanes = s.pair.partnerLanes ∧
      t.pair.partSplit = (if crownEpoch h.crown < s.epoch then s.pair.partSplit else p.splitBusy) ∧
      t.pair.partVerdict = (if crownEpoch h.crown < s.epoch then s.pair.partVerdict else p.verdictBusy) ∧ t.mem = s.mem := by
  simp only [statusSide, Prod.mk.injEq] at side
  obtain ⟨state, crown, lanes, split, verdict, mem⟩ := side
  refine ⟨state.trans ?_, crown.trans (State.reg_setReg_same ..), lanes, split, verdict, mem⟩
  rw [noteStatus, State.fld_setReg_other _ _ (by decide), State.fld_setFld_same _ _ _ (by decide)]
  rfl

/-- What it causes leaves what it has shown. -/
theorem statusSide_takeStatus (h : StraitHdr) (p : StatusPayload) :
    statusSide (takeStatus s h p) = statusSide (noteStatus s h p) := by
  unfold takeStatus
  extract_lets e p' t u v w
  have noted : u = noteStatus s h p := rfl
  have adopted : statusSide v = statusSide u := by
    unfold v
    split
    · exact statusSide_adoptEpoch u e
    · rfl
  have judged : statusSide w = statusSide v := by
    unfold w
    split
    · exact statusSide_dualHold v h.crown
    · rfl
  rw [statusSide_askAgain, statusSide_resyncAfterVerdict, statusSide_judgeSuspended, statusSide_yieldIfDue, judged,
    adopted, noted]

/-- On the control lane it acts once the lanes follow. -/
theorem receiveStatus_control {h : StraitHdr} (hl : (h.lane == laneOf s.pair.routing 6) = true) (p : StatusPayload) :
    receiveStatus s h p = takeStatus (takeLanes s h p) h p := if_pos hl

end Sys2Proof.Machine
end

section
/-! The Strait's lanes and messages: the statement of O19. -/

namespace Sys2Proof.Machine

open Sys2Proof

variable {s : State} {h : StraitHdr}

/-- LANE_UP (R147, R148). -/
theorem laneUp_shows (s : State) (l : Nat) : ∃ t, exec (.laneUp l) s = .next t ∧
    t.fld F.STRAIT_STATUS.LANES_UP = (t.pair.rxLanes &&& s.pair.partnerLanes).toNat ∧
    ∀ i, i < 8 → t.pair.rxLanes.getLsbD i = ((s.pair.blockLock.getLsbD i || i == l) && s.pair.statusOn.getLsbD i) := by
  obtain ⟨lanes, -, -, shown⟩ := updateLanes_lanesUp s (fun p => { p with blockLock := setLane p.blockLock l true })
  refine ⟨_, rfl, shown, fun i hi => ?_⟩
  rw [lanes, BitVec.getLsbD_and, getLsbD_setLane _ _ _ hi]
  by_cases e : i = l <;> simp [e, beq_eq_decide]

/-- LANE_DOWN (R148). -/
theorem laneDown_shows (s : State) {l : Nat} (hl : l < 8) : ∃ t, exec (.laneDown l) s = .next t ∧
    t.fld F.STRAIT_STATUS.LANES_UP = (t.pair.rxLanes &&& s.pair.partnerLanes).toNat ∧
    t.pair.blockLock.getLsbD l = false ∧ t.pair.statusOn.getLsbD l = false ∧
    ∀ i, i < 8 → t.pair.rxLanes.getLsbD i = (s.pair.blockLock.getLsbD i && s.pair.statusOn.getLsbD i && i != l) := by
  obtain ⟨lanes, locks, status, shown⟩ := updateLanes_lanesUp s (fun p => { p with
    blockLock := setLane p.blockLock l false, statusOn := setLane p.statusOn l false })
  refine ⟨_, rfl, shown, ?_, ?_, fun i hi => ?_⟩
  · rw [locks, getLsbD_setLane _ _ _ hl, if_pos rfl]
  · rw [status, getLsbD_setLane _ _ _ hl, if_pos rfl]
  · rw [lanes, BitVec.getLsbD_and, getLsbD_setLane _ _ _ hi, getLsbD_setLane _ _ _ hi]
    by_cases e : i = l <;> simp [e]

/-- LANE_MOVE (R148). -/
theorem laneMove_follows (hd : s.pair.laneDirty = true) : ∃ t, exec .laneMove s = .next t ∧
    t.pair.routing.toNat = s.fld F.STRAIT_STATUS.LANES_UP ∧ t.pair.laneDirty = false ∧ t.regs = s.regs := by
  have moves : exec .laneMove s = .next
      (s.withPair (fun p => { p with laneDirty := false, routing := BitVec.ofNat 8 s.lanes })) :=
    congrArg Host.Outcome.next (if_pos hd)
  have fits : s.fld F.STRAIT_STATUS.LANES_UP < 2 ^ 8 := State.fld_lt s _
  exact ⟨_, moves, (BitVec.toNat_ofNat ..).trans (Nat.mod_eq_of_lt fits), rfl, rfl⟩

/-- STATUS on the control lane (R150). -/
theorem statusMsg_shows {p : StatusPayload} (hl : h.lane = laneOf s.pair.routing 6) (hp : p.state < 8) :
    ∃ t, exec (.statusMsg h p) s = .next t ∧ t.fld F.STRAIT_STATUS.PARTNER_STATE = p.state ∧
      t.reg A.CROWN_PARTNER = h.crown ∧ t.pair.partnerLanes = p.lanes ∧
      (crownEpoch h.crown = s.epoch → t.pair.partSplit = p.splitBusy ∧ t.pair.partVerdict = p.verdictBusy) ∧
      t.mem = s.mem := by
  have control : (h.lane == laneOf (hearMsg s h).pair.routing 6) = true := by simp [hearMsg_pair, hl]
  have takes : execStatusMsg h p s = .next (takeStatus (takeLanes (hearMsg s h) h p) h p) := by
    rw [execStatusMsg, onMsg_accepted s h (k := .status) (by simp [epochAccepts]), receiveStatus_control _ control]
  obtain ⟨mask, epoch, heard⟩ := takeLanes_shows (hearMsg s h) h p
  simp only [hearMsg_fields, hearMsg_reads] at epoch heard
  have side := statusSide_takeStatus (takeLanes (hearMsg s h) h p) h p
  generalize takeLanes (hearMsg s h) h p = u at takes mask epoch heard side
  obtain ⟨state, crown, lanes, split, verdict, mem⟩ := noteStatus_side side
  refine ⟨_, takes, state.trans (Nat.mod_eq_of_lt hp), crown, lanes.trans mask, fun he => ?_, mem.trans heard⟩
  have own : ¬crownEpoch h.crown < u.epoch := by rw [he, epoch]; exact Nat.lt_irrefl _
  exact ⟨split.trans (if_neg own), verdict.trans (if_neg own)⟩

/-- The part of a COMMIT that is kept. -/
def keepCommit (s : State) : CommitPayload → State
  | .completion m t1 late => s.withPair (fun x => { x with part1 := some (m, t1, late) })
  | .digest v clean miss => s.withPair (fun x => { x with part2 := some (v, clean, miss) })

/-- COMMIT of this tick (R48, R155). -/
theorem commitMsg_kept (he : crownEpoch h.crown = s.epoch) (ht : h.tick = s.tick) (m : BitVec 8) (d : DWord) (a b : Bool) :
    (∃ t, exec (.commitMsg h (.completion m a b)) s = .next t ∧ t.pair.part1 = some (m, a, b) ∧ t.regs = s.regs) ∧
    ∃ t, exec (.commitMsg h (.digest d a b)) s = .next t ∧ t.pair.part2 = some (d, a, b) ∧ t.regs = s.regs := by
  have now : (h.tick != (hearMsg s h).tick) = false := by simp [ht]
  have takes (p : CommitPayload) : exec (.commitMsg h p) s = .next (keepCommit (hearMsg s h) p) := by
    show execCommitMsg h p s = _
    rw [execCommitMsg, onMsg_ownEpoch he, now]
    cases p <;> rfl
  exact ⟨⟨_, takes _, rfl, (hearMsg_fields s h).1⟩, _, takes _, rfl, (hearMsg_fields s h).1⟩

/-- MAINT of a split (R83, R150). -/
theorem maintMsg_kept (he : crownEpoch h.crown = s.epoch) (b : Bool) : ∃ t, exec (.maintMsg h .split b) s = .next t ∧
    t.pair.partSplit = b ∧ t.regs = s.regs ∧ (s.trained = true → t.outbox = replyOut s 7 h.seq rcOk :: s.outbox) := by
  have takes : exec (.maintMsg h .split b) s =
      .next (((hearMsg s h).withPair (fun p => { p with partSplit := b })).straitReply 7 h.seq rcOk) := by
    show execMaintMsg h .split b s = _
    rw [execMaintMsg, onMsg_ownEpoch he]
  refine ⟨_, takes, ?_, ?_, fun ht => ?_⟩
  · obtain ⟨n, pair⟩ := State.straitOn_pair ((hearMsg s h).withPair (fun p => { p with partSplit := b })) 6 0x0A 0
      [7, h.seq, rcOk] []
    rw [State.straitReply, State.strait, pair]
    rfl
  · rw [State.straitReply, State.strait, (State.straitOn_fields ..).1]
    exact (hearMsg_fields s h).1
  · have trained : (hearMsg s h).trained = true := by simp [ht]
    have same : replyOut ((hearMsg s h).withPair (fun p => { p with partSplit := b })) 7 h.seq rcOk = replyOut s 7 h.seq rcOk :=
      (controlOut_congr (s := hearMsg s h) rfl rfl rfl rfl ..).trans (controlOut_hearMsg ..)
    have out : ((hearMsg s h).withPair (fun p => { p with partSplit := b })).outbox = s.outbox := by
      simp [State.withPair]
    rw [outbox_straitReply (s := (hearMsg s h).withPair _) trained, same, out]

/-- A message whose bytes are not well formed (R149). -/
theorem straitMessageDiscard_counts (s : State) (m : List Byte) :
    (straitIntact m = false → ∃ t, exec (.straitMessageDiscard m) s = .next t ∧ t = { s with regs := t.regs } ∧
      t.fld F.STRAIT_ERR.MSG_CRC = min F.STRAIT_ERR.MSG_CRC.top (s.fld F.STRAIT_ERR.MSG_CRC + 1)) ∧
    (straitIntact m = true → exec (.straitMessageDiscard m) s = .next s) := by
  refine ⟨fun bad => ⟨s.count F.STRAIT_ERR.MSG_CRC 1, ?_, rfl, State.fld_count_same s (by decide) 1⟩, fun intact => ?_⟩
  · exact congrArg Host.Outcome.next (if_neg (by rw [bad]; exact Bool.false_ne_true))
  · exact congrArg Host.Outcome.next (if_pos intact)

/-- Settles O19: lanes, then each message. -/
theorem straitMessagesAreTaken : Obligations.StraitMessagesAreTaken := by
  unfold Obligations.StraitMessagesAreTaken
  refine ⟨fun s l hl => ⟨laneUp_shows s l, laneDown_shows s hl, laneMove_follows⟩, fun s h p hl hp => ?_,
    fun s h m d a b he ht => commitMsg_kept he ht m d a b, fun s h b he => maintMsg_kept he b,
    straitMessageDiscard_counts⟩
  obtain ⟨t, takes, state, crown, lanes, tests, mem⟩ := statusMsg_shows hl hp
  exact ⟨t, takes, state, crown, lanes, tests, fun _ _ => mem⟩

end Sys2Proof.Machine
end

section
/-! SUPPORT. Changes in the guard window: loss of the partner, the end of a pairing, a new module state (R32,
R161, R164, R165). -/

namespace Sys2Proof.Machine

open Sys2Proof

variable (s : State)

/-! ## Loss of the partner (R161) -/

/-- At 61.0 µs the presence line is sampled once more (R340). -/
def samplePresence : State := (s.at 61000).setFlag F.SYS_SLOT.PARTNER_PRESENT s.pair.presLine

variable {s} in
/-- The clock and PARTNER_PRESENT alone change. -/
theorem fld_samplePresence {f : Fld} (hf : f.reg ≠ A.SYS_SLOT)
    (hn : f.reg ∉ [A.TIME_NOW_LO, A.TIME_NOW_HI, A.TIME_NOW_FRAC]) : (samplePresence s).fld f = s.fld f :=
  (State.fld_setFld_other _ _ _ _ (.inl hf)).trans (State.fld_at s 61000 hn)

/-- A stopped CLA with messages arriving is a line fault (R161). -/
def noteLineFault : State :=
  if s.pair.heard && !s.flag F.CROWN_STATUS.CLA_TOGGLED then s.note F.CROWN_STATUS.LINE_FAULT else s

/-- It leaves the pair, and every other field. -/
theorem noteLineFault_leaves : (noteLineFault s).pair = s.pair ∧
    ∀ f : Fld, f.reg ≠ A.CROWN_STATUS ∨ f.hi < 5 ∨ 5 < f.lo → (noteLineFault s).fld f = s.fld f := by
  unfold noteLineFault
  split
  · exact ⟨rfl, fun f hf => State.fld_setFld_other _ _ _ _ hf⟩
  · exact ⟨rfl, fun _ _ => rfl⟩

/-- Loss is judged by the pair, the presence line, the toggling CLA and the partner's state (R161). -/
theorem partnerLostNow_congr {s t : State} (pair : t.pair = s.pair)
    (present : t.fld F.SYS_SLOT.PARTNER_PRESENT = s.fld F.SYS_SLOT.PARTNER_PRESENT)
    (toggled : t.fld F.CROWN_STATUS.CLA_TOGGLED = s.fld F.CROWN_STATUS.CLA_TOGGLED)
    (state : t.fld F.STRAIT_STATUS.PARTNER_STATE = s.fld F.STRAIT_STATUS.PARTNER_STATE) :
    partnerLostNow t = partnerLostNow s := by
  simp only [partnerLostNow, State.flag, pair, present, toggled, state]

/-! ## What a command that ends leaves of the pair (R208) -/

/-- Whatever waits, its answer leaves the pair and the recorder. -/
theorem finishWaiting_pair (k opcode code : Nat) (data : List Byte) :
    (finishWaiting s k opcode code data).pair = s.pair ∧ (finishWaiting s k opcode code data).recorder = s.recorder ∧
      (finishWaiting s k opcode code data).mem = s.mem := by
  have finish : (finishCommand s k code data).pair = s.pair ∧ (finishCommand s k code data).recorder = s.recorder ∧
      (finishCommand s k code data).mem = s.mem := by
    cases hq : (s.sess k).queue with
    | nil =>
      have none : finishCommand s k code data = s := by
        unfold finishCommand
        rw [hq]
      simp only [none, and_self]
    | cons q rest =>
      by_cases hk : k < 16
      · simp only [finishCommand_front hk hq, and_self]
      · rw [finishCommand_closed (Nat.not_lt.mp hk) hq, journalResult_frame]
        exact ⟨rfl, rfl, rfl⟩
  unfold finishWaiting
  split
  · exact ⟨rfl, rfl, rfl⟩
  · split
    · exact finish
    · exact ⟨rfl, rfl, rfl⟩

/-- An arm that is dropped leaves the pair, the recorder and what shows no answer. -/
theorem dropArm_leaves (code : Nat) : (dropArm s code).pair = s.pair ∧ (dropArm s code).recorder = s.recorder ∧
    ∀ a, a % 0x1000000 ∉ [A.NET_PORT_TX, A.CMD_ERR, A.CMD_SESS_STATE] → (dropArm s code).reg a = s.reg a := by
  by_cases due : s.loader.armDue.isSome = true
  case neg => simp [dropArm, due]
  case pos =>
    cases slot : s.loader.waitSlot with
    | none =>
      have drops : dropArm s code = withoutArm s := by
        rw [dropArm, if_pos due, slot]
        rfl
      rw [drops]
      exact ⟨rfl, rfl, fun _ _ => rfl⟩
    | some k =>
      have drops : dropArm s code = finishWaiting (withoutArm s) k 0x24 code [] := by
        rw [dropArm, if_pos due, slot]
        rfl
      obtain ⟨pair, recorder, -⟩ := finishWaiting_pair (withoutArm s) k 0x24 code []
      obtain ⟨-, -, reg⟩ := finishWaiting_leaves (withoutArm s) k 0x24 code []
      rw [drops]
      exact ⟨pair, recorder, reg⟩

/-- So does one that is judged again (R206). -/
theorem reg_recheckArm {a : Nat} (h : a % 0x1000000 ∉ [A.NET_PORT_TX, A.CMD_ERR, A.CMD_SESS_STATE]) :
    (recheckArm s).reg a = s.reg a := by
  unfold recheckArm
  split
  · rfl
  · split
    · rfl
    · obtain ⟨-, -, reg⟩ := dropArm_leaves s rcRoleChanged
      exact reg a h

/-! ## The end of a pairing (R164, R165) -/

variable {s} in
/-- Where no swap is under way there is none to end. -/
theorem voidSwap_none (h : s.pair.swap = .none) : voidSwap s = s := by
  have same : s.withPair (fun p => { p with swap := .none }) = s := by
    unfold State.withPair
    rw [← h]
  rw [voidSwap, h, same]

/-- A DRAM segment that begins shows in MEM_STATUS and MEM_SCRUB alone. -/
theorem startQueuedSegment_leaves : (startQueuedSegment s).pair = s.pair ∧
    (startQueuedSegment s).recorder = s.recorder ∧
    ∀ a, a ∉ [A.MEM_STATUS, A.MEM_SCRUB] → (startQueuedSegment s).reg a = s.reg a := by
  unfold startQueuedSegment
  split
  · refine ⟨rfl, rfl, fun a ha => ?_⟩
    obtain ⟨status, scrub⟩ : a ≠ A.MEM_STATUS ∧ a ≠ A.MEM_SCRUB := by simpa using ha
    rw [beginSegment, State.reg_setFld_other _ _ scrub, State.setFlag, State.reg_setFld_other _ _ status, State.setFlag,
      State.reg_setFld_other _ _ status]
    rfl
  · exact ⟨rfl, rfl, fun _ _ => rfl⟩

/-- The end of a pairing leaves the request for SAFE, the recorder, and registers but those of the Strait and the scrubber. -/
theorem endPairing_leaves : (endPairing s).pair.safeDue = s.pair.safeDue ∧ (endPairing s).recorder = s.recorder ∧
    ∀ a, a ∉ [A.STRAIT_STATUS, A.MEM_STATUS, A.MEM_SCRUB] → (endPairing s).reg a = s.reg a := by
  unfold endPairing
  extract_lets u w v
  obtain ⟨pair, recorder, reg⟩ := startQueuedSegment_leaves v
  refine ⟨(congrArg Pair.safeDue pair :), recorder, fun a ha => ?_⟩
  obtain ⟨strait, scrubber⟩ : a ≠ A.STRAIT_STATUS ∧ a ∉ [A.MEM_STATUS, A.MEM_SCRUB] := by simpa using ha
  exact (reg a scrubber).trans (State.reg_setFld_other u 0 strait)

/-! ## A new module state (R32) -/

/-- The registers that show a state with its CAUSE, CLH_OUT and IN_STEP. -/
def showState (n c : Nat) (clh step : Bool) : State :=
  ((((s.setFld F.SYS_STATE.STATE n).setFld F.SYS_STATE.CAUSE c).note F.SYS_EVENT.STATE_CHANGED).setFlag
    F.CROWN_STATUS.CLH_OUT clh).setFlag F.STRAIT_STATUS.IN_STEP step

/-- A new state changes those. -/
theorem reg_become (n c : Nat) : ∃ clh step, ∀ a, (s.become n c).reg a = (showState s n c clh step).reg a :=
  ⟨_, _, fun _ => rfl⟩

/-- The state and its CAUSE are shown, and the change. -/
theorem become_shows {n c : Nat} (hn : n < 8) (hc : c < 16) : (s.become n c).mode = n ∧
    (s.become n c).fld F.SYS_STATE.CAUSE = c ∧ (s.become n c).flag F.SYS_EVENT.STATE_CHANGED = true := by
  obtain ⟨clh, step, regs⟩ := reg_become s n c
  have shown {f : Fld} (hf : f.reg = A.SYS_STATE) :
      (s.become n c).fld f = ((s.setFld F.SYS_STATE.STATE n).setFld F.SYS_STATE.CAUSE c).fld f := by
    have away {a : Nat} (ha : a ∈ [A.STRAIT_STATUS, A.CROWN_STATUS, A.SYS_EVENT]) : f.reg ≠ a := by
      rw [hf]
      intro same
      exact absurd (same ▸ ha) (by decide)
    rw [State.fld_of_reg (regs f.reg), showState, State.setFlag, State.fld_setFld_other _ _ _ _ (.inl (away (by simp))),
      State.setFlag, State.fld_setFld_other _ _ _ _ (.inl (away (by simp))), State.note,
      State.fld_setFld_other _ _ _ _ (.inl (away (by simp)))]
  refine ⟨?_, ?_, ?_⟩
  · rw [State.mode, shown rfl, State.fld_setFld_other _ _ _ _ (.inr (.inl (by decide))),
      State.fld_setFld_same _ _ _ (by decide)]
    exact Nat.mod_eq_of_lt hn
  · rw [shown rfl, State.fld_setFld_same _ _ _ (by decide)]
    exact Nat.mod_eq_of_lt hc
  · rw [State.flag_of_reg (regs _), showState, State.setFlag, State.flag_setFld_other _ _ _ _ (.inl (by decide)),
      State.setFlag, State.flag_setFld_other _ _ _ _ (.inl (by decide))]
    exact State.flag_note_same _ _ (by decide) (by decide)

/-- The other registers stay. -/
theorem reg_become_other (n c : Nat) {a : Nat} (h : a ∉ [A.SYS_STATE, A.SYS_EVENT, A.CROWN_STATUS, A.STRAIT_STATUS]) :
    (s.become n c).reg a = s.reg a := by
  obtain ⟨state, event, crown, strait⟩ :
      a ≠ A.SYS_STATE ∧ a ≠ A.SYS_EVENT ∧ a ≠ A.CROWN_STATUS ∧ a ≠ A.STRAIT_STATUS := by simpa using h
  obtain ⟨clh, step, regs⟩ := reg_become s n c
  rw [regs, showState, State.setFlag, State.reg_setFld_other _ _ strait, State.setFlag, State.reg_setFld_other _ _ crown,
    State.note, State.reg_setFld_other _ _ event, State.reg_setFld_other _ _ state, State.reg_setFld_other _ _ state]

/-- It is recorded (R309). -/
theorem become_records (n c : Nat) :
    ∃ e, (s.become n c).recorder.raised = s.recorder.raised ++ [e] ∧ e.cls = 0 ∧ e.code = 1 :=
  ⟨_, rfl, rfl, rfl⟩

end Sys2Proof.Machine
end

section
/-! Loss of the partner, takeover and SAFE: the statement of O21. -/

namespace Sys2Proof.Machine

open Sys2Proof

variable {s : State}

/-- Loss is judged at 61.0 µs by the presence line as it then stands (R161, R340). -/
theorem partnerLossCheck_judges (ht : s.ticking = true) (hr : s.running = true) :
    ∃ t, exec .partnerLossCheck s = .next t ∧ t.flag F.SYS_SLOT.PARTNER_PRESENT = s.pair.presLine ∧
      t.pair.lost = partnerLostNow (s.setFlag F.SYS_SLOT.PARTNER_PRESENT s.pair.presLine) ∧
      (s.pair.presLine = false → t.pair.lost = true) ∧
      (s.pair.heard = true → s.flag F.CROWN_STATUS.CLA_TOGGLED = false → t.flag F.CROWN_STATUS.LINE_FAULT = true) := by
  have judges : exec .partnerLossCheck s =
      .next ((noteLineFault (samplePresence s)).withPair
        (fun p => { p with lost := partnerLostNow (noteLineFault (samplePresence s)) })) :=
    if_pos (by rw [ht, hr]; rfl)
  obtain ⟨pair, kept⟩ := noteLineFault_leaves (samplePresence s)
  have sampled : (noteLineFault (samplePresence s)).flag F.SYS_SLOT.PARTNER_PRESENT = s.pair.presLine := by
    rw [State.flag, kept _ (.inl (by decide)), ← State.flag]
    exact State.flag_setFlag_same _ _ _ (by decide) (by decide)
  have lost : partnerLostNow (noteLineFault (samplePresence s)) =
      partnerLostNow (s.setFlag F.SYS_SLOT.PARTNER_PRESENT s.pair.presLine) := by
    refine partnerLostNow_congr pair ?_ ?_ ?_
    · rw [kept _ (.inl (by decide))]
      exact (State.fld_setFld_same _ _ _ (by decide)).trans (State.fld_setFld_same _ _ _ (by decide)).symm
    · rw [kept _ (.inr (.inl (by decide))), fld_samplePresence (by decide) (by decide)]
      exact (State.fld_setFld_other _ _ _ _ (.inl (by decide))).symm
    · rw [kept _ (.inl (by decide)), fld_samplePresence (by decide) (by decide)]
      exact (State.fld_setFld_other _ _ _ _ (.inl (by decide))).symm
  refine ⟨_, judges, sampled, lost, fun absent => ?_, fun heard stopped => ?_⟩
  · show partnerLostNow (noteLineFault (samplePresence s)) = true
    rw [partnerLostNow, sampled, absent]
    rfl
  · show (noteLineFault (samplePresence s)).flag F.CROWN_STATUS.LINE_FAULT = true
    have fault : ((samplePresence s).pair.heard && !(samplePresence s).flag F.CROWN_STATUS.CLA_TOGGLED) = true := by
      rw [State.flag, fld_samplePresence (by decide) (by decide), ← State.flag, stopped]
      exact Bool.and_eq_true_iff.mpr ⟨heard, rfl⟩
    rw [noteLineFault, if_pos fault]
    exact State.flag_note_same _ _ (by decide) (by decide)

/-- A takeover (R164). -/
theorem takeover_shows (he : s.epoch < 0xFFFFFF) (hs : s.pair.swap = .none) : (takeover s).mode = stSolo ∧
    (takeover s).epoch = s.epoch + 1 ∧ (takeover s).flag F.CROWN_EVENT.TAKEOVER = true ∧
    (takeover s).flag F.SYS_EVENT.STATE_CHANGED = true := by
  unfold takeover announceRaise State.strait
  extract_lets unsync s1 last s2 s3
  simp only [State.straitOn_reads]
  have noted : s1.epoch = s.epoch ∧ s1.pair = s.pair := by
    unfold s1
    split
    · exact ⟨State.fld_setFld_other _ _ _ _ (.inl (by decide)), rfl⟩
    · exact ⟨rfl, rfl⟩
  obtain ⟨epoch, pair⟩ := noted
  have raised : s2 = s1.setFld F.CROWN_STORED.EPOCH (s.epoch + 1) := by
    have lifts : s1.raiseEpoch 5 = s1.setFld F.CROWN_STORED.EPOCH (s.epoch + 1) := by
      rw [State.raiseEpoch, if_neg (by rw [epoch]; exact Nat.ne_of_lt he), epoch]
    unfold s2
    rw [lifts]
    exact voidSwap_none (pair ▸ hs)
  obtain ⟨-, -, ended⟩ := endPairing_leaves s2
  obtain ⟨mode, -, changed⟩ := become_shows (endPairing s2) (n := stSolo) (c := 5) (by decide) (by decide)
  have stored : ((endPairing s2).become stSolo 5).fld F.CROWN_STORED.EPOCH = s.epoch + 1 := by
    rw [State.fld_of_reg (reg_become_other _ _ _ (by decide)), State.fld_of_reg (ended _ (by decide)), raised,
      State.fld_setFld_same _ _ _ (by decide)]
    exact Nat.mod_eq_of_lt (Nat.lt_of_le_of_lt he (by decide))
  refine ⟨?_, ?_, ?_, ?_⟩
  · exact (State.fld_setFld_other _ _ _ _ (.inl (by decide))).trans mode
  · exact (State.fld_setFld_other _ _ _ _ (.inl (by decide))).trans stored
  · exact State.flag_note_same _ _ (by decide) (by decide)
  · exact (State.flag_setFld_other _ _ _ _ (.inl (by decide))).trans changed

/-- The standby that has lost its partner takes over (R161, R164). -/
theorem crownChange_takeover (ht : s.ticking = true) (hm : s.mode = stStandby) (hl : s.pair.lost = true)
    (he : s.epoch < 0xFFFFFF) (hs : s.pair.swap = .none) :
    ∃ t, exec .crownChange s = .next t ∧ t.mode = stSolo ∧ t.epoch = s.epoch + 1 ∧
      t.flag F.CROWN_EVENT.TAKEOVER = true ∧ t.flag F.SYS_EVENT.STATE_CHANGED = true := by
  have runs : s.running = true := by simp (decide := true) [State.running, hm]
  have changes : exec .crownChange s = .next (recheckArm (takeover (s.at 61000))) := by
    show execCrownChange s = _
    have due : ((s.at 61000).pair.lost && (s.at 61000).mode == stStandby) = true := by
      rw [show (s.at 61000).pair.lost = true from hl, State.mode_at, hm]
      rfl
    rw [execCrownChange, if_pos (by rw [ht, runs]; rfl)]
    dsimp only
    rw [if_pos due]
  have epoch : (s.at 61000).epoch = s.epoch := State.fld_at s _ (by decide)
  obtain ⟨solo, raised, taken, changed⟩ := takeover_shows (s := s.at 61000) (epoch ▸ he) hs
  refine ⟨_, changes, ?_, ?_, ?_, ?_⟩
  · exact (State.fld_of_reg (reg_recheckArm _ (by decide))).trans solo
  · exact (State.fld_of_reg (reg_recheckArm _ (by decide))).trans (raised.trans (by rw [epoch]))
  · exact (State.flag_of_reg (reg_recheckArm _ (by decide))).trans taken
  · exact (State.flag_of_reg (reg_recheckArm _ (by decide))).trans changed

/-- The PRIMARY that has lost it goes on alone under its epoch (R164). -/
theorem crownChange_standbyLost (ht : s.ticking = true) (hm : s.mode = stPrimary) (hl : s.pair.lost = true)
    (hs : s.pair.swap = .none) : ∃ t, exec .crownChange s = .next t ∧ t.mode = stSolo ∧ t.epoch = s.epoch := by
  have runs : s.running = true := by simp (decide := true) [State.running, hm]
  have changes : exec .crownChange s = .next (recheckArm ((endPairing (s.at 61000)).become stSolo 5)) := by
    show execCrownChange s = _
    have standby : ¬((s.at 61000).pair.lost && (s.at 61000).mode == stStandby) = true := by simp (decide := true) [hm]
    have due : ((s.at 61000).pair.lost && (s.at 61000).mode == stPrimary) = true := by
      rw [show (s.at 61000).pair.lost = true from hl, State.mode_at, hm]
      rfl
    rw [execCrownChange, if_pos (by rw [ht, runs]; rfl)]
    dsimp only
    rw [if_neg standby, if_pos due, standbyLost, voidSwap_none (s := s.at 61000) hs]
  obtain ⟨-, -, ended⟩ := endPairing_leaves (s.at 61000)
  obtain ⟨solo, -, -⟩ := become_shows (endPairing (s.at 61000)) (n := stSolo) (c := 5) (by decide) (by decide)
  refine ⟨_, changes, (State.fld_of_reg (reg_recheckArm _ (by decide))).trans solo, ?_⟩
  rw [State.epoch, State.fld_of_reg (reg_recheckArm _ (by decide)), State.fld_of_reg (reg_become_other _ _ _ (by decide)),
    State.fld_of_reg (ended _ (by decide)), State.fld_at s _ (by decide), ← State.epoch]

/-- A keyed write of SYS_CTRL asks for SAFE (R32). -/
theorem safeReq_asks {v : Word} (key : getBits v 31 16 = 0xA5C3) (go : v.getLsbD 0 = true) (hr : s.running = true)
    (hd : s.pair.safeDue = none) :
    ∃ t, exec (.safeReq v) s = .next t ∧ t = { s with pair := { s.pair with safeDue := some 8 } } := by
  refine ⟨_, ?_, requestSafe_running hr hd 8⟩
  exact congrArg Host.Outcome.next (if_pos ⟨key, go⟩)

/-- Entry to SAFE (R32, R33). -/
theorem enterSafe_shows {c : Nat} (hc : c < 16) (hs : s.pair.swap = .none) : (enterSafe s c).mode = stSafe ∧
    (enterSafe s c).fld F.SYS_STATE.CAUSE = c ∧ (enterSafe s c).flag F.SYS_EVENT.STATE_CHANGED = true ∧
    (enterSafe s c).pair.safeDue = none ∧
    ∃ e, (enterSafe s c).recorder.raised = s.recorder.raised ++ [e] ∧ e.cls = 0 ∧ e.code = 1 := by
  unfold enterSafe
  extract_lets v
  obtain ⟨mode, cause, changed⟩ := become_shows (v.setFlag F.CROWN_STATUS.YIELD_PENDING false) (n := stSafe) (by decide) hc
  obtain ⟨e, raised, cls, code⟩ := become_records (v.setFlag F.CROWN_STATUS.YIELD_PENDING false) stSafe c
  obtain ⟨pair, dropped, -⟩ := dropArm_leaves s rcState
  obtain ⟨-, ended, -⟩ := endPairing_leaves (dropArm s rcState)
  have recorder : v.recorder = s.recorder := by
    unfold v
    rw [voidSwap_none (pair ▸ hs)]
    exact ended.trans dropped
  refine ⟨mode, cause, changed, rfl, e, raised.trans ?_, cls, code⟩
  show v.recorder.raised ++ [e] = _
  rw [recorder]

/-- In the guard window a running module enters SAFE with the CAUSE asked for (R32). -/
theorem safeEntry_enters {c : Nat} (hd : s.pair.safeDue = some c) (hc : c < 16) (hr : s.running = true)
    (hs : s.pair.swap = .none) : ∃ t, exec .safeEntry s = .next t ∧ t.mode = stSafe ∧ t.fld F.SYS_STATE.CAUSE = c ∧
      t.rank = 0 ∧ t.flag F.SYS_EVENT.STATE_CHANGED = true ∧ t.pair.safeDue = none ∧
      ∃ e, t.recorder.raised = s.recorder.raised ++ [e] ∧ e.cls = 0 ∧ e.code = 1 := by
  have enters : exec .safeEntry s = .next (enterSafe (s.at 61000) c) := by
    show execSafeEntry s = _
    rw [execSafeEntry, hd]
    exact congrArg Host.Outcome.next (if_pos hr)
  obtain ⟨mode, cause, changed, due, record⟩ := enterSafe_shows (s := s.at 61000) hc hs
  have rank : (enterSafe (s.at 61000) c).rank = 0 := by simp (decide := true) [State.rank, State.holds, mode]
  exact ⟨_, enters, mode, cause, rank, changed, due, record⟩

/-- Settles O21: loss and takeover, then the way to SAFE. -/
theorem safeAndTakeover : Obligations.SafeAndTakeover := by
  unfold Obligations.SafeAndTakeover
  exact ⟨⟨fun _ => partnerLossCheck_judges, fun _ => crownChange_takeover, fun _ => crownChange_standbyLost⟩,
    fun _ _ => safeReq_asks, fun _ _ => safeEntry_enters⟩

end Sys2Proof.Machine
end

section
/-! SUPPORT. Forwarded registers and their writes (R172): what a store makes of a value, the journal of the partner's commands,
the command that waits. -/

namespace Sys2Proof.Machine

open Sys2Proof

variable (s : State)

/-- A write that waits for its tick. -/
def queueWrite (w : FwdWrite) : State := s.withPair (fun p => { p with fwd := p.fwd ++ [w] })

/-- It waits behind the others; what is shown and sent stays. -/
theorem queueWrite_hearMsg (h : StraitHdr) (w : FwdWrite) :
    (queueWrite (hearMsg s h) w).pair.fwd = s.pair.fwd ++ [w] ∧
      (∀ type seq code, replyOut (queueWrite (hearMsg s h) w) type seq code = replyOut s type seq code) ∧
      (queueWrite (hearMsg s h) w).outbox = s.outbox ∧ (queueWrite (hearMsg s h) w).trained = s.trained ∧
      (queueWrite (hearMsg s h) w).regs = s.regs := by
  have fwd : (hearMsg s h).pair.fwd = s.pair.fwd := by rw [hearMsg_pair]
  have trained : (hearMsg s h).trained = s.trained := by simp
  obtain ⟨regs, -, -, -, outbox, -⟩ := hearMsg_fields s h
  refine ⟨congrArg (· ++ [w]) fwd, fun _ _ _ => ?_, outbox, trained, regs⟩
  exact (controlOut_congr (s := hearMsg s h) rfl rfl rfl rfl ..).trans (controlOut_hearMsg ..)

/-! ## The partner's host command (R210) -/

/-- A record shows in the journal and its registers alone. -/
theorem journalForwarded_leaves (origin : Option FwdOrigin) (code : Nat) (data : List Byte) :
    (journalForwarded s origin code data).pair = s.pair ∧ (journalForwarded s origin code data).outbox = s.outbox ∧
      (∀ a, a ∉ [A.JNL_NEXT_LO, A.JNL_NEXT_LO + 4, A.JNL_STATUS] →
        (journalForwarded s origin code data).reg a = s.reg a) ∧
      (origin = none → (journalForwarded s origin code data).regs = s.regs) := by
  unfold journalForwarded journalAppend
  cases origin
  case none => exact ⟨rfl, rfl, fun _ _ => rfl, fun _ => rfl⟩
  case some o =>
    dsimp only
    split
    · exact ⟨rfl, rfl, fun _ _ => rfl, nofun⟩
    · refine ⟨rfl, rfl, fun a ha => ?_, nofun⟩
      obtain ⟨low, high, status⟩ : a ≠ A.JNL_NEXT_LO ∧ a ≠ A.JNL_NEXT_LO + 4 ∧ a ≠ A.JNL_STATUS := by simpa using ha
      exact (State.reg_setFld_other _ _ status).trans (State.reg_setDword_other s _ low high)

/-! ## What a write stores (R5, R355) -/

/-- A value below the range is raised to it. -/
theorem clamp_of_le {lo hi v : Nat} (h : v ≤ hi) : clamp lo hi v = max lo v := by
  unfold clamp
  split
  · exact (Nat.max_eq_left (Nat.le_of_lt ‹_›)).symm
  · rw [if_neg (Nat.not_lt.mpr h), Nat.max_eq_right (Nat.not_lt.mp ‹_›)]

/-- A field of a word is below its width. -/
theorem getBits_lt_two_pow (w : Word) (hi lo : Nat) : getBits w hi lo < 2 ^ (hi + 1 - lo) :=
  Nat.mod_lt _ (Nat.two_pow_pos _)

/-- A field written below its range reads the raised value. -/
theorem getBits_setBits_clamp (w v : Word) {hi lo lowest highest : Nat} (h : hi < 32)
    (hw : highest + 1 = 2 ^ (hi + 1 - lo)) (hl : lowest ≤ highest) :
    getBits (setBits w hi lo (clamp lowest highest (getBits v hi lo))) hi lo = max lowest (getBits v hi lo) := by
  have fits : getBits v hi lo ≤ highest := Nat.le_of_lt_succ ((getBits_lt_two_pow v hi lo).trans_eq hw.symm)
  rw [getBits_setBits _ _ h, clamp_of_le fits, ← hw,
    Nat.mod_eq_of_lt (Nat.lt_succ_of_le (Nat.max_le.mpr ⟨hl, fits⟩))]

/-- CORE_CTRL and CHK_CTRL as the map has them: a limit of at least 1. -/
def limitDesc : RegDesc := ⟨0, 3, false, false, true, false, none, [⟨7, 0, .rw, 1, 255, false⟩]⟩

/-- HOOD_CTRL as the map has it: a limit of at least 1 and a lead of at least 1024. -/
def hoodCtrlDesc : RegDesc :=
  ⟨0, 526336, false, false, true, false, none, [⟨23, 16, .rw, 1, 255, false⟩, ⟨15, 0, .rw, 1024, 65535, false⟩]⟩

/-- TIME_TRIG_PERIOD as the map has it: one word for each trigger. -/
def trigPeriodDesc : RegDesc :=
  ⟨0x50, 0, false, false, true, false, some F.TIME_TRIG_SEL.TRIG, [⟨31, 0, .rw, 0, 4294967295, false⟩]⟩

/-- They are what the map lists. -/
theorem regAt_forwarded : regAt A.CORE_CTRL = some limitDesc ∧ regAt A.CHK_CTRL = some limitDesc ∧
    regAt A.HOOD_CTRL = some hoodCtrlDesc ∧ regAt A.TIME_TRIG_PERIOD = some trigPeriodDesc := ⟨rfl, rfl, rfl, rfl⟩

/-- What HOOD_CTRL stores. -/
def hoodCtrlWord (old v : Word) : Word :=
  setBits (setBits old 23 16 (clamp 1 255 (getBits v 23 16))) 15 0 (clamp 1024 65535 (getBits v 15 0))

theorem applyWrite_coreCtrl (v : Word) : applyWrite s A.CORE_CTRL 0 v =
    s.setReg A.CORE_CTRL (setBits (s.reg A.CORE_CTRL) 7 0 (clamp 1 255 (getBits v 7 0))) := rfl

theorem applyWrite_chkCtrl (v : Word) : applyWrite s A.CHK_CTRL 0 v =
    s.setReg A.CHK_CTRL (setBits (s.reg A.CHK_CTRL) 7 0 (clamp 1 255 (getBits v 7 0))) := rfl

theorem applyWrite_hoodCtrl (v : Word) :
    applyWrite s A.HOOD_CTRL 0 v = s.setReg A.HOOD_CTRL (hoodCtrlWord (s.reg A.HOOD_CTRL) v) := rfl

variable {s} in
/-- The period of a trigger that is not armed is stored as it is (R190). -/
theorem applyWrite_trigPeriod {i : Nat} (idle : s.fld (F.TIME_TRIG_CTRL.STATE.item i) ≠ 1) (v : Word) :
    applyWrite s A.TIME_TRIG_PERIOD i v = s.setReg (itemKey A.TIME_TRIG_PERIOD i) v := by
  have whole (old : Word) : setBits old 31 0 (clamp 0 4294967295 (getBits v 31 0)) = v := by
    apply BitVec.eq_of_getLsbD_eq
    intro i hi
    rw [clamp_of_le (Nat.le_of_lt_succ (getBits_lt_two_pow v 31 0)), Nat.zero_max, setBits_bit, getBits_bit]
    simp [hi]
  simp (decide := true) [applyWrite, regAt_forwarded, trigPeriodDesc, storeFields, writeField, idle, whole]

/-- What a forwarded register makes of a value. -/
def storedWord (key : Nat) (old v : Word) : Word :=
  if key = A.CORE_CTRL ∨ key = A.CHK_CTRL then setBits old 7 0 (clamp 1 255 (getBits v 7 0))
  else if key = A.HOOD_CTRL then hoodCtrlWord old v
  else v

/-- Values below a field's range are raised to it (R355). -/
theorem storedWord_limit {key : Nat} (hk : key = A.CORE_CTRL ∨ key = A.CHK_CTRL) (old v : Word) :
    getBits (storedWord key old v) 7 0 = max 1 (getBits v 7 0) := by
  rw [storedWord, if_pos hk]
  exact getBits_setBits_clamp _ _ (by decide) (by decide) (by decide)

theorem storedWord_hood (old v : Word) : getBits (storedWord A.HOOD_CTRL old v) 23 16 = max 1 (getBits v 23 16) ∧
    getBits (storedWord A.HOOD_CTRL old v) 15 0 = max 1024 (getBits v 15 0) := by
  rw [storedWord, if_neg (by decide), if_pos rfl, hoodCtrlWord]
  refine ⟨?_, getBits_setBits_clamp _ _ (by decide) (by decide) (by decide)⟩
  rw [getBits_setBits_other _ _ (.inr (by decide))]
  exact getBits_setBits_clamp _ _ (by decide) (by decide) (by decide)

/-- The period of a trigger stays as written. -/
theorem storedWord_period (i : Nat) (old v : Word) : storedWord (itemKey A.TIME_TRIG_PERIOD i) old v = v := by
  have other {a : Nat} (ha : a % 0x1000000 ≠ A.TIME_TRIG_PERIOD) : itemKey A.TIME_TRIG_PERIOD i ≠ a :=
    (ne_itemKey i (by decide) ha).symm
  rw [storedWord, if_neg (not_or.mpr ⟨other (by decide), other (by decide)⟩), if_neg (other (by decide))]

variable {s} in
/-- Where a forwarded register is written, it alone changes. -/
theorem applyWrite_forwarded {key i : Nat} (hk : key ∈ [A.CORE_CTRL, A.CHK_CTRL, A.HOOD_CTRL, itemKey A.TIME_TRIG_PERIOD i])
    (idle : s.fld (F.TIME_TRIG_CTRL.STATE.item i) ≠ 1) (v : Word) :
    applyWrite s (key % 0x1000000) (key / 0x1000000) v = s.setReg key (storedWord key (s.reg key) v) := by
  simp only [List.mem_cons, List.not_mem_nil, or_false] at hk
  obtain rfl | rfl | rfl | rfl := hk
  · exact applyWrite_coreCtrl s v
  · exact applyWrite_chkCtrl s v
  · exact applyWrite_hoodCtrl s v
  · have item : itemKey A.TIME_TRIG_PERIOD i / 0x1000000 = i := by
      show (i * 0x1000000 + 0x080050) / 0x1000000 = i
      omega
    rw [itemKey_mod i (by decide), item, applyWrite_trigPeriod idle, storedWord_period]

/-! ## The command that waits (R172, R208) -/

/-- Its answer shows in the registers of the session and the ports alone; the pair and memory stay. -/
theorem finishForward_leaves (slot : Option Nat) (code : Nat) : (finishForward s slot code).pair = s.pair ∧
    (finishForward s slot code).mem = s.mem ∧
    ∀ a, a % 0x1000000 ∉ [A.NET_PORT_TX, A.CMD_ERR, A.CMD_SESS_STATE] → (finishForward s slot code).reg a = s.reg a := by
  cases slot
  case none => exact ⟨rfl, rfl, fun _ _ => rfl⟩
  case some k =>
    obtain ⟨pair1, -, mem1⟩ := finishWaiting_pair s k 0x11 code []
    obtain ⟨-, -, reg1⟩ := finishWaiting_leaves s k 0x11 code []
    obtain ⟨pair2, -, mem2⟩ := finishWaiting_pair (finishWaiting s k 0x11 code []) k 0x32 code []
    obtain ⟨-, -, reg2⟩ := finishWaiting_leaves (finishWaiting s k 0x11 code []) k 0x32 code []
    exact ⟨pair2.trans pair1, mem2.trans mem1, fun a ha => (reg2 a ha).trans (reg1 a ha)⟩

variable {s} in
/-- A REG_WRITE or TASK_ENABLE that waits alone is answered once. -/
theorem finishForward_waits {k : Nat} {q : QCmd} (hk : k < 16) (hq : (s.sess k).queue = [q]) (hw : q.waiting = true)
    (ho : q.opcode ∈ [0x11, 0x32]) (code : Nat) :
    ((finishForward s (some k) code).sess k).queue = [] ∧
      (finishForward s (some k) code).outbox.length = s.outbox.length + 1 := by
  obtain ⟨queue, -⟩ := answered_finishCommand hk hq code []
  have once : finishForward s (some k) code = finishCommand s k code [] := by
    simp only [List.mem_cons, List.not_mem_nil, or_false] at ho
    obtain op | op := ho
    case inl =>
      have answered : finishWaiting (finishCommand s k code []) k 0x32 code [] = finishCommand s k code [] := by
        simp [finishWaiting, frontCmd, queue]
      exact (congrArg (finishWaiting · k 0x32 code []) (finishWaiting_of_waits ⟨hk, hq, op, hw⟩ code [])).trans answered
    case inr =>
      have other : finishWaiting s k 0x11 code [] = s := by simp [finishWaiting, frontCmd, hq, op]
      exact (congrArg (finishWaiting · k 0x32 code []) other).trans (finishWaiting_of_waits ⟨hk, hq, op, hw⟩ code [])
  rw [once]
  exact ⟨queue, by rw [finishCommand_front hk hq]; rfl⟩

end Sys2Proof.Machine
end

section
/-! Forwarded writes: the statement of O22. -/

namespace Sys2Proof.Machine

open Sys2Proof

variable {s : State} {h : StraitHdr}

/-! ## Arrival -/

/-- What is journalled and answered leaves the writes that wait (R172, R210). -/
theorem journalForwarded_answered (u : State) (x : Option FwdOrigin) (seq : Nat) :
    ((journalForwarded u x rcOk []).straitReply 5 seq rcOk).pair.fwd = u.pair.fwd ∧
      (u.trained = true → ((journalForwarded u x rcOk []).straitReply 5 seq rcOk).outbox =
        replyOut u 5 seq rcOk :: u.outbox) ∧
      (x = none → ((journalForwarded u x rcOk []).straitReply 5 seq rcOk).regs = u.regs) := by
  obtain ⟨pair, outbox, reg, regs⟩ := journalForwarded_leaves u x rcOk []
  refine ⟨?_, fun ht => ?_, fun hx => ?_⟩
  · obtain ⟨n, sent⟩ := State.straitOn_pair (journalForwarded u x rcOk []) 6 0x0A 0 [5, seq, rcOk] []
    rw [State.straitReply, State.strait, sent, pair]
  · have trained : (journalForwarded u x rcOk []).trained = true := (State.flag_of_reg (reg _ (by decide))).trans ht
    have tick : (journalForwarded u x rcOk []).tick = u.tick :=
      State.dword_of_reg (reg _ (by decide)) (reg _ (by decide))
    have same : replyOut (journalForwarded u x rcOk []) 5 seq rcOk = replyOut u 5 seq rcOk :=
      controlOut_congr (by rw [pair]) (by rw [pair]) (reg _ (by decide)) tick ..
    rw [outbox_straitReply trained, same, outbox]
  · rw [State.straitReply, State.strait, (State.straitOn_fields ..).1, regs hx]

/-- One for a later tick waits for it and is answered OK (R172). -/
theorem fwdWrite_waits (he : crownEpoch h.crown = s.epoch) {w : DWord} (hw : 0 < (w - s.tick).toInt) (block off item : Nat)
    (v : Word) (x : Option FwdOrigin) : ∃ t, exec (.fwdWrite h block off item v w x) s = .next t ∧
      t.pair.fwd = s.pair.fwd ++ [⟨itemKey (block * 65536 + off) item, v, w, false, h.seq, true, none⟩] ∧
      (s.trained = true → t.outbox = replyOut s 5 h.seq rcOk :: s.outbox) ∧ (x = none → t.regs = s.regs) := by
  have later : 0 < sdiff w (hearMsg s h).tick := by simpa [sdiff] using hw
  have takes : exec (.fwdWrite h block off item v w x) s = .next ((journalForwarded (queueWrite (hearMsg s h)
      ⟨itemKey (block * 65536 + off) item, v, w, false, h.seq, true, none⟩) x rcOk []).straitReply 5 h.seq rcOk) := by
    show execFwdWrite h block off item v w x s = _
    rw [execFwdWrite, onMsg_ownEpoch he, takeForward, if_pos later]
    rfl
  obtain ⟨fwd, out, regs⟩ := journalForwarded_answered (queueWrite (hearMsg s h)
    ⟨itemKey (block * 65536 + off) item, v, w, false, h.seq, true, none⟩) x h.seq
  obtain ⟨wait, reply, sent, trained, shown⟩ := queueWrite_hearMsg s h
    ⟨itemKey (block * 65536 + off) item, v, w, false, h.seq, true, none⟩
  exact ⟨_, takes, fwd.trans wait, fun ht => (out (trained.trans ht)).trans (by rw [reply, sent]),
    fun hx => (regs hx).trans shown⟩

/-- One that is due already waits not, and is answered TIMEOUT (R172). -/
theorem fwdWrite_late (he : crownEpoch h.crown = s.epoch) {w : DWord} (hw : (w - s.tick).toInt ≤ 0) (block off item : Nat)
    (v : Word) (x : Option FwdOrigin) : ∃ t, exec (.fwdWrite h block off item v w x) s = .next t ∧
      t.pair.fwd = s.pair.fwd ∧ t.regs = s.regs ∧
      (s.trained = true → t.outbox = replyOut s 5 h.seq rcTimeout :: s.outbox) := by
  have due : ¬0 < sdiff w (hearMsg s h).tick := by simpa [sdiff] using hw
  have answers : exec (.fwdWrite h block off item v w x) s = .next ((hearMsg s h).straitReply 5 h.seq rcTimeout) := by
    show execFwdWrite h block off item v w x s = _
    rw [execFwdWrite, onMsg_ownEpoch he, takeForward, if_neg due]
  refine ⟨_, answers, ?_, ?_, fun ht => ?_⟩
  · obtain ⟨n, sent⟩ := State.straitOn_pair (hearMsg s h) 6 0x0A 0 [5, h.seq, rcTimeout] []
    rw [State.straitReply, State.strait, sent, hearMsg_pair]
  · simp [State.straitReply, State.strait]
  · rw [outbox_straitReply (s := hearMsg s h) (by simp [ht]), replyOut, controlOut_hearMsg, replyOut]
    simp

/-! ## The start of a tick -/

/-- Where none is due nothing happens. -/
theorem forwardedWriteEffect_none (hw : ∀ w ∈ s.pair.fwd, w.tick ≠ s.tick) : exec .forwardedWriteEffect s = .next s := by
  have none : s.pair.fwd.filter (fun w => w.tick == s.tick) = [] :=
    List.filter_eq_nil_iff.mpr fun w hm => by simpa using hw w hm
  have all : s.pair.fwd.filter (fun w => w.tick != s.tick) = s.pair.fwd :=
    List.filter_eq_self.mpr fun w hm => by simpa using hw w hm
  show Host.Outcome.next (forwardedEffects s) = _
  rw [forwardedEffects, none]
  simp [State.withPair, all]

/-- The one that waits and is due takes effect, and waits no longer. -/
theorem forwardedWriteEffect_one {w : FwdWrite} (hf : s.pair.fwd = [w]) (ht : w.tick = s.tick) :
    exec .forwardedWriteEffect s = .next (forwardEffect (s.withPair (fun p => { p with fwd := [] })) w) := by
  have kept : s.withPair (fun p => { p with fwd := p.fwd.filter (fun w => w.tick != s.tick) }) =
      s.withPair (fun p => { p with fwd := [] }) := by
    simp [State.withPair, hf, ht]
  show Host.Outcome.next (forwardedEffects s) = _
  rw [forwardedEffects, kept, hf]
  cases ho : w.own == s.holds <;> simp [ht, ho, bne]

/-- A forwarded register stores its value, and the command that waited for a partner that stayed silent ends. -/
theorem forwardEffect_forwarded {w : FwdWrite} {i : Nat}
    (hk : w.key ∈ [A.CORE_CTRL, A.CHK_CTRL, A.HOOD_CTRL, itemKey A.TIME_TRIG_PERIOD i])
    (idle : s.fld (F.TIME_TRIG_CTRL.STATE.item i) ≠ 1) : forwardEffect s w =
      if w.own && !w.replied then finishForward (s.setReg w.key (storedWord w.key (s.reg w.key) w.value)) w.slot rcTimeout
      else s.setReg w.key (storedWord w.key (s.reg w.key) w.value) := by
  rw [forwardEffect, applyWrite_forwarded hk idle]

/-- Of a write that is due the value shows, whoever waits for it. -/
theorem forwardEffect_leaves {w : FwdWrite} {i : Nat}
    (hk : w.key ∈ [A.CORE_CTRL, A.CHK_CTRL, A.HOOD_CTRL, itemKey A.TIME_TRIG_PERIOD i])
    (idle : s.fld (F.TIME_TRIG_CTRL.STATE.item i) ≠ 1) : (forwardEffect s w).pair = s.pair ∧
      (forwardEffect s w).reg w.key = storedWord w.key (s.reg w.key) w.value ∧
      (forwardEffect s w).fld F.STRAIT_ERR.COMMIT_MISS = s.fld F.STRAIT_ERR.COMMIT_MISS ∧
      (w.slot = none → (forwardEffect s w).mem = s.mem ∧ ∀ a, a ≠ w.key → (forwardEffect s w).reg a = s.reg a) := by
  rw [forwardEffect_forwarded hk idle]
  have address : w.key % 0x1000000 ∈ [A.CORE_CTRL, A.CHK_CTRL, A.HOOD_CTRL, A.TIME_TRIG_PERIOD] := by
    simp only [List.mem_cons, List.not_mem_nil, or_false] at hk
    obtain key | key | key | key := hk <;> rw [key]
    · decide
    · decide
    · decide
    · rw [itemKey_mod i (by decide)]
      decide
  have apart : w.key % 0x1000000 ∉ [A.NET_PORT_TX, A.CMD_ERR, A.CMD_SESS_STATE] ∧ w.key % 0x1000000 ≠ A.STRAIT_ERR := by
    generalize w.key % 0x1000000 = a at address
    exact (by decide : ∀ a ∈ [A.CORE_CTRL, A.CHK_CTRL, A.HOOD_CTRL, A.TIME_TRIG_PERIOD],
      a ∉ [A.NET_PORT_TX, A.CMD_ERR, A.CMD_SESS_STATE] ∧ a ≠ A.STRAIT_ERR) a address
  obtain ⟨shown, errors⟩ := apart
  have miss : (s.setReg w.key (storedWord w.key (s.reg w.key) w.value)).fld F.STRAIT_ERR.COMMIT_MISS =
      s.fld F.STRAIT_ERR.COMMIT_MISS :=
    State.fld_setReg_other _ _ fun same => errors (same ▸ by decide)
  split
  · obtain ⟨pair, mem, reg⟩ :=
      finishForward_leaves (s.setReg w.key (storedWord w.key (s.reg w.key) w.value)) w.slot rcTimeout
    refine ⟨pair, (reg _ shown).trans (State.reg_setReg_same ..), (State.fld_of_reg (reg _ (by decide))).trans miss,
      fun none => ?_⟩
    rw [none]
    exact ⟨rfl, fun a ha => State.reg_setReg_other _ _ ha⟩
  · exact ⟨rfl, State.reg_setReg_same .., miss, fun _ => ⟨rfl, fun a ha => State.reg_setReg_other _ _ ha⟩⟩

/-- The command of an own write whose partner stayed silent is answered (R172). -/
theorem forwardEffect_answers {w : FwdWrite} {i : Nat}
    (hk : w.key ∈ [A.CORE_CTRL, A.CHK_CTRL, A.HOOD_CTRL, itemKey A.TIME_TRIG_PERIOD i])
    (idle : s.fld (F.TIME_TRIG_CTRL.STATE.item i) ≠ 1) {k : Nat} {q : QCmd} (h16 : k < 16) (own : w.own = true)
    (silent : w.replied = false) (slot : w.slot = some k) (hq : (s.sess k).queue = [q]) (hw : q.waiting = true)
    (ho : q.opcode ∈ [0x11, 0x32]) : ((forwardEffect s w).sess k).queue = [] ∧
      (forwardEffect s w).outbox.length = s.outbox.length + 1 := by
  rw [forwardEffect_forwarded hk idle, if_pos (by rw [own, silent]; rfl), slot]
  exact finishForward_waits (s := s.setReg w.key _) h16 hq hw ho rcTimeout

/-! ## The answer -/

/-- A REPLY to the one that waits. -/
theorem exec_reply_forward {w : FwdWrite} (he : crownEpoch h.crown = s.epoch) (hf : s.pair.fwd = [w]) (own : w.own = true)
    (awaited : w.replied = false) (slot : w.slot = none) (c : Nat) : exec (.reply h 5 w.seq c) s =
      .next ((hearMsg s h).withPair (fun p => { p with
        fwd := if c = rcOk then [{ w with replied := true, slot := none }] else [] })) := by
  have heard : (hearMsg s h).pair.fwd = [w] := by rw [hearMsg_pair, ← hf]
  show execReply h 5 w.seq c s = _
  rw [execReply, onMsg_ownEpoch he, if_pos rfl, replyForward, heard]
  simp [own, awaited, slot, finishForward, State.withPair, heard]

/-- Settles O22: arrival, the start of its tick, and the answer. -/
theorem forwardedWritesWait : Obligations.ForwardedWritesWait := by
  unfold Obligations.ForwardedWritesWait
  refine ⟨fun s h block off item v w x he => ⟨fun later => fwdWrite_waits he later block off item v x,
    fun due => fwdWrite_late he due block off item v x⟩, fun s => forwardedWriteEffect_none,
    fun s w i hf ht hk idle => ?_, fun s h w he hf own silent slot => ⟨?_, fun c hc => ?_⟩⟩
  · have idle' : (s.withPair (fun p => { p with fwd := [] })).fld (F.TIME_TRIG_CTRL.STATE.item i) ≠ 1 := idle
    obtain ⟨pair, word, miss, alone⟩ := forwardEffect_leaves hk idle'
    refine ⟨_, forwardedWriteEffect_one hf ht, congrArg Pair.fwd pair, fun key => ?_, fun key => ?_, fun key => ?_,
      fun key => ?_, miss, alone, fun k q h16 own silent slot hq hw ho =>
        forwardEffect_answers hk idle' h16 own silent slot hq hw ho⟩
    · rw [key] at word
      rw [State.fld, word]
      exact storedWord_limit (.inl rfl) ..
    · rw [key] at word
      rw [State.fld, word]
      exact storedWord_limit (.inr rfl) ..
    · rw [key] at word
      rw [State.fld, State.fld, word]
      exact storedWord_hood ..
    · rw [word, key, storedWord_period]
  · exact ⟨_, exec_reply_forward he hf own silent slot rcOk, by simp [State.withPair], by simp [State.withPair]⟩
  · exact ⟨_, exec_reply_forward he hf own silent slot c, if_neg hc, by simp [State.withPair]⟩

end Sys2Proof.Machine
end
